-- ==== Sys2Proof/Word.lean ====
section
/-! DEFINITION. Sys2Proof/Word.lean: the word types of the PM-8160 (R9): a register is 32 bits, a stored word is
64 bits, a packet sequence number and a QP number are 24 bits. -/

namespace Sys2Proof

/-- A byte. -/
abbrev Byte := BitVec 8

/-- A register of the register space: 32 bits (R576). -/
abbrev Word := BitVec 32

/-- A packet sequence number: 24 bits, compared modulo 2^24 (R102). -/
abbrev Psn := BitVec 24

end Sys2Proof
end

