-- ==== Sys2Proof/Syntax.lean ====
section
/-! DEFINITION. Sys2Proof/Syntax.lean: the commands that the PM-8160 takes from outside, one constructor for each row
of the table of operations and events, and the wire formats that they carry. -/

namespace Sys2Proof

/-- Place of a packet in its message (Table 03-4). -/
inductive Pos where
  | first | middle | last | only
  deriving DecidableEq, Repr

/-- A RoCEv2 frame as the port sees it: arrival port, PCP (none when untagged), the outcome of the checksums of
Table 03-5, addresses, length, and the fields of the BTH. -/
structure Pkt where
  port : Fin 8
  pcp : Option (Fin 8) := none
  ce : Bool := false
  fcsOk : Bool := true
  ipOk : Bool := true
  udpOk : Bool := true
  icrcOk : Bool := true
  ipv6 : Bool := false
  dst : Nat
  flen : Nat := 128
  tver : BitVec 4 := 0
  qpn : BitVec 24
  pkey : BitVec 16 := 0xFFFF
  psn : Psn := 0
  ackReq : Bool := true
  pad : BitVec 2 := 0
  deriving DecidableEq, Repr

/-- RDMA extended header: virtual address, R_Key, DMA length. -/
structure Reth where
  va : BitVec 64
  key : BitVec 32
  dlen : BitVec 32
  deriving DecidableEq, Repr

/-- What a request packet asks (Table 03-4). -/
inductive Req where
  | send (pos : Pos) (imm : Option (BitVec 32)) (data : List Byte)
  | write (pos : Pos) (reth : Option Reth) (imm : Option (BitVec 32)) (data : List Byte)
  | read (reth : Reth)
  | cas (va : BitVec 64) (key : BitVec 32) (swap cmp : BitVec 64)
  | faa (va : BitVec 64) (key : BitVec 32) (add : BitVec 64)
  | atomicWrite (reth : Reth) (data : List Byte)
  | flush (reth : Reth) (global persist rangeSel : Bool)
  | unsupported (opcode : BitVec 8)
  deriving DecidableEq, Repr

/-- A communication-manager datagram on QP1 (R96): its frame, the sender's address and DSCP, and the local and
remote communication IDs that it carries. -/
structure Cm where
  pkt : Pkt
  src : Nat
  dscp : BitVec 6 := 0
  localId : BitVec 32
  remoteId : BitVec 32 := 0
  deriving DecidableEq, Repr

/-- Fields of a REQ (R93, R97, R99). -/
structure ReqMsg where
  hostQpn : BitVec 24
  hostPsn : Psn
  pmtu : Nat
  respRes : Nat
  initDepth : Nat
  priv : List Byte
  deriving DecidableEq, Repr

/-- NAKs that end a device request (R103). -/
inductive NakKind where
  | invalidRequest | remoteAccess | remoteOperational
  deriving DecidableEq, Repr

/-- A stand record (R380). -/
structure StandRec where
  term : BitVec 32
  epoch : BitVec 64
  role : Fin 6
  complete : Bool := false
  deriving DecidableEq, Repr

/-- Header of a DATA frame (Table 11-3). -/
structure DataHdr where
  qpn : BitVec 24
  psn : Psn := 0
  home : Fin 2
  last : Bool := true
  mseq : BitVec 64
  key : BitVec 32 := 0
  epoch : BitVec 64 := 0
  deriving DecidableEq, Repr

/-- Fields of a QP entry of a DELTA (Table 11-6). -/
structure QpEntry where
  qpn : BitVec 24
  state : Fin 4
  epsn : Psn
  cpsn : Psn
  msn : BitVec 32
  spsn : Psn
  oldest : Psn
  resident : Bool
  port : Fin 8
  deriving DecidableEq, Repr

/-- Kind of a replay-filter range (R106). -/
inductive MsgKind where
  | write | read | atomic | flush
  deriving DecidableEq, Repr

/-- A replay-filter range (R106). -/
structure PsnRange where
  first : Psn
  last : Psn
  kind : MsgKind
  msn : Nat
  deriving DecidableEq, Repr

/-- Attributes of a region as a DELTA or a STATE image carries them (Table 04-1). -/
structure RegionImg where
  base : Nat
  len : Nat
  pd : Nat
  volatile : Bool
  dflush : Bool
  mirror : Bool
  failqp : Bool
  rights : BitVec 5
  keyDomain : Nat
  deriving DecidableEq, Repr

/-- An entry of a DELTA (Table 11-6). -/
inductive DeltaEntry where
  | qp (e : QpEntry)
  | filter (qpn : BitVec 24) (ranges : List PsnRange)
  | key (index tag : Nat) (region off len : Nat) (rights : BitVec 5) (valid : Bool)
  | region (destroyed : Bool) (r : RegionImg)
  | dirty (units : List Nat)
  | config (epoch : Nat) (pairs : List (Nat × BitVec 32))
  | disarm (bases : List Nat)
  | queue (qpn : BitVec 24) (queue : Fin 64) (state : Fin 4) (sqTail cursor : Nat)
  deriving DecidableEq, Repr

/-- A capsule slot: connection, queue, SQ index. -/
structure CapRef where
  qpn : Nat
  queue : Nat
  slot : Nat
  deriving DecidableEq, Repr


/-- Acknowledgements, credits and replay requests that ride in every frame of the twin link (Table 11-1). -/
structure Ely where
  ackBulk : Nat := 0
  ackCtl : Nat := 0
  credBulk : Nat := 0
  credCtl : Nat := 0
  replayBulk : Bool := false
  replayCtl : Bool := false
  deriving DecidableEq, Repr

/-- Payload of a HEARTBEAT (Table 11-7); times in ns. -/
structure HbMsg where
  time : BitVec 64
  echo : BitVec 64
  held : BitVec 64
  epoch0 : BitVec 32 := 0
  epoch1 : BitVec 32 := 0
  role0 : Fin 4
  role1 : Fin 4
  sideA : Bool
  lease0 : Bool := false
  lease1 : Bool := false
  pfw : Bool := false
  /-- Levels: OUT driven and IN sensed released, for INTLKA and INTLKB. -/
  outA : Bool := false
  relA : Bool := true
  outB : Bool := false
  relB : Bool := true
  pulseA : Bool := false
  pulseB : Bool := false
  count : BitVec 32 := 0
  deriving DecidableEq, Repr

/-- Opening fields of a weight stream, or one reader's layer (KIND 9 of Table 11-4). -/
inductive StreamRec where
  | opened (id : Nat) (pd tenant region base layerLen layers window : Nat) (readers : Nat)
  | advance (id reader layer : Nat)
  | closed (id : Nat)
  deriving DecidableEq, Repr

/-- An item of a STATE image (R378). -/
inductive StateEntry where
  | delta (e : DeltaEntry)
  | atomics (qpn : BitVec 24) (saved : List (Psn × BitVec 64))
  | bind (qpn : BitVec 24) (ringKey : BitVec 32) (entries : List Byte)
  | place (granule : Nat) (placement : Fin 4)
  | stream (r : StreamRec)
  | pd (number : Nat) (en admin : Bool) (tenant cred : Nat)
  deriving DecidableEq, Repr

/-- What the start-up of a flash channel finds (R312 to R315, R318): rate code of Table 10-13, dies in service, bits per
cell, log2 of the block size in bytes less 20, blocks of each die, blocks on the factory bad-block lists as (die, block),
rated cycles of the carrier (none when its identity memory is unreadable), whether a die was excluded under R313. -/
structure FlashGeom where
  toggle : Bool := false
  rate : Fin 4 := 3
  dies : Fin 129
  cell : Fin 16 := 3
  blockLog2 : Fin 32
  dieBlocks : Nat
  bad : List (Nat × Nat) := []
  rated : Option (BitVec 20) := none
  unsupported : Bool := false
  deriving DecidableEq, Repr

/-- REGION_CREATE fields as a CREATE message carries them (Table 12-1). -/
structure ColCreate where
  pd : Nat
  volatile : Bool
  dflush : Bool
  mirror : Bool
  failqp : Bool
  rights : BitVec 5
  keyDomain : Nat
  len : Nat
  deriving DecidableEq, Repr

/-- What a HEALTH message of a member reports (Table 12-1). -/
structure ColHealth where
  paired0 : Bool
  paired1 : Bool
  freePersistent : Nat
  freeVolatile : Nat
  freeKeys : Nat
  deriving DecidableEq, Repr

/-- Header of a colony message (R417): whether its CRC-32 is right, request number, sender's path and depth, worker
number (none for 0xFFFF_FFFF). -/
structure ColHdr where
  crcOk : Bool := true
  txn : Nat
  path : BitVec 48
  depth : Fin 9
  worker : Option (Fin 1024) := none
  deriving DecidableEq, Repr

/-- A JOIN (Table 12-1). -/
structure ColJoin where
  cred : BitVec 64
  worker : Bool
  manager : Bool
  capacity : Nat
  svc0 : BitVec 128
  svc1 : BitVec 128
  deriving DecidableEq, Repr

/-- A colony message as the device sends it (Table 12-1). -/
inductive ColMsg where
  | join (j : ColJoin)
  | joinAck (accepted : Bool) (index path depth worker : Nat)
  | health (m : ColHealth)
  | create (r : ColCreate)
  | createAck (made : Option (BitVec 32 × Nat × BitVec 128))
  | blockReq (n : Nat)
  | blockGrant (blocks : List Nat)
  | keyReport (keys : List (Nat × Bool)) (destroyed : List Nat)
  | pdSync (entries : List (Nat × Bool × Bool × Nat × Nat))
  | ack
  deriving DecidableEq, Repr

/-- Path of an access to the register space (Table 15-6, R579). -/
inductive Path where
  | firmware
  | twoWire
  | capsule (qpn : BitVec 24)
  deriving DecidableEq, Repr

/-- The 112 power domains (Table 02-6). -/
inductive Domain where
  | alwaysOn
  | serdesQuad (q : Fin 4)
  | port (p : Fin 8)
  | twinQuad (q : Fin 2)
  | colonyQuad
  | slice (k : Fin 8)
  | contextBank (b : Fin 2)
  | txnTable
  | lcBank (b : Fin 16)
  | dram (c : Fin 16)
  | flash (c : Fin 32)
  | cluster (k : Fin 12)
  | cipher
  | sealing
  | codeFlash (b : Fin 4)
  | parison
  | lehr
  | debug
  deriving DecidableEq, Repr

/-- What the SPD of a populated slot says (R258, R259, R261); spdOk is false when it cannot be read or fails its CRC. -/
structure Dimm where
  chan : Fin 16
  slot : Fin 2
  spdOk : Bool := true
  rdimm : Bool := true
  /-- Bits of a subchannel and of a device. -/
  subWidth : Nat := 40
  devWidth : Nat := 4
  /-- Package ranks, dies of each 3DS stack. -/
  ranks : Nat := 2
  stack : Nat := 1
  gib : Nat := 64
  /-- Highest data rate in MT/s. -/
  rate : Nat := 6400
  deriving DecidableEq, Repr
/-- Place of a line in DRAM: channel, subchannel, rank, bank of the subchannel (bank group in the low three bits), row,
and line address [37:6] within the subchannel (Table 08-3, Table 09-5). -/
structure DramAddr where
  chan : Fin 16
  sub : Fin 2
  rank : Fin 16 := 0
  bank : Nat := 0
  row : Nat := 0
  line : BitVec 32
  deriving DecidableEq, Repr

/-- The commands of the block, one constructor for each row of the table. -/
inductive Instr where
  -- host requests and responses on RC connections (chapters 1, 3)
  | send (p : Pkt) (pos : Pos) (imm : Option (BitVec 32)) (data : List Byte)
  | rdmaWrite (p : Pkt) (pos : Pos) (reth : Option Reth) (data : List Byte)
  | rdmaWriteWithImmediate (p : Pkt) (pos : Pos) (reth : Option Reth) (imm : BitVec 32) (data : List Byte)
  | rdmaReadRequest (p : Pkt) (reth : Reth)
  | compareAndSwap (p : Pkt) (va : BitVec 64) (key : BitVec 32) (swap cmp : BitVec 64)
  | fetchAndAdd (p : Pkt) (va : BitVec 64) (key : BitVec 32) (add : BitVec 64)
  | atomicWrite (p : Pkt) (reth : Reth) (data : List Byte)
  | rdmaFlush (p : Pkt) (reth : Reth) (global persist rangeSel : Bool)
  | acknowledge (p : Pkt)
  | sequenceNakReceived (p : Pkt)
  | rnrNakReceived (p : Pkt)
  | errorNakReceived (p : Pkt) (kind : NakKind)
  | rdmaReadResponse (p : Pkt) (pos : Pos) (data : List Byte)
  | cnp (p : Pkt)
  | unsupportedRdmaOpcode (p : Pkt) (opcode : BitVec 8)
  | req (c : Cm) (m : ReqMsg)
  | rtu (c : Cm)
  | rej (c : Cm)
  | mra (c : Cm)
  | dreq (c : Cm)
  | drep (c : Cm)
  | lap (c : Cm)
  | apr (c : Cm)
  | sidrReq (c : Cm)
  -- other frames and port events (chapter 3)
  | pfcFrame (port : Fin 8) (enable quantaNonZero : BitVec 8)
  | lldpFrame (port : Fin 8)
  | arpRequest (port : Fin 8) (target : BitVec 32)
  | neighbourSolicitation (port : Fin 8) (target : BitVec 128)
  | echoRequest (port : Fin 8) (ipv6 : Bool) (dst : Nat)
  | otherFrame (port : Fin 8) (fcsOk : Bool)
  | listenFrame (port : Fin 8) (flen : Nat)
  | portFecLock (port : Fin 8)
  | portLinkLoss (port : Fin 8)
  | linkTrainingTimeout (port : Fin 8)
  | pfcXoffRepeat (port : Fin 8) (cls : Fin 8)
  | pauseStormTimeout (port : Fin 8) (cls : Fin 8)
  | ackCoalesceTimeout (qpn : BitVec 24)
  | localAckTimeout (qpn : BitVec 24)
  | errorHoldExpiry (qpn : BitVec 24)
  | rpTimerExpiry (qpn : BitVec 24)
  | contextFetchDone (qpn : BitVec 24)
  | contextSpillDone (qpn : BitVec 24)
  | contextVictimSpill (qpn : BitVec 24)
  | keyCacheFill (key : BitVec 32)
  | regionTransitionResolved (region : Nat)
  | exceptionNakBuilt (qpn : BitVec 24)
  | exceptionQueueRoom (slice : Fin 8)
  | slotFreed (slice : Fin 8)
  | steeringChange (index : Fin 8) (slice : Fin 8)
  | clusterFault (cluster : Fin 12)
  | dirtyBudgetRoom (home : Fin 2)
  | t2FillDone (unit : Nat) (codeword : Fin 4) (decoded : Bool)
  | t2Deadline (txn : Nat)
  | confirm (home : Fin 2) (entries : List (BitVec 48 × BitVec 16))
  | healReq (home : Fin 2) (unit number : Nat)
  | healData (home : Fin 2) (unit number : Nat) (piece : Fin 4) (data : List Byte) (poison : BitVec 64)
  | healFail (home : Fin 2) (unit number : Nat)
  | lehrDestageStart
  | destageProgramVerified (unit : Nat)
  | floatGranuleFreed (granule : Nat)
  | transientFrameCleaned (unit : Nat)
  | parisonLayerLoaded (stream : Nat) (layer : Nat) (healed : Bool)
  | pinLoadDone (c : CapRef)
  | streamStallTimeout (stream : Nat)
  -- capsule queues (chapter 5)
  | fetchGrant (home : Fin 2)
  | sqDoorbell (p : Pkt) (key : BitVec 32) (offset : BitVec 64) (value : BitVec 64)
  | resumeDoorbell (p : Pkt) (key : BitVec 32) (offset : BitVec 64) (sqTail : BitVec 16)
  | resumeReplayDoorbell (p : Pkt) (key : BitVec 32) (offset : BitVec 64) (sqTail : BitVec 16)
  | cqDoorbell (p : Pkt) (key : BitVec 32) (offset : BitVec 64) (value : BitVec 64)
  | nqDoorbell (p : Pkt) (key : BitVec 32) (offset : BitVec 64) (value : BitVec 64)
  | capsuleRead (c : CapRef)
  | capsuleWrite (c : CapRef)
  | capsuleFlush (c : CapRef)
  | capsuleFlushDeep (c : CapRef)
  | zero (c : CapRef)
  | trim (c : CapRef)
  | copy (c : CapRef)
  | identify (c : CapRef)
  | regionCreate (c : CapRef)
  | regionModify (c : CapRef)
  | regionDestroy (c : CapRef)
  | keyGrant (c : CapRef)
  | keyGrantExisting (c : CapRef)
  | keyRevoke (c : CapRef)
  | objectPlace (c : CapRef)
  | streamOpen (c : CapRef)
  | streamAdvance (c : CapRef)
  | streamClose (c : CapRef)
  | logRead (c : CapRef)
  | selftestShort (c : CapRef)
  | selftestExtended (c : CapRef)
  | selftestAbort (c : CapRef)
  | selftestResume (home : Fin 2) (pd : BitVec 16)
  | selftestEnd (home : Fin 2) (pd : BitVec 16) (result : Fin 5) (failKey : BitVec 32) (failOffset : BitVec 64) (units healed notHealed : BitVec 32)
  | powerStateReport (c : CapRef)
  | powerStateP0 (c : CapRef)
  | powerStateP1 (c : CapRef)
  | powerStateP2 (c : CapRef)
  | powerStateP3 (c : CapRef)
  | qresumeDiscard (c : CapRef)
  | qresumeReplay (c : CapRef)
  | configStage (c : CapRef)
  | configCommit (c : CapRef)
  | configDiscard (c : CapRef)
  | fwStage (c : CapRef)
  | fwActivate (c : CapRef)
  | regRead (c : CapRef)
  | regWrite (c : CapRef)
  | unknownCapsuleOpcode (c : CapRef)
  | p1IdleExpiry
  | p2IdleExpiry
  | fenceComplete (fence : Nat)
  | fenceTimeout (fence : Nat)
  -- line cache (chapter 7)
  | lcEnable
  | lcDisable
  | lcDisableDone
  | lcLockSet (way : Fin 8)
  | lcLockSetDone
  | lcLockClear (way : Fin 8)
  | invAll
  | invRange
  | cleanRange
  | cleanInvRange
  | zeroLine
  | lockFill (wayMask : BitVec 8)
  | cleanAll
  | cleanInvAll
  | lcMopReservedOp (op : BitVec 4)
  | lcMopDone
  | lcFillDone (line : Nat)
  | fillBufferFreed (bank : Fin 16)
  | lcBankInvalidateDone (bank : Fin 16)
  -- DDR5 channels (chapter 8)
  | dramTrainingDone (chan : Fin 16) (ok drfm : Bool)
  | warmRestoreDone (failed : BitVec 16)
  | dmcRequestEnqueued (a : DramAddr) (write : Bool)
  | dmcQueueEntryFreed (chan : Fin 16) (sub : Fin 2) (write : Bool)
  | dramReadDone (a : DramAddr) (line : Nat) (first again : List (BitVec 80))
  | dramWriteRetired (a : DramAddr)
  | rowIdleClose (chan : Fin 16) (sub : Fin 2) (bank : Nat)
  | dmcAgeMax (chan : Fin 16) (sub : Fin 2) (seq : Nat)
  | rankPowerDown (chan : Fin 16) (rank : Fin 16)
  | refreshDue (chan : Fin 16) (rank : Fin 16)
  | refreshCatchup (chan : Fin 16) (rank : Fin 16)
  | mr4Poll (chan : Fin 16) (hot : BitVec 16)
  | caparAlert (chan : Fin 16) (sub : Fin 2)
  | caparAlertCleared (chan : Fin 16) (sub : Fin 2) (window : List Nat) (ranks : List (Fin 16))
  | dmcRetire (chan : Fin 16)
  | dmcChannelEmptied (chan : Fin 16)
  -- check codes (chapter 9)
  | scrubStart (target : Fin 4) (writeback : Bool)
  | scrubAbort (at_ : Nat) (errs : List (Nat × BitVec 80))
  | scrubPassDone (errs : List (Nat × BitVec 80))
  | patrolPassDone (home : Fin 2) (errs : List (Nat × BitVec 80))
  | remapLoad (chan : Fin 16) (entry : Fin 16) (sub : Fin 2) (line : BitVec 32) (word : Fin 8)
  | remapClear (chan : Fin 16) (entry : Fin 16)
  | clogRead
  -- flash tier (chapter 10)
  | flashChannelInitDone (chan : Fin 32) (ok : Bool) (g : FlashGeom)
  | stripeFillTimeout (position : Nat)
  | nandProgramDone (block page : Nat) (ok : Bool)
  | nandEraseDone (block : Nat) (ok : Bool)
  | nandReadDone (unit : Nat) (codeword : Fin 4) (step : Fin 8) (decoded : Bool)
  | sbVerifyDone (sb : Nat) (relocated : List Nat)
  | checkpointStart
  | checkpointDone
  | gcStart
  | dieTempPoll (temps : List (Fin 32 × Fin 128 × Int))
  | fchRetire (chan : Fin 32)
  | mountDone (torn : Nat) (durationMs : Nat)
  | keysMissingTimer
  -- twin pair (chapter 11)
  | intlkInReleased (home : Fin 2)
  | intlkInAsserted (home : Fin 2)
  | tokenClaimSample (home : Fin 2) (released : Bool)
  | claimBackoffExpiry (home : Fin 2)
  | releaseConfirmed (home : Fin 2)
  | heartbeatTimer
  | heartbeatSilence
  | elytraLaneLock (lane : Fin 8)
  | elytraLaneDown (lane : Fin 8)
  | elytraLinkSilence
  | seqGapTimeout (bulk : Bool)
  | ackCarrierTimeout
  | dataWrite (x : Ely) (d : DataHdr) (addr msn : BitVec 64) (data : List Byte)
  | dataZero (x : Ely) (d : DataHdr) (addr len : BitVec 64)
  | dataTrim (x : Ely) (d : DataHdr) (addr len : BitVec 64)
  | dataAtomic (x : Ely) (d : DataHdr) (addr original new : BitVec 64)
  | dataArm (x : Ely) (d : DataHdr) (region : BitVec 64)
  | dataDoorbell (x : Ely) (d : DataHdr) (queue : Fin 64) (slot : Fin 32) (value : BitVec 64)
  | dataFetch (x : Ely) (d : DataHdr) (queue : Fin 64) (first count : BitVec 16)
  | dataPost (x : Ely) (d : DataHdr) (queue : Fin 64) (nq : Bool) (index : BitVec 16) (psn : Psn) (entry : List Byte) (slot : BitVec 16)
  | dataPlace (x : Ely) (d : DataHdr) (granule count : Nat) (placement : Fin 4)
  | dataStream (x : Ely) (d : DataHdr) (r : StreamRec)
  | dataOrder (x : Ely) (d : DataHdr)
  | dataBind (x : Ely) (d : DataHdr) (ringKey : BitVec 32) (entries : List Byte)
  | delta (x : Ely) (home : Fin 2) (epoch : BitVec 64) (term : BitVec 32) (final lockstep : Bool) (lastMseq digest : BitVec 64) (entries : List DeltaEntry)
  | heartbeat (x : Ely) (m : HbMsg)
  | leaseRequest (x : Ely) (home : Fin 2) (number : BitVec 32)
  | leaseGrant (x : Ely) (home : Fin 2) (number : BitVec 32) (expiry : BitVec 64)
  | leaseRelease (x : Ely) (home : Fin 2) (number : BitVec 32)
  | lockstepIngress (x : Ely) (home : Fin 2) (inseq : Nat) (slice : Fin 8) (p : Pkt) (req : Req)
  | health (x : Ely) (word : BitVec 32) (compared : BitVec 64) (budget mirrorFree : BitVec 32)
  | bid (x : Ely) (rec0 rec1 : StandRec)
  | state (x : Ely) (home : Fin 2) (table : Fin 6) (last : Bool) (entries : List StateEntry)
  | piece (x : Ely) (home : Fin 2) (addr : Nat) (data : List Byte) (poison : BitVec 64)
  | resyncDone (x : Ely) (home : Fin 2) (pieces : Nat)
  | epochBoundary (home : Fin 2)
  | healthTimer
  | pairWaitExpiry
  | interlockTestPulse (home : Fin 2) (followed : Bool)
  | eyeMonitorTimer (margins : List (Fin 8 × Nat))
  | t2SampleTimer (bad : List Nat)
  | elytraFrameCrcFail (bulk : Bool)
  | bistTimer (cluster : Fin 12)
  | bistDone (cluster : Fin 12) (passed : Bool)
  | leaseRequestTimer
  | leaseEnd (home : Fin 2)
  | leaseGuardExpiry (home : Fin 2)
  | arpRepeatTimer (home : Fin 2)
  | handoverDrained (home : Fin 2)
  | failbackDelayExpiry (home : Fin 2)
  | handover (home : Fin 2)
  | forceSolo (home : Fin 2)
  | acceptResync (home : Fin 2)
  | retryAdmit (home : Fin 2)
  | verify (home : Fin 2)
  -- colony (chapter 12)
  | join (x : ColHdr) (j : ColJoin)
  | joinAck (x : ColHdr) (accepted : Bool) (index : Fin 64) (path : BitVec 48) (depth : Fin 9)
  | colonyHealth (x : ColHdr) (m : ColHealth)
  | create (x : ColHdr) (r : ColCreate)
  | createAck (x : ColHdr) (made : Option (BitVec 32 × Fin 2 × BitVec 128))
  | blockReq (x : ColHdr) (n : Nat)
  | blockGrant (x : ColHdr) (blocks : List (Fin 1024))
  | keyReport (x : ColHdr) (keys : List (Nat × Bool)) (destroyed : List Nat)
  | pdSync (x : ColHdr) (entries : List (Fin 65536 × Bool × Bool × Fin 256 × BitVec 64))
  | colonyAck (x : ColHdr)
  | colonyResendTimeout (txn : Nat)
  | colonyHealthTimer
  | memberLostTimeout (index : Fin 64)
  -- Rails, power failure, hold-up (chapter 13)
  | vaonApplied (sideA : Bool) (madr : BitVec 3)
  | vaonLoss
  | xaonSettled
  | phaseBegin
  | railTqualMet (rail : Fin 24)
  | railPhaseTimeout
  | railpgLow (rail : Fin 24)
  | vsenseOutOfWindow (input : Fin 8) (code : BitVec 12)
  | pfwNAsserted
  | quenchStepDone
  | quenchCutoff
  | railOffDelay
  | shutdownDeadline
  | pfwRestartTimer
  | powerOn
  | orderlyOff
  | huTest
  | huTestPeriod
  | huBudgetFits (v0 : Nat)
  | huSampleTimer (mv : Nat)
  | huRecovered (mv : Nat)
  | enowTimer (mv : Nat)
  | huVoltageStable (mv : Nat)
  | huWaitLimit
  | pwrbtnShort
  | pwrbtnLong
  | mrNAsserted
  | mrNReleased (sideA : Bool)
  | wakeN
  | qualificationRestart (rail : Fin 24)
  | pgGlitch (rail : Fin 24)
  -- Governor (chapter 14)
  | governorPeriod (pest : Nat) (loads : List (Fin 16 × Nat))
  | thermalSample (temps : List Int)
  | tripCooldown
  | govP0
  | govP1
  | govP2
  | govP3
  | pstateEntryDone
  | pstateExitDone
  | govWakeTimer
  | clockGateIdle (d : Domain)
  | powerGateIdle (d : Domain)
  | domainWake (d : Domain)
  | domainWakeDone (d : Domain)
  -- Sealing engine (chapter 15)
  | sealLockClaim (path : Path)
  | sealLockRelease (path : Path)
  | sealLockTimeout
  | unseal (path : Path)
  | loadPlain (path : Path)
  | sealClear (path : Path)
  | gcmEnc (path : Path) (slot : BitVec 16)
  | gcmDec (path : Path) (slot : BitVec 16)
  | kwWrap (path : Path) (slot : BitVec 16)
  | kwUnwrap (path : Path) (slot : BitVec 16)
  | kwpWrap (path : Path) (slot : BitVec 16)
  | kwpUnwrap (path : Path) (slot : BitVec 16)
  | cmacGen (path : Path) (slot : BitVec 16)
  | cmacVer (path : Path) (slot : BitVec 16)
  | provisionRoot (path : Path)
  | sealOpDone
  -- Code flash and start-up (chapter 16)
  | cflProgram (path : Path)
  | cflErase (path : Path)
  | cflSuspend (path : Path)
  | cflResume (path : Path)
  | cflRead (path : Path) (ecc : Fin 3)
  | cflProgramDone (ok : Bool)
  | cflEraseDone
  | cflEraseIdleResume
  | cflBrownout (low : Bool)
  | identitySurveyDone (dimms : List Dimm) (carriers : List (Fin 16 × Option (List Byte))) (module_ cable : Option (List Byte))
  | imageConfirmTimer
  | supervisorFatalFault (fetch : Option (BitVec 25))
  -- Management bus (chapter 17)
  | twoWireWrite (ptr : BitVec 16) (data : List Byte) (pec : Option Byte)
  | setPointer (ptr : BitVec 16) (pec : Option Byte)
  | twoWireRead (ptr : BitVec 16) (len : Nat)
  | currentRead (len : Nat)
  | alertResponse (others : List (BitVec 3)) (len : Nat)
  | sclLowTimeout
  | identityGo
  | identityTransactionDone (result : Fin 8) (data : List Byte)
  | segmentRailCycle (cleared : Bool)
  | sdaLowWhileIdle (segment : Fin 4) (cleared : Bool)
  -- Amber, debug, freeze (chapter 18)
  | amberFlushTimer
  | amberFlushAge
  | amberFlush
  | amberFind
  | amberRecordProgrammed (ok : Bool)
  | hoursStoreTimer
  | dbgChallenge
  | dbgUnlock (path : Path)
  | dbgClear (path : Path)
  | dbgProvision (path : Path)
  | amberClearDone
  | freezeNAsserted
  | dbgMemoryRead
  | tapMemread (store : BitVec 3) (addr : BitVec 32)
  | tapRegread (addr : BitVec 24)
  | trstN
  -- Commit, reset, register writes (chapters 19, 20)
  | rollDrained
  | glbCommit (path : Path)
  | glbDiscard (path : Path)
  | warmResetRequest
  | warmResetHandover
  | registerWrite (path : Path) (addr : BitVec 24) (value : BitVec 32)
  | flashDieStopsAnswering (chan : Fin 32) (die : Option (Fin 128))
  deriving DecidableEq, Repr

end Sys2Proof
end

