-- ==== Sys2Proof/Config.lean ====
section
/-! DEFINITION. Sys2Proof/Config.lean: what an implementation fixes and the free values: constants with no body, so
that no proof can see what they are. A free value that can differ from use to use is applied to the model's counter of
values drawn (log entry 3). -/

namespace Sys2Proof.Config

/-- ICRC of a packet that the block sends, as the response sum of R371 adds it: the spec leaves it to the IBTA. -/
opaque icrcOf : Nat → BitVec 64

/-- A 128-bit draw of the random bit generator (R480, R551). -/
opaque random128 : Nat → BitVec 128

/-- Whether a refresh draw marks a row for neighbour refresh (R277). -/
opaque rowDraw : Nat → Bool

/-- Unit serial number: 16 ASCII bytes in four words (Table 20-3, GLB_SERIAL). -/
opaque serialWord : Nat → BitVec 32

/-- Whether the partner's T1 has room for so many more granules: the spec has the room checked on both chips and carries
the partner's answer in no frame (R200, R204). -/
opaque partnerRoom : Nat → Bool

/-- Whether the partner's slot of a key domain is LOADED: the spec has it checked on both chips and carries the
partner's answer in no frame (R478). -/
opaque partnerKey : Nat → Bool

/-- Partner's serial number as log page 0x04 shows it: no frame of the link carries it (R401, Table 11-11). -/
opaque partnerSerial : Nat → BitVec 32

/-- Failing key and offset, units checked, healed and not healed of a self-test that is still running or was cut short
(Table 05-13): the spec gives a test no pace. -/
opaque testProgress : Nat → BitVec 192

/-- Map units of the data area that the parity pool and the metadata stream take: the spec gives the subtraction and not
the sizes (R343). -/
opaque t2Overhead : Nat

/-- Words of the threshold tables that the carriers' identity memories hold: the spec leaves the offsets to the NAND
(R314, R355, Table 10-6). -/
opaque thresholdWord : Nat → BitVec 32

/-- T1 granules that the firmware reserve takes, both copies: the spec gives its doubling and not every part of its size
(R265, Table 06-2). -/
opaque reserveGranules : Nat

/-- DRAM channel that holds a line of the firmware reserve (R265). -/
opaque reserveChan : Nat → Nat

/-- Line address within the subchannel of a line of T1: the spec gives the fields and no bit positions of rank, bank and
row (Table 08-3). -/
opaque dramLine : Nat → BitVec 32

/-- Activations of one bank after which the DRAM's mode registers require refresh management (R278, JESD79-5). -/
opaque rfmLimit : Nat

/-- Bytes of a QP context in the context SRAM, of which a scrub reads each word (R298). -/
opaque contextBytes : Nat

/-- Granules of the region that holds a manager's directory, less one: the spec gives no size (R409). -/
opaque directoryGranules : Nat

/-- A raw 80-bit word of a store read under FREEZE whose layout the spec does not give: T0, the context SRAM, the
transaction table, the retained SRAM (R557, Table 18-4). -/
opaque rawWord : Nat → BitVec 80

/-- Eight bytes of a code-flash word that a failed program or a stopped erase left undefined (R495, R500), and of the
configuration area, whose layout the spec does not give (R507). -/
opaque flashWord : Nat → BitVec 64

/-- The image in a slot carries Wyndawald's signature: the public key is in the boot ROM and not in the spec (R505). -/
opaque imageSigned : List Byte → Bool

/-- The known-answer tests of core release pass (R482). -/
opaque katPasses : Nat → Bool

/-- A quotient of the hold-up arithmetic whose divisor is 0: the spec states no result (R437, R438). -/
opaque holdupByZero : Nat → Nat

/-- TJ while no junction sensor is valid: the spec states no value (R458). -/
opaque noTj : Nat → Int

end Sys2Proof.Config
end

