-- ==== Sys2Proof/Machine/RegMap.lean ====
section
/-! DEFINITION. Sys2Proof/Machine/RegMap.lean: the register space (chapter 20, Table 20-1) and the register tables
of every block, one row a register: address, how many there are and how far apart, reset value, and the bit masks of
each access code of Table 00-3 (R11, R577). A bit in no mask is read-only or reserved. The ranges of a row are the
fields that R577 limits when they are written. PWS_PHASE(4) to PWS_PHASE(6) are given the addresses of PWS_SHUT,
PWS_BTN and PWS_CMD by Table 13-5; the model lets the latter three answer there and keeps the former outside the
24-bit space (log entry 4, DESIGN CHOICE). -/

namespace Sys2Proof.Machine

/-- One row of a register table (Tables 03-11 to 20-3). -/
structure RegDef where
  name : String
  addr : Nat
  count : Nat := 1
  stride : Nat := 4
  reset : Nat := 0
  rw : Nat := 0
  rwl : Nat := 0
  wo : Nat := 0
  rc : Nat := 0
  w1c : Nat := 0
  w1s : Nat := 0
  shadowed : Bool := false
  /-- (lowest bit, width, lowest value, highest value) of the fields with a stated range (R577). -/
  ranges : List (Nat × Nat × Nat × Nat) := []
  deriving DecidableEq, Repr

/-- A field of a register: the register's address, the lowest bit, the width. -/
structure Field where
  addr : Nat
  lo : Nat
  width : Nat
  deriving DecidableEq, Repr

def Reg.PRT_MODE (i : Nat) : Nat := 0x100000 + 0x2000 * i
def Reg.PRT_STATUS (i : Nat) : Nat := 0x100004 + 0x2000 * i
def Reg.PRT_MAC_LO (i : Nat) : Nat := 0x100008 + 0x2000 * i
def Reg.PRT_MAC_HI (i : Nat) : Nat := 0x10000c + 0x2000 * i
def Reg.PRT_PRIMAP (i : Nat) : Nat := 0x100010 + 0x2000 * i
def Reg.PRT_LOSSLESS (i : Nat) : Nat := 0x100014 + 0x2000 * i
def Reg.PRT_PFC_THR (i : Nat) : Nat := 0x100018 + 0x2000 * i
def Reg.PRT_ETS_TSA (i : Nat) : Nat := 0x10001c + 0x2000 * i
def Reg.PRT_ETS_BW0 (i : Nat) : Nat := 0x100020 + 0x2000 * i
def Reg.PRT_ETS_BW1 (i : Nat) : Nat := 0x100024 + 0x2000 * i
def Reg.PRT_DEFPRI (i : Nat) : Nat := 0x100028 + 0x2000 * i
def Reg.PRT_RX_FRAMES (i : Nat) : Nat := 0x100100 + 0x2000 * i
def Reg.PRT_TX_FRAMES (i : Nat) : Nat := 0x100104 + 0x2000 * i
def Reg.PRT_FCS_ERR (i : Nat) : Nat := 0x100108 + 0x2000 * i
def Reg.PRT_FEC_CORR (i : Nat) : Nat := 0x10010c + 0x2000 * i
def Reg.PRT_FEC_UNCORR (i : Nat) : Nat := 0x100110 + 0x2000 * i
def Reg.PRT_RX_DROP (i : Nat) : Nat := 0x100114 + 0x2000 * i
def Reg.PRT_LOSSY_DROP (i : Nat) : Nat := 0x100118 + 0x2000 * i
def Reg.PRT_NONROCE_DROP (i : Nat) : Nat := 0x10011c + 0x2000 * i
def Reg.PRT_PFC_TX (i : Nat) : Nat := 0x100120 + 0x2000 * i
def Reg.PRT_PFC_RX (i : Nat) : Nat := 0x100124 + 0x2000 * i
abbrev Reg.TRN_CTRL : Nat := 0x120000
abbrev Reg.TRN_PMTU : Nat := 0x120004
abbrev Reg.TRN_REQ_TIMER : Nat := 0x120008
abbrev Reg.TRN_RNR : Nat := 0x12000c
abbrev Reg.TRN_MISSQ : Nat := 0x120010
abbrev Reg.TRN_CNP : Nat := 0x120014
abbrev Reg.TRN_RP_STEP : Nat := 0x120018
abbrev Reg.TRN_QP_COUNT : Nat := 0x120020
abbrev Reg.TRN_QP_CONN : Nat := 0x120024
abbrev Reg.TRN_MISSQ_PEAK : Nat := 0x120028
def Reg.TRN_SVC_MAC_LO (i : Nat) : Nat := 0x120030 + 0x8 * i
def Reg.TRN_SVC_MAC_HI (i : Nat) : Nat := 0x120034 + 0x8 * i
def Reg.TRN_SVC_IP4 (i j : Nat) : Nat := 0x120040 + 0x8 * i + 0x4 * j
def Reg.TRN_SVC_IP6 (i j k : Nat) : Nat := 0x120060 + 0x20 * i + 0x10 * j + 0x4 * k
abbrev Reg.TRN_PKEY : Nat := 0x1200a0
abbrev Reg.TRN_ERR_HOLD : Nat := 0x1200a4
abbrev Reg.TRN_EVT : Nat := 0x1200c0
abbrev Reg.TRN_EVT_EN : Nat := 0x1200c4
abbrev Reg.TRN_NAK_SEQ : Nat := 0x120100
abbrev Reg.TRN_NAK_INV : Nat := 0x120104
abbrev Reg.TRN_NAK_ACC : Nat := 0x120108
abbrev Reg.TRN_NAK_OP : Nat := 0x12010c
abbrev Reg.TRN_NAK_RNR : Nat := 0x120110
abbrev Reg.TRN_DUP_WRITE : Nat := 0x120114
abbrev Reg.TRN_DUP_READ : Nat := 0x120118
abbrev Reg.TRN_DUP_ATOMIC : Nat := 0x12011c
abbrev Reg.TRN_ICRC_DROP : Nat := 0x120120
abbrev Reg.TRN_UNKNOWN_QP_DROP : Nat := 0x120124
abbrev Reg.TRN_CNP_TX : Nat := 0x120128
abbrev Reg.TRN_CNP_RX : Nat := 0x12012c
abbrev Reg.TRN_RETRY : Nat := 0x120130
abbrev Reg.TRN_QP_ERR : Nat := 0x120134
abbrev Reg.TRN_REWIND_TX : Nat := 0x120138
abbrev Reg.TRN_QPSEL : Nat := 0x120200
abbrev Reg.TRN_QPINFO0 : Nat := 0x120204
abbrev Reg.TRN_QPINFO1 : Nat := 0x120208
abbrev Reg.TRN_QPINFO2 : Nat := 0x12020c
abbrev Reg.TRN_QPINFO3 : Nat := 0x120210
abbrev Reg.KEY_FENCE_TMO : Nat := 0x140000
abbrev Reg.KEY_STATUS : Nat := 0x140004
abbrev Reg.KEY_REGIONS : Nat := 0x140008
abbrev Reg.KEY_KEYS : Nat := 0x14000c
abbrev Reg.KEY_PDSEL : Nat := 0x140010
abbrev Reg.KEY_PDCTL : Nat := 0x140014
abbrev Reg.KEY_PDCRED_LO : Nat := 0x140018
abbrev Reg.KEY_PDCRED_HI : Nat := 0x14001c
abbrev Reg.KEY_LASTVIOL0 : Nat := 0x140020
abbrev Reg.KEY_LASTVIOL1 : Nat := 0x140024
abbrev Reg.KEY_EVT : Nat := 0x1400c0
abbrev Reg.KEY_EVT_EN : Nat := 0x1400c4
abbrev Reg.KEY_VIOL_KEY : Nat := 0x140100
abbrev Reg.KEY_VIOL_PD : Nat := 0x140104
abbrev Reg.KEY_VIOL_HOME : Nat := 0x140108
abbrev Reg.KEY_VIOL_BOUNDS : Nat := 0x14010c
abbrev Reg.KEY_VIOL_RIGHTS : Nat := 0x140110
abbrev Reg.KEY_CACHE_MISS : Nat := 0x140114
abbrev Reg.KEY_FENCES : Nat := 0x140118
abbrev Reg.CQI_CTRL : Nat := 0x160000
abbrev Reg.CQI_ARB : Nat := 0x160004
abbrev Reg.CQI_IDLE : Nat := 0x160008
abbrev Reg.CQI_FETCH : Nat := 0x16000c
abbrev Reg.CQI_STEST : Nat := 0x160010
abbrev Reg.CQI_QUEUES : Nat := 0x160020
abbrev Reg.CQI_FROZEN : Nat := 0x160024
abbrev Reg.CQI_EVT : Nat := 0x1600c0
abbrev Reg.CQI_EVT_EN : Nat := 0x1600c4
abbrev Reg.CQI_FETCHED : Nat := 0x160100
abbrev Reg.CQI_COMPLETED : Nat := 0x160104
abbrev Reg.CQI_ERR_COMPL : Nat := 0x160108
abbrev Reg.CQI_FREEZES : Nat := 0x16010c
abbrev Reg.CQI_NOTIFS : Nat := 0x160110
abbrev Reg.CQI_NQ_LOST : Nat := 0x160114
abbrev Reg.CQI_ABANDONS : Nat := 0x160118
abbrev Reg.CQI_DB_INVALID : Nat := 0x16011c
abbrev Reg.CQI_QSEL : Nat := 0x160200
abbrev Reg.CQI_QINFO0 : Nat := 0x160204
abbrev Reg.CQI_QINFO1 : Nat := 0x160208
abbrev Reg.CQI_QINFO2 : Nat := 0x16020c
abbrev Reg.CQI_QINFO3 : Nat := 0x160210
abbrev Reg.TIER_CTRL : Nat := 0x180000
abbrev Reg.TIER_STATUS : Nat := 0x180004
abbrev Reg.TIER_T1_TOTAL : Nat := 0x180008
abbrev Reg.TIER_RESERVED : Nat := 0x18000c
abbrev Reg.TIER_STREAM_RSV : Nat := 0x180010
abbrev Reg.TIER_MIRROR_RSV : Nat := 0x180014
abbrev Reg.TIER_TRANSIENT : Nat := 0x180018
abbrev Reg.TIER_FLOAT : Nat := 0x18001c
abbrev Reg.TIER_FLOAT_FREE : Nat := 0x180020
abbrev Reg.TIER_STREAMS : Nat := 0x180024
abbrev Reg.TIER_TSEL : Nat := 0x180030
abbrev Reg.TIER_TQUOTA : Nat := 0x180034
abbrev Reg.TIER_TPIN : Nat := 0x180038
abbrev Reg.TIER_TUSE : Nat := 0x18003c
abbrev Reg.TIER_TPUSE : Nat := 0x180040
abbrev Reg.TIER_STRM_STALL : Nat := 0x180050
abbrev Reg.TIER_EVT : Nat := 0x1800c0
abbrev Reg.TIER_EVT_EN : Nat := 0x1800c4
abbrev Reg.TIER_T2_FILLS : Nat := 0x180100
abbrev Reg.TIER_DEADLINE_MISS : Nat := 0x180104
abbrev Reg.TIER_POISON_RET : Nat := 0x180108
abbrev Reg.TIER_NEVER_WRITTEN : Nat := 0x18010c
abbrev Reg.TIER_HEAL_OK : Nat := 0x180110
abbrev Reg.TIER_HEAL_FAIL : Nat := 0x180114
abbrev Reg.TIER_EVICT : Nat := 0x180118
abbrev Reg.TIER_CLAIM_DROP : Nat := 0x18011c
abbrev Reg.TIER_PARISON_LOAD : Nat := 0x180120
abbrev Reg.LC_CTRL : Nat := 0x1a0000
abbrev Reg.LC_STATUS : Nat := 0x1a0004
abbrev Reg.LC_LOCK : Nat := 0x1a0008
abbrev Reg.LC_MOP_ADDR_LO : Nat := 0x1a0010
abbrev Reg.LC_MOP_ADDR_HI : Nat := 0x1a0014
abbrev Reg.LC_MOP_LINES : Nat := 0x1a0018
abbrev Reg.LC_MOP_CMD : Nat := 0x1a001c
abbrev Reg.LC_MOP_STATUS : Nat := 0x1a0020
abbrev Reg.LC_MOP_DONE : Nat := 0x1a0024
abbrev Reg.LC_EVT : Nat := 0x1a00c0
abbrev Reg.LC_EVT_EN : Nat := 0x1a00c4
abbrev Reg.LC_HIT : Nat := 0x1a0100
abbrev Reg.LC_MISS : Nat := 0x1a0104
abbrev Reg.LC_WB : Nat := 0x1a0108
abbrev Reg.LC_CORR : Nat := 0x1a010c
abbrev Reg.LC_UNCORR : Nat := 0x1a0110
abbrev Reg.LC_FILL_JOIN : Nat := 0x1a0114
def Reg.DMC_CTRL (i : Nat) : Nat := 0x200000 + 0x1000 * i
def Reg.DMC_STATUS (i : Nat) : Nat := 0x200004 + 0x1000 * i
def Reg.DMC_CAPACITY (i : Nat) : Nat := 0x200008 + 0x1000 * i
def Reg.DMC_SCHED (i : Nat) : Nat := 0x20000c + 0x1000 * i
def Reg.DMC_REFCTL (i : Nat) : Nat := 0x200010 + 0x1000 * i
def Reg.DMC_REFSTAT (i : Nat) : Nat := 0x200014 + 0x1000 * i
def Reg.DMC_RHCTL (i : Nat) : Nat := 0x200018 + 0x1000 * i
def Reg.DMC_ERRCTL (i : Nat) : Nat := 0x20001c + 0x1000 * i
def Reg.DMC_LASTERR0 (i : Nat) : Nat := 0x200020 + 0x1000 * i
def Reg.DMC_LASTERR1 (i : Nat) : Nat := 0x200024 + 0x1000 * i
def Reg.DMC_EVT (i : Nat) : Nat := 0x2000c0 + 0x1000 * i
def Reg.DMC_EVT_EN (i : Nat) : Nat := 0x2000c4 + 0x1000 * i
def Reg.DMC_RD (i : Nat) : Nat := 0x200100 + 0x1000 * i
def Reg.DMC_WR (i : Nat) : Nat := 0x200104 + 0x1000 * i
def Reg.DMC_FWD (i : Nat) : Nat := 0x200108 + 0x1000 * i
def Reg.DMC_ACT (i : Nat) : Nat := 0x20010c + 0x1000 * i
def Reg.DMC_REF_POSTPONED (i : Nat) : Nat := 0x200110 + 0x1000 * i
def Reg.DMC_REF_FORCED (i : Nat) : Nat := 0x200114 + 0x1000 * i
def Reg.DMC_RH_REFRESH (i : Nat) : Nat := 0x200118 + 0x1000 * i
def Reg.DMC_RFM (i : Nat) : Nat := 0x20011c + 0x1000 * i
def Reg.DMC_UNCORR (i : Nat) : Nat := 0x200120 + 0x1000 * i
def Reg.DMC_CAPAR (i : Nat) : Nat := 0x200124 + 0x1000 * i
abbrev Reg.ECC_CTRL : Nat := 0x220000
abbrev Reg.ECC_PATROL : Nat := 0x220004
abbrev Reg.ECC_PATROL_STAT : Nat := 0x220008
abbrev Reg.ECC_THRESH : Nat := 0x22000c
abbrev Reg.ECC_SCRUB_ADDR_LO : Nat := 0x220010
abbrev Reg.ECC_SCRUB_ADDR_HI : Nat := 0x220014
abbrev Reg.ECC_SCRUB_LINES : Nat := 0x220018
abbrev Reg.ECC_SCRUB_CMD : Nat := 0x22001c
abbrev Reg.ECC_SCRUB_STATUS : Nat := 0x220020
abbrev Reg.ECC_SCRUB_WORDS_LO : Nat := 0x220024
abbrev Reg.ECC_SCRUB_WORDS_HI : Nat := 0x220028
abbrev Reg.ECC_SCRUB_CORR1 : Nat := 0x22002c
abbrev Reg.ECC_SCRUB_CORR2 : Nat := 0x220030
abbrev Reg.ECC_SCRUB_UNCORR : Nat := 0x220034
abbrev Reg.ECC_SCRUB_SKIPPED : Nat := 0x220038
abbrev Reg.ECC_SCRUB_FIRST_LO : Nat := 0x22003c
abbrev Reg.ECC_SCRUB_FIRST_HI : Nat := 0x220040
abbrev Reg.ECC_SCRUB_LAST_LO : Nat := 0x220044
abbrev Reg.ECC_SCRUB_LAST_HI : Nat := 0x220048
abbrev Reg.ECC_RMSEL : Nat := 0x220050
abbrev Reg.ECC_RMADDR : Nat := 0x220054
abbrev Reg.ECC_RMCTL : Nat := 0x220058
abbrev Reg.ECC_CLOG0 : Nat := 0x220060
abbrev Reg.ECC_CLOG1 : Nat := 0x220064
abbrev Reg.ECC_EVT : Nat := 0x2200c0
abbrev Reg.ECC_EVT_EN : Nat := 0x2200c4
abbrev Reg.ECC_T1_CORR1 : Nat := 0x220100
abbrev Reg.ECC_T1_CORR2 : Nat := 0x220104
abbrev Reg.ECC_LINE_SUSPECT : Nat := 0x220108
abbrev Reg.ECC_CTX_CORR : Nat := 0x22010c
abbrev Reg.ECC_CTX_UNCORR : Nat := 0x220110
abbrev Reg.ECC_REMAP_LOADS : Nat := 0x220114
abbrev Reg.ECC_CLOG_LOST : Nat := 0x220118
abbrev Reg.FTL_CTRL : Nat := 0x240000
abbrev Reg.FTL_STATUS : Nat := 0x240004
abbrev Reg.FTL_OP : Nat := 0x240008
abbrev Reg.FTL_RESERVE : Nat := 0x24000c
abbrev Reg.FTL_CKPT : Nat := 0x240010
abbrev Reg.FTL_WL : Nat := 0x240014
abbrev Reg.FTL_VERIFY : Nat := 0x240018
abbrev Reg.FTL_RESERVE2 : Nat := 0x24001c
abbrev Reg.FTL_USABLE_LO : Nat := 0x240020
abbrev Reg.FTL_USABLE_HI : Nat := 0x240024
abbrev Reg.FTL_MAPPED_LO : Nat := 0x240028
abbrev Reg.FTL_MAPPED_HI : Nat := 0x24002c
abbrev Reg.FTL_SB : Nat := 0x240030
abbrev Reg.FTL_WEAR : Nat := 0x240034
abbrev Reg.FTL_SPARE_MIN : Nat := 0x240038
abbrev Reg.FTL_MOUNT_MS : Nat := 0x24003c
def Reg.FTL_STRIPE (i : Nat) : Nat := 0x240040 + 0x4 * i
abbrev Reg.FTL_EVT : Nat := 0x2400c0
abbrev Reg.FTL_EVT_EN : Nat := 0x2400c4
abbrev Reg.FTL_THRSEL : Nat := 0x2400d0
def Reg.FTL_THRDATA (i : Nat) : Nat := 0x2400d4 + 0x4 * i
abbrev Reg.FTL_CKPTS : Nat := 0x240100
abbrev Reg.FTL_GC_VICTIMS : Nat := 0x240104
abbrev Reg.FTL_MOVES_STALE : Nat := 0x240108
abbrev Reg.FTL_VERIFY_RELOC : Nat := 0x24010c
abbrev Reg.FTL_PARITY_REBUILD : Nat := 0x240110
abbrev Reg.FTL_RETIRED : Nat := 0x240114
abbrev Reg.FTL_ERASE_INCOMPLETE : Nat := 0x240118
abbrev Reg.FTL_TORN : Nat := 0x24011c
abbrev Reg.FTL_RO_REFUSED : Nat := 0x240120
def Reg.FCH_CTRL (i : Nat) : Nat := 0x260000 + 0x800 * i
def Reg.FCH_STATUS (i : Nat) : Nat := 0x260004 + 0x800 * i
def Reg.FCH_GEOM (i : Nat) : Nat := 0x260008 + 0x800 * i
def Reg.FCH_TEMP (i : Nat) : Nat := 0x26000c + 0x800 * i
def Reg.FCH_RETRY (i : Nat) : Nat := 0x260010 + 0x800 * i
def Reg.FCH_ERASE (i : Nat) : Nat := 0x260014 + 0x800 * i
def Reg.FCH_SPARE (i : Nat) : Nat := 0x260018 + 0x800 * i
def Reg.FCH_PE (i : Nat) : Nat := 0x26001c + 0x800 * i
def Reg.FCH_RATED (i : Nat) : Nat := 0x260020 + 0x800 * i
def Reg.FCH_PROG_FAIL (i : Nat) : Nat := 0x260100 + 0x800 * i
def Reg.FCH_ERASE_FAIL (i : Nat) : Nat := 0x260104 + 0x800 * i
def Reg.FCH_RETRY_READS (i : Nat) : Nat := 0x260108 + 0x800 * i
def Reg.FCH_SOFT_READS (i : Nat) : Nat := 0x26010c + 0x800 * i
def Reg.FCH_UNCORR (i : Nat) : Nat := 0x260110 + 0x800 * i
def Reg.FCH_SUSPENDS (i : Nat) : Nat := 0x260114 + 0x800 * i
abbrev Reg.TWN_CTRL : Nat := 0x2a0000
abbrev Reg.TWN_STATUS : Nat := 0x2a0004
abbrev Reg.TWN_EPOCH : Nat := 0x2a0008
abbrev Reg.TWN_HEALTH : Nat := 0x2a000c
abbrev Reg.TWN_PHEALTH : Nat := 0x2a0010
abbrev Reg.TWN_CMD : Nat := 0x2a0014
abbrev Reg.TWN_LOCKSTEP : Nat := 0x2a0018
abbrev Reg.TWN_FAILBACK : Nat := 0x2a001c
abbrev Reg.TWN_PAIR : Nat := 0x2a0020
abbrev Reg.TWN_SELFTEST : Nat := 0x2a0024
abbrev Reg.TWN_LINK : Nat := 0x2a0028
abbrev Reg.TWN_OFFSET : Nat := 0x2a002c
def Reg.TWN_EPOCHNUM_LO (i : Nat) : Nat := 0x2a0030 + 0x8 * i
def Reg.TWN_EPOCHNUM_HI (i : Nat) : Nat := 0x2a0034 + 0x8 * i
def Reg.TWN_TERM (i : Nat) : Nat := 0x2a0040 + 0x4 * i
abbrev Reg.TWN_RESYNC : Nat := 0x2a0048
abbrev Reg.TWN_EVT : Nat := 0x2a00c0
abbrev Reg.TWN_EVT_EN : Nat := 0x2a00c4
abbrev Reg.TWN_DATA_TX : Nat := 0x2a0100
abbrev Reg.TWN_DATA_RX : Nat := 0x2a0104
abbrev Reg.TWN_CONFIRM_WAIT_MAX : Nat := 0x2a0108
abbrev Reg.TWN_DELTA_TX : Nat := 0x2a010c
abbrev Reg.TWN_HB_MISS : Nat := 0x2a0110
abbrev Reg.TWN_CRC_ERR : Nat := 0x2a0114
abbrev Reg.TWN_REPLAY : Nat := 0x2a0118
abbrev Reg.TWN_TAKEOVERS : Nat := 0x2a011c
abbrev Reg.TWN_HANDOVERS : Nat := 0x2a0120
abbrev Reg.TWN_HEALS_SERVED : Nat := 0x2a0124
abbrev Reg.TWN_LOCKSTEP_FAIL : Nat := 0x2a0128
abbrev Reg.TWN_LEASE_LAPSE : Nat := 0x2a012c
abbrev Reg.COL_CTRL : Nat := 0x2c0000
abbrev Reg.COL_STATUS : Nat := 0x2c0004
abbrev Reg.COL_UDP : Nat := 0x2c0008
abbrev Reg.COL_TMO : Nat := 0x2c000c
abbrev Reg.COL_CRED_LO : Nat := 0x2c0010
abbrev Reg.COL_CRED_HI : Nat := 0x2c0014
abbrev Reg.COL_PATH_LO : Nat := 0x2c0018
abbrev Reg.COL_PATH_HI : Nat := 0x2c001c
def Reg.COL_IP (i : Nat) : Nat := 0x2c0020 + 0x4 * i
def Reg.COL_DIR_IP (i : Nat) : Nat := 0x2c0030 + 0x4 * i
def Reg.COL_PARENT_IP (i : Nat) : Nat := 0x2c0040 + 0x4 * i
abbrev Reg.COL_MEMBERS : Nat := 0x2c0050
abbrev Reg.COL_WORKERS : Nat := 0x2c0054
abbrev Reg.COL_KEYFREE : Nat := 0x2c0058
abbrev Reg.COL_EVT : Nat := 0x2c00c0
abbrev Reg.COL_EVT_EN : Nat := 0x2c00c4
abbrev Reg.PWS_STATUS : Nat := 0x10000
abbrev Reg.PWS_SEQCTL : Nat := 0x10004
def Reg.PWS_PHASE (k : Nat) : Nat := if k < 4 ∨ k = 7 then 0x10010 + 4 * k else 0x1010010 + 4 * k
abbrev Reg.PWS_SHUT : Nat := 0x10020
abbrev Reg.PWS_BTN : Nat := 0x10024
abbrev Reg.PWS_CMD : Nat := 0x10028
def Reg.PWS_RAIL (i : Nat) : Nat := 0x10040 + 0x4 * i
abbrev Reg.PWS_RAILSTAT : Nat := 0x100a0
abbrev Reg.PWS_RAILQ : Nat := 0x100a4
abbrev Reg.PWS_RAILFLT : Nat := 0x100a8
abbrev Reg.PWS_RAILPG : Nat := 0x100ac
abbrev Reg.PWS_EVT : Nat := 0x100c0
abbrev Reg.PWS_EVT_EN : Nat := 0x100c4
abbrev Reg.PWS_PG_GLITCH : Nat := 0x10100
abbrev Reg.PWS_QUAL_RESTART : Nat := 0x10104
abbrev Reg.PWS_WARNINGS : Nat := 0x10108
abbrev Reg.PWS_HU_TESTS : Nat := 0x1010c
def Reg.PWS_VSCFG (i : Nat) : Nat := 0x10200 + 0x10 * i
def Reg.PWS_VSCTL (i : Nat) : Nat := 0x10204 + 0x10 * i
def Reg.PWS_VSVAL (i : Nat) : Nat := 0x10208 + 0x10 * i
abbrev Reg.PWS_HUCFG : Nat := 0x10300
abbrev Reg.PWS_HUMOD0 : Nat := 0x10304
abbrev Reg.PWS_HUMOD1 : Nat := 0x10308
abbrev Reg.PWS_HUK : Nat := 0x1030c
abbrev Reg.PWS_HU_C : Nat := 0x10310
abbrev Reg.PWS_HU_ESR : Nat := 0x10314
abbrev Reg.PWS_HU_E : Nat := 0x10318
abbrev Reg.PWS_HU_ENOW : Nat := 0x1031c
abbrev Reg.PWS_BUDGET : Nat := 0x10320
abbrev Reg.PWS_HU_AGE : Nat := 0x10324
abbrev Reg.GOV_CTRL : Nat := 0x20000
abbrev Reg.GOV_STATUS : Nat := 0x20004
abbrev Reg.GOV_PCAP : Nat := 0x20008
abbrev Reg.GOV_PEST : Nat := 0x2000c
abbrev Reg.GOV_CMD : Nat := 0x20010
abbrev Reg.GOV_GATE : Nat := 0x20014
abbrev Reg.GOV_GATE2 : Nat := 0x20018
abbrev Reg.GOV_DIRTY : Nat := 0x2001c
abbrev Reg.GOV_DIRTYNOW : Nat := 0x20020
abbrev Reg.GOV_ADMIT : Nat := 0x20024
abbrev Reg.GOV_TSEL : Nat := 0x20028
abbrev Reg.GOV_TVAL : Nat := 0x2002c
abbrev Reg.GOV_WAKE_TMR : Nat := 0x20030
abbrev Reg.GOV_WAKESRC : Nat := 0x20034
abbrev Reg.GOV_EVT : Nat := 0x200c0
abbrev Reg.GOV_EVT_EN : Nat := 0x200c4
abbrev Reg.GOV_PAUSES : Nat := 0x20100
abbrev Reg.GOV_PAUSE_US : Nat := 0x20104
abbrev Reg.GOV_CAP_PERIODS : Nat := 0x20108
abbrev Reg.GOV_TSTEPS : Nat := 0x2010c
abbrev Reg.GOV_WAKES : Nat := 0x20110
abbrev Reg.SEAL_LOCK : Nat := 0x60000
abbrev Reg.SEAL_STATUS : Nat := 0x60004
abbrev Reg.SEAL_OP : Nat := 0x60008
abbrev Reg.SEAL_LEN : Nat := 0x6000c
abbrev Reg.SEAL_OUTLEN : Nat := 0x60010
abbrev Reg.SEAL_KEYDST : Nat := 0x60014
abbrev Reg.SEAL_KEYSEL : Nat := 0x60018
abbrev Reg.SEAL_KCV_INFO : Nat := 0x6001c
abbrev Reg.SEAL_KCV_LO : Nat := 0x60020
abbrev Reg.SEAL_KCV_HI : Nat := 0x60024
abbrev Reg.SEAL_ROOT_KCV_LO : Nat := 0x60028
abbrev Reg.SEAL_ROOT_KCV_HI : Nat := 0x6002c
def Reg.SEAL_KEYIN (i : Nat) : Nat := 0x60040 + 0x4 * i
def Reg.SEAL_IV (i : Nat) : Nat := 0x60080 + 0x4 * i
def Reg.SEAL_TAG (i : Nat) : Nat := 0x60090 + 0x4 * i
abbrev Reg.SEAL_EVT : Nat := 0x600c0
abbrev Reg.SEAL_EVT_EN : Nat := 0x600c4
abbrev Reg.SEAL_OPS : Nat := 0x60100
abbrev Reg.SEAL_AUTH_FAIL : Nat := 0x60104
def Reg.SEAL_BUF (i : Nat) : Nat := 0x61000 + 0x4 * i
abbrev Reg.XTS_STATUS : Nat := 0x280000
abbrev Reg.XTS_DOMAINS : Nat := 0x280004
abbrev Reg.XTS_DOMSEL : Nat := 0x280008
abbrev Reg.XTS_DOMINFO : Nat := 0x28000c
abbrev Reg.XTS_EVT : Nat := 0x2800c0
abbrev Reg.XTS_EVT_EN : Nat := 0x2800c4
abbrev Reg.XTS_ENC_UNITS : Nat := 0x280100
abbrev Reg.XTS_DEC_UNITS : Nat := 0x280104
abbrev Reg.CFL_CTRL : Nat := 0x50000
abbrev Reg.CFL_STATUS : Nat := 0x50004
abbrev Reg.CFL_ADDR : Nat := 0x50008
abbrev Reg.CFL_DATA_LO : Nat := 0x5000c
abbrev Reg.CFL_DATA_HI : Nat := 0x50010
abbrev Reg.CFL_CMD : Nat := 0x50014
abbrev Reg.CFL_SECSTAT : Nat := 0x50018
abbrev Reg.CFL_BOOT : Nat := 0x5001c
abbrev Reg.CFL_BOOTINFO : Nat := 0x50020
abbrev Reg.CFL_RUNVER_LO : Nat := 0x50024
abbrev Reg.CFL_RUNVER_HI : Nat := 0x50028
abbrev Reg.CFL_STGVER_LO : Nat := 0x5002c
abbrev Reg.CFL_STGVER_HI : Nat := 0x50030
abbrev Reg.CFL_STAGED : Nat := 0x50034
abbrev Reg.CFL_EVT : Nat := 0x500c0
abbrev Reg.CFL_EVT_EN : Nat := 0x500c4
abbrev Reg.CFL_CORR : Nat := 0x50100
abbrev Reg.CFL_UNCORR : Nat := 0x50104
abbrev Reg.CFL_PROGRAMS : Nat := 0x50108
abbrev Reg.CFL_ERASES : Nat := 0x5010c
abbrev Reg.CFL_SUSPENDS : Nat := 0x50110
abbrev Reg.CFL_BROWNOUTS : Nat := 0x50114
abbrev Reg.MBUS_CTRL : Nat := 0x30000
abbrev Reg.MBUS_STATUS : Nat := 0x30004
abbrev Reg.MBUS_ALERTSRC : Nat := 0x30008
abbrev Reg.MBUS_ICTL : Nat := 0x30010
abbrev Reg.MBUS_IOFF : Nat := 0x30014
abbrev Reg.MBUS_ISTAT : Nat := 0x30018
def Reg.MBUS_ISEG (i : Nat) : Nat := 0x30020 + 0x4 * i
def Reg.MBUS_IBUF (i : Nat) : Nat := 0x30040 + 0x4 * i
abbrev Reg.MBUS_EVT : Nat := 0x300c0
abbrev Reg.MBUS_EVT_EN : Nat := 0x300c4
abbrev Reg.MBUS_WRITES : Nat := 0x30100
abbrev Reg.MBUS_READS : Nat := 0x30104
abbrev Reg.MBUS_PEC_FAIL : Nat := 0x30108
abbrev Reg.MBUS_TIMEOUTS : Nat := 0x3010c
abbrev Reg.MBUS_ARA_WON : Nat := 0x30110
abbrev Reg.MBUS_BUS_CLEARS : Nat := 0x30114
abbrev Reg.AMB_STATUS : Nat := 0x40000
abbrev Reg.AMB_CMD : Nat := 0x40004
abbrev Reg.AMB_FIRSTSEQ : Nat := 0x40008
abbrev Reg.AMB_NEXTSEQ : Nat := 0x4000c
abbrev Reg.AMB_RDSEQ : Nat := 0x40010
abbrev Reg.AMB_RDSTAT : Nat := 0x40014
abbrev Reg.AMB_QSTART_LO : Nat := 0x40018
abbrev Reg.AMB_QSTART_HI : Nat := 0x4001c
abbrev Reg.AMB_QEND_LO : Nat := 0x40020
abbrev Reg.AMB_QEND_HI : Nat := 0x40024
abbrev Reg.AMB_QFIRST : Nat := 0x40028
abbrev Reg.AMB_QCOUNT : Nat := 0x4002c
abbrev Reg.AMB_HOURS : Nat := 0x40030
abbrev Reg.AMB_HOURS_HI : Nat := 0x40034
def Reg.AMB_REC (i : Nat) : Nat := 0x40040 + 0x4 * i
abbrev Reg.AMB_EVT : Nat := 0x400c0
abbrev Reg.AMB_EVT_EN : Nat := 0x400c4
abbrev Reg.AMB_LOST : Nat := 0x40100
abbrev Reg.AMB_OVERFLOW : Nat := 0x40104
abbrev Reg.DBG_STATUS : Nat := 0x70000
abbrev Reg.DBG_CMD : Nat := 0x70004
def Reg.DBG_CHAL (i : Nat) : Nat := 0x70010 + 0x4 * i
def Reg.DBG_RESP (i : Nat) : Nat := 0x70020 + 0x4 * i
def Reg.DBG_KEYIN (i : Nat) : Nat := 0x70040 + 0x4 * i
abbrev Reg.DBG_MSEL : Nat := 0x70080
abbrev Reg.DBG_MADDR : Nat := 0x70084
abbrev Reg.DBG_MDATA0 : Nat := 0x70088
abbrev Reg.DBG_MDATA1 : Nat := 0x7008c
abbrev Reg.DBG_MDATA2 : Nat := 0x70090
abbrev Reg.DBG_EVT : Nat := 0x700c0
abbrev Reg.DBG_EVT_EN : Nat := 0x700c4
abbrev Reg.GLB_ID : Nat := 0x0
abbrev Reg.GLB_VERSION : Nat := 0x4
def Reg.GLB_SERIAL (i : Nat) : Nat := 0x8 + 0x4 * i
abbrev Reg.GLB_SCRATCH : Nat := 0x18
abbrev Reg.GLB_STATUS : Nat := 0x20
abbrev Reg.GLB_RSTCAUSE : Nat := 0x24
abbrev Reg.GLB_RSTCTL : Nat := 0x28
abbrev Reg.GLB_RSTCOUNT : Nat := 0x2c
abbrev Reg.GLB_CFGCTL : Nat := 0x30
abbrev Reg.GLB_CMT : Nat := 0x34
abbrev Reg.GLB_CMTSTAT : Nat := 0x38
abbrev Reg.GLB_CMTEPOCH_LO : Nat := 0x3c
abbrev Reg.GLB_CMTEPOCH_HI : Nat := 0x40
abbrev Reg.GLB_LOCK : Nat := 0x44
def Reg.GLB_ASSET (i : Nat) : Nat := 0x50 + 0x4 * i
abbrev Reg.GLB_WINSEL : Nat := 0xfff0

abbrev Fld.PRT_MODE_RATE (i : Nat) : Field := ⟨Reg.PRT_MODE i, 0, 2⟩
abbrev Fld.PRT_MODE_LT_EN (i : Nat) : Field := ⟨Reg.PRT_MODE i, 2, 1⟩
abbrev Fld.PRT_MODE_LOOP (i : Nat) : Field := ⟨Reg.PRT_MODE i, 3, 1⟩
abbrev Fld.PRT_STATUS_LINK_UP (i : Nat) : Field := ⟨Reg.PRT_STATUS i, 0, 1⟩
abbrev Fld.PRT_STATUS_LT_DONE (i : Nat) : Field := ⟨Reg.PRT_STATUS i, 1, 1⟩
abbrev Fld.PRT_STATUS_TRAIN_FAIL (i : Nat) : Field := ⟨Reg.PRT_STATUS i, 2, 1⟩
abbrev Fld.PRT_STATUS_PAUSING (i : Nat) : Field := ⟨Reg.PRT_STATUS i, 3, 1⟩
abbrev Fld.PRT_STATUS_PAUSED (i : Nat) : Field := ⟨Reg.PRT_STATUS i, 4, 8⟩
abbrev Fld.PRT_MAC_HI_MAC (i : Nat) : Field := ⟨Reg.PRT_MAC_HI i, 0, 16⟩
abbrev Fld.PRT_PRIMAP_MAP (i : Nat) : Field := ⟨Reg.PRT_PRIMAP i, 0, 24⟩
abbrev Fld.PRT_LOSSLESS_LL_MASK (i : Nat) : Field := ⟨Reg.PRT_LOSSLESS i, 0, 8⟩
abbrev Fld.PRT_LOSSLESS_CFG_ERR (i : Nat) : Field := ⟨Reg.PRT_LOSSLESS i, 8, 1⟩
abbrev Fld.PRT_PFC_THR_XOFF (i : Nat) : Field := ⟨Reg.PRT_PFC_THR i, 0, 16⟩
abbrev Fld.PRT_PFC_THR_XON (i : Nat) : Field := ⟨Reg.PRT_PFC_THR i, 16, 16⟩
abbrev Fld.PRT_ETS_TSA_STRICT (i : Nat) : Field := ⟨Reg.PRT_ETS_TSA i, 0, 8⟩
abbrev Fld.PRT_ETS_BW0_BW (i : Nat) : Field := ⟨Reg.PRT_ETS_BW0 i, 0, 32⟩
abbrev Fld.PRT_ETS_BW1_BW (i : Nat) : Field := ⟨Reg.PRT_ETS_BW1 i, 0, 32⟩
abbrev Fld.PRT_DEFPRI_PCP (i : Nat) : Field := ⟨Reg.PRT_DEFPRI i, 0, 3⟩
abbrev Fld.TRN_CTRL_ENABLE : Field := ⟨Reg.TRN_CTRL, 0, 1⟩
abbrev Fld.TRN_CTRL_NP_EN : Field := ⟨Reg.TRN_CTRL, 1, 1⟩
abbrev Fld.TRN_CTRL_RP_EN : Field := ⟨Reg.TRN_CTRL, 2, 1⟩
abbrev Fld.TRN_CTRL_IPV6_EN : Field := ⟨Reg.TRN_CTRL, 3, 1⟩
abbrev Fld.TRN_CTRL_HOP_LIMIT : Field := ⟨Reg.TRN_CTRL, 8, 8⟩
abbrev Fld.TRN_PMTU_MAX_PMTU : Field := ⟨Reg.TRN_PMTU, 0, 2⟩
abbrev Fld.TRN_REQ_TIMER_ACK_TIMEOUT : Field := ⟨Reg.TRN_REQ_TIMER, 0, 5⟩
abbrev Fld.TRN_REQ_TIMER_RETRY_CNT : Field := ⟨Reg.TRN_REQ_TIMER, 8, 3⟩
abbrev Fld.TRN_RNR_RNR_TIMER : Field := ⟨Reg.TRN_RNR, 0, 5⟩
abbrev Fld.TRN_MISSQ_PAUSE_ON : Field := ⟨Reg.TRN_MISSQ, 0, 12⟩
abbrev Fld.TRN_MISSQ_PAUSE_OFF : Field := ⟨Reg.TRN_MISSQ, 16, 12⟩
abbrev Fld.TRN_CNP_NP_INTERVAL : Field := ⟨Reg.TRN_CNP, 0, 8⟩
abbrev Fld.TRN_CNP_RP_TIMER : Field := ⟨Reg.TRN_CNP, 8, 8⟩
abbrev Fld.TRN_CNP_RP_MIN_RATE : Field := ⟨Reg.TRN_CNP, 16, 8⟩
abbrev Fld.TRN_CNP_G_SHIFT : Field := ⟨Reg.TRN_CNP, 24, 4⟩
abbrev Fld.TRN_RP_STEP_AI_RATE : Field := ⟨Reg.TRN_RP_STEP, 0, 16⟩
abbrev Fld.TRN_RP_STEP_HAI_RATE : Field := ⟨Reg.TRN_RP_STEP, 16, 16⟩
abbrev Fld.TRN_QPSEL_QP : Field := ⟨Reg.TRN_QPSEL, 0, 24⟩
abbrev Fld.TRN_QPINFO0_STATE : Field := ⟨Reg.TRN_QPINFO0, 0, 3⟩
abbrev Fld.TRN_QPINFO0_RESIDENT : Field := ⟨Reg.TRN_QPINFO0, 3, 1⟩
abbrev Fld.TRN_QPINFO0_SLICE : Field := ⟨Reg.TRN_QPINFO0, 4, 3⟩
abbrev Fld.TRN_QPINFO0_HOME : Field := ⟨Reg.TRN_QPINFO0, 7, 1⟩
abbrev Fld.TRN_QPINFO0_SINK : Field := ⟨Reg.TRN_QPINFO0, 8, 1⟩
abbrev Fld.TRN_QPINFO0_LIMITED : Field := ⟨Reg.TRN_QPINFO0, 9, 1⟩
abbrev Fld.TRN_QPINFO1_EPSN : Field := ⟨Reg.TRN_QPINFO1, 0, 24⟩
abbrev Fld.TRN_QPINFO2_CPSN : Field := ⟨Reg.TRN_QPINFO2, 0, 24⟩
abbrev Fld.TRN_QPINFO3_SPSN : Field := ⟨Reg.TRN_QPINFO3, 0, 24⟩
abbrev Fld.KEY_STATUS_FENCES_OPEN : Field := ⟨Reg.KEY_STATUS, 0, 12⟩
abbrev Fld.KEY_STATUS_TRANSITION : Field := ⟨Reg.KEY_STATUS, 12, 1⟩
abbrev Fld.KEY_PDSEL_PD : Field := ⟨Reg.KEY_PDSEL, 0, 16⟩
abbrev Fld.KEY_PDCTL_EN : Field := ⟨Reg.KEY_PDCTL, 0, 1⟩
abbrev Fld.KEY_PDCTL_ADMIN : Field := ⟨Reg.KEY_PDCTL, 1, 1⟩
abbrev Fld.KEY_PDCTL_TENANT : Field := ⟨Reg.KEY_PDCTL, 8, 8⟩
abbrev Fld.KEY_LASTVIOL0_QPN : Field := ⟨Reg.KEY_LASTVIOL0, 0, 24⟩
abbrev Fld.KEY_LASTVIOL0_CAUSE : Field := ⟨Reg.KEY_LASTVIOL0, 24, 3⟩
abbrev Fld.KEY_LASTVIOL0_CAPSULE : Field := ⟨Reg.KEY_LASTVIOL0, 27, 1⟩
abbrev Fld.CQI_CTRL_PWRMODE : Field := ⟨Reg.CQI_CTRL, 0, 1⟩
abbrev Fld.CQI_ARB_W_HIGH : Field := ⟨Reg.CQI_ARB, 0, 8⟩
abbrev Fld.CQI_ARB_W_MED : Field := ⟨Reg.CQI_ARB, 8, 8⟩
abbrev Fld.CQI_ARB_W_LOW : Field := ⟨Reg.CQI_ARB, 16, 8⟩
abbrev Fld.CQI_ARB_BURST_LOG2 : Field := ⟨Reg.CQI_ARB, 24, 3⟩
abbrev Fld.CQI_IDLE_P1_IDLE : Field := ⟨Reg.CQI_IDLE, 0, 16⟩
abbrev Fld.CQI_IDLE_P2_IDLE : Field := ⟨Reg.CQI_IDLE, 16, 16⟩
abbrev Fld.CQI_FETCH_MAX_BATCH : Field := ⟨Reg.CQI_FETCH, 0, 6⟩
abbrev Fld.CQI_FETCH_FETCH_DEPTH : Field := ⟨Reg.CQI_FETCH, 8, 5⟩
abbrev Fld.CQI_STEST_RESUME_IDLE : Field := ⟨Reg.CQI_STEST, 0, 16⟩
abbrev Fld.CQI_QSEL_QPN : Field := ⟨Reg.CQI_QSEL, 0, 24⟩
abbrev Fld.CQI_QSEL_QUEUE : Field := ⟨Reg.CQI_QSEL, 24, 6⟩
abbrev Fld.CQI_QINFO0_STATE : Field := ⟨Reg.CQI_QINFO0, 0, 2⟩
abbrev Fld.CQI_QINFO0_CLASS : Field := ⟨Reg.CQI_QINFO0, 2, 2⟩
abbrev Fld.CQI_QINFO0_NQ : Field := ⟨Reg.CQI_QINFO0, 4, 1⟩
abbrev Fld.CQI_QINFO0_SELFTEST : Field := ⟨Reg.CQI_QINFO0, 5, 1⟩
abbrev Fld.CQI_QINFO1_SQ_HEAD : Field := ⟨Reg.CQI_QINFO1, 0, 16⟩
abbrev Fld.CQI_QINFO1_SQ_TAIL : Field := ⟨Reg.CQI_QINFO1, 16, 16⟩
abbrev Fld.CQI_QINFO2_CQ_TAIL : Field := ⟨Reg.CQI_QINFO2, 0, 16⟩
abbrev Fld.CQI_QINFO2_CQ_HEAD : Field := ⟨Reg.CQI_QINFO2, 16, 16⟩
abbrev Fld.CQI_QINFO3_CURSOR : Field := ⟨Reg.CQI_QINFO3, 0, 16⟩
abbrev Fld.CQI_QINFO3_OUTSTANDING : Field := ⟨Reg.CQI_QINFO3, 16, 16⟩
abbrev Fld.TIER_CTRL_PARISON_EN : Field := ⟨Reg.TIER_CTRL, 0, 1⟩
abbrev Fld.TIER_CTRL_PIN_STANDBY : Field := ⟨Reg.TIER_CTRL, 1, 1⟩
abbrev Fld.TIER_STATUS_FLOAT_SHORT : Field := ⟨Reg.TIER_STATUS, 0, 1⟩
abbrev Fld.TIER_STATUS_CFG_ERR : Field := ⟨Reg.TIER_STATUS, 1, 1⟩
abbrev Fld.TIER_STATUS_PARISON_BUSY : Field := ⟨Reg.TIER_STATUS, 2, 1⟩
abbrev Fld.TIER_T1_TOTAL_T1 : Field := ⟨Reg.TIER_T1_TOTAL, 0, 23⟩
abbrev Fld.LC_CTRL_EN : Field := ⟨Reg.LC_CTRL, 0, 1⟩
abbrev Fld.LC_STATUS_ENABLED : Field := ⟨Reg.LC_STATUS, 0, 1⟩
abbrev Fld.LC_STATUS_INV_DONE : Field := ⟨Reg.LC_STATUS, 1, 1⟩
abbrev Fld.LC_STATUS_EN_REFUSED : Field := ⟨Reg.LC_STATUS, 2, 1⟩
abbrev Fld.LC_STATUS_LOCK_BUSY : Field := ⟨Reg.LC_STATUS, 3, 1⟩
abbrev Fld.LC_STATUS_DISABLING : Field := ⟨Reg.LC_STATUS, 4, 1⟩
abbrev Fld.LC_STATUS_BANK_ON : Field := ⟨Reg.LC_STATUS, 16, 16⟩
abbrev Fld.LC_LOCK_LOCK : Field := ⟨Reg.LC_LOCK, 0, 8⟩
abbrev Fld.LC_MOP_CMD_OP : Field := ⟨Reg.LC_MOP_CMD, 0, 4⟩
abbrev Fld.LC_MOP_CMD_WAYMASK : Field := ⟨Reg.LC_MOP_CMD, 8, 8⟩
abbrev Fld.LC_MOP_STATUS_BUSY : Field := ⟨Reg.LC_MOP_STATUS, 0, 1⟩
abbrev Fld.LC_MOP_STATUS_ERR : Field := ⟨Reg.LC_MOP_STATUS, 1, 3⟩
abbrev Fld.LC_MOP_STATUS_LAST_OP : Field := ⟨Reg.LC_MOP_STATUS, 4, 4⟩
abbrev Fld.DMC_CTRL_RETIRE (i : Nat) : Field := ⟨Reg.DMC_CTRL i, 0, 1⟩
abbrev Fld.DMC_STATUS_STATE (i : Nat) : Field := ⟨Reg.DMC_STATUS i, 0, 3⟩
abbrev Fld.DMC_STATUS_DIMMS (i : Nat) : Field := ⟨Reg.DMC_STATUS i, 3, 2⟩
abbrev Fld.DMC_STATUS_RATE (i : Nat) : Field := ⟨Reg.DMC_STATUS i, 5, 2⟩
abbrev Fld.DMC_STATUS_DRFM (i : Nat) : Field := ⟨Reg.DMC_STATUS i, 7, 1⟩
abbrev Fld.DMC_STATUS_RANKS (i : Nat) : Field := ⟨Reg.DMC_STATUS i, 8, 4⟩
abbrev Fld.DMC_SCHED_PAGE_IDLE (i : Nat) : Field := ⟨Reg.DMC_SCHED i, 0, 8⟩
abbrev Fld.DMC_SCHED_WM_HIGH (i : Nat) : Field := ⟨Reg.DMC_SCHED i, 8, 6⟩
abbrev Fld.DMC_SCHED_WM_LOW (i : Nat) : Field := ⟨Reg.DMC_SCHED i, 14, 6⟩
abbrev Fld.DMC_SCHED_AGE_MAX (i : Nat) : Field := ⟨Reg.DMC_SCHED i, 20, 12⟩
abbrev Fld.DMC_REFCTL_MODE (i : Nat) : Field := ⟨Reg.DMC_REFCTL i, 0, 1⟩
abbrev Fld.DMC_REFCTL_MAX_POSTPONE (i : Nat) : Field := ⟨Reg.DMC_REFCTL i, 1, 4⟩
abbrev Fld.DMC_REFCTL_GOV_HOLD (i : Nat) : Field := ⟨Reg.DMC_REFCTL i, 5, 1⟩
abbrev Fld.DMC_REFCTL_CATCHUP_IDLE (i : Nat) : Field := ⟨Reg.DMC_REFCTL i, 6, 10⟩
abbrev Fld.DMC_REFSTAT_NOW (i : Nat) : Field := ⟨Reg.DMC_REFSTAT i, 0, 4⟩
abbrev Fld.DMC_REFSTAT_PEAK (i : Nat) : Field := ⟨Reg.DMC_REFSTAT i, 4, 4⟩
abbrev Fld.DMC_REFSTAT_HOT (i : Nat) : Field := ⟨Reg.DMC_REFSTAT i, 8, 1⟩
abbrev Fld.DMC_RHCTL_EN (i : Nat) : Field := ⟨Reg.DMC_RHCTL i, 0, 1⟩
abbrev Fld.DMC_RHCTL_PROB_LOG2 (i : Nat) : Field := ⟨Reg.DMC_RHCTL i, 1, 4⟩
abbrev Fld.DMC_RHCTL_RADIUS (i : Nat) : Field := ⟨Reg.DMC_RHCTL i, 5, 1⟩
abbrev Fld.DMC_ERRCTL_UNCORR_THR (i : Nat) : Field := ⟨Reg.DMC_ERRCTL i, 0, 8⟩
abbrev Fld.DMC_ERRCTL_CAPAR_THR (i : Nat) : Field := ⟨Reg.DMC_ERRCTL i, 8, 8⟩
abbrev Fld.DMC_LASTERR1_SUB (i : Nat) : Field := ⟨Reg.DMC_LASTERR1 i, 0, 1⟩
abbrev Fld.DMC_LASTERR1_WORDS (i : Nat) : Field := ⟨Reg.DMC_LASTERR1 i, 1, 8⟩
abbrev Fld.DMC_LASTERR1_FWRES (i : Nat) : Field := ⟨Reg.DMC_LASTERR1 i, 9, 1⟩
abbrev Fld.ECC_CTRL_PATROL_EN : Field := ⟨Reg.ECC_CTRL, 0, 1⟩
abbrev Fld.ECC_CTRL_LINECHK_EN : Field := ⟨Reg.ECC_CTRL, 1, 1⟩
abbrev Fld.ECC_PATROL_PERIOD : Field := ⟨Reg.ECC_PATROL, 0, 16⟩
abbrev Fld.ECC_PATROL_STAT_PERCENT : Field := ⟨Reg.ECC_PATROL_STAT, 0, 8⟩
abbrev Fld.ECC_PATROL_STAT_PASSES : Field := ⟨Reg.ECC_PATROL_STAT, 8, 24⟩
abbrev Fld.ECC_THRESH_REMAP_THR : Field := ⟨Reg.ECC_THRESH, 0, 8⟩
abbrev Fld.ECC_THRESH_CORR_HR : Field := ⟨Reg.ECC_THRESH, 16, 16⟩
abbrev Fld.ECC_SCRUB_CMD_TARGET : Field := ⟨Reg.ECC_SCRUB_CMD, 0, 2⟩
abbrev Fld.ECC_SCRUB_CMD_WRITEBACK : Field := ⟨Reg.ECC_SCRUB_CMD, 2, 1⟩
abbrev Fld.ECC_SCRUB_CMD_START : Field := ⟨Reg.ECC_SCRUB_CMD, 3, 1⟩
abbrev Fld.ECC_SCRUB_CMD_ABORT : Field := ⟨Reg.ECC_SCRUB_CMD, 4, 1⟩
abbrev Fld.ECC_SCRUB_STATUS_BUSY : Field := ⟨Reg.ECC_SCRUB_STATUS, 0, 1⟩
abbrev Fld.ECC_SCRUB_STATUS_DONE : Field := ⟨Reg.ECC_SCRUB_STATUS, 1, 1⟩
abbrev Fld.ECC_SCRUB_STATUS_ABORTED : Field := ⟨Reg.ECC_SCRUB_STATUS, 2, 1⟩
abbrev Fld.ECC_SCRUB_STATUS_ERR : Field := ⟨Reg.ECC_SCRUB_STATUS, 3, 3⟩
abbrev Fld.ECC_RMSEL_CHAN : Field := ⟨Reg.ECC_RMSEL, 0, 4⟩
abbrev Fld.ECC_RMSEL_ENTRY : Field := ⟨Reg.ECC_RMSEL, 4, 4⟩
abbrev Fld.ECC_RMCTL_WORD : Field := ⟨Reg.ECC_RMCTL, 0, 3⟩
abbrev Fld.ECC_RMCTL_SUB : Field := ⟨Reg.ECC_RMCTL, 3, 1⟩
abbrev Fld.ECC_RMCTL_VALID : Field := ⟨Reg.ECC_RMCTL, 4, 1⟩
abbrev Fld.ECC_RMCTL_LOAD : Field := ⟨Reg.ECC_RMCTL, 5, 1⟩
abbrev Fld.ECC_RMCTL_CLEAR : Field := ⟨Reg.ECC_RMCTL, 6, 1⟩
abbrev Fld.ECC_RMCTL_FREE : Field := ⟨Reg.ECC_RMCTL, 12, 5⟩
abbrev Fld.FTL_CTRL_STATIC_WL : Field := ⟨Reg.FTL_CTRL, 0, 1⟩
abbrev Fld.FTL_CTRL_ERASE_SUSPEND : Field := ⟨Reg.FTL_CTRL, 1, 1⟩
abbrev Fld.FTL_CTRL_FILL_US : Field := ⟨Reg.FTL_CTRL, 16, 16⟩
abbrev Fld.FTL_STATUS_SPACE : Field := ⟨Reg.FTL_STATUS, 0, 2⟩
abbrev Fld.FTL_STATUS_MOUNTED : Field := ⟨Reg.FTL_STATUS, 2, 1⟩
abbrev Fld.FTL_STATUS_WARM : Field := ⟨Reg.FTL_STATUS, 3, 1⟩
abbrev Fld.FTL_STATUS_CKPT_BUSY : Field := ⟨Reg.FTL_STATUS, 4, 1⟩
abbrev Fld.FTL_STATUS_GC_ACTIVE : Field := ⟨Reg.FTL_STATUS, 5, 1⟩
abbrev Fld.FTL_STATUS_CFG_ERR : Field := ⟨Reg.FTL_STATUS, 6, 1⟩
abbrev Fld.FTL_RESERVE_SB : Field := ⟨Reg.FTL_RESERVE, 0, 20⟩
abbrev Fld.FTL_CKPT_GIB : Field := ⟨Reg.FTL_CKPT, 0, 16⟩
abbrev Fld.FTL_CKPT_SECONDS : Field := ⟨Reg.FTL_CKPT, 16, 16⟩
abbrev Fld.FTL_WL_DELTA : Field := ⟨Reg.FTL_WL, 0, 16⟩
abbrev Fld.FTL_VERIFY_MARGIN : Field := ⟨Reg.FTL_VERIFY, 0, 8⟩
abbrev Fld.FTL_VERIFY_RETIRE_FAILS : Field := ⟨Reg.FTL_VERIFY, 8, 8⟩
abbrev Fld.FTL_RESERVE2_HYST : Field := ⟨Reg.FTL_RESERVE2, 0, 8⟩
abbrev Fld.FTL_RESERVE2_GC_START : Field := ⟨Reg.FTL_RESERVE2, 8, 8⟩
abbrev Fld.FTL_SB_INSVC : Field := ⟨Reg.FTL_SB, 0, 16⟩
abbrev Fld.FTL_SB_FREE : Field := ⟨Reg.FTL_SB, 16, 16⟩
abbrev Fld.FTL_THRSEL_TYPE : Field := ⟨Reg.FTL_THRSEL, 0, 2⟩
abbrev Fld.FTL_THRSEL_ENTRY : Field := ⟨Reg.FTL_THRSEL, 4, 9⟩
abbrev Fld.FCH_CTRL_RETIRE (i : Nat) : Field := ⟨Reg.FCH_CTRL i, 0, 1⟩
abbrev Fld.FCH_STATUS_STATE (i : Nat) : Field := ⟨Reg.FCH_STATUS i, 0, 3⟩
abbrev Fld.FCH_STATUS_TOGGLE (i : Nat) : Field := ⟨Reg.FCH_STATUS i, 3, 1⟩
abbrev Fld.FCH_STATUS_RATE (i : Nat) : Field := ⟨Reg.FCH_STATUS i, 4, 2⟩
abbrev Fld.FCH_STATUS_TWO_POS (i : Nat) : Field := ⟨Reg.FCH_STATUS i, 6, 1⟩
abbrev Fld.FCH_GEOM_DIES (i : Nat) : Field := ⟨Reg.FCH_GEOM i, 0, 8⟩
abbrev Fld.FCH_GEOM_BITS (i : Nat) : Field := ⟨Reg.FCH_GEOM i, 8, 4⟩
abbrev Fld.FCH_GEOM_BLK (i : Nat) : Field := ⟨Reg.FCH_GEOM i, 12, 5⟩
abbrev Fld.FCH_RETRY_MAX (i : Nat) : Field := ⟨Reg.FCH_RETRY i, 0, 4⟩
abbrev Fld.FCH_ERASE_MAX_SUSPEND (i : Nat) : Field := ⟨Reg.FCH_ERASE i, 0, 4⟩
abbrev Fld.TWN_CTRL_EN : Field := ⟨Reg.TWN_CTRL, 0, 1⟩
abbrev Fld.TWN_CTRL_FAILBACK : Field := ⟨Reg.TWN_CTRL, 1, 1⟩
abbrev Fld.TWN_CTRL_LEASE_FORCE : Field := ⟨Reg.TWN_CTRL, 2, 1⟩
abbrev Fld.TWN_STATUS_SIDE_A : Field := ⟨Reg.TWN_STATUS, 0, 1⟩
abbrev Fld.TWN_STATUS_ROLE0 : Field := ⟨Reg.TWN_STATUS, 1, 2⟩
abbrev Fld.TWN_STATUS_ROLE1 : Field := ⟨Reg.TWN_STATUS, 3, 2⟩
abbrev Fld.TWN_STATUS_STATE0 : Field := ⟨Reg.TWN_STATUS, 5, 3⟩
abbrev Fld.TWN_STATUS_STATE1 : Field := ⟨Reg.TWN_STATUS, 8, 3⟩
abbrev Fld.TWN_STATUS_LEASE0 : Field := ⟨Reg.TWN_STATUS, 11, 1⟩
abbrev Fld.TWN_STATUS_LEASE1 : Field := ⟨Reg.TWN_STATUS, 12, 1⟩
abbrev Fld.TWN_STATUS_LINK_UP : Field := ⟨Reg.TWN_STATUS, 13, 1⟩
abbrev Fld.TWN_STATUS_LANES : Field := ⟨Reg.TWN_STATUS, 14, 4⟩
abbrev Fld.TWN_STATUS_PARTNER_PFW : Field := ⟨Reg.TWN_STATUS, 18, 1⟩
abbrev Fld.TWN_CMD_OP : Field := ⟨Reg.TWN_CMD, 0, 4⟩
abbrev Fld.TWN_CMD_HOME : Field := ⟨Reg.TWN_CMD, 4, 1⟩
abbrev Fld.TWN_LOCKSTEP_EPOCHS : Field := ⟨Reg.TWN_LOCKSTEP, 0, 16⟩
abbrev Fld.TWN_LOCKSTEP_TRIES : Field := ⟨Reg.TWN_LOCKSTEP, 16, 4⟩
abbrev Fld.TWN_FAILBACK_DELAY : Field := ⟨Reg.TWN_FAILBACK, 0, 16⟩
abbrev Fld.TWN_PAIR_WAIT : Field := ⟨Reg.TWN_PAIR, 0, 16⟩
abbrev Fld.TWN_SELFTEST_EYE_MIN : Field := ⟨Reg.TWN_SELFTEST, 0, 8⟩
abbrev Fld.TWN_SELFTEST_BIST_HOURS : Field := ⟨Reg.TWN_SELFTEST, 8, 8⟩
abbrev Fld.TWN_SELFTEST_SAMPLES : Field := ⟨Reg.TWN_SELFTEST, 16, 8⟩
abbrev Fld.TWN_LINK_LANES : Field := ⟨Reg.TWN_LINK, 0, 8⟩
abbrev Fld.TWN_LINK_RTT : Field := ⟨Reg.TWN_LINK, 16, 16⟩
abbrev Fld.TWN_RESYNC_PERCENT : Field := ⟨Reg.TWN_RESYNC, 0, 8⟩
abbrev Fld.TWN_RESYNC_FULL : Field := ⟨Reg.TWN_RESYNC, 8, 1⟩
abbrev Fld.TWN_RESYNC_ACTIVE : Field := ⟨Reg.TWN_RESYNC, 9, 1⟩
abbrev Fld.TWN_RESYNC_HOME : Field := ⟨Reg.TWN_RESYNC, 10, 1⟩
abbrev Fld.COL_CTRL_WORKER : Field := ⟨Reg.COL_CTRL, 0, 1⟩
abbrev Fld.COL_CTRL_MANAGER : Field := ⟨Reg.COL_CTRL, 1, 1⟩
abbrev Fld.COL_CTRL_LANE1_EN : Field := ⟨Reg.COL_CTRL, 2, 1⟩
abbrev Fld.COL_STATUS_JOINED : Field := ⟨Reg.COL_STATUS, 0, 1⟩
abbrev Fld.COL_STATUS_PARENT_LOST : Field := ⟨Reg.COL_STATUS, 1, 1⟩
abbrev Fld.COL_STATUS_PD_LOCKED : Field := ⟨Reg.COL_STATUS, 2, 1⟩
abbrev Fld.COL_STATUS_DUTY : Field := ⟨Reg.COL_STATUS, 3, 1⟩
abbrev Fld.COL_STATUS_WORKER_NO : Field := ⟨Reg.COL_STATUS, 4, 10⟩
abbrev Fld.COL_UDP_UDP : Field := ⟨Reg.COL_UDP, 0, 16⟩
abbrev Fld.COL_MEMBERS_ADMITTED : Field := ⟨Reg.COL_MEMBERS, 0, 7⟩
abbrev Fld.COL_MEMBERS_LOST : Field := ⟨Reg.COL_MEMBERS, 8, 7⟩
abbrev Fld.PWS_STATUS_SEQ : Field := ⟨Reg.PWS_STATUS, 0, 3⟩
abbrev Fld.PWS_STATUS_PHASE : Field := ⟨Reg.PWS_STATUS, 3, 3⟩
abbrev Fld.PWS_STATUS_PFW_IN : Field := ⟨Reg.PWS_STATUS, 6, 1⟩
abbrev Fld.PWS_STATUS_WR_LOCKED : Field := ⟨Reg.PWS_STATUS, 7, 1⟩
abbrev Fld.PWS_STATUS_HU_VALID : Field := ⟨Reg.PWS_STATUS, 8, 1⟩
abbrev Fld.PWS_STATUS_HU_TESTING : Field := ⟨Reg.PWS_STATUS, 9, 1⟩
abbrev Fld.PWS_STATUS_INCOMPLETE : Field := ⟨Reg.PWS_STATUS, 10, 1⟩
abbrev Fld.PWS_STATUS_LAST_CAUSE : Field := ⟨Reg.PWS_STATUS, 12, 3⟩
abbrev Fld.PWS_SEQCTL_LAST_PHASE : Field := ⟨Reg.PWS_SEQCTL, 0, 3⟩
abbrev Fld.PWS_SEQCTL_AUTO_ON : Field := ⟨Reg.PWS_SEQCTL, 8, 1⟩
abbrev Fld.PWS_SEQCTL_RESTART : Field := ⟨Reg.PWS_SEQCTL, 9, 1⟩
abbrev Fld.PWS_SEQCTL_STORED : Field := ⟨Reg.PWS_SEQCTL, 10, 1⟩
abbrev Fld.PWS_PHASE_TQUAL (k : Nat) : Field := ⟨Reg.PWS_PHASE k, 0, 8⟩
abbrev Fld.PWS_PHASE_TIMEOUT (k : Nat) : Field := ⟨Reg.PWS_PHASE k, 8, 8⟩
abbrev Fld.PWS_PHASE_RULE (k : Nat) : Field := ⟨Reg.PWS_PHASE k, 16, 2⟩
abbrev Fld.PWS_PHASE_ON_DELAY (k : Nat) : Field := ⟨Reg.PWS_PHASE k, 18, 6⟩
abbrev Fld.PWS_PHASE_OFF_DELAY (k : Nat) : Field := ⟨Reg.PWS_PHASE k, 24, 8⟩
abbrev Fld.PWS_SHUT_DEADLINE : Field := ⟨Reg.PWS_SHUT, 0, 13⟩
abbrev Fld.PWS_SHUT_RESERVE : Field := ⟨Reg.PWS_SHUT, 16, 8⟩
abbrev Fld.PWS_BTN_LONG_S : Field := ⟨Reg.PWS_BTN, 0, 4⟩
abbrev Fld.PWS_BTN_SHORT_ACT : Field := ⟨Reg.PWS_BTN, 4, 1⟩
abbrev Fld.PWS_CMD_OP : Field := ⟨Reg.PWS_CMD, 0, 4⟩
abbrev Fld.PWS_RAIL_EN (i : Nat) : Field := ⟨Reg.PWS_RAIL i, 0, 1⟩
abbrev Fld.PWS_RAIL_PHASE (i : Nat) : Field := ⟨Reg.PWS_RAIL i, 1, 3⟩
abbrev Fld.PWS_RAIL_GROUP (i : Nat) : Field := ⟨Reg.PWS_RAIL i, 4, 3⟩
abbrev Fld.PWS_RAIL_P3_KEEP (i : Nat) : Field := ⟨Reg.PWS_RAIL i, 7, 1⟩
abbrev Fld.PWS_RAIL_FAULT_ACT (i : Nat) : Field := ⟨Reg.PWS_RAIL i, 8, 1⟩
abbrev Fld.PWS_RAIL_KEEP_ON (i : Nat) : Field := ⟨Reg.PWS_RAIL i, 9, 1⟩
abbrev Fld.PWS_RAIL_MASK (i : Nat) : Field := ⟨Reg.PWS_RAIL i, 16, 16⟩
abbrev Fld.PWS_RAILFLT_RAILS : Field := ⟨Reg.PWS_RAILFLT, 0, 24⟩
abbrev Fld.PWS_VSCFG_LOW (i : Nat) : Field := ⟨Reg.PWS_VSCFG i, 0, 12⟩
abbrev Fld.PWS_VSCFG_HIGH (i : Nat) : Field := ⟨Reg.PWS_VSCFG i, 16, 12⟩
abbrev Fld.PWS_VSCTL_ACT (i : Nat) : Field := ⟨Reg.PWS_VSCTL i, 0, 2⟩
abbrev Fld.PWS_VSCTL_RAIL (i : Nat) : Field := ⟨Reg.PWS_VSCTL i, 4, 5⟩
abbrev Fld.PWS_HUCFG_PERIOD : Field := ⟨Reg.PWS_HUCFG, 0, 8⟩
abbrev Fld.PWS_HUCFG_VSEL : Field := ⟨Reg.PWS_HUCFG, 8, 3⟩
abbrev Fld.PWS_HUCFG_LOW_GIB : Field := ⟨Reg.PWS_HUCFG, 11, 5⟩
abbrev Fld.PWS_HUCFG_DIV : Field := ⟨Reg.PWS_HUCFG, 16, 16⟩
abbrev Fld.PWS_HUMOD0_V_MIN : Field := ⟨Reg.PWS_HUMOD0, 0, 16⟩
abbrev Fld.PWS_HUMOD0_I_T : Field := ⟨Reg.PWS_HUMOD0, 16, 16⟩
abbrev Fld.PWS_HUMOD1_T_TEST : Field := ⟨Reg.PWS_HUMOD1, 0, 16⟩
abbrev Fld.PWS_HUMOD1_P_QUENCH : Field := ⟨Reg.PWS_HUMOD1, 16, 16⟩
abbrev Fld.PWS_HUK_DERATE : Field := ⟨Reg.PWS_HUK, 0, 8⟩
abbrev Fld.PWS_HUK_FIXED_J : Field := ⟨Reg.PWS_HUK, 8, 8⟩
abbrev Fld.PWS_HUK_J_PER_GIB : Field := ⟨Reg.PWS_HUK, 16, 12⟩
abbrev Fld.PWS_HU_ESR_ESR : Field := ⟨Reg.PWS_HU_ESR, 0, 20⟩
abbrev Fld.PWS_HU_ENOW_E_NOW : Field := ⟨Reg.PWS_HU_ENOW, 0, 20⟩
abbrev Fld.GOV_CTRL_CAP_EN : Field := ⟨Reg.GOV_CTRL, 0, 1⟩
abbrev Fld.GOV_CTRL_BURST_HOLD : Field := ⟨Reg.GOV_CTRL, 1, 1⟩
abbrev Fld.GOV_STATUS_PSTATE : Field := ⟨Reg.GOV_STATUS, 0, 2⟩
abbrev Fld.GOV_STATUS_ENTERING : Field := ⟨Reg.GOV_STATUS, 2, 1⟩
abbrev Fld.GOV_STATUS_EXITING : Field := ⟨Reg.GOV_STATUS, 3, 1⟩
abbrev Fld.GOV_STATUS_TSTEP : Field := ⟨Reg.GOV_STATUS, 4, 3⟩
abbrev Fld.GOV_STATUS_OVER_CAP : Field := ⟨Reg.GOV_STATUS, 7, 1⟩
abbrev Fld.GOV_STATUS_DIRTY_PAUSE : Field := ⟨Reg.GOV_STATUS, 8, 1⟩
abbrev Fld.GOV_STATUS_REFUSED : Field := ⟨Reg.GOV_STATUS, 9, 1⟩
abbrev Fld.GOV_STATUS_CORE_CLK : Field := ⟨Reg.GOV_STATUS, 10, 2⟩
abbrev Fld.GOV_PEST_P_EST : Field := ⟨Reg.GOV_PEST, 0, 10⟩
abbrev Fld.GOV_CMD_OP : Field := ⟨Reg.GOV_CMD, 0, 3⟩
abbrev Fld.GOV_GATE_CLUSTER_IDLE : Field := ⟨Reg.GOV_GATE, 0, 16⟩
abbrev Fld.GOV_GATE_FCH_IDLE : Field := ⟨Reg.GOV_GATE, 16, 16⟩
abbrev Fld.GOV_GATE2_SLICE_IDLE : Field := ⟨Reg.GOV_GATE2, 0, 16⟩
abbrev Fld.GOV_DIRTY_HEADROOM : Field := ⟨Reg.GOV_DIRTY, 0, 16⟩
abbrev Fld.GOV_DIRTY_HYST : Field := ⟨Reg.GOV_DIRTY, 16, 16⟩
abbrev Fld.GOV_ADMIT_CLASSES : Field := ⟨Reg.GOV_ADMIT, 0, 32⟩
abbrev Fld.GOV_TVAL_SENSOR : Field := ⟨Reg.GOV_TVAL, 0, 8⟩
abbrev Fld.GOV_TVAL_TJ : Field := ⟨Reg.GOV_TVAL, 8, 8⟩
abbrev Fld.GOV_TVAL_INVALID : Field := ⟨Reg.GOV_TVAL, 16, 1⟩
abbrev Fld.SEAL_LOCK_REQ : Field := ⟨Reg.SEAL_LOCK, 0, 2⟩
abbrev Fld.SEAL_LOCK_OWNER : Field := ⟨Reg.SEAL_LOCK, 2, 3⟩
abbrev Fld.SEAL_LOCK_QPN : Field := ⟨Reg.SEAL_LOCK, 8, 24⟩
abbrev Fld.SEAL_STATUS_BUSY : Field := ⟨Reg.SEAL_STATUS, 0, 1⟩
abbrev Fld.SEAL_STATUS_RESULT : Field := ⟨Reg.SEAL_STATUS, 1, 3⟩
abbrev Fld.SEAL_STATUS_ROOT_PROV : Field := ⟨Reg.SEAL_STATUS, 4, 1⟩
abbrev Fld.SEAL_STATUS_FOREIGN : Field := ⟨Reg.SEAL_STATUS, 5, 1⟩
abbrev Fld.SEAL_OP_OP : Field := ⟨Reg.SEAL_OP, 0, 4⟩
abbrev Fld.SEAL_OP_SLOT : Field := ⟨Reg.SEAL_OP, 16, 16⟩
abbrev Fld.SEAL_LEN_LEN : Field := ⟨Reg.SEAL_LEN, 0, 13⟩
abbrev Fld.SEAL_LEN_AADLEN : Field := ⟨Reg.SEAL_LEN, 16, 13⟩
abbrev Fld.SEAL_KCV_INFO_LOADED : Field := ⟨Reg.SEAL_KCV_INFO, 0, 1⟩
abbrev Fld.SEAL_KCV_INFO_PLAIN : Field := ⟨Reg.SEAL_KCV_INFO, 1, 1⟩
abbrev Fld.XTS_STATUS_WAIT_KEYS : Field := ⟨Reg.XTS_STATUS, 0, 1⟩
abbrev Fld.XTS_STATUS_META_LOADED : Field := ⟨Reg.XTS_STATUS, 1, 1⟩
abbrev Fld.XTS_STATUS_KAT_PASS : Field := ⟨Reg.XTS_STATUS, 2, 1⟩
abbrev Fld.XTS_DOMINFO_LOADED : Field := ⟨Reg.XTS_DOMINFO, 0, 1⟩
abbrev Fld.XTS_DOMINFO_PLAIN : Field := ⟨Reg.XTS_DOMINFO, 1, 1⟩
abbrev Fld.CFL_CTRL_EXT_WR : Field := ⟨Reg.CFL_CTRL, 0, 1⟩
abbrev Fld.CFL_STATUS_BUSY : Field := ⟨Reg.CFL_STATUS, 0, 1⟩
abbrev Fld.CFL_STATUS_SUSPENDED : Field := ⟨Reg.CFL_STATUS, 1, 1⟩
abbrev Fld.CFL_STATUS_BROWNOUT : Field := ⟨Reg.CFL_STATUS, 2, 1⟩
abbrev Fld.CFL_STATUS_ERR : Field := ⟨Reg.CFL_STATUS, 3, 3⟩
abbrev Fld.CFL_STATUS_RECOVERY : Field := ⟨Reg.CFL_STATUS, 6, 1⟩
abbrev Fld.CFL_STATUS_RD_INCOMPLETE : Field := ⟨Reg.CFL_STATUS, 7, 1⟩
abbrev Fld.CFL_CMD_OP : Field := ⟨Reg.CFL_CMD, 0, 4⟩
abbrev Fld.CFL_SECSTAT_STATE : Field := ⟨Reg.CFL_SECSTAT, 0, 2⟩
abbrev Fld.CFL_SECSTAT_SUSP : Field := ⟨Reg.CFL_SECSTAT, 2, 6⟩
abbrev Fld.CFL_BOOT_SEQ : Field := ⟨Reg.CFL_BOOT, 0, 32⟩
abbrev Fld.CFL_BOOTINFO_SLOT : Field := ⟨Reg.CFL_BOOTINFO, 0, 1⟩
abbrev Fld.CFL_BOOTINFO_TRIAL : Field := ⟨Reg.CFL_BOOTINFO, 1, 1⟩
abbrev Fld.CFL_BOOTINFO_ATTEMPTS : Field := ⟨Reg.CFL_BOOTINFO, 2, 2⟩
abbrev Fld.CFL_BOOTINFO_REVERTED : Field := ⟨Reg.CFL_BOOTINFO, 4, 1⟩
abbrev Fld.CFL_BOOTINFO_ALT_BOOT : Field := ⟨Reg.CFL_BOOTINFO, 5, 1⟩
abbrev Fld.CFL_BOOTINFO_FLOOR : Field := ⟨Reg.CFL_BOOTINFO, 6, 6⟩
abbrev Fld.CFL_BOOTINFO_STEP : Field := ⟨Reg.CFL_BOOTINFO, 16, 4⟩
abbrev Fld.CFL_STAGED_PAGES : Field := ⟨Reg.CFL_STAGED, 0, 12⟩
abbrev Fld.CFL_STAGED_COMPLETE : Field := ⟨Reg.CFL_STAGED, 12, 1⟩
abbrev Fld.MBUS_CTRL_PEC_EN : Field := ⟨Reg.MBUS_CTRL, 0, 1⟩
abbrev Fld.MBUS_CTRL_RDLEN : Field := ⟨Reg.MBUS_CTRL, 1, 3⟩
abbrev Fld.MBUS_CTRL_ID_WR_EN : Field := ⟨Reg.MBUS_CTRL, 4, 1⟩
abbrev Fld.MBUS_STATUS_WRAP : Field := ⟨Reg.MBUS_STATUS, 0, 1⟩
abbrev Fld.MBUS_STATUS_PARTIAL : Field := ⟨Reg.MBUS_STATUS, 1, 1⟩
abbrev Fld.MBUS_STATUS_PEC_ERR : Field := ⟨Reg.MBUS_STATUS, 2, 1⟩
abbrev Fld.MBUS_STATUS_TIMEOUT : Field := ⟨Reg.MBUS_STATUS, 3, 1⟩
abbrev Fld.MBUS_STATUS_NOT_READY : Field := ⟨Reg.MBUS_STATUS, 4, 1⟩
abbrev Fld.MBUS_STATUS_ALERT : Field := ⟨Reg.MBUS_STATUS, 5, 1⟩
abbrev Fld.MBUS_STATUS_STRAP : Field := ⟨Reg.MBUS_STATUS, 6, 3⟩
abbrev Fld.MBUS_ALERTSRC_PEND : Field := ⟨Reg.MBUS_ALERTSRC, 0, 18⟩
abbrev Fld.MBUS_ICTL_SEG : Field := ⟨Reg.MBUS_ICTL, 0, 2⟩
abbrev Fld.MBUS_ICTL_BRANCH : Field := ⟨Reg.MBUS_ICTL, 2, 2⟩
abbrev Fld.MBUS_ICTL_ADDR7 : Field := ⟨Reg.MBUS_ICTL, 4, 7⟩
abbrev Fld.MBUS_ICTL_OFF16 : Field := ⟨Reg.MBUS_ICTL, 11, 1⟩
abbrev Fld.MBUS_ICTL_WRITE : Field := ⟨Reg.MBUS_ICTL, 12, 1⟩
abbrev Fld.MBUS_ICTL_LEN : Field := ⟨Reg.MBUS_ICTL, 13, 6⟩
abbrev Fld.MBUS_ICTL_GO : Field := ⟨Reg.MBUS_ICTL, 31, 1⟩
abbrev Fld.MBUS_ISTAT_BUSY : Field := ⟨Reg.MBUS_ISTAT, 0, 1⟩
abbrev Fld.MBUS_ISTAT_RESULT : Field := ⟨Reg.MBUS_ISTAT, 1, 3⟩
abbrev Fld.MBUS_ISEG_SPEED (i : Nat) : Field := ⟨Reg.MBUS_ISEG i, 0, 2⟩
abbrev Fld.MBUS_ISEG_SW_RAIL (i : Nat) : Field := ⟨Reg.MBUS_ISEG i, 2, 5⟩
abbrev Fld.MBUS_ISEG_STATE (i : Nat) : Field := ⟨Reg.MBUS_ISEG i, 8, 2⟩
abbrev Fld.AMB_STATUS_STAGED : Field := ⟨Reg.AMB_STATUS, 0, 8⟩
abbrev Fld.AMB_STATUS_FLUSHING : Field := ⟨Reg.AMB_STATUS, 8, 1⟩
abbrev Fld.AMB_STATUS_FULL : Field := ⟨Reg.AMB_STATUS, 9, 1⟩
abbrev Fld.AMB_STATUS_CLEARING : Field := ⟨Reg.AMB_STATUS, 10, 1⟩
abbrev Fld.AMB_STATUS_FINDING : Field := ⟨Reg.AMB_STATUS, 11, 1⟩
abbrev Fld.AMB_CMD_OP : Field := ⟨Reg.AMB_CMD, 0, 2⟩
abbrev Fld.AMB_RDSTAT_FOUND : Field := ⟨Reg.AMB_RDSTAT, 0, 1⟩
abbrev Fld.AMB_RDSTAT_STAGED : Field := ⟨Reg.AMB_RDSTAT, 1, 1⟩
abbrev Fld.AMB_RDSTAT_BAD : Field := ⟨Reg.AMB_RDSTAT, 2, 1⟩
abbrev Fld.AMB_QSTART_HI_STAMP : Field := ⟨Reg.AMB_QSTART_HI, 0, 4⟩
abbrev Fld.AMB_QEND_HI_STAMP : Field := ⟨Reg.AMB_QEND_HI, 0, 4⟩
abbrev Fld.AMB_HOURS_FRACTION : Field := ⟨Reg.AMB_HOURS, 0, 12⟩
abbrev Fld.AMB_HOURS_HOURS : Field := ⟨Reg.AMB_HOURS, 12, 20⟩
abbrev Fld.AMB_HOURS_HI_HOURS_HI : Field := ⟨Reg.AMB_HOURS_HI, 0, 4⟩
abbrev Fld.AMB_HOURS_HI_PCYCLE : Field := ⟨Reg.AMB_HOURS_HI, 8, 24⟩
abbrev Fld.DBG_STATUS_KEY_PROV : Field := ⟨Reg.DBG_STATUS, 0, 1⟩
abbrev Fld.DBG_STATUS_UNLOCKED : Field := ⟨Reg.DBG_STATUS, 1, 1⟩
abbrev Fld.DBG_STATUS_FROZEN : Field := ⟨Reg.DBG_STATUS, 2, 1⟩
abbrev Fld.DBG_STATUS_RESULT : Field := ⟨Reg.DBG_STATUS, 3, 2⟩
abbrev Fld.DBG_STATUS_FAILS : Field := ⟨Reg.DBG_STATUS, 5, 2⟩
abbrev Fld.DBG_CMD_OP : Field := ⟨Reg.DBG_CMD, 0, 2⟩
abbrev Fld.GLB_ID_STEP : Field := ⟨Reg.GLB_ID, 0, 8⟩
abbrev Fld.GLB_ID_PART : Field := ⟨Reg.GLB_ID, 16, 16⟩
abbrev Fld.GLB_VERSION_MAP : Field := ⟨Reg.GLB_VERSION, 0, 16⟩
abbrev Fld.GLB_VERSION_ROM : Field := ⟨Reg.GLB_VERSION, 16, 16⟩
abbrev Fld.GLB_STATUS_MIXED : Field := ⟨Reg.GLB_STATUS, 0, 1⟩
abbrev Fld.GLB_STATUS_COMMITTING : Field := ⟨Reg.GLB_STATUS, 1, 1⟩
abbrev Fld.GLB_STATUS_IN_SERVICE : Field := ⟨Reg.GLB_STATUS, 2, 1⟩
abbrev Fld.GLB_STATUS_LOCKED : Field := ⟨Reg.GLB_STATUS, 3, 1⟩
abbrev Fld.GLB_STATUS_RECOVERY : Field := ⟨Reg.GLB_STATUS, 4, 1⟩
abbrev Fld.GLB_STATUS_STAGE_FULL : Field := ⟨Reg.GLB_STATUS, 5, 1⟩
abbrev Fld.GLB_STATUS_LOCK_WR : Field := ⟨Reg.GLB_STATUS, 6, 1⟩
abbrev Fld.GLB_STATUS_RST_REFUSED : Field := ⟨Reg.GLB_STATUS, 7, 1⟩
abbrev Fld.GLB_STATUS_CMT_REFUSED : Field := ⟨Reg.GLB_STATUS, 8, 1⟩
abbrev Fld.GLB_RSTCAUSE_CAUSE : Field := ⟨Reg.GLB_RSTCAUSE, 0, 3⟩
abbrev Fld.GLB_RSTCAUSE_FROM_FREEZE : Field := ⟨Reg.GLB_RSTCAUSE, 3, 1⟩
abbrev Fld.GLB_RSTCTL_WARM : Field := ⟨Reg.GLB_RSTCTL, 0, 1⟩
abbrev Fld.GLB_RSTCTL_HANDOVER : Field := ⟨Reg.GLB_RSTCTL, 1, 1⟩
abbrev Fld.GLB_RSTCTL_KEY : Field := ⟨Reg.GLB_RSTCTL, 16, 16⟩
abbrev Fld.GLB_CFGCTL_VIEW_MBUS : Field := ⟨Reg.GLB_CFGCTL, 0, 1⟩
abbrev Fld.GLB_CFGCTL_VIEW_CAP : Field := ⟨Reg.GLB_CFGCTL, 1, 1⟩
abbrev Fld.GLB_CMT_OP : Field := ⟨Reg.GLB_CMT, 0, 2⟩
abbrev Fld.GLB_CMTSTAT_STAGED : Field := ⟨Reg.GLB_CMTSTAT, 0, 13⟩
abbrev Fld.GLB_CMTSTAT_LAST : Field := ⟨Reg.GLB_CMTSTAT, 16, 2⟩
abbrev Fld.GLB_CMTSTAT_VIA : Field := ⟨Reg.GLB_CMTSTAT, 18, 1⟩
abbrev Fld.GLB_LOCK_LOCK : Field := ⟨Reg.GLB_LOCK, 0, 1⟩
abbrev Fld.GLB_WINSEL_WIN : Field := ⟨Reg.GLB_WINSEL, 0, 8⟩

/-- Rows of the PRT register table. -/
def regsPrt : List RegDef := [
  { name := "PRT_MODE", addr := 0x100000, count := 8, stride := 0x2000, reset := 0x4, rw := 0xf, shadowed := true },
  { name := "PRT_STATUS", addr := 0x100004, count := 8, stride := 0x2000, w1c := 0x4 },
  { name := "PRT_MAC_LO", addr := 0x100008, count := 8, stride := 0x2000, rw := 0xffffffff, shadowed := true },
  { name := "PRT_MAC_HI", addr := 0x10000c, count := 8, stride := 0x2000, rw := 0xffff, shadowed := true },
  { name := "PRT_PRIMAP", addr := 0x100010, count := 8, stride := 0x2000, reset := 0xfac688, rw := 0xffffff, shadowed := true },
  { name := "PRT_LOSSLESS", addr := 0x100014, count := 8, stride := 0x2000, reset := 0x8, rw := 0xff, w1c := 0x100, shadowed := true },
  { name := "PRT_PFC_THR", addr := 0x100018, count := 8, stride := 0x2000, reset := 0x8000a00, rw := 0xffffffff, shadowed := true },
  { name := "PRT_ETS_TSA", addr := 0x10001c, count := 8, stride := 0x2000, rw := 0xff, shadowed := true },
  { name := "PRT_ETS_BW0", addr := 0x100020, count := 8, stride := 0x2000, reset := 0xc0c0c0c, rw := 0xffffffff, shadowed := true },
  { name := "PRT_ETS_BW1", addr := 0x100024, count := 8, stride := 0x2000, reset := 0xd0d0d0d, rw := 0xffffffff, shadowed := true },
  { name := "PRT_DEFPRI", addr := 0x100028, count := 8, stride := 0x2000, rw := 0x7, shadowed := true },
  { name := "PRT_RX_FRAMES", addr := 0x100100, count := 8, stride := 0x2000, rc := 0xffffffff },
  { name := "PRT_TX_FRAMES", addr := 0x100104, count := 8, stride := 0x2000, rc := 0xffffffff },
  { name := "PRT_FCS_ERR", addr := 0x100108, count := 8, stride := 0x2000, rc := 0xffffffff },
  { name := "PRT_FEC_CORR", addr := 0x10010c, count := 8, stride := 0x2000, rc := 0xffffffff },
  { name := "PRT_FEC_UNCORR", addr := 0x100110, count := 8, stride := 0x2000, rc := 0xffffffff },
  { name := "PRT_RX_DROP", addr := 0x100114, count := 8, stride := 0x2000, rc := 0xffffffff },
  { name := "PRT_LOSSY_DROP", addr := 0x100118, count := 8, stride := 0x2000, rc := 0xffffffff },
  { name := "PRT_NONROCE_DROP", addr := 0x10011c, count := 8, stride := 0x2000, rc := 0xffffffff },
  { name := "PRT_PFC_TX", addr := 0x100120, count := 8, stride := 0x2000, rc := 0xffffffff },
  { name := "PRT_PFC_RX", addr := 0x100124, count := 8, stride := 0x2000, rc := 0xffffffff }]

/-- Rows of the TRN register table. -/
def regsTrn0 : List RegDef := [
  { name := "TRN_CTRL", addr := 0x120000, reset := 0x400e, rw := 0xff0f, shadowed := true },
  { name := "TRN_PMTU", addr := 0x120004, reset := 0x2, rw := 0x3, shadowed := true, ranges := [(0, 2, 0, 2)] },
  { name := "TRN_REQ_TIMER", addr := 0x120008, reset := 0x70c, rw := 0x71f, shadowed := true },
  { name := "TRN_RNR", addr := 0x12000c, reset := 0xa, rw := 0x1f, shadowed := true },
  { name := "TRN_MISSQ", addr := 0x120010, reset := 0x8000c00, rw := 0xfff0fff, shadowed := true },
  { name := "TRN_CNP", addr := 0x120014, reset := 0x8013704, rw := 0xfffffff, shadowed := true, ranges := [(0, 8, 1, 255)] },
  { name := "TRN_RP_STEP", addr := 0x120018, reset := 0xc80028, rw := 0xffffffff, shadowed := true },
  { name := "TRN_QP_COUNT", addr := 0x120020 },
  { name := "TRN_QP_CONN", addr := 0x120024 },
  { name := "TRN_MISSQ_PEAK", addr := 0x120028, rc := 0x1fff },
  { name := "TRN_SVC_MAC_LO", addr := 0x120030, count := 2, stride := 0x8, rw := 0xffffffff, shadowed := true },
  { name := "TRN_SVC_MAC_HI", addr := 0x120034, count := 2, stride := 0x8, rw := 0xffff, shadowed := true },
  { name := "TRN_SVC_IP4", addr := 0x120040, count := 2, stride := 0x4, rw := 0xffffffff, shadowed := true },
  { name := "TRN_SVC_IP4", addr := 0x120048, count := 2, stride := 0x4, rw := 0xffffffff, shadowed := true },
  { name := "TRN_SVC_IP6", addr := 0x120060, count := 4, stride := 0x4, rw := 0xffffffff, shadowed := true },
  { name := "TRN_SVC_IP6", addr := 0x120070, count := 4, stride := 0x4, rw := 0xffffffff, shadowed := true },
  { name := "TRN_SVC_IP6", addr := 0x120080, count := 4, stride := 0x4, rw := 0xffffffff, shadowed := true },
  { name := "TRN_SVC_IP6", addr := 0x120090, count := 4, stride := 0x4, rw := 0xffffffff, shadowed := true },
  { name := "TRN_PKEY", addr := 0x1200a0, reset := 0xffff, rw := 0xffff, shadowed := true },
  { name := "TRN_ERR_HOLD", addr := 0x1200a4, reset := 0xa, rw := 0xff, shadowed := true },
  { name := "TRN_EVT", addr := 0x1200c0, w1c := 0x3f },
  { name := "TRN_EVT_EN", addr := 0x1200c4, reset := 0x3f, rw := 0x3f },
  { name := "TRN_NAK_SEQ", addr := 0x120100, rc := 0xffffffff },
  { name := "TRN_NAK_INV", addr := 0x120104, rc := 0xffffffff },
  { name := "TRN_NAK_ACC", addr := 0x120108, rc := 0xffffffff }]

/-- Rows of the TRN register table. -/
def regsTrn1 : List RegDef := [
  { name := "TRN_NAK_OP", addr := 0x12010c, rc := 0xffffffff },
  { name := "TRN_NAK_RNR", addr := 0x120110, rc := 0xffffffff },
  { name := "TRN_DUP_WRITE", addr := 0x120114, rc := 0xffffffff },
  { name := "TRN_DUP_READ", addr := 0x120118, rc := 0xffffffff },
  { name := "TRN_DUP_ATOMIC", addr := 0x12011c, rc := 0xffffffff },
  { name := "TRN_ICRC_DROP", addr := 0x120120, rc := 0xffffffff },
  { name := "TRN_UNKNOWN_QP_DROP", addr := 0x120124, rc := 0xffffffff },
  { name := "TRN_CNP_TX", addr := 0x120128, rc := 0xffffffff },
  { name := "TRN_CNP_RX", addr := 0x12012c, rc := 0xffffffff },
  { name := "TRN_RETRY", addr := 0x120130, rc := 0xffffffff },
  { name := "TRN_QP_ERR", addr := 0x120134, rc := 0xffffffff },
  { name := "TRN_REWIND_TX", addr := 0x120138, rc := 0xffffffff },
  { name := "TRN_QPSEL", addr := 0x120200, rw := 0xffffff },
  { name := "TRN_QPINFO0", addr := 0x120204 },
  { name := "TRN_QPINFO1", addr := 0x120208 },
  { name := "TRN_QPINFO2", addr := 0x12020c },
  { name := "TRN_QPINFO3", addr := 0x120210 }]

/-- Rows of the KEY register table. -/
def regsKey : List RegDef := [
  { name := "KEY_FENCE_TMO", addr := 0x140000, reset := 0x64, rw := 0xffff, shadowed := true, ranges := [(0, 16, 1, 65535)] },
  { name := "KEY_STATUS", addr := 0x140004 },
  { name := "KEY_REGIONS", addr := 0x140008 },
  { name := "KEY_KEYS", addr := 0x14000c },
  { name := "KEY_PDSEL", addr := 0x140010, rw := 0xffff },
  { name := "KEY_PDCTL", addr := 0x140014, reset := 0x3, rw := 0xff03, shadowed := true },
  { name := "KEY_PDCRED_LO", addr := 0x140018, wo := 0xffffffff, shadowed := true },
  { name := "KEY_PDCRED_HI", addr := 0x14001c, wo := 0xffffffff, shadowed := true },
  { name := "KEY_LASTVIOL0", addr := 0x140020 },
  { name := "KEY_LASTVIOL1", addr := 0x140024 },
  { name := "KEY_EVT", addr := 0x1400c0, w1c := 0x7 },
  { name := "KEY_EVT_EN", addr := 0x1400c4, reset := 0x6, rw := 0x7 },
  { name := "KEY_VIOL_KEY", addr := 0x140100, rc := 0xffffffff },
  { name := "KEY_VIOL_PD", addr := 0x140104, rc := 0xffffffff },
  { name := "KEY_VIOL_HOME", addr := 0x140108, rc := 0xffffffff },
  { name := "KEY_VIOL_BOUNDS", addr := 0x14010c, rc := 0xffffffff },
  { name := "KEY_VIOL_RIGHTS", addr := 0x140110, rc := 0xffffffff },
  { name := "KEY_CACHE_MISS", addr := 0x140114, rc := 0xffffffff },
  { name := "KEY_FENCES", addr := 0x140118, rc := 0xffffffff }]

/-- Rows of the CQI register table. -/
def regsCqi : List RegDef := [
  { name := "CQI_CTRL", addr := 0x160000, reset := 0x1, rw := 0x1, shadowed := true },
  { name := "CQI_ARB", addr := 0x160004, reset := 0x201070f, rw := 0x7ffffff, shadowed := true, ranges := [(24, 3, 0, 3)] },
  { name := "CQI_IDLE", addr := 0x160008, reset := 0x753001f4, rw := 0xffffffff, shadowed := true },
  { name := "CQI_FETCH", addr := 0x16000c, reset := 0x410, rw := 0x1f3f, shadowed := true, ranges := [(0, 6, 1, 32), (8, 5, 1, 16)] },
  { name := "CQI_STEST", addr := 0x160010, reset := 0xa, rw := 0xffff, shadowed := true },
  { name := "CQI_QUEUES", addr := 0x160020 },
  { name := "CQI_FROZEN", addr := 0x160024 },
  { name := "CQI_EVT", addr := 0x1600c0, w1c := 0x3f },
  { name := "CQI_EVT_EN", addr := 0x1600c4, reset := 0x1a, rw := 0x3f },
  { name := "CQI_FETCHED", addr := 0x160100, rc := 0xffffffff },
  { name := "CQI_COMPLETED", addr := 0x160104, rc := 0xffffffff },
  { name := "CQI_ERR_COMPL", addr := 0x160108, rc := 0xffffffff },
  { name := "CQI_FREEZES", addr := 0x16010c, rc := 0xffffffff },
  { name := "CQI_NOTIFS", addr := 0x160110, rc := 0xffffffff },
  { name := "CQI_NQ_LOST", addr := 0x160114, rc := 0xffffffff },
  { name := "CQI_ABANDONS", addr := 0x160118, rc := 0xffffffff },
  { name := "CQI_DB_INVALID", addr := 0x16011c, rc := 0xffffffff },
  { name := "CQI_QSEL", addr := 0x160200, rw := 0x3fffffff },
  { name := "CQI_QINFO0", addr := 0x160204 },
  { name := "CQI_QINFO1", addr := 0x160208 },
  { name := "CQI_QINFO2", addr := 0x16020c },
  { name := "CQI_QINFO3", addr := 0x160210 }]

/-- Rows of the TIER register table. -/
def regsTier0 : List RegDef := [
  { name := "TIER_CTRL", addr := 0x180000, reset := 0x3, rw := 0x3, shadowed := true },
  { name := "TIER_STATUS", addr := 0x180004, w1c := 0x2 },
  { name := "TIER_T1_TOTAL", addr := 0x180008 },
  { name := "TIER_RESERVED", addr := 0x18000c },
  { name := "TIER_STREAM_RSV", addr := 0x180010 },
  { name := "TIER_MIRROR_RSV", addr := 0x180014 },
  { name := "TIER_TRANSIENT", addr := 0x180018, reset := 0x800, rw := 0xffff, shadowed := true, ranges := [(0, 16, 512, 65535)] },
  { name := "TIER_FLOAT", addr := 0x18001c },
  { name := "TIER_FLOAT_FREE", addr := 0x180020 },
  { name := "TIER_STREAMS", addr := 0x180024 },
  { name := "TIER_TSEL", addr := 0x180030, rw := 0xff },
  { name := "TIER_TQUOTA", addr := 0x180034, rw := 0x7fffff, shadowed := true },
  { name := "TIER_TPIN", addr := 0x180038, reset := 0x7fffff, rw := 0x7fffff, shadowed := true },
  { name := "TIER_TUSE", addr := 0x18003c },
  { name := "TIER_TPUSE", addr := 0x180040 },
  { name := "TIER_STRM_STALL", addr := 0x180050, reset := 0x3e8, rw := 0xffff, shadowed := true },
  { name := "TIER_EVT", addr := 0x1800c0, w1c := 0x3f },
  { name := "TIER_EVT_EN", addr := 0x1800c4, reset := 0x36, rw := 0x3f },
  { name := "TIER_T2_FILLS", addr := 0x180100, rc := 0xffffffff },
  { name := "TIER_DEADLINE_MISS", addr := 0x180104, rc := 0xffffffff },
  { name := "TIER_POISON_RET", addr := 0x180108, rc := 0xffffffff },
  { name := "TIER_NEVER_WRITTEN", addr := 0x18010c, rc := 0xffffffff },
  { name := "TIER_HEAL_OK", addr := 0x180110, rc := 0xffffffff },
  { name := "TIER_HEAL_FAIL", addr := 0x180114, rc := 0xffffffff },
  { name := "TIER_EVICT", addr := 0x180118, rc := 0xffffffff }]

/-- Rows of the TIER register table. -/
def regsTier1 : List RegDef := [
  { name := "TIER_CLAIM_DROP", addr := 0x18011c, rc := 0xffffffff },
  { name := "TIER_PARISON_LOAD", addr := 0x180120, rc := 0xffffffff }]

/-- Rows of the LC register table. -/
def regsLc : List RegDef := [
  { name := "LC_CTRL", addr := 0x1a0000, rw := 0x1 },
  { name := "LC_STATUS", addr := 0x1a0004, w1c := 0x4 },
  { name := "LC_LOCK", addr := 0x1a0008, rw := 0xff },
  { name := "LC_MOP_ADDR_LO", addr := 0x1a0010, rw := 0xffffffc0 },
  { name := "LC_MOP_ADDR_HI", addr := 0x1a0014, rw := 0x7ffff },
  { name := "LC_MOP_LINES", addr := 0x1a0018, rw := 0xfffffff },
  { name := "LC_MOP_CMD", addr := 0x1a001c, wo := 0xff0f },
  { name := "LC_MOP_STATUS", addr := 0x1a0020 },
  { name := "LC_MOP_DONE", addr := 0x1a0024 },
  { name := "LC_EVT", addr := 0x1a00c0, w1c := 0xf },
  { name := "LC_EVT_EN", addr := 0x1a00c4, reset := 0xe, rw := 0xf },
  { name := "LC_HIT", addr := 0x1a0100, rc := 0xffffffff },
  { name := "LC_MISS", addr := 0x1a0104, rc := 0xffffffff },
  { name := "LC_WB", addr := 0x1a0108, rc := 0xffffffff },
  { name := "LC_CORR", addr := 0x1a010c, rc := 0xffffffff },
  { name := "LC_UNCORR", addr := 0x1a0110, rc := 0xffffffff },
  { name := "LC_FILL_JOIN", addr := 0x1a0114, rc := 0xffffffff }]

/-- Rows of the DMC register table. -/
def regsDmc : List RegDef := [
  { name := "DMC_CTRL", addr := 0x200000, count := 16, stride := 0x1000, w1s := 0x1 },
  { name := "DMC_STATUS", addr := 0x200004, count := 16, stride := 0x1000 },
  { name := "DMC_CAPACITY", addr := 0x200008, count := 16, stride := 0x1000 },
  { name := "DMC_SCHED", addr := 0x20000c, count := 16, stride := 0x1000, reset := 0x80043040, rw := 0xffffffff, shadowed := true },
  { name := "DMC_REFCTL", addr := 0x200010, count := 16, stride := 0x1000, reset := 0x4011, rw := 0xffdf, shadowed := true, ranges := [(1, 4, 0, 8)] },
  { name := "DMC_REFSTAT", addr := 0x200014, count := 16, stride := 0x1000, rc := 0xf0 },
  { name := "DMC_RHCTL", addr := 0x200018, count := 16, stride := 0x1000, reset := 0x13, rw := 0x3f, shadowed := true, ranges := [(1, 4, 6, 12)] },
  { name := "DMC_ERRCTL", addr := 0x20001c, count := 16, stride := 0x1000, reset := 0x408, rw := 0xffff, shadowed := true },
  { name := "DMC_LASTERR0", addr := 0x200020, count := 16, stride := 0x1000 },
  { name := "DMC_LASTERR1", addr := 0x200024, count := 16, stride := 0x1000 },
  { name := "DMC_EVT", addr := 0x2000c0, count := 16, stride := 0x1000, w1c := 0x1f },
  { name := "DMC_EVT_EN", addr := 0x2000c4, count := 16, stride := 0x1000, reset := 0x1b, rw := 0x1f },
  { name := "DMC_RD", addr := 0x200100, count := 16, stride := 0x1000, rc := 0xffffffff },
  { name := "DMC_WR", addr := 0x200104, count := 16, stride := 0x1000, rc := 0xffffffff },
  { name := "DMC_FWD", addr := 0x200108, count := 16, stride := 0x1000, rc := 0xffffffff },
  { name := "DMC_ACT", addr := 0x20010c, count := 16, stride := 0x1000, rc := 0xffffffff },
  { name := "DMC_REF_POSTPONED", addr := 0x200110, count := 16, stride := 0x1000, rc := 0xffffffff },
  { name := "DMC_REF_FORCED", addr := 0x200114, count := 16, stride := 0x1000, rc := 0xffffffff },
  { name := "DMC_RH_REFRESH", addr := 0x200118, count := 16, stride := 0x1000, rc := 0xffffffff },
  { name := "DMC_RFM", addr := 0x20011c, count := 16, stride := 0x1000, rc := 0xffffffff },
  { name := "DMC_UNCORR", addr := 0x200120, count := 16, stride := 0x1000, rc := 0xffffffff },
  { name := "DMC_CAPAR", addr := 0x200124, count := 16, stride := 0x1000, rc := 0xffffffff }]

/-- Rows of the ECC register table. -/
def regsEcc0 : List RegDef := [
  { name := "ECC_CTRL", addr := 0x220000, reset := 0x3, rw := 0x3, shadowed := true },
  { name := "ECC_PATROL", addr := 0x220004, reset := 0x18, rw := 0xffff, shadowed := true, ranges := [(0, 16, 1, 65535)] },
  { name := "ECC_PATROL_STAT", addr := 0x220008 },
  { name := "ECC_THRESH", addr := 0x22000c, reset := 0x10000003, rw := 0xffff00ff, shadowed := true, ranges := [(0, 8, 1, 255)] },
  { name := "ECC_SCRUB_ADDR_LO", addr := 0x220010, rw := 0xffffffc0 },
  { name := "ECC_SCRUB_ADDR_HI", addr := 0x220014, rw := 0x7ffff },
  { name := "ECC_SCRUB_LINES", addr := 0x220018, rw := 0xfffffff },
  { name := "ECC_SCRUB_CMD", addr := 0x22001c, wo := 0x1f },
  { name := "ECC_SCRUB_STATUS", addr := 0x220020, w1c := 0x6 },
  { name := "ECC_SCRUB_WORDS_LO", addr := 0x220024 },
  { name := "ECC_SCRUB_WORDS_HI", addr := 0x220028 },
  { name := "ECC_SCRUB_CORR1", addr := 0x22002c },
  { name := "ECC_SCRUB_CORR2", addr := 0x220030 },
  { name := "ECC_SCRUB_UNCORR", addr := 0x220034 },
  { name := "ECC_SCRUB_SKIPPED", addr := 0x220038 },
  { name := "ECC_SCRUB_FIRST_LO", addr := 0x22003c },
  { name := "ECC_SCRUB_FIRST_HI", addr := 0x220040 },
  { name := "ECC_SCRUB_LAST_LO", addr := 0x220044 },
  { name := "ECC_SCRUB_LAST_HI", addr := 0x220048 },
  { name := "ECC_RMSEL", addr := 0x220050, rw := 0xff },
  { name := "ECC_RMADDR", addr := 0x220054, rw := 0xffffffff },
  { name := "ECC_RMCTL", addr := 0x220058, reset := 0x10000, rw := 0xf, wo := 0x60 },
  { name := "ECC_CLOG0", addr := 0x220060 },
  { name := "ECC_CLOG1", addr := 0x220064 },
  { name := "ECC_EVT", addr := 0x2200c0, w1c := 0x7f }]

/-- Rows of the ECC register table. -/
def regsEcc1 : List RegDef := [
  { name := "ECC_EVT_EN", addr := 0x2200c4, reset := 0x3c, rw := 0x7f },
  { name := "ECC_T1_CORR1", addr := 0x220100, rc := 0xffffffff },
  { name := "ECC_T1_CORR2", addr := 0x220104, rc := 0xffffffff },
  { name := "ECC_LINE_SUSPECT", addr := 0x220108, rc := 0xffffffff },
  { name := "ECC_CTX_CORR", addr := 0x22010c, rc := 0xffffffff },
  { name := "ECC_CTX_UNCORR", addr := 0x220110, rc := 0xffffffff },
  { name := "ECC_REMAP_LOADS", addr := 0x220114, rc := 0xffffffff },
  { name := "ECC_CLOG_LOST", addr := 0x220118, rc := 0xffffffff }]

/-- Rows of the FTL register table. -/
def regsFtl0 : List RegDef := [
  { name := "FTL_CTRL", addr := 0x240000, reset := 0x320003, rw := 0xffff0003, shadowed := true, ranges := [(16, 16, 1, 65535)] },
  { name := "FTL_STATUS", addr := 0x240004, w1c := 0x40 },
  { name := "FTL_OP", addr := 0x240008, reset := 0x19, rw := 0x3f, shadowed := true, ranges := [(0, 6, 10, 50)] },
  { name := "FTL_RESERVE", addr := 0x24000c, reset := 0x18, rw := 0xfffff, shadowed := true },
  { name := "FTL_CKPT", addr := 0x240010, reset := 0x1e0040, rw := 0xffffffff, shadowed := true, ranges := [(0, 16, 0, 64), (16, 16, 0, 30)] },
  { name := "FTL_WL", addr := 0x240014, reset := 0xc8, rw := 0xffff, shadowed := true },
  { name := "FTL_VERIFY", addr := 0x240018, reset := 0x24b, rw := 0xffff, shadowed := true, ranges := [(8, 8, 1, 255)] },
  { name := "FTL_RESERVE2", addr := 0x24001c, reset := 0x804, rw := 0xffff, shadowed := true },
  { name := "FTL_USABLE_LO", addr := 0x240020 },
  { name := "FTL_USABLE_HI", addr := 0x240024 },
  { name := "FTL_MAPPED_LO", addr := 0x240028 },
  { name := "FTL_MAPPED_HI", addr := 0x24002c },
  { name := "FTL_SB", addr := 0x240030 },
  { name := "FTL_WEAR", addr := 0x240034 },
  { name := "FTL_SPARE_MIN", addr := 0x240038 },
  { name := "FTL_MOUNT_MS", addr := 0x24003c },
  { name := "FTL_STRIPE", addr := 0x240040 },
  { name := "FTL_STRIPE", addr := 0x240044, reset := 0x1 },
  { name := "FTL_STRIPE", addr := 0x240048, reset := 0x2 },
  { name := "FTL_STRIPE", addr := 0x24004c, reset := 0x3 },
  { name := "FTL_STRIPE", addr := 0x240050, reset := 0x4 },
  { name := "FTL_STRIPE", addr := 0x240054, reset := 0x5 },
  { name := "FTL_STRIPE", addr := 0x240058, reset := 0x6 },
  { name := "FTL_STRIPE", addr := 0x24005c, reset := 0x7 },
  { name := "FTL_STRIPE", addr := 0x240060, reset := 0x8 }]

/-- Rows of the FTL register table. -/
def regsFtl1 : List RegDef := [
  { name := "FTL_STRIPE", addr := 0x240064, reset := 0x9 },
  { name := "FTL_STRIPE", addr := 0x240068, reset := 0xa },
  { name := "FTL_STRIPE", addr := 0x24006c, reset := 0xb },
  { name := "FTL_STRIPE", addr := 0x240070, reset := 0xc },
  { name := "FTL_STRIPE", addr := 0x240074, reset := 0xd },
  { name := "FTL_STRIPE", addr := 0x240078, reset := 0xe },
  { name := "FTL_STRIPE", addr := 0x24007c, reset := 0xf },
  { name := "FTL_STRIPE", addr := 0x240080, reset := 0x10 },
  { name := "FTL_STRIPE", addr := 0x240084, reset := 0x11 },
  { name := "FTL_STRIPE", addr := 0x240088, reset := 0x12 },
  { name := "FTL_STRIPE", addr := 0x24008c, reset := 0x13 },
  { name := "FTL_STRIPE", addr := 0x240090, reset := 0x14 },
  { name := "FTL_STRIPE", addr := 0x240094, reset := 0x15 },
  { name := "FTL_STRIPE", addr := 0x240098, reset := 0x16 },
  { name := "FTL_STRIPE", addr := 0x24009c, reset := 0x17 },
  { name := "FTL_STRIPE", addr := 0x2400a0, reset := 0x18 },
  { name := "FTL_STRIPE", addr := 0x2400a4, reset := 0x19 },
  { name := "FTL_STRIPE", addr := 0x2400a8, reset := 0x1a },
  { name := "FTL_STRIPE", addr := 0x2400ac, reset := 0x1b },
  { name := "FTL_STRIPE", addr := 0x2400b0, reset := 0x1c },
  { name := "FTL_STRIPE", addr := 0x2400b4, reset := 0x1d },
  { name := "FTL_STRIPE", addr := 0x2400b8, reset := 0x1e },
  { name := "FTL_STRIPE", addr := 0x2400bc, reset := 0x1f },
  { name := "FTL_EVT", addr := 0x2400c0, w1c := 0x3f },
  { name := "FTL_EVT_EN", addr := 0x2400c4, reset := 0x3f, rw := 0x3f }]

/-- Rows of the FTL register table. -/
def regsFtl2 : List RegDef := [
  { name := "FTL_THRSEL", addr := 0x2400d0, rw := 0x1ff3 },
  { name := "FTL_THRDATA", addr := 0x2400d4, count := 4, stride := 0x4, rw := 0xffffffff },
  { name := "FTL_CKPTS", addr := 0x240100, rc := 0xffffffff },
  { name := "FTL_GC_VICTIMS", addr := 0x240104, rc := 0xffffffff },
  { name := "FTL_MOVES_STALE", addr := 0x240108, rc := 0xffffffff },
  { name := "FTL_VERIFY_RELOC", addr := 0x24010c, rc := 0xffffffff },
  { name := "FTL_PARITY_REBUILD", addr := 0x240110, rc := 0xffffffff },
  { name := "FTL_RETIRED", addr := 0x240114, rc := 0xffffffff },
  { name := "FTL_ERASE_INCOMPLETE", addr := 0x240118, rc := 0xffffffff },
  { name := "FTL_TORN", addr := 0x24011c, rc := 0xffffffff },
  { name := "FTL_RO_REFUSED", addr := 0x240120, rc := 0xffffffff }]

/-- Rows of the FCH register table. -/
def regsFch : List RegDef := [
  { name := "FCH_CTRL", addr := 0x260000, count := 32, stride := 0x800, w1s := 0x1 },
  { name := "FCH_STATUS", addr := 0x260004, count := 32, stride := 0x800 },
  { name := "FCH_GEOM", addr := 0x260008, count := 32, stride := 0x800 },
  { name := "FCH_TEMP", addr := 0x26000c, count := 32, stride := 0x800 },
  { name := "FCH_RETRY", addr := 0x260010, count := 32, stride := 0x800, reset := 0x8, rw := 0xf, shadowed := true, ranges := [(0, 4, 1, 15)] },
  { name := "FCH_ERASE", addr := 0x260014, count := 32, stride := 0x800, reset := 0x4, rw := 0xf, shadowed := true },
  { name := "FCH_SPARE", addr := 0x260018, count := 32, stride := 0x800 },
  { name := "FCH_PE", addr := 0x26001c, count := 32, stride := 0x800 },
  { name := "FCH_RATED", addr := 0x260020, count := 32, stride := 0x800 },
  { name := "FCH_PROG_FAIL", addr := 0x260100, count := 32, stride := 0x800, rc := 0xffffffff },
  { name := "FCH_ERASE_FAIL", addr := 0x260104, count := 32, stride := 0x800, rc := 0xffffffff },
  { name := "FCH_RETRY_READS", addr := 0x260108, count := 32, stride := 0x800, rc := 0xffffffff },
  { name := "FCH_SOFT_READS", addr := 0x26010c, count := 32, stride := 0x800, rc := 0xffffffff },
  { name := "FCH_UNCORR", addr := 0x260110, count := 32, stride := 0x800, rc := 0xffffffff },
  { name := "FCH_SUSPENDS", addr := 0x260114, count := 32, stride := 0x800, rc := 0xffffffff }]

/-- Rows of the TWN register table. -/
def regsTwn0 : List RegDef := [
  { name := "TWN_CTRL", addr := 0x2a0000, reset := 0x1, rw := 0x7, shadowed := true },
  { name := "TWN_STATUS", addr := 0x2a0004 },
  { name := "TWN_EPOCH", addr := 0x2a0008, reset := 0x7d0, rw := 0x7fff, shadowed := true, ranges := [(0, 15, 500, 16000)] },
  { name := "TWN_HEALTH", addr := 0x2a000c },
  { name := "TWN_PHEALTH", addr := 0x2a0010 },
  { name := "TWN_CMD", addr := 0x2a0014, wo := 0x1f },
  { name := "TWN_LOCKSTEP", addr := 0x2a0018, reset := 0x303e8, rw := 0xfffff, shadowed := true, ranges := [(0, 16, 1, 65535), (16, 4, 1, 15)] },
  { name := "TWN_FAILBACK", addr := 0x2a001c, reset := 0x3c, rw := 0xffff, shadowed := true },
  { name := "TWN_PAIR", addr := 0x2a0020, reset := 0x78, rw := 0xffff, shadowed := true },
  { name := "TWN_SELFTEST", addr := 0x2a0024, reset := 0x20181e, rw := 0xffffff, shadowed := true, ranges := [(8, 8, 1, 255)] },
  { name := "TWN_LINK", addr := 0x2a0028 },
  { name := "TWN_OFFSET", addr := 0x2a002c },
  { name := "TWN_EPOCHNUM_LO", addr := 0x2a0030, count := 2, stride := 0x8 },
  { name := "TWN_EPOCHNUM_HI", addr := 0x2a0034, count := 2, stride := 0x8 },
  { name := "TWN_TERM", addr := 0x2a0040, count := 2, stride := 0x4 },
  { name := "TWN_RESYNC", addr := 0x2a0048 },
  { name := "TWN_EVT", addr := 0x2a00c0, w1c := 0x7f },
  { name := "TWN_EVT_EN", addr := 0x2a00c4, reset := 0x7e, rw := 0x7f },
  { name := "TWN_DATA_TX", addr := 0x2a0100, rc := 0xffffffff },
  { name := "TWN_DATA_RX", addr := 0x2a0104, rc := 0xffffffff },
  { name := "TWN_CONFIRM_WAIT_MAX", addr := 0x2a0108, rc := 0xffffffff },
  { name := "TWN_DELTA_TX", addr := 0x2a010c, rc := 0xffffffff },
  { name := "TWN_HB_MISS", addr := 0x2a0110, rc := 0xffffffff },
  { name := "TWN_CRC_ERR", addr := 0x2a0114, rc := 0xffffffff },
  { name := "TWN_REPLAY", addr := 0x2a0118, rc := 0xffffffff }]

/-- Rows of the TWN register table. -/
def regsTwn1 : List RegDef := [
  { name := "TWN_TAKEOVERS", addr := 0x2a011c, rc := 0xffffffff },
  { name := "TWN_HANDOVERS", addr := 0x2a0120, rc := 0xffffffff },
  { name := "TWN_HEALS_SERVED", addr := 0x2a0124, rc := 0xffffffff },
  { name := "TWN_LOCKSTEP_FAIL", addr := 0x2a0128, rc := 0xffffffff },
  { name := "TWN_LEASE_LAPSE", addr := 0x2a012c, rc := 0xffffffff }]

/-- Rows of the COL register table. -/
def regsCol : List RegDef := [
  { name := "COL_CTRL", addr := 0x2c0000, reset := 0x4, rw := 0x7, shadowed := true },
  { name := "COL_STATUS", addr := 0x2c0004, w1c := 0x4 },
  { name := "COL_UDP", addr := 0x2c0008, reset := 0xbb3a, rw := 0xffff, shadowed := true },
  { name := "COL_TMO", addr := 0x2c000c, reset := 0x7d0, rw := 0xffff, shadowed := true, ranges := [(0, 16, 1, 65535)] },
  { name := "COL_CRED_LO", addr := 0x2c0010, wo := 0xffffffff },
  { name := "COL_CRED_HI", addr := 0x2c0014, wo := 0xffffffff },
  { name := "COL_PATH_LO", addr := 0x2c0018 },
  { name := "COL_PATH_HI", addr := 0x2c001c },
  { name := "COL_IP", addr := 0x2c0020, count := 4, stride := 0x4, rw := 0xffffffff, shadowed := true },
  { name := "COL_DIR_IP", addr := 0x2c0030, count := 4, stride := 0x4, rw := 0xffffffff, shadowed := true },
  { name := "COL_PARENT_IP", addr := 0x2c0040, count := 4, stride := 0x4, rw := 0xffffffff, shadowed := true },
  { name := "COL_MEMBERS", addr := 0x2c0050 },
  { name := "COL_WORKERS", addr := 0x2c0054 },
  { name := "COL_KEYFREE", addr := 0x2c0058 },
  { name := "COL_EVT", addr := 0x2c00c0, w1c := 0x1f },
  { name := "COL_EVT_EN", addr := 0x2c00c4, reset := 0x1e, rw := 0x1f }]

/-- Rows of the PWS register table. -/
def regsPws0 : List RegDef := [
  { name := "PWS_STATUS", addr := 0x10000, w1c := 0x80 },
  { name := "PWS_SEQCTL", addr := 0x10004, rw := 0x307 },
  { name := "PWS_PHASE", addr := 0x10010, count := 4, stride := 0x4, reset := 0x5043214, rw := 0xffffffff, ranges := [(0, 8, 1, 200), (8, 8, 1, 255)] },
  { name := "PWS_PHASE", addr := 0x1002c, reset := 0x5043214, rw := 0xffffffff, ranges := [(0, 8, 1, 200), (8, 8, 1, 255)] },
  { name := "PWS_PHASE", addr := 0x1010020, count := 3, stride := 0x4, reset := 0x5043214, rw := 0xffffffff, ranges := [(0, 8, 1, 200), (8, 8, 1, 255)] },
  { name := "PWS_SHUT", addr := 0x10020, reset := 0x6405dc, rw := 0xff1fff, shadowed := true, ranges := [(0, 13, 100, 5000), (16, 8, 20, 255)] },
  { name := "PWS_BTN", addr := 0x10024, reset := 0x8, rw := 0x1f, shadowed := true, ranges := [(0, 4, 4, 15)] },
  { name := "PWS_CMD", addr := 0x10028, wo := 0xf },
  { name := "PWS_RAIL", addr := 0x10040, count := 24, stride := 0x4, rw := 0xffff03ff },
  { name := "PWS_RAILSTAT", addr := 0x100a0 },
  { name := "PWS_RAILQ", addr := 0x100a4 },
  { name := "PWS_RAILFLT", addr := 0x100a8, w1c := 0xffffff },
  { name := "PWS_RAILPG", addr := 0x100ac },
  { name := "PWS_EVT", addr := 0x100c0, w1c := 0x7f },
  { name := "PWS_EVT_EN", addr := 0x100c4, reset := 0x7f, rw := 0x7f },
  { name := "PWS_PG_GLITCH", addr := 0x10100, rc := 0xffffffff },
  { name := "PWS_QUAL_RESTART", addr := 0x10104, rc := 0xffffffff },
  { name := "PWS_WARNINGS", addr := 0x10108, rc := 0xffffffff },
  { name := "PWS_HU_TESTS", addr := 0x1010c, rc := 0xffffffff },
  { name := "PWS_VSCFG", addr := 0x10200, count := 8, stride := 0x10, reset := 0xfff0000, rw := 0xfff0fff },
  { name := "PWS_VSCTL", addr := 0x10204, count := 8, stride := 0x10, reset := 0x1f0, rw := 0x1f3 },
  { name := "PWS_VSVAL", addr := 0x10208, count := 8, stride := 0x10 },
  { name := "PWS_HUCFG", addr := 0x10300, reset := 0x3002718, rw := 0xffffffff, shadowed := true },
  { name := "PWS_HUMOD0", addr := 0x10304, reset := 0x27104e20, rw := 0xffffffff, shadowed := true },
  { name := "PWS_HUMOD1", addr := 0x10308, reset := 0x1a40032, rw := 0xffffffff, shadowed := true }]

/-- Rows of the PWS register table. -/
def regsPws1 : List RegDef := [
  { name := "PWS_HUK", addr := 0x1030c, reset := 0x1c22850, rw := 0xfffffff, shadowed := true },
  { name := "PWS_HU_C", addr := 0x10310 },
  { name := "PWS_HU_ESR", addr := 0x10314 },
  { name := "PWS_HU_E", addr := 0x10318 },
  { name := "PWS_HU_ENOW", addr := 0x1031c },
  { name := "PWS_BUDGET", addr := 0x10320 },
  { name := "PWS_HU_AGE", addr := 0x10324 }]

/-- Rows of the GOV register table. -/
def regsGov : List RegDef := [
  { name := "GOV_CTRL", addr := 0x20000, reset := 0x2, rw := 0x3, shadowed := true },
  { name := "GOV_STATUS", addr := 0x20004, w1c := 0x200 },
  { name := "GOV_PCAP", addr := 0x20008, reset := 0xa0, rw := 0x3ff, ranges := [(0, 10, 40, 1023)] },
  { name := "GOV_PEST", addr := 0x2000c },
  { name := "GOV_CMD", addr := 0x20010, wo := 0x7 },
  { name := "GOV_GATE", addr := 0x20014, reset := 0xc80064, rw := 0xffffffff, shadowed := true, ranges := [(0, 16, 1, 65535), (16, 16, 1, 65535)] },
  { name := "GOV_GATE2", addr := 0x20018, reset := 0x1f4, rw := 0xffff, shadowed := true, ranges := [(0, 16, 1, 65535)] },
  { name := "GOV_DIRTY", addr := 0x2001c, reset := 0x2000580, rw := 0xffffffff, shadowed := true },
  { name := "GOV_DIRTYNOW", addr := 0x20020 },
  { name := "GOV_ADMIT", addr := 0x20024 },
  { name := "GOV_TSEL", addr := 0x20028, rw := 0x1f },
  { name := "GOV_TVAL", addr := 0x2002c },
  { name := "GOV_WAKE_TMR", addr := 0x20030, rw := 0xffffffff },
  { name := "GOV_WAKESRC", addr := 0x20034 },
  { name := "GOV_EVT", addr := 0x200c0, w1c := 0x3f },
  { name := "GOV_EVT_EN", addr := 0x200c4, reset := 0x1d, rw := 0x3f },
  { name := "GOV_PAUSES", addr := 0x20100, rc := 0xffffffff },
  { name := "GOV_PAUSE_US", addr := 0x20104, rc := 0xffffffff },
  { name := "GOV_CAP_PERIODS", addr := 0x20108, rc := 0xffffffff },
  { name := "GOV_TSTEPS", addr := 0x2010c, rc := 0xffffffff },
  { name := "GOV_WAKES", addr := 0x20110, rc := 0xffffffff }]

/-- Rows of the SEAL register table. -/
def regsSeal : List RegDef := [
  { name := "SEAL_LOCK", addr := 0x60000, wo := 0x3 },
  { name := "SEAL_STATUS", addr := 0x60004, w1c := 0x20 },
  { name := "SEAL_OP", addr := 0x60008, wo := 0xffff000f },
  { name := "SEAL_LEN", addr := 0x6000c, rw := 0x1fff1fff },
  { name := "SEAL_OUTLEN", addr := 0x60010 },
  { name := "SEAL_KEYDST", addr := 0x60014, rw := 0x1fff },
  { name := "SEAL_KEYSEL", addr := 0x60018, rw := 0x1fff },
  { name := "SEAL_KCV_INFO", addr := 0x6001c },
  { name := "SEAL_KCV_LO", addr := 0x60020 },
  { name := "SEAL_KCV_HI", addr := 0x60024 },
  { name := "SEAL_ROOT_KCV_LO", addr := 0x60028 },
  { name := "SEAL_ROOT_KCV_HI", addr := 0x6002c },
  { name := "SEAL_KEYIN", addr := 0x60040, count := 16, stride := 0x4, wo := 0xffffffff },
  { name := "SEAL_IV", addr := 0x60080, count := 3, stride := 0x4, rw := 0xffffffff },
  { name := "SEAL_TAG", addr := 0x60090, count := 4, stride := 0x4, rw := 0xffffffff },
  { name := "SEAL_EVT", addr := 0x600c0, w1c := 0x3f },
  { name := "SEAL_EVT_EN", addr := 0x600c4, reset := 0x32, rw := 0x3f },
  { name := "SEAL_OPS", addr := 0x60100, rc := 0xffffffff },
  { name := "SEAL_AUTH_FAIL", addr := 0x60104, rc := 0xffffffff },
  { name := "SEAL_BUF", addr := 0x61000, count := 1024, stride := 0x4, rw := 0xffffffff }]

/-- Rows of the XTS register table. -/
def regsXts : List RegDef := [
  { name := "XTS_STATUS", addr := 0x280000 },
  { name := "XTS_DOMAINS", addr := 0x280004 },
  { name := "XTS_DOMSEL", addr := 0x280008, rw := 0xfff },
  { name := "XTS_DOMINFO", addr := 0x28000c },
  { name := "XTS_EVT", addr := 0x2800c0, w1c := 0x3 },
  { name := "XTS_EVT_EN", addr := 0x2800c4, reset := 0x3, rw := 0x3 },
  { name := "XTS_ENC_UNITS", addr := 0x280100, rc := 0xffffffff },
  { name := "XTS_DEC_UNITS", addr := 0x280104, rc := 0xffffffff }]

/-- Rows of the CFL register table. -/
def regsCfl : List RegDef := [
  { name := "CFL_CTRL", addr := 0x50000, rw := 0x1 },
  { name := "CFL_STATUS", addr := 0x50004, w1c := 0x80 },
  { name := "CFL_ADDR", addr := 0x50008, rw := 0x1fffff8 },
  { name := "CFL_DATA_LO", addr := 0x5000c, rw := 0xffffffff },
  { name := "CFL_DATA_HI", addr := 0x50010, rw := 0xffffffff },
  { name := "CFL_CMD", addr := 0x50014, wo := 0xf },
  { name := "CFL_SECSTAT", addr := 0x50018 },
  { name := "CFL_BOOT", addr := 0x5001c },
  { name := "CFL_BOOTINFO", addr := 0x50020 },
  { name := "CFL_RUNVER_LO", addr := 0x50024 },
  { name := "CFL_RUNVER_HI", addr := 0x50028 },
  { name := "CFL_STGVER_LO", addr := 0x5002c },
  { name := "CFL_STGVER_HI", addr := 0x50030 },
  { name := "CFL_STAGED", addr := 0x50034 },
  { name := "CFL_EVT", addr := 0x500c0, w1c := 0xf },
  { name := "CFL_EVT_EN", addr := 0x500c4, reset := 0xe, rw := 0xf },
  { name := "CFL_CORR", addr := 0x50100, rc := 0xffffffff },
  { name := "CFL_UNCORR", addr := 0x50104, rc := 0xffffffff },
  { name := "CFL_PROGRAMS", addr := 0x50108, rc := 0xffffffff },
  { name := "CFL_ERASES", addr := 0x5010c, rc := 0xffffffff },
  { name := "CFL_SUSPENDS", addr := 0x50110, rc := 0xffffffff },
  { name := "CFL_BROWNOUTS", addr := 0x50114, rc := 0xffffffff }]

/-- Rows of the MBUS register table. -/
def regsMbus : List RegDef := [
  { name := "MBUS_CTRL", addr := 0x30000, rw := 0x1f },
  { name := "MBUS_STATUS", addr := 0x30004, w1c := 0x1f },
  { name := "MBUS_ALERTSRC", addr := 0x30008 },
  { name := "MBUS_ICTL", addr := 0x30010, reset := 0x2d00, rw := 0x7ffff, wo := 0x80000000, ranges := [(13, 6, 1, 32)] },
  { name := "MBUS_IOFF", addr := 0x30014, rw := 0xffff },
  { name := "MBUS_ISTAT", addr := 0x30018 },
  { name := "MBUS_ISEG", addr := 0x30020, count := 2, stride := 0x4, reset := 0x7e, rw := 0x7f, ranges := [(0, 2, 0, 2)] },
  { name := "MBUS_ISEG", addr := 0x30028, count := 2, stride := 0x4, reset := 0x7d, rw := 0x7f, ranges := [(0, 2, 0, 2)] },
  { name := "MBUS_IBUF", addr := 0x30040, count := 8, stride := 0x4, rw := 0xffffffff },
  { name := "MBUS_EVT", addr := 0x300c0, w1c := 0xf },
  { name := "MBUS_EVT_EN", addr := 0x300c4, reset := 0xc, rw := 0xf },
  { name := "MBUS_WRITES", addr := 0x30100, rc := 0xffffffff },
  { name := "MBUS_READS", addr := 0x30104, rc := 0xffffffff },
  { name := "MBUS_PEC_FAIL", addr := 0x30108, rc := 0xffffffff },
  { name := "MBUS_TIMEOUTS", addr := 0x3010c, rc := 0xffffffff },
  { name := "MBUS_ARA_WON", addr := 0x30110, rc := 0xffffffff },
  { name := "MBUS_BUS_CLEARS", addr := 0x30114, rc := 0xffffffff }]

/-- Rows of the AMB register table. -/
def regsAmb : List RegDef := [
  { name := "AMB_STATUS", addr := 0x40000 },
  { name := "AMB_CMD", addr := 0x40004, wo := 0x3 },
  { name := "AMB_FIRSTSEQ", addr := 0x40008 },
  { name := "AMB_NEXTSEQ", addr := 0x4000c },
  { name := "AMB_RDSEQ", addr := 0x40010, rw := 0xffffffff },
  { name := "AMB_RDSTAT", addr := 0x40014 },
  { name := "AMB_QSTART_LO", addr := 0x40018, rw := 0xffffffff },
  { name := "AMB_QSTART_HI", addr := 0x4001c, rw := 0xf },
  { name := "AMB_QEND_LO", addr := 0x40020, rw := 0xffffffff },
  { name := "AMB_QEND_HI", addr := 0x40024, rw := 0xf },
  { name := "AMB_QFIRST", addr := 0x40028 },
  { name := "AMB_QCOUNT", addr := 0x4002c },
  { name := "AMB_HOURS", addr := 0x40030 },
  { name := "AMB_HOURS_HI", addr := 0x40034 },
  { name := "AMB_REC", addr := 0x40040, count := 16, stride := 0x4 },
  { name := "AMB_EVT", addr := 0x400c0, w1c := 0x7 },
  { name := "AMB_EVT_EN", addr := 0x400c4, reset := 0x5, rw := 0x7 },
  { name := "AMB_LOST", addr := 0x40100, rc := 0xffffffff },
  { name := "AMB_OVERFLOW", addr := 0x40104 }]

/-- Rows of the DBG register table. -/
def regsDbg : List RegDef := [
  { name := "DBG_STATUS", addr := 0x70000 },
  { name := "DBG_CMD", addr := 0x70004, wo := 0x3 },
  { name := "DBG_CHAL", addr := 0x70010, count := 4, stride := 0x4 },
  { name := "DBG_RESP", addr := 0x70020, count := 4, stride := 0x4, wo := 0xffffffff },
  { name := "DBG_KEYIN", addr := 0x70040, count := 8, stride := 0x4, wo := 0xffffffff },
  { name := "DBG_MSEL", addr := 0x70080, rw := 0x7 },
  { name := "DBG_MADDR", addr := 0x70084, rw := 0xffffffff },
  { name := "DBG_MDATA0", addr := 0x70088 },
  { name := "DBG_MDATA1", addr := 0x7008c },
  { name := "DBG_MDATA2", addr := 0x70090 },
  { name := "DBG_EVT", addr := 0x700c0, w1c := 0x7 },
  { name := "DBG_EVT_EN", addr := 0x700c4, reset := 0x7, rw := 0x7 }]

/-- Rows of the GLB register table. -/
def regsGlb : List RegDef := [
  { name := "GLB_ID", addr := 0x0, reset := 0x816000b1 },
  { name := "GLB_VERSION", addr := 0x4, reset := 0x10001 },
  { name := "GLB_SERIAL", addr := 0x8, count := 4, stride := 0x4 },
  { name := "GLB_SCRATCH", addr := 0x18, rw := 0xffffffff },
  { name := "GLB_STATUS", addr := 0x20, w1c := 0x1e0 },
  { name := "GLB_RSTCAUSE", addr := 0x24 },
  { name := "GLB_RSTCTL", addr := 0x28, wo := 0xffff0003 },
  { name := "GLB_RSTCOUNT", addr := 0x2c },
  { name := "GLB_CFGCTL", addr := 0x30, rw := 0x3 },
  { name := "GLB_CMT", addr := 0x34, wo := 0x3 },
  { name := "GLB_CMTSTAT", addr := 0x38 },
  { name := "GLB_CMTEPOCH_LO", addr := 0x3c },
  { name := "GLB_CMTEPOCH_HI", addr := 0x40 },
  { name := "GLB_LOCK", addr := 0x44, rwl := 0x1, shadowed := true },
  { name := "GLB_ASSET", addr := 0x50, count := 4, stride := 0x4, rwl := 0xffffffff },
  { name := "GLB_WINSEL", addr := 0xfff0, rw := 0xff }]

/-- Every register of the register space (R576). -/
def regTable : List RegDef :=
  regsPrt ++ regsTrn0 ++ regsTrn1 ++ regsKey ++ regsCqi ++ regsTier0 ++ regsTier1 ++ regsLc ++ regsDmc ++ regsEcc0 ++ regsEcc1 ++ regsFtl0 ++ regsFtl1 ++ regsFtl2 ++ regsFch ++ regsTwn0 ++ regsTwn1 ++ regsCol ++ regsPws0 ++ regsPws1 ++ regsGov ++ regsSeal ++ regsXts ++ regsCfl ++ regsMbus ++ regsAmb ++ regsDbg ++ regsGlb

/-- Whether an address is one of a row's registers. -/
def RegDef.covers (d : RegDef) (a : Nat) : Bool :=
  decide (d.addr ≤ a) && decide ((a - d.addr) % d.stride = 0) && decide ((a - d.addr) / d.stride < d.count)

/-- The rows of the block that an address names by its bits [23:16] (R576). -/
def blockTable (a : Nat) : List RegDef :=
  if a < 0x10000 then regsGlb
  else if a < 0x20000 then regsPws0 ++ regsPws1
  else if a < 0x30000 then regsGov
  else if a < 0x40000 then regsMbus
  else if a < 0x50000 then regsAmb
  else if a < 0x60000 then regsCfl
  else if a < 0x70000 then regsSeal
  else if a < 0x80000 then regsDbg
  else if a < 0x100000 then []
  else if a < 0x120000 then regsPrt
  else if a < 0x140000 then regsTrn0 ++ regsTrn1
  else if a < 0x160000 then regsKey
  else if a < 0x180000 then regsCqi
  else if a < 0x1A0000 then regsTier0 ++ regsTier1
  else if a < 0x1C0000 then regsLc
  else if a < 0x200000 then []
  else if a < 0x220000 then regsDmc
  else if a < 0x240000 then regsEcc0 ++ regsEcc1
  else if a < 0x260000 then regsFtl0 ++ regsFtl1 ++ regsFtl2
  else if a < 0x280000 then regsFch
  else if a < 0x2A0000 then regsXts
  else if a < 0x2C0000 then regsTwn0 ++ regsTwn1
  else if a < 0x2D0000 then regsCol
  else if a < 0x1000000 then [] else regsPws0 ++ regsPws1

/-- The row that names an address; none for a reserved address (R576). -/
def regAt (a : Nat) : Option RegDef := (blockTable a).find? (fun d => d.covers a)

/-- The reset value of the register at an address (R589); 0 at a reserved address. -/
def regReset (a : Nat) : BitVec 32 :=
  match regAt a with
  | some d => BitVec.ofNat 32 d.reset
  | none => 0

end Sys2Proof.Machine
end

