-- ==== Sys2Proof/Machine/SparseMap.lean ====
section
/-! DEFINITION. Sys2Proof/Machine/SparseMap.lean: sparse maps as plain data. A map is a list of (key, value) pairs in
one canonical form: keys strictly rising and, where unlisted keys have a value, no entry equal to it. Byte memories,
the register bank and the tables keyed by number are such maps. -/

namespace Sys2Proof.Machine

/-- An element put before the first that it does not come after, in a list in order. -/
def insertBy {α : Type} (le : α → α → Bool) (x : α) : List α → List α
  | [] => [x]
  | y :: l => if le x y then x :: y :: l else y :: insertBy le x l

/-- A list put in order; elements of the same rank keep theirs. -/
def sortBy {α : Type} (le : α → α → Bool) (l : List α) : List α := l.foldr (insertBy le) []

/-- The value at a key; d gives what an unlisted key reads as. -/
def sget {α : Type} (d : Nat → α) : List (Nat × α) → Nat → α
  | [], k => d k
  | (k', v) :: m, k => if k = k' then v else sget d m k

/-- The keys rise strictly from a bound on, and no entry equals what its key would read as unlisted. -/
def swfFrom {α : Type} [DecidableEq α] (d : Nat → α) : Nat → List (Nat × α) → Bool
  | _, [] => true
  | b, (k, v) :: m => decide (b ≤ k) && decide (v ≠ d k) && swfFrom d (k + 1) m

/-- The canonical form of a sparse map. -/
def swf {α : Type} [DecidableEq α] (d : Nat → α) (m : List (Nat × α)) : Bool := swfFrom d 0 m

/-- The entry at a key, if there is one. -/
def kget {α : Type} : List (Nat × α) → Nat → Option α
  | [], _ => none
  | (k', v) :: m, k => if k = k' then some v else kget m k

/-- The entry at a key set. -/
def kput {α : Type} : List (Nat × α) → Nat → α → List (Nat × α)
  | [], k, v => [(k, v)]
  | (k', v') :: m, k, v =>
    if k < k' then (k, v) :: (k', v') :: m
    else if k = k' then (k, v) :: m
    else (k', v') :: kput m k v

/-- The entry at a key removed. -/
def kdel {α : Type} (m : List (Nat × α)) (k : Nat) : List (Nat × α) := m.filter (fun e => e.1 != k)

/-- The value at a key set; a value equal to what the unlisted key reads as removes the entry. -/
def sput {α : Type} [DecidableEq α] (d : Nat → α) (m : List (Nat × α)) (k : Nat) (v : α) : List (Nat × α) :=
  if v = d k then kdel m k else kput m k v

/-- The entry at a key changed, if there is one. -/
def kupd {α : Type} (m : List (Nat × α)) (k : Nat) (f : α → α) : List (Nat × α) :=
  m.map (fun e => if e.1 = k then (e.1, f e.2) else e)

/-- Keys strictly rising. -/
def kwf {α : Type} : List (Nat × α) → Bool
  | [] => true
  | [_] => true
  | (k, _) :: (k', v') :: m => decide (k < k') && kwf ((k', v') :: m)

end Sys2Proof.Machine
end

