-- ==== Sys2Proof/Machine/State.lean ====
section
/-! DEFINITION. Sys2Proof/Machine/State.lean: the state of the PM-8160 as plain data, the reasons a command can stop,
and the state at the first application of VAON. Every value in the register space has its home in the register bank;
what the chapters give the block besides registers stands in one structure for each chapter. -/

namespace Sys2Proof.Machine

/-! ### What the block sends -/

/-- A frame or signal that the block has sent. -/
inductive Out where
  | ack (port qpn : Nat) (psn : Psn) (msn : Nat)
  | nak (port qpn : Nat) (psn : Psn) (syndrome msn : Nat)
  | readResponse (port qpn : Nat) (psn : Psn) (data : List Byte)
  | atomicAck (port qpn : Nat) (psn : Psn) (original : Nat)
  | cnp (port qpn : Nat)
  | readRequest (port qpn : Nat) (psn : Psn) (addr : Nat) (key : BitVec 32) (len : Nat)
  | writeRequest (port qpn : Nat) (psn : Psn) (addr : Nat) (key : BitVec 32) (imm : Option (BitVec 32)) (data : List Byte)
  | rep (port : Nat) (commId : BitVec 32) (qpn : Nat) (psn : Psn) (pmtu respRes initDepth dbKey dbOffset : Nat)
  | rej (port : Nat) (commId : BitVec 32) (reason : Nat)
  | drep (port : Nat) (commId : BitVec 32)
  | dreq (port qpn : Nat)
  | sidrRep (port : Nat) (commId : BitVec 32) (status : Nat)
  | pfc (port cls : Nat) (xoff : Bool)
  | arpReply (port home : Nat) (ip : BitVec 32) (mac : Nat)
  | neighbourAdvert (port home : Nat) (ip : BitVec 128) (mac : Nat)
  | gratuitous (port home : Nat)
  | echoReply (port : Nat)
  | lldpToCores (port : Nat)
  | data (home mseq kind qpn : Nat) (psn : Psn) (addr aux : Nat) (key : BitVec 32) (bytes : List Byte)
  | confirm (home mseq count : Nat)
  | delta (home epoch term : Nat) (final lockstep : Bool) (lastMseq : Nat) (digest : BitVec 64) (entries : List DeltaEntry)
  | heartbeat (count : Nat)
  | lease (op home number expiry : Nat)
  | lockstepIngress (home inseq port slice : Nat)
  | health (word : BitVec 32) (compared budget mirrorFree : Nat)
  | bid (records : List StandRec)
  | stateImage (home table : Nat) (last : Bool) (entries : List StateEntry)
  | piece (home addr : Nat) (bytes : List Byte) (poison : Nat)
  | resyncDone (home pieces : Nat)
  | heal (op home unit number piece : Nat) (bytes : List Byte) (poison : Nat)
  | intlkOut (home : Nat) (asserted : Bool)
  | colony (peer : Option Nat) (lane txn : Nat) (m : ColMsg)
  | colonyAdvert
  | twoWire (bytes : List Byte) (ack : Bool)
  | identity (seg branch addr off : Nat) (off16 write : Bool) (len : Nat) (bytes : List Byte)
  | railEn (rail : Nat) (on : Bool)
  | tap (word : BitVec 80)
  deriving DecidableEq, Repr

/-! ### Amber and the debug unit (chapter 18) -/

/-- An Amber record before its CRC is appended (Table 18-1). -/
structure AmbRec where
  seq : Nat
  stamp : Nat
  pcycle : Nat
  damaged : Bool := false
  late : Bool := false
  code : BitVec 16
  unit : BitVec 8 := 0
  payload : List Byte := []
  /-- Model clock at staging, for the 60 s trigger of Table 18-2. -/
  at_ : Nat := 0
  /-- The event's bit is set in its EVT_EN (Table 18-2). -/
  urgent : Bool := false
  deriving DecidableEq, Repr

/-- A slot of the Amber area (R546, R547). -/
inductive AmbSlot where
  | rec_ (r : AmbRec)
  | bad
  deriving DecidableEq, Repr

/-- The event recorder (R540 to R549). -/
structure Amber where
  /-- Staging buffer in SEQ order, at most 128 (R544). -/
  staging : List AmbRec := []
  /-- Programmed slots of the area in SEQ order, at most 32,768 (R546). -/
  area : List AmbSlot := []
  /-- SEQ of the next record (R543). -/
  nextSeq : Nat := 1
  /-- Operating-hours counter at hoursAt, in 1/4096 h (R542). -/
  hours : Nat := 0
  hoursAt : Nat := 0
  /-- Power-cycle count (R542). -/
  pcycle : Nat := 0
  /-- A flush runs up to and including this SEQ (R544). -/
  flushTo : Option Nat := none
  full : Bool := false
  clearing : Bool := false
  /-- Records were lost since the last EV_AMB_LOST (R545, Table 18-5). -/
  lost : Bool := false
  /-- Last record time of each limited event and unit (R616). -/
  limits : List (Nat × Nat) := []
  /-- Copies stored in the configuration area (R542, R543, R546). -/
  stHours : Nat := 0
  stSeq : Nat := 0
  stPcycle : Nat := 0
  stOverflow : Nat := 0
  /-- An interrupted clear is recorded in the configuration area (R553). -/
  stClearing : Bool := false
  deriving DecidableEq, Repr

/-- The debug unit (R550 to R557). -/
structure Debug where
  /-- Debug authorisation key in its fuse bank, eight words (R550). -/
  key : Option (List (BitVec 32)) := none
  /-- The challenge drawn and not yet used (R551). -/
  challenge : Option (BitVec 128) := none
  /-- Words of DBG_RESP and DBG_KEYIN as written (WO registers). -/
  resp : List (BitVec 32) := [0, 0, 0, 0]
  keyIn : List (BitVec 32) := [0, 0, 0, 0, 0, 0, 0, 0]
  /-- EV_DBG_FREEZE_REFUSED was recorded since the last reset (R554). -/
  refusedSeen : Bool := false
  /-- Raw word latched by a read of DBG_MDATA0: 80 bits (R557). -/
  mdata : BitVec 80 := 0
  /-- TAP instruction in force: 0 BYPASS, 1 IDCODE, 2 SAMPLE, 3 EXTEST, 4 MEMREAD, 5 REGREAD (R556). -/
  tapIr : Nat := 1
  tapOut : BitVec 80 := 0
  deriving DecidableEq, Repr

/-! ### Staged set and commit (chapter 19) -/

/-- An entry of the staged set: address, selector value (0 when not indexed), value (R561, R562). -/
structure Staged where
  addr : Nat
  sel : Nat := 0
  val : BitVec 32
  deriving DecidableEq, Repr

/-- Who began a commit (R584). -/
inductive CommitVia where
  | capsule (qpn queue slot : Nat)
  | regWrite
  | twoWire
  deriving DecidableEq, Repr

/-- A commit accepted and not complete (R563 to R570). -/
structure Commit where
  n : Nat
  home : Nat
  set : List Staged
  joint : Bool
  via : CommitVia
  /-- Boundary n has been reached. -/
  begun : Bool := false
  /-- Units not yet switched still run under these values (R566, R580). -/
  old : List Staged := []
  /-- Boundaries after n that have been reached, 0 to 15. -/
  switched : Nat := 0
  drained : Bool := false
  /-- Number of the first transaction that each slice takes under its new values, by slice (R567). -/
  marks : List Nat := []
  /-- Flash pages begun under the old values of a channel that has switched (R567). -/
  pages : List (Nat × Nat × Nat) := []
  /-- The standby applied the CONFIG entry (R568 condition 2). -/
  delta : Bool := false
  deriving DecidableEq, Repr

/-- The configuration machinery (R561 to R574). -/
structure Config19 where
  staged : List Staged := []
  commit : Option Commit := none
  /-- Joint values received from the active side, with the epoch at which they switch (R570, R571). -/
  jointIn : List (Nat × Nat × Staged) := []
  deriving DecidableEq, Repr

/-! ### Protection (chapter 4) -/

/-- A protection-domain entry (R141). -/
structure Pd where
  en : Bool := false
  admin : Bool := false
  tenant : Nat := 0
  cred : Nat := 0
  /-- Low half written and the high half awaited, or none (R562). -/
  credLo : Option Nat := none
  credHi : Option Nat := none
  deriving DecidableEq, Repr

/-- Right bits (R166): 0 read, 1 write, 2 atomic, 3 flush, 4 atomic-write. -/
abbrev Rights := BitVec 5

/-- A region (Table 04-1), keyed by its base. -/
structure Region where
  home : Nat
  pd : Nat
  volatile : Bool
  dflush : Bool
  mirror : Bool
  failqp : Bool
  len : Nat
  maxRights : Rights
  keyDomain : Nat
  /-- Armed on the active side (R38); the MSEQ of an arm record not yet confirmed. -/
  armed : Bool := false
  arming : Option Nat := none
  /-- Recorded as armed on the standby (R38). -/
  recArmed : Bool := false
  /-- A write of the current epoch is or was unconfirmed (R39). -/
  unconf : Bool := false
  /-- QPs that hold a loss mark on the region (R45). -/
  loss : List Nat := []
  /-- Tier hold of the flash tier (R346), and the maximum rights held before it. -/
  hold : Bool := false
  heldRights : Rights := 0
  deriving DecidableEq, Repr

/-- A key-table entry (R136 to R138), keyed by its index. -/
structure Key where
  tag : Nat
  region : Nat
  off : Nat
  len : Nat
  rights : Rights
  valid : Bool := true
  /-- The revocation fence has not completed, so the index is not reused (R137). -/
  fencing : Bool := false
  /-- Owner QP of a doorbell aperture (R160). -/
  aperture : Option Nat := none
  /-- Rights held before a tier hold (R346). -/
  heldRights : Rights := 0
  deriving DecidableEq, Repr

/-- What a fenced change does when it begins (R148, R149). -/
inductive FenceKind where
  | revoke (idx : Nat)
  | keyRights (idx : Nat) (r : Rights)
  | modify (r : Rights) (dflush failqp : Bool)
  | destroy
  | withdraw
  deriving DecidableEq, Repr

/-- A fenced change accepted and not complete (R149 to R152). -/
structure Fence where
  id : Nat
  region : Nat
  home : Nat
  kind : FenceKind
  cap : Option CapRef
  result : Nat := 0
  begun : Bool := false
  /-- Epoch in which it began (R150 condition 3). -/
  epoch : Nat := 0
  startAt : Nat := 0
  /-- Transactions that passed stage 3 under the old state (R150 condition 1). -/
  txns : List Nat := []
  /-- QPs with an open multi-packet message admitted under the old state. -/
  msgs : List Nat := []
  /-- MSEQs of unconfirmed writes accepted before (R150 condition 2). -/
  mseqs : List Nat := []
  /-- The standby received the DELTA of the epoch. -/
  delta : Bool := false
  deriving DecidableEq, Repr

/-- Regions, keys, domains (chapter 4). -/
structure Protect where
  regions : List (Nat × Region) := []
  keys : List (Nat × Key) := []
  pds : List (Nat × Pd) := []
  /-- Key cache: per set, key indices, most recently used first (R139). -/
  cache : List (Nat × List Nat) := []
  /-- Indices marked in transition (R149). -/
  transit : List Nat := []
  fences : List Fence := []
  fenceId : Nat := 0
  deriving DecidableEq, Repr

/-! ### Ports and transport (chapters 1 to 3) -/

/-- A traffic class of a port (R84 to R87). -/
structure ClassSt where
  /-- This device asserts pause: ingress occupancy, context-miss queue, dirty budget (Table 03-2). -/
  xoffBuf : Bool := false
  xoffMiss : Bool := false
  xoffDirty : Bool := false
  /-- P2 entry asserts pause (R463). -/
  xoffListen : Bool := false
  /-- Paused by the partner since this time. -/
  paused : Option Nat := none
  stormSeen : Bool := false
  deriving DecidableEq, Repr

/-- A port outside its registers. -/
structure Port where
  classes : List ClassSt := List.replicate 8 {}
  /-- Training attempt since this time (R79). -/
  training : Option Nat := none
  /-- Echo replies in the second that began at echoAt (R90). -/
  echoes : Nat := 0
  echoAt : Nat := 0
  /-- Listen buffer of P2: the first frame held (R463). -/
  listening : Bool := false
  listen : Nat := 0
  deriving DecidableEq, Repr

/-- A multi-packet message whose last packet has not been processed (R146). -/
structure OpenMsg where
  /-- SEND, otherwise RDMA WRITE. -/
  isSend : Bool
  region : Nat
  /-- Internal address of the next byte. -/
  next : Nat
  /-- Bytes still to come (RDMA WRITE) or room still left (SEND). -/
  left : Nat
  key : BitVec 32
  /-- SEND: address of the slot's header, bytes placed so far. -/
  hdr : Nat := 0
  placed : Nat := 0
  /-- A fence stopped waiting for it, so its packets are checked against the new state (R151). -/
  recheck : Bool := false
  /-- Offset of the next byte in the region. -/
  offset : Nat := 0
  deriving DecidableEq, Repr

/-- The send sink of a connection (R99 to R101). -/
structure Sink where
  key : BitVec 32
  region : Nat
  /-- Internal address of the consumer count. -/
  base : Nat
  slotLog2 : Nat
  countLog2 : Nat
  /-- Messages placed so far. -/
  sent : Nat := 0
  deriving DecidableEq, Repr

/-- A request of the device as requester (R102, R180). -/
inductive ReqKind where
  | queueTable
  | fetch (queue first count : Nat)
  | dataRead (cap : CapRef) (seg : Nat)
  | dataWrite (cap : CapRef)
  | postCq (queue idx : Nat)
  | postNq (queue idx : Nat)
  deriving DecidableEq, Repr

/-- A device request not yet acknowledged (R102, R103, R180). -/
structure DevReq where
  psn : Psn
  /-- PSNs that it uses. -/
  count : Nat
  kind : ReqKind
  hostAddr : Nat
  hostKey : BitVec 32
  data : List Byte := []
  rlen : Nat := 0
  imm : Option (BitVec 32) := none
  /-- Record whose CONFIRM it waits for (R180). -/
  wait : Option Nat := none
  sent : Bool := false
  /-- Response bytes received so far (READ). -/
  got : List Byte := []
  deriving DecidableEq, Repr

/-- QP states (Table 03-8). -/
inductive QpState where
  | idle | rtr | rts | error
  deriving DecidableEq, Repr

/-- Where a QP context is (R110 to R112). -/
inductive Residency where
  | resident | spilling | spilled | fetching
  deriving DecidableEq, Repr

/-- The reaction point of a QP (R123); rates in Mb/s, alpha in 1/65536. -/
structure RateSt where
  limited : Bool := false
  rate : Nat := 0
  target : Nat := 0
  alpha : Nat := 65536
  steps : Nat := 0
  bytes : Nat := 0
  deriving DecidableEq, Repr

/-- A QP context (R102, R106, R108, R110). -/
structure Qp where
  st : QpState := .rtr
  home : Nat
  pd : Nat := 0
  /-- The admin bit of the PD when the connection was established (R142). -/
  admin : Bool := false
  hostQpn : BitVec 24 := 0
  ipv6 : Bool := false
  src : Nat := 0
  commId : BitVec 32 := 0
  /-- Port of the most recent packet (R80). -/
  port : Option Nat := none
  pcp : Nat := 0
  dscp : BitVec 6 := 0
  pmtu : Nat := 1024
  respRes : Nat := 16
  initDepth : Nat := 16
  -- responder
  epsn : Psn := 0
  cpsn : Psn := 0
  msn : Nat := 0
  ranges : List PsnRange := []
  /-- Atomic replay cache, newest first (R108). -/
  atomics : List (Psn × BitVec 64) := []
  aheadNak : Bool := false
  openMsg : Option OpenMsg := none
  sink : Option Sink := none
  /-- Rewound at a takeover: E; highest dropped PSN; skipped ranges (R41 to R44). -/
  rewound : Bool := false
  dropped : List Psn := []
  skipped : List (Psn × Psn) := []
  /-- A NAK that ends in Error waits for its turn (R114). -/
  closing : Bool := false
  /-- An earlier packet of the duplicate message in progress has been acknowledged (R105). -/
  dupAcked : Bool := false
  /-- Completed requests not yet covered by an ACK (R120). -/
  uncovered : Nat := 0
  -- requester
  spsn : Psn := 0
  oldest : Psn := 0
  retry : Nat := 0
  reqs : List DevReq := []
  -- residency
  where_ : Residency := .resident
  lastUse : Nat := 0
  /-- A rewind NAK is still owed (R125). -/
  rewindDue : Bool := false
  rate : RateSt := {}
  lastCnp : Option Nat := none
  /-- Rings (chapter 5): ring key, queue table, queue count, doorbell key index, next notification SEQ. -/
  ringKey : BitVec 32 := 0
  qtable : Nat := 0
  qcount : Nat := 0
  dbKey : Nat := 0
  notifSeq : Nat := 1
  bound : Bool := false
  /-- The BIND record whose CONFIRM the queues wait for (R157). -/
  bindWait : Option Nat := none
  /-- The device has sent a DREQ (R158). -/
  dreqSent : Bool := false
  /-- Error log, newest first, and its total (R189). -/
  errTotal : Nat := 0
  errLog : List (List Byte) := []
  deriving DecidableEq, Repr

/-- Placement in a packet of a message (Table 03-4). -/
inductive HoldWhy where
  | behind | context | spill | key | transition | nakBuild | excFull | slot | steer
  deriving DecidableEq, Repr

/-- What a transaction does at stage 6. -/
inductive TxnOp where
  | write (data : List Byte)
  | zero
  | trim
  | atomicCas (swap cmp : BitVec 64)
  | atomicAdd (add : BitVec 64)
  | read
  | flush (persist : Bool)
  | capFlush (deep : Bool)
  | nothing
  | replay (value : BitVec 64)
  | nak (syndrome : Nat)
  | copySrc (dst : Nat) (dstKey : BitVec 32)
  deriving DecidableEq, Repr

/-- A transaction in a slot (R54, R55), in acceptance order (R30). -/
structure Txn where
  id : Nat := 0
  /-- Place in the acceptance order (R30); 0 while it waits at stage 5 (R454). -/
  ord : Nat := 0
  home : Nat
  qpn : Nat
  slice : Nat
  /-- The capsule that it serves, and its segment; none for a host request. -/
  cap : Option CapRef := none
  seg : Nat := 0
  op : TxnOp
  psn : Psn := 0
  psnLast : Psn := 0
  ackReq : Bool := true
  /-- Last packet of its message. -/
  ends : Bool := true
  /-- Takes no transaction slot: a NAK or a doorbell (R160). -/
  slotless : Bool := false
  /-- A duplicate READ re-executed (R105). -/
  dup : Bool := false
  region : Nat := 0
  addr : Nat := 0
  len : Nat := 0
  key : BitVec 32 := 0
  epoch : Nat := 0
  at_ : Nat := 0
  /-- Passed stage 5. -/
  accepted : Bool := true
  placed : Bool := false
  /-- A READ abandoned at a hand-over or at the end of a lease: no later response of its QP leaves (R395, R398). -/
  abandoned : Bool := false
  /-- Stage 6 has looked at it once. -/
  tried : Bool := false
  /-- Data or value gathered at placement. -/
  got : List Byte := []
  /-- DATA frames not yet confirmed, and the arm record waited for (R17, R38). -/
  mseqs : List Nat := []
  armWait : Option Nat := none
  /-- Failed range: first and last failed byte offsets in the request (R224, R226). -/
  failed : Option (Nat × Nat) := none
  /-- Fail-QP failure or loss mark, so the response is a NAK (R27, Table 06-4). -/
  ruined : Bool := false
  /-- Units that a DEEP FLUSH still waits for, with the order stamp that the program must have (R25). -/
  deep : List (Nat × Nat) := []
  /-- Waits at stage 6 for: a T2 fill, a float granule, a transient frame, a fill buffer. -/
  waitFill : Bool := false
  waitFloat : Bool := false
  waitTransient : Bool := false
  waitBuffer : Bool := false
  deriving DecidableEq, Repr

/-- A DATA frame of a paired home set not yet confirmed (R17, R368). -/
structure Unconf where
  mseq : Nat
  home : Nat
  region : Nat := 0
  /-- Acceptance number of the transaction that wrote; 0 for a record. -/
  ord : Nat := 0
  /-- Time at which it left (TWN_CONFIRM_WAIT_MAX). -/
  at_ : Nat := 0
  deriving DecidableEq, Repr

/-- A packet held before stage 5, in arrival order (R51, R56, R58, R111). -/
structure Held where
  qpn : Nat
  slice : Nat
  pkt : Pkt
  req : Req
  why : HoldWhy
  deriving DecidableEq, Repr

/-- Transport state that is no register (chapters 1 to 3). -/
structure Net where
  ports : List Port := List.replicate 8 {}
  qps : List (Nat × Qp) := []
  /-- Accepted transactions, in acceptance order (R30). -/
  txns : List Txn := []
  txnId : Nat := 1
  ordNo : Nat := 1
  held : List Held := []
  /-- Steering table (R50). -/
  steer : List Nat := [0, 1, 2, 3, 4, 5, 6, 7]
  /-- Steering changes requested and not yet made: entry and new slice (R51). -/
  steerWait : List (Nat × Nat) := []
  /-- Clusters out of service (R61). -/
  deadClusters : List Nat := []
  /-- Stage 5 has stopped for a home set (R361, R398, Table 01-9). -/
  stopped : List Nat := []
  unconf : List Unconf := []
  /-- PAUSE_ON was reached in a slice and PAUSE_OFF not yet (R113). -/
  missPause : List Nat := []
  deriving DecidableEq, Repr

/-! ### Capsule queues (chapter 5) -/

/-- State of a capsule slot that the device owns (R172, R180 to R185). -/
inductive SlotSt where
  | fetching
  | fetched
  | running
  | failed
  deriving DecidableEq, Repr

/-- A capsule slot: the 64 bytes, its state, progress of its segments and data. -/
structure Slot where
  idx : Nat
  st : SlotSt
  /-- FETCH record whose CONFIRM it waits for (R180). -/
  wait : Option Nat := none
  bytes : List Byte := []
  /-- Segments in all, begun, and finished (R168). -/
  segs : Nat := 0
  begun : Nat := 0
  done : Nat := 0
  /-- Source data of an overlapping COPY, by segment, until all of it is read (R169). -/
  data : List (Nat × List Byte) := []
  poison : Bool := false
  status : Nat := 0
  result : Nat := 0
  /-- Key, offset and detail of the failure for the error log (Table 05-13). -/
  errKey : Nat := 0
  errOff : Nat := 0
  errDet : Nat := 0
  deriving DecidableEq, Repr

/-- Queue states (Table 05-11). -/
inductive QState where
  | disabled | active | frozen | ended
  deriving DecidableEq, Repr

/-- A queue pair (Tables 05-2, 05-11). -/
structure Queue where
  st : QState := .disabled
  /-- Its queue table entry is valid (R158). -/
  valid : Bool := true
  sqAddr : Nat := 0
  cqAddr : Nat := 0
  nqAddr : Nat := 0
  sqSize : Nat := 0
  cqSize : Nat := 0
  nqSize : Nat := 0
  cls : Nat := 0
  flags : Nat := 0
  /-- Oldest SQ slot still owned, recorded tail, fetch cursor. -/
  sqHead : Nat := 0
  sqTail : Nat := 0
  cursor : Nat := 0
  /-- Completion entries posted, counted from 0, and the host's head. -/
  cqCount : Nat := 0
  cqHead : Nat := 0
  nqCount : Nat := 0
  nqHead : Nat := 0
  nqLost : Nat := 0
  slots : List Slot := []
  /-- Failed slots to be fetched again before the cursor moves (R183). -/
  replay : List Nat := []
  deriving DecidableEq, Repr

/-- The fetch scheduler of a home set (R178). -/
structure Sched where
  /-- Grants left in the round for High, Medium, Low. -/
  high : Nat := 0
  med : Nat := 0
  low : Nat := 0
  /-- Class whose turn it is in the pass: 1 High, 2 Medium, 3 Low. -/
  turn : Nat := 1
  /-- Last queue served in each of the five kinds: admin, Urgent, High, Medium, Low. -/
  last : List Nat := [0, 0, 0, 0, 0]
  deriving DecidableEq, Repr

/-- A self-test of a namespace (R191, R192), and its log. -/
structure SelfTest where
  home : Nat
  pd : Nat
  typ : Nat
  /-- It waits for its namespace to be idle, or for the governor (R192, R450). -/
  suspended : Bool := false
  /-- Connection that asked for it. -/
  qpn : Nat
  deriving DecidableEq, Repr

/-- A record kept for the standby's confirmation (R157, R160, R180, Table 11-4). -/
inductive RecKind where
  | doorbell (pkt : Pkt) (queue slotOff : Nat) (value : BitVec 64)
  | fetch (qpn queue first count : Nat)
  | post (qpn : Nat)
  | place (cap : CapRef)
  | stream (cap : CapRef)
  | bind (qpn : Nat)
  | arm (region : Nat)
  | order (txn : Nat)
  deriving DecidableEq, Repr

/-- A record sent and not yet confirmed. -/
structure PendRec where
  mseq : Nat
  home : Nat
  kind : RecKind
  deriving DecidableEq, Repr

/-- Capsule-queue state that is no register (chapter 5). -/
structure Cqi where
  /-- Queues keyed by QPN * 64 + queue number. -/
  queues : List (Nat × Queue) := []
  sched : List Sched := [{}, {}]
  tests : List SelfTest := []
  /-- Page 0x02 of each namespace: key home * 65536 + pd, entries newest first. -/
  testLog : List (Nat × List (List Byte)) := []
  recs : List PendRec := []
  deriving DecidableEq, Repr

/-! ### Tiers (chapters 2, 6, 7) -/

/-- A T1 frame of 16 KiB, keyed by its map unit (R63). -/
structure Frame where
  valid : BitVec 256
  dirty : BitVec 256 := 0
  /-- Poisoned lines (R223). -/
  poison : BitVec 256 := 0
  /-- Order in which it first became dirty (R68). -/
  since : Nat := 0
  /-- Lehr or Quench has copied it and its program is not verified: the copy's bytes' order stamp (R69). -/
  copy : Option Nat := none
  transient : Bool := false
  /-- A fill from T2 is in progress (R64). -/
  filling : Bool := false
  /-- Last access, for the transient pool and the float pool (R208, R210). -/
  used : Nat := 0
  /-- DRAM channel that holds it (R264). -/
  chan : Nat := 0
  deriving DecidableEq, Repr

/-- A T0 line, keyed by its line number A[50:6] (R232). -/
structure Line where
  way : Nat
  dirty : Bool
  data : List Byte
  /-- Its fill is in progress (R239). -/
  filling : Bool := false
  /-- Words written since its last write-back (R254). -/
  wrote : BitVec 8 := 0
  deriving DecidableEq, Repr

/-- Placement of a granule (Table 06-1). -/
inductive Placement where
  | float | pin | stream | t2only
  deriving DecidableEq, Repr

/-- A granule of a persistent region, keyed by address / 2 MiB (R196, R206). -/
structure Granule where
  place : Placement := .float
  /-- Claims: tenant and last access in ms (R206). -/
  claims : List (Nat × Nat) := []
  used : Nat := 0
  /-- Tenant charged for the pin. -/
  pinTenant : Nat := 0
  /-- Being evicted from the float pool (R208). -/
  evicting : Bool := false
  deriving DecidableEq, Repr

/-- A tenant's limits (R205), keyed by number. -/
structure Tenant where
  quota : Nat := 0
  pin : Nat := 0x7FFFFF
  deriving DecidableEq, Repr

/-- An open weight stream (R212 to R220), keyed by its ID. -/
structure Stream where
  home : Nat
  pd : Nat
  tenant : Nat
  region : Nat
  /-- Internal address of layer 0. -/
  base : Nat
  layerLen : Nat
  layers : Nat
  window : Nat
  /-- Progress counter of each reader (R214). -/
  readers : List (Option Nat)
  /-- Resident stored layers (R215). -/
  loaded : List Nat := []
  /-- Layer being loaded. -/
  loading : Option Nat := none
  /-- Stored layers reported damaged and not clean since (R227). -/
  damaged : List Nat := []
  /-- The finished layer last reported as stalled (R218). -/
  stallSeen : Option (Option Nat) := none
  opener : Option CapRef := none
  /-- MSEQ of the opening record not yet confirmed (R202). -/
  openWait : Option Nat := none
  deriving DecidableEq, Repr

/-- A PIN_T1 load in progress (R200). -/
structure PinLoad where
  cap : CapRef
  first : Nat
  count : Nat
  /-- MSEQ of the PLACE record not yet confirmed; every frame is resident. -/
  wait : Option Nat := none
  loaded : Bool := false
  deriving DecidableEq, Repr

/-- Tier state that is no register (chapters 2, 6, 7). -/
structure Tier where
  /-- T1 contents by internal address (R63, R234); an unlisted byte reads 0. -/
  t1 : List Host.Cell := []
  frames : List (Nat × Frame) := []
  /-- Words of volatile regions that are written: word address A / 8 (R66, R228). -/
  written : List (Nat × Bool) := []
  /-- T1 words found uncorrectable and not yet healed or rewritten: word address (R224, R254). -/
  uncorr : List Nat := []
  lines : List (Nat × Line) := []
  /-- Tree-PLRU bits of a set, keyed by set index (R238). -/
  plru : List (Nat × BitVec 15) := []
  granules : List (Nat × Granule) := []
  tenants : List (Nat × Tenant) := []
  streams : List (Nat × Stream) := []
  pins : List PinLoad := []
  /-- Maintenance operation or lock change running in the line cache (R247, R250). -/
  mop : Option (Nat × Nat) := none
  lockNew : Option Nat := none
  /-- Order stamp of dirtied frames (R68). -/
  stamp : Nat := 1
  /-- Heal requests outstanding: unit and request number (R378). -/
  heals : List (Nat × Nat) := []
  healNo : Nat := 0
  deriving DecidableEq, Repr

/-! ### Twin pair (chapter 11) -/

/-- A record held as standby (R157, R368). -/
inductive HeldRec where
  | fetch (qpn queue first count : Nat)
  | post (qpn queue : Nat) (nq : Bool) (idx : Nat) (psn : Psn) (entry : List Byte)
  | doorbell (qpn queue slotOff : Nat) (value : BitVec 64)
  deriving DecidableEq, Repr

/-- Why a token is claimed (R382, R383, R391, R398). -/
inductive ClaimWhy where
  | pairing | absent | alone | forced | takeover | handover
  deriving DecidableEq, Repr

/-- What follows a planned hand-over on the handing chip (R398, R592, Table 01-9). -/
inductive HandNext where
  | serve | powerFail | activate | warmReset | pstate | noT1
  deriving DecidableEq, Repr

/-- One home set as this chip sees it (R359, R370, R379, R384). -/
structure HomeSt where
  /-- 64-bit epoch number (R35). -/
  epoch : Nat := 0
  /-- Interlock lines: OUT driven, IN sensed released (R358). -/
  out : Bool := false
  inRel : Bool := true
  token : Bool := false
  /-- A claim waits for its back-off (R359). -/
  backoff : Bool := false
  /-- The token is wanted, and why: none, or the claim in progress (R359). -/
  claim : Option ClaimWhy := none
  /-- Next MSEQ to give as active side, and the last received as standby (R367). -/
  mseq : Nat := 1
  rxMseq : Nat := 0
  /-- Last DELTA applied, its epoch and digest (R371). -/
  deltaEpoch : Nat := 0
  digest : BitVec 64 := 0
  /-- FINAL DELTA received (R391). -/
  final : Bool := false
  /-- Partner's copy: records held as standby in order received (R368). -/
  held : List HeldRec := []
  /-- QPs whose last QP entry had RESIDENT set (R392). -/
  resident : List Nat := []
  /-- Change bitmap: granules written while not PAIRED (R386). -/
  changed : List Nat := []
  bitmapLost : Bool := false
  /-- Response sum of the epoch (R371). -/
  respSum : BitVec 64 := 0
  /-- QPs whose state or port changed in the epoch (Table 11-6). -/
  touched : List Nat := []
  /-- Keys, regions, units and queues that changed in the epoch (Table 11-6). -/
  newKeys : List Nat := []
  newRegions : List (Bool × Nat × RegionImg) := []
  newDirty : List Nat := []
  newQueues : List Nat := []
  /-- CONFIG pairs that take effect with an epoch, not yet sent. -/
  newConfig : List (Nat × List (Nat × BitVec 32)) := []
  /-- Lockstep: matching epochs in a row, tries used, ingress sequence number (R387). -/
  matched : Nat := 0
  tries : Nat := 0
  inseq : Nat := 0
  /-- Resync pieces: total and sent (R385). -/
  pieces : Nat := 0
  sent : Nat := 0
  /-- Term at which the home set last turned solo (R385). -/
  soloTerm : Nat := 0
  /-- Stand record in code flash: term, epoch, role, complete (R380). -/
  srTerm : Nat := 0
  srEpoch : Nat := 0
  srRole : Nat := 0
  srComplete : Bool := false
  /-- The partner's record diverged (R381). -/
  diverged : Bool := false
  acceptResync : Bool := false
  /-- Interlock test state: contradicting heartbeats, passing checks, faulty (R390). -/
  intlkBad : Nat := 0
  intlkGood : Nat := 0
  intlkFaulty : Bool := false
  /-- Lease mode: lease number, expiry of the lease held or granted, first grant awaited (R394). -/
  lease : Bool := false
  leaseNo : Nat := 0
  leaseEnd : Option Nat := none
  granted : Option (Nat × Nat) := none
  /-- Planned hand-over in progress (R398): 0 none, 1 draining, with what follows it. -/
  handing : Bool := false
  handNext : HandNext := .serve
  /-- Hand-over deferred until a roll is drained (Table 19-1). -/
  handWait : Bool := false
  /-- DELTAs sent and not yet acknowledged: epoch and SEQ (R150 condition 3, R568 condition 2). -/
  deltaSent : List (Nat × Nat) := []
  /-- Heartbeats and passing checks of the interlock are held in intlkBad and intlkGood; the joining chip's copy is complete. -/
  copied : Bool := false
  /-- Epoch last compared by the standby (R376). -/
  compared : Nat := 0
  /-- Hours of the last change of active side (R401). -/
  changeHours : Nat := 0
  takeovers : Nat := 0
  handovers : Nat := 0
  /-- Repeats of the gratuitous ARPs still due (R392). -/
  arpsDue : Nat := 0
  deriving DecidableEq, Repr

/-- A mirror write as the standby places it (Table 11-4). -/
inductive MirrorOp where
  | write (addr msn : Nat) (data : List Byte)
  | zero (addr len : Nat)
  | trim (addr len : Nat)
  | atomic (addr original : Nat) (data : List Byte)
  deriving DecidableEq, Repr

/-- One stream of the Elytra link (R364). -/
structure LinkStream where
  txSeq : Nat := 1
  rxSeq : Nat := 1
  /-- Frames sent and not acknowledged. -/
  replay : Nat := 0
  credits : Nat := 0
  /-- Frames that wait for credits, with their lengths. -/
  waiting : List (Nat × Out) := []
  /-- REPLAY_REQ is due in the next frame. -/
  replayReq : Bool := false
  deriving DecidableEq, Repr

/-- Twin state that is no register (chapter 11). -/
structure Twin where
  homes : List HomeSt := [{}, {}]
  bulk : LinkStream := { credits := 16384 }
  ctl : LinkStream := { credits := 256 }
  /-- Partner as the last HEARTBEAT showed it (R359, R374); none while unknown. -/
  partnerSideA : Option Bool := none
  partnerPfw : Bool := false
  conflict : Bool := false
  forced : Bool := false
  /-- Roles that the partner reports (Table 11-7). -/
  partnerRoles : List Nat := [0, 0]
  hbSeen : Bool := false
  /-- Missed heartbeat periods, heartbeat number, last TIME received (R374). -/
  hbMissed : Nat := 0
  hbCount : Nat := 0
  hbTime : Nat := 0
  healthSeq : Nat := 0
  /-- Partner's record (BID): term, epoch, role of each home set (R380). -/
  bids : Option (List StandRec) := none
  /-- A BID has been waited for since start-up step 8 ended (R382). -/
  pairWait : Bool := false
  /-- Partner's budget and free mirror granules (R376). -/
  partnerBudget : Nat := 0
  partnerMirror : Nat := 0
  /-- Link CRC errors and frames resent since reset (R401). -/
  crcErrs : Nat := 0
  resent : Nat := 0
  /-- Test pulse announced by the partner for a home set (R390). -/
  pulse : Option Nat := none
  /-- Cluster under BIST (R389). -/
  bist : Option Nat := none
  /-- Mirror frames that the standby has received and not yet placed, for want of dirty budget (R368). -/
  late : List (DataHdr × MirrorOp) := []
  deriving DecidableEq, Repr

/-! ### Flash tier (chapter 10) -/

/-- A map entry: the unit's place (channel × 2^31 + physical unit, as TARGET of Table 10-3 names one), the version of
its data, its poisoned lines (R318, R325, R223). -/
structure MapEnt where
  phys : Nat
  version : Nat
  poison : BitVec 256 := 0
  deriving DecidableEq, Repr

/-- Block states (Table 10-4). Free has two entries: free, and spare. -/
inductive BlkSt where
  | free | opened | closed | verified | erasing | eraseIncomplete | spare | parity | retired
  deriving DecidableEq, Repr

/-- A block of the block table (Table 10-4), keyed by the name of its first unit. A block not listed is free with an
erase count of 0. -/
structure Blk where
  st : BlkSt := .free
  pe : Nat := 0
  /-- Per group of 64 pages: operating hours and die temperature at its first program. -/
  stamps : List (Nat × Nat × Int) := []
  /-- Per group: threshold entry of the last successful retry (R331). -/
  hints : List (Nat × Nat) := []
  /-- Occasions on which reads healed or rebuilt units of it (R340). -/
  fails : Nat := 0
  /-- Units whose reads have suspended its running erase (R332). -/
  suspends : List Nat := []
  deriving DecidableEq, Repr

/-- What a page in flight holds (R316, R319 to R322, R326, R328). -/
inductive PageUse where
  /-- A destaged unit, with its version. -/
  | unit (u version : Nat)
  /-- A relocated unit and the place it was read from. -/
  | move (u old : Nat)
  | filler
  /-- A journal page: its number. -/
  | journal (n : Nat)
  | checkpoint
  deriving DecidableEq, Repr

/-- Superblock states (R319, R322). -/
inductive SbSt where
  | opened | closed | verified | collecting
  deriving DecidableEq, Repr

/-- A superblock (R319 to R322): its stream (0 destage, 1 relocation, 2 metadata), its member block, next page and pages
programmed for each stripe position, and its parity block until it is verified. -/
structure Sb where
  stream : Nat
  st : SbSt := .opened
  members : List Nat
  parity : Option Nat := none
  pages : Nat
  next : List Nat := List.replicate 32 0
  done : List Nat := List.replicate 32 0
  /-- Its units have moved and the erase of its blocks has been asked of the journal (R334). -/
  erasing : Bool := false
  /-- It leaves service, and its blocks become spares (R340). -/
  toSpare : Bool := false
  deriving DecidableEq, Repr

/-- A page handed to a superblock and not yet programmed: superblock, stripe position, page. -/
structure PageOp where
  sb : Nat
  pos : Nat
  page : Nat
  use : PageUse
  deriving DecidableEq, Repr

/-- A journal entry (Table 10-3). -/
structure JEntry where
  version : Nat
  target : Nat
  typ : Nat
  new : Nat := 0
  old : Nat := 0
  deriving DecidableEq, Repr

/-- A unit copied by Lehr or Quench whose program is not committed (R69, R337): its data, version, place and the order
stamp of the copy. -/
structure Prog where
  version : Nat
  loc : Nat
  stamp : Nat
  poison : BitVec 256
  cells : List Host.Cell
  deriving DecidableEq, Repr

/-- Flash-tier state that is no register (chapter 10). -/
structure Flash where
  /-- Map unit to its entry; a unit not listed is unmapped: never written, or trimmed (R318, R324). -/
  map : List (Nat × MapEnt) := []
  /-- Contents of the mapped units in the clear, by internal address (R324, log entry 12); an unlisted byte is 0. -/
  t2 : List Host.Cell := []
  /-- Version counter (R325). -/
  version : Nat := 1
  /-- Copies of units whose program is not committed, by unit (R69, R337). -/
  prog : List (Nat × Prog) := []
  /-- What each channel holds (R312 to R315). -/
  geoms : List (Nat × FlashGeom) := []
  blocks : List (Nat × Blk) := []
  /-- Superblocks by number, and the next number. -/
  sbs : List (Nat × Sb) := []
  sbNo : Nat := 0
  ops : List PageOp := []
  /-- Journal entries not on a page yet, oldest first, and pages handed to the metadata stream (R326). -/
  journal : List JEntry := []
  jpages : List (Nat × List JEntry) := []
  jpageNo : Nat := 0
  /-- The carriers hold a formatted T2 (R328, R351). -/
  formatted : Bool := false
  /-- Bytes handed to NAND since the last checkpoint began (R329); bytes destaged and programmed, retry reads since
  formatting (R353). -/
  sinceCkpt : Nat := 0
  destaged : Nat := 0
  programmed : Nat := 0
  retries : Nat := 0
  /-- Operating hours of the last checkpoint; change bitmaps stored with it (R353, R386). -/
  ckptHours : Nat := 0
  ckptChanged : List (List Nat) := [[], []]
  /-- Die temperatures as last read, by channel × 128 + die (R330). -/
  temps : List (Nat × Int) := []
  /-- Dies retired whole, and times in microseconds of block retirements, by channel × 128 + die (R341). -/
  deadDies : List Nat := []
  dieFails : List (Nat × Nat) := []
  /-- Space warnings given and not armed again: 90%, 97% (R344). -/
  warned90 : Bool := false
  warned97 : Bool := false
  /-- This chip's T2 is read-only (R345). -/
  readOnly : Bool := false
  /-- Units of moved stripe positions not yet healed onto their new channel (R342). -/
  moved : List Nat := []
  /-- Threshold words written since reset, by (type × 512 + entry) × 4 + word (R355). -/
  thr : List (Nat × BitVec 32) := []
  deriving DecidableEq, Repr

/-! ### DRAM channels and check codes (chapters 8, 9) -/

/-- An entry of a subchannel's read or write queue (R267, R270), with its number in the channel. -/
structure DmcEntry where
  seq : Nat
  a : DramAddr
  write : Bool
  /-- Its burst is on the bus, or has been and waits out its parity window. -/
  issued : Bool := false
  /-- Older than AGE_MAX (R268). -/
  aged : Bool := false
  deriving DecidableEq, Repr

/-- A valid entry of a remap table (R304). Its spare word always holds the code word that T1 holds, so it has no copy. -/
structure RemapEnt where
  sub : Nat
  line : BitVec 32
  word : Nat
  deriving DecidableEq, Repr

/-- An entry of the correction log (Table 09-9). -/
structure ClogEnt where
  chan : Nat
  sub : Nat
  line : BitVec 32
  word : Nat
  double : Bool
  scrub : Bool
  deriving DecidableEq, Repr

/-- A DRAM channel outside its registers. -/
structure DramChan where
  /-- Queue entries of both subchannels in the order in which they came, requests that wait for room, next number. -/
  queue : List DmcEntry := []
  waiting : List (DramAddr × Bool) := []
  seq : Nat := 0
  /-- Open rows: (subchannel × 16 + rank) × 64 + bank, and the row (R268). -/
  rows : List (Nat × Nat) := []
  /-- Bank group last used, 8 before the first access; write drain; stopped by a parity alert; by subchannel. -/
  group : List Nat := [8, 8]
  drain : List Bool := [false, false]
  stopped : List Bool := [false, false]
  /-- Refresh debt of each rank (R273); ranks in power-down (R271) and at the halved interval (R272). -/
  debt : List Nat := List.replicate 16 0
  down : List Nat := []
  hot : List Nat := []
  /-- Activations of a bank since its last refresh management (R278). -/
  raa : List (Nat × Nat) := []
  /-- Times of uncorrectable reads, parity alerts and corrected words (R281, R308). -/
  uncorrAt : List Nat := []
  caparAt : List Nat := []
  corrAt : List Nat := []
  /-- Words named in the correction log: word key and time (R305). -/
  named : List (Nat × Nat) := []
  remap : List (Nat × RemapEnt) := []
  deriving DecidableEq, Repr

/-- DRAM and check-code state that is no register (chapters 8, 9). -/
structure Dram where
  chans : List DramChan := List.replicate 16 {}
  clog : List ClogEnt := []
  /-- Entries were lost since the last one stored (R297). -/
  clogLost : Bool := false
  /-- Running scrub pass: target, write-back, first line, lines (R298). -/
  scrub : Option (Nat × Bool × Nat × Nat) := none
  /-- ABORT was written: the pass ends at the line that it has reached (Table 09-6). -/
  stopping : Bool := false
  deriving DecidableEq, Repr

/-! ### Colony (chapter 12) -/

/-- A member of this manager (R405, R418, R419), keyed by its index. -/
structure ColMember where
  path : Nat
  depth : Nat
  workerNo : Option Nat := none
  worker : Bool
  manager : Bool
  freePersistent : Nat := 0
  freeVolatile : Nat := 0
  freeKeys : Nat := 0
  /-- Both of its home sets are PAIRED. -/
  paired : Bool := false
  lost : Bool := false
  svc0 : BitVec 128
  svc1 : BitVec 128
  deriving DecidableEq, Repr

/-- A key that the directory records (R410, R412): holder's path and depth, and the service address of its home set. -/
structure ColKey where
  path : Nat
  depth : Nat
  home : Nat
  ip : BitVec 128
  deriving DecidableEq, Repr

/-- Who waits for a colony request. -/
inductive ColWhy where
  | join
  | health
  | pdSync
  /-- A key report, with the capsule that it holds back and its result (R415). -/
  | report (cap : Option CapRef) (result : Nat)
  /-- A creation: the capsule, or the request of the parent that is answered, and the members tried (R412). -/
  | create (r : ColCreate) (cap : Option CapRef) (up : Nat) (tried : List Nat)
  /-- Blocks for this worker (none), or for the member that asked (R410). -/
  | blocks (origin : Option (Nat × Nat))
  deriving DecidableEq, Repr

/-- A colony request not yet answered (R416): peer none is the parent. -/
structure ColReq where
  txn : Nat
  peer : Option Nat
  sends : Nat := 1
  msg : ColMsg
  why : ColWhy
  deriving DecidableEq, Repr

/-- Colony state that is no register (chapter 12). -/
structure Colony where
  /-- Credential in force, and halves written (Table 12-4). -/
  cred : Nat := 0
  credLo : Option Nat := none
  credHi : Option Nat := none
  members : List (Nat × ColMember) := []
  keys : List (Nat × ColKey) := []
  /-- Key blocks granted in the subtree: block, and path and depth of the worker that holds it (R410). -/
  blocks : List (Nat × Nat × Nat) := []
  /-- Key blocks that this worker holds. -/
  own : List Nat := []
  /-- Worker numbers assigned by this top manager (R408). -/
  workers : Nat := 0
  reqs : List ColReq := []
  txn : Nat := 1
  /-- Base of the directory's region (R409). -/
  dirRegion : Option Nat := none
  deriving DecidableEq, Repr

/-! ### Power supervision (chapter 13) and governor (chapter 14) -/

/-- Rail states (Table 13-2). -/
inductive RailSt where
  | off | qualifying | qualified | failed | faulted
  deriving DecidableEq, Repr

/-- A rail channel (R423): its state, RAILEN, its restart count. -/
structure Rail where
  st : RailSt := .off
  on : Bool := false
  restarts : Nat := 0
  deriving DecidableEq, Repr

/-- Steps of a shutdown (Table 13-3, R465): hand-over, the four Quench steps, rails off phase by phase. -/
inductive ShutStep where
  | handing | t0 | t1 | journal | amber | rails
  deriving DecidableEq, Repr

/-- A shutdown or an entry to P3 in progress (R432, R443, R465). -/
structure Shutdown where
  /-- LAST_CAUSE (Table 13-6). -/
  cause : Nat
  /-- Steps 8 and 11 of Table 13-3 apply. -/
  timed : Bool
  step : ShutStep
  /-- Quench runs: it does not when nothing was accepted, or when the chip cannot run it (R445, Table 18-3). -/
  quench : Bool := true
  /-- Time at which Quench began, and bytes that it has written. -/
  start : Nat := 0
  bytes : Nat := 0
  deriving DecidableEq, Repr

/-- A hold-up test (R437): step 0 waits for the dirty data to fit, 1 load on, 2 V1 taken, 3 Va taken, 4 load off. The
voltages are in mV. -/
structure HuTest where
  step : Nat := 0
  v0 : Nat := 0
  v1 : Nat := 0
  va : Nat := 0
  deriving DecidableEq, Repr

/-- Power-supervisor state that is no register (chapter 13). -/
structure Power where
  rails : List Rail := List.replicate 24 {}
  /-- XAON has oscillated for 100 ms (R606). -/
  xaon : Bool := false
  /-- The phase PWS_STATUS.PHASE has begun and is not complete (R426). -/
  phaseRuns : Bool := false
  /-- Stored copy of the sequence table: address and value (R428, R507). -/
  table : Option (List (Nat × BitVec 32)) := none
  shut : Option Shutdown := none
  /-- A shutdown has turned every rail off and nothing has started the sequence since (R436). -/
  afterShut : Bool := false
  hu : Option HuTest := none
  /-- The first test of a cold start has not completed (R441); step 9 does not wait for it any longer. -/
  huCold : Bool := true
  huWaived : Bool := false
  /-- Results of the last test, kept in retained SRAM (R441): C as charge in µC over voltage in mV, ESR in µΩ, B in MiB. -/
  huC : Nat × Nat := (0, 1)
  huEsr : Nat := 0
  huBudget : Nat := 0
  /-- Operating hours of the last test; module voltage now, in mV. -/
  huAt : Nat := 0
  huNow : Nat := 0
  /-- The BMC has written PWS_HUMOD0 or PWS_HUMOD1 since VAON was applied (R533). -/
  humodSet : Bool := false
  /-- Map units in the ranges of the EV_PWS_PERSIST_INCOMPLETE record, not yet healed (R435). -/
  lost : List Nat := []
  /-- A thermal trip holds the sequence (R460); the previous sample gave TJ of 125 °C or more. -/
  tripped : Bool := false
  hotBefore : Bool := false
  /-- The chip is held in warm reset until MR_N is released (R444). -/
  mrLow : Bool := false
  /-- Cause of the last reset, until start-up step 3 shows it (Table 20-6). -/
  resetCause : Nat := 0
  fromFreeze : Bool := false
  /-- Self-refresh has been entered for a warm reset whose warm mount has not completed (R445). -/
  inRestore : Bool := false
  /-- FW_ACTIVATE is in progress (R513). -/
  activating : Bool := false
  deriving DecidableEq, Repr

/-- Governor state that is no register (chapter 14). -/
structure Gov where
  /-- Steps that the power cap has taken, newest first (R451): a class refused (0 to 7), 8 the clock at 1.5 GHz, 9 at
  1.0 GHz, 10 OVER_CAP. -/
  steps : List Nat := []
  /-- Consecutive periods below GOV_PCAP − 5 W. -/
  calm : Nat := 0
  /-- Readings of the 24 junction sensors, those left out until reset, TJ in °C (R458). -/
  temps : List Int := []
  bad : List Nat := []
  tj : Int := 0
  /-- Consecutive periods with TJ below the step's entry temperature less 5 °C (R459). -/
  cool : Nat := 0
  /-- DRAM channels held by BURST_HOLD (R453). -/
  burst : List Nat := []
  /-- Clock-gated and power-gated domains, and those being woken (R71, R72, R461). -/
  clockGated : List Domain := []
  powerGated : List Domain := []
  waking : List Domain := []
  /-- Power state being entered, and the wake source of a wake that waits for the entry to end, or of the exit (R462,
  R465, Table 14-5). -/
  target : Nat := 0
  wake : Nat := 0
  /-- A wake has arrived during an entry. -/
  wakeDue : Bool := false
  /-- Steering table before P1 (Table 14-4). -/
  steer : List Nat := []
  deriving DecidableEq, Repr

/-! ### Keys and the sealing engine (chapter 15) -/

/-- A LOADED key slot (R470): its key, 64 bytes or 32, and whether it is PLAIN (R476). -/
structure KeySlot where
  key : List Byte
  plain : Bool := false
  deriving DecidableEq, Repr

/-- A running sealing operation: what it leaves when it is done (R486). -/
structure SealJob where
  result : Nat := 0
  /-- New contents of SEAL_BUF, SEAL_TAG and SEAL_OUTLEN; none leaves them. -/
  buf : Option (List Byte) := none
  tag : Option (List Byte) := none
  outLen : Option Nat := none
  /-- Slot to load, or to empty. -/
  load : Option (Nat × KeySlot) := none
  clear : Option Nat := none
  root : Option (List Byte) := none
  unsealed : Bool := false
  /-- Counts in SEAL_AUTH_FAIL; recorded as EV_SEAL_AUTH_FAIL. -/
  authFail : Bool := false
  gcm : Bool := false
  deriving DecidableEq, Repr

/-- Sealing-engine state that is no register (chapter 15). -/
structure Seal where
  /-- LOADED slots by number (Table 15-1). -/
  slots : List (Nat × KeySlot) := []
  /-- Device root key in its fuse bank (R473). -/
  root : Option (List Byte) := none
  /-- Slots whose blob is stored in the configuration area, with the key (R475). -/
  blobs : List (Nat × KeySlot) := []
  /-- SEAL_KEYIN words as written (WO). -/
  keyIn : List (Nat × BitVec 32) := []
  job : Option SealJob := none
  deriving DecidableEq, Repr

/-! ### Code flash and start-up (chapter 16) -/

/-- A code-flash operation in progress (R498 to R501). -/
inductive CfOp where
  | program (addr : Nat) (data : BitVec 64)
  | erase (sector : Nat) (suspended : Bool) (suspensions : Nat)
  deriving DecidableEq, Repr

/-- Code-flash and start-up state that is no register (chapter 16). -/
structure Boot where
  /-- Code flash by byte offset; an unlisted byte is erased, 0xFF (R492, R493). The Amber area and the configuration
  area are kept in the structures of their own chapters. -/
  cf : List Host.Cell := []
  /-- Words whose program failed its verify (R495), as byte offset ÷ 8. -/
  torn : List Nat := []
  /-- INCOMPLETE sectors (R499, R500), as byte offset ÷ 4,096. -/
  incomplete : List Nat := []
  op : Option CfOp := none
  /-- Rollback floor in fuses (R508). -/
  floor : Nat := 0
  /-- Pages of the staged map (R512). -/
  staged : List Nat := []
  /-- Committed configuration set of the configuration area (R511). -/
  stored : Option (List Staged) := none
  /-- A configuration is in force: the stored set was applied, or a commit before step 10 (R511, R572). -/
  configured : Bool := false
  /-- Core release has come, so the staged set exists (R579). -/
  released : Bool := false
  deriving DecidableEq, Repr

/-! ### Management bus (chapter 17) -/

/-- An identity-bus transaction that runs, as GO found it (R537, Table 17-10). -/
structure IdTxn where
  seg : Nat
  branch : Nat
  write : Bool
  len : Nat
  deriving DecidableEq, Repr

/-- State of the two-wire target and the identity buses that is no register. -/
structure Mbus where
  pointer : BitVec 16 := 0
  /-- This chip asserts ALERT_N (R529). -/
  alert : Bool := false
  /-- Straps MADR[2:0] (R518) and SIDE_A (R357) as the pins carry them. -/
  madr : BitVec 3 := 0
  sideA : Bool := false
  /-- The survey of start-up step 6 is running or has not run (R534, R537). -/
  survey : Bool := false
  /-- Segments whose rail has been power-cycled once since the last cold start, and the one being cycled with
  its rail (R536). -/
  cycled : List Nat := []
  cycling : Option (Nat × Nat) := none
  /-- Segments and branches on which a transaction has run since the last reset: segment × 4 + branch (R535). -/
  used : List Nat := []
  txn : Option IdTxn := none
  deriving DecidableEq, Repr

/-! ### The machine -/

/-- Why the machine stops. No rule of the spec stops the block for good: a shutdown ends with the rails off and the
always-on domain running (R432), so the type has no constructor that any meaning answers but the one below. -/
inductive Fault where
  /-- Raised by nothing: the spec names no event after which the block accepts no command. Safe. -/
  | stuck
  deriving DecidableEq, Repr

/-- Why a command has no meaning. -/
inductive Refusal where
  /-- Raised by an arm of exec whose row has no meaning yet; no row is left so. Safe: nothing is claimed of it. -/
  | notModelled (mnemonic : String)
  /-- Raised by a meaning whose operands spell no command of the row: a list whose length the frame format of the
  spec fixes has another length. Safe: such a command cannot be sent. -/
  | illFormed (what : String)
  deriving DecidableEq, Repr

/-- The state of the block. -/
structure State where
  /-- Commands waiting, first in first out. -/
  pending : List Instr := []
  /-- Model clock in microseconds since VAON was first applied (log entry 2). -/
  now : Nat := 0
  /-- Free values drawn so far: the model's own field, no state of the chip (log entry 3). -/
  free : Nat := 0
  /-- The register bank: registers whose value is not their reset value (R576, R589). -/
  regs : List (Nat × BitVec 32) := []
  /-- What the block has sent, newest first (log entry 5). -/
  out : List Out := []
  amb : Amber := {}
  dbg : Debug := {}
  cfg : Config19 := {}
  prot : Protect := {}
  net : Net := {}
  cqi : Cqi := {}
  tier : Tier := {}
  flash : Flash := {}
  twin : Twin := {}
  dram : Dram := {}
  col : Colony := {}
  pw : Power := {}
  gov : Gov := {}
  sealing : Seal := {}
  boot : Boot := {}
  mbus : Mbus := {}
  deriving DecidableEq, Repr

/-- The state at the first application of VAON (R589, Table 20-2): every register at its reset value, the sequencer
OFF, nothing in memory, no command waiting. -/
def State.reset : State := {}

end Sys2Proof.Machine
end

