-- ==== Sys2Proof/Machine/Ops.lean ====
section
/-! DEFINITION. Sys2Proof/Machine/Ops.lean: the named operations over the sparse maps and byte memories, the register
bank, its fields and its counters, and the small bit-field and byte-order helpers of the model. -/

namespace Sys2Proof.Machine

/-! ### Registers and fields -/

/-- The register at an address as the bank holds it (R576); a reserved address reads 0 (R577). -/
def State.reg (s : State) (a : Nat) : BitVec 32 := sget regReset s.regs a

/-- The bank with the register at an address set. -/
def State.setReg (s : State) (a : Nat) (v : BitVec 32) : State := { s with regs := sput regReset s.regs a v }

/-- The value of a field of a word. -/
def fieldOf (f : Field) (w : BitVec 32) : Nat := (w.toNat >>> f.lo) % 2 ^ f.width

/-- A word with a field replaced; the value is cut to the field's width. -/
def withField (f : Field) (w : BitVec 32) (v : Nat) : BitVec 32 :=
  (w &&& ~~~(BitVec.ofNat 32 ((2 ^ f.width - 1) <<< f.lo))) ||| BitVec.ofNat 32 ((v % 2 ^ f.width) <<< f.lo)

/-- The value of a field of a register. -/
def State.get (s : State) (f : Field) : Nat := fieldOf f (s.reg f.addr)

/-- Whether a one-bit field of a register is 1. -/
def State.on (s : State) (f : Field) : Bool := s.get f != 0

/-- The bank with a field of a register set. -/
def State.put (s : State) (f : Field) (v : Nat) : State := s.setReg f.addr (withField f (s.reg f.addr) v)

/-- The bank with a one-bit field set to a truth value. -/
def State.putB (s : State) (f : Field) (b : Bool) : State := s.put f (if b then 1 else 0)

/-- A counter adds and saturates at 0xFFFF_FFFF (R129). -/
def State.countBy (s : State) (a n : Nat) : State :=
  s.setReg a (BitVec.ofNat 32 (min ((s.reg a).toNat + n) 0xFFFFFFFF))

/-- A counter counts one (R129). -/
def State.count (s : State) (a : Nat) : State := s.countBy a 1

/-- A counter that keeps the largest value since its last read. -/
def State.countMax (s : State) (a n : Nat) : State := s.setReg a (BitVec.ofNat 32 (min (max (s.reg a).toNat n) 0xFFFFFFFF))

/-- A 64-bit value held in two registers, the low half at the first address. -/
def State.reg64 (s : State) (lo hi : Nat) : Nat := (s.reg lo).toNat + (s.reg hi).toNat * 2 ^ 32

/-- Two registers set from a 64-bit value. -/
def State.setReg64 (s : State) (lo hi v : Nat) : State := (s.setReg lo (BitVec.ofNat 32 v)).setReg hi (BitVec.ofNat 32 (v >>> 32))

/-- Bit n of a register. -/
def State.regBit (s : State) (a n : Nat) : Bool := (s.reg a).getLsbD n

/-- A register with bit n set or cleared. -/
def State.setRegBit (s : State) (a n : Nat) (b : Bool) : State := s.put ⟨a, n, 1⟩ (if b then 1 else 0)

/-! ### Bytes -/

/-- The n low bytes of a number, least significant first. -/
def leBytes : Nat → Nat → List Byte
  | 0, _ => []
  | n + 1, v => BitVec.ofNat 8 v :: leBytes n (v / 256)

/-- The number that bytes spell, least significant first. -/
def leNat : List Byte → Nat
  | [] => 0
  | b :: bs => b.toNat + 256 * leNat bs

/-- The n low bytes of a number, most significant first (network order). -/
def beBytes (n v : Nat) : List Byte := (leBytes n v).reverse

/-- The number that bytes spell, most significant first. -/
def beNat (bs : List Byte) : Nat := leNat bs.reverse

/-- A list of bytes padded with zeros, or cut, to a length. -/
def padTo (n : Nat) (bs : List Byte) : List Byte := (bs ++ List.replicate (n - bs.length) 0).take n

/-! ### Byte memories -/

/-- The byte at an address of a memory whose unlisted addresses read as d. -/
def memByte (d : Byte) (m : List Host.Cell) (a : Nat) : Byte := sget (fun _ => d) m a

/-- n bytes from an address. -/
def memRead (d : Byte) (m : List Host.Cell) (a : Nat) : Nat → List Byte
  | 0 => []
  | n + 1 => memByte d m a :: memRead d m (a + 1) n

/-- Bytes stored from an address upward. -/
def memWrite (d : Byte) (m : List Host.Cell) (a : Nat) : List Byte → List Host.Cell
  | [] => m
  | b :: bs => memWrite d (sput (fun _ => d) m a b) (a + 1) bs

/-- A span of n bytes set back to what an unlisted address reads as. -/
def memClear (m : List Host.Cell) (a n : Nat) : List Host.Cell := m.filter (fun c => c.1 < a || a + n ≤ c.1)

/-- The canonical form of a byte memory whose unlisted addresses read as d: addresses strictly rising, no byte equal to d. -/
def Memory.wf (d : Byte) (m : List Host.Cell) : Bool := swf (fun _ => d) m

/-! ### Lists -/

/-- A list with the element at an index changed. -/
def updAt {α : Type} (l : List α) (i : Nat) (f : α → α) : List α := l.modify i f

/-- A table of n entries with one of them changed; an entry that the list does not reach is d. -/
def setAt {α : Type} (n : Nat) (d : α) (l : List α) (i : Nat) (f : α → α) : List α :=
  (List.range n).map (fun j => if j = i then f (l.getD j d) else l.getD j d)

/-- Whether a number lies in the half-open range that starts at a and holds n. -/
def within (a n x : Nat) : Bool := decide (a ≤ x) && decide (x < a + n)

/-- Whether two half-open ranges share an address. -/
def overlaps (a n b m : Nat) : Bool := decide (a < b + m) && decide (b < a + n) && decide (0 < n) && decide (0 < m)

/-- The numbers from a to a + n - 1. -/
def span (a n : Nat) : List Nat := (List.range n).map (a + ·)

/-- A fresh free value is drawn: the counter advances, and the value it named is the free value of Config at it. -/
def State.draw (s : State) : Nat × State := (s.free, { s with free := s.free + 1 })

/-! ### Whether the core runs -/

/-- FREEZE is in force, or MR_N holds the chip in reset: clocks stand still, and nothing arrives (R444, Table 18-3). -/
def State.still (s : State) : Bool := s.on Fld.DBG_STATUS_FROZEN || s.pw.mrLow

/-- Every domain but the always-on domain has its clocks and rails: the rail sequence has completed, or a shutdown has not
come to its rails step, and nothing stands still. -/
def State.coreRuns (s : State) : Bool :=
  (s.get Fld.PWS_STATUS_SEQ = 2 || s.pw.shut.any (fun x => x.step != .rails)) && !s.still

/-- The answer of a command that acts outside the always-on domain: no effect while the core does not run (Table 18-3). -/
def State.core (s t : State) : Host.Outcome State Fault Refusal := .next (if s.coreRuns then t else s)

end Sys2Proof.Machine
end

