-- ==== Sys2Proof/Machine/CheckCode.lean ====
section
/-! DEFINITION. Sys2Proof/Machine/CheckCode.lean: the (80,64) code and the never-written marker (R286 to R293). -/

namespace Sys2Proof.Machine

/-- One step of the division by g(x) = 0x4377: the next coefficient enters the remainder (R287). -/
def bchStep (r : Nat) (b : Bool) : Nat :=
  let x := 2 * r + b.toNat
  if x.testBit 14 then x ^^^ 0x4377 else x

/-- The remainder of x^14 · D(x) divided by g(x), for the n low bits of D, highest first (R287). -/
def bchRem (d : Nat) : Nat :=
  let r := (List.range 64).foldl (fun r i => bchStep r (d.testBit (63 - i))) 0
  (List.range 14).foldl (fun r _ => bchStep r false) r

/-- Exclusive or of the bits of a number that a list names. -/
def xorBits (d : Nat) (is : List Nat) : Bool := is.foldl (fun b i => b != d.testBit i) false

/-- Data bits of groups G1 and G2 (R288). -/
def group1 : List Nat := List.range 16 ++ span 33 15
def group2 : List Nat := span 16 16 ++ span 48 16 ++ [32]

/-- Check bits C[15:0] of data D (R287, R288). -/
def checkBits (d : Nat) : Nat :=
  let c := bchRem d
  c + (xorBits d group1).toNat * 2 ^ 14 + (xorBits d group2 != xorBits c (List.range 14)).toNat * 2 ^ 15

/-- The code word of data: D in bits 63 to 0, C in bits 79 to 64 (R286). -/
def encodeWord (d : BitVec 64) : BitVec 80 := BitVec.ofNat 80 (d.toNat + checkBits d.toNat * 2 ^ 64)

/-- The never-written marker (R292). -/
def marker : BitVec 80 := BitVec.ofNat 80 (0xC000 * 2 ^ 64)

/-- Difference between the check bits stored and those of the data stored: 0 for a code word, and linear. -/
def syndrome (w : BitVec 80) : Nat := checkBits (w.toNat % 2 ^ 64) ^^^ (w.toNat / 2 ^ 64)

/-- Syndrome of each single flipped bit. -/
def columns : List (Nat × Nat) := (List.range 80).map (fun p => (p, syndrome (BitVec.ofNat 80 (2 ^ p))))

/-- What a decoder makes of a word. -/
inductive WordRes where
  | ok | one | two | bad | never
  deriving DecidableEq, Repr

/-- Flipped bits that a syndrome names: none, one or two, or no such pattern (R290). -/
def flipped (syn : Nat) : Option (List Nat) :=
  if syn = 0 then some []
  else match columns.find? (fun c => c.2 = syn) with
    | some c => some [c.1]
    | none => columns.findSome? (fun c => (columns.find? (fun e => c.1 < e.1 && e.2 = c.2 ^^^ syn)).map (fun e => [c.1, e.1]))

/-- A word decoded (R290); the marker is recognised in frames of volatile regions only, by all 80 bits (R293). -/
def decodeWord (isVol : Bool) (w : BitVec 80) : WordRes × BitVec 64 :=
  if isVol && w = marker then (.never, 0)
  else match flipped (syndrome w) with
    | some [] => (.ok, w.setWidth 64)
    | some [p] => (.one, (w ^^^ BitVec.ofNat 80 (2 ^ p)).setWidth 64)
    | some (p :: q :: _) => (.two, (w ^^^ BitVec.ofNat 80 (2 ^ p) ^^^ BitVec.ofNat 80 (2 ^ q)).setWidth 64)
    | none => (.bad, w.setWidth 64)

/-- Lanes of a word in its two beats: DQ[31:0] and CB[7:0] of beat 2k, then of beat 2k + 1 (Table 09-1). -/
def lanes (w : BitVec 80) : (BitVec 32 × BitVec 8) × (BitVec 32 × BitVec 8) :=
  let bit (i : Nat) : Nat := (w.getLsbD i).toNat
  let dq1 : Nat := (w.toNat / 2 ^ 33 % 2 ^ 31) * 2 + bit 78
  let cb1 : Nat := (w.toNat / 2 ^ 72 % 2 ^ 6) + bit 32 * 64 + bit 79 * 128
  ((w.setWidth 32, BitVec.ofNat 8 (w.toNat / 2 ^ 64)), (BitVec.ofNat 32 dq1, BitVec.ofNat 8 cb1))

end Sys2Proof.Machine
end

