-- ==== Sys2Proof/Machine/Flags.lean ====
section
/-! DEFINITION. Sys2Proof/Machine/Flags.lean: the event tables, the event registers and the Amber recorder's entry
point. An event sets its bit in its block's EVT register at every occurrence and is recorded unless a limit, a full
area or a full staging buffer prevents it (R540 to R546, R616). -/

namespace Sys2Proof.Machine

/-- Every event of the event tables 03-10, 04-4, 05-15, 06-5, 07-3, 08-7, 09-4, 10-8, 11-12, 12-3, 13-4, 14-7,
15-4, 16-6, 17-5 and 18-5 (R540). -/
inductive Event where
  | prtLinkUp | prtLinkDown | prtTrainFail | prtLosslessDrop | prtPauseStorm | trnQpError | trnRetryExceeded 
  | trnMissqPause | trnPsnSkip | trnRewindDone | keyViolation | keyFenceTimeout | keyRightsWithdrawn 
  | cqiQueueFrozen | cqiBindFail | cqiNqOverflow | cqiAbandoned | cqiSelftestFail | cqiDoorbellInvalid 
  | tierDeadline | tierUnitPoisoned | tierStreamDamaged | tierStreamStall | tierFloatShort | tierQuotaCfg 
  | lcCorr | lcUncorr | lcEnableRefused | lcMopErr | dmcDimmUnsupported | dmcSpdFail | dmcTrainFail 
  | dmcWarmFail | dmcNoT1 | dmcUncorr | dmcCapar | dmcWordsLost | dmcRetired | dmcT1Short | eccScrubDone 
  | eccRemap | eccRetireReq | eccDeviceSuspect | eccCtxUncorr | eccClogOverflow | eccPatrolPass 
  | fchDieUnsupported | fchIdFail | fchInitFail | ftlMount | ftlSpaceWarn | ftlReadOnly | ftlReadWrite 
  | ftlBlockRetired | ftlDieRetired | fchChannelRetired | ftlWearRated | ftlSpareLow | ftlEraseIncomplete 
  | ftlTornUnit | twnLinkUp | twnLinkDown | twnLaneDown | twnSideConflict | twnClaimLost | twnPaired 
  | twnSolo | twnLockstepMismatch | twnHeldOut | twnDiverged | twnPartnerAbsent | twnForcedSolo | twnTakeover 
  | twnUnserved | twnHandover | twnLeaseMode | twnIntlkOk | twnHealth | colJoined | colMemberJoin 
  | colMemberLost | colParentLost | colJoinRefused | colBlocksLow | pwsSeqDone | pwsTableBad 
  | pwsRailFailRise | pwsRailFault | pwsSenseFault | pwsPfw | pwsQuenchDone | pwsPersistIncomplete 
  | pwsBtnShort | pwsBtnLong | pwsWarmReset | pwsHuTest | pwsHuLow | govCapExceeded | govDirtyPause 
  | govThermalStep | govThermalTrip | govSensorFail | govPstate | sealRootProvisioned | sealUnsealFail 
  | sealSlotChange | sealAuthFail | sealForeign | sealLockTimeout | xtsKeysMissing | xtsKatFail | cflBoot 
  | cflAltBoot | cflRevert | cflRecovery | cflActivate | cflConfirm | cflIncomplete | cflBrownout | cflUncorr 
  | mbusPecErr | mbusTimeout | mbusSegStuck | mbusSegRecovered | mbusIdBad | mbusSurveyDone | ambFull 
  | ambCleared | ambLost | dbgUnlock | dbgAuthFail | dbgFreeze | dbgFreezeRefused 
  deriving DecidableEq, Repr

/-- The event code: the chapter's number above the row's number in its event table (R540). -/
def Event.code : Event → BitVec 16
  | .prtLinkUp => 0x0301
  | .prtLinkDown => 0x0302
  | .prtTrainFail => 0x0303
  | .prtLosslessDrop => 0x0304
  | .prtPauseStorm => 0x0305
  | .trnQpError => 0x0306
  | .trnRetryExceeded => 0x0307
  | .trnMissqPause => 0x0308
  | .trnPsnSkip => 0x0309
  | .trnRewindDone => 0x030a
  | .keyViolation => 0x0401
  | .keyFenceTimeout => 0x0402
  | .keyRightsWithdrawn => 0x0403
  | .cqiQueueFrozen => 0x0501
  | .cqiBindFail => 0x0502
  | .cqiNqOverflow => 0x0503
  | .cqiAbandoned => 0x0504
  | .cqiSelftestFail => 0x0505
  | .cqiDoorbellInvalid => 0x0506
  | .tierDeadline => 0x0601
  | .tierUnitPoisoned => 0x0602
  | .tierStreamDamaged => 0x0603
  | .tierStreamStall => 0x0604
  | .tierFloatShort => 0x0605
  | .tierQuotaCfg => 0x0606
  | .lcCorr => 0x0701
  | .lcUncorr => 0x0702
  | .lcEnableRefused => 0x0703
  | .lcMopErr => 0x0704
  | .dmcDimmUnsupported => 0x0801
  | .dmcSpdFail => 0x0802
  | .dmcTrainFail => 0x0803
  | .dmcWarmFail => 0x0804
  | .dmcNoT1 => 0x0805
  | .dmcUncorr => 0x0806
  | .dmcCapar => 0x0807
  | .dmcWordsLost => 0x0808
  | .dmcRetired => 0x0809
  | .dmcT1Short => 0x080a
  | .eccScrubDone => 0x0901
  | .eccRemap => 0x0902
  | .eccRetireReq => 0x0903
  | .eccDeviceSuspect => 0x0904
  | .eccCtxUncorr => 0x0905
  | .eccClogOverflow => 0x0906
  | .eccPatrolPass => 0x0907
  | .fchDieUnsupported => 0x0a01
  | .fchIdFail => 0x0a02
  | .fchInitFail => 0x0a03
  | .ftlMount => 0x0a04
  | .ftlSpaceWarn => 0x0a05
  | .ftlReadOnly => 0x0a06
  | .ftlReadWrite => 0x0a07
  | .ftlBlockRetired => 0x0a08
  | .ftlDieRetired => 0x0a09
  | .fchChannelRetired => 0x0a0a
  | .ftlWearRated => 0x0a0b
  | .ftlSpareLow => 0x0a0c
  | .ftlEraseIncomplete => 0x0a0d
  | .ftlTornUnit => 0x0a0e
  | .twnLinkUp => 0x0b01
  | .twnLinkDown => 0x0b02
  | .twnLaneDown => 0x0b03
  | .twnSideConflict => 0x0b04
  | .twnClaimLost => 0x0b05
  | .twnPaired => 0x0b06
  | .twnSolo => 0x0b07
  | .twnLockstepMismatch => 0x0b08
  | .twnHeldOut => 0x0b09
  | .twnDiverged => 0x0b0a
  | .twnPartnerAbsent => 0x0b0b
  | .twnForcedSolo => 0x0b0c
  | .twnTakeover => 0x0b0d
  | .twnUnserved => 0x0b0e
  | .twnHandover => 0x0b0f
  | .twnLeaseMode => 0x0b10
  | .twnIntlkOk => 0x0b11
  | .twnHealth => 0x0b12
  | .colJoined => 0x0c01
  | .colMemberJoin => 0x0c02
  | .colMemberLost => 0x0c03
  | .colParentLost => 0x0c04
  | .colJoinRefused => 0x0c05
  | .colBlocksLow => 0x0c06
  | .pwsSeqDone => 0x0d01
  | .pwsTableBad => 0x0d02
  | .pwsRailFailRise => 0x0d03
  | .pwsRailFault => 0x0d04
  | .pwsSenseFault => 0x0d05
  | .pwsPfw => 0x0d06
  | .pwsQuenchDone => 0x0d07
  | .pwsPersistIncomplete => 0x0d08
  | .pwsBtnShort => 0x0d09
  | .pwsBtnLong => 0x0d0a
  | .pwsWarmReset => 0x0d0b
  | .pwsHuTest => 0x0d0c
  | .pwsHuLow => 0x0d0d
  | .govCapExceeded => 0x0e01
  | .govDirtyPause => 0x0e02
  | .govThermalStep => 0x0e03
  | .govThermalTrip => 0x0e04
  | .govSensorFail => 0x0e05
  | .govPstate => 0x0e06
  | .sealRootProvisioned => 0x0f01
  | .sealUnsealFail => 0x0f02
  | .sealSlotChange => 0x0f03
  | .sealAuthFail => 0x0f04
  | .sealForeign => 0x0f05
  | .sealLockTimeout => 0x0f06
  | .xtsKeysMissing => 0x0f07
  | .xtsKatFail => 0x0f08
  | .cflBoot => 0x1001
  | .cflAltBoot => 0x1002
  | .cflRevert => 0x1003
  | .cflRecovery => 0x1004
  | .cflActivate => 0x1005
  | .cflConfirm => 0x1006
  | .cflIncomplete => 0x1007
  | .cflBrownout => 0x1008
  | .cflUncorr => 0x1009
  | .mbusPecErr => 0x1101
  | .mbusTimeout => 0x1102
  | .mbusSegStuck => 0x1103
  | .mbusSegRecovered => 0x1104
  | .mbusIdBad => 0x1105
  | .mbusSurveyDone => 0x1106
  | .ambFull => 0x1201
  | .ambCleared => 0x1202
  | .ambLost => 0x1203
  | .dbgUnlock => 0x1204
  | .dbgAuthFail => 0x1205
  | .dbgFreeze => 0x1206
  | .dbgFreezeRefused => 0x1207

/-- The event register of the event's block and the event's bit there; none where the table says None. The
argument is the channel of a DMC event (R285). -/
def Event.evtBit (c : Nat) : Event → Option (Nat × Nat)
  | .prtLinkUp => some (Reg.TRN_EVT, 0)
  | .prtLinkDown => some (Reg.TRN_EVT, 0)
  | .prtTrainFail => some (Reg.TRN_EVT, 0)
  | .prtLosslessDrop => some (Reg.TRN_EVT, 1)
  | .prtPauseStorm => some (Reg.TRN_EVT, 2)
  | .trnQpError => some (Reg.TRN_EVT, 3)
  | .trnRetryExceeded => some (Reg.TRN_EVT, 3)
  | .trnMissqPause => some (Reg.TRN_EVT, 4)
  | .trnPsnSkip => some (Reg.TRN_EVT, 5)
  | .trnRewindDone => none
  | .keyViolation => some (Reg.KEY_EVT, 0)
  | .keyFenceTimeout => some (Reg.KEY_EVT, 1)
  | .keyRightsWithdrawn => some (Reg.KEY_EVT, 2)
  | .cqiQueueFrozen => some (Reg.CQI_EVT, 0)
  | .cqiBindFail => some (Reg.CQI_EVT, 1)
  | .cqiNqOverflow => some (Reg.CQI_EVT, 2)
  | .cqiAbandoned => some (Reg.CQI_EVT, 3)
  | .cqiSelftestFail => some (Reg.CQI_EVT, 4)
  | .cqiDoorbellInvalid => some (Reg.CQI_EVT, 5)
  | .tierDeadline => some (Reg.TIER_EVT, 0)
  | .tierUnitPoisoned => some (Reg.TIER_EVT, 1)
  | .tierStreamDamaged => some (Reg.TIER_EVT, 2)
  | .tierStreamStall => some (Reg.TIER_EVT, 3)
  | .tierFloatShort => some (Reg.TIER_EVT, 4)
  | .tierQuotaCfg => some (Reg.TIER_EVT, 5)
  | .lcCorr => some (Reg.LC_EVT, 0)
  | .lcUncorr => some (Reg.LC_EVT, 1)
  | .lcEnableRefused => some (Reg.LC_EVT, 2)
  | .lcMopErr => some (Reg.LC_EVT, 3)
  | .dmcDimmUnsupported => some (Reg.DMC_EVT c, 0)
  | .dmcSpdFail => some (Reg.DMC_EVT c, 0)
  | .dmcTrainFail => some (Reg.DMC_EVT c, 1)
  | .dmcWarmFail => some (Reg.DMC_EVT c, 1)
  | .dmcNoT1 => some (Reg.DMC_EVT c, 0)
  | .dmcUncorr => some (Reg.DMC_EVT c, 2)
  | .dmcCapar => some (Reg.DMC_EVT c, 3)
  | .dmcWordsLost => some (Reg.DMC_EVT c, 4)
  | .dmcRetired => some (Reg.DMC_EVT c, 4)
  | .dmcT1Short => some (Reg.DMC_EVT c, 4)
  | .eccScrubDone => some (Reg.ECC_EVT, 0)
  | .eccRemap => some (Reg.ECC_EVT, 1)
  | .eccRetireReq => some (Reg.ECC_EVT, 2)
  | .eccDeviceSuspect => some (Reg.ECC_EVT, 3)
  | .eccCtxUncorr => some (Reg.ECC_EVT, 4)
  | .eccClogOverflow => some (Reg.ECC_EVT, 5)
  | .eccPatrolPass => some (Reg.ECC_EVT, 6)
  | .fchDieUnsupported => some (Reg.FTL_EVT, 0)
  | .fchIdFail => some (Reg.FTL_EVT, 0)
  | .fchInitFail => some (Reg.FTL_EVT, 0)
  | .ftlMount => none
  | .ftlSpaceWarn => some (Reg.FTL_EVT, 1)
  | .ftlReadOnly => some (Reg.FTL_EVT, 2)
  | .ftlReadWrite => some (Reg.FTL_EVT, 2)
  | .ftlBlockRetired => some (Reg.FTL_EVT, 3)
  | .ftlDieRetired => some (Reg.FTL_EVT, 3)
  | .fchChannelRetired => some (Reg.FTL_EVT, 3)
  | .ftlWearRated => some (Reg.FTL_EVT, 4)
  | .ftlSpareLow => some (Reg.FTL_EVT, 4)
  | .ftlEraseIncomplete => some (Reg.FTL_EVT, 5)
  | .ftlTornUnit => some (Reg.FTL_EVT, 5)
  | .twnLinkUp => some (Reg.TWN_EVT, 0)
  | .twnLinkDown => some (Reg.TWN_EVT, 0)
  | .twnLaneDown => some (Reg.TWN_EVT, 0)
  | .twnSideConflict => some (Reg.TWN_EVT, 1)
  | .twnClaimLost => some (Reg.TWN_EVT, 1)
  | .twnPaired => some (Reg.TWN_EVT, 2)
  | .twnSolo => some (Reg.TWN_EVT, 2)
  | .twnLockstepMismatch => some (Reg.TWN_EVT, 2)
  | .twnHeldOut => some (Reg.TWN_EVT, 2)
  | .twnDiverged => some (Reg.TWN_EVT, 1)
  | .twnPartnerAbsent => some (Reg.TWN_EVT, 2)
  | .twnForcedSolo => some (Reg.TWN_EVT, 1)
  | .twnTakeover => some (Reg.TWN_EVT, 3)
  | .twnUnserved => some (Reg.TWN_EVT, 3)
  | .twnHandover => some (Reg.TWN_EVT, 4)
  | .twnLeaseMode => some (Reg.TWN_EVT, 5)
  | .twnIntlkOk => some (Reg.TWN_EVT, 5)
  | .twnHealth => some (Reg.TWN_EVT, 6)
  | .colJoined => some (Reg.COL_EVT, 0)
  | .colMemberJoin => some (Reg.COL_EVT, 0)
  | .colMemberLost => some (Reg.COL_EVT, 1)
  | .colParentLost => some (Reg.COL_EVT, 2)
  | .colJoinRefused => some (Reg.COL_EVT, 3)
  | .colBlocksLow => some (Reg.COL_EVT, 4)
  | .pwsSeqDone => some (Reg.PWS_EVT, 0)
  | .pwsTableBad => some (Reg.PWS_EVT, 0)
  | .pwsRailFailRise => some (Reg.PWS_EVT, 1)
  | .pwsRailFault => some (Reg.PWS_EVT, 1)
  | .pwsSenseFault => some (Reg.PWS_EVT, 1)
  | .pwsPfw => some (Reg.PWS_EVT, 2)
  | .pwsQuenchDone => some (Reg.PWS_EVT, 2)
  | .pwsPersistIncomplete => some (Reg.PWS_EVT, 3)
  | .pwsBtnShort => some (Reg.PWS_EVT, 4)
  | .pwsBtnLong => some (Reg.PWS_EVT, 4)
  | .pwsWarmReset => some (Reg.PWS_EVT, 5)
  | .pwsHuTest => some (Reg.PWS_EVT, 6)
  | .pwsHuLow => some (Reg.PWS_EVT, 6)
  | .govCapExceeded => some (Reg.GOV_EVT, 0)
  | .govDirtyPause => some (Reg.GOV_EVT, 1)
  | .govThermalStep => some (Reg.GOV_EVT, 2)
  | .govThermalTrip => some (Reg.GOV_EVT, 3)
  | .govSensorFail => some (Reg.GOV_EVT, 4)
  | .govPstate => some (Reg.GOV_EVT, 5)
  | .sealRootProvisioned => some (Reg.SEAL_EVT, 0)
  | .sealUnsealFail => some (Reg.SEAL_EVT, 1)
  | .sealSlotChange => some (Reg.SEAL_EVT, 2)
  | .sealAuthFail => some (Reg.SEAL_EVT, 3)
  | .sealForeign => some (Reg.SEAL_EVT, 4)
  | .sealLockTimeout => some (Reg.SEAL_EVT, 5)
  | .xtsKeysMissing => some (Reg.XTS_EVT, 0)
  | .xtsKatFail => some (Reg.XTS_EVT, 1)
  | .cflBoot => some (Reg.CFL_EVT, 0)
  | .cflAltBoot => some (Reg.CFL_EVT, 0)
  | .cflRevert => some (Reg.CFL_EVT, 0)
  | .cflRecovery => some (Reg.CFL_EVT, 1)
  | .cflActivate => some (Reg.CFL_EVT, 2)
  | .cflConfirm => some (Reg.CFL_EVT, 2)
  | .cflIncomplete => some (Reg.CFL_EVT, 3)
  | .cflBrownout => some (Reg.CFL_EVT, 3)
  | .cflUncorr => some (Reg.CFL_EVT, 3)
  | .mbusPecErr => some (Reg.MBUS_EVT, 0)
  | .mbusTimeout => some (Reg.MBUS_EVT, 1)
  | .mbusSegStuck => some (Reg.MBUS_EVT, 2)
  | .mbusSegRecovered => some (Reg.MBUS_EVT, 2)
  | .mbusIdBad => some (Reg.MBUS_EVT, 3)
  | .mbusSurveyDone => none
  | .ambFull => some (Reg.AMB_EVT, 0)
  | .ambCleared => some (Reg.AMB_EVT, 1)
  | .ambLost => some (Reg.AMB_EVT, 2)
  | .dbgUnlock => some (Reg.DBG_EVT, 0)
  | .dbgAuthFail => some (Reg.DBG_EVT, 1)
  | .dbgFreeze => some (Reg.DBG_EVT, 2)
  | .dbgFreezeRefused => some (Reg.DBG_EVT, 2)

/-- The event's bit is set in its EVT register (R616); a bit that becomes pending asserts ALERT_N (R529). -/
def State.setEvt (s : State) (e : Event) (c : Nat) : State :=
  match e.evtBit c with
  | some (a, b) =>
    let alert := s.mbus.alert || (s.regBit (a + 4) b && !(s.regBit a b))
    let s := s.setRegBit a b true
    { s with mbus := { s.mbus with alert := alert } }
  | none => s

/-- The event's bit is set in its block's EVT_EN, which lies four bytes above EVT (Table 18-2). -/
def State.evtEnabled (s : State) (e : Event) (c : Nat) : Bool :=
  match e.evtBit c with
  | some (a, b) => s.regBit (a + 4) b
  | none => false

/-- The operating-hours counter now, in units of 1/4096 h (R542). -/
def State.stamp (s : State) : Nat := (s.amb.hours + (s.now - s.amb.hoursAt) * 4096 / 3600000000) % 2 ^ 36

/-- The cores are down: not released, without power, or stopped by FREEZE (Table 18-1, FLAGS.LATE). -/
def State.coresDown (s : State) : Bool :=
  s.on Fld.DBG_STATUS_FROZEN || !s.boot.released ||
    !(s.get Fld.PWS_STATUS_SEQ = 2 || s.pw.shut.any (fun x => x.step != .rails))

/-- A flush of everything now staged begins (R544); not during a clear (R553) or when FULL (R546). -/
def State.ambFlush (s : State) : State :=
  match s.amb.staging.getLast? with
  | some r => if s.amb.clearing || s.amb.full then s else { s with amb := { s.amb with flushTo := some r.seq } }
  | none => s

/-- A record enters staging with the next SEQ (R543, R544); at 96 staged records a flush begins at once. -/
def State.ambStage (s : State) (code : BitVec 16) (unit : BitVec 8) (payload : List Byte) (urgent : Bool) : State :=
  let lostNow := (s.reg Reg.AMB_LOST).toNat
  let pl := if s.amb.lost then padTo 36 payload ++ leBytes 4 lostNow else payload.take 40
  let r : AmbRec :=
    { seq := s.amb.nextSeq, stamp := s.stamp, pcycle := s.amb.pcycle, late := s.coresDown, code := code,
      unit := unit, payload := pl, at_ := s.now, urgent := urgent }
  let s := { s with amb := { s.amb with staging := s.amb.staging ++ [r], nextSeq := s.amb.nextSeq + 1 } }
  if 96 ≤ s.amb.staging.length then s.ambFlush else s

/-- EV_AMB_LOST is staged once the buffer has room after a loss, and carries the count in PAYLOAD bytes 36 to 39
(R545, Table 18-5). -/
def State.ambLostDue (s : State) : State :=
  if s.amb.lost && decide (s.amb.staging.length < 128) then
    let s := (s.setEvt .ambLost 0).ambStage Event.ambLost.code 0 [] (s.evtEnabled .ambLost 0)
    { s with amb := { s.amb with lost := false } }
  else s

/-- Whether a limit of one record in a period still holds the event back, and the limits with this record noted
(R616). -/
def State.limited (s : State) (key period : Nat) : Bool :=
  match kget s.amb.limits key with
  | some t => decide (s.now < t + period)
  | none => false

/-- An event occurs: its EVT bit is set, and a record of it is staged unless the limit of its scope holds it back,
the area is full (AMB_OVERFLOW counts, R546) or staging is full (AMB_LOST counts, R545). The unit byte is that of
Table 18-1; c is the channel of a DMC event; lim is the scope and the period in microseconds of its limit. -/
def State.record (s : State) (e : Event) (unit : Nat := 0) (payload : List Byte := []) (c : Nat := 0)
    (lim : Option (Nat × Nat) := none) : State :=
  let s := s.setEvt e c
  let key := e.code.toNat * 2 ^ 32 + (lim.map (·.1)).getD 0
  let held := match lim with
    | some (_, period) => s.limited key period
    | none => false
  if held then s
  else if s.amb.full then
    s.setReg Reg.AMB_OVERFLOW (BitVec.ofNat 32 (min ((s.reg Reg.AMB_OVERFLOW).toNat + 1) 0xFFFFFFFF))
  else
    let s := s.ambLostDue
    if 128 ≤ s.amb.staging.length then
      let s := s.count Reg.AMB_LOST
      { s with amb := { s.amb with lost := true } }
    else
      let s := if lim.isSome then { s with amb := { s.amb with limits := kput s.amb.limits key s.now } } else s
      s.ambStage e.code (BitVec.ofNat 8 unit) payload (s.evtEnabled e c)

/-- UNIT byte of an event of a home set (Table 18-1). -/
def unitHome (h : Nat) : Nat := h % 2 + 2

/-- UNIT byte of an event of a channel, port or cluster (Table 18-1). -/
def unitChan (c : Nat) : Nat := (c % 64) * 4

/-- One record in each second (R616). -/
def perSecond (scope : Nat) : Option (Nat × Nat) := some (scope, 1000000)

end Sys2Proof.Machine
end

