-- ==== Sys2Proof/Machine/Cache.lean ====
section
/-! DEFINITION. Sys2Proof/Machine/Cache.lean: the line cache T0 (chapter 7): its index, replacement and locks, its
lines over T1, and the reads and writes of pool memory through it. -/

namespace Sys2Proof.Machine

/-- A[41:24] XOR A[50:42] (R233). -/
def t0Fold (a : Nat) : Nat := ((a >>> 24) % 2 ^ 18) ^^^ ((a >>> 42) % 2 ^ 9)

/-- Set index of an internal address (R233). -/
def t0Set (a : Nat) : Nat := ((a >>> 6) % 2 ^ 18) ^^^ t0Fold a

/-- Tag of an internal address, A[50:24] (R233). -/
def t0Tag (a : Nat) : Nat := (a >>> 24) % 2 ^ 27

/-- Bank of an internal address: the low four bits of its set index (R232). -/
def t0Bank (a : Nat) : Nat := t0Set a % 16

/-- Whether T0 serves accesses (R243). -/
def State.t0On (s : State) : Bool := s.on Fld.LC_STATUS_ENABLED

/-- Whether a bank is powered and invalidated (R246, Table 07-5). -/
def State.bankOn (s : State) (b : Nat) : Bool := s.regBit Reg.LC_STATUS (16 + b)

/-- Whether way w is locked (R250). -/
def State.wayLocked (s : State) (w : Nat) : Bool := decide (w < 8) && (s.get Fld.LC_LOCK_LOCK).testBit w

/-- The lines of one set with their ways. -/
def State.setLines (s : State) (set : Nat) : List (Nat × Line) := s.tier.lines.filter (fun e => t0Set (e.1 * 64) = set)

/-- Whether a way of a set is free. -/
def State.wayFree (s : State) (set w : Nat) : Bool := (s.setLines set).all (fun e => e.2.way != w)

/-- The ways of the subtree below a PLRU node: nodes 7 to 14 choose between two ways (R238). -/
def plruWays : Nat → Nat → List Nat
  | 0, _ => []
  | n + 1, j => if 7 ≤ j then [2 * (j - 7), 2 * (j - 7) + 1] else plruWays n (2 * j + 1) ++ plruWays n (2 * j + 2)

/-- The walk of R238 from a node: the pointed-at half unless it holds no unlocked way. -/
def plruWalk (bits : BitVec 15) (locked : Nat → Bool) : Nat → Nat → Nat
  | 0, _ => 15
  | n + 1, j =>
    let upper := bits.getLsbD j
    if 7 ≤ j then
      let w0 := 2 * (j - 7)
      let first := if upper then w0 + 1 else w0
      let other := if upper then w0 else w0 + 1
      if locked first then other else first
    else
      let first := if upper then 2 * j + 2 else 2 * j + 1
      let other := if upper then 2 * j + 1 else 2 * j + 2
      if (plruWays 4 first).all locked then plruWalk bits locked n other else plruWalk bits locked n first

/-- Every node on the path to way w points at the half that does not hold w (R238). -/
def plruTouch (bits : BitVec 15) (w : Nat) : BitVec 15 :=
  let leaf := 7 + w / 2
  let p1 := (leaf - 1) / 2
  let p0 := (p1 - 1) / 2
  let put (b : BitVec 15) (j : Nat) (v : Bool) : BitVec 15 :=
    if v then b ||| BitVec.ofNat 15 (1 <<< j) else b &&& ~~~(BitVec.ofNat 15 (1 <<< j))
  let b := put bits leaf (w % 2 = 0)
  let b := put b p1 (leaf = 2 * p1 + 1)
  let b := put b p0 (p1 = 2 * p0 + 1)
  put b 0 (p0 = 1)

/-- The PLRU bits of a set after a hit or an allocation in a way (R238). -/
def State.touchWay (s : State) (set w : Nat) : State :=
  { s with tier := { s.tier with plru := sput (fun _ => 0) s.tier.plru set (plruTouch (sget (fun _ => 0) s.tier.plru set) w) } }

/-- The victim way of a set: the lowest invalid unlocked way, else the PLRU walk (R238). -/
def State.victim (s : State) (set : Nat) : Nat :=
  match (List.range 16).find? (fun w => s.wayFree set w && !(s.wayLocked w)) with
  | some w => w
  | none => plruWalk (sget (fun _ => 0) s.tier.plru set) s.wayLocked 5 0

/-- Bytes of T1 as the arrays hold them. -/
def State.t1Read (s : State) (a n : Nat) : List Byte := memRead 0 s.tier.t1 a n

/-- Bytes stored into T1. -/
def State.t1Write (s : State) (a : Nat) (bs : List Byte) : State :=
  { s with tier := { s.tier with t1 := memWrite 0 s.tier.t1 a bs } }

/-- The T0 line of a line number. -/
def State.line (s : State) (l : Nat) : Option Line := kget s.tier.lines l

/-- A T0 line set. -/
def State.setLine (s : State) (l : Nat) (x : Line) : State := { s with tier := { s.tier with lines := kput s.tier.lines l x } }

/-- A T0 line made invalid. -/
def State.dropLine (s : State) (l : Nat) : State := { s with tier := { s.tier with lines := kdel s.tier.lines l } }

/-- A dirty line is written back and stays valid and clean (CLEAN_RANGE of Table 07-2). -/
def State.cleanLine (s : State) (l : Nat) : State :=
  match s.line l with
  | some x => if x.dirty && !x.filling then ((s.t1Write (l * 64) (padTo 64 x.data)).setLine l { x with dirty := false, wrote := 0 }).count Reg.LC_WB else s
  | none => s

/-- A line is written back if dirty and made invalid (CLEAN_INV_RANGE of Table 07-2, R253). -/
def State.cleanInvLine (s : State) (l : Nat) : State := (s.cleanLine l).dropLine l

/-- The lines of one map unit are cleaned and made invalid before its frame is released (R235). -/
def State.cleanInvUnit (s : State) (unit : Nat) : State :=
  ((s.tier.lines.map (·.1)).filter (within (unit * 256) 256)).foldl State.cleanInvLine s

/-- The lines of one map unit are cleaned, as Lehr needs them (R236). -/
def State.cleanUnit (s : State) (unit : Nat) : State :=
  ((s.tier.lines.map (·.1)).filter (within (unit * 256) 256)).foldl State.cleanLine s

/-- A line is allocated in an unlocked way of its set; the victim is written back first (R238, R251). -/
def State.allocLine (s : State) (l : Nat) (x : Line) : State :=
  let set := t0Set (l * 64)
  let w := s.victim set
  let old := (s.setLines set).filter (fun e => e.2.way = w)
  let s := old.foldl (fun s e => s.cleanInvLine e.1) s
  (s.setLine l { x with way := w }).touchWay set w

/-- Fills in progress in a bank (R241). -/
def State.bankFills (s : State) (b : Nat) : Nat := (s.tier.lines.filter (fun e => e.2.filling && t0Bank (e.1 * 64) = b)).length

/-- Pool bytes as every reader sees them: a T0 line over T1 (R62). -/
def State.poolByte (s : State) (a : Nat) : Byte :=
  match s.line (a / 64) with
  | some x => if x.filling then memByte 0 s.tier.t1 a else x.data.getD (a % 64) 0
  | none => memByte 0 s.tier.t1 a

/-- n pool bytes from an address. -/
def State.poolRead (s : State) (a : Nat) : Nat → List Byte
  | 0 => []
  | n + 1 => s.poolByte a :: s.poolRead (a + 1) n

/-- The part of a byte string that falls into one line: (offset in the line, bytes). -/
def lineChunk (a : Nat) (bs : List Byte) (l : Nat) : Nat × List Byte :=
  let lo := max a (l * 64)
  let hi := min (a + bs.length) (l * 64 + 64)
  (lo - l * 64, (bs.drop (lo - a)).take (hi - lo))

/-- Bytes stored over part of a line's 64 bytes. -/
def mergeLine (old : List Byte) (off : Nat) (bs : List Byte) : List Byte :=
  (padTo 64 old).take off ++ bs ++ (padTo 64 old).drop (off + bs.length)

/-- The words of a line that n bytes from an offset touch. -/
def wordMask (off n : Nat) : BitVec 8 := BitVec.ofNat 8 ((2 ^ ((off + n + 7) / 8 - off / 8) - 1) <<< (off / 8))

/-- One line's part of a write reaches T0 or T1 (Table 07-1). The argument alloc tells whether a miss allocates: it does
not for an engine's write or one that the twin sends. A line whose fill is in progress takes its bytes from T1 (R239). -/
def State.writeLine (s : State) (alloc : Bool) (l : Nat) (off : Nat) (bs : List Byte) : State :=
  match s.line l with
  | some x =>
    if x.filling then s.t1Write (l * 64 + off) bs
    else s.setLine l { x with data := mergeLine x.data off bs, dirty := true, wrote := x.wrote ||| wordMask off bs.length }
  | none =>
    if alloc && s.t0On then
      s.allocLine l { way := 0, dirty := true, data := mergeLine (s.t1Read (l * 64) 64) off bs, wrote := wordMask off bs.length }
    else s.t1Write (l * 64 + off) bs

/-- Pool bytes written by the device itself: where T0 holds the line, in T0, and otherwise in T1 (Table 07-1). -/
def State.poolWrite (s : State) (a : Nat) (bs : List Byte) : State :=
  (span (a / 64) ((a + bs.length + 63) / 64 - a / 64)).foldl
    (fun s l => let c := lineChunk a bs l; s.writeLine false l c.1 c.2) s

/-- A hit of a host access moves the replacement state and counts (R238, Table 07-1). -/
def State.hitLine (s : State) (l : Nat) : State :=
  match s.line l with
  | some x => (s.touchWay (t0Set (l * 64)) x.way).count Reg.LC_HIT
  | none => s

/-- A miss that fills: the line is allocated with its fill in progress if its bank has a free fill buffer (R239,
R241); the answer says whether a buffer was free. -/
def State.startLineFill (s : State) (l : Nat) : State × Bool :=
  if s.bankFills (t0Bank (l * 64)) < 64 then
    ((s.allocLine l { way := 0, dirty := false, data := s.t1Read (l * 64) 64, filling := true }).count Reg.LC_MISS, true)
  else (s, false)

/-- A fill ends: the line holds the bytes of T1 (R239). -/
def State.endLineFill (s : State) (l : Nat) : State :=
  match s.line l with
  | some x => if x.filling then s.setLine l { x with filling := false, data := s.t1Read (l * 64) 64 } else s
  | none => s

/-! ### Background work (R450) -/

/-- GOV_ADMIT of a class: 0 admitted, 1 limited, 2 refused, 3 forced; classes 0 Lehr, 1 collection, 2 scrub and patrol,
3 self-test, 4 Parison, 5 twin resync, 6 checkpoint, 7 refresh catch-up. -/
def State.admitOf (s : State) (c : Nat) : Nat := ((s.reg Reg.GOV_ADMIT).toNat / 4 ^ c) % 4

/-- A class may start a new operation. -/
def State.admits (s : State) (c : Nat) : Bool := s.admitOf c != 2

end Sys2Proof.Machine
end

