-- ==== Sys2Proof/Machine/Ports.lean ====
section
/-! DEFINITION. Sys2Proof/Machine/Ports.lean: ports, pause, and what the home sets' roles say of this chip (R77 to R91,
R357 to R361, Table 03-2). -/

namespace Sys2Proof.Machine

/-- The port that a frame leaves by, the connection whose path MTU cuts it into packets, and its payload. -/
def Out.frame : Out → Option (Nat × Option Nat × Nat)
  | .ack p _ _ _ | .nak p _ _ _ _ | .atomicAck p _ _ _ | .cnp p _ | .readRequest p _ _ _ _ _ | .rep p _ _ _ _ _ _ _ _
  | .rej p _ _ | .drep p _ | .dreq p _ | .sidrRep p _ _ | .pfc p _ _ | .arpReply p _ _ _ | .neighbourAdvert p _ _ _
  | .gratuitous p _ | .echoReply p => some (p, none, 0)
  | .readResponse p q _ d => some (p, some q, d.length)
  | .writeRequest p q _ _ _ _ d => some (p, some q, d.length)
  | _ => none

/-- Frames that a port sends for it (PRT_TX_FRAMES): one for each packet of the message (R94). -/
def State.framesOf (s : State) (qpn : Option Nat) (len : Nat) : Nat :=
  match qpn.bind (fun n => kget s.net.qps n) with
  | some q => max 1 ((len + q.pmtu - 1) / q.pmtu)
  | none => 1

/-- The port carries traffic (PRT_STATUS.LINK_UP). -/
def State.linkUp (s : State) (p : Nat) : Bool := s.on (Fld.PRT_STATUS_LINK_UP p)

/-- A frame or signal is sent; a frame for a port whose link is down is lost (R80). -/
def State.emit (s : State) (o : Out) : State :=
  match o.frame with
  | some (p, q, len) =>
    if s.linkUp p then
      let s := s.countBy (Reg.PRT_TX_FRAMES p) (s.framesOf q len)
      { s with out := o :: s.out }
    else s
  | none => { s with out := o :: s.out }

/-! ### The Elytra link (R364) -/

/-- One stream of the link: bulk or control. -/
def State.link (s : State) (bulk : Bool) : LinkStream := if bulk then s.twin.bulk else s.twin.ctl

def State.updLink (s : State) (bulk : Bool) (f : LinkStream → LinkStream) : State :=
  if bulk then { s with twin := { s.twin with bulk := f s.twin.bulk } } else { s with twin := { s.twin with ctl := f s.twin.ctl } }

/-- Credits that a frame with a payload of a length uses. -/
def frameCredits (len : Nat) : Nat := (28 + len + 255) / 256

/-- A frame leaves: it takes the next SEQ and its credits, and is kept until it is acknowledged. -/
def State.linkPut (s : State) (bulk : Bool) (len : Nat) (o : Out) : State :=
  (s.updLink bulk (fun x => { x with txSeq := x.txSeq + 1, replay := x.replay + 1, credits := x.credits - frameCredits len, replayReq := false })).emit o

/-- A frame is sent in the order of its stream, and only while the sender holds its credits. -/
def State.linkSend (s : State) (bulk : Bool) (len : Nat) (o : Out) : State :=
  let x := s.link bulk
  if !x.waiting.isEmpty || decide (x.credits < frameCredits len) then s.updLink bulk (fun x => { x with waiting := x.waiting ++ [(len, o)] })
  else s.linkPut bulk len o

/-- Frames that waited for credits leave as credits return. -/
def State.linkPump (s : State) (bulk : Bool) : Nat → State
  | 0 => s
  | n + 1 =>
    match (s.link bulk).waiting with
    | (len, o) :: rest =>
      if (s.link bulk).credits < frameCredits len then s
      else ((s.updLink bulk (fun x => { x with waiting := rest })).linkPut bulk len o).linkPump bulk n
    | [] => s

/-! ### Home sets -/

/-- A home set's state outside the registers. -/
def State.home (s : State) (h : Nat) : HomeSt := s.twin.homes.getD h {}

/-- A home set's state changed. -/
def State.updHome (s : State) (h : Nat) (f : HomeSt → HomeSt) : State :=
  { s with twin := { s.twin with homes := setAt 2 {} s.twin.homes h f } }

/-- TWN_STATUS.ROLE: 0 none, 1 active, 2 standby, 3 joining (Table 11-15). -/
def roleField (h : Nat) : Field := if h = 0 then Fld.TWN_STATUS_ROLE0 else Fld.TWN_STATUS_ROLE1

/-- TWN_STATUS.STATE: 0 SOLO, 1 RESYNC, 2 LOCKSTEP, 3 PAIRED, 4 HELD_OUT, 5 unserved (Table 11-15). -/
def stateField (h : Nat) : Field := if h = 0 then Fld.TWN_STATUS_STATE0 else Fld.TWN_STATUS_STATE1

/-- TWN_STATUS.LEASE. -/
def leaseField (h : Nat) : Field := if h = 0 then Fld.TWN_STATUS_LEASE0 else Fld.TWN_STATUS_LEASE1

def State.role (s : State) (h : Nat) : Nat := s.get (roleField h)
def State.pairState (s : State) (h : Nat) : Nat := s.get (stateField h)
def State.active (s : State) (h : Nat) : Bool := s.role h == 1
def State.standby (s : State) (h : Nat) : Bool := s.role h == 2
def State.paired (s : State) (h : Nat) : Bool := s.pairState h == 3 && s.active h

/-- DATA frames are sent for a home set: PAIRED, or RESYNC without waiting for CONFIRM (R385, R387, R388). -/
def State.mirrors (s : State) (h : Nat) : Bool := s.active h && (s.pairState h == 3 || s.pairState h == 1)

/-- The chip acts for a home set: it holds its token or, in lease mode, its lease (R361, R394). -/
def State.acts (s : State) (h : Nat) : Bool :=
  let x := s.home h
  x.token && (!x.lease || match x.leaseEnd with
    | some t => decide (s.now < t)
    | none => true)

/-- The chip executes for a home set without sending: it joins, in lockstep (R387). -/
def State.shadow (s : State) (h : Nat) : Bool := s.role h == 3 && s.pairState h == 2

/-- The chip executes for a home set, with or without egress. -/
def State.runs (s : State) (h : Nat) : Bool := s.acts h || s.shadow h

/-- Work for a home set, whose egress is suppressed while the chip only shadows it (R387). -/
def State.quiet (s : State) (h : Nat) (f : State → State) : State :=
  let r := f s
  if s.shadow h && !(s.acts h) then
    (List.range 8).foldl (fun (r : State) p => r.setReg (Reg.PRT_TX_FRAMES p) (s.reg (Reg.PRT_TX_FRAMES p))) { r with out := s.out }
  else r

/-- Home sets that the chip is active for. -/
def State.activeHomes (s : State) : List Nat := [0, 1].filter s.active

/-- The epoch number of a home set. -/
def State.epoch (s : State) (h : Nat) : Nat := (s.home h).epoch

/-! ### Ports -/

/-- A port's state outside the registers. -/
def State.port (s : State) (p : Nat) : Port := s.net.ports.getD p {}

/-- A port's state changed. -/
def State.updPort (s : State) (p : Nat) (f : Port → Port) : State :=
  { s with net := { s.net with ports := setAt 8 {} s.net.ports p f } }

/-- A traffic class of a port. -/
def State.cls (s : State) (p c : Nat) : ClassSt := (s.port p).classes.getD c {}


/-- A power state has the wake source (Table 14-5): 1 host frame, 2 twin frame, 3 colony message, 4 POWER_STATE, 5 WAKE_N,
6 GOV_CMD, 7 timer, 8 button. -/
def wakesFrom (p src : Nat) : Bool :=
  match p with
  | 1 => decide (src ≤ 6)
  | 2 => decide (src ≤ 7)
  | 3 => decide (5 ≤ src)
  | _ => false

/-- A wake event (R463, R465, R466): in P1 and P2 the exit begins; during an entry it waits for its end, but a command in
idle-timer mode ends the entry (R193), and the steering table goes back. P3 is left by the power supervisor. -/
def State.wake (s : State) (src : Nat) : State :=
  let p := s.get Fld.GOV_STATUS_PSTATE
  if s.on Fld.GOV_STATUS_EXITING then s
  else if s.on Fld.GOV_STATUS_ENTERING then
    if !(wakesFrom s.gov.target src) then s
    else if src = 1 && s.gov.target != 3 && s.get Fld.CQI_CTRL_PWRMODE = 1 then
      let s := s.put Fld.GOV_STATUS_ENTERING 0
      let back := (List.range 8).map (fun i => (i, s.gov.steer.getD i i))
      { s with gov := { s.gov with target := 0 }, net := { s.net with steerWait := if p = 0 then back else s.net.steerWait } }
    else { s with gov := { s.gov with wakeDue := true, wake := src } }
  else if p != 3 && wakesFrom p src then
    let s := ((s.setReg Reg.GOV_WAKESRC (BitVec.ofNat 32 src)).count Reg.GOV_WAKES).put Fld.GOV_STATUS_EXITING 1
    { s with gov := { s.gov with wake := src } }
  else s

/-- The traffic class of a frame's PCP; an untagged frame takes PRT_DEFPRI (R81, R82). -/
def State.classOf (s : State) (p : Nat) (pcp : Option (Fin 8)) : Nat :=
  let k := match pcp with
    | some x => x.val
    | none => s.get (Fld.PRT_DEFPRI_PCP p)
  ((s.reg (Reg.PRT_PRIMAP p)).toNat >>> (3 * k)) % 8

/-- Whether a traffic class of a port is lossless (R82). -/
def State.lossless (s : State) (p c : Nat) : Bool := (s.get (Fld.PRT_LOSSLESS_LL_MASK p)).testBit c

/-- A class asserts pause for any cause of Table 03-2. -/
def ClassSt.xoff (x : ClassSt) : Bool := x.xoffBuf || x.xoffMiss || x.xoffDirty || x.xoffListen

/-- The causes of pause of a class change; a PFC frame leaves when pause begins or ends (R84, R86), and
PRT_STATUS.PAUSING follows. -/
def State.setPause (s : State) (p c : Nat) (f : ClassSt → ClassSt) : State :=
  let before := (s.cls p c).xoff
  let s := s.updPort p (fun x => { x with classes := setAt 8 {} x.classes c f })
  let after := (s.cls p c).xoff
  let s := s.putB (Fld.PRT_STATUS_PAUSING p) ((s.port p).classes.any ClassSt.xoff)
  if before = after then s
  else
    let s := s.emit (.pfc p c after)
    if after && s.linkUp p then s.count (Reg.PRT_PFC_TX p) else s

/-- A cause of pause set or cleared on every lossless class of every port. -/
def State.setPauseAll (s : State) (f : ClassSt → ClassSt) : State :=
  (List.range 8).foldl (fun s p => (List.range 8).foldl (fun s c => if s.lossless p c then s.setPause p c f else s) s) s

/-- Ports that are up, in order from p, modulo 8 (R80). -/
def State.firstUp (s : State) (p : Nat) : Option Nat := ((List.range 8).map (fun i => (p + i) % 8)).find? s.linkUp

/-- The port that a QP sends from (R80); port 0 stands when no port is up, and the frame is then lost. -/
def State.sendPort (s : State) (q : Qp) : Nat := (s.firstUp (q.port.getD 0)).getD 0

/-- Bytes that held frames occupy in a port's ingress buffer, by class (R84). -/
def State.occupancy (s : State) (p c : Nat) : Nat :=
  ((s.net.held.filter (fun x => x.pkt.port.val = p && s.classOf p x.pkt.pcp = c)).map (fun x => x.pkt.flen)).foldl (· + ·) 0

/-- Bytes that held frames occupy in a port's ingress buffer (R84). -/
def State.occupied (s : State) (p : Nat) : Nat := ((List.range 8).map (s.occupancy p)).foldl (· + ·) 0

/-- PFC by buffer occupancy: XOFF at the XOFF threshold, XON at the XON threshold (R84), in 256-byte units. -/
def State.bufferPause (s : State) (p c : Nat) : State :=
  if s.lossless p c then
    let o := s.occupancy p c
    if s.get (Fld.PRT_PFC_THR_XOFF p) * 256 ≤ o then s.setPause p c (fun x => { x with xoffBuf := true })
    else if o ≤ s.get (Fld.PRT_PFC_THR_XON p) * 256 then s.setPause p c (fun x => { x with xoffBuf := false })
    else s
  else s

/-- PFC by buffer occupancy on every class of every port. -/
def State.bufferPauseAll (s : State) : State :=
  (List.range 8).foldl (fun s p => (List.range 8).foldl (fun s c => s.bufferPause p c) s) s

/-- The home set that a service address belongs to (R89): an address register that holds zero is unused. -/
def State.svcHome (s : State) (ipv6 : Bool) (ip : Nat) : Option Nat :=
  [0, 1].find? (fun h => [0, 1].any (fun i =>
    if ipv6 then
      let a := ((List.range 4).map (fun w => (s.reg (Reg.TRN_SVC_IP6 h i w)).toNat)).foldl (fun acc w => acc * 2 ^ 32 + w) 0
      decide (a = ip) && decide (a ≠ 0)
    else
      let a := (s.reg (Reg.TRN_SVC_IP4 h i)).toNat
      decide (a = ip) && decide (a ≠ 0)))

/-- The service MAC address of a home set (R89). -/
def State.svcMac (s : State) (h : Nat) : Nat :=
  (s.reg (Reg.TRN_SVC_MAC_LO h)).toNat + (s.reg (Reg.TRN_SVC_MAC_HI h)).toNat % 2 ^ 16 * 2 ^ 32

/-! ### Slices -/

/-- The index of a QP number into the steering table (R50). -/
def steerIndex (qpn : Nat) : Nat := (qpn % 8) ^^^ ((qpn >>> 3) % 8)

/-- The slice that carries a QP (R50). -/
def State.sliceOf (s : State) (qpn : Nat) : Nat := s.net.steer.getD (steerIndex qpn) 0

/-- A register of the slice class as slice k sees it during a roll: its value before the commit until the slice has
switched (R565, R566). -/
def State.sliceReg (s : State) (k a : Nat) : BitVec 32 :=
  match s.cfg.commit with
  | some c =>
    if c.begun && decide (c.switched < k) then
      match c.old.find? (fun e => e.addr = a) with
      | some e => e.val
      | none => s.reg a
    else s.reg a
  | none => s.reg a

end Sys2Proof.Machine
end

