-- ==== Sys2Proof/Machine/Tier.lean ====
section
/-! DEFINITION. Sys2Proof/Machine/Tier.lean: T1 frames, partitions, claims, eviction, the dirty budget, and what a
transaction needs before stage 6 can place it (chapters 2, 6, R454, R455). -/

namespace Sys2Proof.Machine

/-- Bytes of a map unit and of a T1 frame (R63). -/
abbrev unitBytes : Nat := 16384
/-- Bytes of a granule (R196). -/
abbrev granuleBytes : Nat := 2097152

/-! ### Regions, frames, granules -/

/-- The region that holds an internal address, with its base. -/
def State.regionAt (s : State) (a : Nat) : Option (Nat × Region) :=
  s.prot.regions.find? (fun e => within e.1 e.2.len a)

/-- A region by its base. -/
def State.region (s : State) (base : Nat) : Option Region := kget s.prot.regions base

/-- A region changed. -/
def State.updRegion (s : State) (base : Nat) (f : Region → Region) : State :=
  { s with prot := { s.prot with regions := kupd s.prot.regions base f } }

def State.frame (s : State) (u : Nat) : Option Frame := kget s.tier.frames u
def State.setFrame (s : State) (u : Nat) (f : Frame) : State := { s with tier := { s.tier with frames := kput s.tier.frames u f } }
def State.updFrame (s : State) (u : Nat) (f : Frame → Frame) : State := { s with tier := { s.tier with frames := kupd s.tier.frames u f } }

/-- A granule; one that nothing has named is FLOAT with no claim (R196). -/
def State.granule (s : State) (g : Nat) : Granule := (kget s.tier.granules g).getD {}
def State.setGranule (s : State) (g : Nat) (x : Granule) : State := { s with tier := { s.tier with granules := kput s.tier.granules g x } }

def State.tenant (s : State) (t : Nat) : Tenant := (kget s.tier.tenants t).getD {}

/-- Number of set bits of a line mask. -/
def lineCount (m : BitVec 256) : Nat := ((List.range 256).filter (fun i => m.getLsbD i)).length

/-- One line's bit. -/
def lineBit (i : Nat) : BitVec 256 := BitVec.ofNat 256 (1 <<< i)

/-- All 256 lines. -/
abbrev allLines : BitVec 256 := BitVec.allOnes 256

/-- The map unit is mapped on T2 (R318). -/
def State.mapped (s : State) (u : Nat) : Bool := (kget s.flash.map u).isSome

/-- A home set's region holds the unit. -/
def State.homeOfUnit (s : State) (u : Nat) : Option Nat := (s.regionAt (u * unitBytes)).map (fun e => e.2.home)

/-- The unit belongs to a volatile region. -/
def State.volatileUnit (s : State) (u : Nat) : Bool :=
  match s.regionAt (u * unitBytes) with
  | some e => e.2.volatile
  | none => false

/-! ### Dirty volume and pause (R15, R454, R455) -/

/-- D: bytes of dirty lines of persistent regions of both home sets, T0 and T1 together (R15, log entry 14). -/
def State.dirtyBytes (s : State) : Nat := (s.tier.frames.map (fun e => lineCount e.2.dirty * 64)).foldl (· + ·) 0

/-- B: the budget in force, in bytes (R454). -/
def State.budget (s : State) : Nat := (s.reg Reg.PWS_BUDGET).toNat * 1048576

/-- A region whose writes the budget holds back: persistent, or volatile with mirroring on (R454). -/
def Region.budgeted (r : Region) : Bool := !r.volatile || r.mirror

/-- A transaction that writes. -/
def TxnOp.writes : TxnOp → Bool
  | .write _ | .zero | .trim | .atomicCas _ _ | .atomicAdd _ => true
  | _ => false

/-- Bytes that a transaction counts in A and L of R454. -/
def State.txnVolume (s : State) (t : Txn) : Nat :=
  if t.op.writes then
    match s.region t.region with
    | some r => if r.budgeted then t.len else 0
    | none => 0
  else 0

/-- A: the volume accepted and not yet placed (R454). -/
def State.acceptedBytes (s : State) : Nat :=
  ((s.net.txns.filter (fun t => t.accepted && !t.placed)).map s.txnVolume).foldl (· + ·) 0

/-- D + A + L ≤ B (R454). -/
def State.budgetFits (s : State) (len : Nat) : Bool := decide (s.dirtyBytes + s.acceptedBytes + len ≤ s.budget)

/-- The governor's dirty pause follows D (R455, DIRTY_PAUSE and DIRTY_PAUSE_RELEASE). -/
def State.dirtyPause (s : State) : State :=
  let b := (s.reg Reg.PWS_BUDGET).toNat
  let thr := (b - s.get Fld.GOV_DIRTY_HEADROOM) * 1048576
  let rel := (b - s.get Fld.GOV_DIRTY_HEADROOM - s.get Fld.GOV_DIRTY_HYST) * 1048576
  let d := s.dirtyBytes
  if s.on Fld.GOV_STATUS_DIRTY_PAUSE then
    if d ≤ rel && d < thr then
      (s.put Fld.GOV_STATUS_DIRTY_PAUSE 0).setPauseAll (fun x => { x with xoffDirty := false })
    else s
  else if thr ≤ d then
    (((s.put Fld.GOV_STATUS_DIRTY_PAUSE 1).count Reg.GOV_PAUSES).record .govDirtyPause 0 (leBytes 8 d) 0 (perSecond 0)).setPauseAll
      (fun x => { x with xoffDirty := true })
  else s

/-! ### Partitions of T1 (Table 06-2), in granules -/

/-- Granules pinned, once each. -/
def State.pinned (s : State) : Nat := (s.tier.granules.filter (fun e => e.2.place = .pin)).length

/-- TIER_RESERVED: pinned granules and volatile regions of both home sets. -/
def State.reserved (s : State) : Nat :=
  s.pinned + ((s.prot.regions.filter (fun e => e.2.volatile)).map (fun e => e.2.len / granuleBytes)).foldl (· + ·) 0

/-- W of a stream: min(WINDOW, LAYERS) (R215). -/
def Stream.w (x : Stream) : Nat := min x.window x.layers

/-- Granules of a stored layer. -/
def Stream.layerGranules (x : Stream) (layer : Nat) : List Nat :=
  span ((x.base + (layer % x.layers) * x.layerLen) / granuleBytes) (x.layerLen / granuleBytes)

/-- The finished layer m: the smallest counter, none while any is none (R214). -/
def Stream.finished (x : Stream) : Option Nat :=
  match x.readers with
  | [] => none
  | r :: rs => rs.foldl (fun acc c => match acc, c with
      | some a, some b => some (min a b)
      | _, _ => none) r

/-- Layers of the window, in ascending layer order (R215). -/
def Stream.windowLayers (x : Stream) : List Nat :=
  match x.finished with
  | none => span 0 x.w
  | some m => span (m + 1) x.w

/-- Granules that a stream's window holds. -/
def Stream.windowGranules (x : Stream) : List Nat := (x.windowLayers.map x.layerGranules).flatten

/-- TIER_STREAM_RSV: the window of each open stream. -/
def State.streamRsv (s : State) : Nat := (s.tier.streams.map (fun e => e.2.w * (e.2.layerLen / granuleBytes))).foldl (· + ·) 0

/-- TIER_MIRROR_RSV: the budget in granules, rounded up; 0 while active for both home sets. -/
def State.mirrorRsv (s : State) : Nat := if s.active 0 && s.active 1 then 0 else (s.budget + granuleBytes - 1) / granuleBytes

/-- TIER_FLOAT: the remainder. -/
def State.floatSize (s : State) : Nat :=
  (s.reg Reg.TIER_T1_TOTAL).toNat - s.reserved - s.streamRsv - s.mirrorRsv - (s.reg Reg.TIER_TRANSIENT).toNat

/-- The granule is FLOAT, in a persistent region of a home set that the chip is active for. -/
def State.isFloat (s : State) (g : Nat) : Bool :=
  (s.granule g).place == .float &&
    match s.regionAt (g * granuleBytes) with
    | some e => !e.2.volatile && s.active e.2.home
    | none => false

/-- A granule has a frame outside the transient pool. -/
def State.granuleResident (s : State) (g : Nat) : Bool := s.tier.frames.any (fun e => e.1 / 128 = g && !e.2.transient)

/-- FLOAT granules resident or claimed. -/
def State.floatUsed (s : State) : List Nat :=
  ((((s.tier.frames.filter (fun (e : Nat × Frame) => !e.2.transient)).map (fun (e : Nat × Frame) => e.1 / 128)) ++
    ((s.tier.granules.filter (fun (e : Nat × Granule) => !e.2.claims.isEmpty)).map (fun (e : Nat × Granule) => e.1))).eraseDups).filter s.isFloat

/-- TIER_FLOAT_FREE. -/
def State.floatFree (s : State) : Nat := s.floatSize - s.floatUsed.length

/-- Sum of the tenants' non-zero float quotas (R205). -/
def State.quotaSum (s : State) : Nat := (s.tier.tenants.map (fun e => e.2.quota)).foldl (· + ·) 0

/-- Float charge of a tenant in granules: one for each claim (R206). -/
def State.floatCharge (s : State) (t : Nat) : Nat := (s.tier.granules.filter (fun e => e.2.claims.any (fun c => c.1 = t))).length

/-- Pin and stream charge of a tenant in granules; a granule is charged once (R197, R219). -/
def State.pinCharge (s : State) (t : Nat) : Nat :=
  (s.tier.granules.filter (fun e => e.2.place = .pin && e.2.pinTenant = t)).length +
    (((s.tier.streams.filter (fun e => e.2.tenant = t)).map (fun e => e.2.windowGranules)).flatten.eraseDups).length

/-! ### Claims and eviction (R206 to R210) -/

/-- The tenant of a protection domain (R141). -/
def State.tenantOfPd (s : State) (pd : Nat) : Nat := ((kget s.prot.pds pd).getD {}).tenant

/-- The oldest claim of a tenant: the granule that holds it (R207). -/
def State.oldestClaim (s : State) (t : Nat) : Option Nat :=
  let held : List (Nat × Nat) :=
    s.tier.granules.filterMap (fun e => (e.2.claims.find? (fun c => c.1 = t)).map (fun c => (e.1, c.2)))
  (held.foldl (fun (acc : Option (Nat × Nat)) (x : Nat × Nat) => match acc with
      | some y => if x.2 < y.2 then some x else some y
      | none => some x) none).map (fun x => x.1)

/-- A claim dropped. -/
def State.dropClaim (s : State) (t g : Nat) : State :=
  s.setGranule g { s.granule g with claims := (s.granule g).claims.filter (fun c => c.1 != t) }

/-- An access by a tenant to a granule: its own last access, and a claim when the tenant has a quota (R206); at its
quota the tenant first gives up its oldest claim (R207). An eviction of the granule stops (Table 06-3). -/
def State.access (s : State) (t g : Nat) : State :=
  let ms := s.now / 1000
  let x := s.granule g
  let s := s.setGranule g { x with used := s.now, evicting := false }
  let q := (s.tenant t).quota
  if q = 0 || !(s.isFloat g) then s
  else if x.claims.any (fun c => c.1 = t) then
    s.setGranule g { s.granule g with claims := x.claims.map (fun c => if c.1 = t then (t, ms) else c) }
  else
    let s := if q ≤ s.floatCharge t then
        match s.oldestClaim t with
        | some o => (s.dropClaim t o).count Reg.TIER_CLAIM_DROP
        | none => s
      else s
    s.setGranule g { s.granule g with claims := (s.granule g).claims ++ [(t, ms)] }

/-- A frame released: its T0 lines are cleaned and made invalid first (R235). -/
def State.releaseFrame (s : State) (u : Nat) : State :=
  let s := s.cleanInvUnit u
  { s with tier := { s.tier with frames := kdel s.tier.frames u, t1 := memClear s.tier.t1 (u * unitBytes) unitBytes } }

/-- Some dirty frame of a granule. -/
def State.granuleDirty (s : State) (g : Nat) : Bool := s.tier.frames.any (fun e => e.1 / 128 = g && (e.2.dirty != 0 || e.2.copy.isSome))

/-- The unclaimed FLOAT granule with the oldest last access, clean ones first (R208). -/
def State.evictCandidate (s : State) (dirty : Bool) : Option Nat :=
  ((s.floatUsed.filter (fun g => (s.granule g).claims.isEmpty && s.granuleDirty g == dirty)).foldl
    (fun (acc : Option Nat) g => match acc with
      | some h => if (s.granule g).used < (s.granule h).used then some g else some h
      | none => some g) none)

/-- A granule physically evicted: its frames are released (R208). -/
def State.evict (s : State) (g : Nat) : State :=
  let us := (s.tier.frames.filter (fun e => e.1 / 128 = g && !e.2.transient)).map (·.1)
  (us.foldl State.releaseFrame s).count Reg.TIER_EVICT

/-- How an access obtains room for frames of a granule. -/
inductive Room where
  | ok | transient | waitFloat | waitTransient
  deriving DecidableEq, Repr

/-- The transient pool has room, or gains it by releasing the clean frame unreferenced longest (R210). -/
def State.transientRoom (s : State) : State × Bool :=
  let fs := s.tier.frames.filter (fun e => e.2.transient)
  if fs.length < (s.reg Reg.TIER_TRANSIENT).toNat * 128 then (s, true)
  else
    let refd (u : Nat) : Bool := s.net.txns.any (fun t => !t.placed && overlaps t.addr t.len (u * unitBytes) unitBytes)
    match (fs.filter (fun e => e.2.dirty == 0 && !e.2.filling && e.2.copy.isNone && !(refd e.1))).foldl
        (fun (acc : Option (Nat × Frame)) e => match acc with
          | some x => if e.2.used < x.2.used then some e else some x
          | none => some e) none with
    | some e => (s.releaseFrame e.1, true)
    | none => (s, false)

/-- A stream's window holds the granule (R197, R219). -/
def State.inWindow (s : State) (g : Nat) : Bool := s.tier.streams.any (fun e => e.2.windowGranules.contains g)

/-- A granule whose frames come from the transient pool: T2_ONLY, or STREAM outside every window (Table 06-1). -/
def State.isTransient (s : State) (g : Nat) : Bool :=
  match (s.granule g).place with
  | .t2only => true
  | .stream => !(s.inWindow g)
  | _ => false

/-- Room for a frame of a granule that has none yet (R203, R208, R210): quota is the tenant's float quota. -/
def State.roomFor (s : State) (g quota : Nat) : State × Room :=
  let viaTransient (s : State) : State × Room :=
    let r := s.transientRoom
    if r.2 then (r.1, .transient) else (s, .waitTransient)
  if s.isTransient g then viaTransient s
  else if !(s.isFloat g) then (s, .ok)
  else if s.floatUsed.contains g && s.granuleResident g then (s, .ok)
  else if 0 < s.floatFree || (s.floatUsed.contains g && s.floatUsed.length ≤ s.floatSize) then (s, .ok)
  else match s.evictCandidate false with
    | some v => (s.evict v, .ok)
    | none =>
      if quota = 0 then viaTransient s
      else
        let s := match s.evictCandidate true with
          | some v => s.setGranule v { s.granule v with evicting := true }
          | none => s
        let s := if s.on Fld.TIER_STATUS_FLOAT_SHORT then s
          else (s.put Fld.TIER_STATUS_FLOAT_SHORT 1)
        (s.record .tierFloatShort 0 [] 0 (perSecond 0), .waitFloat)

/-! ### Frames and fills (R64 to R66) -/

/-- A whole-unit read from T2 begins (R64). -/
def State.startFill (s : State) (u : Nat) : State :=
  match s.frame u with
  | some f => if f.filling then s else (s.setFrame u { f with filling := true }).count Reg.TIER_T2_FILLS
  | none => s

/-- Frames that a DRAM channel can hold: 65,536 for each GiB installed. -/
def State.chanFrames (s : State) (c : Nat) : Nat := (s.reg (Reg.DMC_CAPACITY c)).toNat % 1024 * 65536

/-- The channel in service with the most free frames, ties to the lowest number (R264). -/
def State.pickChan (s : State) : Nat :=
  let free (c : Nat) : Nat := s.chanFrames c - (s.tier.frames.filter (fun e => e.2.chan = c)).length
  let up := (List.range 16).filter (fun c => s.get (Fld.DMC_STATUS_STATE c) == 2)
  up.foldl (fun m c => if free m < free c then c else m) (up.headD 0)

/-- A frame for a unit that has none: zeros when the unit was never written or was trimmed (a volatile frame likewise,
with no word written), no valid line when it is mapped (Table 02-4, R66). -/
def State.newFrame (s : State) (u : Nat) (transient : Bool) : State :=
  let v : BitVec 256 := if s.mapped u && !(s.volatileUnit u) then 0 else allLines
  let p : BitVec 256 := match kget s.flash.map u with
    | some m => m.poison
    | none => 0
  s.setFrame u { valid := v, transient := transient, used := s.now, poison := p, chan := s.pickChan }

/-- The frame of a unit, obtained if it is not there (R64, R203): the answer says what is waited for. -/
def State.obtain (s : State) (u quota : Nat) : State × Room :=
  match s.frame u with
  | some f => (s.setFrame u { f with used := s.now }, .ok)
  | none =>
    let r := s.roomFor (u / 128) quota
    match r.2 with
    | .ok => (r.1.newFrame u false, .ok)
    | .transient => (r.1.newFrame u true, .ok)
    | x => (r.1, x)

/-- The line may enter T0: its granule is not T2_ONLY and its frame not in the transient pool (Table 07-1). -/
def State.cacheable (s : State) (l : Nat) : Bool :=
  !(s.isTransient (l / 32768)) && match s.frame (l / 256) with
    | some f => !f.transient
    | none => true

/-- What one line still lacks before a transaction can use it. -/
structure Lack where
  fill : Bool := false
  float : Bool := false
  transient : Bool := false
  buffer : Bool := false
  deriving DecidableEq, Repr

def Lack.any (x : Lack) : Bool := x.fill || x.float || x.transient || x.buffer

def Lack.join (x y : Lack) : Lack :=
  { fill := x.fill || y.fill, float := x.float || y.float, transient := x.transient || y.transient, buffer := x.buffer || y.buffer }

/-- A line is made usable: needs is true when its present bytes are needed (a read, or a write of part of it)
(R64, R65, R236, R239 to R241). -/
def State.readyLine (s : State) (needs : Bool) (quota : Nat) (l : Nat) : State × Lack :=
  let u := l / 256
  let r := s.obtain u quota
  match r.2 with
  | .waitFloat => (r.1, { float := true })
  | .waitTransient => (r.1, { transient := true })
  | _ =>
    let s := r.1
    match s.line l with
    | some x =>
      if x.filling then (s.count Reg.LC_FILL_JOIN, { fill := true }) else (s, {})
    | none =>
      let valid := match s.frame u with
        | some f => f.valid.getLsbD (l % 256)
        | none => false
      if s.t0On && s.cacheable l && !(s.bankOn (t0Bank (l * 64))) then (s, { buffer := true })
      else if !needs then (s, {})
      else if !valid then (s.startFill u, { fill := true })
      else if s.t0On && s.cacheable l then
        let f := s.startLineFill l
        if f.2 then (f.1, { fill := true }) else (s, { buffer := true })
      else (s, {})

/-- Every line of a range made usable; partial lines need their bytes when the range is written. -/
def State.readyRange (s : State) (isRead : Bool) (quota addr len : Nat) : State × Lack :=
  if len = 0 then (s, {})
  else
    (span (addr / 64) ((addr + len + 63) / 64 - addr / 64)).foldl
      (fun (acc : State × Lack) l =>
        let whole := decide (addr ≤ l * 64) && decide (l * 64 + 64 ≤ addr + len)
        let r := acc.1.readyLine (isRead || !whole) quota l
        (r.1, acc.2.join r.2)) (s, {})

/-! ### What a placed transaction does to the tiers -/

/-- Lines written become valid; in a persistent region dirty as well, and a frame that was clean takes its place in
the order of first dirtying (R63, R68); whole lines lose their poison (R223). -/
def State.markWritten (s : State) (addr len : Nat) (persistent : Bool) : State :=
  (span (addr / 64) ((addr + len + 63) / 64 - addr / 64)).foldl
    (fun s l =>
      let whole := decide (addr ≤ l * 64) && decide (l * 64 + 64 ≤ addr + len)
      match s.frame (l / 256) with
      | some f =>
        let b := lineBit (l % 256)
        let f' := { f with
          valid := f.valid ||| b,
          dirty := if persistent then f.dirty ||| b else f.dirty,
          poison := if whole then f.poison &&& ~~~b else f.poison,
          since := if persistent && f.dirty == 0 then s.tier.stamp else f.since }
        let s := if persistent && f.dirty == 0 then { s with tier := { s.tier with stamp := s.tier.stamp + 1 } } else s
        s.setFrame (l / 256) f'
      | none => s) s

/-- Words of a volatile region become written; the other bytes of a never-written word become 0 (R228). -/
def State.writeWords (s : State) (addr len : Nat) : State :=
  (span (addr / 8) ((addr + len + 7) / 8 - addr / 8)).foldl
    (fun s w =>
      let s := if sget (fun _ => false) s.tier.written w then s else s.poolWrite (w * 8) (List.replicate 8 0)
      { s with tier := { s.tier with written := sput (fun _ => false) s.tier.written w true } }) s

/-- A range of a volatile region returns to never-written (R170, R46). -/
def State.unwrite (s : State) (addr len : Nat) : State :=
  { s with tier := { s.tier with written := s.tier.written.filter (fun e => !(within (addr / 8) (len / 8) e.1)) } }

/-- Words written anew are no longer uncorrectable (R224). -/
def State.clearUncorr (s : State) (addr len : Nat) : State :=
  { s with tier := { s.tier with uncorr := s.tier.uncorr.filter (fun w => !(decide (addr ≤ w * 8) && decide (w * 8 + 8 ≤ addr + len))) } }

/-- The change bitmap notes the granules of a write while the home set is not PAIRED (R386). -/
def State.noteChange (s : State) (h addr len : Nat) : State :=
  if s.pairState h = 3 then s
  else s.updHome h (fun x =>
    { x with changed := (x.changed ++ span (addr / granuleBytes) ((addr + len + granuleBytes - 1) / granuleBytes - addr / granuleBytes)).eraseDups })

/-- Map units that become dirty are named in the epoch's DELTA (Table 11-6, DIRTY). -/
def State.noteDirty (s : State) (h addr len : Nat) : State :=
  let us := (span (addr / unitBytes) ((addr + len + unitBytes - 1) / unitBytes - addr / unitBytes)).filter (fun u =>
    match s.frame u with
    | some f => f.dirty == 0
    | none => true)
  s.updHome h (fun x => { x with newDirty := (x.newDirty ++ us).eraseDups })

/-- Bytes placed in a region (R13, R17, R228), for a host or, as twin says, for a frame from the twin. -/
def State.placeBytes (s : State) (r : Region) (addr : Nat) (bs : List Byte) (twin : Bool := false) : State :=
  if bs.isEmpty then s
  else
    let s := if r.volatile then s.writeWords addr bs.length else s.noteDirty r.home addr bs.length
    let s := (span (addr / 64) ((addr + bs.length + 63) / 64 - addr / 64)).foldl
      (fun s l => let c := lineChunk addr bs l; s.writeLine (!twin && s.cacheable l) l c.1 c.2) s
    let s := (s.markWritten addr bs.length (!r.volatile)).clearUncorr addr bs.length
    s.noteChange r.home addr bs.length

/-- An entry is appended to the journal (R326). -/
def State.journalAdd (s : State) (e : JEntry) : State := { s with flash := { s.flash with journal := s.flash.journal ++ [e] } }

/-- A map unit leaves the map: it takes a version, and the change is journaled (R325, R326, TRIM). -/
def State.unmap (s : State) (u : Nat) : State :=
  let v := s.flash.version
  let old := (kget s.flash.map u).map (fun m => m.phys)
  let s : State := { s with
    flash := { s.flash with
      map := kdel s.flash.map u, t2 := memClear s.flash.t2 (u * unitBytes) unitBytes, version := v + 1, prog := kdel s.flash.prog u }
    net := { s.net with txns := s.net.txns.map (fun t => { t with deep := t.deep.filter (fun d => d.1 != u) }) } }
  s.journalAdd { version := v, target := u, typ := 3, new := 0xFFFFFFFF, old := old.getD 0xFFFFFFFF }

/-- A range trimmed: a persistent region's map units are released, so that a later read returns zeros, and take a
version; a volatile range returns to never-written (R170, R325, Table 02-4). -/
def State.trimRange (s : State) (r : Region) (addr len : Nat) : State :=
  let s := (span (addr / unitBytes) (len / unitBytes)).foldl
    (fun s u =>
      let s := { s with tier := { s.tier with lines := s.tier.lines.filter (fun e => !(within (u * 256) 256 e.1)) } }
      let s := { s with tier := { s.tier with t1 := memClear s.tier.t1 (u * unitBytes) unitBytes } }
      let s := s.updFrame u (fun f => { f with valid := allLines, dirty := 0, poison := 0, copy := none, filling := false })
      if r.volatile then s else s.unmap u) s
  let s := if r.volatile then s.unwrite addr len else s
  (s.clearUncorr addr len).noteChange r.home addr len

/-- A word of a region is a failed word for a reader: poisoned line, never-written word, or an uncorrectable T1 word
(R224, R229). -/
def State.wordFails (s : State) (r : Region) (w : Nat) : Bool :=
  let poisoned := match s.frame (w * 8 / unitBytes) with
    | some f => f.poison.getLsbD ((w / 8) % 256)
    | none => false
  poisoned || (r.volatile && !(sget (fun _ => false) s.tier.written w)) || s.tier.uncorr.contains w

/-- Byte of the poison pattern at a region offset (R225). -/
def poisonByte (off : Nat) : Byte := BitVec.ofNat 8 (0x21214E4F53494F50 >>> (8 * (off % 8)))

/-- What a reader receives, and its failed span as first and last offsets in the request (R225, R226). -/
def State.readPool (s : State) (base : Nat) (r : Region) (addr len : Nat) : List Byte × Option (Nat × Nat) :=
  let bs := (span addr len).map (fun a => if s.wordFails r (a / 8) then poisonByte (a - base) else s.poolByte a)
  let bad := (List.range len).filter (fun i => s.wordFails r ((addr + i) / 8))
  (bs, match bad.head?, bad.getLast? with
    | some a, some b => some (a, b)
    | _, _ => none)

/-- Words of the range that are uncorrectable and can be healed from the twin (R222, R229). -/
def State.healable (s : State) (r : Region) (addr len : Nat) : List Nat :=
  if s.paired r.home && (!r.volatile || r.mirror) then
    s.tier.uncorr.filter (fun w => overlaps (w * 8) 8 addr len)
  else []

/-- A heal of a unit is asked of the twin (R222, R378). -/
def State.askHeal (s : State) (h u : Nat) : State :=
  if s.tier.heals.any (fun e => e.1 = u) then s
  else
    let n := s.tier.healNo + 1
    { s with tier := { s.tier with heals := s.tier.heals ++ [(u, n)], healNo := n } }.linkSend true 32 (.heal 5 h u n 0 [] 0)

end Sys2Proof.Machine
end

