-- ==== Sys2Proof/Machine/Protect.lean ====
section
/-! DEFINITION. Sys2Proof/Machine/Protect.lean: protection domains, keys, the key cache, the admission checks of Table
04-2, and the choice of new keys and extents (chapter 4). -/

namespace Sys2Proof.Machine

/-- A protection-domain entry; at reset PD 0 is enabled with the admin bit and credential 0, every other disabled
(R141, R144). -/
def State.pd (s : State) (n : Nat) : Pd := (kget s.prot.pds n).getD (if n = 0 then { en := true, admin := true } else {})

def State.setPd (s : State) (n : Nat) (p : Pd) : State := { s with prot := { s.prot with pds := kput s.prot.pds n p } }

/-- Index and tag of a key (R136). -/
def keyIndex (k : BitVec 32) : Nat := k.toNat / 256
def keyTag (k : BitVec 32) : Nat := k.toNat % 256

/-- The 32-bit key of an index and a tag (R136). -/
def keyValue (i tag : Nat) : BitVec 32 := BitVec.ofNat 32 (i * 256 + tag)

def State.key (s : State) (i : Nat) : Option Key := kget s.prot.keys i
def State.setKey (s : State) (i : Nat) (k : Key) : State := { s with prot := { s.prot with keys := kput s.prot.keys i k } }

/-- Set of the key cache: KEY[17:8] XOR KEY[27:18] (R139). -/
def cacheSet (i : Nat) : Nat := (i % 1024) ^^^ ((i >>> 10) % 1024)

/-- The key's entry is in the key cache (R139). -/
def State.cached (s : State) (i : Nat) : Bool := ((kget s.prot.cache (cacheSet i)).getD []).contains i

/-- An entry becomes the most recently used of its set; the least recently used of 17 leaves (R139). -/
def State.cacheTouch (s : State) (i : Nat) : State :=
  let old := (kget s.prot.cache (cacheSet i)).getD []
  { s with prot := { s.prot with cache := kput s.prot.cache (cacheSet i) ((i :: old.filter (· != i)).take 16) } }

/-- How far Table 04-2 is applied to a request (R147). -/
inductive Extent where
  | whole            -- checks 1 to 5
  | noBounds         -- checks 1 to 3 and 5: FLUSH with region selectivity
  | keyOnly          -- checks 1 to 3: length 0
  deriving DecidableEq, Repr

/-- Right numbers (R166). -/
abbrev rRead : Nat := 0
abbrev rWrite : Nat := 1
abbrev rAtomic : Nat := 2
abbrev rFlush : Nat := 3
abbrev rAtomicWrite : Nat := 4

/-- Check 1 of Table 04-2: the index is valid and the tag equal; a doorbell-aperture key is valid only on its own QP
(R136, R160). -/
def State.findKey (s : State) (qpn : Nat) (k : BitVec 32) : Option Key :=
  match s.key (keyIndex k) with
  | some e =>
    let own := match e.aperture with
      | some q => decide (q = qpn)
      | none => true
    if e.valid && decide (e.tag = keyTag k) && decide (1 ≤ keyIndex k) && decide (keyIndex k ≤ 4194304) && own then some e else none
  | none => none

/-- The checks of Table 04-2 in order (R145, R147): the cause code of the first that fails, or the key. -/
def State.checkKey (s : State) (qpn pd home : Nat) (k : BitVec 32) (off len right : Nat) (x : Extent) : Except Nat Key :=
  match s.findKey qpn k with
  | none => .error 1
  | some e =>
    let (kpd, khome) := match s.region e.region with
      | some r => (r.pd, r.home)
      | none => (pd, home)
    if kpd ≠ pd then .error 2
    else if khome ≠ home then .error 3
    else if x = .keyOnly then .ok e
    else if x = .whole && !(decide (e.off ≤ off) && decide (off + len ≤ e.off + e.len)) then .error 4
    else if !(e.rights.getLsbD right) then .error 5
    else .ok e

/-- Counter of a cause code (Table 04-2). -/
def violCounter (cause : Nat) : Nat := Reg.KEY_VIOL_KEY + 4 * (cause - 1)

/-- A failed admission check is counted, shown in KEY_LASTVIOL and recorded (R145, R143). -/
def State.violation (s : State) (qpn : Nat) (k : BitVec 32) (cause : Nat) (capsule : Bool) : State :=
  let s := s.count (violCounter cause)
  let s := ((s.put Fld.KEY_LASTVIOL0_QPN qpn).put Fld.KEY_LASTVIOL0_CAUSE cause).putB Fld.KEY_LASTVIOL0_CAPSULE capsule
  let s := s.setReg Reg.KEY_LASTVIOL1 k
  let held := cause = 5 && match s.findKey qpn k with
    | some e => match kget s.prot.regions e.region with
      | some r => r.hold
      | none => false
    | none => false
  let s := if held then s.count Reg.FTL_RO_REFUSED else s
  s.record .keyViolation 0 (leBytes 4 qpn ++ leBytes 4 k.toNat ++ [BitVec.ofNat 8 cause]) 0 (perSecond 0)

/-- The lowest index from i on that holds neither a valid key nor one whose fence is open (R137, log entry 7). -/
def freeIndex : List (Nat × Key) → Nat → Nat
  | [], i => i
  | (j, k) :: m, i => if j < i then freeIndex m i else if j = i && (k.valid || k.fencing) then freeIndex m (i + 1) else i

/-- Valid keys, apertures included (R134, R160). -/
def State.validKeys (s : State) : List (Nat × Key) := s.prot.keys.filter (fun e => e.2.valid)

/-- Valid keys of a region, in index order. -/
def State.regionKeys (s : State) (base : Nat) : List (Nat × Key) :=
  s.prot.keys.filter (fun e => e.2.valid && e.2.region = base && e.2.aperture.isNone)

/-- The chip is a worker of a colony, so that it issues keys only from its own blocks (R404, R410). -/
def State.colWorker (s : State) : Bool := s.on Fld.COL_CTRL_WORKER

/-- The lowest free index of the worker's own key blocks: block b holds indices 4,096b + 1 to 4,096b + 4,096 (R410). -/
def State.ownIndex (s : State) : Option Nat :=
  (s.col.own.map (fun b => span (4096 * b + 1) 4096)).flatten.find? (fun i => match s.key i with
    | some k => !(k.valid || k.fencing)
    | none => true)

/-- The index that the next key takes (R137, R410). -/
def State.nextIndex (s : State) : Option Nat :=
  if s.colWorker then s.ownIndex
  else
    let i := freeIndex s.prot.keys 1
    if 4194304 < i then none else some i

/-- A key issued: the tag of a reused index is the previous tag plus one, 0xFF followed by 0x01 (R137); none when the
4,194,304 keys are in use (R134). -/
def State.issueKey (s : State) (region off len : Nat) (rights : Rights) (aperture : Option Nat) : Option (State × Nat) :=
  match s.nextIndex with
  | none => none
  | some i =>
    let tag := match s.key i with
      | some k => if k.tag = 255 then 1 else k.tag + 1
      | none => 1
    let e : Key := { tag := tag, region := region, off := off, len := len, rights := rights, aperture := aperture }
    some (s.setKey i e, i)

/-- The lowest base at or above b, a multiple of 2 MiB, where an extent fits among the regions (Table 04-1, log entry 7). -/
def freeBase (len : Nat) : List (Nat × Region) → Nat → Nat
  | [], b => b
  | (base, r) :: m, b => if b + len ≤ base then b else freeBase len m (max b (base + r.len))

/-- The lowest-index valid key of a region whose PD is the connection's (Table 05-10, DFLUSH_LOSS). -/
def State.lowestKey (s : State) (base : Nat) : BitVec 32 :=
  match (s.regionKeys base).head? with
  | some (i, k) => keyValue i k.tag
  | none => 0

/-- KEY_STATUS.FENCES_OPEN and TRANSITION follow the fences and the marks (Table 04-6). -/
def State.fenceStatus (s : State) : State :=
  (s.put Fld.KEY_STATUS_FENCES_OPEN (s.prot.fences.filter (fun f => f.begun)).length).putB Fld.KEY_STATUS_TRANSITION
    (!s.prot.transit.isEmpty)

end Sys2Proof.Machine
end

