-- ==== Sys2Proof/Machine/Transport.lean ====
section
/-! DEFINITION. Sys2Proof/Machine/Transport.lean: QP contexts, the mirror frames and records that leave for the standby,
the device's own requests, and what it sends on a QP (R80, R102 to R126, R367, R368). -/

namespace Sys2Proof.Machine

/-! ### Contexts -/

def State.qp (s : State) (n : Nat) : Option Qp := kget s.net.qps n
def State.setQp (s : State) (n : Nat) (q : Qp) : State := { s with net := { s.net with qps := kput s.net.qps n q } }
def State.updQp (s : State) (n : Nat) (f : Qp → Qp) : State := { s with net := { s.net with qps := kupd s.net.qps n f } }

/-- A QP whose state or port changed is named in the epoch's DELTA (Table 11-6). -/
def State.touchQp (s : State) (n : Nat) : State :=
  match s.qp n with
  | some q => s.updHome q.home (fun x => { x with touched := if x.touched.contains n then x.touched else x.touched ++ [n] })
  | none => s

/-- A QP that receives packets (Table 03-8). -/
def Qp.receives (q : Qp) : Bool := q.st == .rtr || q.st == .rts

/-- Packets of a length at a path MTU; an empty message uses one (R93, R104). -/
def packets (pmtu len : Nat) : Nat := max 1 ((len + pmtu - 1) / pmtu)

/-- Distance from a to b going up, modulo 2^24. -/
def psnDist (a b : Psn) : Nat := (b - a).toNat

/-- a is at or below b (within 2^23, R104). -/
def psnLe (a b : Psn) : Bool := decide (psnDist a b < 8388608)

/-! ### Mirror frames and records -/

/-- A DATA frame leaves for the standby with the home set's next MSEQ; while PAIRED its CONFIRM is awaited
(R367, R385). -/
def State.sendData (s : State) (h kind qpn : Nat) (psn : Psn) (addr aux : Nat) (key : BitVec 32) (bs : List Byte)
    (region txn : Nat) : State × Nat :=
  let m := (s.home h).mseq
  let s := s.updHome h (fun x => { x with mseq := m + 1 })
  let s := (s.linkSend true (48 + bs.length) (.data h m kind qpn psn addr aux key bs)).count Reg.TWN_DATA_TX
  if s.pairState h = 3 then
    ({ s with net := { s.net with unconf := s.net.unconf ++ [{ mseq := m, home := h, region := region, ord := txn, at_ := s.now }] } }, m)
  else (s, m)

/-- The pieces of at most 4,096 bytes of a write (R367). -/
def dataPieces (addr : Nat) : Nat → List Byte → List (Nat × List Byte)
  | 0, _ => []
  | _, [] => []
  | n + 1, bs => (addr, bs.take 4096) :: dataPieces (addr + 4096) n (bs.drop 4096)

/-- A write travels in DATA frames of at most 4,096 bytes; the answer lists the MSEQs to wait for (R17, R367). -/
def State.mirrorWrite (s : State) (h qpn : Nat) (psn : Psn) (addr : Nat) (key : BitVec 32) (bs : List Byte)
    (region txn msn : Nat) : State × List Nat :=
  if s.mirrors h then
    (dataPieces addr ((bs.length + 4095) / 4096) bs).foldl
      (fun (acc : State × List Nat) p =>
        let r := acc.1.sendData h 0 qpn psn p.1 msn key p.2 region txn
        (r.1, if s.pairState h = 3 then acc.2 ++ [r.2] else acc.2)) (s, [])
  else (s, [])

/-- A record for the standby: sent while PAIRED and awaited, sent and not awaited in RESYNC, otherwise not sent
(R180, R368, R385). -/
def State.sendRec (s : State) (h kind qpn addr aux : Nat) (bs : List Byte) (k : RecKind) : State × Option Nat :=
  if s.mirrors h then
    let r := s.sendData h kind qpn 0 addr aux 0 bs 0 0
    if s.pairState h = 3 then
      ({ r.1 with cqi := { r.1.cqi with recs := r.1.cqi.recs ++ [{ mseq := r.2, home := h, kind := k }] } }, some r.2)
    else (r.1, none)
  else (s, none)

/-! ### Responses -/

/-- A response or NAK counts in the lockstep response sum through its ICRC (R371), which no rule of the spec fixes bit
for bit here: a free value. -/
def State.addResp (s : State) (h : Nat) : State :=
  if s.pairState h = 2 then
    let d := s.draw
    d.2.updHome h (fun x => { x with respSum := x.respSum + Config.icrcOf d.1 })
  else s

/-- An ACK carrying a PSN leaves, and every completed request is covered (R120). -/
def State.sendAck (s : State) (n : Nat) (psn : Psn) : State :=
  match s.qp n with
  | some q => ((s.updQp n (fun q => { q with uncovered := 0 })).emit (.ack (s.sendPort q) n psn q.msn)).addResp q.home
  | none => s

/-- Counter of a NAK's syndrome (Table 03-7). -/
def nakCounter (syndrome : Nat) : Nat :=
  if syndrome = 0x60 then Reg.TRN_NAK_SEQ
  else if syndrome = 0x61 then Reg.TRN_NAK_INV
  else if syndrome = 0x62 then Reg.TRN_NAK_ACC
  else if syndrome = 0x63 then Reg.TRN_NAK_OP
  else Reg.TRN_NAK_RNR

/-- A NAK leaves (R114); it covers every earlier request. -/
def State.sendNak (s : State) (n : Nat) (psn : Psn) (syndrome : Nat) : State :=
  match s.qp n with
  | some q =>
    (((s.updQp n (fun q => { q with uncovered := 0 })).emit (.nak (s.sendPort q) n psn syndrome q.msn)).count
      (nakCounter syndrome)).addResp q.home
  | none => s

/-! ### The reaction point (R123) -/

/-- Rate of a port in Mb/s (Table 03-1). -/
def State.portRate (s : State) (p : Nat) : Nat :=
  match s.get (Fld.PRT_MODE_RATE p) with
  | 1 => 100000
  | 2 => 200000
  | 3 => 400000
  | _ => 0

/-- An increase step (R123); at the port rate the QP is no longer limited. -/
def RateSt.step (x : RateSt) (port ai hai : Nat) : RateSt :=
  let n := x.steps + 1
  let t := if n ≤ 5 then x.target else if n ≤ 10 then x.target + ai else x.target + hai
  let r := (x.rate + t) / 2
  if port ≤ r then {} else { x with rate := r, target := t, steps := n }

/-- The rate registers as the slice of a QP sees them. -/
def State.rpField (s : State) (n : Nat) (f : Field) : Nat := fieldOf f (s.sliceReg (s.sliceOf n) f.addr)

/-- Bytes that a limited QP sends; each 10 MiB is an increase step (R123). -/
def State.sent (s : State) (n bytes : Nat) : State :=
  s.updQp n (fun q =>
    let ai := s.rpField n Fld.TRN_RP_STEP_AI_RATE
    let hai := s.rpField n Fld.TRN_RP_STEP_HAI_RATE
    let x : RateSt := { q.rate with bytes := (q.rate.bytes + bytes) % 10485760 }
    if !q.rate.limited then q
    else if 10485760 ≤ q.rate.bytes + bytes then { q with rate := x.step (s.portRate (s.sendPort q)) ai hai }
    else { q with rate := { q.rate with bytes := q.rate.bytes + bytes } })

/-! ### The device as requester -/

/-- READs in flight on a connection (R179). -/
def Qp.readsInFlight (q : Qp) : Nat :=
  (q.reqs.filter (fun r => match r.kind with
    | .queueTable | .fetch _ _ _ | .dataRead _ _ => true
    | _ => false)).length

/-- Capsule-fetch READs in flight on a connection (R179). -/
def Qp.fetchesInFlight (q : Qp) : Nat :=
  (q.reqs.filter (fun r => match r.kind with
    | .fetch _ _ _ => true
    | _ => false)).length

def ReqKind.isRead : ReqKind → Bool
  | .queueTable | .fetch _ _ _ | .dataRead _ _ => true
  | _ => false

/-- One request of the device goes on the wire. -/
def State.sendReq (s : State) (n : Nat) (q : Qp) (r : DevReq) : State :=
  if r.kind.isRead then s.emit (.readRequest (s.sendPort q) n r.psn r.hostAddr r.hostKey r.rlen)
  else (s.emit (.writeRequest (s.sendPort q) n r.psn r.hostAddr r.hostKey r.imm r.data)).sent n r.data.length

/-- The longest prefix of unsent requests that wait for no record is sent, in PSN order (R180). -/
def sendPrefix (s : State) (n : Nat) (q : Qp) : List DevReq → State × List DevReq
  | [] => (s, [])
  | r :: rs =>
    if r.sent then
      let x := sendPrefix s n q rs
      (x.1, r :: x.2)
    else if r.wait.isSome then (s, r :: rs)
    else
      let x := sendPrefix (s.sendReq n q r) n q rs
      (x.1, { r with sent := true } :: x.2)

/-- Requests of a QP that may leave do (R180); only in Ready-to-send, and not while its home set's stage has stopped. -/
def State.pumpReqs (s : State) (n : Nat) : State :=
  match s.qp n with
  | some q =>
    if q.st == .rts && s.acts q.home && s.pairState q.home != 5 then
      let x := sendPrefix s n q q.reqs
      x.1.updQp n (fun q => { q with reqs := x.2 })
    else s
  | none => s

/-- A request of the device takes the next PSNs of the requester space (R102, R180). -/
def State.newReq (s : State) (n : Nat) (kind : ReqKind) (addr : Nat) (key : BitVec 32) (rlen : Nat) (data : List Byte)
    (imm : Option (BitVec 32)) (wait : Option Nat) : State :=
  match s.qp n with
  | some q =>
    let c := packets q.pmtu (if kind.isRead then rlen else data.length)
    let r : DevReq := { psn := q.spsn, count := c, kind := kind, hostAddr := addr, hostKey := key, data := data,
                        rlen := rlen, imm := imm, wait := wait }
    ((s.setQp n { q with spsn := q.spsn + BitVec.ofNat 24 c, reqs := q.reqs ++ [r] }).touchQp n).pumpReqs n
  | none => s

/-! ### Queues and slots -/

def queueKey (qpn q : Nat) : Nat := qpn * 64 + q
def State.queue (s : State) (qpn q : Nat) : Option Queue := kget s.cqi.queues (queueKey qpn q)
def State.updQueue (s : State) (qpn q : Nat) (f : Queue → Queue) : State :=
  { s with cqi := { s.cqi with queues := kupd s.cqi.queues (queueKey qpn q) f } }
def State.slot (s : State) (c : CapRef) : Option Slot :=
  match s.queue c.qpn c.queue with
  | some q => q.slots.find? (fun x => x.idx = c.slot)
  | none => none
def State.updSlot (s : State) (c : CapRef) (f : Slot → Slot) : State :=
  s.updQueue c.qpn c.queue (fun q => { q with slots := q.slots.map (fun x => if x.idx = c.slot then f x else x) })

/-- A queue whose state, tail or cursor changed is named in the epoch's DELTA (Table 11-6, QUEUE). -/
def State.touchQueue (s : State) (qpn q : Nat) : State :=
  match s.qp qpn with
  | some x => s.updHome x.home (fun h => { h with newQueues := if h.newQueues.contains (queueKey qpn q) then h.newQueues else h.newQueues ++ [queueKey qpn q] })
  | none => s

/-- Queues of a connection. -/
def State.queuesOf (s : State) (qpn : Nat) : List (Nat × Queue) :=
  s.cqi.queues.filter (fun e => within (qpn * 64) 64 e.1)

/-- A queue that fetches, runs or posts. -/
def Queue.live (q : Queue) : Bool := q.st == .active || q.st == .frozen

/-- The QP enters Error (R117, R118, Table 05-11): its requests end, its queues end, its held packets are dropped, and
the event is recorded. Accepted writes keep their place and receive no response. -/
def State.enterError (s : State) (n : Nat) (cause : Nat) : State :=
  match s.qp n with
  | some q =>
    let s := s.setQp n { q with st := .error, reqs := [], openMsg := none, closing := false, uncovered := 0 }
    let endQueue (e : Nat × Queue) : Nat × Queue :=
      if within (n * 64) 64 e.1 && e.2.live then (e.1, { e.2 with st := .ended, slots := [] }) else e
    let unmsg (f : Fence) : Fence := { f with msgs := f.msgs.filter (· != n) }
    let s : State := { s with
      cqi := { s.cqi with queues := s.cqi.queues.map endQueue },
      net := { s.net with held := s.net.held.filter (fun x => x.qpn != n) },
      prot := { s.prot with fences := s.prot.fences.map unmsg } }
    ((s.count Reg.TRN_QP_ERR).touchQp n).record .trnQpError (unitHome q.home) (leBytes 4 n ++ [BitVec.ofNat 8 cause])
  | none => s

/-- A QP's context is freed and it returns to Idle; its queue pairs go back to the pool, its doorbell key is revoked
(Table 03-8, Table 05-11). -/
def State.freeQp (s : State) (n : Nat) : State :=
  match s.qp n with
  | some q =>
    let s := s.touchQp n
    let s := { s with
      net := { s.net with qps := kdel s.net.qps n, held := s.net.held.filter (fun x => x.qpn != n),
                          txns := s.net.txns.filter (fun t => t.qpn != n || t.op.writes && !t.placed) },
      cqi := { s.cqi with queues := s.cqi.queues.filter (fun e => !(within (n * 64) 64 e.1)) } }
    if q.dbKey = 0 then s
    else { s with prot := { s.prot with keys := kupd s.prot.keys q.dbKey (fun k => { k with valid := false }) } }
  | none => s

end Sys2Proof.Machine
end

