-- ==== Sys2Proof/Machine/Queues.lean ====
section
/-! DEFINITION. Sys2Proof/Machine/Queues.lean: entries posted to completion and notification rings, the completion of
a capsule, and the freeze of a queue (R171 to R176, R180, R182, R189, R617). -/

namespace Sys2Proof.Machine

/-- Status codes (Table 05-8). -/
abbrev stSuccess : Nat := 0
abbrev stInvalidOpcode : Nat := 1
abbrev stInvalidField : Nat := 2
abbrev stAccessDenied : Nat := 3
abbrev stNoResource : Nat := 4
abbrev stDataLost : Nat := 5
abbrev stSpaceExhausted : Nat := 6
abbrev stMediaError : Nat := 7
abbrev stBusy : Nat := 8
abbrev stSignatureInvalid : Nat := 9
abbrev stNotPaired : Nat := 10
abbrev stNoImage : Nat := 11

/-- PHASE of entry n of a ring: 1 on even passes (R171). -/
def phase (n size : Nat) : Nat := if (n / size) % 2 = 0 then 1 else 0

/-- Entries posted that the host has not consumed, from the count posted and the host's index. -/
def unconsumed (count head size : Nat) : Nat := (count + size - head % size) % size

/-- Immediate data of an entry's write (R617). -/
def entryImm (nq : Bool) (queue idx : Nat) : BitVec 32 :=
  BitVec.ofNat 32 (idx + queue * 2 ^ 16 + (if nq then 2 else 1) * 2 ^ 22)

/-- A ring entry is recorded (POST of Table 11-4, with the requester PSN that its write will use) and its RDMA WRITE
takes that PSN; while paired the write waits for the record's CONFIRM (R180). -/
def State.postEntry (s : State) (n : Nat) (nq : Bool) (queue idx addr : Nat) (entry : List Byte) (imm : Bool) : State :=
  match s.qp n with
  | some q =>
    let r := s.sendRec q.home 7 n (queue + (if nq then 256 else 0) + idx * 65536) q.spsn.toNat entry (.post n)
    r.1.newReq n (if nq then .postNq queue idx else .postCq queue idx) addr q.ringKey 0 entry
      (if imm then some (entryImm nq queue idx) else none) r.2
  | none => s

/-! ### Notifications -/

/-- The 32 bytes of a notification (Table 05-9). -/
def notifEntry (type queue ph qpn arg0 arg1 key seq : Nat) : List Byte :=
  leBytes 2 type ++ [BitVec.ofNat 8 queue, BitVec.ofNat 8 (ph * 128)] ++ leBytes 4 qpn ++ leBytes 8 arg0 ++
    leBytes 8 arg1 ++ leBytes 4 key ++ leBytes 4 seq

/-- The ring that takes a notification: queue 0's where the queue has none (R176). -/
def State.notifRing (s : State) (n ring : Nat) : Nat :=
  match s.queue n ring with
  | some q => if q.nqSize = 0 then 0 else ring
  | none => 0

/-- A notification is raised: it takes its SEQ; a full ring counts it as lost (R175, R176). A connection without bound
queues receives none. -/
def State.notify (s : State) (n ring type queue arg0 arg1 key : Nat) : State :=
  match s.qp n with
  | some q =>
    let ring := s.notifRing n ring
    match s.queue n ring with
    | some x =>
      if x.live && x.nqSize != 0 && q.bound then
        let s := s.updQp n (fun q => { q with notifSeq := q.notifSeq + 1 })
        if unconsumed x.nqCount x.nqHead x.nqSize + 1 < x.nqSize then
          let idx := x.nqCount % x.nqSize
          let e := notifEntry type queue (phase x.nqCount x.nqSize) n arg0 arg1 key q.notifSeq
          let s := s.updQueue n ring (fun x => { x with nqCount := x.nqCount + 1 })
          (s.postEntry n true ring idx (x.nqAddr + 32 * idx) e (x.flags.testBit 1)).count Reg.CQI_NOTIFS
        else
          (s.updQueue n ring (fun x => { x with nqLost := x.nqLost + 1 })).count Reg.CQI_NQ_LOST
      else s
    | none => s
  | none => s

/-- Connections of a home set with bound queues. -/
def State.boundQps (s : State) (h : Nat) : List (Nat × Qp) := s.net.qps.filter (fun e => e.2.home = h && e.2.bound)

/-- A notification on queue 0 of every connection of a home set with bound queues (R21). -/
def State.notifyAll (s : State) (h type arg0 arg1 : Nat) : State :=
  (s.boundQps h).foldl (fun s e => s.notify e.1 0 type 0 arg0 arg1 0) s

/-- Notifications lost on a ring are reported once space has returned (R176). -/
def State.reportLost (s : State) (n ring : Nat) : State :=
  match s.queue n ring with
  | some x =>
    if x.nqLost = 0 || !(decide (unconsumed x.nqCount x.nqHead x.nqSize + 1 < x.nqSize)) then s
    else
      let s := s.updQueue n ring (fun x => { x with nqLost := 0 })
      (s.notify n ring 0x000D ring x.nqLost 0 0).record .cqiNqOverflow 0 (leBytes 4 n ++ leBytes 1 ring ++ leBytes 4 x.nqLost)
  | none => s

/-! ### Completions -/

/-- The 16 bytes of a completion (Table 05-7). -/
def complEntry (result sqHead queue flags cid status ph : Nat) : List Byte :=
  leBytes 8 result ++ leBytes 2 sqHead ++ [BitVec.ofNat 8 queue, BitVec.ofNat 8 flags] ++ leBytes 2 cid ++
    leBytes 2 (status % 32768 + ph * 32768)

/-- A field of a capsule: n bytes from byte a. -/
def capField (bs : List Byte) (a n : Nat) : Nat := leNat ((bs.drop a).take n)

/-- The oldest slot still owned, in ring order from the old head; the fetch cursor when none is (R172). -/
def Queue.oldest (q : Queue) : Nat :=
  let d (i : Nat) : Nat := (i + q.sqSize - q.sqHead % q.sqSize) % q.sqSize
  match q.slots with
  | [] => q.cursor
  | x :: xs => (xs.foldl (fun (acc : Slot) y => if d y.idx < d acc.idx then y else acc) x).idx

/-- The error log entry of a failure (Table 05-13). -/
def State.errEntry (s : State) (c : CapRef) (x : Slot) (total status : Nat) : List Byte :=
  leBytes 8 total ++ leBytes 4 c.qpn ++ [BitVec.ofNat 8 c.queue, BitVec.ofNat 8 (capField x.bytes 0 1)] ++
    leBytes 2 (capField x.bytes 2 2) ++ leBytes 2 c.slot ++ leBytes 2 status ++ leBytes 4 x.errKey ++ leBytes 8 x.errOff ++
    leBytes 4 x.errDet ++ leBytes 8 s.stamp ++ [1] ++ List.replicate 19 0

/-- A capsule completes: its entry is posted, its slot released or kept as failed, the queue frozen by any status but
SUCCESS, and the failure logged (R171 to R173, R182, R189, Table 05-11). -/
def State.complete (s : State) (c : CapRef) (status result : Nat) (poison : Bool) : State :=
  match s.qp c.qpn, s.queue c.qpn c.queue, s.slot c with
  | some qp, some q, some x =>
    if !q.live then s
    else
      let ok := status == 0
      let freezes := !ok && q.st == .active
      let slots := if ok then q.slots.filter (fun y => y.idx != c.slot)
        else q.slots.map (fun y => if y.idx = c.slot then { y with st := .failed, status := status } else y)
      let q1 : Queue := { q with slots := slots, st := if ok then q.st else .frozen, cqCount := q.cqCount + 1 }
      let q2 : Queue := { q1 with sqHead := q1.oldest }
      let flags := (if poison then 1 else 0) + (if q2.st == .frozen then 2 else 0) + (if ok then 0 else 4)
      let idx := q.cqCount % q.cqSize
      let e := complEntry result q2.sqHead c.queue flags (capField x.bytes 2 2) status (phase q.cqCount q.cqSize)
      let total := qp.errTotal + 1
      let logged := s.errEntry c x total status
      let s := s.updQueue c.qpn c.queue (fun _ => q2)
      let s := if freezes then s.touchQueue c.qpn c.queue else s
      let s := if ok then s
        else ((s.updQp c.qpn (fun qp => { qp with errTotal := total, errLog := (logged :: qp.errLog).take 63 })).count Reg.CQI_ERR_COMPL)
      let s := if freezes then
          (s.count Reg.CQI_FREEZES).record .cqiQueueFrozen 0 (leBytes 4 c.qpn ++ leBytes 1 c.queue) 0 (perSecond c.qpn)
        else s
      (s.postEntry c.qpn false c.queue idx (q.cqAddr + 16 * idx) e (q.flags.testBit 0)).count Reg.CQI_COMPLETED
  | _, _, _ => s

/-- A capsule fails with what the error log shows of it. -/
def State.failCap (s : State) (c : CapRef) (status : Nat) (key off det : Nat := 0) : State :=
  (s.updSlot c (fun x => { x with errKey := key, errOff := off, errDet := det })).complete c status 0 false

/-! ### Self-test log (R187, R188, Table 05-13) -/

/-- Bytes 4 to 27 of an entry of page 0x02: failing key and offset, units checked, healed, not healed. -/
def testFields (key off units healed notHealed : Nat) : List Byte :=
  leBytes 4 key ++ leBytes 8 off ++ leBytes 4 units ++ leBytes 4 healed ++ leBytes 4 notHealed

/-- An entry of page 0x02. -/
def State.testEntry (s : State) (t : SelfTest) (result : Nat) (fields : List Byte) : List Byte :=
  [BitVec.ofNat 8 t.typ, BitVec.ofNat 8 result] ++ leBytes 2 t.pd ++ fields ++ leBytes 4 (s.stamp / 4096 % 2 ^ 24)

/-- A test leaves the list of tests, and its result enters page 0x02 of its namespace, newest first. -/
def State.logTest (s : State) (t : SelfTest) (result : Nat) (fields : List Byte) : State :=
  let key := t.home * 65536 + t.pd
  let old := (kget s.cqi.testLog key).getD []
  { s with cqi := { s.cqi with
    tests := s.cqi.tests.filter (fun x => !(x.home = t.home && x.pd = t.pd))
    testLog := kput s.cqi.testLog key ((s.testEntry t result fields :: old).take 20) } }

/-- How far a test has come that does not end by itself: free, since the spec gives a test no pace. -/
def State.testSoFar (s : State) : State × List Byte := (s.draw.2, leBytes 24 (Config.testProgress s.draw.1).toNat)

/-- Tests interrupted by a hand-over or a loss of power: result 3. -/
def State.interruptTests (s : State) (sel : SelfTest → Bool) : State :=
  (s.cqi.tests.filter sel).foldl (fun s t =>
    let r := s.testSoFar
    r.1.logTest t 3 r.2) s

/-- A capsule completes with SUCCESS. -/
def State.okCap (s : State) (c : CapRef) (result : Nat := 0) : State := s.complete c stSuccess result false

end Sys2Proof.Machine
end

