-- ==== Sys2Proof/Machine/Place.lean ====
section
/-! DEFINITION. Sys2Proof/Machine/Place.lean: stages 5 to 8: acceptance, placement, the mirror, and the responses and
completions that leave in order (R17 to R34, R53, R120, R221 to R229, R367). -/

namespace Sys2Proof.Machine

/-! ### The transaction table -/

def State.updTxn (s : State) (id : Nat) (f : Txn → Txn) : State :=
  { s with net := { s.net with txns := s.net.txns.map (fun t => if t.id = id then f t else t) } }

def State.txn (s : State) (id : Nat) : Option Txn := s.net.txns.find? (fun t => t.id = id)

def State.dropTxn (s : State) (id : Nat) : State :=
  { s with net := { s.net with txns := s.net.txns.filter (fun t => t.id != id) } }

/-- Slots in use in a slice by host requests, capsule transactions and device requests (R54). -/
def State.slotsUsed (s : State) (k : Nat) : Nat :=
  (s.net.txns.filter (fun t => t.slice = k && !t.slotless)).length

/-- A free slot in a slice: 28,672 serve the host side (R54). -/
def State.slotFree (s : State) (k : Nat) : Bool := decide (s.slotsUsed k < 28672)

/-- A region in the scope of a FLUSH: its region, or every region of the namespace (R24, R25). -/
def State.inScope (s : State) (t : Txn) (base : Nat) : Bool :=
  match t.op with
  | .capFlush _ =>
    match s.region base, s.qp t.qpn with
    | some r, some q => r.home == q.home && r.pd == q.pd
    | _, _ => false
  | _ => base == t.region

/-- A DEEP FLUSH waits for this transaction's region. -/
def State.deepFor (s : State) (t : Txn) (base : Nat) : Bool :=
  match t.op with
  | .capFlush true => s.inScope t base
  | _ => false

/-- Units of the scope of a DEEP FLUSH that are not yet on T2 as it finds them: a dirty unit needs a copy taken from
now on, a unit whose copy waits for verify needs that copy (R25). -/
def State.deepUnits (s : State) (t : Txn) : List (Nat × Nat) :=
  s.tier.frames.filterMap (fun (e : Nat × Frame) =>
    match s.regionAt (e.1 * unitBytes) with
    | some r =>
      if r.2.volatile || !(s.deepFor t r.1) then none
      else if e.2.dirty != 0 then some (e.1, s.tier.stamp)
      else e.2.copy.map (fun c => (e.1, c))
    | none => none)

/-- The transaction passes stage 5: it takes its place in the acceptance order and its epoch (R30, R36); a self-test
of its namespace is suspended (R192). -/
def State.acceptTxn (s : State) (t : Txn) : State :=
  let t := { t with ord := s.net.ordNo, epoch := s.epoch t.home, at_ := s.now, accepted := true, deep := s.deepUnits t }
  let pd := ((s.qp t.qpn).map (·.pd)).getD 0
  let susp (x : SelfTest) : SelfTest := if x.home = t.home && x.pd = pd then { x with suspended := true } else x
  { s with
    net := { s.net with ordNo := s.net.ordNo + 1, txns := (s.net.txns.filter (fun x => x.id != t.id)) ++ [t] }
    cqi := { s.cqi with tests := s.cqi.tests.map susp } }

/-- Stage 5 holds the transaction back: a write over the budget (R454). -/
def State.overBudget (s : State) (t : Txn) : Bool :=
  t.op.writes && (match s.region t.region with
    | some r => r.budgeted
    | none => false) && !(s.budgetFits t.len)

/-- A transaction leaves stage 4. It waits behind an earlier one of its slice that stage 5 holds, and a write that
does not fit the budget waits (R454, R455). -/
def State.addTxn (s : State) (t : Txn) : State × Nat :=
  let t := { t with id := s.net.txnId }
  let s := { s with net := { s.net with txnId := s.net.txnId + 1 } }
  if s.net.txns.any (fun x => !x.accepted && x.slice = t.slice) || s.overBudget t then
    ({ s with net := { s.net with txns := s.net.txns ++ [{ t with accepted := false }] } }, t.id)
  else (s.acceptTxn t, t.id)

/-- Waiting transactions are accepted in order, each slice up to the first that still does not fit. -/
def State.acceptWaiting (s : State) : State :=
  ((s.net.txns.filter (fun t => !t.accepted)).foldl
    (fun (acc : State × List Nat) t =>
      if acc.2.contains t.slice || acc.1.overBudget t then (acc.1, t.slice :: acc.2)
      else (acc.1.acceptTxn t, acc.2)) (s, [])).1

/-! ### Placement -/

/-- A write of the QP that must be placed first, or an earlier read still needing a line that this would overwrite
(R32, R53). Capsule transactions carry no such order (R34). -/
def State.mustWait (s : State) (t : Txn) : Bool :=
  t.cap.isNone && s.net.txns.any (fun x =>
    x.cap.isNone && x.accepted && x.qpn = t.qpn && decide (x.ord < t.ord) && !x.placed && !x.dup &&
      (if t.op.writes then
        x.op.writes || match x.op with
          | .read => overlaps (x.addr / 64) ((x.addr + x.len + 63) / 64 - x.addr / 64) (t.addr / 64) ((t.addr + t.len + 63) / 64 - t.addr / 64)
          | _ => false
      else x.op.writes && overlaps x.addr x.len t.addr t.len))

/-- Granules of a range. -/
def granulesOf (addr len : Nat) : List Nat :=
  if len = 0 then [] else span (addr / granuleBytes) ((addr + len + granuleBytes - 1) / granuleBytes - addr / granuleBytes)

/-- The tenant of a region touches the granules of a range (R206). -/
def State.touchRange (s : State) (r : Region) (addr len : Nat) : State :=
  if r.volatile then s else (granulesOf addr len).foldl (fun s g => s.access (s.tenantOfPd r.pd) g) s

/-- The DATA frames of a write leave (R17, R367): none for an unmirrored volatile region, except the ORDER frame of
lease mode (R396). The answer lists the MSEQs that the response waits for; a D-flush write waits for none outside
lease mode (Table 01-1). -/
def State.mirrorTxn (s : State) (t : Txn) (r : Region) (kind aux : Nat) (bs : List Byte) : State × List Nat :=
  let lease := (s.home t.home).lease
  if r.volatile && !r.mirror then
    if lease then
      let m := s.sendRec t.home 10 t.qpn 0 0 [] (.order t.id)
      (m.1, m.2.toList)
    else (s, [])
  else
    let m := if kind = 0 then s.mirrorWrite t.home t.qpn t.psn t.addr t.key bs t.region t.ord aux
      else if s.mirrors t.home then
        let x := s.sendData t.home kind t.qpn t.psn t.addr aux t.key bs t.region t.ord
        (x.1, if s.pairState t.home = 3 then [x.2] else [])
      else (s, [])
    let s := if s.paired t.home then m.1.updRegion t.region (fun r => { r with unconf := true }) else m.1
    (s, if r.dflush && !r.volatile && !lease then [] else m.2)

/-- A D-flush region is armed before the first unconfirmed write to it is acknowledged (R38): the arm record leaves,
and the response waits for its CONFIRM. -/
def State.arm (s : State) (t : Txn) (r : Region) : State × Option Nat :=
  if r.dflush && !r.volatile && s.paired t.home && !r.armed then
    match r.arming with
    | some m => (s, some m)
    | none =>
      let m := s.sendRec t.home 4 t.qpn t.region 0 [] (.arm t.region)
      (m.1.updRegion t.region (fun r => { r with arming := m.2 }), m.2)
  else (s, none)

/-- Later DEEP FLUSHes wait for the units that an earlier write has just made dirty. -/
def State.noteDeep (s : State) (t : Txn) (r : Region) : State :=
  if r.volatile then s
  else
    let us := (span (t.addr / unitBytes) ((t.addr + t.len + unitBytes - 1) / unitBytes - t.addr / unitBytes)).map (fun u => (u, s.tier.stamp))
    { s with net := { s.net with txns := s.net.txns.map (fun x =>
        if x.accepted && decide (t.ord < x.ord) && s.deepFor x t.region then { x with deep := x.deep ++ us } else x) } }

/-- A write, ZERO, TRIM or atomic reaches the tiers and the mirror, in that order of frames: arm record, then data. -/
def State.finishWrite (s : State) (t : Txn) (r : Region) (kind aux : Nat) (bs : List Byte) (place : State → State) : State :=
  let a := (place s).arm t r
  let m := a.1.mirrorTxn t r kind aux bs
  let s := m.1.updTxn t.id (fun t => { t with placed := true, mseqs := m.2, armWait := a.2 })
  (s.noteDeep t r).dirtyPause

/-- Little-endian number of 8 bytes of the pool (R29). -/
def State.word (s : State) (a : Nat) : Nat := leNat (s.poolRead a 8)

/-- An atomic's answer is kept for its duplicates: the last 16 of the QP (R108). -/
def State.saveAtomic (s : State) (n : Nat) (psn : Psn) (v : BitVec 64) : State :=
  s.updQp n (fun q => { q with atomics := ((psn, v) :: q.atomics.filter (fun e => e.1 != psn)).take 16 })

/-- The poison pattern as an original value at a region offset (R225). -/
def poisonWord (off : Nat) : Nat := leNat ((List.range 8).map (fun i => poisonByte (off + i)))

/-- An atomic is executed on its 8 bytes, or meets a failed range and leaves them unchanged (R29, Table 06-4). -/
def State.placeAtomic (s : State) (t : Txn) (r : Region) (f : BitVec 64 → BitVec 64) (failed : Bool) : State :=
  if failed || s.wordFails r (t.addr / 8) then
    let v := poisonWord (t.addr - t.region)
    (s.saveAtomic t.qpn t.psn (BitVec.ofNat 64 v)).updTxn t.id
      (fun t => { t with placed := true, got := leBytes 8 v, failed := some (0, 7), ruined := r.failqp })
  else
    let old := BitVec.ofNat 64 (s.word t.addr)
    let new := leBytes 8 (f old).toNat
    let s := s.finishWrite t r 3 old.toNat new (fun s => s.placeBytes r t.addr new)
    (s.saveAtomic t.qpn t.psn old).updTxn t.id (fun t => { t with got := leBytes 8 old.toNat })

/-- Compare-and-swap and fetch-and-add (R29). -/
def casValue (swap cmp old : BitVec 64) : BitVec 64 := if old = cmp then swap else old
def faaValue (add old : BitVec 64) : BitVec 64 := old + add

/-- A read takes its bytes; bytes of a failed range carry the poison pattern (R224 to R226, R229). -/
def State.placeRead (s : State) (t : Txn) (r : Region) : State :=
  let x := s.readPool t.region r t.addr t.len
  let s := if r.volatile && (span (t.addr / 8) ((t.addr + t.len + 7) / 8 - t.addr / 8)).any (fun w => !(sget (fun _ => false) s.tier.written w))
    then s.count Reg.TIER_NEVER_WRITTEN else s
  s.updTxn t.id (fun t => { t with placed := true, got := x.1, failed := x.2, ruined := r.failqp && x.2.isSome })

/-- Stage 6 does what the operation does, once every line that it needs is there. -/
def State.placeNow (s : State) (t : Txn) (r : Region) : State :=
  match t.op with
  | .write data =>
    let s := s.finishWrite t r 0 (((s.qp t.qpn).map (·.msn)).getD 0) data (fun s => s.placeBytes r t.addr data)
    if t.failed.isSome && r.failqp then s.updTxn t.id (fun t => { t with ruined := true }) else s
  | .zero =>
    let s := s.finishWrite t r 1 t.len [] (fun s => s.placeBytes r t.addr (List.replicate t.len 0))
    if t.failed.isSome && r.failqp then s.updTxn t.id (fun t => { t with ruined := true }) else s
  | .trim => s.finishWrite t r 2 t.len [] (fun s => s.trimRange r t.addr t.len)
  | .atomicCas swap cmp => s.placeAtomic t r (casValue swap cmp) false
  | .atomicAdd add => s.placeAtomic t r (faaValue add) false
  | .read | .copySrc _ _ => s.placeRead t r
  | _ => s.updTxn t.id (fun t => { t with placed := true })

/-- Whether the operation reads bytes of the range. -/
def TxnOp.reads : TxnOp → Bool
  | .read | .copySrc _ _ | .atomicCas _ _ | .atomicAdd _ => true
  | _ => false

/-- Whether the operation uses lines of the tiers. -/
def TxnOp.usesLines : TxnOp → Bool
  | .write _ | .zero | .atomicCas _ _ | .atomicAdd _ | .read | .copySrc _ _ => true
  | _ => false

/-- Stage 6 tries an accepted transaction: it waits for order, then for frames, fills and heals, then is placed. -/
def State.tryTxn (s : State) (id : Nat) : State :=
  match s.txn id with
  | some t =>
    if t.placed || t.abandoned || !t.accepted || t.waitFill || t.waitFloat || t.waitTransient || t.waitBuffer || s.mustWait t then s
    else match s.region t.region with
      | some r =>
        if t.len = 0 || !t.op.usesLines then s.placeNow t r
        else
          let first := !t.tried
          let s := s.updTxn id (fun t => { t with tried := true })
          let s := if first then s.touchRange r t.addr t.len else s
          let s := if first then
              (span (t.addr / 64) ((t.addr + t.len + 63) / 64 - t.addr / 64)).foldl
                (fun s l => match s.line l with
                  | some x => if x.filling then s else s.hitLine l
                  | none => s) s
            else s
          let joins := s.reg Reg.LC_FILL_JOIN
          let x := s.readyRange t.op.reads (s.tenant (s.tenantOfPd r.pd)).quota t.addr t.len
          let s := if first then x.1 else x.1.setReg Reg.LC_FILL_JOIN joins
          if x.2.any then
            s.updTxn id (fun t => { t with waitFill := x.2.fill, waitFloat := x.2.float, waitTransient := x.2.transient, waitBuffer := x.2.buffer })
          else
            let hs := if t.op.reads then s.healable r t.addr t.len else []
            if hs.isEmpty then s.placeNow t r
            else ((hs.map (fun w => w * 8 / unitBytes)).eraseDups.foldl (fun s u => s.askHeal t.home u) s).updTxn id
              (fun t => { t with waitFill := true })
      | none => s.updTxn id (fun t => { t with placed := true })
  | none => s

/-- Every accepted transaction that can be placed is, in acceptance order. -/
def State.placeAll (s : State) : State := ((s.net.txns.filter (fun t => t.accepted && !t.placed)).map (·.id)).foldl State.tryTxn s

/-! ### Completion of host requests -/

/-- A FLUSH has nothing left to wait for (Table 01-2, R25, R26). -/
def State.flushReady (s : State) (t : Txn) (persist : Bool) : Bool :=
  t.deep.isEmpty &&
  s.net.txns.all (fun x => !(x.accepted && decide (x.ord < t.ord) && x.op.writes && !x.placed && s.inScope t x.region)) &&
  s.net.unconf.all (fun u => !(u.ord != 0 && decide (u.ord < t.ord) && s.inScope t u.region && (persist || match s.region u.region with
    | some r => r.volatile
    | none => false)))

/-- The transaction's response may leave (Table 01-1, R17). -/
def State.txnReady (s : State) (t : Txn) : Bool :=
  t.accepted && t.placed && !t.abandoned && t.mseqs.isEmpty && t.armWait.isNone && match t.op with
    | .flush persist => s.flushReady t persist
    | .capFlush _ => s.flushReady t true
    | _ => true

/-- A response or NAK goes with its cPSN: the highest PSN answered (R102). -/
def State.advance (s : State) (t : Txn) : State :=
  if t.dup then s
  else (s.updQp t.qpn (fun q => { q with cpsn := t.psnLast, msn := if t.ends then q.msn + 1 else q.msn })).touchQp t.qpn

/-- A POISON notification of an RDMA request names the failed span on queue 0 (R226). -/
def State.notifyPoison (s : State) (t : Txn) (ring queue : Nat) : State :=
  match t.failed with
  | some (a, b) => s.notify t.qpn ring 1 queue (t.addr - t.region + a) (b - a + 1) t.key.toNat
  | none => s

/-- The QP answers an error and enters Error (Table 03-7, R117). -/
def State.fatalNak (s : State) (n : Nat) (psn : Psn) (syndrome : Nat) : State :=
  (s.sendNak n psn syndrome).enterError n syndrome

/-- A positive response that may be coalesced (R120). -/
def State.ackDue (s : State) (t : Txn) : State :=
  match s.qp t.qpn with
  | some q =>
    if t.ackReq then s.sendAck t.qpn q.cpsn
    else if !t.ends then s
    else if 7 ≤ q.uncovered then s.sendAck t.qpn q.cpsn
    else s.updQp t.qpn (fun q => { q with uncovered := q.uncovered + 1 })
  | none => s

/-- The response of a host request leaves and its slot is released (R55, R114, R120, Table 06-4, R27). -/
def State.respond (s : State) (t : Txn) : State :=
  let s := s.dropTxn t.id
  match s.qp t.qpn with
  | some q =>
    if q.st == .error then s
    else match t.op with
      | .nak syn =>
        if syn = 0x60 then s.sendNak t.qpn q.epsn syn
        else if syn = 0x61 || syn = 0x62 || syn = 0x63 then s.fatalNak t.qpn t.psn syn
        else s.sendNak t.qpn t.psn syn
      | .read =>
        if t.ruined then s.fatalNak t.qpn t.psn 0x63
        else
          let s := s.advance t
          let s := (s.updQp t.qpn (fun q => { q with uncovered := 0 })).emit (.readResponse (s.sendPort q) t.qpn t.psn t.got)
          let s := (s.addResp q.home).sent t.qpn t.got.length
          if t.failed.isSome then (s.notifyPoison t 0 0).count Reg.TIER_POISON_RET else s
      | .atomicCas _ _ | .atomicAdd _ | .replay _ =>
        if t.ruined then s.fatalNak t.qpn t.psn 0x63
        else
          let s := s.advance t
          let s := (s.updQp t.qpn (fun q => { q with uncovered := 0 })).emit (.atomicAck (s.sendPort q) t.qpn t.psn (leNat t.got))
          let s := s.addResp q.home
          if t.failed.isSome then (s.notifyPoison t 0 0).count Reg.TIER_POISON_RET else s
      | .flush persist =>
        let lost := persist && match s.region t.region with
          | some r => r.loss.contains t.qpn
          | none => false
        if lost then
          (s.updRegion t.region (fun r => { r with loss := r.loss.filter (· != t.qpn) })).fatalNak t.qpn t.psn 0x63
        else (s.advance t).ackDue t
      | _ =>
        if t.ruined then (s.notifyPoison t 0 0).fatalNak t.qpn t.psn 0x63
        else
          let s := if t.failed.isSome then s.notifyPoison t 0 0 else s
          (s.advance t).ackDue t
  | none => s

/-- Duplicate READs that have their data answer at once; the others answer in PSN order (R19, R105). -/
def State.pumpQp (s : State) (n : Nat) : Nat → State
  | 0 => s
  | k + 1 =>
    let mine := s.net.txns.filter (fun t => t.qpn = n && t.cap.isNone)
    match mine.find? (fun t => t.dup && s.txnReady t) with
    | some t => (s.respond t).pumpQp n k
    | none =>
      match mine.find? (fun t => !t.dup) with
      | some t => if s.txnReady t then (s.respond t).pumpQp n k else s
      | none => s

/-- Every QP with transactions answers what it can, in ascending QP number; a chip that does not act for the home set
sends nothing (R361). -/
def State.pumpAll (s : State) : State :=
  ((s.net.txns.filter (fun t => t.cap.isNone && s.runs t.home)).map (fun t => (t.qpn, t.home))).eraseDups.foldl
    (fun (s : State) (e : Nat × Nat) => s.quiet e.2 (fun s => s.pumpQp e.1 (s.net.txns.length))) s

/-! ### Completion of capsule segments -/

/-- Bytes of a segment (R168). -/
abbrev segBytes : Nat := 1048576

/-- Segments of a length. -/
def segments (len : Nat) : Nat := (len + segBytes - 1) / segBytes

/-- Length of a segment. -/
def segLen (len seg : Nat) : Nat := min segBytes (len - seg * segBytes)

/-- Volume of capsule WRITE and COPY segments begun and not yet placed (R457). -/
def State.capVolume (s : State) : Nat :=
  let reads := (s.net.qps.map (fun e => (e.2.reqs.map (fun r => match r.kind with
    | .dataRead _ _ => r.rlen
    | _ => 0)).foldl (· + ·) 0)).foldl (· + ·) 0
  let txns := (s.net.txns.map (fun t => if t.cap.isSome && !t.placed then match t.op with
      | .write _ | .copySrc _ _ => t.len
      | _ => 0 else 0)).foldl (· + ·) 0
  reads + txns

/-- Whether a further segment may begin its data fetch or source read (R457). -/
def State.mayBegin (s : State) (len : Nat) : Bool :=
  !(s.on Fld.GOV_STATUS_DIRTY_PAUSE) && decide (s.capVolume + len ≤ 268435456)

/-- The capsule's failure so far, noted in its slot: no further segment begins. -/
def State.failSeg (s : State) (c : CapRef) (status key off det : Nat) : State :=
  s.updSlot c (fun x => if x.status != 0 then x
    else { x with status := status, errKey := key, errOff := off, errDet := det, segs := x.begun })

/-- A capsule whose segments are all finished completes (R20). -/
def State.endCap (s : State) (c : CapRef) : State :=
  match s.slot c with
  | some x => if x.st == .running && decide (x.segs ≤ x.done) then s.complete c x.status x.result (x.poison && x.status = 0) else s
  | none => s

/-- A segment is checked at stage 3 and becomes a transaction; a failed check ends the capsule (R145, R168). -/
def State.segTxn (s : State) (c : CapRef) (seg : Nat) (key : BitVec 32) (off len right : Nat) (op : TxnOp) : State :=
  match s.qp c.qpn with
  | some q =>
    match s.checkKey c.qpn q.pd q.home key off len right .whole with
    | .ok e =>
      (s.addTxn { home := q.home, qpn := c.qpn, slice := s.sliceOf c.qpn, cap := some c, seg := seg, op := op,
                  region := e.region, addr := e.region + off, len := len, key := key }).1
    | .error cause =>
      (((s.violation c.qpn key cause true).failSeg c stAccessDenied key.toNat off cause).updSlot c (fun x => { x with done := x.done + 1 })).endCap c
  | none => s

/-- What a POISON notification and the policy do for a capsule segment that met a failed range (R174). -/
def State.segPoison (s : State) (c : CapRef) (t : Txn) (isRead : Bool) : State :=
  match t.failed with
  | some (a, b) =>
    if t.ruined then s.failSeg c stMediaError t.key.toNat (t.addr - t.region + a) (b - a + 1)
    else
      let s := s.notifyPoison t c.queue c.queue
      if isRead then (s.updSlot c (fun x => { x with poison := true })).count Reg.TIER_POISON_RET else s
  | none => s

/-- The destination segment of a COPY whose source has been read (R168). -/
def State.copyWrite (s : State) (c : CapRef) (seg dst : Nat) (dkey : BitVec 32) (data : List Byte) : State :=
  s.segTxn c seg dkey dst data.length rWrite (.write data)

/-- The source of an overlapping COPY is written once all of it is read; after a failure it is not (R169, R168). -/
def State.copyRest (s : State) (c : CapRef) (dkey : BitVec 32) : State :=
  match s.slot c with
  | some y =>
    if y.status != 0 then (s.updSlot c (fun x => { x with done := x.done + x.data.length, data := [] })).endCap c
    else if y.data.length = y.segs then
      y.data.foldl (fun s e => s.copyWrite c e.1 (capField y.bytes 40 8 + e.1 * segBytes) dkey e.2)
        (s.updSlot c (fun x => { x with data := [] }))
    else s
  | none => s

/-- A capsule's transaction is done: its segment's data goes to the host, or its segment counts as finished (R168 to
R174, R27). -/
def State.finishSeg (s : State) (t : Txn) (c : CapRef) : State :=
  let s := s.dropTxn t.id
  match s.slot c with
  | some x =>
    let fin (s : State) : State := (s.updSlot c (fun x => { x with done := x.done + 1 })).endCap c
    match t.op with
    | .read =>
      let s := s.segPoison c t true
      if t.ruined then fin s
      else
        let host := capField x.bytes 16 8 + t.seg * segBytes
        fin (s.newReq c.qpn (.dataWrite c) host (BitVec.ofNat 32 (capField x.bytes 24 4)) 0 t.got none none)
    | .copySrc dst dkey =>
      let s := s.segPoison c t true
      if t.ruined then (fin s).copyRest c dkey
      else if overlaps (capField x.bytes 8 8) (capField x.bytes 28 4) (capField x.bytes 40 8) (capField x.bytes 28 4) then
        (s.updSlot c (fun x => { x with data := x.data ++ [(t.seg, t.got)] })).copyRest c dkey
      else s.copyWrite c t.seg dst dkey t.got
    | .capFlush _ =>
      let marked := s.prot.regions.filter (fun e => s.inScope t e.1 && e.2.loss.contains c.qpn)
      if marked.isEmpty then s.okCap c
      else
        let s := marked.foldl (fun s e => s.updRegion e.1 (fun r => { r with loss := r.loss.filter (· != c.qpn) })) s
        s.failCap c stDataLost
    | _ => fin (s.segPoison c t false)
  | none => s

/-- Capsule transactions that are done finish their segments. -/
def State.finishCaps (s : State) : State :=
  s.net.txns.foldl (fun s t0 =>
    match s.txn t0.id with
    | some t =>
      match t.cap with
      | some c => if s.txnReady t && s.runs t.home then s.quiet t.home (fun s => s.finishSeg t c) else s
      | none => s
    | none => s) s

/-- Segments of running WRITE and COPY capsules that may begin do (R168, R179, R457). -/
def State.beginSegs (s : State) (c : CapRef) : Nat → State
  | 0 => s
  | k + 1 =>
    match s.slot c, s.qp c.qpn with
    | some x, some q =>
      let opc := capField x.bytes 0 1
      let len := capField x.bytes 28 4
      let n := segLen len x.begun
      let off := capField x.bytes 8 8 + x.begun * segBytes
      if x.st == .running && decide (x.begun < x.segs) && s.mayBegin n then
        let s1 := s.updSlot c (fun x => { x with begun := x.begun + 1 })
        if opc = 2 then
          if q.readsInFlight < 16 then
            (s1.newReq c.qpn (.dataRead c x.begun) (capField x.bytes 16 8 + x.begun * segBytes)
              (BitVec.ofNat 32 (capField x.bytes 24 4)) n [] none none).beginSegs c k
          else s
        else if opc = 6 then
          let dst := capField x.bytes 40 8 + x.begun * segBytes
          (s1.segTxn c x.begun (BitVec.ofNat 32 (capField x.bytes 4 4)) off n rRead
            (.copySrc dst (BitVec.ofNat 32 (capField x.bytes 32 4)))).beginSegs c k
        else s
      else s
    | _, _ => s

/-- Running capsules whose segments have not all begun. -/
def State.moreSegs (s : State) : List CapRef :=
  (s.cqi.queues.map (fun e => (e.2.slots.filter (fun x => x.st == .running && decide (x.begun < x.segs))).map
    (fun x => (⟨e.1 / 64, e.1 % 64, x.idx⟩ : CapRef)))).flatten

/-- Frames of the transient pool that are clean and referenced by no transaction are released (R210). -/
def State.dropTransient (s : State) : State :=
  ((s.tier.frames.filter (fun (e : Nat × Frame) => e.2.transient && e.2.dirty == 0 && !e.2.filling && e.2.copy.isNone &&
      s.net.txns.all (fun t => !(overlaps t.addr t.len (e.1 * unitBytes) unitBytes)))).map (fun (e : Nat × Frame) => e.1)).foldl State.releaseFrame s

/-- One round of the work that a freed resource lets go on: what can be accepted, placed, answered and finished is. -/
def State.settle1 (s : State) : State :=
  let s := (s.acceptWaiting.placeAll.pumpAll).finishCaps
  s.moreSegs.foldl (fun s c => s.beginSegs c 4096) s

/-- How far the work has come: transactions made, accepted, held and placed, and capsule segments begun. -/
def State.workMark (s : State) : List Nat :=
  [s.net.txnId, s.net.ordNo, s.net.txns.length, (s.net.txns.filter (·.placed)).length,
   (s.cqi.queues.map (fun e => (e.2.slots.map (·.begun)).sum)).sum]

/-- Rounds while one brings the work further, so that a transaction that a completion made goes on as well. -/
def State.settleRounds (s : State) : Nat → State
  | 0 => s
  | k + 1 => if s.settle1.workMark = s.workMark then s.settle1 else s.settle1.settleRounds k

def State.settle (s : State) : State := (s.settleRounds 65536).dropTransient.dirtyPause

/-! ### Waits at stage 6 that end -/

/-- The transactions that waited for a cause are tried again. -/
def State.retry (s : State) (f : Txn → Txn) : State :=
  ({ s with net := { s.net with txns := s.net.txns.map f } } : State).settle

/-- Waits for fills that touch a unit end. -/
def State.retryFill (s : State) (u : Nat) : State :=
  s.retry (fun t => if overlaps t.addr t.len (u * unitBytes) unitBytes then { t with waitFill := false, waitBuffer := false } else t)

end Sys2Proof.Machine
end

