-- ==== Sys2Proof/Machine/Ingress.lean ====
section
/-! DEFINITION. Sys2Proof/Machine/Ingress.lean: stages 1 to 5 for a packet from a host: the checks of Table 03-5, PSN
classes, duplicates, keys, the send sink, doorbells, and packets that wait (R43, R44, R51, R56 to R59, R90 to R113,
R145 to R151, R160 to R162). -/

namespace Sys2Proof.Machine

/-! ### Waiting packets -/

/-- A field of a slice-class register as the slice of a QP sees it (R566). -/
def State.sliceGet (s : State) (k : Nat) (f : Field) : Nat := fieldOf f (s.sliceReg k f.addr)

/-- Exceptions of a slice's queue that wait for a transport core (R57). -/
def HoldWhy.isExc : HoldWhy → Bool
  | .spill | .key | .transition | .nakBuild => true
  | _ => false

/-- Waits that stall their stage, so that later packets of the slice stand behind (R56, R57). -/
def HoldWhy.stalls : HoldWhy → Bool
  | .excFull | .slot => true
  | _ => false

def State.excUsed (s : State) (k : Nat) : Nat := (s.net.held.filter (fun h => h.slice = k && h.why.isExc)).length

/-- Packets in a slice's context-miss queue (R111). -/
def State.missUsed (s : State) (k : Nat) : Nat := (s.net.held.filter (fun h => h.slice = k && h.why == .context)).length

/-- The context-miss queue asks for pause at PAUSE_ON, on the class of each packet in it, and stops at PAUSE_OFF (R113,
Table 03-2). -/
def State.missPause (s : State) (k : Nat) : State :=
  let n := s.missUsed k
  let s := if n = 0 then s else s.countMax Reg.TRN_MISSQ_PEAK n
  if decide (s.sliceGet k Fld.TRN_MISSQ_PAUSE_ON ≤ n) && n != 0 then
    let classes := (s.net.held.filter (fun h => h.slice = k && h.why == .context)).map (fun h => s.classOf h.pkt.port.val h.pkt.pcp)
    let first := !(s.net.missPause.contains k)
    let s := (List.range 8).foldl (fun s p => classes.eraseDups.foldl (fun s c =>
      if s.lossless p c then s.setPause p c (fun x => { x with xoffMiss := true }) else s) s) s
    if first then
      let s : State := { s with net := { s.net with missPause := k :: s.net.missPause } }
      s.record .trnMissqPause (unitChan k)
    else s
  else if s.net.missPause.contains k && decide (n ≤ s.sliceGet k Fld.TRN_MISSQ_PAUSE_OFF) then
    let s : State := { s with net := { s.net with missPause := s.net.missPause.filter (· != k) } }
    if s.net.missPause.isEmpty then s.setPauseAll (fun x => { x with xoffMiss := false }) else s
  else s

/-- A packet waits; an exception whose queue is full stalls its stage instead (R57). -/
def State.hold (s : State) (p : Pkt) (req : Req) (why : HoldWhy) : State :=
  let n := p.qpn.toNat
  let k := s.sliceOf n
  let why : HoldWhy := if why.isExc && decide (1024 ≤ s.excUsed k) then .excFull else why
  let s : State := { s with net := { s.net with held := s.net.held ++ [{ qpn := n, slice := k, pkt := p, req := req, why := why }] } }
  let s := s.bufferPause p.port.val (s.classOf p.port.val p.pcp)
  if why == .context then s.missPause k else s

/-- A packet must stand behind an earlier one of its QP, or behind a stalled stage of its slice (R56, R58). -/
def State.behind (s : State) (n : Nat) : Bool :=
  s.net.held.any (fun h => h.qpn = n || (h.slice = s.sliceOf n && h.why.stalls))

/-! ### Small parts of stage 3 -/

/-- A NAK takes its turn behind the QP's earlier responses (R114); one that ends in Error closes the QP to packets. -/
def State.queueNak (s : State) (n : Nat) (psn : Psn) (syn : Nat) : State :=
  match s.qp n with
  | some q =>
    let s := if syn = 0x61 || syn = 0x62 || syn = 0x63 then s.updQp n (fun q => { q with closing := true }) else s
    (s.addTxn { home := q.home, qpn := n, slice := s.sliceOf n, op := .nak syn, psn := psn, psnLast := psn, placed := true,
                ackReq := false, ends := false, slotless := true }).1
  | none => s

/-- Kind of a request in the replay filter (R106). -/
def reqKind : Req → MsgKind
  | .read _ => .read
  | .cas .. | .faa .. => .atomic
  | .flush .. => .flush
  | _ => .write

/-- The filter with a message's PSNs; consecutive messages of one kind merge, and 16 ranges are kept (R106). -/
def addRange (rs : List PsnRange) (first last : Psn) (kind : MsgKind) (msn : Nat) : List PsnRange :=
  match rs with
  | r :: rest =>
    if r.kind = kind && r.last + 1 = first then { r with last := last, msn := msn } :: rest
    else ({ first := first, last := last, kind := kind, msn := msn } :: rs).take 16
  | [] => [{ first := first, last := last, kind := kind, msn := msn }]

def rangeHolds (r : PsnRange) (p : Psn) : Bool := decide (psnDist r.first p ≤ psnDist r.first r.last)

/-- Ready-to-send: the requester side is enabled and reads the queue table (R116, R157). -/
def State.toRts (s : State) (n : Nat) : State :=
  match s.qp n with
  | some q =>
    if q.st == .rtr then
      let s := (s.updQp n (fun q => { q with st := .rts })).touchQp n
      if q.qcount = 0 then s else s.newReq n .queueTable q.qtable q.ringKey (64 * q.qcount) [] none none
    else s
  | none => s

/-- The expected request is taken: ePSN advances, the filter notes it, the rewind ends (R104, R106). -/
def State.expect (s : State) (n : Nat) (psn : Psn) (count : Nat) (kind : MsgKind) (ends : Bool) : State :=
  (s.updQp n (fun q =>
    let msn := match q.ranges with
      | r :: _ => r.msn + (if ends then 1 else 0)
      | [] => q.msn + (if ends then 1 else 0)
    { q with epsn := psn + BitVec.ofNat 24 count, aheadNak := false, dupAcked := false, rewound := false, dropped := [],
             ranges := addRange q.ranges psn (psn + BitVec.ofNat 24 (count - 1)) kind msn })).toRts n |>.touchQp n

/-- An aperture key on its own QP (R160). -/
def State.isAperture (s : State) (n : Nat) (k : BitVec 32) : Bool :=
  match s.findKey n k with
  | some e => e.aperture.isSome
  | none => false

/-- Key, protection domain, bounds and rights (Table 03-5, check 13): a key that is not cached or is in transition
raises its exception (R139, R149); a failure is counted and answered (R145). -/
def State.withKey (s : State) (p : Pkt) (req : Req) (q : Qp) (key : BitVec 32) (off len right : Nat) (x : Extent)
    (go : Key → State → State) : State :=
  let n := p.qpn.toNat
  let i := keyIndex key
  if decide (1 ≤ i) && decide (i ≤ 4194304) && !(s.cached i) then (s.count Reg.KEY_CACHE_MISS).hold p req .key
  else if s.prot.transit.contains i then s.hold p req .transition
  else match s.checkKey n q.pd q.home key off len right x with
    | .error c => (s.violation n key c false).queueNak n p.psn 0x62
    | .ok e => if s.slotFree (s.sliceOf n) then go e (s.cacheTouch i) else s.hold p req .slot

/-- A host request becomes a transaction (stage 4). -/
def State.hostTxn (s : State) (p : Pkt) (q : Qp) (op : TxnOp) (region addr len : Nat) (key : BitVec 32) (count : Nat)
    (ackReq ends : Bool) : State :=
  (s.addTxn { home := q.home, qpn := p.qpn.toNat, slice := s.sliceOf p.qpn.toNat, op := op, psn := p.psn,
              psnLast := p.psn + BitVec.ofNat 24 (count - 1), ackReq := ackReq, ends := ends, region := region, addr := addr,
              len := len, key := key }).1

/-- A multi-packet message admitted under the old state of a fence is done or gone (R150, R151). -/
def State.msgDone (s : State) (n : Nat) : State :=
  { s with prot := { s.prot with fences := s.prot.fences.map (fun f => { f with msgs := f.msgs.filter (· != n) }) } }

/-- PadCnt agrees with the payload length (Table 03-5, check 11). -/
def padOk (p : Pkt) (len : Nat) : Bool := decide ((len + p.pad.toNat) % 4 = 0)

/-! ### Send sink (R100, R101) -/

/-- A byte of a region as it now is, wherever it is held. -/
def State.anyByte (s : State) (a : Nat) : Byte :=
  match s.line (a / 64) with
  | some x => if x.filling then memByte 0 s.tier.t1 a else x.data.getD (a % 64) 0
  | none => match s.frame (a / unitBytes) with
    | some f => if f.valid.getLsbD ((a / 64) % 256) then memByte 0 s.tier.t1 a else memByte 0 s.flash.t2 a
    | none => memByte 0 s.flash.t2 a

/-- The consumer count of a sink (R100). -/
def State.consumed (s : State) (k : Sink) : Nat := leNat ((span k.base 8).map s.anyByte)

/-- The sink holds 2^COUNT_LOG2 messages not shown as consumed (R101). -/
def State.sinkFull (s : State) (k : Sink) : Bool := decide (2 ^ k.countLog2 ≤ k.sent - s.consumed k)

/-- Address of the slot of the next message (R100). -/
def Sink.slotAddr (k : Sink) : Nat := k.base + 4096 + ((k.sent + 1) % 2 ^ k.countLog2) * 2 ^ k.slotLog2

/-- The 16-byte header of a slot (R100). -/
def sinkHeader (len : Nat) (imm : Option (BitVec 32)) (writeImm : Bool) (n : Nat) : List Byte :=
  leBytes 4 len ++ leBytes 4 ((imm.map (·.toNat)).getD 0) ++
    [BitVec.ofNat 8 ((if imm.isSome then 1 else 0) + (if writeImm then 2 else 0))] ++ leBytes 7 n

/-- Code of the RNR NAK (R101). -/
def State.rnrCode (s : State) (k : Nat) : Nat := 0x20 + s.sliceGet k Fld.TRN_RNR_RNR_TIMER

/-- The header of the next message is written after its data, and the message is numbered (R100). -/
def State.sinkClose (s : State) (p : Pkt) (q : Qp) (k : Sink) (hdr len : Nat) (imm : Option (BitVec 32)) (writeImm : Bool) : State :=
  let h := sinkHeader len imm writeImm (k.sent + 1)
  let s := s.hostTxn p q (.write h) k.region hdr 16 k.key 1 p.ackReq true
  s.updQp p.qpn.toNat (fun q => { q with openMsg := none, sink := some { k with sent := k.sent + 1 } })

/-- The check of the sink at the packet that shows that the message takes a slot. -/
def State.sinkCheck (s : State) (p : Pkt) (q : Qp) (go : Sink → State → State) : State :=
  let n := p.qpn.toNat
  match q.sink with
  | none => s.queueNak n p.psn 0x61
  | some k => if s.sinkFull k then s.queueNak n p.psn (s.rnrCode (s.sliceOf n)) else go k s

/-! ### Doorbells (R160 to R163, R183) -/

/-- Whether a doorbell value is valid for its queue (R161). -/
def doorbellValid (q : Queue) (queue slot v : Nat) : Bool :=
  let idx := v % 65536
  if slot = 0 then
    decide (idx < q.sqSize) && decide ((v / 65536) % 2 ^ 46 = 0) && (decide (v / 2 ^ 63 = 0) || queue = 0) &&
      decide ((q.cursor + q.sqSize - q.sqHead) % q.sqSize ≤ (idx + q.sqSize - q.sqHead) % q.sqSize)
  else if slot = 8 then
    decide (v < q.cqSize) && decide ((v + q.cqSize - q.cqHead) % q.cqSize ≤ unconsumed q.cqCount q.cqHead q.cqSize)
  else
    decide (v < q.nqSize) && decide ((v + q.nqSize - q.nqHead) % q.nqSize ≤ unconsumed q.nqCount q.nqHead q.nqSize)

/-- A frozen queue becomes Active: its failed slots are released, or fetched again (R183). -/
def Queue.resume (q : Queue) (replay : Bool) : Queue :=
  let failed := (q.slots.filter (fun x => x.st == .failed)).map (·.idx)
  let order (i : Nat) : Nat := (i + q.sqSize - q.sqHead) % q.sqSize
  let q1 : Queue := { q with st := .active, slots := q.slots.filter (fun x => x.st != .failed || replay),
                             replay := if replay then sortBy (fun a b => decide (order a ≤ order b)) failed else [] }
  { q1 with sqHead := q1.oldest }

/-- A valid doorbell acts (Table 05-4, R183). -/
def State.applyDoorbell (s : State) (n queue slot v : Nat) : State :=
  match s.queue n queue with
  | some q =>
    if !q.live then s
    else if slot = 0 then
      let s := (s.updQueue n queue (fun q => { q with sqTail := v % 65536 })).touchQueue n queue
      if v / 2 ^ 63 % 2 = 1 && q.st == .frozen then s.updQueue n queue (fun q => q.resume (v / 2 ^ 62 % 2 = 1)) else s
    else if slot = 8 then s.updQueue n queue (fun q => { q with cqHead := v % 65536 })
    else if slot = 16 then (s.updQueue n queue (fun q => { q with nqHead := v % 65536 })).reportLost n queue
    else s
  | none => s

/-- A doorbell write: recorded at the standby before it acts and is acknowledged (R162); an invalid value is
acknowledged and ignored (R161). -/
def State.doorbell (s : State) (p : Pkt) (q : Qp) (off v : Nat) : State :=
  let n := p.qpn.toNat
  let queue := off / 32
  let slot := off % 32
  let s := s.expect n p.psn 1 .write true
  let ack (s : State) (wait : List Nat) : State :=
    (s.addTxn { home := q.home, qpn := n, slice := s.sliceOf n, op := .nothing, psn := p.psn, psnLast := p.psn,
                ackReq := p.ackReq, placed := true, mseqs := wait, slotless := true }).1
  match s.queue n queue with
  | some x =>
    if !x.live || slot = 24 then ack s []
    else if doorbellValid x queue slot v then
      let r := s.sendRec q.home 5 n (queue + slot * 256) v [] (.doorbell p queue slot (BitVec.ofNat 64 v))
      match r.2 with
      | some m => ack r.1 [m]
      | none => ack (r.1.applyDoorbell n queue slot v) []
    else
      let s := (s.count Reg.CQI_DB_INVALID).record .cqiDoorbellInvalid 0 (leBytes 4 n ++ [BitVec.ofNat 8 queue, BitVec.ofNat 8 slot]) 0 (perSecond 0)
      ack (s.notify n queue 0x000C queue slot v 0) []
  | none => ack s []

/-! ### Expected requests -/

/-- A request whose header is not as it must be: a transport core builds the NAK (Table 02-2, Table 03-5). -/
def State.badHeader (s : State) (p : Pkt) (req : Req) : State := s.hold p req .nakBuild

/-- A later packet of a message is checked against the new state once a fence stopped waiting for it (R151). -/
def State.recheck (s : State) (p : Pkt) (q : Qp) (m : OpenMsg) (len : Nat) (go : State → State) : State :=
  if m.recheck then
    match s.checkKey p.qpn.toNat q.pd q.home m.key m.offset len rWrite .whole with
    | .error c => (s.violation p.qpn.toNat m.key c false).queueNak p.qpn.toNat p.psn 0x62
    | .ok _ => go s
  else go s

/-- RDMA WRITE packets (R17, R93, R94, R100, R160). -/
def State.takeWrite (s : State) (p : Pkt) (q : Qp) (pos : Pos) (reth : Option Reth) (imm : Option (BitVec 32)) (data : List Byte) : State :=
  let req := Req.write pos reth imm data
  let n := p.qpn.toNat
  let len := data.length
  let isLast := pos == .last || pos == .only
  match pos with
  | .first | .only =>
    match reth, q.openMsg with
    | some r, none =>
      let dl := r.dlen.toNat
      let fits := if pos == .first then decide (len = q.pmtu) && decide (q.pmtu < dl) else decide (len = dl) && decide (dl ≤ q.pmtu)
      if !fits || !(padOk p len) || decide (2147483648 < dl) then s.badHeader p req
      else if s.isAperture n r.key then
        if pos == .only && len = 8 && imm.isNone && r.va.toNat % 8 = 0 then
          match s.checkKey n q.pd q.home r.key r.va.toNat 8 rWrite .whole with
          | .error c => (s.violation n r.key c false).queueNak n p.psn 0x62
          | .ok _ => s.doorbell p q r.va.toNat (leNat data)
        else s.badHeader p req
      else
        s.withKey p req q r.key r.va.toNat dl rWrite (if dl = 0 then .keyOnly else .whole) (fun e s =>
          let addr := e.region + r.va.toNat
          let op : TxnOp := if len = 0 then .nothing else .write data
          if pos == .only then
            match imm with
            | none => (s.expect n p.psn 1 .write true).hostTxn p q op e.region addr len r.key 1 p.ackReq true
            | some _ =>
              s.sinkCheck p q (fun k s =>
                let s := s.expect n p.psn 1 .write true
                let s := if len = 0 then s else s.hostTxn p q op e.region addr len r.key 1 false false
                s.sinkClose p q k k.slotAddr dl imm true)
          else
            let s := (s.expect n p.psn 1 .write false).hostTxn p q op e.region addr len r.key 1 p.ackReq false
            s.updQp n (fun q => { q with openMsg := some { isSend := false, region := e.region, next := addr + len, left := dl - len,
                                                            key := r.key, offset := r.va.toNat + len, placed := len } }))
    | _, _ => s.badHeader p req
  | .middle | .last =>
    match q.openMsg with
    | some m =>
      let fits := if isLast then decide (len = m.left) && decide (0 < len) && decide (len ≤ q.pmtu) else decide (len = q.pmtu) && decide (len < m.left)
      if m.isSend || !fits || !(padOk p len) then s.badHeader p req
      else s.recheck p q m len (fun s =>
        if !(s.slotFree (s.sliceOf n)) then s.hold p req .slot
        else
          let data1 (s : State) (ends : Bool) : State :=
            (s.expect n p.psn 1 .write isLast).hostTxn p q (.write data) m.region m.next len m.key 1 (p.ackReq && ends) (isLast && ends)
          if !isLast then
            (data1 s true).updQp n (fun q => { q with openMsg := some { m with next := m.next + len, left := m.left - len, offset := m.offset + len, placed := m.placed + len } })
          else match imm with
            | none => ((data1 s true).updQp n (fun q => { q with openMsg := none })).msgDone n
            | some _ => s.sinkCheck p q (fun k s => ((data1 s false).sinkClose p q k k.slotAddr (m.placed + len) imm true).msgDone n))
    | none => s.badHeader p req

/-- SEND packets (R99 to R101). -/
def State.takeSend (s : State) (p : Pkt) (q : Qp) (pos : Pos) (imm : Option (BitVec 32)) (data : List Byte) : State :=
  let req := Req.send pos imm data
  let n := p.qpn.toNat
  let len := data.length
  let isLast := pos == .last || pos == .only
  match pos with
  | .first | .only =>
    let fits := if pos == .first then decide (len = q.pmtu) else decide (len ≤ q.pmtu)
    if q.openMsg.isSome || !fits || !(padOk p len) then s.badHeader p req
    else s.sinkCheck p q (fun k s =>
      let room := 2 ^ k.slotLog2 - 16
      if room < len then s.queueNak n p.psn 0x61
      else s.withKey p req q k.key (k.slotAddr - k.region) (2 ^ k.slotLog2) rWrite .whole (fun e s =>
        let s := s.expect n p.psn 1 .write isLast
        let s := if len = 0 then s else s.hostTxn p q (.write data) e.region (k.slotAddr + 16) len k.key 1 (p.ackReq && !isLast) false
        if isLast then s.sinkClose p q k k.slotAddr len imm false
        else s.updQp n (fun q => { q with openMsg := some { isSend := true, region := e.region, next := k.slotAddr + 16 + len, left := room - len,
                                                            key := k.key, hdr := k.slotAddr, placed := len, offset := k.slotAddr + 16 + len - k.region } })))
  | .middle | .last =>
    match q.openMsg, q.sink with
    | some m, some k =>
      let fits := if isLast then decide (0 < len) && decide (len ≤ q.pmtu) else decide (len = q.pmtu)
      if !m.isSend || !fits || !(padOk p len) then s.badHeader p req
      else if m.left < len then s.queueNak n p.psn 0x61
      else s.recheck p q m len (fun s =>
        if !(s.slotFree (s.sliceOf n)) then s.hold p req .slot
        else
          let s := (s.expect n p.psn 1 .write isLast).hostTxn p q (.write data) m.region m.next len m.key 1 (p.ackReq && !isLast) false
          if isLast then (s.sinkClose p q k m.hdr (m.placed + len) imm false).msgDone n
          else s.updQp n (fun q => { q with openMsg := some { m with next := m.next + len, left := m.left - len, placed := m.placed + len, offset := m.offset + len } }))
    | _, _ => s.badHeader p req

/-- An expected request of one packet that names a key: READ, atomic, ATOMIC WRITE or FLUSH (R23, R24, R28, R29, R94,
R147, R160). A duplicate READ is checked in the same way and takes no place in the PSN order. -/
def State.takeOther (s : State) (p : Pkt) (q : Qp) (req : Req) (dup : Bool) : State :=
  let n := p.qpn.toNat
  let go (key : BitVec 32) (off len right : Nat) (x : Extent) (ok : Bool) (op : TxnOp) (count : Nat) : State :=
    if (q.openMsg.isSome && !dup) || !ok || s.isAperture n key then s.badHeader p req
    else s.withKey p req q key off len right x (fun e s =>
      if dup then
        ((s.count Reg.TRN_DUP_READ).addTxn
          { home := q.home, qpn := n, slice := s.sliceOf n, op := op, psn := p.psn, psnLast := p.psn + BitVec.ofNat 24 (count - 1),
            dup := true, region := e.region, addr := e.region + off, len := len, key := key }).1
      else
        let l := match op with
          | .flush _ => 0
          | _ => len
        (s.expect n p.psn count (reqKind req) true).hostTxn p q op e.region (e.region + off) l key count true true)
  match req with
  | .read r =>
    let dl := r.dlen.toNat
    go r.key r.va.toNat dl rRead (if dl = 0 then .keyOnly else .whole) (decide (dl ≤ 2147483648)) .read (packets q.pmtu dl)
  | .cas va key swap cmp => go key va.toNat 8 rAtomic .whole (decide (va.toNat % 8 = 0)) (.atomicCas swap cmp) 1
  | .faa va key add => go key va.toNat 8 rAtomic .whole (decide (va.toNat % 8 = 0)) (.atomicAdd add) 1
  | .atomicWrite r data =>
    go r.key r.va.toNat 8 rAtomicWrite .whole (decide (data.length = 8) && decide (r.dlen.toNat = 8) && decide (r.va.toNat % 8 = 0)) (.write data) 1
  | .flush r g pst range =>
    go r.key r.va.toNat r.dlen.toNat rFlush (if range then .whole else .noBounds) ((g || pst) && decide (r.dlen.toNat ≤ 2147483648)) (.flush pst) 1
  | _ => s.badHeader p req

/-- An expected request (R104). -/
def State.takeExpected (s : State) (p : Pkt) (q : Qp) (req : Req) : State :=
  match req with
  | .unsupported _ => s.badHeader p req
  | .write pos reth imm data => s.takeWrite p q pos reth imm data
  | .send pos imm data => s.takeSend p q pos imm data
  | _ => s.takeOther p q req false

/-! ### Duplicates and ahead packets -/

/-- The last packet of its message. -/
def reqIsLast : Req → Bool
  | .write pos _ _ _ | .send pos _ _ => pos == .last || pos == .only
  | _ => true

/-- A duplicate (R105, R107, R108). -/
def State.duplicate (s : State) (p : Pkt) (q : Qp) (req : Req) : State :=
  let n := p.qpn.toNat
  if (match req with
      | .unsupported _ => true
      | _ => false) then s.badHeader p req
  else if q.ranges.any (fun r => rangeHolds r p.psn && r.kind != reqKind req) then s.queueNak n p.psn 0x61
  else if !(psnLe p.psn q.cpsn) then s
  else match req with
    | .read _ => s.takeOther p q req true
    | .cas .. | .faa .. =>
      match q.atomics.find? (fun e => e.1 = p.psn) with
      | some e => ((s.emit (.atomicAck (s.sendPort q) n p.psn e.2.toNat)).count Reg.TRN_DUP_ATOMIC).addResp q.home
      | none => s.queueNak n p.psn 0x61
    | _ =>
      if reqIsLast req || p.ackReq then
        let s := s.updQp n (fun q => { q with dupAcked := !(reqIsLast req) })
        if q.dupAcked then s else (s.sendAck n q.cpsn).count Reg.TRN_DUP_WRITE
      else s

/-- An ahead packet: one PSN-sequence-error NAK, then silence (R104); on a rewound QP it is dropped, or ends the rewind
with a skip (R43, R127). The answer says whether the packet is now expected. -/
def State.ahead (s : State) (p : Pkt) (q : Qp) : State × Bool :=
  let n := p.qpn.toNat
  if q.rewound then
    if q.dropped.any (fun d => psnLe p.psn d) then
      let s := s.updQp n (fun q => { q with epsn := p.psn, skipped := (q.epsn, p.psn) :: q.skipped, rewound := false, dropped := [], openMsg := none })
      let s := (s.touchQp n).record .trnPsnSkip (unitHome q.home) (leBytes 4 n ++ leBytes 4 q.epsn.toNat ++ leBytes 4 p.psn.toNat)
      (s.notify n 0 0x0006 0 q.epsn.toNat p.psn.toNat 0, true)
    else (s.updQp n (fun q => { q with dropped := p.psn :: q.dropped }), false)
  else if q.aheadNak then (s, false)
  else ((s.updQp n (fun q => { q with aheadNak := true })).queueNak n q.epsn 0x60, false)

/-- Stage 3: the class of a request by its PSN (R44, R104). -/
def State.stage3 (s : State) (p : Pkt) (req : Req) : State :=
  let n := p.qpn.toNat
  match s.qp n with
  | some q =>
    if q.closing || !q.receives then s
    else if q.skipped.any (fun r => decide (psnDist r.1 p.psn < psnDist r.1 r.2)) then s.queueNak n p.psn 0x63
    else
      let d := psnDist p.psn q.epsn
      if d = 0 then s.takeExpected p q req
      else if d ≤ 8388608 then s.duplicate p q req
      else
        let x := s.ahead p q
        if x.2 then match x.1.qp n with
          | some q' => x.1.takeExpected p q' req
          | none => x.1
        else x.1
  | none => s

/-- The rewind NAK of a QP leaves (R41, R124 to R126). -/
def State.sendRewind (s : State) (n : Nat) : State :=
  match s.qp n with
  | some q =>
    if q.rewindDue && q.receives then
      ((s.updQp n (fun q => { q with rewindDue := false })).sendNak n q.epsn 0x60).count Reg.TRN_REWIND_TX
    else s.updQp n (fun q => { q with rewindDue := false })
  | none => s

/-- Resident contexts, those being fetched or spilled among them (R110). -/
def State.residents (s : State) : Nat := (s.net.qps.filter (fun e => e.2.where_ != .spilled)).length

/-- Fetches in progress in a slice (R111). -/
def State.fetches (s : State) (k : Nat) : Nat := (s.net.qps.filter (fun e => e.2.where_ == .fetching && s.sliceOf e.1 = k)).length

/-- Stage 2: the context must be on chip (R110 to R113). -/
def State.stage2 (s : State) (p : Pkt) (req : Req) : State :=
  let n := p.qpn.toNat
  match s.qp n with
  | some q =>
    if s.net.steerWait.any (fun e => e.1 = steerIndex n) then s.hold p req .steer
    else if s.behind n then s.hold p req .behind
    else match q.where_ with
      | .resident => (s.updQp n (fun q => { q with lastUse := s.now })).stage3 p req
      | .spilling => s.hold p req .spill
      | .fetching => s.hold p req .context
      | .spilled =>
        let s' := if decide (s.residents < 65536) && decide (s.fetches (s.sliceOf n) < 256)
          then s.updQp n (fun q => { q with where_ := .fetching }) else s
        s'.hold p req .context
  | none => s

/-! ### Stage 1 -/

/-- Bytes that lossy frames hold in a port's buffer (R83). -/
def State.lossyShare (s : State) (p : Nat) : Nat :=
  (((List.range 8).filter (fun c => !(s.lossless p c))).map (s.occupancy p)).foldl (· + ·) 0

/-- The link layer takes a frame or drops it: length, buffer room (R83, R87, R90). A listening port holds what it
receives, which enters the ingress buffer, and is commanded, after the exit from P2 (R463, log entry 52). -/
def State.linkIn (s : State) (p : Pkt) : State × Bool :=
  let q := p.port.val
  if !(s.linkUp q) || s.on (Fld.PRT_MODE_LOOP q) || s.still || (s.port q).listening then (s, false)
  else
    let s := s.count (Reg.PRT_RX_FRAMES q)
    let c := s.classOf q p.pcp
    if !p.fcsOk then (s.count (Reg.PRT_FCS_ERR q), false)
    else if 4224 < p.flen then (s.count (Reg.PRT_NONROCE_DROP q), false)
    else if s.lossless q c then
      if 2097152 < s.occupied q + p.flen then
        ((s.count (Reg.PRT_RX_DROP q)).record .prtLosslessDrop (unitChan q) [BitVec.ofNat 8 c] 0 (perSecond q), false)
      else (s, true)
    else if 262144 ≤ s.lossyShare q then (s.count (Reg.PRT_LOSSY_DROP q), false)
    else (s, true)

/-- A CNP answers a packet marked CE, at most one for each QP in NP_INTERVAL (R122). -/
def State.cnpDue (s : State) (p : Pkt) : State :=
  let n := p.qpn.toNat
  let k := s.sliceOf n
  match s.qp n with
  | some q =>
    let due := match q.lastCnp with
      | some t => decide (t + max 1 (s.sliceGet k Fld.TRN_CNP_NP_INTERVAL) ≤ s.now)
      | none => true
    if p.ce && s.sliceGet k Fld.TRN_CTRL_NP_EN != 0 && due then
      ((s.updQp n (fun q => { q with lastCnp := some s.now })).emit (.cnp (s.sendPort q) n)).count Reg.TRN_CNP_TX
    else s
  | none => s

/-- Checks 2 to 8 of Table 03-5 on a frame that the port took; the answer says whether the packet goes on. -/
def State.headerIn (s : State) (p : Pkt) : State × Bool :=
  let q := p.port.val
  let n := p.qpn.toNat
  let k := s.sliceOf n
  if !p.ipOk then (s.count (Reg.PRT_NONROCE_DROP q), false)
  else match s.svcHome p.ipv6 p.dst with
    | none => (s.count (Reg.PRT_NONROCE_DROP q), false)
    | some h =>
      let s := s.wake 1
      if !(s.acts h) || s.sliceGet k Fld.TRN_CTRL_ENABLE = 0 then (s.count (Reg.PRT_NONROCE_DROP q), false)
      else if p.ipv6 && s.sliceGet k Fld.TRN_CTRL_IPV6_EN = 0 then (s, false)
      else if !p.udpOk || !p.icrcOk then (s.count Reg.TRN_ICRC_DROP, false)
      else if p.tver != 0 then (s, false)
      else match s.qp n with
        | none => (s.count Reg.TRN_UNKNOWN_QP_DROP, false)
        | some x =>
          if x.home != h then (s.count Reg.TRN_UNKNOWN_QP_DROP, false)
          else if !x.receives then (s, false)
          else if p.pkey.toNat % 32768 != (s.sliceReg k Reg.TRN_PKEY).toNat % 32768 then (s, false)
          else
            let s := if x.port = some q then s else (s.updQp n (fun x => { x with port := some q })).touchQp n
            (s.cnpDue p, true)

/-- Stage 5 accepts for the home set of a QP: the chip acts for it and has not stopped (R59, R361, R398). -/
def State.accepting (s : State) (h : Nat) : Bool := s.runs h && !(s.net.stopped.contains h)

/-- A host packet enters at stage 1. While stage 5 has stopped for its home set it is not accepted and is discarded
(R59, Table 01-9). -/
def State.ingress (s : State) (p : Pkt) (req : Req) : State :=
  let a := s.linkIn p
  if !a.2 then a.1
  else
    let b := a.1.headerIn p
    if !b.2 then b.1
    else match b.1.qp p.qpn.toNat with
      | some q =>
        if !(b.1.accepting q.home) then b.1
        else ((if q.rewindDue && q.where_ == .resident then b.1.sendRewind p.qpn.toNat else b.1).stage2 p req).settle
      | none => b.1

/-- Waiting packets are gone through in arrival order: one that the argument names goes on as it says, one that stood
behind is looked at again, the rest stay (R51, R58). -/
def State.refeed (s : State) (f : Held → Option (State → State)) : State :=
  let old := s.net.held
  let s := old.foldl
    (fun (s : State) (h : Held) => match f h with
      | some g => g s
      | none => if h.why == .behind then s.stage2 h.pkt h.req
        else { s with net := { s.net with held := s.net.held ++ [h] } })
    { s with net := { s.net with held := [] } }
  let s := (List.range 8).foldl State.missPause s.bufferPauseAll
  s.settle

/-- The packets that wait for a cause are tried again. -/
def State.refeedWhere (s : State) (f : Held → Bool) : State :=
  s.refeed (fun h => if f h then some (fun s => s.stage2 h.pkt h.req) else none)

end Sys2Proof.Machine
end

