-- ==== Sys2Proof/Machine/Fetch.lean ====
section
/-! DEFINITION. Sys2Proof/Machine/Fetch.lean: the queue binding, the fetch scheduler, and the acknowledgements of the
device's own requests (R103, R157, R158, R178 to R180, R183). -/

namespace Sys2Proof.Machine

/-! ### Binding (R157, R158) -/

/-- A queue table entry (Table 05-2). -/
def parseQueue (bs : List Byte) : Queue :=
  { sqAddr := capField bs 0 8, cqAddr := capField bs 8 8, nqAddr := capField bs 16 8, sqSize := capField bs 24 4,
    cqSize := capField bs 28 4, nqSize := capField bs 32 4, cls := capField bs 36 1, flags := capField bs 37 1 }

/-- The entry of queue i keeps Table 05-2 and R158. -/
def queueValid (admin : Bool) (i : Nat) (bs : List Byte) : Bool :=
  let q := parseQueue bs
  q.sqAddr % 64 = 0 && q.cqAddr % 16 = 0 && q.nqAddr % 32 = 0 &&
  decide (2 ≤ q.sqSize) && decide (q.sqSize ≤ 65536) && decide (q.sqSize ≤ q.cqSize) && decide (q.cqSize ≤ 65536) &&
  (if q.nqAddr = 0 then q.nqSize = 0 else decide (2 ≤ q.nqSize) && decide (q.nqSize ≤ 65536)) &&
  decide (q.flags < 4) && leNat ((bs.drop 38).take 26) = 0 &&
  decide (q.sqAddr + 64 * q.sqSize ≤ 2 ^ 64) && decide (q.cqAddr + 16 * q.cqSize ≤ 2 ^ 64) && decide (q.nqAddr + 32 * q.nqSize ≤ 2 ^ 64) &&
  (if i = 0 then q.nqAddr != 0 else decide (q.cls ≤ 3) && (q.cls != 0 || admin))

/-- The binding comes into force: valid queues become Active, an invalid I/O queue is reported (R157, R158). -/
def State.activate (s : State) (n : Nat) : State :=
  let s := (s.updQp n (fun q => { q with bound := true, bindWait := none }))
  let s : State := { s with cqi := { s.cqi with queues := s.cqi.queues.map (fun (e : Nat × Queue) =>
    if within (n * 64) 64 e.1 && e.2.valid then (e.1, { e.2 with st := .active }) else e) } }
  (s.queuesOf n).foldl (fun s e =>
    if e.2.valid then s.touchQueue n (e.1 % 64) else s.notify n 0 0x000B (e.1 % 64) 0 0 0) s

/-- The queue table has been read (R157, R158): the BIND record leaves, and while paired its CONFIRM is awaited. -/
def State.bind (s : State) (n : Nat) (bs : List Byte) : State :=
  match s.qp n with
  | some q =>
    let entry (i : Nat) : List Byte := (bs.drop (64 * i)).take 64
    if !(queueValid q.admin 0 (entry 0)) || decide (16384 < s.cqi.queues.length + q.qcount) then
      ((s.updQp n (fun q => { q with dreqSent := true })).emit (.dreq (s.sendPort q) n)).record .cqiBindFail (unitHome q.home) (leBytes 4 n)
    else
      let s := (List.range q.qcount).foldl (fun (s : State) i =>
        let x : Queue := { parseQueue (entry i) with valid := queueValid q.admin i (entry i) }
        { s with cqi := { s.cqi with queues := kput s.cqi.queues (queueKey n i) x } }) s
      let image := leBytes 4 q.ringKey.toNat ++ leBytes 4 0 ++ bs
      let s := if 4096 < image.length && s.mirrors q.home then (s.sendData q.home 11 n 0 0 q.qcount 0 (image.take 4096) 0 0).1 else s
      let last := if 4096 < image.length then image.drop 4096 else image
      let r := s.sendRec q.home 11 n 0 q.qcount last (.bind n)
      match r.2 with
      | some m => r.1.updQp n (fun q => { q with bindWait := some m })
      | none => r.1.activate n
  | none => s

/-! ### The fetch scheduler (R178, R179) -/

/-- Capsules posted and not yet fetched; failed slots to be fetched again come first (R163, R183). -/
def Queue.posted (q : Queue) : Nat :=
  if q.replay.isEmpty then (q.sqTail + q.sqSize - q.cursor) % q.sqSize else q.replay.length

/-- Completion entries free for further capsules (R179). -/
def Queue.cqRoom (q : Queue) : Nat :=
  (q.cqSize - 1 - unconsumed q.cqCount q.cqHead q.cqSize) - (q.slots.filter (fun x => x.st != .failed)).length

/-- Capsules that one grant takes from a queue (R178, R179). -/
def State.grantSize (s : State) (q : Queue) : Nat :=
  min (min q.posted (2 ^ min 3 (s.get Fld.CQI_ARB_BURST_LOG2))) q.cqRoom

/-- A queue is eligible for a fetch (R179). -/
def State.eligible (s : State) (e : Nat × Queue) : Bool :=
  match s.qp (e.1 / 64) with
  | some q =>
    e.2.st == .active && q.st == .rts && decide (0 < s.grantSize e.2) &&
      decide (q.fetchesInFlight < s.get Fld.CQI_FETCH_FETCH_DEPTH) && decide (q.readsInFlight < 16)
  | none => false

/-- Scheduler kind of a queue: 0 admin, 1 Urgent, 2 High, 3 Medium, 4 Low (R178). -/
def queueKind (e : Nat × Queue) : Nat := if e.1 % 64 = 0 then 0 else min 3 e.2.cls + 1

/-- The next eligible queue of a kind in round-robin order after the last one served (R178). -/
def State.nextQueue (s : State) (h kind : Nat) : Option Nat :=
  let last := ((s.cqi.sched.getD h {}).last).getD kind 0
  let qs := (s.cqi.queues.filter (fun e => queueKind e = kind && s.eligible e && ((s.qp (e.1 / 64)).map (·.home)) = some h)).map (·.1)
  match qs.find? (fun k => decide (last < k)) with
  | some k => some k
  | none => qs.head?

/-- Grants left in the round of a class: 1 High, 2 Medium, 3 Low. -/
def Sched.left (x : Sched) (c : Nat) : Nat := if c = 1 then x.high else if c = 2 then x.med else x.low

def Sched.spend (x : Sched) (c : Nat) : Sched :=
  if c = 1 then { x with high := x.high - 1 } else if c = 2 then { x with med := x.med - 1 } else { x with low := x.low - 1 }

/-- A fresh round (R178): W + 1 grants for each class. -/
def State.newRound (s : State) (x : Sched) : Sched :=
  { x with high := s.get Fld.CQI_ARB_W_HIGH + 1, med := s.get Fld.CQI_ARB_W_MED + 1, low := s.get Fld.CQI_ARB_W_LOW + 1, turn := 1 }

/-- The weighted part of the scheduler: passes over High, Medium, Low; a class without an eligible queue gives up its
grant; a new round begins when no grant is left (R178). -/
def State.pickWeighted (s : State) (h : Nat) (x : Sched) : Nat → Sched × Option Nat
  | 0 => (x, none)
  | k + 1 =>
    if x.high = 0 && x.med = 0 && x.low = 0 then s.pickWeighted h (s.newRound x) k
    else
      let c := x.turn
      let x' := { x with turn := c % 3 + 1 }
      if x.left c = 0 then s.pickWeighted h x' k
      else match s.nextQueue h (c + 1) with
        | some q => (x'.spend c, some q)
        | none => s.pickWeighted h (x'.spend c) k

/-- Whether any weighted queue of the home set is eligible. -/
def State.anyWeighted (s : State) (h : Nat) : Bool := [2, 3, 4].any (fun k => (s.nextQueue h k).isSome)

/-- The queue that the scheduler grants next (R178). -/
def State.pick (s : State) (h : Nat) : Sched × Option Nat :=
  let x := s.cqi.sched.getD h {}
  match s.nextQueue h 0 with
  | some q => (x, some q)
  | none => match s.nextQueue h 1 with
    | some q => (x, some q)
    | none => if s.anyWeighted h then s.pickWeighted h x 2000 else (x, none)

/-- The indices of one fetch, cut into runs that are contiguous, no longer than MAX_BATCH, and do not wrap (R179). -/
def fetchRuns (size batch : Nat) : List Nat → List (Nat × Nat)
  | [] => []
  | i :: is =>
    match fetchRuns size batch is with
    | (f, n) :: rest => if f = i + 1 && decide (n < batch) then (i, n + 1) :: rest else (i, 1) :: (f, n) :: rest
    | [] => [(i, 1)]

/-- A queue is granted a fetch: RDMA READs for its next capsules leave (R178, R179, R183). -/
def State.grant (s : State) (key : Nat) : State :=
  match kget s.cqi.queues key, s.qp (key / 64) with
  | some q, some qp =>
    let n := key / 64
    let k := key % 64
    let count := s.grantSize q
    let again := !q.replay.isEmpty
    let idxs := if again then q.replay.take count else (List.range count).map (fun i => (q.cursor + i) % q.sqSize)
    let runs := (fetchRuns q.sqSize (s.get Fld.CQI_FETCH_MAX_BATCH) idxs).take
      (min (s.get Fld.CQI_FETCH_FETCH_DEPTH - qp.fetchesInFlight) (16 - qp.readsInFlight))
    let taken := (runs.map (·.2)).foldl (· + ·) 0
    let used := idxs.take taken
    let fresh : List Slot := used.map (fun i => { idx := i, st := .fetching })
    let s := s.updQueue n k (fun q =>
      { q with slots := q.slots.filter (fun x => !(used.contains x.idx)) ++ fresh,
               replay := if again then q.replay.drop taken else q.replay,
               cursor := if again then q.cursor else (q.cursor + taken) % q.sqSize })
    let s := s.touchQueue n k
    runs.foldl (fun s r => s.newReq n (.fetch k r.1 r.2) (q.sqAddr + 64 * r.1) qp.ringKey (64 * r.2) [] none none) s
  | _, _ => s

/-- One grant of the scheduler of a home set (R178). -/
def State.fetchGrant (s : State) (h : Nat) : State :=
  if !(s.accepting h) then s
  else
    let x := s.pick h
    match x.2 with
    | some key =>
      let sch := { x.1 with last := updAt x.1.last (queueKind (key, (kget s.cqi.queues key).getD {})) (fun _ => key) }
      ({ s with cqi := { s.cqi with sched := setAt 2 {} s.cqi.sched h (fun _ => sch) } } : State).grant key
    | none => s

/-- Fetched capsules have arrived: the FETCH record leaves, and while paired they start only after its CONFIRM (R180). -/
def State.fetched (s : State) (n k first count : Nat) (bs : List Byte) : State :=
  match s.qp n with
  | some q =>
    let r := s.sendRec q.home 6 n (k + first * 65536) count [] (.fetch n k first count)
    let s := r.1.updQueue n k (fun x => { x with slots := x.slots.map (fun y =>
      if within first count y.idx && y.st == .fetching then
        { y with st := .fetched, wait := r.2, bytes := (bs.drop (64 * (y.idx - first))).take 64 } else y) })
    s.countBy Reg.CQI_FETCHED count
  | none => s

/-! ### Acknowledgement of the device's requests (R102, R103) -/

/-- The oldest unacknowledged PSN follows the requests that remain; its advance restarts the retry count. -/
def State.setReqs (s : State) (n : Nat) (reqs : List DevReq) : State :=
  match s.qp n with
  | some q =>
    let o := match reqs with
      | r :: _ => r.psn
      | [] => q.spsn
    let s := s.setQp n { q with reqs := reqs, oldest := o, retry := if o = q.oldest then q.retry else 0 }
    if o = q.oldest then s else s.touchQp n
  | none => s

/-- Requests that an acknowledgement up to and including a PSN covers: writes, up to the first READ whose response has
not arrived. -/
def ackReqs (psn : Psn) : List DevReq → List DevReq
  | [] => []
  | r :: rs => if r.sent && !r.kind.isRead && psnLe (r.psn + BitVec.ofNat 24 (r.count - 1)) psn then ackReqs psn rs else r :: rs

/-- The device resends every request that it has already sent, from its oldest (R103). -/
def State.resend (s : State) (n : Nat) : State :=
  match s.qp n with
  | some q =>
    if q.reqs.isEmpty then s
    else if s.sliceGet (s.sliceOf n) Fld.TRN_REQ_TIMER_RETRY_CNT < q.retry + 1 then
      (s.record .trnRetryExceeded (unitHome q.home) (leBytes 4 n)).enterError n 0x80
    else
      let s := (s.setQp n { q with retry := q.retry + 1, reqs := q.reqs.map (fun r => { r with sent := false, got := [] }) }).count Reg.TRN_RETRY
      s.pumpReqs n
  | none => s

end Sys2Proof.Machine
end

