-- ==== Sys2Proof/Machine/ColonyOps.lean ====
section
/-! DEFINITION. Sys2Proof/Machine/ColonyOps.lean: colony roles, requests and their answers, the directory's redirects, and
the reports that hold capsules back (R404 to R417). -/

namespace Sys2Proof.Machine

/-- The chip does manager duty: manager role, active for home set 0 (R406). -/
def State.colDuty (s : State) : Bool := s.on Fld.COL_CTRL_MANAGER && s.active 0

/-- The top manager has no parent (Table 12-4). -/
def State.colTop (s : State) : Bool := s.on Fld.COL_CTRL_MANAGER && (List.range 4).all (fun w => s.reg (Reg.COL_PARENT_IP w) == 0)

/-- Own path and depth (R407). -/
def State.colPath (s : State) : Nat := (s.reg Reg.COL_PATH_LO).toNat + ((s.reg Reg.COL_PATH_HI).toNat % 65536) * 2 ^ 32
def State.colDepth (s : State) : Nat := ((s.reg Reg.COL_PATH_HI).toNat / 65536) % 16

/-- A connection to the directory service address (R412). -/
def State.directoryConn (s : State) (qp : Qp) : Bool := s.colDuty && qp.home == 0

def State.updCol (s : State) (f : Colony → Colony) : State := { s with col := f s.col }

/-- A request is sent on lane 0 and waits for its answer (R416). -/
def State.colSend (s : State) (peer : Option Nat) (m : ColMsg) (why : ColWhy) : State :=
  let n := s.col.txn
  (s.updCol (fun x => { x with txn := n + 1, reqs := x.reqs ++ [{ txn := n, peer := peer, msg := m, why := why }] })).emit (.colony peer 0 n m)

/-- The answer to a request. -/
def State.colAnswer (s : State) (peer : Option Nat) (txn : Nat) (m : ColMsg) : State := s.emit (.colony peer 0 txn m)

/-- The chip sends for its pair: it is active for home set 0 (log entry 40). -/
def State.colSpeaks (s : State) : Bool := s.active 0 && (s.on Fld.COL_CTRL_WORKER || s.on Fld.COL_CTRL_MANAGER)

/-- COL_MEMBERS and COL_WORKERS follow the member table (Table 12-4). -/
def State.colCounts (s : State) : State :=
  let ms := s.col.members
  let s := (s.put Fld.COL_MEMBERS_ADMITTED ms.length).put Fld.COL_MEMBERS_LOST (ms.filter (fun e => e.2.lost)).length
  s.setReg Reg.COL_WORKERS (BitVec.ofNat 32 (ms.filter (fun e => e.2.worker)).length)

/-- NO_RESOURCE for want of key indices in a colony (R410). -/
def State.blocksLow (s : State) : State := if s.colWorker && s.ownIndex.isNone then s.record .colBlocksLow else s

/-- Free key indices of the worker (COL_KEYFREE). -/
def State.keyFree (s : State) : Nat :=
  ((s.col.own.map (fun b => span (4096 * b + 1) 4096)).flatten.filter (fun i => match s.key i with
    | some k => !(k.valid || k.fencing)
    | none => true)).length

/-- A worker with fewer than 256 free indices asks for another block (R410). -/
def State.askBlock (s : State) : State :=
  if s.colWorker && s.on Fld.COL_STATUS_JOINED && !s.colTop && s.keyFree < 256 &&
      !(s.col.reqs.any (fun r => match r.why with
        | .blocks none => true
        | _ => false)) then s.colSend none (.blockReq 1) (.blocks none)
  else s

/-- A capsule that issued or revoked keys or destroyed a region: in a colony it completes when the parent has the
report (R415). -/
def State.okCapKeys (s : State) (c : CapRef) (result : Nat) (keys : List (Nat × Bool)) (destroyed : List Nat) : State :=
  if s.colWorker && s.on Fld.COL_STATUS_JOINED && !s.colTop then
    (s.colSend none (.keyReport keys destroyed) (.report (some c) result)).askBlock
  else s.okCap c result

/-- A REDIRECT names a key and the service address of its home set (R413). -/
def State.redirect (s : State) (n : Nat) (key : Nat) (ip : BitVec 128) : State :=
  let bs := beBytes 16 ip.toNat
  s.notify n 0 0x000F 0 (leNat (bs.take 8)) (leNat (bs.drop 8)) key

/-- On a directory connection a capsule that names a key of a member is told where to go, before it fails check 1
(R414). -/
def State.redirectKey (s : State) (n : Nat) (qp : Qp) (key : BitVec 32) (cause : Nat) : State :=
  if s.directoryConn qp && cause = 1 then
    match kget s.col.keys (keyIndex key) with
    | some k => s.redirect n key.toNat k.ip
    | none => s
  else s

/-- The eligible member with the most free capacity of the region's kind, of those not tried (R412). -/
def State.chooseMember (s : State) (r : ColCreate) (tried : List Nat) : Option Nat :=
  let free (m : ColMember) : Nat := if r.volatile then m.freeVolatile else m.freePersistent
  ((s.col.members.filter (fun e => !e.2.lost && e.2.paired && decide (r.len ≤ free e.2) && !(tried.contains e.1))).foldl
    (fun (acc : Option (Nat × ColMember)) e => match acc with
      | some x => if free x.2 < free e.2 then some e else some x
      | none => some e) none).map (·.1)

/-- A creation goes to a member, or fails when none remains: the capsule with NO_RESOURCE, the parent's request with a
refusal (R412). -/
def State.createAt (s : State) (r : ColCreate) (cap : Option CapRef) (up : Nat) (tried : List Nat) : State :=
  match s.chooseMember r tried with
  | some i => s.colSend (some i) (.create r) (.create r cap up (tried ++ [i]))
  | none => match cap with
    | some c => s.failCap c stNoResource
    | none => s.colAnswer none up (.createAck none)

end Sys2Proof.Machine
end

