-- ==== Sys2Proof/Machine/Capsule.lean ====
section
/-! DEFINITION. Sys2Proof/Machine/Capsule.lean: how a fetched capsule starts, which row of the table it is, the checks
that all capsules share, and the I/O capsules (R143, R164 to R170, R346). -/

namespace Sys2Proof.Machine

/-- The commands of Table 05-6, with the forms that the table of operations gives rows of their own. -/
inductive CapRow where
  | read | write | flush | flushDeep | zero | trim | copy | identify | regionCreate | regionModify | regionDestroy
  | keyGrant | keyGrantExisting | keyRevoke | objectPlace | streamOpen | streamAdvance | streamClose | logRead
  | selftestShort | selftestExtended | selftestAbort | powerReport | powerP0 | powerP1 | powerP2 | powerP3
  | qresumeDiscard | qresumeReplay | configStage | configCommit | configDiscard | fwStage | fwActivate | regRead | regWrite
  | unknown
  deriving DecidableEq, Repr

/-- The row that a capsule is, by its queue, OPCODE and the field that tells its form. A form value that no row names
falls to the first row of its command, which answers INVALID_FIELD. -/
def capRow (queue : Nat) (bs : List Byte) : CapRow :=
  let opc := capField bs 0 1
  let f := capField bs 32 1
  if queue = 0 then
    if opc = 0x80 then .identify
    else if opc = 0x81 then (if f.testBit 4 then .regionModify else .regionCreate)
    else if opc = 0x82 then .regionDestroy
    else if opc = 0x83 then (if (capField bs 49 1).testBit 0 then .keyGrantExisting else .keyGrant)
    else if opc = 0x84 then .keyRevoke
    else if opc = 0x85 then .objectPlace
    else if opc = 0x86 then .streamOpen
    else if opc = 0x87 then .streamAdvance
    else if opc = 0x88 then .streamClose
    else if opc = 0x89 then .logRead
    else if opc = 0x8A then (if f = 2 then .selftestExtended else if f = 0x0F then .selftestAbort else .selftestShort)
    else if opc = 0x8B then (if f = 1 then .powerP1 else if f = 2 then .powerP2 else if f = 3 then .powerP3 else if f = 4 then .powerP0 else .powerReport)
    else if opc = 0x8C then (if capField bs 33 1 = 1 then .qresumeReplay else .qresumeDiscard)
    else if opc = 0x8D then .configStage
    else if opc = 0x8E then (if f.testBit 0 then .configDiscard else .configCommit)
    else if opc = 0x8F then .fwStage
    else if opc = 0x90 then .fwActivate
    else if opc = 0x91 then .regRead
    else if opc = 0x92 then .regWrite
    else .unknown
  else
    if opc = 1 then .read
    else if opc = 2 then .write
    else if opc = 3 then (if f.testBit 0 then .flushDeep else .flush)
    else if opc = 4 then .zero
    else if opc = 5 then .trim
    else if opc = 6 then .copy
    else .unknown

/-- Byte ranges of a capsule that must be 0 (R164, Table 05-5, Table 05-6): first byte and number. -/
def capZeros : CapRow → List (Nat × Nat)
  | .read | .write => [(32, 32)]
  | .flush | .flushDeep => [(4, 28), (33, 31)]
  | .zero | .trim => [(16, 12), (32, 32)]
  | .copy => [(16, 12), (36, 4), (48, 16)]
  | .identify => [(4, 12), (32, 32)]
  | .regionCreate => [(4, 28), (38, 2), (48, 16)]
  | .regionModify => [(8, 24), (38, 2), (48, 16)]
  | .regionDestroy | .keyRevoke => [(8, 56)]
  | .keyGrant | .keyGrantExisting => [(8, 24), (50, 14)]
  | .objectPlace => [(16, 16), (41, 23)]
  | .streamOpen => [(16, 16), (46, 18)]
  | .streamAdvance => [(4, 28), (35, 1), (40, 24)]
  | .streamClose => [(4, 28), (34, 30)]
  | .logRead => [(4, 4), (33, 31)]
  | .selftestShort | .selftestExtended | .selftestAbort => [(4, 28), (33, 31)]
  | .powerReport | .powerP0 | .powerP1 | .powerP2 | .powerP3 => [(4, 28), (33, 31)]
  | .qresumeDiscard | .qresumeReplay => [(4, 28), (34, 30)]
  | .configStage => [(4, 12), (32, 32)]
  | .configCommit | .configDiscard => [(4, 28), (33, 31)]
  | .fwStage => [(4, 4), (32, 32)]
  | .fwActivate => [(4, 60)]
  | .regRead => [(4, 28), (35, 1), (37, 27)]
  | .regWrite => [(4, 28), (35, 1), (40, 24)]
  | .unknown => []

/-- Reserved bits inside a used byte or field: the value of the field must be below the limit (Table 05-6, R166). -/
def capLimits : CapRow → List (Nat × Nat × Nat)
  | .flush | .flushDeep | .configCommit | .configDiscard => [(32, 1, 2)]
  | .regionCreate | .regionModify => [(32, 1, 32), (33, 1, 32), (36, 2, 4096)]
  | .keyGrant | .keyGrantExisting => [(48, 1, 32), (49, 1, 2)]
  | _ => []

/-- The capsule keeps its layout (R164): reserved bytes and bits are 0, LENGTH is at most 2^31. -/
def capFormOk (row : CapRow) (bs : List Byte) : Bool :=
  capField bs 1 1 = 0 && (capZeros row).all (fun r => capField bs r.1 r.2 = 0) &&
    (capLimits row).all (fun r => decide (capField bs r.1 r.2.1 < r.2.2)) && decide (capField bs 28 4 ≤ 2147483648)

/-- Commands that need the admin bit (R167). -/
def needsAdmin : CapRow → Bool
  | .configStage | .configCommit | .configDiscard | .fwStage | .fwActivate | .regRead | .regWrite => true
  | .powerP0 | .powerP1 | .powerP2 | .powerP3 => true
  | _ => false

/-- A capsule starts: it is fetched, its FETCH record is confirmed, its queue lives, the chip accepts for its home set,
and it is of the row that the command names. Anything else is no such event, and nothing happens. A capsule whose form
breaks R164, or whose command needs an admin bit that the connection lacks, completes at once. -/
def State.startCap (s : State) (c : CapRef) (row : CapRow) (go : Qp → List Byte → State → State) : State :=
  match s.qp c.qpn, s.queue c.qpn c.queue, s.slot c with
  | some qp, some q, some x =>
    if x.st == .fetched && x.wait.isNone && q.live && s.accepting qp.home && capRow c.queue x.bytes == row then
      let s := s.updSlot c (fun x => { x with st := .running })
      let s := if row == .unknown then s.failCap c stInvalidOpcode
        else if !(capFormOk row x.bytes) then s.failCap c stInvalidField
        else if needsAdmin row && !qp.admin then s.failCap c stAccessDenied
        else go qp x.bytes s
      s.settle
    else s
  | _, _, _ => s

/-! ### Key checks of capsules -/

/-- Rights that a key grants to a capsule: under a tier hold TRIM uses the right held before (R346). -/
def State.capRights (s : State) (e : Key) (isTrim : Bool) : Rights :=
  match s.region e.region with
  | some r => if r.hold && isTrim then e.rights ||| e.heldRights else e.rights
  | none => e.rights

/-- The checks of Table 04-2 on a data capsule; a right withdrawn by a tier hold gives SPACE_EXHAUSTED (R145, R346). -/
def State.capCheck (s : State) (c : CapRef) (qp : Qp) (key : BitVec 32) (off len right : Nat) (isTrim : Bool)
    (go : Key → State → State) : State :=
  let x : Extent := if len = 0 then .keyOnly else .whole
  match s.checkKey c.qpn qp.pd qp.home key off len right x with
  | .ok e => go e s
  | .error cause =>
    match cause, s.findKey c.qpn key with
    | 5, some e =>
      if (s.capRights e isTrim).getLsbD right then go e s
      else
        let held := match s.region e.region with
          | some r => r.hold && e.heldRights.getLsbD right
          | none => false
        (s.violation c.qpn key 5 true).failCap c (if held then stSpaceExhausted else stAccessDenied) key.toNat off (if held then 0 else 5)
    | _, _ => ((s.redirectKey c.qpn qp key cause).violation c.qpn key cause true).failCap c stAccessDenied key.toNat off cause

/-- An admin capsule names a key: check 1, check 3, then the rule of R143 in place of check 2. -/
def State.adminKey (s : State) (c : CapRef) (qp : Qp) (key : BitVec 32) (go : Key → Region → State → State) (tell : Bool := true) : State :=
  let bad (cause : Nat) : State := ((if tell then s.redirectKey c.qpn qp key cause else s).violation c.qpn key cause true).failCap c stAccessDenied key.toNat 0 cause
  match s.findKey c.qpn key with
  | some e =>
    match s.region e.region with
    | some r =>
      if r.home != qp.home then bad 3
      else if !qp.admin && r.pd != qp.pd then bad 2
      else go e r s
    | none => bad 1
  | none => bad 1

/-- Fields of the common layout (Table 05-5). -/
def capKey (bs : List Byte) : BitVec 32 := BitVec.ofNat 32 (capField bs 4 4)
def capOff (bs : List Byte) : Nat := capField bs 8 8
def capLen (bs : List Byte) : Nat := capField bs 28 4

/-- Data of an admin command goes to the host buffer, in one RDMA WRITE (R188, R190). -/
def State.toHost (s : State) (c : CapRef) (bs : List Byte) (data : List Byte) : State :=
  if data.isEmpty then s
  else s.newReq c.qpn (.dataWrite c) (capField bs 16 8) (BitVec.ofNat 32 (capField bs 24 4)) 0 data none none

/-! ### I/O capsules (R168 to R170, R174) -/

/-- The capsule has so many segments, and so many have begun. -/
def State.setSegs (s : State) (c : CapRef) (n begun : Nat) : State := s.updSlot c (fun x => { x with segs := n, begun := begun })

def State.capRead (s : State) (c : CapRef) (qp : Qp) (bs : List Byte) : State :=
  s.capCheck c qp (capKey bs) (capOff bs) (capLen bs) rRead false (fun _ s =>
    if capLen bs = 0 then s.okCap c
    else
      let n := segments (capLen bs)
      (List.range n).foldl (fun s i => s.segTxn c i (capKey bs) (capOff bs + i * segBytes) (segLen (capLen bs) i) rRead .read) (s.setSegs c n n))

def State.capWrite (s : State) (c : CapRef) (qp : Qp) (bs : List Byte) : State :=
  s.capCheck c qp (capKey bs) (capOff bs) (capLen bs) rWrite false (fun _ s =>
    if capLen bs = 0 then s.okCap c else s.setSegs c (segments (capLen bs)) 0)

def State.capCopy (s : State) (c : CapRef) (qp : Qp) (bs : List Byte) : State :=
  s.capCheck c qp (capKey bs) (capOff bs) (capLen bs) rRead false (fun _ s =>
    s.capCheck c qp (BitVec.ofNat 32 (capField bs 32 4)) (capField bs 40 8) (capLen bs) rWrite false (fun _ s =>
      if capLen bs = 0 then s.okCap c else s.setSegs c (segments (capLen bs)) 0))

/-- ZERO and TRIM are one transaction each. -/
def State.capOne (s : State) (c : CapRef) (qp : Qp) (bs : List Byte) (align : Nat) (op : TxnOp) : State :=
  if capOff bs % align != 0 || capLen bs % align != 0 then s.failCap c stInvalidField
  else s.capCheck c qp (capKey bs) (capOff bs) (capLen bs) rWrite (op == .trim) (fun e s =>
    if capLen bs = 0 then s.okCap c
    else ((s.setSegs c 1 1).addTxn
      { home := qp.home, qpn := c.qpn, slice := s.sliceOf c.qpn, cap := some c, op := op, region := e.region,
        addr := e.region + capOff bs, len := capLen bs, key := capKey bs }).1)

/-- FLUSH takes its place in the acceptance order; its scope is the namespace (R25). -/
def State.capFlushTxn (s : State) (c : CapRef) (qp : Qp) (deep : Bool) : State :=
  ((s.setSegs c 1 1).addTxn
    { home := qp.home, qpn := c.qpn, slice := s.sliceOf c.qpn, cap := some c, op := .capFlush deep }).1

/-- QRESUME (R183, R173): a queue that is not Frozen, or no I/O queue, gives INVALID_FIELD. -/
def State.capResume (s : State) (c : CapRef) (bs : List Byte) (replay : Bool) : State :=
  let k := capField bs 32 1
  if k = 0 || 63 < k || 1 < capField bs 33 1 then s.failCap c stInvalidField
  else match s.queue c.qpn k with
    | some q => if q.st == .frozen then ((s.updQueue c.qpn k (fun q => q.resume replay)).touchQueue c.qpn k).okCap c else s.failCap c stInvalidField
    | none => s.failCap c stInvalidField

end Sys2Proof.Machine
end

