-- ==== Sys2Proof/Machine/RegionOps.lean ====
section
/-! DEFINITION. Sys2Proof/Machine/RegionOps.lean: regions and keys created, changed, revoked and destroyed, and the
fenced changes (R132 to R140, R148 to R153, R204). -/

namespace Sys2Proof.Machine

/-! ### What the DELTA of the epoch carries -/

/-- A key-table entry that changed is named in the epoch's DELTA (R140). -/
def State.noteKey (s : State) (h i : Nat) : State :=
  s.updHome h (fun x => { x with newKeys := if x.newKeys.contains i then x.newKeys else x.newKeys ++ [i] })

/-- Image of a region's attributes (Table 04-1). -/
def regionImg (base : Nat) (r : Region) : RegionImg :=
  { base := base, len := r.len, pd := r.pd, volatile := r.volatile, dflush := r.dflush, mirror := r.mirror, failqp := r.failqp,
    rights := r.maxRights, keyDomain := r.keyDomain }

/-- A region created, modified or destroyed is named in the epoch's DELTA (Table 11-6). -/
def State.noteRegion (s : State) (gone : Bool) (base : Nat) (r : Region) : State :=
  s.updHome r.home (fun x => { x with newRegions := x.newRegions ++ [(gone, base, regionImg base r)] })

/-! ### Fences (R148 to R153) -/

/-- Valid keys that a change affects. -/
def State.fenceKeys (s : State) (f : Fence) : List Nat :=
  match f.kind with
  | .revoke i | .keyRights i _ => [i]
  | _ => (s.regionKeys f.region).map (·.1)

/-- The transaction passed stage 3 on what the change affects. -/
def fenceTxn (f : Fence) (t : Txn) : Bool :=
  t.region = f.region && match f.kind with
    | .revoke i | .keyRights i _ => keyIndex t.key = i
    | _ => true

/-- An open message admitted on what the change affects. -/
def fenceMsg (f : Fence) (m : OpenMsg) : Bool :=
  m.region = f.region && match f.kind with
    | .revoke i | .keyRights i _ => keyIndex m.key = i
    | _ => true

/-- Rights that a withdrawal takes: write, atomic and atomic-write (R346). -/
def withdrawn (r : Rights) : Rights := r &&& 0b10110
def remaining (r : Rights) : Rights := r &&& 0b01001

/-- A key-table entry changed. -/
def State.changeKey (s : State) (h i : Nat) (f : Key → Key) : State :=
  ({ s with prot := { s.prot with keys := kupd s.prot.keys i f } } : State).noteKey h i

/-- The new state of a fenced change enters the key table and the key cache (R149). -/
def State.fenceWrite (s : State) (f : Fence) : State :=
  let ks := s.fenceKeys f
  match f.kind with
  | .revoke i => s.changeKey f.home i (fun k => { k with valid := false, fencing := true })
  | .keyRights i r => s.changeKey f.home i (fun k => { k with rights := r })
  | .modify r dflush failqp =>
    let s := s.updRegion f.region (fun x => { x with maxRights := r, dflush := dflush, failqp := failqp, armed := false })
    let s := ks.foldl (fun s i => s.changeKey f.home i (fun k => { k with rights := k.rights &&& r })) s
    match s.region f.region with
    | some x => s.noteRegion false f.region x
    | none => s
  | .destroy => ks.foldl (fun s i => s.changeKey f.home i (fun k => { k with valid := false, fencing := true })) s
  | .withdraw =>
    let s := s.updRegion f.region (fun x => { x with hold := true, heldRights := withdrawn x.maxRights, maxRights := remaining x.maxRights })
    let s := ks.foldl (fun s i => s.changeKey f.home i (fun k => { k with heldRights := withdrawn k.rights, rights := remaining k.rights })) s
    match s.region f.region with
    | some x => s.noteRegion false f.region x
    | none => s

/-- The change alters durability or error policy, so confirmations are waited for (R150 condition 2). -/
def FenceKind.waitsConfirm (r : Region) : FenceKind → Bool
  | .modify _ d f => d != r.dflush || f != r.failqp
  | _ => false

/-- A fenced change begins (R149): marks, new state, and what it waits for under the old state. -/
def State.fenceBegin (s : State) (id : Nat) : State :=
  match s.prot.fences.find? (fun f => f.id = id) with
  | some f =>
    let marks := (s.fenceKeys f).filter s.cached
    let confirm := match s.region f.region with
      | some r => f.kind.waitsConfirm r
      | none => false
    let f' : Fence := { f with
      begun := true, epoch := s.epoch f.home, startAt := s.now,
      txns := (s.net.txns.filter (fenceTxn f)).map (·.id),
      msgs := (s.net.qps.filter (fun e => match e.2.openMsg with
        | some m => fenceMsg f m
        | none => false)).map (·.1),
      mseqs := if confirm then (s.net.unconf.filter (fun u => u.region = f.region && u.ord != 0)).map (·.mseq) else [] }
    let s := s.fenceWrite f
    ({ s with prot := { s.prot with
      fences := s.prot.fences.map (fun g => if g.id = id then f' else g),
      transit := s.prot.transit ++ marks } } : State).fenceStatus
  | none => s

/-- A fenced change is accepted; changes to one region are serialized (R152). -/
def State.fence (s : State) (region home : Nat) (kind : FenceKind) (cap : Option CapRef) (result : Nat) : State :=
  let id := s.prot.fences.foldl (fun m f => max m f.id) s.prot.fenceId + 1
  let busy := s.prot.fences.any (fun f => f.region = region)
  let s := { s with prot := { s.prot with fenceId := id, fences := s.prot.fences ++
    [{ id := id, region := region, home := home, kind := kind, cap := cap, result := result }] } }
  if busy then s else s.fenceBegin id

/-- The conditions of R150. -/
def State.fenceDone (s : State) (f : Fence) : Bool :=
  f.begun &&
  f.txns.all (fun id => !(s.net.txns.any (fun t => t.id = id))) && f.msgs.isEmpty &&
  (f.mseqs.all (fun m => !(s.net.unconf.any (fun u => u.mseq = m && u.home = f.home))) || !(s.paired f.home)) &&
  (f.delta || !(s.paired f.home)) && s.cfg.commit.all (fun c => !c.begun || c.drained)

/-- A region's frames, map units, claims and contents are freed, dirty data without destage (R135). -/
def State.freeRegion (s : State) (base : Nat) (r : Region) : State :=
  let u0 := base / unitBytes
  let un := r.len / unitBytes
  let s := s.noteRegion true base r
  { s with
    prot := { s.prot with regions := kdel s.prot.regions base }
    tier := { s.tier with
      frames := s.tier.frames.filter (fun e => !(within u0 un e.1)),
      lines := s.tier.lines.filter (fun e => !(within (base / 64) (r.len / 64) e.1)),
      t1 := memClear s.tier.t1 base r.len,
      written := s.tier.written.filter (fun e => !(within (base / 8) (r.len / 8) e.1)),
      uncorr := s.tier.uncorr.filter (fun w => !(within (base / 8) (r.len / 8) w)),
      granules := s.tier.granules.filter (fun e => !(within (base / granuleBytes) (r.len / granuleBytes) e.1)),
      streams := s.tier.streams.filter (fun e => e.2.region != base) }
    flash := { s.flash with
      map := s.flash.map.filter (fun e => !(within u0 un e.1)),
      prog := s.flash.prog.filter (fun e => !(within u0 un e.1)),
      t2 := memClear s.flash.t2 base r.len } }

/-- A fenced change completes: its capsule posts its completion, and the next change to the region begins (R150,
R152). -/
def State.fenceEnd (s : State) (f : Fence) : State :=
  let s : State := { s with prot := { s.prot with fences := s.prot.fences.filter (fun g => g.id != f.id) } }
  let s := match f.kind with
    | .revoke i => { s with prot := { s.prot with keys := kupd s.prot.keys i (fun k => { k with fencing := false }) } }
    | .destroy =>
      let s : State := { s with prot := { s.prot with keys := s.prot.keys.map (fun (e : Nat × Key) =>
        if e.2.region = f.region && e.2.aperture.isNone then (e.1, { e.2 with fencing := false }) else e) } }
      match s.region f.region with
      | some r => s.freeRegion f.region r
      | none => s
    | .withdraw => s.record .keyRightsWithdrawn (unitHome f.home) (leBytes 8 f.region)
    | _ => s
  let s := (s.count Reg.KEY_FENCES).fenceStatus
  let s := match f.cap with
    | some c => match f.kind with
      | .revoke i => s.okCapKeys c f.result [(i, false)] []
      | .destroy => s.okCapKeys c f.result ((s.fenceKeys f).map (fun i => (i, false))) [f.region]
      | _ => s.okCap c f.result
    | none => s
  match s.prot.fences.find? (fun g => g.region = f.region) with
  | some g => if g.begun then s else s.fenceBegin g.id
  | none => s

/-- A fence stops waiting for unfinished messages, whose remaining packets are checked anew (R151). -/
def State.fenceTimeout (s : State) (f : Fence) : State :=
  let s := f.msgs.foldl (fun s n => s.updQp n (fun q => { q with openMsg := q.openMsg.map (fun m => { m with recheck := true }) })) s
  ({ s with prot := { s.prot with fences := s.prot.fences.map (fun g => if g.id = f.id then { g with msgs := [] } else g) } } : State).record
    .keyFenceTimeout (unitHome f.home) (leBytes 8 f.region)

/-! ### Region and key capsules -/

/-- The pool has room for a volatile region or a pin of so many granules (R200, R204, R205); the partner's answer is
the free value of log entry 20. -/
def State.roomOnBoth (s : State) (h granules : Nat) : Bool :=
  decide (granules + s.quotaSum ≤ s.floatSize) && (!(s.paired h) || Config.partnerRoom granules)

/-- The key domain of a region to be created is LOADED: here, and while paired on the partner, whose answer is the free
value of log entry 20; a volatile region uses none (R478). -/
def State.domainReady (s : State) (h : Nat) (vol : Bool) (d : Nat) : Bool :=
  vol || ((kget s.sealing.slots d).isSome && (!(s.paired h) || Config.partnerKey d))

/-- A region made with its first key: the limits of R134, the room of R204; none where NO_RESOURCE holds. -/
def State.makeRegion (s : State) (h : Nat) (r : ColCreate) : Option (State × Nat) :=
  let base := freeBase r.len s.prot.regions 0
  if !(s.domainReady h r.volatile r.keyDomain) then none
  else if 1048576 ≤ s.prot.regions.length || 2 ^ 50 < base + r.len || (r.volatile && !(s.roomOnBoth h (r.len / granuleBytes))) then none
  else match s.issueKey base 0 r.len r.rights none with
    | none => none
    | some (s1, i) =>
      let x : Region := { home := h, pd := r.pd, volatile := r.volatile, dflush := r.dflush, mirror := r.mirror,
                          failqp := r.failqp, len := r.len, maxRights := r.rights, keyDomain := r.keyDomain }
      let s2 : State := { s1 with prot := { s1.prot with regions := kput s1.prot.regions base x } }
      some ((s2.noteRegion false base x).noteKey h i, i)

/-- REGION_CREATE without MODIFY (R132, R134, R143, R166, R204); in a colony a directory connection passes it to a
member and a worker connection is refused (R412, R415). -/
def State.capRegionCreate (s : State) (c : CapRef) (qp : Qp) (bs : List Byte) : State :=
  let attr := capField bs 32 1
  let pd := capField bs 34 2
  let len := capField bs 40 8
  let vol := attr.testBit 0
  if (attr.testBit 1 && vol) || (attr.testBit 2 && !vol) || len % granuleBytes != 0 || len = 0 || 2 ^ 49 < len then s.failCap c stInvalidField
  else if !qp.admin && pd != qp.pd then s.failCap c stAccessDenied
  else
    let r : ColCreate :=
      { pd := pd, volatile := vol, dflush := attr.testBit 1, mirror := attr.testBit 2, failqp := attr.testBit 3,
        rights := BitVec.ofNat 5 (capField bs 33 1), keyDomain := capField bs 36 2, len := len }
    if s.directoryConn qp then s.createAt r (some c) 0 []
    else if s.colWorker then s.failCap c stAccessDenied
    else if !(s.domainReady qp.home vol r.keyDomain) then s.failCap c stInvalidField
    else match s.makeRegion qp.home r with
      | none => s.failCap c stNoResource
      | some (s, i) => s.okCap c (keyValue i (((s.key i).map (·.tag)).getD 0)).toNat

/-- REGION_CREATE with MODIFY (R148, R166, Table 04-1). -/
def State.capRegionModify (s : State) (c : CapRef) (qp : Qp) (bs : List Byte) : State :=
  s.adminKey c qp (capKey bs) (fun e r s =>
    let attr := capField bs 32 1
    let rights := BitVec.ofNat 5 (capField bs 33 1)
    let dfl := attr.testBit 1
    let fq := attr.testBit 3
    if (attr.testBit 0 != r.volatile) || (attr.testBit 2 != r.mirror) || (dfl && r.volatile) || capField bs 34 2 != r.pd ||
        capField bs 36 2 != r.keyDomain || capField bs 40 8 != r.len then s.failCap c stInvalidField
    else if (r.maxRights &&& ~~~rights) != 0 || dfl != r.dflush || fq != r.failqp then
      s.fence e.region r.home (.modify rights dfl fq) (some c) 0
    else
      ((s.updRegion e.region (fun x => { x with maxRights := rights })).noteRegion false e.region { r with maxRights := rights }).okCap c) false

/-- REGION_DESTROY (R135). -/
def State.capRegionDestroy (s : State) (c : CapRef) (qp : Qp) (bs : List Byte) : State :=
  s.adminKey c qp (capKey bs) (fun e r s => s.fence e.region r.home .destroy (some c) 0)

/-- KEY_GRANT of a new key (R134, R137, R138). -/
def State.capKeyGrant (s : State) (c : CapRef) (qp : Qp) (bs : List Byte) : State :=
  s.adminKey c qp (capKey bs) (fun e r s =>
    let off := capField bs 32 8
    let len := capField bs 40 8
    let rights := BitVec.ofNat 5 (capField bs 48 1)
    if off % 4096 != 0 || len % 4096 != 0 || r.len < off + len || (rights &&& ~~~r.maxRights) != 0 then s.failCap c stInvalidField
    else if 256 ≤ (s.regionKeys e.region).length then s.failCap c stNoResource
    else match s.issueKey e.region off len rights none with
      | none => (s.blocksLow).failCap c stNoResource
      | some (s1, i) =>
        let tag := ((s1.key i).map (·.tag)).getD 0
        (s1.noteKey r.home i).okCapKeys c (keyValue i tag).toNat [(i, true)] [])

/-- KEY_GRANT with EXISTING (R148, R166). -/
def State.capKeyExisting (s : State) (c : CapRef) (qp : Qp) (bs : List Byte) : State :=
  s.adminKey c qp (capKey bs) (fun e r s =>
    let rights := BitVec.ofNat 5 (capField bs 48 1)
    let i := keyIndex (capKey bs)
    if capField bs 32 8 != 0 || capField bs 40 8 != 0 || (rights &&& ~~~r.maxRights) != 0 then s.failCap c stInvalidField
    else if (e.rights &&& ~~~rights) != 0 then s.fence e.region r.home (.keyRights i rights) (some c) (capKey bs).toNat
    else (s.changeKey r.home i (fun k => { k with rights := rights })).okCap c (capKey bs).toNat)

/-- KEY_REVOKE (R149, R166); one reissued after a hand-over finds its new state in force (R153). -/
def State.capKeyRevoke (s : State) (c : CapRef) (qp : Qp) (bs : List Byte) : State :=
  let i := keyIndex (capKey bs)
  let again := match s.key i with
    | some e =>
      if !e.valid && e.fencing && e.tag = keyTag (capKey bs) && e.aperture.isNone && !(s.prot.fences.any (fun f => f.region = e.region)) then
        (s.region e.region).bind (fun r => if r.home = qp.home && (qp.admin || r.pd = qp.pd) then some e.region else none)
      else none
    | none => none
  match again with
  | some base => s.fence base qp.home (.revoke i) (some c) 0
  | none =>
    s.adminKey c qp (capKey bs) (fun e r s =>
      if (s.regionKeys e.region).length ≤ 1 then s.failCap c stInvalidField
      else s.fence e.region r.home (.revoke i) (some c) 0)

end Sys2Proof.Machine
end

