-- ==== Sys2Proof/Machine/Objects.lean ====
section
/-! DEFINITION. Sys2Proof/Machine/Objects.lean: fills from T2, heals and poison, object placement, and weight streams
(R64, R196 to R202, R212 to R227). -/

namespace Sys2Proof.Machine

/-! ### Fills and poison -/

/-- The lines of a unit that a mask names and that are not valid receive the bytes of T2 (R64, R65). -/
def State.fillLines (s : State) (u : Nat) (mask : BitVec 256) : State :=
  match s.frame u with
  | some f =>
    let m := mask &&& ~~~f.valid
    let s := (List.range 256).foldl (fun s i =>
      if m.getLsbD i then s.t1Write (u * unitBytes + i * 64) (memRead 0 s.flash.t2 (u * unitBytes + i * 64) 64) else s) s
    let v := f.valid ||| m
    s.setFrame u { f with valid := v, filling := f.filling && v != allLines }
  | none => s

/-- The mask of one 4 KiB codeword of a unit (R64). -/
def codewordMask (c : Nat) : BitVec 256 := BitVec.ofNat 256 ((2 ^ 64 - 1) <<< (64 * c))

/-- A whole unit is made resident without a waiting transaction. -/
def State.loadUnit (s : State) (u : Nat) (transient : Bool) : State :=
  let s := match s.frame u with
    | some _ => s
    | none => s.newFrame u transient
  match s.frame u with
  | some f => if f.valid = allLines then s else (s.count Reg.TIER_T2_FILLS).fillLines u allLines
  | none => s

/-- The units of a list of granules made resident. -/
def State.loadGranules (s : State) (gs : List Nat) : State :=
  (gs.foldl (fun s g => (span (g * 128) 128).foldl (fun s u => s.loadUnit u false) s) s).countBy Reg.TIER_PARISON_LOAD gs.length

/-- A line of a unit is poisoned in T1. -/
def State.unitPoisoned (s : State) (u : Nat) : Bool :=
  match s.frame u with
  | some f => f.poison != 0
  | none => match kget s.flash.map u with
    | some m => m.poison != 0
    | none => false

/-- A damaged layer is reported once until it has been clean (R227). -/
def State.streamDamage (s : State) (id stored : Nat) : State :=
  match kget s.tier.streams id with
  | some x =>
    let bad := (x.layerGranules stored).any (fun g => (span (g * 128) 128).any s.unitPoisoned)
    if bad && !(x.damaged.contains stored) then
      let s := { s with tier := { s.tier with streams := kupd s.tier.streams id (fun x => { x with damaged := stored :: x.damaged }) } }
      let s := (s.boundQps x.home).foldl (fun s e => if e.2.pd = x.pd then s.notify e.1 0 0x000E 0 id stored 0 else s) s
      s.record .tierStreamDamaged (unitHome x.home) (leBytes 2 id ++ leBytes 4 stored)
    else if !bad then
      { s with tier := { s.tier with streams := kupd s.tier.streams id (fun x => { x with damaged := x.damaged.filter (· != stored) }) } }
    else s
  | none => s

/-- The streams that hold a unit report it if it is damaged (R226, R227). -/
def State.streamsDamage (s : State) (u : Nat) : State :=
  s.tier.streams.foldl (fun s e =>
    (List.range e.2.layers).foldl (fun s l => if (e.2.layerGranules l).contains (u / 128) then s.streamDamage e.1 l else s) s) s

/-- A unit of an incomplete Quench is healed or poisoned: PWS_STATUS.INCOMPLETE clears with the last one (R435). -/
def State.lostDone (s : State) (u : Nat) : State :=
  if s.pw.lost.contains u then
    let rest := s.pw.lost.filter (· != u)
    ({ s with pw := { s.pw with lost := rest } } : State).putB Fld.PWS_STATUS_INCOMPLETE (!rest.isEmpty)
  else s

/-- A heal of a unit has failed: its missing lines and the lines of its uncorrectable words are poisoned, and waiting
partial-line writes meet a failed range (R223, R224). -/
def State.poisonUnit (s : State) (u : Nat) : State :=
  let s := s.lostDone u
  match s.frame u with
  | some f =>
    let bad := (if f.filling then ~~~f.valid else 0) ||| (s.tier.uncorr.filter (fun w => w * 8 / unitBytes = u)).foldl (fun m w => m ||| lineBit ((w / 8) % 256)) 0
    let s := s.setFrame u { f with valid := f.valid ||| bad, poison := f.poison ||| bad, filling := false }
    let s := { s with flash := { s.flash with map := kupd s.flash.map u (fun m => { m with poison := m.poison ||| bad }) } }
    let s := { s with tier := { s.tier with
      heals := s.tier.heals.filter (fun e => e.1 != u),
      uncorr := s.tier.uncorr.filter (fun w => w * 8 / unitBytes != u) } }
    let hit (t : Txn) : Txn :=
      if t.waitFill && t.op.writes && !t.op.reads && overlaps t.addr t.len (u * unitBytes) unitBytes then
        let ls := (span (t.addr / 64) ((t.addr + t.len + 63) / 64 - t.addr / 64)).filter (fun l =>
          l / 256 = u && bad.getLsbD (l % 256) && !(decide (t.addr ≤ l * 64) && decide (l * 64 + 64 ≤ t.addr + t.len)))
        match ls.head?, ls.getLast? with
        | some a, some b => { t with failed := some (a * 64 - t.addr, min (b * 64 + 63) (t.addr + t.len - 1) - t.addr) }
        | _, _ => t
      else t
    let s : State := { s with net := { s.net with txns := s.net.txns.map hit } }
    let s := ((s.count Reg.TIER_HEAL_FAIL).record .tierUnitPoisoned 0 (leBytes 8 (u * unitBytes))).streamsDamage u
    s.retryFill u
  | none =>
    if s.mapped u then
      let s : State := { s with
        flash := { s.flash with map := kupd s.flash.map u (fun m => { m with poison := allLines }), moved := s.flash.moved.filter (· != u) }
        tier := { s.tier with heals := s.tier.heals.filter (fun e => e.1 != u) } }
      ((s.count Reg.TIER_HEAL_FAIL).record .tierUnitPoisoned 0 (leBytes 8 (u * unitBytes))).streamsDamage u
    else s

/-- A T2 read of a unit cannot be corrected: the twin is asked, or the heal fails at once (R222). -/
def State.needHeal (s : State) (u : Nat) : State :=
  match s.homeOfUnit u with
  | some h => if s.paired h then s.askHeal h u else s.poisonUnit u
  | none => s

/-! ### Placement (R196 to R202) -/

/-- A granule takes a new placement (R201). -/
def State.placeGranule (s : State) (g : Nat) (p : Placement) (tenant : Nat) : State :=
  let x := s.granule g
  let viaPool := p == .t2only || p == .stream
  let keep := p == .float && x.place == .float
  let s := s.setGranule g { x with place := p, claims := if keep then x.claims else [], pinTenant := tenant }
  let fix (e : Nat × Frame) : Nat × Frame := if e.1 / 128 = g then (e.1, { e.2 with transient := viaPool }) else e
  { s with tier := { s.tier with frames := s.tier.frames.map fix } }

/-- PLACEMENT codes (Table 06-1). -/
def placementOf (n : Nat) : Placement := if n = 0 then .float else if n = 1 then .pin else if n = 2 then .stream else .t2only

/-- The granule lies in a layer of an open stream (R199). -/
def State.inStream (s : State) (g : Nat) : Bool :=
  s.tier.streams.any (fun e => within (e.2.base / granuleBytes) (e.2.layers * e.2.layerLen / granuleBytes) g)

/-- An admin capsule that needs a right of its key besides (R143, R198). -/
def State.adminKeyRight (s : State) (c : CapRef) (qp : Qp) (key : BitVec 32) (right : Nat) (go : Key → Region → State → State) : State :=
  s.adminKey c qp key (fun e r s =>
    if e.rights.getLsbD right then go e r s else (s.violation c.qpn key 5 true).failCap c stAccessDenied key.toNat 0 5)

/-- OBJECT_PLACE (R198 to R201): its record leaves; PIN_T1 waits for the load as well. -/
def State.capObjectPlace (s : State) (c : CapRef) (qp : Qp) (bs : List Byte) : State :=
  s.adminKeyRight c qp (capKey bs) rRead (fun e r s =>
    let off := capOff bs
    let len := capField bs 32 8
    let code := capField bs 40 1
    if r.volatile || off % granuleBytes != 0 || len % granuleBytes != 0 || len = 0 || r.len < off + len || 3 < code then s.failCap c stInvalidField
    else
      let p := placementOf code
      let gs := granulesOf (e.region + off) len
      let tenant := s.tenantOfPd r.pd
      let fresh := (gs.filter (fun g => (s.granule g).place != .pin)).length
      if gs.any s.inStream then s.failCap c stBusy
      else if p == .pin && (decide ((s.tenant tenant).pin < s.pinCharge tenant + fresh) || !(s.roomOnBoth qp.home fresh)) then s.failCap c stNoResource
      else
        let s := gs.foldl (fun s g => s.placeGranule g p tenant) s
        let m := s.sendRec qp.home 8 c.qpn ((e.region + off) / granuleBytes) len (leBytes 8 code) (.place c)
        if p == .pin then
          { m.1 with tier := { m.1.tier with pins := m.1.tier.pins ++ [{ cap := c, first := (e.region + off) / granuleBytes, count := gs.length, wait := m.2 }] } }
        else match m.2 with
          | some _ => m.1
          | none => m.1.okCap c)

/-- A pin whose frames are loaded and whose record is confirmed completes (R200, R202). -/
def State.pinDone (s : State) (c : CapRef) : State :=
  match s.tier.pins.find? (fun p => p.cap = c) with
  | some p =>
    if p.loaded && p.wait.isNone then
      ({ s with tier := { s.tier with pins := s.tier.pins.filter (fun p => p.cap != c) } } : State).okCap c
    else s
  | none => s

/-! ### Streams (R212 to R220) -/

def State.updStream (s : State) (id : Nat) (f : Stream → Stream) : State :=
  { s with tier := { s.tier with streams := kupd s.tier.streams id f } }

/-- The next layer of the window that is not resident, in ascending layer order (R215). -/
def Stream.nextLoad (x : Stream) : Option Nat := x.windowLayers.find? (fun l => !(x.loaded.contains (l % x.layers)))

/-- Parison takes up the next layer (R215, TIER_CTRL.PARISON_EN). -/
def State.parisonNext (s : State) (id : Nat) : State :=
  match kget s.tier.streams id with
  | some x => s.updStream id (fun y => { y with loading := if s.on Fld.TIER_CTRL_PARISON_EN then x.nextLoad else none })
  | none => s

/-- Granules that have left every window: their frames go to the transient pool (R197, R201, R215). -/
def State.leaveWindow (s : State) (gs : List Nat) : State :=
  let out := gs.filter (fun g => !(s.inWindow g))
  let fix (e : Nat × Frame) : Nat × Frame := if out.contains (e.1 / 128) then (e.1, { e.2 with transient := true }) else e
  { s with tier := { s.tier with frames := s.tier.frames.map fix } }

/-- STREAM_OPEN (R212). -/
def State.capStreamOpen (s : State) (c : CapRef) (qp : Qp) (bs : List Byte) : State :=
  s.adminKey c qp (capKey bs) (fun e r s =>
    let off := capOff bs
    let ll := capField bs 32 8
    let ls := capField bs 40 4
    let win := capField bs 44 1
    let rd := capField bs 45 1
    if off % granuleBytes != 0 || ll % granuleBytes != 0 || ll = 0 || ls = 0 || win = 0 || 64 < win || rd = 0 || r.len < off + ls * ll ||
        (granulesOf (e.region + off) (ls * ll)).any (fun g => (s.granule g).place != .stream) then s.failCap c stInvalidField
    else
      let tenant := s.tenantOfPd qp.pd
      let x : Stream := { home := qp.home, pd := qp.pd, tenant := tenant, region := e.region, base := e.region + off, layerLen := ll,
                          layers := ls, window := win, readers := List.replicate rd none, opener := some c }
      let before := s.pinCharge tenant
      let id := ((List.range 2049).find? (fun i => (kget s.tier.streams i).isNone)).getD 0
      let s1 : State := { s with tier := { s.tier with streams := kput s.tier.streams id x } }
      if 1024 ≤ (s.tier.streams.filter (fun e => e.2.home = qp.home)).length || (s.tenant tenant).pin < s1.pinCharge tenant ||
          s.floatSize < x.w * (ll / granuleBytes) + s.quotaSum || s1.pinCharge tenant < before then s.failCap c stNoResource
      else
        let m := s1.sendRec qp.home 9 c.qpn 0 id (leBytes 8 (e.region + off) ++ leBytes 4 ls ++ [BitVec.ofNat 8 win, BitVec.ofNat 8 rd] ++ leBytes 2 0) (.stream c)
        (m.1.updStream id (fun x => { x with openWait := m.2 })).parisonNext id)

/-- A stream opening completes once layer 0 is resident and its record is confirmed (R202, R216). -/
def State.openDone (s : State) (id : Nat) : State :=
  match kget s.tier.streams id with
  | some x =>
    match x.opener with
    | some c => if x.loaded.contains 0 && x.openWait.isNone then (s.updStream id (fun x => { x with opener := none })).okCap c id else s
    | none => s
  | none => s

/-- The stream that a capsule names, for its namespace (R213). -/
def State.withStream (s : State) (c : CapRef) (qp : Qp) (bs : List Byte) (go : Nat → Stream → State → State) : State :=
  let id := capField bs 32 2
  match kget s.tier.streams id with
  | some x => if x.home = qp.home && x.pd = qp.pd then go id x s else s.failCap c stAccessDenied
  | none => s.failCap c stInvalidField

/-- STREAM_ADVANCE (R214, R215). -/
def State.capStreamAdvance (s : State) (c : CapRef) (qp : Qp) (bs : List Byte) : State :=
  s.withStream c qp bs (fun id x s =>
    let rd := capField bs 34 1
    let l := capField bs 36 4
    if x.readers.length ≤ rd then s.failCap c stInvalidField
    else
      let raise (o : Option Nat) : Option Nat := match o with
        | some v => some (max v l)
        | none => some l
      let y : Stream := { x with readers := updAt x.readers rd raise }
      let keep := y.windowLayers.map (fun w => w % y.layers)
      let gone := (x.loaded.filter (fun w => !(keep.contains w)))
      let s := s.updStream id (fun _ => { y with loaded := x.loaded.filter (fun w => keep.contains w) })
      let s := (s.leaveWindow ((gone.map x.layerGranules).flatten)).parisonNext id
      let m := s.sendRec qp.home 9 c.qpn 0 id (leBytes 4 rd ++ leBytes 4 l ++ leBytes 8 0) (.stream c)
      match m.2 with
      | some _ => m.1
      | none => m.1.okCap c)

/-- STREAM_CLOSE (R220). -/
def State.capStreamClose (s : State) (c : CapRef) (qp : Qp) (bs : List Byte) : State :=
  s.withStream c qp bs (fun id x s =>
    let s : State := { s with tier := { s.tier with streams := kdel s.tier.streams id } }
    (s.leaveWindow ((List.range x.layers).map x.layerGranules).flatten).okCap c)

/-- A layer has been loaded by Parison (R215, R216, R227). -/
def State.layerLoaded (s : State) (id layer : Nat) (healed : Bool) : State :=
  match kget s.tier.streams id with
  | some x =>
    if x.loading != some layer then s
    else
      let stored := layer % x.layers
      let gs := x.layerGranules stored
      let us := (gs.map (fun g => span (g * 128) 128)).flatten
      let s := if healed then s.loadGranules gs
        else us.foldl (fun s u => match s.frame u with
            | some _ => s
            | none => s.newFrame u false) s
      let s := if healed then s
        else us.foldl (fun s u => match s.frame u with
            | some f => if f.valid = allLines then s else s.poisonUnit u
            | none => s) s
      let s := s.updStream id (fun x => { x with loaded := stored :: x.loaded, loading := none })
      ((s.streamDamage id stored).parisonNext id).openDone id
  | none => s

end Sys2Proof.Machine
end

