-- ==== Sys2Proof/Machine/Conn.lean ====
section
/-! DEFINITION. Sys2Proof/Machine/Conn.lean: the communication manager on QP1 and the meanings of its messages (R93,
R96 to R99, R116, R142, R156, R159, R160). -/

namespace Sys2Proof.Machine

/-- A datagram on QP1 passes stage 1; the answer is the home set whose service address received it. -/
def State.cmIn (s : State) (c : Cm) : State × Option Nat :=
  let p := c.pkt
  let q := p.port.val
  let k := s.sliceOf 1
  let a := s.linkIn p
  if !a.2 then (a.1, none)
  else
    let s := a.1
    if !p.ipOk then (s.count (Reg.PRT_NONROCE_DROP q), none)
    else match s.svcHome p.ipv6 p.dst with
      | none => (s.count (Reg.PRT_NONROCE_DROP q), none)
      | some h =>
        let s := s.wake 1
        if !(s.acts h) || s.sliceGet k Fld.TRN_CTRL_ENABLE = 0 then (s.count (Reg.PRT_NONROCE_DROP q), none)
        else if p.ipv6 && s.sliceGet k Fld.TRN_CTRL_IPV6_EN = 0 then (s, none)
        else if !p.udpOk || !p.icrcOk then (s.count Reg.TRN_ICRC_DROP, none)
        else if p.tver != 0 then (s, none)
        else if p.pkey.toNat % 32768 != (s.sliceReg k Reg.TRN_PKEY).toNat % 32768 then (s, none)
        else (s, some h)

/-- The QP that a message of a connection is about: the same communication ID from the same source (R96). -/
def State.cmQp (s : State) (c : Cm) : Option (Nat × Qp) :=
  s.net.qps.find? (fun e => e.2.commId = c.localId && e.2.src = c.src && e.2.ipv6 = c.pkt.ipv6)

/-- The REP of a QP (R97, R159). -/
def State.sendRep (s : State) (c : Cm) (n : Nat) (q : Qp) : State :=
  let db := match s.key q.dbKey with
    | some k => if q.dbKey = 0 then 0 else (keyValue q.dbKey k.tag).toNat
    | none => 0
  s.emit (.rep c.pkt.port.val c.localId n q.spsn q.pmtu q.respRes q.initDepth db 0)

def State.sendRej (s : State) (c : Cm) (reason : Nat) : State := s.emit (.rej c.pkt.port.val c.localId reason)

/-- MAX_PMTU in bytes (Table 03-15). -/
def State.maxPmtu (s : State) (k : Nat) : Nat :=
  match s.sliceGet k Fld.TRN_PMTU_MAX_PMTU with
  | 0 => 1024
  | 1 => 2048
  | _ => 4096

/-- The lowest QP number from 2 on that is not in use (log entry 7). -/
def freeQpn : List (Nat × Qp) → Nat → Nat
  | [], i => i
  | (j, _) :: m, i => if j < i then freeQpn m i else if j = i then freeQpn m (i + 1) else i

/-- Private data: the sink fields keep R99. -/
def sinkFormOk (p : List Byte) : Bool :=
  decide (capField p 2 2 < 2) && capField p 18 2 = 0 &&
    (capField p 2 2 = 0 || (decide (12 ≤ capField p 16 1) && decide (capField p 16 1 ≤ 16) && decide (1 ≤ capField p 17 1) &&
      decide (capField p 17 1 ≤ 16) && capField p 8 8 % 4096 = 0))

/-- Private data: a binding keeps R156. -/
def bindFormOk (p : List Byte) : Bool :=
  decide (capField p 44 1 ≤ 64) && capField p 36 8 % 64 = 0 && capField p 45 47 = 0

/-- A new connection request (R93, R97, R99, R142, R147, R156, R160): the reason of its REJ, or its QP. -/
def State.newConn (s : State) (c : Cm) (m : ReqMsg) (h : Nat) : State :=
  let p := padTo 92 m.priv
  let ours := capField p 0 2 = 1
  let bound := ours && capField p 20 2 = 1
  let pd := if bound then capField p 22 2 else 0
  let cred := if bound then capField p 24 8 else 0
  let sinkOn := ours && capField p 2 2 = 1
  let sinkKey := BitVec.ofNat 32 (capField p 4 4)
  let sinkOff := capField p 8 8
  let sinkLen := 4096 + 2 ^ (capField p 16 1 + capField p 17 1)
  let n := freeQpn s.net.qps 2
  if m.pmtu < 1024 then s.sendRej c 26
  else if 1048576 ≤ s.net.qps.length then s.sendRej c 1
  else if ours && !(sinkFormOk p) then s.sendRej c 28
  else if bound && !(bindFormOk p) then s.sendRej c 28
  else if !(s.pd pd).en || (s.pd pd).cred != cred then s.sendRej c 28
  else
    let sink : Except Nat (Option Sink) :=
      if !sinkOn then .ok none
      else match s.checkKey n pd h sinkKey sinkOff sinkLen rWrite .whole with
        | .error e => .error e
        | .ok k => .ok (some { key := sinkKey, region := k.region, base := k.region + sinkOff, slotLog2 := capField p 16 1, countLog2 := capField p 17 1 })
    match sink with
    | .error _ => s.sendRej c 28
    | .ok sk =>
      let count := if bound then capField p 44 1 else 0
      let q : Qp :=
        { home := h, pd := pd, admin := (s.pd pd).admin, hostQpn := m.hostQpn, ipv6 := c.pkt.ipv6, src := c.src, commId := c.localId,
          port := some c.pkt.port.val, pcp := ((c.pkt.pcp.map (·.val)).getD (s.get (Fld.PRT_DEFPRI_PCP c.pkt.port.val))), dscp := c.dscp,
          pmtu := min m.pmtu (s.maxPmtu (s.sliceOf n)), respRes := min 16 m.respRes, initDepth := min 16 m.initDepth,
          epsn := m.hostPsn, cpsn := m.hostPsn - 1, sink := sk, ringKey := BitVec.ofNat 32 (capField p 32 4), qtable := capField p 36 8,
          qcount := count, where_ := if s.residents < 65536 then .resident else .spilled, lastUse := s.now }
      if count = 0 then
        let s := (s.setQp n q).touchQp n
        s.sendRep c n q
      else match s.issueKey (2 ^ 60 + n) 0 2048 0b00010 (some n) with
        | none => s.sendRej c 3
        | some (s1, i) =>
          let q := { q with dbKey := i }
          let s2 := (s1.setQp n q).touchQp n
          (s2.updHome h (fun x => { x with newKeys := x.newKeys ++ [i] })).sendRep c n q

/-- REQ: a repeated one is answered again while its QP is in Ready-to-receive (R96). -/
def execReq (c : Cm) (m : ReqMsg) (s : State) : Host.Outcome State Fault Refusal :=
  let a := s.cmIn c
  match a.2 with
  | some h =>
    match a.1.cmQp c with
    | some (n, q) => .next (if q.st == .rtr then a.1.sendRep c n q else a.1)
    | none => .next (if a.1.accepting h then a.1.newConn c m h else a.1)
  | none => .next a.1

/-- What a datagram of a connection does once stage 1 has passed it. -/
def State.cmMsg (s : State) (c : Cm) (go : Nat → Qp → State → State) : Host.Outcome State Fault Refusal :=
  let a := s.cmIn c
  match a.2, a.1.cmQp c with
  | some h, some (n, q) => .next (if q.home = h then go n q a.1 else a.1)
  | _, _ => .next a.1

/-- RTU (R116, Table 03-8). -/
def execRtu (c : Cm) (s : State) : Host.Outcome State Fault Refusal := s.cmMsg c (fun n _ s => s.toRts n)

/-- REJ from the host frees a QP in Ready-to-receive (Table 03-8). -/
def execRej (c : Cm) (s : State) : Host.Outcome State Fault Refusal :=
  s.cmMsg c (fun n q s => if q.st == .rtr then s.freeQp n else s)

/-- MRA asks for more time; the device keeps no timer on its REP that the spec names (R96). -/
def execMra (c : Cm) (s : State) : Host.Outcome State Fault Refusal := s.cmMsg c (fun _ _ s => s)

/-- DREQ (Table 03-8): answered by DREP but in Error; the context is freed. -/
def execDreq (c : Cm) (s : State) : Host.Outcome State Fault Refusal :=
  s.cmMsg c (fun n q s =>
    let s := if q.receives then s.emit (.drep c.pkt.port.val c.localId) else s
    ((s.freeQp n).msgDone n).settle)

/-- DREP answers a DREQ of the device (R96, R158): the context is freed. -/
def execDrep (c : Cm) (s : State) : Host.Outcome State Fault Refusal :=
  s.cmMsg c (fun n q s => if q.dreqSent then ((s.freeQp n).msgDone n).settle else s)

/-- An answer to a message that the device does not handle. -/
def State.cmRefuse (s : State) (c : Cm) (o : Out) : Host.Outcome State Fault Refusal :=
  let a := s.cmIn c
  .next (if a.2.isSome then a.1.emit o else a.1)

/-- LAP (R96): REJ, reason 5. -/
def execLap (c : Cm) (s : State) : Host.Outcome State Fault Refusal := s.cmRefuse c (.rej c.pkt.port.val c.localId 5)

/-- APR (R96): REJ, reason 5. -/
def execApr (c : Cm) (s : State) : Host.Outcome State Fault Refusal := s.cmRefuse c (.rej c.pkt.port.val c.localId 5)

/-- SIDR_REQ (R96): SIDR_REP with status 1. -/
def execSidrReq (c : Cm) (s : State) : Host.Outcome State Fault Refusal := s.cmRefuse c (.sidrRep c.pkt.port.val c.localId 1)

end Sys2Proof.Machine
end

