-- ==== Sys2Proof/Machine/Space.lean ====
section
/-! DEFINITION. Sys2Proof/Machine/Space.lean: the media of T2 as counted space: blocks, superblocks, usable capacity, usage
warnings, and read-only mode with its tier holds (R312, R313, R318, R339, R343 to R347). -/

namespace Sys2Proof.Machine

/-! ### Names of blocks -/

/-- Pages of 16 KiB in a block (Table 10-1, Table 10-12). -/
def geomPages (g : FlashGeom) : Nat := 64 * 2 ^ g.blockLog2.val

def State.geom (s : State) (c : Nat) : Option FlashGeom := kget s.flash.geoms c

/-- Pages of a block of a channel. -/
def State.chanPages (s : State) (c : Nat) : Nat := ((s.geom c).map geomPages).getD 0

/-- Name of a block: channel × 2^31 + physical unit of its first unit (R318, Table 10-3). -/
def blockName (c die b pages : Nat) : Nat := c * 2 ^ 31 + die * 2 ^ 24 + b * pages

def nameChan (n : Nat) : Nat := n / 2 ^ 31
def nameDie (n : Nat) : Nat := (n / 2 ^ 24) % 128

/-- The block that holds a physical unit. -/
def State.blockOf (s : State) (phys : Nat) : Nat :=
  let p := max 1 (s.chanPages (nameChan phys))
  phys - (phys % 2 ^ 24) % p

def State.blk (s : State) (n : Nat) : Blk := (kget s.flash.blocks n).getD {}
def State.setBlk (s : State) (n : Nat) (b : Blk) : State := { s with flash := { s.flash with blocks := kput s.flash.blocks n b } }
def State.updBlk (s : State) (n : Nat) (f : Blk → Blk) : State := s.setBlk n (f (s.blk n))

/-- A channel in service (Table 10-13). -/
def State.chanIn (s : State) (c : Nat) : Bool := s.get (Fld.FCH_STATUS_STATE c) == 2

/-- Good blocks of a channel that may hold units: not on a bad-block list, not the last block of a die, which holds its
label, not block 0 of die 0, which holds root pages, not on a die retired whole (R318, R328, R341). -/
def State.goodBlocks (s : State) (c : Nat) : List Nat :=
  match s.geom c with
  | some g =>
    ((List.range g.dies.val).map (fun d => (List.range (g.dieBlocks - 1)).filterMap (fun b =>
      if g.bad.contains (d, b) || (d == 0 && b == 0) || s.flash.deadDies.contains (c * 128 + d) then none
      else some (blockName c d b (geomPages g))))).flatten
  | none => []

def State.blocksIn (s : State) (c : Nat) (st : BlkSt) : List Nat := (s.goodBlocks c).filter (fun n => (s.blk n).st == st)

/-- Spare blocks of a channel now (FCH_SPARE). -/
def State.spares (s : State) (c : Nat) : Nat := (s.blocksIn c .spare).length

/-- Channel that serves a stripe position (FTL_STRIPE). -/
def State.stripeChan (s : State) (p : Nat) : Nat := (s.reg (Reg.FTL_STRIPE p)).toNat % 32

/-- Positions that a channel serves. -/
def State.positionsOf (s : State) (c : Nat) : List Nat := (List.range 32).filter (fun p => s.stripeChan p = c)

/-! ### Capacity (R343) -/

/-- Pages of a superblock's member: the smallest block of the channels that serve positions. -/
def State.sbPages (s : State) : Nat :=
  (List.range 32).foldl (fun m p => min m (s.chanPages (s.stripeChan p))) (s.chanPages (s.stripeChan 0))

/-- Free superblocks: what the position with the fewest free blocks can still give. -/
def State.freeSbs (s : State) : Nat :=
  let per (p : Nat) : Nat := (s.blocksIn (s.stripeChan p) .free).length / max 1 (s.positionsOf (s.stripeChan p)).length
  (List.range 32).foldl (fun m p => min m (per p)) (per 0)

/-- Superblocks in service: those that hold data and the free ones. -/
def State.serviceSbs (s : State) : Nat := s.flash.sbs.length + s.freeSbs

/-- FTL_RESERVE.SB, never below ⌈2 × 64 GiB ÷ superblock size⌉ + 4 (R343). -/
def State.reserveSb (s : State) : Nat :=
  let size := max 1 (32 * s.sbPages * 16384)
  max (s.get Fld.FTL_RESERVE_SB) ((2 * 64 * 2 ^ 30 + size - 1) / size + 4)

/-- FTL_OP in percent: below 10 reads as 10, above 50 as 50 (Table 10-9). -/
def opClamp (v : Nat) : Nat := max 10 (min 50 v)

/-- Usable capacity in map units with an overprovisioning share (R343). -/
def State.usableWith (s : State) (op : Nat) : Nat :=
  let chans := (List.range 32).filter s.chanIn
  let area := (chans.map (fun c => ((s.goodBlocks c).length - s.spares c - (s.blocksIn c .retired).length) * s.chanPages c)).foldl (· + ·) 0
  let rest := area - Config.t2Overhead - s.reserveSb * 32 * s.sbPages
  rest - rest * op / 100

/-- T2_USABLE in map units (R343). -/
def State.usable (s : State) : Nat := s.usableWith (opClamp (s.get ⟨Reg.FTL_OP, 0, 6⟩))

/-- Mapped units of both home sets. -/
def State.mappedUnits (s : State) : Nat := s.flash.map.length

/-! ### Read-only mode (R345 to R347) -/

/-- Write rights of every persistent region of a home set are withdrawn, each by one fence, with a tier hold (R346). -/
def State.tierHold (s : State) (h : Nat) : State :=
  let rs := s.prot.regions.filter (fun e => e.2.home = h && !e.2.volatile && !e.2.hold &&
    !(s.prot.fences.any (fun f => f.region = e.1 && f.kind == .withdraw)))
  let s := rs.foldl (fun s e => (s.regionKeys e.1).foldl (fun s k =>
    (s.boundQps h).foldl (fun s q => if q.2.pd = e.2.pd then s.notify q.1 0 0x0008 0 1 0 (keyValue k.1 k.2.tag).toNat else s) s) s) s
  let s := rs.foldl (fun s e => s.fence e.1 h .withdraw none 0) s
  if rs.isEmpty then s else s.record .ftlReadOnly (unitHome h)

/-- The tier holds of a home set end; the rights stay as they are (R347). -/
def State.tierRelease (s : State) (h : Nat) : State :=
  if s.prot.regions.any (fun e => e.2.home = h && e.2.hold) then
    let free (e : Nat × Region) : Nat × Region := if e.2.home = h then (e.1, { e.2 with hold := false, heldRights := 0 }) else e
    ({ s with prot := { s.prot with regions := s.prot.regions.map free } } : State).record .ftlReadWrite (unitHome h)
  else s

/-- The active sides act on read-only mode of either chip of the pair (R345 to R347). -/
def State.holdsFollow (s : State) : State :=
  let ro := s.flash.readOnly || s.regBit Reg.TWN_PHEALTH 8
  s.activeHomes.foldl (fun s h => if ro then s.tierHold h else s.tierRelease h) s

/-- A dirty persistent unit is not mapped, so that its destage would map one. -/
def State.wouldMap (s : State) : Bool :=
  s.tier.frames.any (fun e => e.2.dirty != 0 && !(s.mapped e.1) && !(s.volatileUnit e.1))

/-- A trigger of R345 holds. -/
def State.roTrigger (s : State) : Bool :=
  (decide (s.freeSbs ≤ s.reserveSb) && (List.range 32).any (fun c => s.chanIn c && s.spares c == 0)) ||
    (decide (s.usable ≤ s.mappedUnits) && s.wouldMap)

/-- A threshold of R344 is reached: the event, SPACE, and SPACE_WARNING with the threshold and the free bytes. -/
def State.spaceWarn (s : State) (pct : Nat) : State :=
  let free := (s.usable - s.mappedUnits) * unitBytes
  let s := s.record .ftlSpaceWarn 0 (leBytes 1 pct ++ leBytes 8 free)
  s.activeHomes.foldl (fun s h => s.notifyAll h 0x0009 pct free) s

/-- Warnings and read-only mode follow the space in use, while T2 is mounted (R344 to R347). -/
def State.spaceCheck (s : State) : State :=
  if !(s.on Fld.FTL_STATUS_MOUNTED) then s
  else
    let used := s.mappedUnits * 100
    let all := s.usable
    let at_ (p : Nat) : Bool := decide (all * p ≤ used)
    let s := if at_ 90 && !s.flash.warned90 then ({ s with flash := { s.flash with warned90 := true } } : State).spaceWarn 90 else s
    let s := if at_ 97 && !s.flash.warned97 then ({ s with flash := { s.flash with warned97 := true } } : State).spaceWarn 97 else s
    let s : State := { s with flash := { s.flash with warned90 := s.flash.warned90 && at_ 88, warned97 := s.flash.warned97 && at_ 95 } }
    let ro := if s.roTrigger then true
      else if s.flash.readOnly then !(decide (s.reserveSb + s.get Fld.FTL_RESERVE2_HYST < s.freeSbs) && !(at_ 97))
      else false
    let turn := ro != s.flash.readOnly
    let s : State := { s with flash := { s.flash with readOnly := ro } }
    let s := s.put Fld.FTL_STATUS_SPACE (if ro then 3 else if at_ 97 then 2 else if at_ 90 then 1 else 0)
    if turn then (s.setRegBit Reg.TWN_HEALTH 8 ro).holdsFollow else s

end Sys2Proof.Machine
end

