-- ==== Sys2Proof/Machine/HostReq.lean ====
section
/-! DEFINITION. Sys2Proof/Machine/HostReq.lean: the meanings of host requests, of acknowledgements for the device's own
requests, and of congestion notices (chapters 1 and 3). -/

namespace Sys2Proof.Machine

/-- SEND (R100, R101). -/
def execSend (p : Pkt) (pos : Pos) (imm : Option (BitVec 32)) (data : List Byte) (s : State) : Host.Outcome State Fault Refusal :=
  .next (s.ingress p (.send pos imm data)).spaceCheck

/-- RDMA WRITE (R17, R94). -/
def execRdmaWrite (p : Pkt) (pos : Pos) (reth : Option Reth) (data : List Byte) (s : State) : Host.Outcome State Fault Refusal :=
  .next (s.ingress p (.write pos reth none data)).spaceCheck

/-- RDMA WRITE with Immediate (R100). -/
def execRdmaWriteWithImmediate (p : Pkt) (pos : Pos) (reth : Option Reth) (imm : BitVec 32) (data : List Byte) (s : State) :
    Host.Outcome State Fault Refusal := .next (s.ingress p (.write pos reth (some imm) data)).spaceCheck

/-- RDMA READ request (R74, R105). -/
def execRdmaReadRequest (p : Pkt) (reth : Reth) (s : State) : Host.Outcome State Fault Refusal := .next (s.ingress p (.read reth))

/-- Compare and Swap (R29, R108). -/
def execCompareAndSwap (p : Pkt) (va : BitVec 64) (key : BitVec 32) (swap cmp : BitVec 64) (s : State) : Host.Outcome State Fault Refusal :=
  .next (s.ingress p (.cas va key swap cmp)).spaceCheck

/-- Fetch and Add (R29, R108). -/
def execFetchAndAdd (p : Pkt) (va : BitVec 64) (key : BitVec 32) (add : BitVec 64) (s : State) : Host.Outcome State Fault Refusal :=
  .next (s.ingress p (.faa va key add)).spaceCheck

/-- ATOMIC WRITE (R28). -/
def execAtomicWrite (p : Pkt) (reth : Reth) (data : List Byte) (s : State) : Host.Outcome State Fault Refusal :=
  .next (s.ingress p (.atomicWrite reth data)).spaceCheck

/-- RDMA FLUSH (R23, R24, R27). -/
def execRdmaFlush (p : Pkt) (reth : Reth) (global persist rangeSel : Bool) (s : State) : Host.Outcome State Fault Refusal :=
  .next (s.ingress p (.flush reth global persist rangeSel))

/-- An opcode that Table 03-4 does not list (R92, Table 03-5, check 9). -/
def execUnsupportedRdmaOpcode (p : Pkt) (opcode : BitVec 8) (s : State) : Host.Outcome State Fault Refusal :=
  .next (s.ingress p (.unsupported opcode))

/-- A response or acknowledgement on a QP passes stages 1 and 2 like any packet of the QP. -/
def State.reqSide (s : State) (p : Pkt) (go : Nat → Qp → State → State) : Host.Outcome State Fault Refusal :=
  let a := s.linkIn p
  if !a.2 then .next a.1
  else
    let b := a.1.headerIn p
    if !b.2 then .next b.1
    else match b.1.qp p.qpn.toNat with
      | some q => .next (if b.1.acts q.home then go p.qpn.toNat q b.1 else b.1)
      | none => .next b.1

/-- ACK (R103): the oldest unacknowledged PSN advances and the retry count restarts. -/
def execAcknowledge (p : Pkt) (s : State) : Host.Outcome State Fault Refusal :=
  s.reqSide p (fun n q s => ((s.setReqs n (ackReqs p.psn q.reqs)).pumpReqs n).settle)

/-- PSN-sequence-error NAK (R103): outside the outstanding span it is stale; otherwise earlier PSNs are acknowledged and
the rest is sent again. -/
def execSequenceNakReceived (p : Pkt) (s : State) : Host.Outcome State Fault Refusal :=
  s.reqSide p (fun n q s =>
    if decide (psnDist q.oldest p.psn ≤ psnDist q.oldest q.spsn) then
      ((s.setReqs n (q.reqs.filter (fun r => decide (psnDist q.oldest p.psn < psnDist q.oldest r.psn + r.count)))).resend n).settle
    else s)

/-- RNR NAK received (R103): Error. -/
def execRnrNakReceived (p : Pkt) (s : State) : Host.Outcome State Fault Refusal :=
  s.reqSide p (fun n _ s => (s.enterError n 0x20).settle)

/-- Invalid-request, remote-access-error or remote-operational-error NAK received (R103): Error, no retry. -/
def execErrorNakReceived (p : Pkt) (kind : NakKind) (s : State) : Host.Outcome State Fault Refusal :=
  let code := match kind with
    | .invalidRequest => 0x61
    | .remoteAccess => 0x62
    | .remoteOperational => 0x63
  s.reqSide p (fun n _ s => (s.enterError n (code + 0x20)).settle)

/-- Alpha after a CNP and after a period without one, in 1/65536 (R123, log entry 21). -/
def alphaUp (a g : Nat) : Nat := a - a / 2 ^ g + 65536 / 2 ^ g
def alphaDown (a g : Nat) : Nat := a - a / 2 ^ g

/-- CNP (R123). -/
def execCnp (p : Pkt) (s : State) : Host.Outcome State Fault Refusal :=
  s.reqSide p (fun n q s =>
    let s := s.count Reg.TRN_CNP_RX
    if s.rpField n Fld.TRN_CTRL_RP_EN = 0 then s
    else
      let port := s.portRate (s.sendPort q)
      let x := if q.rate.limited then q.rate else { limited := true, rate := port, target := port, alpha := 65536 }
      let r := max (x.rate - x.rate * x.alpha / 131072) (s.rpField n Fld.TRN_CNP_RP_MIN_RATE * 1000)
      s.updQp n (fun q => { q with rate := { x with target := x.rate, rate := r, alpha := alphaUp x.alpha (s.rpField n Fld.TRN_CNP_G_SHIFT), steps := 0, bytes := 0 } }))

end Sys2Proof.Machine
end

