-- ==== Sys2Proof/Machine/Crc.lean ====
section
/-! DEFINITION. Sys2Proof/Machine/Crc.lean: the cyclic redundancy checks that the spec names: CRC-64 of ECMA-182 (R371),
CRC-32 of IEEE 802.3 (R366), and CRC-8 of SMBus PEC (chapter 17). -/

namespace Sys2Proof.Machine

/-- One bit of a CRC that shifts left: w is its width, p its polynomial without the top term. -/
def crcStep (w p : Nat) (r : Nat) : Nat := if r.testBit (w - 1) then ((r <<< 1) % 2 ^ w) ^^^ p else (r <<< 1) % 2 ^ w

/-- Eight bits of a CRC that shifts left. -/
def crcByte (w p : Nat) (r : Nat) (b : Byte) : Nat :=
  let r := r ^^^ (b.toNat <<< (w - 8))
  (List.range 8).foldl (fun r _ => crcStep w p r) r

/-- CRC-64 of ECMA-182 over bytes. -/
def crc64 (bs : List Byte) : Nat := bs.foldl (crcByte 64 0x42F0E1EBA9EA3693) 0

/-- CRC-8 of the SMBus packet error code: x^8 + x^2 + x + 1. -/
def crc8 (bs : List Byte) : Nat := bs.foldl (crcByte 8 0x07) 0

/-- One bit of the reflected CRC-32. -/
def crc32Step (r : Nat) : Nat := if r % 2 = 1 then (r / 2) ^^^ 0xEDB88320 else r / 2

/-- CRC-32 of IEEE 802.3 over bytes. -/
def crc32 (bs : List Byte) : Nat :=
  (bs.foldl (fun r b => (List.range 8).foldl (fun r _ => crc32Step r) (r ^^^ b.toNat)) 0xFFFFFFFF) ^^^ 0xFFFFFFFF

end Sys2Proof.Machine
end

