-- ==== Sys2Proof/Machine/PortEvents.lean ====
section
/-! DEFINITION. Sys2Proof/Machine/PortEvents.lean: the meanings of frames that are not RoCEv2 and of events and timers
of ports, QPs and slices (R50, R51, R57 to R61, R77 to R91, R103, R110 to R116, R120, R123). -/

namespace Sys2Proof.Machine

/-! ### Frames (Table 03-3) -/

/-- A frame that the port takes apart from RoCEv2. -/
def State.frameIn (s : State) (p : Nat) (go : State → State) : State :=
  if s.linkUp p && !(s.on (Fld.PRT_MODE_LOOP p)) && !s.still && !(s.port p).listening then go (s.count (Reg.PRT_RX_FRAMES p)) else s

/-- A class is paused or resumed by the partner (R87), and PRT_STATUS.PAUSED shows it. -/
def State.partnerPause (s : State) (p k : Nat) (on : Bool) : State :=
  let s := s.updPort p (fun x => { x with classes := setAt 8 {} x.classes k (fun c =>
    if on then { c with paused := some (c.paused.getD s.now) } else { c with paused := none, stormSeen := false }) })
  s.setRegBit (Reg.PRT_STATUS p) (k + 4) on

/-- PFC frame (R87). -/
def execPfcFrame (port : Fin 8) (enable quantaNonZero : BitVec 8) (s : State) : Host.Outcome State Fault Refusal :=
  let p := port.val
  s.core (s.frameIn p (fun s =>
    let s := if (enable &&& quantaNonZero) = 0 then s else s.count (Reg.PRT_PFC_RX p)
    (List.range 8).foldl (fun s k => if enable.getLsbD k then s.partnerPause p k (quantaNonZero.getLsbD k) else s) s))

/-- LLDP frame (R81). -/
def execLldpFrame (port : Fin 8) (s : State) : Host.Outcome State Fault Refusal :=
  s.core (s.frameIn port.val (fun s => s.emit (.lldpToCores port.val)))

/-- ARP request (R89, R90). -/
def execArpRequest (port : Fin 8) (target : BitVec 32) (s : State) : Host.Outcome State Fault Refusal :=
  s.core (s.frameIn port.val (fun s =>
    match s.svcHome false target.toNat with
    | some h => if s.acts h then s.emit (.arpReply port.val h target (s.svcMac h)) else s.count (Reg.PRT_NONROCE_DROP port.val)
    | none => s.count (Reg.PRT_NONROCE_DROP port.val)))

/-- Neighbour solicitation (R89, R90). -/
def execNeighbourSolicitation (port : Fin 8) (target : BitVec 128) (s : State) : Host.Outcome State Fault Refusal :=
  s.core (s.frameIn port.val (fun s =>
    match s.svcHome true target.toNat with
    | some h => if s.acts h then s.emit (.neighbourAdvert port.val h target (s.svcMac h)) else s.count (Reg.PRT_NONROCE_DROP port.val)
    | none => s.count (Reg.PRT_NONROCE_DROP port.val)))

/-- Echo request (R90): at most 1,000 replies in a second on a port. -/
def execEchoRequest (port : Fin 8) (ipv6 : Bool) (dst : Nat) (s : State) : Host.Outcome State Fault Refusal :=
  let p := port.val
  s.core (s.frameIn p (fun s =>
    match s.svcHome ipv6 dst with
    | some h =>
      if !(s.acts h) then s.count (Reg.PRT_NONROCE_DROP p)
      else
        let x := s.port p
        let fresh := decide (x.echoAt + 1000000 ≤ s.now)
        let n := if fresh then 0 else x.echoes
        if n < 1000 then
          (s.updPort p (fun x => { x with echoes := n + 1, echoAt := if fresh then s.now else x.echoAt })).emit (.echoReply p)
        else s
    | none => s.count (Reg.PRT_NONROCE_DROP p)))

/-- Any other frame (R90). -/
def execOtherFrame (port : Fin 8) (fcsOk : Bool) (s : State) : Host.Outcome State Fault Refusal :=
  s.core (s.frameIn port.val (fun s => s.count (if fcsOk then Reg.PRT_NONROCE_DROP port.val else Reg.PRT_FCS_ERR port.val)))

/-! ### Port events -/

/-- FEC lock of a port in bring-up (R79, R80, Table 03-10); the first port in service is start-up step 11 (Table 16-4). -/
def execPortFecLock (port : Fin 8) (s : State) : Host.Outcome State Fault Refusal :=
  let p := port.val
  s.core (if s.get (Fld.PRT_MODE_RATE p) = 0 || s.linkUp p || (s.port p).training.isNone then s
    else
      let s := if s.get Fld.CFL_BOOTINFO_STEP = 10 then (s.put Fld.CFL_BOOTINFO_STEP 11).put Fld.GLB_STATUS_IN_SERVICE 1 else s
      let s := (s.putB (Fld.PRT_STATUS_LINK_UP p) true).putB (Fld.PRT_STATUS_LT_DONE p) (s.on (Fld.PRT_MODE_LT_EN p))
      let s := (s.updPort p (fun x => { x with training := none })).record .prtLinkUp (unitChan p)
      (List.range 8).foldl (fun s k => if (s.cls p k).xoff then (s.emit (.pfc p k true)).count (Reg.PRT_PFC_TX p) else s) s)

/-- Link loss (R80): frames in flight are lost, QPs are not put in error. -/
def execPortLinkLoss (port : Fin 8) (s : State) : Host.Outcome State Fault Refusal :=
  let p := port.val
  s.core (if !(s.linkUp p) then s
    else
      let s := (s.putB (Fld.PRT_STATUS_LINK_UP p) false).putB (Fld.PRT_STATUS_LT_DONE p) false
      let s := (List.range 8).foldl (fun s k => s.partnerPause p k false) s
      (s.updPort p (fun x => { x with training := some s.now })).record .prtLinkDown (unitChan p))

/-- Training or FEC lock not complete in 500 ms (R79): reported, and the attempt starts again. -/
def execLinkTrainingTimeout (port : Fin 8) (s : State) : Host.Outcome State Fault Refusal :=
  let p := port.val
  s.core (if s.get (Fld.PRT_MODE_RATE p) = 0 || s.linkUp p || (s.port p).training.isNone then s
    else ((s.putB (Fld.PRT_STATUS_TRAIN_FAIL p) true).updPort p (fun x => { x with training := some s.now })).record .prtTrainFail (unitChan p))

/-- XOFF repeated while a class is paused by this device (R84). -/
def execPfcXoffRepeat (port cls : Fin 8) (s : State) : Host.Outcome State Fault Refusal :=
  s.core (if (s.cls port.val cls.val).xoff && s.linkUp port.val then (s.emit (.pfc port.val cls.val true)).count (Reg.PRT_PFC_TX port.val) else s)

/-- A lossless class paused by the partner for 100 ms (R87). -/
def execPauseStormTimeout (port cls : Fin 8) (s : State) : Host.Outcome State Fault Refusal :=
  let p := port.val
  let x := s.cls p cls.val
  s.core (if s.lossless p cls.val && x.paused.isSome && !x.stormSeen then
      (s.updPort p (fun q => { q with classes := setAt 8 {} q.classes cls.val (fun c => { c with stormSeen := true }) })).record .prtPauseStorm
        (unitChan p) [BitVec.ofNat 8 cls.val]
    else s)

/-! ### QP timers -/

/-- 2 µs since the earliest uncovered completed request (R120). -/
def execAckCoalesceTimeout (qpn : BitVec 24) (s : State) : Host.Outcome State Fault Refusal :=
  s.core (match s.qp qpn.toNat with
    | some q => if q.uncovered != 0 && q.receives && s.acts q.home then s.sendAck qpn.toNat q.cpsn else s
    | none => s)

/-- Local ACK timeout of the device as requester (R103). -/
def execLocalAckTimeout (qpn : BitVec 24) (s : State) : Host.Outcome State Fault Refusal :=
  s.core (match s.qp qpn.toNat with
    | some q => if q.reqs.any (·.sent) && s.acts q.home then (s.resend qpn.toNat).settle else s
    | none => s)

/-- TRN_ERR_HOLD has elapsed for a QP in Error (Table 03-8). -/
def execErrorHoldExpiry (qpn : BitVec 24) (s : State) : Host.Outcome State Fault Refusal :=
  s.core (match s.qp qpn.toNat with
    | some q => if q.st == .error then s.freeQp qpn.toNat else s
    | none => s)

/-- A period of RP_TIMER without a CNP: alpha decays and an increase step is taken (R123). -/
def execRpTimerExpiry (qpn : BitVec 24) (s : State) : Host.Outcome State Fault Refusal :=
  let n := qpn.toNat
  s.core (match s.qp n with
    | some q =>
      if q.rate.limited && s.rpField n Fld.TRN_CTRL_RP_EN != 0 then
        let x : RateSt := { q.rate with alpha := alphaDown q.rate.alpha (s.rpField n Fld.TRN_CNP_G_SHIFT) }
        let y := x.step (s.portRate (s.sendPort q)) (s.rpField n Fld.TRN_RP_STEP_AI_RATE) (s.rpField n Fld.TRN_RP_STEP_HAI_RATE)
        s.updQp n (fun q => { q with rate := y })
      else s
    | none => s)

/-! ### Contexts (R110 to R113, R125) -/

/-- A context arrives in its resident slot: the rewind NAK that it owes leaves first, then its packets go on. -/
def execContextFetchDone (qpn : BitVec 24) (s : State) : Host.Outcome State Fault Refusal :=
  let n := qpn.toNat
  s.core (match s.qp n with
    | some q =>
      if q.where_ == .fetching then
        ((s.updQp n (fun q => { q with where_ := .resident, lastUse := s.now })).sendRewind n).refeedWhere (fun h => h.qpn = n && h.why == .context)
      else s
    | none => s)

/-- A spill has been written: packets that waited for it take the context-miss path (R112). -/
def execContextSpillDone (qpn : BitVec 24) (s : State) : Host.Outcome State Fault Refusal :=
  let n := qpn.toNat
  s.core (match s.qp n with
    | some q =>
      if q.where_ == .spilling then
        (s.updQp n (fun q => { q with where_ := .spilled })).refeedWhere (fun h => h.qpn = n && h.why == .spill)
      else s
    | none => s)

/-- A resident context that may be spilled (R110): no transaction, no request of its own, no fence, no waiting packet. -/
def State.idleContext (s : State) (e : Nat × Qp) : Bool :=
  e.2.where_ == .resident && e.2.reqs.isEmpty && s.net.txns.all (fun t => t.qpn != e.1) && s.net.held.all (fun h => h.qpn != e.1) &&
    s.prot.fences.all (fun f => !(f.msgs.contains e.1))

/-- A transport core spills the least recently used idle context and fetches the wanted one (Table 02-2). -/
def execContextVictimSpill (qpn : BitVec 24) (s : State) : Host.Outcome State Fault Refusal :=
  let n := qpn.toNat
  s.core (match s.qp n with
    | some q =>
      if q.where_ == .spilled && s.net.held.any (fun h => h.qpn = n && h.why == .context) then
        match (s.net.qps.filter s.idleContext).foldl (fun (acc : Option (Nat × Qp)) (e : Nat × Qp) => match acc with
            | some x => if e.2.lastUse < x.2.lastUse then some e else acc
            | none => some e) none with
        | some v => (s.updQp v.1 (fun q => { q with where_ := .spilling })).updQp n (fun q => { q with where_ := .fetching })
        | none => s
      else s
    | none => s)

/-! ### Exceptions and stalls (R57, R58) -/

/-- The key that a waiting packet names; a SEND names its sink's. -/
def State.heldKey (s : State) (h : Held) : BitVec 32 :=
  match h.req with
  | .write _ (some r) _ _ => r.key
  | .read r => r.key
  | .cas _ k _ _ => k
  | .faa _ k _ => k
  | .atomicWrite r _ => r.key
  | .flush r _ _ _ => r.key
  | _ => match s.qp h.qpn with
    | some q => (q.sink.map (·.key)).getD 0
    | none => 0

/-- A key-table entry has been read into the key cache (R139). -/
def execKeyCacheFill (key : BitVec 32) (s : State) : Host.Outcome State Fault Refusal :=
  if s.net.held.any (fun h => h.why == .key && keyIndex (s.heldKey h) = keyIndex key) then
    s.core ((s.cacheTouch (keyIndex key)).refeedWhere (fun h => h.why == .key && keyIndex (s.heldKey h) = keyIndex key))
  else s.core s

/-- The marks of a region's change are cleared, and requests that met them are checked again (R149). -/
def execRegionTransitionResolved (region : Nat) (s : State) : Host.Outcome State Fault Refusal :=
  let keep (i : Nat) : Bool := match s.key i with
    | some k => k.region != region
    | none => false
  let s' : State := { s with prot := { s.prot with transit := s.prot.transit.filter keep } }
  s.core (s'.fenceStatus.refeedWhere (fun h => h.why == .transition))

/-- A NAK for an unsupported opcode or header has been built (Table 02-2). -/
def execExceptionNakBuilt (qpn : BitVec 24) (s : State) : Host.Outcome State Fault Refusal :=
  let n := qpn.toNat
  s.core (s.refeed (fun h => if h.qpn = n && h.why == .nakBuild then some (fun s => s.queueNak n h.pkt.psn 0x61) else none))

/-- An entry of a full exception queue has been freed (R57). -/
def execExceptionQueueRoom (slice : Fin 8) (s : State) : Host.Outcome State Fault Refusal :=
  s.core (if s.excUsed slice.val < 1024 then s.refeedWhere (fun h => h.slice = slice.val && h.why == .excFull) else s)

/-- A slot of a slice whose stage 4 was stalled has been released (R56). -/
def execSlotFreed (slice : Fin 8) (s : State) : Host.Outcome State Fault Refusal :=
  s.core (if s.slotFree slice.val then s.refeedWhere (fun h => h.slice = slice.val && h.why == .slot) else s)

/-- Steering changes that can be made are: the old slice holds no transaction of QPs with that index (R51). -/
def State.steerNow (s : State) : State :=
  let ready (e : Nat × Nat) : Bool := s.net.txns.all (fun t => !(t.slice = s.net.steer.getD e.1 0 && steerIndex t.qpn = e.1))
  let go := s.net.steerWait.filter ready
  if go.isEmpty then s
  else
    let s : State := { s with net := { s.net with
      steer := go.foldl (fun t e => updAt t e.1 (fun _ => e.2)) s.net.steer,
      steerWait := s.net.steerWait.filter (fun e => !(ready e)) } }
    s.refeedWhere (fun h => h.why == .steer)

/-- In P1 and P2, and on the way there, every entry names slice 0 (Table 14-4). -/
def State.trimmed (s : State) : Bool :=
  s.get Fld.GOV_STATUS_PSTATE = 1 || s.get Fld.GOV_STATUS_PSTATE = 2 ||
    (s.on Fld.GOV_STATUS_ENTERING && (s.gov.target = 1 || s.gov.target = 2))

/-- A steering-table entry changes at an epoch boundary once its old slice is empty of its QPs (R51); in P1 and P2 the
change waits for the exit. -/
def execSteeringChange (index slice : Fin 8) (s : State) : Host.Outcome State Fault Refusal :=
  s.core (if s.trimmed then { s with gov := { s.gov with steer := updAt s.gov.steer index.val (fun _ => slice.val) } }
    else ({ s with net := { s.net with steerWait := (s.net.steerWait.filter (fun e => e.1 != index.val)) ++ [(index.val, slice.val)] } } : State).steerNow)

end Sys2Proof.Machine
end

