-- ==== Sys2Proof/Machine/TierEvents.lean ====
section
/-! DEFINITION. Sys2Proof/Machine/TierEvents.lean: the meanings of the events that let waiting work go on: budget room,
T2 fills, deadlines, confirmations, heals, freed granules and frames, Parison, and fences (R150, R151, R208 to R229,
R369, R378, R454). -/

namespace Sys2Proof.Machine

/-- A codeword decrypted and delivered to its frame (R64, R317). -/
def State.deliver (s : State) (u k : Nat) : State :=
  (((s.count Reg.XTS_DEC_UNITS).fillLines u (codewordMask k)).retryFill u).spaceCheck

/-- A codeword of a unit has been read from T2 (R64); one that cannot be decoded needs a heal (R222). -/
def execT2FillDone (unit : Nat) (codeword : Fin 4) (decoded : Bool) (s : State) : Host.Outcome State Fault Refusal :=
  s.core (match s.frame unit with
    | some f =>
      if !f.filling then s
      else if decoded then s.deliver unit codeword.val
      else s.needHeal unit
    | none => s)

/-- First and last byte of a transaction that lie in lines not yet delivered. -/
def State.undelivered (s : State) (t : Txn) : Option (Nat × Nat) :=
  let missing (i : Nat) : Bool :=
    let l := (t.addr + i) / 64
    match s.frame (l / 256) with
    | some f => !(f.valid.getLsbD (l % 256)) || match s.line l with
      | some x => x.filling
      | none => s.tier.uncorr.contains ((t.addr + i) / 8)
    | none => true
  let bad := (List.range t.len).filter missing
  match bad.head?, bad.getLast? with
  | some a, some b => some (a, b)
  | _, _ => none

/-- The bytes of a read at its deadline: the poison pattern where nothing was delivered or a range failed (R225). -/
def State.deadlineBytes (s : State) (t : Txn) (r : Region) : List Byte :=
  (List.range t.len).map (fun i =>
    let a := t.addr + i
    let l := a / 64
    let there := match s.frame (l / 256) with
      | some f => f.valid.getLsbD (l % 256) && match s.line l with
        | some x => !x.filling
        | none => !(s.tier.uncorr.contains (a / 8))
      | none => false
    if there && !(s.wordFails r (a / 8)) then s.poolByte a else poisonByte (a - t.region))

/-- A READ, COPY source or atomic reaches its deadline (R221, R224, Table 06-4). -/
def execT2Deadline (txn : Nat) (s : State) : Host.Outcome State Fault Refusal :=
  s.core (match s.txn txn with
    | some t =>
      match s.region t.region with
      | some r =>
        if t.accepted && !t.placed && t.op.reads then
          let s := (s.count Reg.TIER_DEADLINE_MISS).record .tierDeadline 0 (leBytes 8 t.addr ++ leBytes 4 t.qpn) 0 (perSecond 0)
          (match t.op with
            | .atomicCas _ _ | .atomicAdd _ => s.placeAtomic t r id true
            | _ =>
              let bad := match s.undelivered t with
                | some b => some b
                | none => some (0, t.len - 1)
              s.updTxn txn (fun x => { x with placed := true, got := s.deadlineBytes t r, failed := bad, ruined := r.failqp })).settle
        else s
      | none => s
    | none => s)

/-! ### CONFIRM (R369) -/

/-- The records that waited for an MSEQ act (R38, R157, R162, R180, R200, R202). -/
def State.recConfirmed (s : State) (k : RecKind) (m : Nat) : State :=
  match k with
  | .doorbell p queue slot v => s.applyDoorbell p.qpn.toNat queue slot v.toNat
  | .fetch n q _ _ => s.updQueue n q (fun x => { x with slots := x.slots.map (fun y => if y.wait = some m then { y with wait := none } else y) })
  | .post n => (s.updQp n (fun q => { q with reqs := q.reqs.map (fun r => if r.wait = some m then { r with wait := none } else r) })).pumpReqs n
  | .place c =>
    if s.tier.pins.any (fun p => p.cap = c) then
      ({ s with tier := { s.tier with pins := s.tier.pins.map (fun p => if p.cap = c then { p with wait := none } else p) } } : State).pinDone c
    else s.okCap c
  | .stream c =>
    match s.tier.streams.find? (fun e => e.2.opener = some c) with
    | some e => (s.updStream e.1 (fun x => { x with openWait := none })).openDone e.1
    | none => s.okCap c
  | .bind n => s.activate n
  | .arm base => s.updRegion base (fun r => { r with armed := true, arming := none })
  | .order _ => s

/-- One frame of a home set is confirmed. -/
def State.confirmOne (s : State) (h m : Nat) : State :=
  let recs := s.cqi.recs.filter (fun r => r.home = h && r.mseq = m)
  let wait := ((s.net.unconf.filter (fun u => u.home = h && u.mseq = m)).map (fun u => s.now - u.at_)).foldl max 0
  let s := s.countMax Reg.TWN_CONFIRM_WAIT_MAX (wait * 1000)
  let fix (t : Txn) : Txn := if t.home = h then
    { t with mseqs := t.mseqs.filter (· != m), armWait := if t.armWait = some m then none else t.armWait } else t
  let s : State := { s with
    net := { s.net with unconf := s.net.unconf.filter (fun u => !(u.home = h && u.mseq = m)), txns := s.net.txns.map fix },
    cqi := { s.cqi with recs := s.cqi.recs.filter (fun r => !(r.home = h && r.mseq = m)) } }
  recs.foldl (fun s r => s.recConfirmed r.kind m) s

/-- A CONFIRM frame from the standby (R369); it counts only while the chip is PAIRED as active side. -/
def execConfirm (home : Fin 2) (entries : List (BitVec 48 × BitVec 16)) (s : State) : Host.Outcome State Fault Refusal :=
  let h := home.val
  s.core (if s.on Fld.TWN_STATUS_LINK_UP && s.paired h then
      (entries.foldl (fun s e => ((span e.1.toNat e.2.toNat).filter (fun m => s.net.unconf.any (fun u => u.home = h && u.mseq = m))).foldl
        (fun s m => s.confirmOne h m) s) s).settle
    else s)

/-! ### Heals (R222, R223, R378) -/

/-- This chip holds every byte of a unit readable: in T1, or on T2, or never written. -/
def State.unitReadable (s : State) (u : Nat) : Bool :=
  !(s.tier.uncorr.any (fun w => w * 8 / unitBytes = u)) && match s.frame u with
    | some f => f.valid = allLines || !f.filling
    | none => true

/-- Poison bits of a 4 KiB piece of a unit. -/
def State.piecePoison (s : State) (u piece : Nat) : Nat :=
  let m : BitVec 256 := match s.frame u with
    | some f => f.poison
    | none => match kget s.flash.map u with
      | some e => e.poison
      | none => 0
  ((m >>> (64 * piece)).toNat) % 2 ^ 64

/-- HEAL_REQ is answered whatever the chip's role (R378). -/
def execHealReq (home : Fin 2) (unit number : Nat) (s : State) : Host.Outcome State Fault Refusal :=
  let h := home.val
  s.core (if !(s.on Fld.TWN_STATUS_LINK_UP) then s
    else if s.unitReadable unit then
      (List.range 4).foldl (fun s i =>
        s.linkSend true 4128 (.heal 6 h unit number i ((span (unit * unitBytes + i * 4096) 4096).map s.anyByte) (s.piecePoison unit i))) (s.count Reg.TWN_HEALS_SERVED)
    else s.linkSend true 32 (.heal 7 h unit number 0 [] 0))

/-- One piece of heal data: missing lines and lines with uncorrectable words are written and dirty (R222). -/
def State.healPiece (s : State) (u piece : Nat) (data : List Byte) (poison : BitVec 64) : State :=
  match s.frame u with
  | some f =>
    let base := u * unitBytes + piece * 4096
    let need (i : Nat) : Bool := !(f.valid.getLsbD (piece * 64 + i)) || s.tier.uncorr.any (fun w => w / 8 = base / 64 + i)
    let ls := (List.range 64).filter need
    let s := ls.foldl (fun s i => s.t1Write (base + i * 64) ((data.drop (i * 64)).take 64)) s
    let mask : BitVec 256 := ls.foldl (fun m i => m ||| lineBit (piece * 64 + i)) 0
    let pm : BitVec 256 := (ls.filter (fun i => poison.getLsbD i)).foldl (fun m i => m ||| lineBit (piece * 64 + i)) 0
    let since := if f.dirty = 0 then s.tier.stamp else f.since
    let vol := s.volatileUnit u
    let s := s.setFrame u { f with valid := f.valid ||| mask, dirty := if vol then f.dirty else f.dirty ||| mask, poison := f.poison ||| pm, since := since }
    { s with tier := { s.tier with stamp := s.tier.stamp + 1, uncorr := s.tier.uncorr.filter (fun w => !(ls.any (fun i => w / 8 = base / 64 + i))) } }
  | none => s

/-- A unit with nothing missing is healed (R222). -/
def State.healDone (s : State) (u : Nat) : State :=
  match s.frame u with
  | some f =>
    if f.valid = allLines && !(s.tier.uncorr.any (fun w => w * 8 / unitBytes = u)) then
      let s := s.setFrame u { f with filling := false, dirty := if s.volatileUnit u then f.dirty else allLines }
      ((({ s with tier := { s.tier with heals := s.tier.heals.filter (fun e => e.1 != u) } } : State).count Reg.TIER_HEAL_OK).streamsDamage u).lostDone u
    else s
  | none => s

/-- HEAL_DATA (R222). -/
def execHealData (home : Fin 2) (unit number : Nat) (piece : Fin 4) (data : List Byte) (poison : BitVec 64) (s : State) :
    Host.Outcome State Fault Refusal :=
  if data.length != 4096 then .refused (.illFormed "HEAL_DATA carries 4,096 bytes (R378)")
  else s.core (if s.tier.heals.contains (unit, number) && s.homeOfUnit unit = some home.val then
      let s := match s.frame unit with
        | some _ => s
        | none => s.newFrame unit true
      (((s.healPiece unit piece.val data poison).healDone unit).retryFill unit).spaceCheck
    else s)

/-- HEAL_FAIL (R223). -/
def execHealFail (home : Fin 2) (unit number : Nat) (s : State) : Host.Outcome State Fault Refusal :=
  s.core (if s.tier.heals.contains (unit, number) && s.homeOfUnit unit = some home.val then s.poisonUnit unit else s)

/-! ### Frames, granules, Parison -/

/-- A float granule is freed (R208): accesses that waited go on. -/
def execFloatGranuleFreed (granule : Nat) (s : State) : Host.Outcome State Fault Refusal :=
  s.core (if (s.granule granule).claims.isEmpty && s.isFloat granule && !(s.granuleDirty granule) then
      let s := if s.granuleResident granule then s.evict granule else s
      let s := s.setGranule granule { s.granule granule with evicting := false }
      let s := s.retry (fun t => { t with waitFloat := false })
      if s.net.txns.any (fun t => t.waitFloat) then s else s.put Fld.TIER_STATUS_FLOAT_SHORT 0
    else s)

/-- Lehr has cleaned a transient frame (R210). -/
def execTransientFrameCleaned (unit : Nat) (s : State) : Host.Outcome State Fault Refusal :=
  s.core (match s.frame unit with
    | some f => if f.transient && f.dirty = 0 then s.retry (fun t => { t with waitTransient := false }) else s
    | none => s.retry (fun t => { t with waitTransient := false }))

/-- Parison has made a layer resident, or could not (R215, R227). -/
def execParisonLayerLoaded (stream layer : Nat) (healed : Bool) (s : State) : Host.Outcome State Fault Refusal :=
  s.core (s.layerLoaded stream layer healed).settle

/-- Every frame of a PIN_T1 range is resident (R200). -/
def execPinLoadDone (c : CapRef) (s : State) : Host.Outcome State Fault Refusal :=
  s.core (match s.tier.pins.find? (fun p => p.cap = c && !p.loaded) with
    | some p =>
      let s := s.loadGranules (span p.first p.count)
      ((({ s with tier := { s.tier with pins := s.tier.pins.map (fun p => if p.cap = c then { p with loaded := true } else p) } } : State).pinDone c)).settle
    | none => s)

/-- The finished layer has not risen for the stall time while readers differ (R218): recorded once for its value. -/
def execStreamStallTimeout (stream : Nat) (s : State) : Host.Outcome State Fault Refusal :=
  s.core (match kget s.tier.streams stream with
    | some x =>
      if (s.reg Reg.TIER_STRM_STALL).toNat != 0 && x.readers.any (fun r => r != x.readers.headD none) && x.stallSeen != some x.finished then
        (s.updStream stream (fun x => { x with stallSeen := some x.finished })).record .tierStreamStall (unitHome x.home) (leBytes 2 stream)
      else s
    | none => s)

/-! ### Fences (R150, R151) -/

/-- Every condition of R150 holds, so the change completes. -/
def execFenceComplete (fence : Nat) (s : State) : Host.Outcome State Fault Refusal :=
  s.core (match s.prot.fences.find? (fun f => f.id = fence) with
    | some f => if s.fenceDone f then (s.fenceEnd f).settle else s
    | none => s)

/-- KEY_FENCE_TMO has passed with a message unfinished (R151). -/
def execFenceTimeout (fence : Nat) (s : State) : Host.Outcome State Fault Refusal :=
  s.core (match s.prot.fences.find? (fun f => f.id = fence) with
    | some f => if f.begun && !f.msgs.isEmpty then s.fenceTimeout f else s
    | none => s)

end Sys2Proof.Machine
end

