-- ==== Sys2Proof/Machine/TwinRoles.lean ====
section
/-! DEFINITION. Sys2Proof/Machine/TwinRoles.lean: tokens and claims, the DELTA of an epoch, going solo, resync, takeover and
planned hand-over (R35 to R46, R357 to R361, R370 to R373, R379 to R400). -/

namespace Sys2Proof.Machine

/-! ### Tokens (R357 to R361) -/

/-- Term of a home set (R379). -/
def State.term (s : State) (h : Nat) : Nat := (s.reg (Reg.TWN_TERM h)).toNat

/-! ### Start-up steps 9 to 11 (Table 16-4) -/

/-- An enabled rail of a group has failed to rise, or is in fault (Table 13-1). -/
def State.groupBad (s : State) (g : Nat) : Bool :=
  (List.range 24).any (fun n => s.on (Fld.PWS_RAIL_EN n) && s.get (Fld.PWS_RAIL_GROUP n) = g &&
    ((s.pw.rails.getD n {}).st == .failed || (s.pw.rails.getD n {}).st == .faulted))

/-- A home set is settled: active, standby, joining, or unserved (Table 16-4). -/
def State.settledHome (s : State) (h : Nat) : Bool := s.role h != 0 || s.pairState h = 5

/-- A unit whose data was not flushed: it takes a frame with nothing in it (R435). -/
def State.emptyUnit (s : State) (u : Nat) : State := s.setFrame u { valid := 0, filling := true, chan := s.pickChan }

/-- Units of an incomplete Quench are asked of the twin, or poisoned where this chip serves them solo (R223, R435). -/
def State.healLost (s : State) : State :=
  s.pw.lost.foldl (fun s u => match s.homeOfUnit u with
    | some h => if s.active h && s.pairState h = 0 then (s.emptyUnit u).poisonUnit u else (s.emptyUnit u).askHeal h u
    | none => s) s

/-- Start-up step 9 ends when every home set is settled, the first hold-up test does not hold it, and a configuration is
in force; port bring-up follows (R441, R509, R511). -/
def State.startup (s : State) : State :=
  if s.get Fld.CFL_BOOTINFO_STEP = 9 && s.settledHome 0 && s.settledHome 1 && (!s.pw.huCold || s.pw.huWaived) && s.boot.configured && !(s.groupBad 2) then
    let s := (s.put Fld.CFL_BOOTINFO_STEP 10).healLost
    (List.range 8).foldl (fun s p => if s.get (Fld.PRT_MODE_RATE p) = 0 then s else s.updPort p (fun x => { x with training := some s.now })) s
  else s

def State.setRole (s : State) (h r : Nat) : State := (s.put (roleField h) r).startup
def State.setPair (s : State) (h x : Nat) : State := (s.put (stateField h) x).startup

/-- The chip is side A (R357). -/
def State.sideA (s : State) : Bool := s.on Fld.TWN_STATUS_SIDE_A

/-- Home set that a side prefers (R357). -/
def State.preferred (s : State) : Nat := if s.sideA then 0 else 1

/-- The Elytra link is up. -/
def State.elytraUp (s : State) : Bool := s.on Fld.TWN_STATUS_LINK_UP

/-- Side A keeps a token against an asserted IN only while the partner is known to be side B (R359). -/
def State.sidePriority (s : State) : Bool := s.sideA && s.elytraUp && s.twin.partnerSideA == some false && !s.twin.conflict

/-- The stand record of a home set is written (R380). -/
def State.standWrite (s : State) (h role : Nat) (complete : Bool) : State :=
  s.updHome h (fun x => { x with srTerm := s.term h, srEpoch := x.epoch, srRole := role, srComplete := complete })

/-- An interlock OUT is driven or released (R358). -/
def State.driveOut (s : State) (h : Nat) (b : Bool) : State :=
  if (s.home h).out = b then s else (s.updHome h (fun x => { x with out := b })).emit (.intlkOut h b)

/-- The chip gives a home set up at once: token and OUT are released (R359, R360). -/
def State.dropToken (s : State) (h : Nat) : State :=
  let had := (s.home h).token
  let s := (s.updHome h (fun x => { x with token := false, claim := none, leaseEnd := if x.lease then some s.now else none })).driveOut h false
  if had then ((s.setRole h 0).setPair h 0).interruptTests (fun t => t.home = h) else s

/-- Every OUT is released (R360). -/
def State.dropTokens (s : State) : State := (s.dropToken 0).dropToken 1

/-- A token is wanted: OUT is asserted once IN reads released and no back-off runs (R359). -/
def State.claimToken (s : State) (h : Nat) (why : ClaimWhy) : State :=
  let x := s.home h
  let s := s.updHome h (fun x => { x with claim := some why })
  if x.inRel && !x.backoff && !x.token then s.driveOut h true else s

/-! ### Solo and records -/

/-- Every record of a home set that waited for a CONFIRM acts (Table 11-8: responses leave at once). -/
def State.confirmAll (s : State) (h : Nat) : State :=
  ((s.net.unconf.filter (fun u => u.home = h)).map (·.mseq)).foldl (fun s m => s.confirmOne h m) s

/-- A home set turns solo on its active side (R21, R38, Table 11-8). -/
def State.goSolo (s : State) (h : Nat) : State :=
  let s := s.setPair h 0
  let s := s.confirmAll h
  let unarm (e : Nat × Region) : Nat × Region := if e.2.home = h then (e.1, { e.2 with armed := false, arming := none, unconf := false }) else e
  let s : State := { s with prot := { s.prot with regions := s.prot.regions.map unarm } }
  let s := s.updHome h (fun x => { x with soloTerm := s.term h, changed := [], bitmapLost := false, deltaSent := [] })
  let s := (s.standWrite h 1 false).record .twnSolo (unitHome h)
  (s.notifyAll h 0x0002 (s.epoch h) h).settle

/-! ### The DELTA (R370 to R372, Table 11-6) -/

/-- State numbers of a QP entry. -/
def qpStateNo : QpState → Fin 4
  | .idle => 0
  | .rtr => 1
  | .rts => 2
  | .error => 3

/-- State numbers of a QUEUE entry. -/
def queueStateNo : QState → Fin 4
  | .disabled => 0
  | .active => 1
  | .frozen => 2
  | .ended => 3

/-- QP entry (Table 11-6). -/
def qpEntry (n : Nat) (q : Qp) : QpEntry :=
  { qpn := BitVec.ofNat 24 n, state := qpStateNo q.st, epsn := q.epsn, cpsn := q.cpsn, msn := BitVec.ofNat 32 q.msn,
    spsn := q.spsn, oldest := q.oldest, resident := q.where_ == .resident, port := Fin.ofNat 8 (q.port.getD 0) }

/-- QP entry of a QP that has been freed. -/
def qpGone (n : Nat) : QpEntry :=
  { qpn := BitVec.ofNat 24 n, state := 0, epsn := 0, cpsn := 0, msn := 0, spsn := 0, oldest := 0, resident := false, port := 0 }

/-- The 32 bytes of a QP entry body: seven numbers of four bytes, the flag byte, zeros (log entry 25). -/
def qpBytes (e : QpEntry) : List Byte :=
  leBytes 4 e.qpn.toNat ++ leBytes 4 e.state.val ++ leBytes 4 e.epsn.toNat ++ leBytes 4 e.cpsn.toNat ++ leBytes 4 e.msn.toNat ++
    leBytes 4 e.spsn.toNat ++ leBytes 4 e.oldest.toNat ++ [BitVec.ofNat 8 ((if e.resident then 1 else 0) + 2 * e.port.val)] ++
    List.replicate 3 0

/-- The digest (R371): QP bodies in ascending QPN, LAST_MSEQ, the response sum. -/
def deltaDigest (es : List QpEntry) (lastMseq : Nat) (sum : BitVec 64) : Nat :=
  crc64 (((sortBy (fun a b => decide (a.qpn.toNat ≤ b.qpn.toNat)) es).map qpBytes).flatten ++ leBytes 8 lastMseq ++ leBytes 8 sum.toNat)

/-- QP entries of the closed epoch. -/
def State.deltaQps (s : State) (h : Nat) : List QpEntry :=
  (sortBy (fun a b => decide (a ≤ b)) (s.home h).touched).map (fun n => match s.qp n with
    | some q => qpEntry n q
    | none => qpGone n)

/-- Armed regions without an unconfirmed write in the closed epoch (R39). -/
def State.disarmable (s : State) (h : Nat) (all : Bool) : List Nat :=
  (s.prot.regions.filter (fun e => e.2.home = h && e.2.armed && (all || !e.2.unconf))).map (·.1)

/-- A key's image for a DELTA or a STATE. -/
def keyEntry (i : Nat) (k : Key) : DeltaEntry := .key i k.tag k.region k.off k.len k.rights k.valid

/-- A queue's image for a DELTA or a STATE. -/
def queueEntry (key : Nat) (q : Queue) : DeltaEntry :=
  .queue (BitVec.ofNat 24 (key / 64)) (Fin.ofNat 64 key) (queueStateNo q.st) q.sqTail q.cursor

/-- Entries of the closed epoch's DELTA, in the order of Table 11-6. -/
def State.deltaEntries (s : State) (h : Nat) (disarm : List Nat) : List DeltaEntry :=
  let x := s.home h
  (s.deltaQps h).map .qp ++
  x.touched.filterMap (fun n => (s.qp n).map (fun q => .filter (BitVec.ofNat 24 n) q.ranges)) ++
  x.newKeys.filterMap (fun i => (s.key i).map (keyEntry i)) ++
  x.newRegions.map (fun r => .region r.1 r.2.2) ++
  (if x.newDirty.isEmpty then [] else [.dirty x.newDirty]) ++
  x.newConfig.map (fun c => .config c.1 c.2) ++
  (if disarm.isEmpty then [] else [.disarm disarm]) ++
  x.newQueues.filterMap (fun k => (kget s.cqi.queues k).map (queueEntry k))

/-- The DELTA of the closed epoch leaves, and its regions are disarmed (R39, R40, R370). -/
def State.sendDelta (s : State) (h : Nat) (final : Bool) : State :=
  let x := s.home h
  let lock := s.pairState h == 2
  let dis := s.disarmable h final
  let es := s.deltaEntries h dis
  let dig := deltaDigest (s.deltaQps h) (x.mseq - 1) (if lock then x.respSum else 0)
  let s := (s.linkSend true (40 + 36 * es.length) (.delta h x.epoch (s.term h) final lock (x.mseq - 1) (BitVec.ofNat 64 dig) es)).count Reg.TWN_DELTA_TX
  let upd (e : Nat × Region) : Nat × Region := if e.2.home = h then
    (e.1, { e.2 with armed := e.2.armed && !(dis.contains e.1), unconf := s.net.unconf.any (fun u => u.home = h && u.region = e.1 && u.ord != 0) }) else e
  let s : State := { s with prot := { s.prot with regions := s.prot.regions.map upd } }
  s.updHome h (fun x => { x with
    deltaSent := x.deltaSent ++ [(x.epoch, (s.link true).txSeq - 1)], touched := [], newKeys := [], newRegions := [],
    newDirty := [], newQueues := [], newConfig := [], respSum := 0 })

/-! ### Resync (R385, R378) -/

def placementNo : Placement → Fin 4
  | .float => 0
  | .pin => 1
  | .stream => 2
  | .t2only => 3

/-- A stream as a record opens it. -/
def streamOpened (id : Nat) (x : Stream) : StreamRec :=
  .opened id x.pd x.tenant x.region x.base x.layerLen x.layers x.window x.readers.length

/-- The six tables of a STATE image (R378). -/
def State.stateTable (s : State) (h : Nat) : Nat → List StateEntry
  | 0 => (s.prot.keys.filter (fun e => ((s.region e.2.region).map (·.home)) = some h)).map (fun e => .delta (keyEntry e.1 e.2))
  | 1 => (s.prot.regions.filter (fun e => e.2.home = h)).map (fun e => .delta (.region false (regionImg e.1 e.2)))
  | 2 => ((s.net.qps.filter (fun e => e.2.home = h)).map (fun e =>
      [.delta (.qp (qpEntry e.1 e.2)), .delta (.filter (BitVec.ofNat 24 e.1) e.2.ranges), .atomics (BitVec.ofNat 24 e.1) e.2.atomics])).flatten
  | 3 => (s.cqi.queues.filter (fun e => ((s.qp (e.1 / 64)).map (·.home)) = some h)).map (fun e => .delta (queueEntry e.1 e.2))
  | 4 => s.tier.granules.map (fun e => .place e.1 (placementNo e.2.place)) ++
      ((s.tier.streams.filter (fun e => e.2.home = h)).map (fun e =>
        .stream (streamOpened e.1 e.2) :: (List.range e.2.readers.length).filterMap (fun i =>
          ((e.2.readers.getD i none)).map (fun l => .stream (.advance e.1 i l))))).flatten
  | _ => s.prot.pds.map (fun e => .pd e.1 e.2.en e.2.admin e.2.tenant e.2.cred)

/-- Units that a resync copies: the granules of the change bitmap, or every unit with data of a persistent region; and
every unit with a written word of a mirrored volatile region (R385). -/
def State.resyncUnits (s : State) (h : Nat) (full : Bool) : List Nat :=
  let mine (u : Nat) : Bool := match s.regionAt (u * unitBytes) with
    | some r => r.2.home == h && !r.2.volatile
    | none => false
  let known := ((s.flash.map.map (·.1)) ++ ((s.tier.frames.filter (fun (e : Nat × Frame) => e.2.dirty != 0)).map (·.1))).eraseDups
  let base := if full then known.filter mine
    else (((s.home h).changed.map (fun g => span (g * 128) 128)).flatten).filter mine
  let vol := ((s.tier.written.map (fun w => w.1 * 8 / unitBytes)).eraseDups).filter (fun u => match s.regionAt (u * unitBytes) with
    | some r => r.2.home == h && r.2.volatile && r.2.mirror
    | none => false)
  base ++ vol

/-- The STATE image leaves (R378). -/
def State.sendState (s : State) (h : Nat) : State :=
  (List.range 6).foldl (fun s t => s.linkSend true 4128 (.stateImage h t (t = 5) (s.stateTable h t))) s

/-- A resync begins: STATE image, pieces, DONE (R385, Table 11-8). -/
def State.startResync (s : State) (h : Nat) (full : Bool) : State :=
  let full := full || (s.home h).bitmapLost
  let s := s.setPair h 1
  let us := s.resyncUnits h full
  let s := s.updHome h (fun x => { x with mseq := 1, matched := 0, tries := 0, copied := false, pieces := 4 * us.length, sent := 4 * us.length, deltaSent := [] })
  let s := s.setReg Reg.TWN_RESYNC (BitVec.ofNat 32 (100 + (if full then 256 else 0) + 512 + 1024 * h))
  let s := s.sendState h
  let s := us.foldl (fun s u => (List.range 4).foldl (fun s i =>
    s.linkSend true 4128 (.piece h (u * unitBytes + i * 4096) ((span (u * unitBytes + i * 4096) 4096).map s.anyByte) (s.piecePoison u i))) s) s
  s.linkSend true 32 (.resyncDone h (4 * us.length))

/-! ### Takeover (R392, R41 to R46) -/

/-- Unmirrored volatile regions of a home set return to never-written (R46). -/
def State.volatileLost (s : State) (h : Nat) (tell : Bool) : State :=
  (s.prot.regions.filter (fun e => e.2.home = h && e.2.volatile && !e.2.mirror)).foldl
    (fun s e =>
      let s := s.unwrite e.1 e.2.len
      if tell then
        (s.boundQps h).foldl (fun s q => if q.2.pd = e.2.pd then s.notify q.1 0 0x0005 0 0 0 (s.lowestKey e.1).toNat else s) s
      else s) s

/-- Loss marks on the regions recorded as armed (R45). -/
def State.lossMarks (s : State) (h : Nat) : State :=
  (s.prot.regions.filter (fun e => e.2.home = h && e.2.recArmed)).foldl
    (fun s e =>
      let qs := s.net.qps.filter (fun q => q.2.home = h && q.2.pd = e.2.pd)
      let s := s.updRegion e.1 (fun r => { r with loss := qs.map (·.1), recArmed := false })
      qs.foldl (fun s q => s.notify q.1 0 0x0004 0 0 0 (s.lowestKey e.1).toNat) s) s

/-- Contiguous runs of a list of SQ indices that rise by one modulo the ring. -/
def idxRuns (size : Nat) : List Nat → List (Nat × Nat)
  | [] => []
  | i :: is => match idxRuns size is with
    | (f, n) :: rest => if f = (i + 1) % size then (i, n + 1) :: rest else (i, 1) :: (f, n) :: rest
    | [] => [(i, 1)]

/-- Fetched capsules without a completion record are abandoned (R185, Table 05-15). -/
def State.abandonCaps (s : State) (h : Nat) : State :=
  let mine := s.cqi.queues.filter (fun (e : Nat × Queue) => ((s.qp (e.1 / 64)).map (·.home)) = some h && e.2.live)
  let lost (q : Queue) : List Nat :=
    sortBy (fun a b =>
      decide ((a + q.sqSize - q.sqHead % q.sqSize) % q.sqSize ≤ (b + q.sqSize - q.sqHead % q.sqSize) % q.sqSize)) ((q.slots.filter (fun x => x.st != .failed)).map (·.idx))
  let total := (mine.map (fun e => (lost e.2).length)).foldl (· + ·) 0
  let s := mine.foldl (fun s (e : Nat × Queue) =>
    let ls := lost e.2
    let q1 : Queue := { e.2 with slots := e.2.slots.filter (fun x => x.st == .failed) }
    let s := s.updQueue (e.1 / 64) (e.1 % 64) (fun _ => { q1 with sqHead := q1.oldest })
    (idxRuns e.2.sqSize ls).foldl (fun s r => s.notify (e.1 / 64) (e.1 % 64) 0x0007 (e.1 % 64) (r.1 + r.2 * 65536) 0 0) s) s
  if total = 0 then s else (s.countBy Reg.CQI_ABANDONS total).record .cqiAbandoned (unitHome h) (leBytes 4 total)

/-- The recorded completion and notification writes at or above the oldest unacknowledged PSN are issued again with
their content and PSN (R186). -/
def State.reissue (s : State) (h : Nat) : State :=
  (s.net.qps.filter (fun e => e.2.home = h)).foldl (fun s e =>
    let n := e.1
    let again := (s.home h).held.filterMap (fun r => match r with
      | .post qpn queue nq idx psn entry =>
        if qpn = n && psnLe e.2.oldest psn then
          (s.queue n queue).map (fun q =>
            ({ psn := psn, count := 1, kind := if nq then .postNq queue idx else .postCq queue idx,
               hostAddr := if nq then q.nqAddr + 32 * idx else q.cqAddr + 16 * idx, hostKey := e.2.ringKey, data := entry,
               imm := if q.flags.testBit (if nq then 1 else 0) then some (entryImm nq queue idx) else none } : DevReq))
        else none
      | _ => none)
    let next := again.foldl (fun (p : Psn) r => if psnLe p (r.psn + 1) then r.psn + 1 else p) e.2.spsn
    (s.updQp n (fun q => { q with reqs := again, spsn := next, retry := 0 })).pumpReqs n) s

/-- Every QP of the home set is rewound: E is its expected PSN; resident ones send their rewind NAK now, the others at
their fetch (R41, R124 to R126, R392). -/
def State.rewindAll (s : State) (h : Nat) : State :=
  let mine := s.net.qps.filter (fun e => e.2.home = h && e.2.receives)
  let room := 65536 - (s.net.qps.filter (fun e => e.2.home != h && e.2.where_ != .spilled)).length
  let keep := ((mine.map (·.1)).filter (fun n => (s.home h).resident.contains n)).take room
  let s := mine.foldl (fun s e => s.updQp e.1 (fun q => { q with
    rewound := true, dropped := [], openMsg := none, closing := false, rewindDue := true, cpsn := q.epsn - 1,
    uncovered := 0, dupAcked := false, where_ := if keep.contains e.1 then .resident else .spilled })) s
  let s := keep.foldl State.sendRewind s
  if mine.all (fun e => keep.contains e.1) && !mine.isEmpty then s.record .trnRewindDone (unitHome h) else s

/-- Gratuitous ARPs and unsolicited advertisements on every port that is up (R392); a manager announces its directory
address on the colony link with home set 0 (R406, R416). -/
def State.gratuitous (s : State) (h : Nat) : State :=
  let s := (List.range 8).foldl (fun s p => if s.linkUp p then s.emit (.gratuitous p h) else s) s
  if h = 0 && s.on Fld.COL_CTRL_MANAGER then s.emit .colonyAdvert else s

/-- The chip has the token of a home set that it stood by for: it becomes active (R392, R398, R379). -/
def State.takeUp (s : State) (h : Nat) (sudden : Bool) : State :=
  let known := ((s.twin.bids.map (fun b => ((b.getD h { term := 0, epoch := 0, role := 0 }).term).toNat)).getD 0)
  let s := s.setReg (Reg.TWN_TERM h) (BitVec.ofNat 32 (max (s.term h) known + 1))
  let s := s.setRole h 1
  let solo := sudden || !(s.elytraUp) || s.twin.partnerPfw
  let s := s.setPair h (if solo then 0 else 3)
  let s := s.updHome h (fun x => { x with
    epoch := x.epoch + 1, final := false, mseq := 1, changed := [], changeHours := s.stamp / 4096, soloTerm := if solo then s.term h else x.soloTerm,
    takeovers := if sudden then x.takeovers + 1 else x.takeovers })
  let s : State := { s with net := { s.net with stopped := s.net.stopped.filter (· != h) } }
  let s := if sudden then s.lossMarks h else s
  let s := s.volatileLost h true
  let s := s.reissue h
  let s := s.abandonCaps h
  let s := s.updHome h (fun x => { x with held := [], arpsDue := 2 })
  let s := (s.tier.streams.filter (fun e => e.2.home = h)).foldl (fun s e =>
    (s.updStream e.1 (fun x => { x with loaded := [], loading := none, opener := none, openWait := none })).parisonNext e.1) s
  let s := if solo then (s.standWrite h 1 false).notifyAll h 0x0002 (s.epoch h) h else s.standWrite h 2 false
  let s := s.gratuitous h
  let s := s.rewindAll h
  let s := if sudden then (s.count Reg.TWN_TAKEOVERS).record .twnTakeover (unitHome h) else s
  s.settle

/-- The token has been won (R359, R379, R380). -/
def State.tokenWon (s : State) (h : Nat) : State :=
  let why := (s.home h).claim.getD .pairing
  let s := s.updHome h (fun x => { x with token := true, claim := none, backoff := false })
  match why with
  | .takeover => s.takeUp h true
  | .handover => s.takeUp h false
  | w =>
    let known := ((s.twin.bids.map (fun b => ((b.getD h { term := 0, epoch := 0, role := 0 }).term).toNat)).getD 0)
    let s := s.setReg (Reg.TWN_TERM h) (BitVec.ofNat 32 (max (s.term h) (max known ((s.home h).srTerm)) + 1))
    let s := ((s.setRole h 1).setPair h 0).updHome h (fun x => { x with
      epoch := max x.epoch x.srEpoch + 1, soloTerm := s.term h, changed := [], changeHours := s.stamp / 4096 })
    let s := (s.standWrite h 1 false)
    let s : State := { s with net := { s.net with stopped := s.net.stopped.filter (· != h) } }
    let s := if w = .forced then s.record .twnForcedSolo (unitHome h) else s
    let s := s.gratuitous h
    match s.twin.bids with
    | some b =>
      let r := b.getD h { term := 0, epoch := 0, role := 0 }
      if w = .pairing && s.elytraUp && !(s.home h).diverged then
        s.startResync h (!(r.term.toNat = (s.home h).soloTerm && (r.role.val = 3 || r.role.val = 5)))
      else s
    | none => s

/-! ### Planned hand-over (R398, Table 11-10) -/

/-- READs of a home set that wait on T2 are abandoned (Table 11-10, R395). -/
def State.abandonReads (s : State) (h : Nat) : State :=
  let ab (t : Txn) : Txn := if t.home = h && t.op.reads && t.accepted && !t.placed && t.waitFill && t.cap.isNone then { t with abandoned := true } else t
  { s with net := { s.net with txns := s.net.txns.map ab } }

/-- Stage 5 stops accepting for a home set; packets that wait before it are never accepted here (Table 01-9). -/
def State.stopHome (s : State) (h : Nat) : State :=
  let other (x : Held) : Bool := ((s.qp x.qpn).map (·.home)) != some h
  let live (t : Txn) : Bool := t.accepted || t.home != h
  ({ s with net := { s.net with
    stopped := h :: s.net.stopped.filter (· != h), held := s.net.held.filter other, txns := s.net.txns.filter live } } : State).abandonReads h

/-- A planned hand-over begins, or is refused because the home set is not PAIRED or the partner is in power-fail (R398,
R399); one started by command or reclaim waits for a roll (Table 19-1). -/
def State.beginHandover (s : State) (h : Nat) (next : HandNext) : State × Bool :=
  if !(s.paired h) || s.twin.partnerPfw || (s.home h).handing then (s, false)
  else if next = .serve && s.on Fld.GLB_STATUS_MIXED then (s.updHome h (fun x => { x with handWait := true }), true)
  else ((s.stopHome h).updHome h (fun x => { x with handing := true, handNext := next, handWait := false }), true)

/-- Accepted transactions have finished placement, CONFIRM and response (Table 11-10 step 2). -/
def State.drainedHome (s : State) (h : Nat) : Bool :=
  let stuck (t : Txn) : Bool := s.net.txns.any (fun x => x.abandoned && x.qpn = t.qpn && decide (x.ord ≤ t.ord))
  s.net.txns.all (fun t => t.home != h || t.abandoned || (t.placed && t.mseqs.isEmpty && t.armWait.isNone && (stuck t || t.cap.isSome))) &&
  s.net.unconf.all (fun u => u.home != h)

/-- The FINAL DELTA leaves with every region disarmed, the token is released, and the chip becomes standby (Table 11-10
steps 3 and 4, R46, R399). -/
def State.passToken (s : State) (h : Nat) : State :=
  let s := s.sendDelta h true
  let s := (s.updHome h (fun x => { x with
    token := false, handing := false, handovers := x.handovers + 1, changeHours := s.stamp / 4096, epoch := x.epoch + 1, rxMseq := 0 })).driveOut h false
  let s := s.setRole h 2
  let s : State := { s with
    net := { s.net with stopped := s.net.stopped.filter (· != h), txns := s.net.txns.filter (fun t => t.home != h),
                        held := s.net.held.filter (fun x => ((s.qp x.qpn).map (·.home)) != some h) },
    prot := { s.prot with fences := s.prot.fences.filter (fun f => f.home != h) } }
  let s := s.interruptTests (fun t => t.home = h)
  let s := s.volatileLost h false
  ((s.standWrite h 5 false).count Reg.TWN_HANDOVERS).record .twnHandover (unitHome h)

/-- Service ends on this chip and both home sets go to the twin; one that cannot be handed over is not served any more
(R61, R283). -/
def State.stopService (s : State) (next : HandNext) : State :=
  [0, 1].foldl (fun s h =>
    if s.active h then
      let r := s.beginHandover h next
      if r.2 then r.1 else s.stopHome h
    else s) s

end Sys2Proof.Machine
end

