-- ==== Sys2Proof/Machine/TwinLink.lean ====
section
/-! DEFINITION. Sys2Proof/Machine/TwinLink.lean: the interlocks, the Elytra link, heartbeats, leases, pairing, the health
word and the twin commands (R357 to R366, R374 to R376, R381 to R384, R389, R390, R394 to R401). -/

namespace Sys2Proof.Machine

/-! ### Interlocks and tokens -/

/-- IN of a home set reads released (R359): the 0.5 µs wait before a claim or a takeover begins. -/
def execIntlkInReleased (home : Fin 2) (s : State) : Host.Outcome State Fault Refusal :=
  .next (s.updHome home.val (fun x => { x with inRel := true }))

/-- IN of a home set becomes asserted (R359): inside an announced test pulse a holder ignores it. -/
def execIntlkInAsserted (home : Fin 2) (s : State) : Host.Outcome State Fault Refusal :=
  let h := home.val
  .next (if s.twin.pulse = some h && (s.home h).token then { s with twin := { s.twin with pulse := none } }
    else
      let s := s.updHome h (fun x => { x with inRel := false })
      if (s.home h).token && !s.sidePriority && !(s.home h).intlkFaulty then
        ((s.dropToken h).updHome h (fun x => { x with backoff := !(s.elytraUp && s.twin.partnerSideA.isSome) || s.twin.conflict })).record
          .twnClaimLost (unitHome h)
      else s)

/-- 0.5 µs after OUT was asserted the claiming chip samples IN (R359). -/
def execTokenClaimSample (home : Fin 2) (released : Bool) (s : State) : Host.Outcome State Fault Refusal :=
  let h := home.val
  let x := s.home h
  s.core (if x.out && !x.token && x.claim.isSome then
      let s := s.updHome h (fun x => { x with inRel := released })
      if released || s.sidePriority then s.tokenWon h
      else ((s.driveOut h false).updHome h (fun x => { x with backoff := true })).record .twnClaimLost (unitHome h)
    else s)

/-- The back-off of a lost claim has ended (R359). -/
def execClaimBackoffExpiry (home : Fin 2) (s : State) : Host.Outcome State Fault Refusal :=
  let h := home.val
  s.core (if (s.home h).backoff then
      let s := s.updHome h (fun x => { x with backoff := false })
      match (s.home h).claim with
      | some w => s.claimToken h w
      | none => s
    else s)

/-- IN has read released for 0.5 µs (R359, R391): a claim that waited asserts OUT; a standby of a PAIRED home set that
has no FINAL DELTA takes it over; with a FINAL DELTA it claims it (Table 11-10). A joining chip leaves it unserved (R393). -/
def execReleaseConfirmed (home : Fin 2) (s : State) : Host.Outcome State Fault Refusal :=
  let h := home.val
  let x := s.home h
  s.core (if !x.inRel || x.token then s
    else match x.claim with
      | some w => s.claimToken h w
      | none =>
        if s.standby h && s.pairState h = 3 && !x.intlkFaulty then s.claimToken h (if x.final then .handover else .takeover)
        else if s.role h = 3 then ((s.setPair h 5).setRole h 0).record .twnUnserved (unitHome h)
        else s)

/-- The heartbeat has been silent for 8 µs: the token logic releases every OUT (R360). -/
def execHeartbeatSilence (s : State) : Host.Outcome State Fault Refusal := s.core s.dropTokens

/-! ### The link (R362 to R365) -/

/-- Lanes in service. -/
def State.lanes (s : State) : Nat := ((List.range 8).filter (fun i => s.regBit Reg.TWN_LINK i)).length

/-- LANES and the LINK_DEGRADED bit of the health word follow the lanes (Table 11-9, Table 11-15). -/
def State.laneStatus (s : State) : State :=
  let n := s.lanes
  (s.put Fld.TWN_STATUS_LANES n).setRegBit Reg.TWN_HEALTH 10 (decide (n < 8))

/-- Both streams start again (R364, R365). -/
def State.linkReset (s : State) : State :=
  { s with twin := { s.twin with bulk := { credits := 16384 }, ctl := { credits := 256 } } }

/-- Each chip's two stand records (R378, R381). -/
def State.ownBid (s : State) : List StandRec :=
  [0, 1].map (fun h =>
    let x := s.home h
    { term := BitVec.ofNat 32 (max x.srTerm (s.term h)), epoch := BitVec.ofNat 64 (max x.srEpoch x.epoch),
      role := Fin.ofNat 6 (if s.active h then (if s.pairState h = 3 then 2 else 1) else x.srRole), complete := x.srComplete })

/-- The link is down (R365, Table 11-8, R391): each active side turns solo, a chip that stood by keeps its mirror frames and
stands by no longer, unless the home set runs on leases. -/
def State.linkDown (s : State) : State :=
  if !(s.elytraUp) then s
  else
    let s := (s.put Fld.TWN_STATUS_LINK_UP 0).linkReset
    let s : State := { s with twin := { s.twin with partnerSideA := none, bids := none, hbSeen := false } }
    let s := s.record .twnLinkDown
    [0, 1].foldl (fun s h =>
      if s.active h then
        if s.pairState h = 3 then
          (s.updHome h (fun x => { x with handing := false })).goSolo h
        else if s.pairState h = 5 then s else s.setPair h 0
      else if s.standby h && (s.home h).lease then s
      else if s.standby h || s.role h = 3 then (s.setRole h 0).setPair h 0 else s) s

/-- A lane reaches FEC lock (R362); the link comes up with its first lane, and BIDs are exchanged (R381, R383). -/
def execElytraLaneLock (lane : Fin 8) (s : State) : Host.Outcome State Fault Refusal :=
  s.core (let s := (s.setRegBit Reg.TWN_LINK lane.val true).laneStatus
    if s.elytraUp then s
    else
      let s := ((s.put Fld.TWN_STATUS_LINK_UP 1).linkReset).record .twnLinkUp
      if s.on Fld.TWN_CTRL_EN then s.linkSend true 96 (.bid s.ownBid) else s)

/-- A lane loses lock (R362): its frames in flight are replayed; with the last lane the link is down (R365). -/
def execElytraLaneDown (lane : Fin 8) (s : State) : Host.Outcome State Fault Refusal :=
  s.core (if s.regBit Reg.TWN_LINK lane.val then
      let s := ((s.setRegBit Reg.TWN_LINK lane.val false).laneStatus).record .twnLaneDown (unitChan lane.val)
      if s.lanes = 0 then s.linkDown else s
    else s)

/-- No frame for 12 µs (R365). -/
def execElytraLinkSilence (s : State) : Host.Outcome State Fault Refusal := s.core s.linkDown

/-- A frame that fails its CRC-32 is discarded and REPLAY_REQ is due (R364). -/
def execElytraFrameCrcFail (bulk : Bool) (s : State) : Host.Outcome State Fault Refusal :=
  s.core (if s.elytraUp then (({ s with twin := { s.twin with crcErrs := s.twin.crcErrs + 1 } } : State).count Reg.TWN_CRC_ERR).updLink bulk (fun x => { x with replayReq := true }) else s)

/-- A gap in SEQ has not been filled within 1 µs (R364). -/
def execSeqGapTimeout (bulk : Bool) (s : State) : Host.Outcome State Fault Refusal :=
  s.core (if s.elytraUp then s.updLink bulk (fun x => { x with replayReq := true }) else s)

/-- A CONFIRM without entries carries acknowledgements and credits (R364). -/
def execAckCarrierTimeout (s : State) : Host.Outcome State Fault Refusal :=
  s.core (if s.elytraUp then s.linkSend false 8 (.confirm 0 0 0) else s)

/-- What the partner has acknowledged: replay buffers shrink, DELTAs count as received (R150, R364, R568). -/
def State.linkAck (s : State) (bulk : Bool) (ack cred : Nat) (again : Bool) : State :=
  let x := s.link bulk
  let s := s.updLink bulk (fun x => { x with replay := min x.replay (x.txSeq - 1 - ack), credits := x.credits + cred })
  let n := min x.replay (x.txSeq - 1 - ack)
  let s := if again then ({ s with twin := { s.twin with resent := s.twin.resent + n } } : State).countBy Reg.TWN_REPLAY n else s
  let s := if bulk then [0, 1].foldl (fun s h =>
      let got := ((s.home h).deltaSent.filter (fun d => decide (d.2 ≤ ack))).map (·.1)
      if got.isEmpty then s
      else
        let top := got.foldl max 0
        let s := s.updHome h (fun y => { y with deltaSent := y.deltaSent.filter (fun d => decide (ack < d.2)) })
        let mark (f : Fence) : Fence := if f.home = h && f.begun && decide (f.epoch ≤ top) then { f with delta := true } else f
        { s with
          prot := { s.prot with fences := s.prot.fences.map mark }
          cfg := { s.cfg with commit := s.cfg.commit.map (fun c => if c.home = h && c.joint && decide (c.n ≤ top + 1) then { c with delta := true } else c) } }) s
    else s
  s.linkPump bulk 4096

/-- A frame arrives in the order of its stream (R364). -/
def State.twinIn (s : State) (x : Ely) (bulk : Bool) (go : State → State) : State :=
  if !(s.elytraUp) || s.still then s
  else
    let s := s.updLink bulk (fun y => { y with rxSeq := y.rxSeq + 1 })
    let s := (s.linkAck true x.ackBulk x.credBulk x.replayBulk).linkAck false x.ackCtl x.credCtl x.replayCtl
    go s

/-- A DATA, LOCKSTEP_INGRESS or RESYNC frame, which wakes the chip (R463, R466). -/
def State.twinWakeIn (s : State) (x : Ely) (go : State → State) : State := s.twinIn x true (fun s => go (s.wake 2))

/-! ### Lease mode (R394 to R397) -/

/-- Lease mode of a home set begins (R394). -/
def State.leaseOn (s : State) (h : Nat) : State :=
  if (s.home h).lease then s
  else
    ((s.updHome h (fun x => { x with lease := true, leaseNo := 0, leaseEnd := none, granted := none })).put (leaseField h) 1).record
      .twnLeaseMode (unitHome h)

/-- Lease mode of a home set ends. -/
def State.leaseOff (s : State) (h : Nat) : State :=
  if (s.home h).lease && !(s.on Fld.TWN_CTRL_LEASE_FORCE) then
    ((s.updHome h (fun x => { x with lease := false, leaseEnd := none, granted := none })).put (leaseField h) 0)
  else s

/-- An interlock is faulty (R390): its health bit is set and lease mode begins. -/
def State.intlkFault (s : State) (h : Nat) : State :=
  ((s.updHome h (fun x => { x with intlkFaulty := true, intlkGood := 0 })).setRegBit Reg.TWN_HEALTH (6 + h) true).leaseOn h

/-- A check of an interlock passed; after 16 in a row a faulty one is in service again (R390, R394). -/
def State.intlkPass (s : State) (h : Nat) : State :=
  let s := s.updHome h (fun x => { x with intlkGood := x.intlkGood + 1, intlkBad := 0 })
  if (s.home h).intlkFaulty && decide (16 ≤ (s.home h).intlkGood) then
    (((s.updHome h (fun x => { x with intlkFaulty := false })).setRegBit Reg.TWN_HEALTH (6 + h) false).leaseOff h).record .twnIntlkOk (unitHome h)
  else s

/-- A heartbeat's levels for one interlock: three contradictions in a row make it faulty (R390). -/
def State.intlkLevels (s : State) (h : Nat) (theirOut theirRel : Bool) : State :=
  let x := s.home h
  if x.out = theirRel || theirOut = x.inRel then
    let s := s.updHome h (fun x => { x with intlkBad := x.intlkBad + 1, intlkGood := 0 })
    if 3 ≤ (s.home h).intlkBad && !(s.home h).intlkFaulty then s.intlkFault h else s
  else s.intlkPass h

/-- A REQUEST is answered with a GRANT that expires 20 µs later (R394). -/
def execLeaseRequest (x : Ely) (home : Fin 2) (number : BitVec 32) (s : State) : Host.Outcome State Fault Refusal :=
  let h := home.val
  s.core (s.twinIn x false (fun s =>
    if s.active h then s
    else
      let e := s.now + 20
      (s.updHome h (fun y => { y with granted := some (number.toNat, e) })).linkSend false 16 (.lease 2 h number.toNat (e * 1000))))

/-- A GRANT sets the end of the holder's lease: EXPIRY in its own clock less 0.1 µs (R394). -/
def execLeaseGrant (x : Ely) (home : Fin 2) (number : BitVec 32) (expiry : BitVec 64) (s : State) : Host.Outcome State Fault Refusal :=
  let h := home.val
  s.core (s.twinIn x false (fun s =>
    if s.active h && (s.home h).lease && decide (number.toNat ≤ (s.home h).leaseNo) then
      let own := ((expiry.toNat : Int) - (s.reg Reg.TWN_OFFSET).toInt - 100) / 1000
      s.updHome h (fun y => { y with leaseEnd := some own.toNat })
    else s))

/-- A RELEASE ends the lease that it names (R375). -/
def execLeaseRelease (x : Ely) (home : Fin 2) (number : BitVec 32) (s : State) : Host.Outcome State Fault Refusal :=
  s.core (s.twinIn x false (fun s => s.updHome home.val (fun y => { y with granted := match y.granted with
    | some (n, e) => if n = number.toNat then none else some (n, e)
    | none => none })))

/-- Every 5 µs the holder asks for its lease (R394). -/
def execLeaseRequestTimer (s : State) : Host.Outcome State Fault Refusal :=
  s.core ([0, 1].foldl (fun s h =>
    if s.active h && (s.home h).lease && s.elytraUp then
      let n := (s.home h).leaseNo + 1
      (s.updHome h (fun x => { x with leaseNo := n })).linkSend false 16 (.lease 1 h n 0)
    else s) s)

/-- The holder's lease ends (R395). -/
def execLeaseEnd (home : Fin 2) (s : State) : Host.Outcome State Fault Refusal :=
  let h := home.val
  s.core (if s.active h && (s.home h).lease then
      ((s.updHome h (fun x => { x with leaseEnd := some s.now })).abandonReads h).count Reg.TWN_LEASE_LAPSE
    else s)

/-- 3 µs after EXPIRY without a new REQUEST the grantor takes the home set over, if it was PAIRED; with the link down
only side A does (R395, R397). -/
def execLeaseGuardExpiry (home : Fin 2) (s : State) : Host.Outcome State Fault Refusal :=
  let h := home.val
  s.core (if s.standby h && s.pairState h = 3 && (s.home h).lease && (s.home h).granted.isSome && (s.elytraUp || s.sideA) then
      ((s.driveOut h true).updHome h (fun x => { x with token := true, claim := none, granted := none, leaseEnd := none })).takeUp h true
    else s)

/-! ### Heartbeats (R374) -/

/-- Every 4 µs a HEARTBEAT leaves; a period without one received is counted (R374, TWN_HB_MISS). -/
def execHeartbeatTimer (s : State) : Host.Outcome State Fault Refusal :=
  s.core (if s.elytraUp then
      let s := if s.twin.hbSeen then s else (s.count Reg.TWN_HB_MISS)
      let n := s.twin.hbCount + 1
      ({ s with twin := { s.twin with hbCount := n, hbSeen := false, hbMissed := if s.twin.hbSeen then 0 else s.twin.hbMissed + 1 } } : State).linkSend
        false 40 (.heartbeat n)
    else { s with twin := { s.twin with hbCount := s.twin.hbCount + 1 } })

/-- A HEARTBEAT received: clocks, roles, levels, power-fail warning (R357, R374, R390). -/
def State.heartbeatIn (s : State) (m : HbMsg) : State :=
  let own := s.now * 1000
  let rtt := (own - m.echo.toNat) - (m.time.toNat - m.held.toNat)
  let off := BitVec.ofInt 32 ((m.time.toNat : Int) + (rtt / 2 : Nat) - own)
  let first := s.twin.partnerSideA.isNone
  let s := (s.setReg Reg.TWN_OFFSET off).put Fld.TWN_LINK_RTT (min rtt 65535)
  let s := s.putB Fld.TWN_STATUS_PARTNER_PFW m.pfw
  let s : State := { s with twin := { s.twin with
    partnerSideA := some m.sideA, partnerPfw := m.pfw, partnerRoles := [m.role0.val, m.role1.val], hbSeen := true, hbMissed := 0,
    hbTime := m.time.toNat, pulse := if m.pulseA then some 0 else if m.pulseB then some 1 else s.twin.pulse } }
  let s := if first && m.sideA = s.sideA then
      ({ s with twin := { s.twin with conflict := true } } : State).record .twnSideConflict
    else s
  let s := (s.intlkLevels 0 m.outA m.relA).intlkLevels 1 m.outB m.relB
  let s := if m.lease0 then s.leaseOn 0 else s
  if m.lease1 then s.leaseOn 1 else s

/-- A HEARTBEAT frame (R374). -/
def execHeartbeat (x : Ely) (m : HbMsg) (s : State) : Host.Outcome State Fault Refusal := s.core (s.twinIn x false (fun s => s.heartbeatIn m))

/-! ### Pairing (R381 to R384) -/

/-- Order of two stand records for a home set: (TERM, EPOCH), ROLE 4 below every other (R381). -/
def recBelow (a b : StandRec) : Bool :=
  if a.role.val = 4 && b.role.val ≠ 4 then true
  else if b.role.val = 4 && a.role.val ≠ 4 then false
  else decide (a.term.toNat < b.term.toNat) || (decide (a.term = b.term) && decide (a.epoch.toNat < b.epoch.toNat))

/-- The partner of an active side has diverged (R381 rule 3). -/
def diverges (active partner : StandRec) : Bool :=
  decide (active.term.toNat < partner.term.toNat) || (decide (active.term = partner.term) && (partner.role.val = 1 || partner.role.val = 2))

/-- The chip joins a home set; before a full resync it discards its own T2 copy (R385). -/
def State.joinHome (s : State) (h : Nat) (full : Bool) : State :=
  let s := ((s.setRole h 3).setPair h 1).updHome h (fun x => { x with rxMseq := 0, held := [], final := false, copied := false, acceptResync := false })
  let s := s.standWrite h 4 false
  if full then
    (s.prot.regions.filter (fun e => e.2.home = h)).foldl (fun (s : State) (e : Nat × Region) =>
      { s with
        flash := { s.flash with map := s.flash.map.filter (fun m => !(within (e.1 / unitBytes) (e.2.len / unitBytes) m.1)), t2 := memClear s.flash.t2 e.1 e.2.len, prog := s.flash.prog.filter (fun m => !(within (e.1 / unitBytes) (e.2.len / unitBytes) m.1)) }
        tier := { s.tier with
          frames := s.tier.frames.filter (fun f => !(within (e.1 / unitBytes) (e.2.len / unitBytes) f.1)),
          lines := s.tier.lines.filter (fun l => !(within (e.1 / 64) (e.2.len / 64) l.1)), t1 := memClear s.tier.t1 e.1 e.2.len } }) s
  else s

/-- One home set is settled by the two stand records (R381). -/
def State.settleHome (s : State) (h : Nat) (mine theirs : StandRec) : State :=
  let incr (r : StandRec) (solo : Nat) : Bool := r.term.toNat = solo && (r.role.val = 3 || r.role.val = 5)
  if s.active h then
    if s.pairState h = 3 then s
    else if diverges mine theirs then (s.updHome h (fun x => { x with diverged := true })).record .twnDiverged (unitHome h)
    else (s.updHome h (fun x => { x with diverged := false })).startResync h (!(incr theirs (s.home h).soloTerm))
  else if s.twin.partnerRoles.getD h 0 = 1 then
    if diverges theirs mine && !(s.home h).acceptResync then (s.updHome h (fun x => { x with diverged := true })).record .twnDiverged (unitHome h)
    else s.joinHome h (!(incr mine theirs.term.toNat))
  else
    let win := if recBelow theirs mine then true else if recBelow mine theirs then false else s.preferred = h
    if win then
      let s := s.updHome h (fun x => { x with diverged := diverges mine theirs })
      let s := if diverges mine theirs then s.record .twnDiverged (unitHome h) else s
      s.claimToken h .pairing
    else if diverges theirs mine && !(s.home h).acceptResync then (s.updHome h (fun x => { x with diverged := true })).record .twnDiverged (unitHome h)
    else s.joinHome h (!(incr mine theirs.term.toNat))

/-- A BID (R381): it settles each home set, unless the straps conflict or the chip does not pair (R357, R383). -/
def execBid (x : Ely) (rec0 rec1 : StandRec) (s : State) : Host.Outcome State Fault Refusal :=
  s.core (s.twinWakeIn x (fun s =>
    if s.twin.conflict || !(s.on Fld.TWN_CTRL_EN) then s
    else
      let s : State := { s with twin := { s.twin with bids := some [rec0, rec1], pairWait := false } }
      let mine := s.ownBid
      let z : StandRec := { term := 0, epoch := 0, role := 0 }
      (s.settleHome 0 (mine.getD 0 z) rec0).settleHome 1 (mine.getD 1 z) rec1))

/-- No BID within TWN_PAIR.WAIT (R382). -/
def execPairWaitExpiry (s : State) : Host.Outcome State Fault Refusal :=
  s.core (if !s.twin.pairWait || !(s.on Fld.TWN_CTRL_EN) then s
    else
      let s : State := { s with twin := { s.twin with pairWait := false } }
      [0, 1].foldl (fun s h =>
      if s.active h then s
      else if (s.home h).srRole = 1 && (s.home h).inRel then (s.claimToken h .absent).record .twnPartnerAbsent (unitHome h)
      else s.setPair h 5) s)

/-! ### Commands (R381, R382, R384, R398; TWN_CMD) -/

/-- HANDOVER. -/
def State.cmdHandover (s : State) (h : Nat) : State := (s.beginHandover h .serve).1

/-- FORCE_SOLO (R382). -/
def State.cmdForceSolo (s : State) (h : Nat) : State := if (s.home h).token then s else s.claimToken h .forced

/-- ACCEPT_RESYNC on a diverged chip (R381): it bids again, as joining. -/
def State.cmdAcceptResync (s : State) (h : Nat) : State :=
  if (s.home h).diverged && !(s.active h) then
    let s := (s.updHome h (fun x => { x with diverged := false, acceptResync := true, srTerm := 0, srEpoch := 0, srRole := 4, srComplete := false, epoch := 0 })).setReg (Reg.TWN_TERM h) 0
    if s.elytraUp && s.on Fld.TWN_CTRL_EN then
      let s := if s.twin.partnerRoles.getD h 0 = 1 then s.joinHome h true else s
      s.linkSend true 96 (.bid s.ownBid)
    else s
  else s

/-- RETRY_ADMIT (Table 11-8). -/
def State.cmdRetryAdmit (s : State) (h : Nat) : State := if s.active h && s.pairState h = 4 then s.startResync h true else s

/-- VERIFY (Table 11-8): de-admission, a new STATE image, lockstep without pieces. -/
def State.cmdVerify (s : State) (h : Nat) : State :=
  if s.paired h then
    let s := s.goSolo h
    let s := (s.updHome h (fun x => { x with matched := 0, tries := 0, inseq := 0, respSum := 0 })).sendState h
    s.setPair h 2
  else s

/-- A write of TWN_CMD (Table 11-16). -/
def State.twnCmd (s : State) (op h : Nat) : State :=
  match op with
  | 1 => s.cmdHandover h
  | 2 => s.cmdForceSolo h
  | 3 => s.cmdAcceptResync h
  | 4 => s.cmdRetryAdmit h
  | 5 => s.cmdVerify h
  | _ => s

def execHandover (home : Fin 2) (s : State) : Host.Outcome State Fault Refusal := s.core (s.cmdHandover home.val)
def execForceSolo (home : Fin 2) (s : State) : Host.Outcome State Fault Refusal := s.core (s.cmdForceSolo home.val)
def execAcceptResync (home : Fin 2) (s : State) : Host.Outcome State Fault Refusal := s.core (s.cmdAcceptResync home.val)
def execRetryAdmit (home : Fin 2) (s : State) : Host.Outcome State Fault Refusal := s.core (s.cmdRetryAdmit home.val)
def execVerify (home : Fin 2) (s : State) : Host.Outcome State Fault Refusal := s.core (s.cmdVerify home.val)

/-- After DELAY seconds PAIRED in reclaim mode the repaired chip's preferred home set is handed back (R400). -/
def execFailbackDelayExpiry (home : Fin 2) (s : State) : Host.Outcome State Fault Refusal :=
  let h := home.val
  s.core (if !(s.on Fld.TWN_CTRL_FAILBACK) && s.paired h && h ≠ s.preferred then s.cmdHandover h else s)

/-- Gratuitous ARPs and advertisements are repeated twice after a takeover (R392). -/
def execArpRepeatTimer (home : Fin 2) (s : State) : Host.Outcome State Fault Refusal :=
  let h := home.val
  s.core (if s.acts h && (s.home h).arpsDue != 0 then (s.updHome h (fun x => { x with arpsDue := x.arpsDue - 1 })).gratuitous h else s)

/-! ### Self-test and health (R376, R389, R390, Table 11-9) -/

/-- A HEALTH frame leaves with the chip's health word; SEQ counts words sent. -/
def State.sendHealth (s : State) : State :=
  let n := s.twin.healthSeq + 1
  let s : State := { s with twin := { s.twin with healthSeq := n } }
  let s := s.put ⟨Reg.TWN_HEALTH, 24, 8⟩ n
  let compared := max (s.home 0).compared (s.home 1).compared
  s.linkSend false 24 (.health (s.reg Reg.TWN_HEALTH) compared (s.reg Reg.PWS_BUDGET).toNat s.mirrorRsv)

/-- A chip that stands by for no home set sends HEALTH every 2 µs (R376). -/
def execHealthTimer (s : State) : Host.Outcome State Fault Refusal :=
  s.core (if s.elytraUp && !(s.standby 0) && !(s.standby 1) then s.sendHealth else s)

/-- A mismatch in lockstep (Table 11-8): lockstep again with a new STATE image, or HELD_OUT after the last try. -/
def State.lockstepMiss (s : State) (h : Nat) : State :=
  let s := (s.count Reg.TWN_LOCKSTEP_FAIL).record .twnLockstepMismatch (unitHome h)
  let s := s.updHome h (fun x => { x with tries := x.tries + 1, matched := 0 })
  if s.get Fld.TWN_LOCKSTEP_TRIES ≤ (s.home h).tries then (s.setPair h 4).record .twnHeldOut (unitHome h)
  else s.sendState h

/-- What the active side does on a health word from its standby (Table 11-9, Table 11-8). -/
def State.healthIn (s : State) (word : BitVec 32) (compared : Nat) : State :=
  let old := s.reg Reg.TWN_PHEALTH
  let rose := word &&& ~~~old &&& 0x7FF
  let s := s.setReg Reg.TWN_PHEALTH word
  let s := if rose = 0 then s else s.record .twnHealth 0 (leBytes 4 word.toNat)
  let s := if word.getLsbD 6 then s.leaseOn 0 else s
  let s := if word.getLsbD 7 then s.leaseOn 1 else s
  let s := if word.getLsbD 8 == old.getLsbD 8 then s else s.holdsFollow
  [0, 1].foldl (fun s h =>
    if !(s.active h) then s
    else if s.pairState h = 3 then (if word.getLsbD 0 || word.getLsbD 9 then s.goSolo h else s)
    else if s.pairState h = 2 then
      if word.getLsbD 0 then s.lockstepMiss h
      else if (s.home h).compared < compared then s.updHome h (fun x => { x with compared := compared, matched := x.matched + 1 })
      else s
    else s) s

/-- A HEALTH frame (R376, R389). -/
def execHealth (x : Ely) (word : BitVec 32) (compared : BitVec 64) (budget mirrorFree : BitVec 32) (s : State) :
    Host.Outcome State Fault Refusal :=
  s.core (s.twinIn x false (fun s =>
    ({ s with twin := { s.twin with partnerBudget := budget.toNat, partnerMirror := mirrorFree.toNat } } : State).healthIn word compared.toNat))

/-- The test pulse of a home set's interlock (R390): the non-holder announces and drives it, the holder checks that its
IN followed. -/
def execInterlockTestPulse (home : Fin 2) (followed : Bool) (s : State) : Host.Outcome State Fault Refusal :=
  let h := home.val
  s.core (if (s.home h).token then
      let s : State := { s with twin := { s.twin with pulse := none } }
      if followed then s.intlkPass h else s.intlkFault h
    else if s.elytraUp && (s.home h).claim.isNone then (s.emit (.intlkOut h true)).emit (.intlkOut h false)
    else s)

/-- The eye monitor of each lane in service (R389). -/
def execEyeMonitorTimer (margins : List (Fin 8 × Nat)) (s : State) : Host.Outcome State Fault Refusal :=
  s.core (s.setRegBit Reg.TWN_HEALTH 3
    (margins.any (fun m => s.regBit Reg.TWN_LINK m.1.val && decide (m.2 < s.get Fld.TWN_SELFTEST_EYE_MIN))))

/-- Core BIST of a cluster begins on a standby (R389, R61). -/
def execBistTimer (cluster : Fin 12) (s : State) : Host.Outcome State Fault Refusal :=
  s.core (if (s.standby 0 || s.standby 1) && s.twin.bist.isNone && s.admits 3 then { s with twin := { s.twin with bist := some cluster.val } } else s)

/-- A cluster is retired; the last transport cluster or the supervisor cluster only by ending service (R61). -/
def State.retireCluster (s : State) (k : Nat) : State :=
  let s : State := { s with net := { s.net with deadClusters := k :: s.net.deadClusters.filter (· != k) } }
  if (List.range 8).all (fun i => s.net.deadClusters.contains i) || k = 11 then s.stopService .noT1 else s

/-- A BIST run ends (R389). -/
def execBistDone (cluster : Fin 12) (passed : Bool) (s : State) : Host.Outcome State Fault Refusal :=
  s.core (if s.twin.bist = some cluster.val then
      let s : State := { s with twin := { s.twin with bist := none } }
      let s := (s.put ⟨Reg.TWN_HEALTH, 16, 4⟩ cluster.val).setRegBit Reg.TWN_HEALTH 4 (!passed)
      if passed then s else s.retireCluster cluster.val
    else s)

/-- A cluster fails (R61). -/
def execClusterFault (cluster : Fin 12) (s : State) : Host.Outcome State Fault Refusal :=
  s.core (if s.net.deadClusters.contains cluster.val then s else s.retireCluster cluster.val)

end Sys2Proof.Machine
end

