-- ==== Sys2Proof/Machine/TwinData.lean ====
section
/-! DEFINITION. Sys2Proof/Machine/TwinData.lean: what the standby and a joining chip do with DATA, DELTA, STATE, PIECE and
lockstep frames (R36 to R39, R157, R162, R180, R200, R220, R367 to R373, R378, R385 to R387). -/

namespace Sys2Proof.Machine

/-- The chip takes mirror frames of a home set: it stands by, or joins (R368, R385). -/
def State.mirrorSide (s : State) (h : Nat) : Bool := s.role h == 2 || s.role h == 3

/-- One frame is confirmed (R368, R369). -/
def State.confirmOut (s : State) (h m : Nat) : State := s.linkSend false 16 (.confirm h m 1)

/-- A DATA frame of a home set arrives (R367, R368). -/
def State.dataIn (s : State) (x : Ely) (d : DataHdr) (go : State → State) : State :=
  s.twinWakeIn x (fun s =>
    if s.mirrorSide d.home.val then
      go ((s.count Reg.TWN_DATA_RX).updHome d.home.val (fun y => { y with rxMseq := d.mseq.toNat }))
    else s)

/-- A record is stored and confirmed. -/
def State.recordIn (s : State) (x : Ely) (d : DataHdr) (store : State → State) : State :=
  s.dataIn x d (fun s => (store s).confirmOut d.home.val d.mseq.toNat)

/-- The unbroken PSN prefix that the standby holds of a QP grows (R37, R41). -/
def State.notePsn (s : State) (d : DataHdr) (msn : Option Nat) : State :=
  if d.key = 0 then s
  else s.updQp d.qpn.toNat (fun q =>
    if psnLe q.epsn (d.psn + 1) then
      { q with epsn := d.psn + 1, cpsn := d.psn, msn := msn.getD q.msn,
               ranges := if d.last then addRange q.ranges d.psn d.psn .write (msn.getD q.msn) else q.ranges }
    else q)

/-- The region of a mirror write as the standby knows it; a region that no DELTA has yet brought counts as persistent. -/
def State.mirrorRegion (s : State) (h addr : Nat) : Nat × Region :=
  match s.regionAt addr with
  | some r => r
  | none => (addr / granuleBytes * granuleBytes, { home := h, pd := 0, volatile := false, dflush := false, mirror := false, failqp := false, len := granuleBytes, maxRights := 0, keyDomain := 0 })

/-- The standby's frames for a range are made resident before a write of part of a line (R64, R368). -/
def State.mirrorFrames (s : State) (addr len : Nat) : State :=
  (span (addr / unitBytes) ((addr + len + unitBytes - 1) / unitBytes - addr / unitBytes)).foldl (fun s u => s.loadUnit u false) s

/-- Bytes that a mirror write makes dirty. -/
def MirrorOp.bytes : MirrorOp → Nat
  | .write _ _ d => d.length
  | .zero _ n => n
  | .trim _ _ => 0
  | .atomic _ _ _ => 8

/-- A mirror write is placed in the standby's T1 (R368). -/
def State.mirrorPlace (s : State) (d : DataHdr) (op : MirrorOp) : State :=
  let h := d.home.val
  match op with
  | .write addr msn data =>
    let r := s.mirrorRegion h addr
    ((s.mirrorFrames addr data.length).placeBytes r.2 addr data true).notePsn d (some msn)
  | .zero addr len =>
    let r := s.mirrorRegion h addr
    (s.mirrorFrames addr len).placeBytes r.2 addr (List.replicate len 0) true
  | .trim addr len => s.trimRange (s.mirrorRegion h addr).2 addr len
  | .atomic addr original data =>
    let r := s.mirrorRegion h addr
    let s := ((s.mirrorFrames addr 8).placeBytes r.2 addr data true).saveAtomic d.qpn.toNat d.psn (BitVec.ofNat 64 original)
    (s.notePsn d none).updQp d.qpn.toNat (fun q => { q with ranges := addRange q.ranges d.psn d.psn .atomic q.msn })

/-- Mirror writes that wait for the dirty budget are placed in order as it allows (R368, R15). -/
def State.placeLate (s : State) : Nat → State
  | 0 => s
  | n + 1 =>
    match s.twin.late with
    | (d, op) :: rest =>
      if s.budgetFits op.bytes then
        (((({ s with twin := { s.twin with late := rest } } : State).mirrorPlace d op).confirmOut d.home.val d.mseq.toNat)).placeLate n
      else s
    | [] => s

/-- A mirror write arrives. -/
def State.mirrorIn (s : State) (x : Ely) (d : DataHdr) (op : MirrorOp) : State :=
  s.dataIn x d (fun s =>
    (({ s with twin := { s.twin with late := s.twin.late ++ [(d, op)] } } : State).placeLate (s.twin.late.length + 1)).settle)

/-- WRITE (Table 11-4). -/
def execDataWrite (x : Ely) (d : DataHdr) (addr msn : BitVec 64) (data : List Byte) (s : State) : Host.Outcome State Fault Refusal :=
  if 4096 < data.length then .refused (.illFormed "DATA_WRITE: more than 4,096 bytes")
  else .next (s.mirrorIn x d (.write addr.toNat msn.toNat data))

/-- ZERO (Table 11-4). -/
def execDataZero (x : Ely) (d : DataHdr) (addr len : BitVec 64) (s : State) : Host.Outcome State Fault Refusal :=
  .next (s.mirrorIn x d (.zero addr.toNat len.toNat))

/-- TRIM (Table 11-4). -/
def execDataTrim (x : Ely) (d : DataHdr) (addr len : BitVec 64) (s : State) : Host.Outcome State Fault Refusal :=
  .next (s.mirrorIn x d (.trim addr.toNat len.toNat))

/-- ATOMIC (Table 11-4). -/
def execDataAtomic (x : Ely) (d : DataHdr) (addr original new : BitVec 64) (s : State) : Host.Outcome State Fault Refusal :=
  .next (s.mirrorIn x d (.atomic addr.toNat original.toNat (leBytes 8 new.toNat)))

/-- ARM (R38). -/
def execDataArm (x : Ely) (d : DataHdr) (region : BitVec 64) (s : State) : Host.Outcome State Fault Refusal :=
  .next (s.recordIn x d (fun s => s.updRegion region.toNat (fun r => { r with recArmed := true })))

/-- A record kept in the firmware reserve (R368). -/
def State.holdRec (s : State) (h : Nat) (r : HeldRec) : State := s.updHome h (fun x => { x with held := x.held ++ [r] })

/-- DOORBELL (R162): the indexes of the held queue move. -/
def execDataDoorbell (x : Ely) (d : DataHdr) (queue : Fin 64) (slot : Fin 32) (value : BitVec 64) (s : State) : Host.Outcome State Fault Refusal :=
  .next (s.recordIn x d (fun s =>
    let s := s.holdRec d.home.val (.doorbell d.qpn.toNat queue.val slot.val value)
    let v := value.toNat
    s.updQueue d.qpn.toNat queue.val (fun q =>
      if slot.val = 0 then
        let q := { q with sqTail := v % 65536 }
        if v / 2 ^ 63 % 2 = 1 && q.st == .frozen then q.resume (v / 2 ^ 62 % 2 = 1) else q
      else if slot.val = 8 then { q with cqHead := v % 65536 }
      else if slot.val = 16 then { q with nqHead := v % 65536 }
      else q)))

/-- FETCH (R180): the slots are owned from now on. -/
def execDataFetch (x : Ely) (d : DataHdr) (queue : Fin 64) (first count : BitVec 16) (s : State) : Host.Outcome State Fault Refusal :=
  .next (s.recordIn x d (fun s =>
    let s := s.holdRec d.home.val (.fetch d.qpn.toNat queue.val first.toNat count.toNat)
    s.updQueue d.qpn.toNat queue.val (fun q =>
      let ids := (List.range count.toNat).map (fun i => (first.toNat + i) % max 1 q.sqSize)
      let fresh : List Slot := ids.map (fun i => { idx := i, st := .running })
      { q with slots := q.slots.filter (fun y => !(ids.contains y.idx)) ++ fresh, replay := q.replay.filter (fun i => !(ids.contains i)),
               cursor := if ids.contains q.cursor then (first.toNat + count.toNat) % max 1 q.sqSize else q.cursor })))

/-- POST (R180, R184): a completion frees its slot, or keeps it as failed and freezes the queue; a notification moves its
ring. -/
def execDataPost (x : Ely) (d : DataHdr) (queue : Fin 64) (nq : Bool) (index : BitVec 16) (psn : Psn) (entry : List Byte) (slot : BitVec 16)
    (s : State) : Host.Outcome State Fault Refusal :=
  if entry.length ≠ (if nq then 32 else 16) then .refused (.illFormed "DATA_POST: an entry has 16 or 32 bytes")
  else
    .next (s.recordIn x d (fun s =>
      let s := s.holdRec d.home.val (.post d.qpn.toNat queue.val nq index.toNat psn entry)
      if nq then
        (s.updQueue d.qpn.toNat queue.val (fun q => { q with nqCount := q.nqCount + 1 })).updQp d.qpn.toNat (fun q =>
          { q with notifSeq := capField entry 28 4 + 1 })
      else
        let st := capField entry 14 2 % 32768
        s.updQueue d.qpn.toNat queue.val (fun q =>
          let slots := if st = 0 then q.slots.filter (fun y => y.idx != slot.toNat)
            else q.slots.map (fun y => if y.idx = slot.toNat then { y with st := .failed, status := st } else y)
          { q with slots := slots, cqCount := q.cqCount + 1, sqHead := capField entry 8 2, st := if st = 0 then q.st else .frozen })))

/-- Placement named by a number (Table 06-1). -/
def mirrorPlacement (p : Fin 4) : Placement :=
  if p.val = 0 then .float else if p.val = 1 then .pin else if p.val = 2 then .stream else .t2only

/-- PLACE (R200). The standby keeps PIN_T1 granules resident while PIN_STANDBY is set (Table 06-1). -/
def execDataPlace (x : Ely) (d : DataHdr) (granule count : Nat) (placement : Fin 4) (s : State) : Host.Outcome State Fault Refusal :=
  .next (s.recordIn x d (fun s =>
    let s := if placement = 1 && s.on Fld.TIER_CTRL_PIN_STANDBY then s.loadGranules (span granule count) else s
    (span granule count).foldl (fun s g => s.setGranule g { s.granule g with place := mirrorPlacement placement }) s))

/-- A stream record enters the held state (R202, R214, R220). -/
def State.streamRec (s : State) (h : Nat) (r : StreamRec) : State :=
  match r with
  | .opened id pd tenant region base layerLen layers window readers =>
    let x : Stream := { home := h, pd := pd, tenant := tenant, region := region, base := base, layerLen := layerLen, layers := layers,
                        window := window, readers := List.replicate readers none }
    { s with tier := { s.tier with streams := kput s.tier.streams id x } }
  | .advance id reader layer => s.updStream id (fun x => { x with readers := updAt x.readers reader (fun _ => some layer) })
  | .closed id => { s with tier := { s.tier with streams := kdel s.tier.streams id } }

/-- STREAM (R220). -/
def execDataStream (x : Ely) (d : DataHdr) (r : StreamRec) (s : State) : Host.Outcome State Fault Refusal :=
  .next (s.recordIn x d (fun s => s.streamRec d.home.val r))

/-- ORDER exists only to obtain its CONFIRM (R396). -/
def execDataOrder (x : Ely) (d : DataHdr) (s : State) : Host.Outcome State Fault Refusal := .next (s.recordIn x d id)

/-- The binding of a connection enters the held state (R157). -/
def State.bindRec (s : State) (n : Nat) (ringKey : BitVec 32) (entries : List Byte) : State :=
  let c := entries.length / 64
  let s := s.updQp n (fun q => { q with ringKey := ringKey, qcount := c, bound := true })
  (List.range c).foldl (fun (s : State) i =>
    let bs := (entries.drop (64 * i)).take 64
    let ok := queueValid (((s.qp n).map (·.admin)).getD false) i bs
    let old := (kget s.cqi.queues (queueKey n i)).getD {}
    let new : Queue := { parseQueue bs with valid := ok, st := if ok then (if old.st == .disabled then .active else old.st) else .disabled,
                                             sqTail := old.sqTail, cursor := old.cursor, sqHead := old.sqHead, slots := old.slots,
                                             cqCount := old.cqCount, cqHead := old.cqHead, nqCount := old.nqCount, nqHead := old.nqHead }
    { s with cqi := { s.cqi with queues := kput s.cqi.queues (queueKey n i) new } }) s

/-- BIND (R157). -/
def execDataBind (x : Ely) (d : DataHdr) (ringKey : BitVec 32) (entries : List Byte) (s : State) : Host.Outcome State Fault Refusal :=
  if entries.length % 64 ≠ 0 || 4096 < entries.length then .refused (.illFormed "DATA_BIND: entries have 64 bytes each")
  else .next (s.recordIn x d (fun s => s.bindRec d.qpn.toNat ringKey entries))

/-! ### DELTA (R370 to R373) -/

/-- QP state named by a number of a QP entry. -/
def qpStateOf (n : Fin 4) : QpState := if n.val = 1 then .rtr else if n.val = 2 then .rts else if n.val = 3 then .error else .idle

/-- Queue state named by a number of a QUEUE entry. -/
def queueStateOf (n : Fin 4) : QState := if n.val = 1 then .active else if n.val = 2 then .frozen else if n.val = 3 then .ended else .disabled

/-- A QP entry is applied to the shadow context (Table 11-6). -/
def State.applyQp (s : State) (h : Nat) (e : QpEntry) : State :=
  let n := e.qpn.toNat
  if e.state.val = 0 then s.freeQp n
  else
    let old := (s.qp n).getD { home := h, where_ := .spilled }
    let s := s.setQp n { old with st := qpStateOf e.state, epsn := if psnLe old.epsn e.epsn then e.epsn else old.epsn, cpsn := e.cpsn,
                                  msn := e.msn.toNat, spsn := e.spsn, oldest := e.oldest, port := some e.port.val }
    s.updHome h (fun x => { x with
      resident := if e.resident then (if x.resident.contains n then x.resident else n :: x.resident) else x.resident.filter (· != n)
      held := x.held.filter (fun r => match r with
        | .post q _ _ _ psn _ => q != n || psnLe e.oldest psn
        | _ => true) })

/-- A unit named dirty by the active side that this chip holds neither dirty nor newer (R372). -/
def State.mirrorGap (s : State) (u : Nat) : Bool :=
  match s.frame u with
  | some f => f.dirty == 0 && f.copy.isNone && !(s.mapped u)
  | none => !(s.mapped u)

/-- One entry of a DELTA or a STATE image is applied. -/
def State.applyEntry (s : State) (h : Nat) : DeltaEntry → State
  | .qp e => s.applyQp h e
  | .filter qpn ranges => s.updQp qpn.toNat (fun q => { q with ranges := ranges })
  | .key index tag region off len rights valid =>
    s.setKey index { tag := tag, region := region, off := off, len := len, rights := rights, valid := valid }
  | .region gone r =>
    if gone then match s.region r.base with
      | some x => s.freeRegion r.base x
      | none => s
    else
      let old := (s.region r.base)
      let x : Region := { home := h, pd := r.pd, volatile := r.volatile, dflush := r.dflush, mirror := r.mirror, failqp := r.failqp, len := r.len,
                          maxRights := r.rights, keyDomain := r.keyDomain, recArmed := (old.map (·.recArmed)).getD false }
      { s with prot := { s.prot with regions := kput s.prot.regions r.base x } }
  | .dirty units => if units.any s.mirrorGap then s.setRegBit Reg.TWN_HEALTH 9 true else s.setRegBit Reg.TWN_HEALTH 9 false
  | .config epoch pairs =>
    { s with cfg := { s.cfg with jointIn := s.cfg.jointIn ++ pairs.map (fun p => (h, epoch, { addr := p.1, val := p.2 })) } }
  | .disarm bases => bases.foldl (fun s b => s.updRegion b (fun r => { r with recArmed := false })) s
  | .queue qpn queue st tail cursor =>
    s.updQueue qpn.toNat queue.val (fun q => { q with st := queueStateOf st, sqTail := tail, cursor := cursor })

/-- The standby's own digest of a DELTA's QPs (R371). -/
def State.ownDigest (s : State) (h : Nat) (es : List DeltaEntry) (lastMseq : Nat) (lockstep : Bool) : Nat :=
  let qs := es.filterMap (fun e => match e with
    | .qp q => some (match s.qp q.qpn.toNat with
      | some x => { qpEntry q.qpn.toNat x with resident := (s.home h).resident.contains q.qpn.toNat }
      | none => qpGone q.qpn.toNat)
    | _ => none)
  deltaDigest qs lastMseq (if lockstep then (s.home h).respSum else 0)

/-- A DELTA (R36, R37, R370 to R373, R391); the first one without LOCKSTEP after lockstep admits the joining chip (R388). -/
def execDelta (x : Ely) (home : Fin 2) (epoch : BitVec 64) (term : BitVec 32) (final lockstep : Bool) (lastMseq digest : BitVec 64)
    (entries : List DeltaEntry) (s : State) : Host.Outcome State Fault Refusal :=
  let h := home.val
  .next (s.twinIn x true (fun s =>
    if !(s.mirrorSide h) then s
    else
      let s := entries.foldl (fun s e => s.applyEntry h e) s
      let ok := decide (s.ownDigest h entries lastMseq.toNat lockstep = digest.toNat)
      let s := (s.setRegBit Reg.TWN_HEALTH 0 (!ok)).setReg (Reg.TWN_TERM h) term
      let s := s.updHome h (fun y => { y with
        epoch := epoch.toNat + 1, deltaEpoch := epoch.toNat, digest := digest, compared := epoch.toNat, final := final, respSum := 0 })
      if final then
        let s := s.volatileLost h false
        if (s.home h).inRel then s.claimToken h .handover else s.updHome h (fun y => { y with claim := some .handover })
      else if s.role h = 3 && s.pairState h = 1 && (s.home h).copied then s.setPair h 2
      else if s.role h = 3 && s.pairState h = 2 && !lockstep then
        (((s.setRole h 2).setPair h 3).standWrite h 3 false).record .twnPaired (unitHome h)
      else s))

/-! ### Lockstep and resync (R377, R378, R385 to R387) -/

/-- A copy of an ingress frame is executed with egress suppressed (R387). -/
def execLockstepIngress (x : Ely) (home : Fin 2) (inseq : Nat) (slice : Fin 8) (p : Pkt) (req : Req) (s : State) : Host.Outcome State Fault Refusal :=
  let h := home.val
  .next (s.twinWakeIn x (fun s =>
    if s.shadow h && decide (s.sliceOf p.qpn.toNat = slice.val) then
      (s.updHome h (fun y => { y with inseq := inseq })).quiet h (fun s =>
        match s.qp p.qpn.toNat with
        | some _ => (s.stage2 p req).settle
        | none => s)
    else s))

/-- One item of a STATE image is loaded (R378). -/
def State.loadEntry (s : State) (h : Nat) : StateEntry → State
  | .delta e => s.applyEntry h e
  | .atomics qpn saved => s.updQp qpn.toNat (fun q => { q with atomics := saved })
  | .bind qpn ringKey entries => s.bindRec qpn.toNat ringKey entries
  | .place g p => s.setGranule g { s.granule g with place := mirrorPlacement p }
  | .stream r => s.streamRec h r
  | .pd n en admin tenant cred => s.setPd n { en := en, admin := admin, tenant := tenant, cred := cred }

/-- STATE (R378, R385). -/
def execState (x : Ely) (home : Fin 2) (table : Fin 6) (last : Bool) (entries : List StateEntry) (s : State) : Host.Outcome State Fault Refusal :=
  let h := home.val
  .next (s.twinWakeIn x (fun s =>
    if s.role h = 3 then
      let s := entries.foldl (fun s e => s.loadEntry h e) s
      if table.val = 5 && last && s.pairState h = 2 then s.updHome h (fun y => { y with respSum := 0 }) else s
    else s))

/-- PIECE (R385): 4 KiB with its poison bits. -/
def execPiece (x : Ely) (home : Fin 2) (addr : Nat) (data : List Byte) (poison : BitVec 64) (s : State) : Host.Outcome State Fault Refusal :=
  if data.length ≠ 4096 || addr % 4096 ≠ 0 then .refused (.illFormed "PIECE: 4,096 bytes at a multiple of 4,096")
  else
    .next (s.twinWakeIn x (fun s =>
      if s.role home.val = 3 then
        let u := addr / unitBytes
        let piece := addr % unitBytes / 4096
        let r := s.mirrorRegion home.val addr
        let s := (s.loadUnit u false).placeBytes r.2 addr data true
        let pm : BitVec 256 := BitVec.ofNat 256 (poison.toNat <<< (64 * piece))
        s.updFrame u (fun f => { f with poison := (f.poison &&& ~~~(codewordMask piece)) ||| pm })
      else s))

/-- DONE (R384): lockstep starts at the next epoch boundary, which the next DELTA opens. -/
def execResyncDone (x : Ely) (home : Fin 2) (pieces : Nat) (s : State) : Host.Outcome State Fault Refusal :=
  .next (s.twinWakeIn x (fun s =>
    if s.role home.val = 3 then s.updHome home.val (fun y => { y with copied := true, pieces := pieces, sent := pieces }) else s))

end Sys2Proof.Machine
end

