-- ==== Sys2Proof/Machine/Flash.lean ====
section
/-! DEFINITION. Sys2Proof/Machine/Flash.lean: the flash tier as the media cores run it: superblocks and page-stripes,
journal, destage by Lehr, relocation, retirement, reads, checkpoints (chapter 10, R68, R69, R389). -/

namespace Sys2Proof.Machine

/-! ### Superblocks (R319 to R322, R338) -/

def State.sb (s : State) (n : Nat) : Option Sb := kget s.flash.sbs n
def State.setSb (s : State) (n : Nat) (x : Sb) : State := { s with flash := { s.flash with sbs := kput s.flash.sbs n x } }

/-- The free block of a channel with the lowest erase count on a die that holds none of the given blocks (R338). -/
def State.pickBlock (s : State) (c : Nat) (taken : List Nat) : Option Nat :=
  ((s.blocksIn c .free).filter (fun n => !(taken.any (fun m => nameChan m = c && nameDie m = nameDie n)))).foldl
    (fun (acc : Option Nat) n => match acc with
      | some m => if (s.blk n).pe < (s.blk m).pe then some n else some m
      | none => some n) none

/-- Member blocks for the 32 positions (R319). -/
def State.pickMembers (s : State) : Option (List Nat) :=
  (List.range 32).foldl (fun (acc : Option (List Nat)) p => match acc with
    | some ms => (s.pickBlock (s.stripeChan p) ms).map (fun n => ms ++ [n])
    | none => none) (some [])

/-- Blocks take a state. -/
def State.markBlocks (s : State) (bs : List Nat) (st : BlkSt) : State := bs.foldl (fun s n => s.updBlk n (fun b => { b with st := st })) s

/-- A stream opens a superblock, with its parity block, and journals it (R319, R321, SB_OPEN). -/
def State.openSb (s : State) (stream : Nat) : Option (State × Nat) :=
  match s.pickMembers with
  | some ms =>
    let n := s.flash.sbNo
    let par := ((List.range 32).filter s.chanIn).findSome? (fun c => s.pickBlock c ms)
    let s := s.markBlocks ms .opened
    let s := match par with
      | some b => s.markBlocks [b] .parity
      | none => s
    let s := s.setSb n { stream := stream, members := ms, parity := par, pages := s.sbPages }
    some ((({ s with flash := { s.flash with sbNo := n + 1 } } : State).journalAdd { version := s.flash.version, target := ms.headD 0, typ := 4 }), n)
  | none => none

/-- Open superblocks of a stream, oldest first. -/
def State.openSbs (s : State) (stream : Nat) : List (Nat × Sb) := s.flash.sbs.filter (fun e => e.2.stream = stream && e.2.st == .opened)

/-- The position with the fewest pages handed out, ties to the lowest: where a page with no map unit goes. -/
def Sb.least (x : Sb) : Nat := (List.range 32).foldl (fun m p => if x.next.getD p 0 < x.next.getD m 0 then p else m) 0

/-- Pages of a superblock not handed out. -/
def Sb.rest (x : Sb) : Nat := 32 * x.pages - x.next.foldl (· + ·) 0

/-- 4 KiB data units that the cipher encrypts for a page: relocation moves ciphertext (R317). -/
def PageUse.encrypted : PageUse → Nat
  | .unit _ _ | .journal _ | .checkpoint => 4
  | .move _ _ | .filler => 0

/-- A page is handed to a superblock at a position (R319). -/
def State.handTo (s : State) (n : Nat) (x : Sb) (p : Nat) (use : PageUse) : State × Nat :=
  let page := x.next.getD p 0
  let s := s.countBy Reg.XTS_ENC_UNITS use.encrypted
  let s := s.setSb n { x with next := updAt x.next p (· + 1) }
  ({ s with flash := { s.flash with ops := s.flash.ops ++ [{ sb := n, pos := p, page := page, use := use }], sinceCkpt := s.flash.sinceCkpt + 16384 } },
    x.members.getD p 0 + page)

/-- A stream opens its next superblock when a quarter of the pages of the current one is left (R319). -/
def State.openNext (s : State) (stream : Nat) : State :=
  match s.openSbs stream with
  | [e] => if 4 * e.2.rest ≤ 32 * e.2.pages then
      match s.openSb stream with
      | some r => r.1
      | none => s
    else s
  | _ => s

/-- A page of a stream is handed out at a position, or at the least filled one; not beyond 64 GiB since the last
checkpoint began, apart from Quench (R329). The answer is the page's place. -/
def State.handPage (s : State) (quench : Bool) (stream : Nat) (pos : Option Nat) (use : PageUse) : Option (State × Nat) :=
  if !quench && decide (64 * 2 ^ 30 < s.flash.sinceCkpt + 16384) then none
  else
    let room (x : Sb) : Bool := x.next.getD (pos.getD x.least) 0 < x.pages
    match (s.openSbs stream).find? (fun e => room e.2) with
    | some e =>
      let r := s.handTo e.1 e.2 (pos.getD e.2.least) use
      some (r.1.openNext stream, r.2)
    | none =>
      match s.openSb stream with
      | some o =>
        match o.1.sb o.2 with
        | some x => some (o.1.handTo o.2 x (pos.getD x.least) use)
        | none => none
      | none => none

/-- A full journal buffer of 510 entries goes to a journal page of the metadata stream (R326). -/
def State.journalPump (s : State) (all : Bool) : State :=
  if 510 ≤ s.flash.journal.length || (all && !s.flash.journal.isEmpty) then
    let n := s.flash.jpageNo
    match s.handPage all 2 none (.journal n) with
    | some r => { r.1 with flash := { r.1.flash with
        journal := r.1.flash.journal.drop 510, jpages := r.1.flash.jpages ++ [(n, r.1.flash.journal.take 510)], jpageNo := n + 1 } }
    | none => s
  else s

/-! ### Destage (R68, R69) -/

/-- DEEP FLUSHes stop waiting for a unit whose copy with this order stamp is on T2 (R25). -/
def State.deepDone (s : State) (u stamp : Nat) : State :=
  { s with net := { s.net with txns := s.net.txns.map (fun t =>
      { t with deep := t.deep.filter (fun d => !(d.1 = u && decide (d.2 ≤ stamp))) }) } }

/-- The map entry of a destaged unit is committed: T2 holds the copy (R69, R325). A TRIM since then has removed it. -/
def State.commitUnit (s : State) (u : Nat) : State :=
  match kget s.flash.prog u with
  | some p =>
    let t2 := (p.cells.filter (fun c => within (u * unitBytes) unitBytes c.1)).foldr (fun c m => sput (fun _ => 0) m c.1 c.2)
      (memClear s.flash.t2 (u * unitBytes) unitBytes)
    let s : State := { s with flash := { s.flash with
      map := kput s.flash.map u { phys := p.loc, version := p.version, poison := p.poison }, t2 := t2,
      prog := kdel s.flash.prog u, destaged := s.flash.destaged + 16384, moved := s.flash.moved.filter (· != u),
      journal := s.flash.journal.filter (fun e => !(e.typ = 1 && e.target = u && decide (e.version ≤ p.version))) } }
    let s := s.updFrame u (fun f => if f.copy = some p.stamp then { f with copy := none } else f)
    s.deepDone u p.stamp
  | none => s

/-- The oldest dirty persistent frame whose last copy is not in flight, in order of first dirtying (R68). -/
def State.oldestDirty (s : State) : Option (Nat × Frame) :=
  (s.tier.frames.filter (fun e => e.2.dirty != 0 && e.2.copy.isNone && !(s.volatileUnit e.1))).foldl
    (fun (acc : Option (Nat × Frame)) e => match acc with
      | some x => if e.2.since < x.2.since then some e else some x
      | none => some e) none

/-- One frame is copied for a whole-unit program: invalid lines are filled, T0 lines are cleaned, each dirty bit clears
as its line is copied, and a version is taken (R68, R69, R236, R325). -/
def State.copyFrame (s : State) (quench : Bool) (u : Nat) : State :=
  let s := (s.fillLines u allLines).cleanUnit u
  let v := s.flash.version
  match s.frame u, s.handPage quench 0 (some (u % 32)) (.unit u v) with
  | some f, some r =>
    let s := r.1
    let st := s.tier.stamp
    let s := s.setFrame u { f with dirty := 0, copy := some st }
    let cells := s.tier.t1.filter (fun c => within (u * unitBytes) unitBytes c.1)
    let p : Prog := { version := v, loc := r.2, stamp := st, poison := f.poison, cells := cells }
    { s with
      tier := { s.tier with stamp := st + 1 }
      flash := { s.flash with version := v + 1, prog := kput s.flash.prog u p } }
  | _, _ => s

/-- Lehr takes the oldest dirty frame (R68). -/
def execLehrDestageStart (s : State) : Host.Outcome State Fault Refusal :=
  s.core (if !(s.admits 0) || s.get Fld.GOV_STATUS_PSTATE = 2 then s
    else match s.oldestDirty with
    | some e => ((s.copyFrame false e.1).dirtyPause).journalPump false
    | none => s)

/-- A destaged unit is verified and its map entry committed (R69). -/
def execDestageProgramVerified (unit : Nat) (s : State) : Host.Outcome State Fault Refusal :=
  s.core ((((s.commitUnit unit).spaceCheck).placeLate (s.twin.late.length + 1)).settle)

/-- Lehr has lowered D (R454): held frames of the standby and waiting writes go on. -/
def execDirtyBudgetRoom (home : Fin 2) (s : State) : Host.Outcome State Fault Refusal :=
  s.core (let s := s.placeLate (s.twin.late.length + 1)
    if s.accepting home.val then s.settle else s)

/-! ### Relocation (R322, R327, R334) -/

/-- A relocation of the unit is on its way. -/
def State.moving (s : State) (u : Nat) : Bool :=
  let j (es : List JEntry) : Bool := es.any (fun e => e.typ = 2 && e.target = u)
  s.flash.ops.any (fun o => match o.use with
    | .move v _ => v = u
    | _ => false) || j s.flash.journal || s.flash.jpages.any (fun p => j p.2)

/-- A mapped unit is handed to the relocation stream with its version (R322, R334). -/
def State.relocate (s : State) (u : Nat) : State :=
  match kget s.flash.map u with
  | some m =>
    if s.moving u then s
    else match s.handPage false 1 (some (u % 32)) (.move u m.phys) with
      | some r => r.1
      | none => s
  | none => s

/-- Valid units of a block, in page order (R334). -/
def State.unitsOf (s : State) (b : Nat) : List Nat :=
  let us := s.flash.map.filter (fun e => s.blockOf e.2.phys = b)
  (sortBy (fun x y => x.1 ≤ y.1) (us.map (fun e => (e.2.phys, e.1)))).map (·.2)

/-- Valid units of a superblock. -/
def State.sbUnits (s : State) (x : Sb) : List Nat := (x.members.map s.unitsOf).flatten

/-- The victims whose units are not all on their way hand out the rest; a victim with none left asks the journal for
the erase of its blocks (R334). -/
def State.gcGoOn (s : State) : State :=
  (s.flash.sbs.filter (fun e => e.2.st == .collecting && !e.2.erasing)).foldl (fun s e =>
    let us := s.sbUnits e.2
    if us.isEmpty then
      let s := (e.2.members.filter (fun b => (s.blk b).st != .retired)).foldl
        (fun s b => s.journalAdd { version := s.flash.version, target := b, typ := 7 }) s
      s.setSb e.1 { e.2 with erasing := true }
    else us.foldl State.relocate s) s

/-- A collection ends when its victim's blocks are erased (Table 10-11, GC_ACTIVE). -/
def State.gcStatus (s : State) : State :=
  let s : State := { s with flash := { s.flash with sbs := s.flash.sbs.filter (fun e =>
    !(e.2.erasing && e.2.members.all (fun b => (s.blk b).st == .free || (s.blk b).st == .spare || (s.blk b).st == .retired))) } }
  s.putB Fld.FTL_STATUS_GC_ACTIVE (s.flash.sbs.any (fun e => e.2.st == .collecting && !e.2.toSpare))

/-! ### Retirement (R336, R337, R340 to R342) -/

/-- What a page of a member holds: the copy that waits for its commit, a relocated unit, a mapped unit, or filler. -/
def State.pageUse (s : State) (loc : Nat) : PageUse :=
  match s.flash.prog.find? (fun e => e.2.loc = loc) with
  | some e => .unit e.1 e.2.version
  | none =>
    match (s.flash.journal ++ (s.flash.jpages.map (·.2)).flatten).find? (fun e => e.typ = 2 && e.new = loc) with
    | some e => .move e.target e.old
    | none => match s.flash.map.find? (fun e => e.2.phys = loc) with
      | some e => .move e.1 loc
      | none => .filler

/-- A member block of an unverified superblock is replaced: the units programmed in it are rebuilt from parity or taken
from their copies and programmed again, and no entry that named the lost block is committed (R336, R337). -/
def State.replaceMember (s : State) (n : Nat) (x : Sb) (p new : Nat) : State :=
  let old := x.members.getD p 0
  let done := x.done.getD p 0
  let again : List PageOp := (List.range done).map (fun g => { sb := n, pos := p, page := g, use := s.pageUse (old + g) })
  let rebuilt := (again.filter (fun o => match o.use with
    | .move _ _ => true
    | _ => false)).length
  let inOld (l : Nat) : Bool := within old x.pages l
  let s := s.setSb n { x with members := updAt x.members p (fun _ => new), done := updAt x.done p (fun _ => 0), st := .opened }
  let drop (es : List JEntry) : List JEntry := es.filter (fun e => !((e.typ = 1 || e.typ = 2) && inOld e.new))
  let s : State := { s with flash := { s.flash with
    ops := again ++ s.flash.ops,
    journal := drop s.flash.journal, jpages := s.flash.jpages.map (fun j => (j.1, drop j.2)),
    prog := s.flash.prog.map (fun e => if inOld e.2.loc then (e.1, { e.2 with loc := e.2.loc - old + new }) else e) } }
  (s.markBlocks [new] .opened).countBy Reg.FTL_PARITY_REBUILD rebuilt

/-- A block leaves service: a spare of its channel takes its place, or its superblock leaves service (R340). -/
def State.retireBlock (s : State) (b : Nat) : State :=
  let c := nameChan b
  let before := s.spares c
  let s := (s.updBlk b (fun x => { x with st := .retired })).journalAdd { version := s.flash.version, target := b, typ := 9 }
  let s := (s.count Reg.FTL_RETIRED).record .ftlBlockRetired (unitChan c) (leBytes 8 b) 0 (perSecond c)
  let s : State := { s with flash := { s.flash with dieFails := s.flash.dieFails ++ [(c * 128 + nameDie b, s.now)] } }
  let s := match s.flash.sbs.find? (fun e => e.2.members.contains b), (s.blocksIn c .spare).head? with
    | some e, some n =>
      let p := (e.2.members.findIdx? (· == b)).getD 0
      if e.2.st == .verified || e.2.st == .collecting then
        ((s.unitsOf b).foldl State.relocate s).setSb e.1 { e.2 with members := updAt e.2.members p (fun _ => n) } |>.markBlocks [n] .verified
      else s.replaceMember e.1 e.2 p n
    | some e, none => (s.setSb e.1 { e.2 with st := .collecting, toSpare := true }).gcGoOn
    | none, _ => s
  let first := (s.reg (Reg.FCH_SPARE c)).toNat / 65536
  if 4 * s.spares c < first && first ≤ 4 * before then s.record .ftlSpareLow (unitChan c) else s

/-- Units whose media are lost are healed from the twin, or poisoned whole while the home set is solo (R323, R341,
R342). -/
def State.unitsLost (s : State) (us : List Nat) : State :=
  us.foldl (fun s u =>
    let s : State := { s with flash := { s.flash with moved := (s.flash.moved.filter (· != u)) ++ [u] } }
    match s.frame u with
    | some f => if f.valid = allLines then s.setFrame u { f with dirty := allLines, since := if f.dirty = 0 then s.tier.stamp else f.since }
      else (s.setFrame u { f with filling := true }).needHeal u
    | none => s.needHeal u) s

/-- The channel in service with one position and the most free blocks, ties to the lowest number (R342). -/
def State.newHome (s : State) (c : Nat) : Option Nat :=
  ((List.range 32).filter (fun k => k != c && s.chanIn k && (s.positionsOf k).length == 1)).foldl
    (fun (acc : Option Nat) k => match acc with
      | some m => if (s.blocksIn m .free).length < (s.blocksIn k .free).length then some k else some m
      | none => some k) none

/-- A stripe position moves to another channel (R342, STRIPE). -/
def State.movePosition (s : State) (c p : Nat) : State :=
  match s.newHome c with
  | some k =>
    let s := (s.setReg (Reg.FTL_STRIPE p) (BitVec.ofNat 32 k)).put (Fld.FCH_STATUS_TWO_POS k) 1
    let s := s.journalAdd { version := s.flash.version, target := p, typ := 10, new := k + p * 256 }
    let s := (s.flash.sbs.filter (fun e => e.2.st == .opened && nameChan (e.2.members.getD p 0) = c)).foldl (fun s e =>
      match s.pickBlock k e.2.members with
      | some n => s.replaceMember e.1 e.2 p n
      | none => s) s
    s.unitsLost ((s.flash.map.filter (fun e => e.1 % 32 = p && nameChan e.2.phys = c)).map (·.1))
  | none => s

/-- A flash channel is retired and its positions move (R341, R342). -/
def State.retireFch (s : State) (c : Nat) : State :=
  let st := s.get (Fld.FCH_STATUS_STATE c)
  if st == 4 || st == 5 || st == 0 then s
  else
    let ps := s.positionsOf c
    let s := (s.put (Fld.FCH_STATUS_STATE c) 4).record .fchChannelRetired (unitChan c)
    let s := s.put (Fld.FCH_STATUS_TWO_POS c) 0
    (ps.foldl (fun s p => s.movePosition c p) s).spaceCheck

/-- A die is retired whole: unverified superblocks are rebuilt from parity, units of verified ones are healed; a channel
with more than half its dies retired is retired too (R341). -/
def State.retireDie (s : State) (c d : Nat) : State :=
  let key := c * 128 + d
  if s.flash.deadDies.contains key then s
  else
    let all := ((s.geom c).map (fun g => g.dies.val)).getD 0
    let s : State := { s with flash := { s.flash with deadDies := s.flash.deadDies ++ [key] } }
    let dead := (s.flash.deadDies.filter (fun k => k / 128 = c)).length
    let s := (s.put (Fld.FCH_GEOM_DIES c) (all - dead)).record .ftlDieRetired (unitChan c) [BitVec.ofNat 8 d]
    let on (b : Nat) : Bool := nameChan b == c && nameDie b == d
    let s := s.flash.sbs.foldl (fun s e => match e.2.members.findIdx? on with
      | some p =>
        if e.2.st == .opened || e.2.st == .closed then
          match s.pickBlock c e.2.members with
          | some n => s.replaceMember e.1 e.2 p n
          | none => s
        else s.unitsLost (s.unitsOf (e.2.members.getD p 0))
      | none => s) s
    if all < 2 * dead then s.retireFch c else s.spaceCheck

/-- A die with more than 16 block retirements in an hour is retired whole (R341). -/
def State.dieCheck (s : State) (b : Nat) : State :=
  let key := nameChan b * 128 + nameDie b
  if 16 < (s.flash.dieFails.filter (fun e => e.1 = key && decide (s.now < e.2 + 3600000000))).length then s.retireDie (nameChan b) (nameDie b) else s

/-! ### Programs and erases -/

/-- A journal entry takes effect when its page has passed program status (R326, R327, R334). -/
def State.commitEntry (s : State) (e : JEntry) : State :=
  if e.typ = 1 then
    match kget s.flash.prog e.target with
    | some p => if p.version = e.version then s.commitUnit e.target else s
    | none => s
  else if e.typ = 2 then
    match kget s.flash.map e.target with
    | some m =>
      if m.phys = e.old then { s with flash := { s.flash with map := kupd s.flash.map e.target (fun m => { m with phys := e.new }) } }
      else s.count Reg.FTL_MOVES_STALE
    | none => s.count Reg.FTL_MOVES_STALE
  else if e.typ = 7 then s.updBlk e.target (fun b => { b with st := .erasing, suspends := [] })
  else s

/-- A page has passed program status: its unit is journaled, its journal entries are committed (R326, R334, R337). -/
def State.pagePassed (s : State) (o : PageOp) (loc : Nat) : State :=
  match o.use with
  | .unit u v =>
    match kget s.flash.prog u with
    | some p => if p.version = v then
        s.journalAdd { version := v, target := u, typ := 1, new := p.loc, old := ((kget s.flash.map u).map (fun m => m.phys)).getD 0xFFFFFFFF }
      else s
    | none => s
  | .move u old => s.journalAdd { version := ((kget s.flash.map u).map (fun m => m.version)).getD 0, target := u, typ := 2, new := loc, old := old }
  | .journal n =>
    let es := ((s.flash.jpages.find? (fun j => j.1 = n)).map (·.2)).getD []
    es.foldl State.commitEntry { s with flash := { s.flash with jpages := s.flash.jpages.filter (fun j => j.1 != n) } }
  | .filler => s
  | .checkpoint => s

/-- A superblock with every page programmed is closed (R322, SB_CLOSE). -/
def State.closeSb (s : State) (n : Nat) : State :=
  match s.sb n with
  | some x =>
    if x.st == .opened && x.done.all (fun d => x.pages ≤ d) then
      ((s.setSb n { x with st := .closed }).markBlocks x.members .closed).journalAdd { version := s.flash.version, target := x.members.headD 0, typ := 5 }
    else s
  | none => s

/-- The page in flight that a block and a page number name: the next of its block, in a page-stripe that holds a unit
for every position (R320). -/
def State.findOp (s : State) (block page : Nat) : Option (PageOp × Sb) :=
  (s.flash.ops.findSome? (fun o => match s.sb o.sb with
    | some x => if x.members.getD o.pos 0 = block && o.page = page && x.done.getD o.pos 0 = page && x.next.all (fun g => decide (page < g))
        then some (o, x) else none
    | none => none))

/-- A NAND program reports its status (R326, R336, R337, R340). -/
def execNandProgramDone (block page : Nat) (ok : Bool) (s : State) : Host.Outcome State Fault Refusal :=
  s.core (match s.findOp block page with
    | some (o, x) =>
      if ok then
        let c := nameChan block
        let stamp : Nat × Nat × Int := (page / 64, (s.stamp / 4096) % 2 ^ 24, (kget s.flash.temps (c * 128 + nameDie block)).getD 0)
        let s := if page % 64 = 0 then s.updBlk block (fun b => { b with stamps := b.stamps ++ [stamp] }) else s
        let s := s.setSb o.sb { x with done := updAt x.done o.pos (· + 1) }
        let s : State := { s with flash := { s.flash with
          ops := s.flash.ops.filter (fun p => !(p.sb = o.sb && p.pos = o.pos && p.page = o.page)), programmed := s.flash.programmed + 16384 } }
        ((((((s.pagePassed o (block + page)).closeSb o.sb).gcGoOn).journalPump false).spaceCheck).placeLate (s.twin.late.length + 1)).settle
      else
        ((((s.count (Reg.FCH_PROG_FAIL (nameChan block))).retireBlock block).dieCheck block).journalPump false).spaceCheck
    | none => s)

/-- A position without a unit receives filler units, so that its page-stripes are programmed (R320). -/
def execStripeFillTimeout (position : Nat) (s : State) : Host.Outcome State Fault Refusal :=
  s.core (if 32 ≤ position then s
    else (s.flash.sbs.filter (fun e => e.2.st == .opened)).foldl (fun s e =>
      let p := e.2.next.getD position 0
      if e.2.next.any (fun g => decide (p < g)) then (s.handTo e.1 e.2 position .filler).1 else s) s)

/-! ### Wear (R348) -/

/-- Rated cycles in use on a channel (R314): the carrier's, or 3,000 for TLC and 1,000 for QLC. -/
def geomRated (g : FlashGeom) : Nat := match g.rated with
  | some r => r.toNat
  | none => if g.cell.val = 4 then 1000 else 3000

/-- Erase counts of the blocks of the channels in service, in percent of rated. -/
def State.wears (s : State) : List Nat :=
  (((List.range 32).filter s.chanIn).map (fun c => (s.goodBlocks c).map (fun n =>
    (s.blk n).pe * 100 / max 1 (((s.geom c).map geomRated).getD 1)))).flatten

/-- Mean and highest of them. -/
def State.wearMean (s : State) : Nat := if s.wears.isEmpty then 0 else s.wears.foldl (· + ·) 0 / s.wears.length
def State.wearMax (s : State) : Nat := s.wears.foldl max 0

/-- EV_FTL_WEAR_RATED when the mean passes 100% (R348). -/
def State.wearCheck (s : State) (before : Nat) : State :=
  if before ≤ 100 && decide (100 < s.wearMean) then s.record .ftlWearRated else s

/-- A block erase completes (R334, R340, R350). -/
def execNandEraseDone (block : Nat) (ok : Bool) (s : State) : Host.Outcome State Fault Refusal :=
  s.core (let b := s.blk block
    if b.st == .erasing || b.st == .eraseIncomplete then
      if ok then
        let spare := s.flash.sbs.any (fun e => e.2.toSpare && e.2.members.contains block)
        let before := s.wearMean
        let s := (s.setBlk block { st := if spare then .spare else .free, pe := b.pe + 1 }).wearCheck before
        let s := s.journalAdd { version := s.flash.version, target := block, typ := 8 }
        ((s.gcStatus).journalPump false).spaceCheck
      else
        ((((s.count (Reg.FCH_ERASE_FAIL (nameChan block))).retireBlock block).dieCheck block).gcStatus).spaceCheck
    else s)

/-! ### Reads (R330 to R332) -/

/-- Bucket of a value among rising bounds. -/
def bucket (bounds : List Int) (v : Int) : Nat := (bounds.filter (fun b => decide (b ≤ v))).length

/-- Entry index of Table 10-5 for age in hours, temperature delta in °C, and erase count over rated cycles. -/
def thresholdEntry (age delta : Int) (pe rated : Nat) : Nat :=
  let a := bucket [1, 24, 168, 720, 2160, 8760, 26280] age
  let t := if delta < -40 then 0 else if delta < -20 then 1 else if delta < -5 then 2 else if delta ≤ 5 then 3
    else if delta ≤ 20 then 4 else if delta ≤ 40 then 5 else if delta ≤ 60 then 6 else 7
  let w := if rated = 0 then 0 else bucket [25, 50, 75, 100, 125, 150, 200] (pe * 100 / rated : Nat)
  a * 64 + t * 8 + w

/-- The threshold entry for a page now (R330). -/
def State.entryFor (s : State) (phys : Nat) : Nat :=
  let n := s.blockOf phys
  let b := s.blk n
  let c := nameChan phys
  let temp := (kget s.flash.temps (c * 128 + nameDie phys)).getD 0
  let g := b.stamps.find? (fun x => x.1 = (phys - n) / 64)
  match g with
  | some x => thresholdEntry ((s.stamp / 4096 : Nat) - (x.2.1 : Int)) (temp - x.2.2) b.pe (((s.geom c).map geomRated).getD 0)
  | none => thresholdEntry 0 0 b.pe (((s.geom c).map geomRated).getD 0)

/-- The entry that a step of R331 tries: 1 the hint, 2 to 4 age + 1, + 2 and − 1, 5 and 6 temperature + 1 and − 1. -/
def retryEntry (entry step hint : Nat) : Nat :=
  let a := entry / 64
  let t := (entry / 8) % 8
  let w := entry % 8
  match step with
  | 1 => hint
  | 2 => min 7 (a + 1) * 64 + t * 8 + w
  | 3 => min 7 (a + 2) * 64 + t * 8 + w
  | 4 => (a - 1) * 64 + t * 8 + w
  | 5 => a * 64 + min 7 (t + 1) * 8 + w
  | 6 => a * 64 + (t - 1) * 8 + w
  | _ => entry

/-- A unit of an unverified superblock whose parity page is programmed can be rebuilt (R321, R331). -/
def State.rebuildable (s : State) (phys : Nat) : Bool :=
  s.flash.sbs.any (fun e => (e.2.st == .opened || e.2.st == .closed) && e.2.parity.isSome &&
    e.2.members.contains (s.blockOf phys) && e.2.done.all (fun d => decide (phys - s.blockOf phys < d)))

/-- Reads healed or rebuilt units of a block on one more occasion (R340). -/
def State.readFail (s : State) (b : Nat) : State :=
  let n := max 1 (s.get Fld.FTL_VERIFY_RETIRE_FAILS)
  let s := s.updBlk b (fun x => { x with fails := x.fails + 1 })
  if n ≤ (s.blk b).fails && (s.blk b).st != .retired then (s.retireBlock b).dieCheck b else s

/-- A read of a unit has been served while an erase runs on its die: the erase was suspended for it, once for each page
read and at most MAX_SUSPEND times (R332, log entry 79). -/
def State.suspendErase (s : State) (u phys : Nat) : State :=
  let c := nameChan phys
  match s.flash.blocks.find? (fun e => e.2.st == .erasing && nameChan e.1 == c && nameDie e.1 == nameDie phys) with
  | some e =>
    if s.on Fld.FTL_CTRL_ERASE_SUSPEND && !(e.2.suspends.contains u) && decide (e.2.suspends.length < s.get (Fld.FCH_ERASE_MAX_SUSPEND c)) then
      (s.setBlk e.1 { e.2 with suspends := u :: e.2.suspends }).count (Reg.FCH_SUSPENDS c)
    else s
  | none => s

/-- A NAND page read returns (R331): step 0 the entry of Table 10-5, 1 to 6 the retries in their order, 7 the soft read.
A codeword that does not decode is tried again in the next step, and after the soft read rebuilt or healed. -/
def execNandReadDone (unit : Nat) (codeword : Fin 4) (step : Fin 8) (decoded : Bool) (s : State) : Host.Outcome State Fault Refusal :=
  s.core (match s.frame unit, kget s.flash.map unit with
    | some f, some m =>
      if !f.filling then s
      else
        let s := if step.val = 0 then s.suspendErase unit m.phys else s
        let c := nameChan m.phys
        let b := s.blockOf m.phys
        let g := (m.phys - b) / 64
        let retry := decide (1 ≤ step.val) && decide (step.val ≤ 6)
        let s := if retry then s.count (Reg.FCH_RETRY_READS c) else if step.val = 7 then s.count (Reg.FCH_SOFT_READS c) else s
        let s : State := if retry then { s with flash := { s.flash with retries := s.flash.retries + 1 } } else s
        let hint := (kget (s.blk b).hints g).getD (s.entryFor m.phys)
        if decoded then
          let s := if retry then s.updBlk b (fun x => { x with hints := kput x.hints g (retryEntry (s.entryFor m.phys) step.val hint) }) else s
          s.deliver unit codeword.val
        else if step.val = 7 then
          let s := s.count (Reg.FCH_UNCORR c)
          if s.rebuildable m.phys then ((s.count Reg.FTL_PARITY_REBUILD).readFail b).deliver unit codeword.val
          else (s.readFail b).needHeal unit
        else s
    | _, _ => s)

/-! ### Verify, checkpoints, collection -/

/-- Every unit of a closed superblock has passed or been relocated (R322, R340). -/
def execSbVerifyDone (sb : Nat) (relocated : List Nat) (s : State) : Host.Outcome State Fault Refusal :=
  s.core (match s.sb sb with
    | some x =>
      if x.st != .closed then s
      else
        let us := relocated.filter (fun u => (s.sbUnits x).contains u)
        let bad (b : Nat) : Nat := (us.filter (fun u => match kget s.flash.map u with
          | some m => s.blockOf m.phys = b
          | none => false)).length
        let worn := x.members.filter (fun b => max 1 (s.get Fld.FTL_VERIFY_RETIRE_FAILS) ≤ bad b)
        let s := (us.foldl State.relocate s).countBy Reg.FTL_VERIFY_RELOC us.length
        let s := (s.setSb sb { x with st := .verified, parity := none }).markBlocks x.members .verified
        let s := match x.parity with
          | some b => s.setBlk b { st := .free, pe := (s.blk b).pe + 1 }
          | none => s
        let s := s.journalAdd { version := s.flash.version, target := x.members.headD 0, typ := 6 }
        ((worn.foldl (fun s b => (s.retireBlock b).dieCheck b) s).journalPump false).spaceCheck
    | none => s)

/-- A checkpoint begins (R328, R329): the replay starts here, and the buffer's journal page is named by the root. -/
def State.ckptStart (s : State) : State :=
  if s.on Fld.FTL_STATUS_CKPT_BUSY then s
  else
    let s : State := { s with flash := { s.flash with sinceCkpt := 0 } }
    let s := s.put Fld.FTL_STATUS_CKPT_BUSY 1
    match s.handPage true 2 none .checkpoint with
    | some r => r.1
    | none => s

/-- Its root page is programmed (R328, R353, R386). -/
def State.ckptDone (s : State) : State :=
  let s : State := { s with flash := { s.flash with
    ckptHours := (s.stamp / 4096) % 2 ^ 24, ckptChanged := [(s.home 0).changed, (s.home 1).changed] } }
  (s.put Fld.FTL_STATUS_CKPT_BUSY 0).count Reg.FTL_CKPTS

/-- 64 GiB programmed, 30 s, or a lower trigger of FTL_CKPT (R329). -/
def execCheckpointStart (s : State) : Host.Outcome State Fault Refusal := s.core (if s.on Fld.FTL_STATUS_MOUNTED then s.ckptStart else s)

def execCheckpointDone (s : State) : Host.Outcome State Fault Refusal := s.core (if s.on Fld.FTL_STATUS_CKPT_BUSY then s.ckptDone else s)

/-- Mean stamp of a superblock's blocks in hours (R333). -/
def State.meanStamp (s : State) (x : Sb) : Nat :=
  let hs := (x.members.map (fun b => (s.blk b).stamps.map (fun g => g.2.1))).flatten
  hs.foldl (· + ·) 0 / max 1 hs.length

/-- The verified superblock with the fewest valid units, ties to the oldest mean stamp (R333). -/
def State.gcVictim (s : State) : Option (Nat × Sb) :=
  (s.flash.sbs.filter (fun e => e.2.st == .verified)).foldl (fun (acc : Option (Nat × Sb)) e => match acc with
    | some x =>
      let a := (s.sbUnits e.2).length
      let b := (s.sbUnits x.2).length
      if a < b || (a = b && s.meanStamp e.2 < s.meanStamp x.2) then some e else some x
    | none => some e) none

/-- Static wear levelling takes the verified superblock with the block of lowest erase count, on a channel whose counts
differ by more than FTL_WL.DELTA (R338). -/
def State.wlVictim (s : State) : Option (Nat × Sb) :=
  if !(s.on Fld.FTL_CTRL_STATIC_WL) then none
  else
    let pes (c : Nat) : List Nat := (s.goodBlocks c).map (fun b => (s.blk b).pe)
    let wide (c : Nat) : Bool :=
      let l := pes c
      decide (l.foldl min (l.headD 0) + s.get Fld.FTL_WL_DELTA < l.foldl max 0)
    match (List.range 32).find? (fun c => s.chanIn c && wide c) with
    | some c =>
      let low := (s.goodBlocks c).foldl (fun (acc : Option Nat) b => match acc with
        | some m => if (s.blk b).pe < (s.blk m).pe then some b else some m
        | none => some b) none
      s.flash.sbs.find? (fun e => e.2.st == .verified && match low with
        | some b => e.2.members.contains b
        | none => false)
    | none => none

/-- Garbage collection takes a victim (R333, R338). -/
def execGcStart (s : State) : Host.Outcome State Fault Refusal :=
  s.core (if !(s.on Fld.FTL_STATUS_MOUNTED) || s.on Fld.FTL_STATUS_GC_ACTIVE || !(s.admits 1) then s
    else
      let v := if s.freeSbs ≤ s.reserveSb + s.get Fld.FTL_RESERVE2_GC_START then s.gcVictim else s.wlVictim
      match v with
      | some e => (((s.setSb e.1 { e.2 with st := .collecting }).count Reg.FTL_GC_VICTIMS).gcGoOn.gcStatus).journalPump false
      | none => s)

/-- Die temperatures are read each second (R330); FCH_TEMP shows the hottest die. -/
def execDieTempPoll (temps : List (Fin 32 × Fin 128 × Int)) (s : State) : Host.Outcome State Fault Refusal :=
  s.core (let ts := temps.foldl (fun m t => kput m (t.1.val * 128 + t.2.1.val) t.2.2) s.flash.temps
    let s : State := { s with flash := { s.flash with temps := ts } }
    (List.range 32).foldl (fun s c =>
      match (ts.filter (fun e => e.1 / 128 = c)).map (·.2) with
      | [] => s
      | t :: l => s.put ⟨Reg.FCH_TEMP c, 0, 8⟩ ((l.foldl max t) % 256).toNat) s)

/-- FCH_CTRL.RETIRE written 1 (R341, R342). -/
def execFchRetire (chan : Fin 32) (s : State) : Host.Outcome State Fault Refusal :=
  s.core ((s.put (Fld.FCH_CTRL_RETIRE chan.val) 1).retireFch chan.val)

/-- A die stops answering, or the controller of its channel does (R341). -/
def execFlashDieStopsAnswering (chan : Fin 32) (die : Option (Fin 128)) (s : State) : Host.Outcome State Fault Refusal :=
  s.core (if !(s.chanIn chan.val) then s
    else match die with
      | some d => s.retireDie chan.val d.val
      | none => s.retireFch chan.val)

/-- A flash channel is in service, or excluded (R313 to R315). -/
def execFlashChannelInitDone (chan : Fin 32) (ok : Bool) (g : FlashGeom) (s : State) : Host.Outcome State Fault Refusal :=
  s.core (let c := chan.val
    if s.get (Fld.FCH_STATUS_STATE c) = 2 then s
    else if !ok then (s.put (Fld.FCH_STATUS_STATE c) 5).record .fchInitFail (unitChan c)
    else
      let s : State := { s with flash := { s.flash with geoms := kput s.flash.geoms c g } }
      let s := (((s.put (Fld.FCH_STATUS_STATE c) 2).putB (Fld.FCH_STATUS_TOGGLE c) g.toggle).put (Fld.FCH_STATUS_RATE c) g.rate.val).put (Fld.FCH_STATUS_TWO_POS c)
        (if 1 < (s.positionsOf c).length then 1 else 0)
      let s := ((s.put (Fld.FCH_GEOM_DIES c) g.dies.val).put (Fld.FCH_GEOM_BITS c) g.cell.val).put (Fld.FCH_GEOM_BLK c) g.blockLog2.val
      let s := s.setReg (Reg.FCH_RATED c) (BitVec.ofNat 32 (geomRated g))
      let s := if g.rated.isNone then s.record .fchIdFail (unitChan (c / 2)) else s
      if g.unsupported then s.record .fchDieUnsupported (unitChan c) else s)

/-- The standby's read-verify samples; the argument lists units that needed parity or a heal, which are relocated
(R389). -/
def execT2SampleTimer (bad : List Nat) (s : State) : Host.Outcome State Fault Refusal :=
  s.core (if s.standby 0 || s.standby 1 then (bad.foldl State.relocate s).setRegBit Reg.TWN_HEALTH 2 (!bad.isEmpty) else s)

end Sys2Proof.Machine
end

