-- ==== Sys2Proof/Machine/LineCache.lean ====
section
/-! DEFINITION. Sys2Proof/Machine/LineCache.lean: the line cache enabled and disabled, its locks, its maintenance
operations and its fills (R239 to R255). -/

namespace Sys2Proof.Machine

/-- Lines of the cache: 16 banks of 16,384 sets of 16 ways (R232). -/
abbrev t0Lines : Nat := 4194304

/-- Line numbers of the firmware reserve start here: A[50] is set (R234). -/
abbrev reserveLine : Nat := 2 ^ 44

/-! ### Enable, disable, locks -/

/-- A write of 1 to LC_CTRL.EN (R244): refused while INV_DONE is 0; the answer says whether it was accepted. -/
def State.lcEnable (s : State) : State × Bool :=
  if s.on Fld.LC_CTRL_EN then (s, true)
  else if s.on Fld.LC_STATUS_INV_DONE then ((s.put Fld.LC_CTRL_EN 1).put Fld.LC_STATUS_ENABLED 1, true)
  else ((s.put Fld.LC_STATUS_EN_REFUSED 1).record .lcEnableRefused, false)

/-- A write of 0 to LC_CTRL.EN (R245): the clean and invalidate of the whole cache begins. -/
def State.lcDisable (s : State) : State := if s.on Fld.LC_CTRL_EN then s.put Fld.LC_STATUS_DISABLING 1 else s

/-- Every line is cleaned and invalidated (R245). -/
def State.cleanInvWhole (s : State) : State := (s.tier.lines.map (·.1)).foldl State.cleanInvLine s

/-- The disabling operation has completed (R245). -/
def State.lcDisableDone (s : State) : State :=
  if s.on Fld.LC_STATUS_DISABLING then
    ((s.cleanInvWhole.put Fld.LC_STATUS_DISABLING 0).put Fld.LC_CTRL_EN 0).put Fld.LC_STATUS_ENABLED 0
  else s

/-- A write of LC_LOCK (R250): ignored while LOCK_BUSY; cleared bits act at once; a bit being set first has its way
cleaned and invalidated. -/
def State.lcLockWrite (s : State) (v : Nat) : State :=
  if s.on Fld.LC_STATUS_LOCK_BUSY then s
  else
    let old := s.get Fld.LC_LOCK_LOCK
    let s := s.put Fld.LC_LOCK_LOCK (old &&& v)
    if old &&& v = v % 256 then s
    else ({ s with tier := { s.tier with lockNew := some (v % 256) } } : State).put Fld.LC_STATUS_LOCK_BUSY 1

/-- The clean of the ways being locked has completed (R250). -/
def State.lcLockDone (s : State) : State :=
  match s.tier.lockNew with
  | some v =>
    let old := s.get Fld.LC_LOCK_LOCK
    let go (w : Nat) : Bool := decide (w < 8) && v.testBit w && !(old.testBit w)
    let s := ((s.tier.lines.filter (fun (e : Nat × Line) => go e.2.way)).map (fun (e : Nat × Line) => e.1)).foldl State.cleanInvLine s
    ((({ s with tier := { s.tier with lockNew := none } } : State).put Fld.LC_LOCK_LOCK v)).put Fld.LC_STATUS_LOCK_BUSY 0
  | none => s

/-! ### Maintenance operations (R247 to R253, Table 07-2) -/

/-- A line under INV_RANGE: the dirty data of an unlocked line of the firmware reserve is discarded (R253, Table 07-2). -/
def State.invLine (s : State) (l : Nat) : State :=
  match s.line l with
  | some x => if reserveLine ≤ l && !(s.wayLocked x.way) then s.dropLine l else s.cleanInvLine l
  | none => s

/-- A line under ZERO_LINE. -/
def State.zeroT0Line (s : State) (l : Nat) : State :=
  match s.line l with
  | some x => s.setLine l { x with data := List.replicate 64 0, dirty := true, wrote := 0xFF }
  | none => s.allocLine l { way := 0, dirty := true, wrote := 0xFF, data := List.replicate 64 0 }

/-- The lowest empty locked way of a line's set that the mask allows (R252). -/
def State.lockedWay (s : State) (mask l : Nat) : Option Nat :=
  (List.range 8).find? (fun w => mask.testBit w && s.wayLocked w && s.wayFree (t0Set (l * 64)) w)

/-- A line under LOCK_FILL; the answer says whether it is placed (R252). -/
def State.lockFillLine (s : State) (mask l : Nat) : State × Bool :=
  match s.line l with
  | some x =>
    if s.wayLocked x.way then (s, true)
    else match s.lockedWay mask l with
      | some w => (s.setLine l { x with way := w }, true)
      | none => (s, false)
  | none => match s.lockedWay mask l with
    | some w => (s.setLine l { way := w, dirty := false, data := s.t1Read (l * 64) 64 }, true)
    | none => (s, false)

/-- First line and number of lines of the loaded range. -/
def State.mopRange (s : State) : Nat × Nat :=
  ((s.reg64 Reg.LC_MOP_ADDR_LO Reg.LC_MOP_ADDR_HI) / 64, (s.reg Reg.LC_MOP_LINES).toNat)

/-- LC_MOP_STATUS.ERR set by a start that is refused. -/
def State.mopRefuse (s : State) (err : Nat) : State := s.put Fld.LC_MOP_STATUS_ERR err

/-- An operation has started: LAST_OP, the lines that it handles, and BUSY until its last write-back (R248). -/
def State.mopBegin (s : State) (op done err : Nat) : State :=
  let s := ((s.put Fld.LC_MOP_STATUS_BUSY 1).put Fld.LC_MOP_STATUS_ERR 0).put Fld.LC_MOP_STATUS_LAST_OP op
  { s.setReg Reg.LC_MOP_DONE (BitVec.ofNat 32 done) with tier := { s.tier with mop := some (op, err) } }

/-- An operation that finds the cache disabled completes at once with LC_MOP_DONE 0 (R247). -/
def State.mopAtOnce (s : State) (op : Nat) : State :=
  ((s.put Fld.LC_MOP_STATUS_ERR 0).put Fld.LC_MOP_STATUS_LAST_OP op).setReg Reg.LC_MOP_DONE 0

/-- A write of LC_MOP_CMD (R247, R252, Table 07-7). -/
def State.mopStart (s : State) (op mask : Nat) : State :=
  let en := s.on Fld.LC_CTRL_EN
  let (l0, n) := s.mopRange
  let ranged := op = 2 || op = 3 || op = 4 || op = 5 || op = 6
  if s.on Fld.LC_MOP_STATUS_BUSY then s.mopRefuse 1
  else if op = 0 || 8 < op then s.mopRefuse 2
  else if (op = 1 && en) || ((op = 5 || op = 6) && !en) then s.mopRefuse 3
  else if ranged && 2 ^ 45 < l0 + n then s.mopRefuse 4
  else if (op = 5 || op = 6) && l0 < reserveLine then s.mopRefuse 4
  else if op = 6 && (mask = 0 || (List.range 8).any (fun w => mask.testBit w && !(s.wayLocked w))) then s.mopRefuse 6
  else if op = 1 then ({ s with tier := { s.tier with lines := [] } } : State).mopBegin 1 t0Lines 0
  else if !en then s.mopAtOnce op
  else if op = 2 then ((span l0 n).foldl State.invLine s).mopBegin op n 0
  else if op = 3 then ((span l0 n).foldl State.cleanLine s).mopBegin op n 0
  else if op = 4 then ((span l0 n).foldl State.cleanInvLine s).mopBegin op n 0
  else if op = 5 then ((span l0 n).foldl State.zeroT0Line s).mopBegin op n 0
  else if op = 6 then
    let r := (span l0 n).foldl (fun (acc : State × Nat) l =>
      let x := acc.1.lockFillLine mask l
      (x.1, if x.2 then acc.2 + 1 else acc.2)) (s, 0)
    r.1.mopBegin op r.2 (if r.2 < n then 5 else 0)
  else if op = 7 then ((s.tier.lines.map (·.1)).foldl State.cleanLine s).mopBegin op t0Lines 0
  else s.cleanInvWhole.mopBegin op t0Lines 0

/-- The last write-back of the operation has reached T1 (R244, R248, Table 07-3). -/
def State.mopDone (s : State) : State :=
  match s.tier.mop with
  | some (op, err) =>
    let s := (({ s with tier := { s.tier with mop := none } } : State).put Fld.LC_MOP_STATUS_BUSY 0).put Fld.LC_MOP_STATUS_ERR err
    let s := if op = 1 then (s.put Fld.LC_STATUS_INV_DONE 1).put Fld.LC_STATUS_BANK_ON 0xFFFF else s
    if err = 0 then s else s.record .lcMopErr
  | none => s

/-! ### Meanings -/

/-- LC_CTRL.EN set (R244). -/
def execLcEnable (s : State) : Host.Outcome State Fault Refusal := s.core s.lcEnable.1

/-- LC_CTRL.EN cleared (R245). -/
def execLcDisable (s : State) : Host.Outcome State Fault Refusal := s.core s.lcDisable

/-- The disabling clean and invalidate completes (R245). -/
def execLcDisableDone (s : State) : Host.Outcome State Fault Refusal := s.core s.lcDisableDone

/-- A LOCK bit set (R250). -/
def execLcLockSet (way : Fin 8) (s : State) : Host.Outcome State Fault Refusal :=
  s.core (s.lcLockWrite (s.get Fld.LC_LOCK_LOCK ||| 1 <<< way.val))

/-- A way being locked has been cleaned (R250). -/
def execLcLockSetDone (s : State) : Host.Outcome State Fault Refusal := s.core s.lcLockDone

/-- A LOCK bit cleared (R250). -/
def execLcLockClear (way : Fin 8) (s : State) : Host.Outcome State Fault Refusal :=
  s.core (s.lcLockWrite (s.get Fld.LC_LOCK_LOCK &&& (255 - 1 <<< way.val)))

/-- INV_ALL (Table 07-2). -/
def execInvAll (s : State) : Host.Outcome State Fault Refusal := s.core (s.mopStart 1 0)

/-- INV_RANGE (Table 07-2, R253). -/
def execInvRange (s : State) : Host.Outcome State Fault Refusal := s.core (s.mopStart 2 0)

/-- CLEAN_RANGE (Table 07-2). -/
def execCleanRange (s : State) : Host.Outcome State Fault Refusal := s.core (s.mopStart 3 0)

/-- CLEAN_INV_RANGE (Table 07-2). -/
def execCleanInvRange (s : State) : Host.Outcome State Fault Refusal := s.core (s.mopStart 4 0)

/-- ZERO_LINE (Table 07-2). -/
def execZeroLine (s : State) : Host.Outcome State Fault Refusal := s.core (s.mopStart 5 0)

/-- LOCK_FILL (R252). -/
def execLockFill (wayMask : BitVec 8) (s : State) : Host.Outcome State Fault Refusal := s.core (s.mopStart 6 wayMask.toNat)

/-- CLEAN_ALL (Table 07-2). -/
def execCleanAll (s : State) : Host.Outcome State Fault Refusal := s.core (s.mopStart 7 0)

/-- CLEAN_INV_ALL (Table 07-2). -/
def execCleanInvAll (s : State) : Host.Outcome State Fault Refusal := s.core (s.mopStart 8 0)

/-- An OP value that Table 07-2 does not list (R247). -/
def execLcMopReservedOp (op : BitVec 4) (s : State) : Host.Outcome State Fault Refusal :=
  if op = 0 || 8 < op.toNat then s.core (s.mopStart op.toNat 0) else .refused (.illFormed "LC_MOP_RESERVED_OP: OP is listed")

/-- A maintenance operation ends (R248). -/
def execLcMopDone (s : State) : Host.Outcome State Fault Refusal := s.core s.mopDone

/-- A line fill from T1 delivers its words (R239, R240). -/
def execLcFillDone (line : Nat) (s : State) : Host.Outcome State Fault Refusal :=
  s.core (match s.line line with
    | some x => if x.filling then (s.endLineFill line).retryFill (line / 256) else s
    | none => s.retryFill (line / 256))

/-- A fill buffer of a bank is free, so misses of the bank that waited for one go on (R241). -/
def execFillBufferFreed (bank : Fin 16) (s : State) : Host.Outcome State Fault Refusal :=
  s.core (if s.bankFills bank.val < 64 then s.retry (fun t => { t with waitBuffer := false }) else s)

/-- A bank powered up after gating has invalidated its sets (R246). -/
def execLcBankInvalidateDone (bank : Fin 16) (s : State) : Host.Outcome State Fault Refusal :=
  s.core (if s.bankOn bank.val then s
    else
      let s : State := { s with tier := { s.tier with lines := s.tier.lines.filter (fun (e : Nat × Line) => t0Bank (e.1 * 64) != bank.val) } }
      (s.setRegBit Reg.LC_STATUS (16 + bank.val) true).retry (fun t => { t with waitBuffer := false }))

end Sys2Proof.Machine
end

