-- ==== Sys2Proof/Machine/Dram.lean ====
section
/-! DEFINITION. Sys2Proof/Machine/Dram.lean: the DDR5 channels: queues and scheduling, refresh, parity alerts, line reads
with their recovery, the correction log and the remap tables, retirement (chapter 8, R291, R296, R297, R304 to R308). -/

namespace Sys2Proof.Machine

def State.chan (s : State) (c : Nat) : DramChan := s.dram.chans.getD c {}
def State.updChan (s : State) (c : Nat) (f : DramChan → DramChan) : State :=
  { s with dram := { s.dram with chans := setAt 16 {} s.dram.chans c f } }

def State.dmcState (s : State) (c : Nat) : Nat := s.get (Fld.DMC_STATUS_STATE c)

/-- A field of a channel's register as the channel sees it during a roll (R565, R566). -/
def State.dmcGet (s : State) (c : Nat) (f : Field) : Nat := fieldOf f (s.sliceReg c f.addr)

/-! ### Capacity of T1 and retirement (R260, R281 to R283) -/

/-- Granules of T1 for the pool: those of the channels in service or retiring, less the firmware reserve. -/
def State.t1Granules (s : State) : Nat :=
  let idle := s.get Fld.GOV_STATUS_PSTATE = 2
  let up := (List.range 16).filter (fun c => s.dmcState c == 2 || s.dmcState c == 4 || (idle && s.dmcState c == 3))
  (up.map (fun c => s.chanFrames c / 128)).foldl (· + ·) 0 - Config.reserveGranules

/-- Reservations, stream windows and the mirror reserve fit beside the transient pool (R283). -/
def State.t1Fits (s : State) (transient : Nat) : Bool :=
  decide (s.reserved + s.streamRsv + s.mirrorRsv + transient ≤ (s.reg Reg.TIER_T1_TOTAL).toNat)

/-- T1 has lost a channel: float pool first, then the transient pool down to 512 granules, else service stops (R283). -/
def State.t1Shrink (s : State) : State :=
  let s := s.setReg Reg.TIER_T1_TOTAL (BitVec.ofNat 32 s.t1Granules)
  let tr := (s.reg Reg.TIER_TRANSIENT).toNat
  if s.t1Fits tr then s
  else
    let room := (s.reg Reg.TIER_T1_TOTAL).toNat - s.reserved - s.streamRsv - s.mirrorRsv
    let s := s.setReg Reg.TIER_TRANSIENT (BitVec.ofNat 32 (max 512 (min tr room)))
    if s.t1Fits 512 then s else (s.record .dmcT1Short 0 [] 0).stopService .noT1

/-- A channel starts to retire: no new frame is placed on it (R282). -/
def State.retireDram (s : State) (c : Nat) : State := if s.dmcState c == 2 then s.put (Fld.DMC_STATUS_STATE c) 4 else s

/-- DMC_CTRL.RETIRE written 1 (R281). -/
def execDmcRetire (chan : Fin 16) (s : State) : Host.Outcome State Fault Refusal :=
  s.core ((s.put (Fld.DMC_CTRL_RETIRE chan.val) 1).retireDram chan.val)

/-! ### Recovery of lines (R279, Table 08-5) -/

/-- Lines of a unit whose words cannot be recovered are poisoned in a persistent region (R223, R224). -/
def State.markUncorr (s : State) (line : Nat) (ks : List Nat) : State :=
  let ws := ks.map (fun k => line * 8 + k)
  { s with tier := { s.tier with uncorr := (s.tier.uncorr.filter (fun w => !(ws.contains w))) ++ ws } }

/-- A line with uncorrectable words goes through steps 2 to 5 of Table 08-5; the answer says whether it came back, or
waits for a fill or a heal. -/
def State.recoverLine (s : State) (line : Nat) (ks : List Nat) : State × Bool :=
  if reserveLine ≤ line then (s, true)
  else match s.frame (line / 256), s.regionAt (line * 64) with
    | some f, some r =>
      let u := line / 256
      let clean := !r.2.volatile && !(f.dirty.getLsbD (line % 256)) && !(f.poison.getLsbD (line % 256))
      if clean then
        if s.mapped u then ((s.setFrame u { f with valid := f.valid &&& ~~~(lineBit (line % 256)) }).startFill u, true) else (s, true)
      else if s.paired r.2.home && (!r.2.volatile || r.2.mirror) then ((s.markUncorr line ks).askHeal r.2.home u, true)
      else if r.2.volatile then (s.markUncorr line ks, false)
      else ((s.markUncorr line ks).poisonUnit u, false)
    | _, _ => (s, true)

/-- An uncorrectable or correctable word of T0 (R254); the answer says whether nothing is lost. -/
def State.t0Word (s : State) (line k : Nat) (r : WordRes) : State × Bool :=
  match s.line line, r with
  | some _, .one => ((s.count Reg.LC_CORR).record .lcCorr 0 (leBytes 8 (line * 64)) 0 (perSecond 0), true)
  | some _, .two => ((s.count Reg.LC_CORR).record .lcCorr 0 (leBytes 8 (line * 64)) 0 (perSecond 0), true)
  | some x, .bad =>
    let s := s.count Reg.LC_UNCORR
    if !x.dirty then (s.dropLine line, true)
    else
      let ks := (List.range 8).filter (fun i => x.wrote.getLsbD i || i = k)
      let s := (s.dropLine line).record .lcUncorr 0 (leBytes 8 (line * 64 + k * 8))
      match s.frame (line / 256), s.regionAt (line * 64) with
      | some _, some g =>
        let s := s.markUncorr line ks
        if s.paired g.2.home && (!g.2.volatile || g.2.mirror) then (s.askHeal g.2.home (line / 256), true)
        else if g.2.volatile then (s, false)
        else (s.poisonUnit (line / 256), false)
      | _, _ => (s, true)
  | _, _ => (s, true)

/-! ### Remap tables and the correction log (R297, R304 to R308) -/

/-- The remap entry that holds a word. -/
def State.remapped (s : State) (c sub : Nat) (la : BitVec 32) (k : Nat) : Bool :=
  (s.chan c).remap.any (fun e => e.2.sub = sub && e.2.line = la && e.2.word = k)

/-- An entry is loaded with the corrected word (R306). -/
def State.remapSet (s : State) (c entry sub : Nat) (la : BitVec 32) (k : Nat) : State :=
  ((s.updChan c (fun x => { x with remap := kput x.remap entry { sub := sub, line := la, word := k } })).count Reg.ECC_REMAP_LOADS).record
    .eccRemap (unitChan c) (leBytes 4 la.toNat ++ leBytes 1 k)

/-- Key of a word for the thresholds of R305. -/
def wordKey (sub : Nat) (la : BitVec 32) (k : Nat) : Nat := (sub * 2 ^ 32 + la.toNat) * 8 + k

/-- Microseconds of an hour and of a day. -/
abbrev hourUs : Nat := 3600000000
abbrev dayUs : Nat := 86400000000

/-- Firmware asks for the retirement of a channel (R308). -/
def State.askRetire (s : State) (c : Nat) : State :=
  if s.dmcState c == 2 then (s.record .eccRetireReq (unitChan c)).retireDram c else s

/-- A corrected word of T1 enters the log and is held against the thresholds (R296, R297, R305, R308). -/
def State.noteCorr (s : State) (c sub : Nat) (la : BitVec 32) (k : Nat) (double scrub : Bool) : State :=
  let s := s.count (if double then Reg.ECC_T1_CORR2 else Reg.ECC_T1_CORR1)
  let s := if s.dram.clog.length < 64 then
      { s with dram := { s.dram with clog := s.dram.clog ++ [{ chan := c, sub := sub, line := la, word := k, double := double, scrub := scrub }] } }
    else
      let s := s.count Reg.ECC_CLOG_LOST
      if s.dram.clogLost then s else ({ s with dram := { s.dram with clogLost := true } } : State).record .eccClogOverflow
  let key := wordKey sub la k
  let now := s.now
  let s := s.updChan c (fun x => { x with
    named := x.named.filter (fun e => decide (now < e.2 + dayUs)) ++ [(key, now)]
    corrAt := x.corrAt.filter (fun t => decide (now < t + hourUs)) ++ [now] })
  let times := ((s.chan c).named.filter (fun e => e.1 = key)).length
  let s := if (double || max 1 (s.get Fld.ECC_THRESH_REMAP_THR) ≤ times) && !(s.remapped c sub la k) then
      match (List.range 16).find? (fun e => (kget (s.chan c).remap e).isNone) with
      | some e => s.remapSet c e sub la k
      | none => s.askRetire c
    else s
  let hr := s.get Fld.ECC_THRESH_CORR_HR
  if hr != 0 && decide (hr ≤ (s.chan c).corrAt.length) then s.askRetire c else s

/-- The code word that T1 holds: the marker for a never-written word of a volatile region (R66, R292). -/
def State.storedWord (s : State) (line k : Nat) : BitVec 80 :=
  let w := line * 8 + k
  match s.regionAt (line * 64) with
  | some r => if r.2.volatile && !(sget (fun _ => false) s.tier.written w) then marker
    else encodeWord (BitVec.ofNat 64 (leNat (s.t1Read (w * 8) 8)))
  | none => encodeWord (BitVec.ofNat 64 (leNat (s.t1Read (w * 8) 8)))

/-- The eight words of a line as the controller decodes them, with the given bits flipped; remapped words come from
their spares (R290, R293, R304). -/
def State.decodeLine (s : State) (c sub : Nat) (la : BitVec 32) (line : Nat) (flips : List (BitVec 80)) : List (WordRes × BitVec 64) :=
  let isVol := match s.regionAt (line * 64) with
    | some r => r.2.volatile
    | none => false
  (List.range 8).map (fun k =>
    let w := s.storedWord line k
    decodeWord isVol (if s.remapped c sub la k then w else w ^^^ flips.getD k 0))

def WordRes.corrected (r : WordRes) : Bool := r == .one || r == .two

/-- Indices of a line's words with a property. -/
def wordsWith (rs : List (WordRes × BitVec 64)) (p : WordRes → Bool) : List Nat :=
  (List.range 8).filter (fun k => p (rs.getD k (.ok, 0)).1)

/-- A line read that the checks pass as good: no uncorrectable word, and not suspect (R290, R291). -/
def State.lineGood (s : State) (rs : List (WordRes × BitVec 64)) : Bool :=
  (wordsWith rs (· == .bad)).isEmpty && !(s.on Fld.ECC_CTRL_LINECHK_EN && decide (3 ≤ (wordsWith rs WordRes.corrected).length))

/-- Corrections of a line read are counted and logged (R296). -/
def State.noteCorrs (s : State) (c sub : Nat) (la : BitVec 32) (rs : List (WordRes × BitVec 64)) (scrub : Bool) : State :=
  (wordsWith rs WordRes.corrected).foldl (fun s k => s.noteCorr c sub la k ((rs.getD k (.ok, 0)).1 == .two) scrub) s

/-- A line read uncorrectable: registers, counters, events, retirement at the threshold (R279, R281, R291). -/
def State.lineBad (s : State) (c sub : Nat) (la : BitVec 32) (line : Nat) (rs : List (WordRes × BitVec 64)) : State :=
  let bad := wordsWith rs (· == .bad)
  let suspect := bad.isEmpty
  let ks := if suspect then wordsWith rs WordRes.corrected else bad
  let s := if suspect then (s.count Reg.ECC_LINE_SUSPECT).record .eccDeviceSuspect (unitChan c) (leBytes 4 la.toNat) 0 (perSecond c) else s
  let s := s.setReg (Reg.DMC_LASTERR0 c) la
  let s := ((s.put (Fld.DMC_LASTERR1_SUB c) sub).put (Fld.DMC_LASTERR1_WORDS c) ((ks.map (fun k => 2 ^ k)).foldl (· + ·) 0)).putB
    (Fld.DMC_LASTERR1_FWRES c) (decide (reserveLine ≤ line))
  let s := (s.count (Reg.DMC_UNCORR c)).record .dmcUncorr (unitChan c) (leBytes 4 la.toNat) c (perSecond c)
  let now := s.now
  let s := s.updChan c (fun x => { x with uncorrAt := x.uncorrAt.filter (fun t => decide (now < t + dayUs)) ++ [now] })
  let thr := s.dmcGet c (Fld.DMC_ERRCTL_UNCORR_THR c)
  if thr != 0 && decide (thr ≤ (s.chan c).uncorrAt.length) then s.retireDram c else s

/-- A line of T1 is read with some bits flipped, and read once more if it does not pass (R279, R296). The answer says
whether every word came back or can still. -/
def State.readLine (s : State) (c sub : Nat) (la : BitVec 32) (line : Nat) (first again : List (BitVec 80)) (scrub : Bool) : State × Bool :=
  let rs := s.decodeLine c sub la line first
  let s := s.noteCorrs c sub la rs scrub
  if s.lineGood rs then (s, true)
  else
    let s := s.lineBad c sub la line rs
    let rs2 := s.decodeLine c sub la line again
    if s.lineGood rs2 then (s.noteCorrs c sub la rs2 scrub, true)
    else
      let bad := wordsWith rs2 (· == .bad)
      s.recoverLine line (if bad.isEmpty then wordsWith rs2 WordRes.corrected else bad)

/-! ### Queues and scheduling (R267 to R271, R277, R278) -/

def bankKey (a : DramAddr) : Nat := (a.sub.val * 16 + a.rank.val) * 64 + a.bank % 64

/-- Entries of one queue. -/
def DramChan.of (x : DramChan) (sub : Nat) (write : Bool) : List DmcEntry := x.queue.filter (fun e => e.a.sub.val = sub && e.write == write)

/-- The row of a request is open. -/
def DramChan.hit (x : DramChan) (a : DramAddr) : Bool := kget x.rows (bankKey a) == some a.row

/-- The request to issue next on a subchannel (R268, R269): an aged one, oldest first; then, among the kind that may
issue, a row hit in another bank group, any row hit, the oldest. -/
def DramChan.pick (x : DramChan) (sub : Nat) : Option DmcEntry :=
  let ready := x.queue.filter (fun e => e.a.sub.val = sub && !e.issued)
  let writes := ready.filter (·.write)
  let reads := ready.filter (fun e => !e.write)
  let kind := if x.drain.getD sub false then writes else if (x.of sub false).isEmpty then writes else reads
  match ready.find? (·.aged) with
  | some e => some e
  | none => match kind.find? (fun e => x.hit e.a && e.a.bank % 8 != x.group.getD sub 8) with
    | some e => some e
    | none => match kind.find? (fun e => x.hit e.a) with
      | some e => some e
      | none => kind.head?

/-- A row is activated: refresh management by the DRAM's own count, and a neighbour refresh of a marked row (R277,
R278). -/
def State.activate1 (s : State) (c : Nat) (a : DramAddr) : State :=
  let s := s.count (Reg.DMC_ACT c)
  let b := bankKey a
  let n := (kget (s.chan c).raa b).getD 0 + 1
  let due := decide (max 1 Config.rfmLimit ≤ n)
  let s := s.updChan c (fun x => { x with rows := kput x.rows b a.row, raa := kput x.raa b (if due then 0 else n) })
  let s := if due then s.count (Reg.DMC_RFM c) else s
  if s.dmcGet c (Fld.DMC_RHCTL_EN c) = 0 then s
  else
    let d := s.draw
    if Config.rowDraw d.1 then d.2.count (Reg.DMC_RH_REFRESH c) else d.2

/-- A subchannel issues its next request, one burst at a time, unless a parity alert has stopped it (R268, R280). -/
def State.issue (s : State) (c sub : Nat) : State :=
  let x := s.chan c
  if x.stopped.getD sub false || x.queue.any (fun e => e.a.sub.val = sub && e.issued) then s
  else match x.pick sub with
    | some e =>
      let s := if x.hit e.a then s else s.activate1 c e.a
      s.updChan c (fun x => { x with
        queue := x.queue.map (fun y => if y.seq = e.seq then { y with issued := true } else y)
        group := setAt 2 8 x.group sub (fun _ => e.a.bank % 8) })
    | none => s

/-- The write drain begins at WM_HIGH and ends at WM_LOW (R269, Table 08-10). -/
def State.drainCheck (s : State) (c sub : Nat) : State :=
  let hi := s.dmcGet c (Fld.DMC_SCHED_WM_HIGH c)
  let lo0 := s.dmcGet c (Fld.DMC_SCHED_WM_LOW c)
  let lo := if hi ≤ lo0 then hi - 1 else lo0
  let n := ((s.chan c).of sub true).length
  s.updChan c (fun x => { x with drain := setAt 2 false x.drain sub (fun d => if hi ≤ n then true else if n ≤ lo then false else d) })

/-- A request enters its queue, is served from the write queue, replaces an entry's data, or waits (R267, R270). -/
def State.enqueue (s : State) (c : Nat) (a : DramAddr) (write : Bool) : State :=
  let x := s.chan c
  let same := (x.of a.sub.val true).filter (fun e => e.a.line = a.line)
  if !write && !same.isEmpty then s.count (Reg.DMC_FWD c)
  else if write && same.any (fun e => !e.issued) then s
  else if 64 ≤ (x.of a.sub.val write).length then s.updChan c (fun x => { x with waiting := x.waiting ++ [(a, write)] })
  else
    let s := s.updChan c (fun x => { x with
      queue := x.queue ++ [{ seq := x.seq, a := a, write := write }], seq := x.seq + 1, down := x.down.filter (· != a.rank.val) })
    (s.drainCheck c a.sub.val).issue c a.sub.val

def execDmcRequestEnqueued (a : DramAddr) (write : Bool) (s : State) : Host.Outcome State Fault Refusal :=
  s.core (let c := a.chan.val
    if s.dmcState c == 2 || s.dmcState c == 4 then s.enqueue c a write else s)

/-- A full queue frees an entry: the oldest request that waits for it enters (R267). -/
def State.entryFreed (s : State) (c sub : Nat) (write : Bool) : State :=
  let x := s.chan c
  if 64 ≤ (x.of sub write).length then s
  else match x.waiting.findIdx? (fun w => w.1.sub.val = sub && w.2 == write) with
    | some i =>
      match x.waiting[i]? with
      | some w => (s.updChan c (fun x => { x with waiting := x.waiting.eraseIdx i })).enqueue c w.1 w.2
      | none => s
    | none => s

def execDmcQueueEntryFreed (chan : Fin 16) (sub : Fin 2) (write : Bool) (s : State) : Host.Outcome State Fault Refusal :=
  s.core (s.entryFreed chan.val sub.val write)

/-- The burst of a request has ended: its entry leaves the queue, and the next request issues. -/
def State.burstDone (s : State) (c : Nat) (a : DramAddr) (write : Bool) : State :=
  match (s.chan c).queue.find? (fun e => e.issued && e.write == write && e.a.sub = a.sub && e.a.line = a.line) with
  | some e =>
    let s := s.updChan c (fun x => { x with queue := x.queue.filter (fun y => y.seq != e.seq) })
    (((s.drainCheck c a.sub.val).entryFreed c a.sub.val write).issue c a.sub.val)
  | none => s

/-- A DRAM line read returns (R279, R290, R291, R296). The lists name the bits that read wrong, in the first read and in
one further read. -/
def execDramReadDone (a : DramAddr) (line : Nat) (first again : List (BitVec 80)) (s : State) : Host.Outcome State Fault Refusal :=
  if first.length != 8 || again.length != 8 then .refused (.illFormed "a line holds eight code words (R289)")
  else s.core (let c := a.chan.val
    if s.dmcState c == 2 || s.dmcState c == 4 then
      let s := (s.count (Reg.DMC_RD c)).burstDone c a false
      ((s.readLine c a.sub.val a.line line first again false).1.retryFill (line / 256)).settle
    else s)

/-- A write burst has completed and its parity window has passed (R270). -/
def execDramWriteRetired (a : DramAddr) (s : State) : Host.Outcome State Fault Refusal :=
  s.core (let c := a.chan.val
    if s.dmcState c == 2 || s.dmcState c == 4 then (s.count (Reg.DMC_WR c)).burstDone c a true else s)

/-- A bank without an access for PAGE_IDLE clocks closes its row (R268). The bank number counts through the ranks. -/
def execRowIdleClose (chan : Fin 16) (sub : Fin 2) (bank : Nat) (s : State) : Host.Outcome State Fault Refusal :=
  s.core (s.updChan chan.val (fun x => { x with rows := kdel x.rows (sub.val * 1024 + bank % 1024) }))

/-- A queued request becomes older than AGE_MAX (R268). -/
def execDmcAgeMax (chan : Fin 16) (sub : Fin 2) (seq : Nat) (s : State) : Host.Outcome State Fault Refusal :=
  s.core ((s.updChan chan.val (fun x => { x with
    queue := x.queue.map (fun e => if e.seq = seq && e.a.sub = sub then { e with aged := true } else e) })).issue chan.val sub.val)

/-- A rank has queued requests. -/
def DramChan.busy (x : DramChan) (rank : Nat) : Bool := x.queue.any (fun e => e.a.rank.val = rank)

/-- A rank without queued requests for 512 clocks enters power-down (R271). -/
def execRankPowerDown (chan rank : Fin 16) (s : State) : Host.Outcome State Fault Refusal :=
  s.core (if (s.chan chan.val).busy rank.val then s
    else s.updChan chan.val (fun x => { x with down := if x.down.contains rank.val then x.down else x.down ++ [rank.val] }))

/-! ### Refresh (R272 to R276) -/

/-- L (R273): MAX_POSTPONE, above 8 treated as 8, and the limit of the mode. -/
def State.postponeLimit (s : State) (c : Nat) : Nat :=
  min (min 8 (s.dmcGet c (Fld.DMC_REFCTL_MAX_POSTPONE c))) (if s.dmcGet c (Fld.DMC_REFCTL_MODE c) = 1 then 8 else 4)

/-- A rank's debt set; DMC_REFSTAT follows (Table 08-8). A refresh closes the rank's rows (R268). -/
def State.setDebt (s : State) (c rank debt : Nat) (closes : Bool) : State :=
  let s := s.updChan c (fun x => { x with
    debt := setAt 16 0 x.debt rank (fun _ => debt)
    rows := if closes then x.rows.filter (fun e => (e.1 / 64) % 16 != rank) else x.rows })
  let most := (s.chan c).debt.foldl max 0
  (s.put (Fld.DMC_REFSTAT_NOW c) most).put (Fld.DMC_REFSTAT_PEAK c) (max most (s.get (Fld.DMC_REFSTAT_PEAK c)))

/-- A refresh interval passes (R273 to R275). -/
def execRefreshDue (chan rank : Fin 16) (s : State) : Host.Outcome State Fault Refusal :=
  s.core (let c := chan.val
    if !(s.dmcState c == 2 || s.dmcState c == 4) then s
    else
      let hold := s.on (Fld.DMC_REFCTL_GOV_HOLD c)
      let l := s.postponeLimit c
      let d := (s.chan c).debt.getD rank.val 0
      if !hold && d = 0 && !((s.chan c).busy rank.val) then s.setDebt c rank.val 0 true
      else
        let s := if l = 0 then s else s.count (Reg.DMC_REF_POSTPONED c)
        if d + 1 < l then s.setDebt c rank.val (d + 1) false
        else if hold then ((s.setDebt c rank.val (min (d + 1) l) false).setDebt c rank.val (l - 1) true).count (Reg.DMC_REF_FORCED c)
        else (s.setDebt c rank.val (min (d + 1) l) false).setDebt c rank.val 0 true)

/-- A rank has been idle for CATCHUP_IDLE clocks: its debt is paid in a burst, not under GOV_HOLD (R274, R275). -/
def execRefreshCatchup (chan rank : Fin 16) (s : State) : Host.Outcome State Fault Refusal :=
  s.core (let c := chan.val
    if s.on (Fld.DMC_REFCTL_GOV_HOLD c) || (s.chan c).busy rank.val || (s.chan c).debt.getD rank.val 0 = 0 then s
    else s.setDebt c rank.val 0 true)

/-- MR4 of each rank: bit r is set when rank r needs twice the normal refresh rate (R272). -/
def execMr4Poll (chan : Fin 16) (hot : BitVec 16) (s : State) : Host.Outcome State Fault Refusal :=
  s.core ((s.updChan chan.val (fun x => { x with hot := (List.range 16).filter (fun r => hot.getLsbD r) })).putB
    (Fld.DMC_REFSTAT_HOT chan.val) (hot != 0))

/-- Before self-refresh the whole debt of every rank is paid; on exit it starts at 0 (R276). -/
def State.payDebt (s : State) (c : Nat) : State := (List.range 16).foldl (fun s r => s.setDebt c r 0 true) s

/-! ### Parity alerts (R280, R281) -/

/-- An alert stops the subchannel and counts against CAPAR_THR. -/
def execCaparAlert (chan : Fin 16) (sub : Fin 2) (s : State) : Host.Outcome State Fault Refusal :=
  s.core (let c := chan.val
    if (s.chan c).stopped.getD sub.val false then s
    else
      let now := s.now
      let s := (s.count (Reg.DMC_CAPAR c)).updChan c (fun x => { x with
        stopped := setAt 2 false x.stopped sub.val (fun _ => true)
        caparAt := x.caparAt.filter (fun t => decide (now < t + hourUs)) ++ [now] })
      let thr := s.dmcGet c (Fld.DMC_ERRCTL_CAPAR_THR c)
      if thr != 0 && decide (thr ≤ (s.chan c).caparAt.length) then s.retireDram c else s)

/-- The RCD clears the alert: all banks are precharged, writes and refreshes of the window are issued again, and reads
of the window are read again, which is step 1 of Table 08-5. -/
def execCaparAlertCleared (chan : Fin 16) (sub : Fin 2) (window : List Nat) (ranks : List (Fin 16)) (s : State) :
    Host.Outcome State Fault Refusal :=
  s.core (let c := chan.val
    if !((s.chan c).stopped.getD sub.val false) then s
    else
      let s := s.updChan c (fun x => { x with
        stopped := setAt 2 false x.stopped sub.val (fun _ => false)
        rows := x.rows.filter (fun e => e.1 / 1024 != sub.val)
        queue := x.queue.map (fun e => if e.a.sub = sub && window.contains e.seq then { e with issued := false } else e) })
      let s := ranks.foldl (fun s r => s.setDebt c r.val ((s.chan c).debt.getD r.val 0) true) s
      (s.record .dmcCapar (unitChan c) [BitVec.ofNat 8 sub.val] c).issue c sub.val)

/-! ### Training, warm restore, retirement (R260, R262, R263, R282) -/

/-- Channels in service are counted when none trains any more; fewer than two, or no room for the firmware reserve,
leave the device out of service (R260). -/
def State.t1Check (s : State) : State :=
  if (List.range 16).any (fun c => s.dmcState c == 1 || s.dmcState c == 3) then s
  else
    let s := s.setReg Reg.TIER_T1_TOTAL (BitVec.ofNat 32 s.t1Granules)
    let up := ((List.range 16).filter (fun c => s.dmcState c == 2)).length
    if up < 2 || s.t1Granules = 0 then s.record .dmcNoT1 0 [] 0
    else if s.get Fld.CFL_BOOTINFO_STEP = 7 then s.put Fld.CFL_BOOTINFO_STEP 8
    else s

/-- A channel ends its training (R262). -/
def execDramTrainingDone (chan : Fin 16) (ok drfm : Bool) (s : State) : Host.Outcome State Fault Refusal :=
  s.core (let c := chan.val
    if s.dmcState c != 1 then s
    else if ok then (((s.put (Fld.DMC_STATUS_STATE c) 2).putB (Fld.DMC_STATUS_DRFM c) drfm)).t1Check
    else ((s.put (Fld.DMC_STATUS_STATE c) 6).record .dmcTrainFail (unitChan c) [] c).t1Check)

/-- What loss of its contents leaves of a frame: its dirty lines, or every line of a volatile frame (R263). -/
def lostFrame (isVol : Bool) (f : Frame) : Frame := { f with valid := if isVol then f.valid else f.valid &&& f.dirty }

/-- The contents of a channel are lost: each frame is recovered according to its kind (R263). -/
def State.chanLost (s : State) (c : Nat) : State :=
  (s.tier.frames.filter (fun e => e.2.chan = c)).foldl (fun s (e : Nat × Frame) =>
    let u := e.1
    match s.regionAt (u * unitBytes) with
    | some r =>
      if !r.2.volatile && e.2.dirty = 0 && e.2.copy.isNone then s.releaseFrame u
      else if r.2.volatile && !r.2.mirror then s.unwrite (u * unitBytes) unitBytes
      else
        let ls := (List.range 256).filter (fun i => r.2.volatile || e.2.dirty.getLsbD i)
        let s := s.updFrame u (lostFrame r.2.volatile)
        ls.foldl (fun s i => (s.recoverLine (u * 256 + i) (List.range 8)).1) s
    | none => s.releaseFrame u) s

/-- The warm restore ends; a channel whose signature does not match is trained again (R263). -/
def execWarmRestoreDone (failed : BitVec 16) (s : State) : Host.Outcome State Fault Refusal :=
  s.core (((List.range 16).foldl (fun s c =>
    if s.dmcState c != 3 then s
    else if failed.getLsbD c then ((s.put (Fld.DMC_STATUS_STATE c) 1).record .dmcWarmFail (unitChan c) [] c).chanLost c
    else (s.put (Fld.DMC_STATUS_STATE c) 2).payDebt c) s).t1Check.settle)

/-- A retiring channel is empty (R282, Table 08-6, R307). -/
def execDmcChannelEmptied (chan : Fin 16) (s : State) : Host.Outcome State Fault Refusal :=
  s.core (let c := chan.val
    if s.dmcState c != 4 then s
    else
      let mine := s.tier.frames.filter (fun e => e.2.chan = c)
      let s := mine.foldl (fun s e =>
        if s.volatileUnit e.1 then
          let lost := s.tier.uncorr.filter (fun w => w * 8 / unitBytes = e.1)
          let s : State := { s with tier := { s.tier with uncorr := s.tier.uncorr.filter (fun w => !(lost.contains w)) } }
          let s := lost.foldl (fun s w => s.unwrite (w * 8) 8) s
          let s := match lost.head?, lost.getLast? with
            | some a, some b => s.record .dmcWordsLost (unitChan c) (leBytes 8 (a * 8) ++ leBytes 8 (b * 8 + 7)) c
            | _, _ => s
          s.updFrame e.1 (fun f => { f with chan := s.pickChan })
        else if e.2.dirty = 0 && e.2.copy.isNone then s.releaseFrame e.1
        else s.updFrame e.1 (fun f => { f with chan := s.pickChan })) s
      let s := (s.updChan c (fun x => { x with remap := [], queue := [], waiting := [], rows := [] })).put (Fld.DMC_STATUS_STATE c) 5
      ((s.record .dmcRetired (unitChan c) [] c).t1Shrink).settle)

end Sys2Proof.Machine
end

