-- ==== Sys2Proof/Machine/Ecc.lean ====
section
/-! DEFINITION. Sys2Proof/Machine/Ecc.lean: scrub passes, the patrol, remap commands and the correction log (R297 to R309). -/

namespace Sys2Proof.Machine

/-- What a pass has found so far (R299). -/
structure Tally where
  words : Nat := 0
  corr1 : Nat := 0
  corr2 : Nat := 0
  uncorr : Nat := 0
  skipped : Nat := 0
  first : Option Nat := none
  last : Option Nat := none
  /-- A line was left unrecovered (R303). -/
  left : Bool := false
  deriving DecidableEq, Repr

/-- A failing word at a byte address. -/
def Tally.fail (t : Tally) (r : WordRes) (addr : Nat) : Tally :=
  { t with
    corr1 := t.corr1 + (if r == .one then 1 else 0), corr2 := t.corr2 + (if r == .two then 1 else 0),
    uncorr := t.uncorr + (if r == .bad then 1 else 0),
    first := if t.first.isNone then some addr else t.first, last := some addr }

/-- Channel, subchannel and line address of a line of T1 (R264, R265, Table 08-3). -/
def State.placeOf (s : State) (line : Nat) : Nat × Nat × BitVec 32 :=
  let c := if reserveLine ≤ line then Config.reserveChan line % 16 else match s.frame (line / 256) with
    | some f => f.chan
    | none => 0
  (c, line % 2, Config.dramLine line)

/-- A line of T1 that a pass reads: allocated and valid; the firmware reserve holds valid lines (R295, R298). -/
def State.scrubbable (s : State) (line : Nat) : Bool :=
  decide (reserveLine ≤ line) || match s.frame (line / 256) with
    | some f => f.valid.getLsbD (line % 256)
    | none => false

/-- Flipped bits that a pass meets in a line: word address (byte address divided by 8) and bits. -/
def flipsOf (errs : List (Nat × BitVec 80)) (line : Nat) : List (BitVec 80) :=
  (List.range 8).map (fun k => ((errs.find? (fun e => e.1 = line * 8 + k)).map (·.2)).getD 0)

/-- One line of T1 is scrubbed (R298 to R301): corrected lines are written back when asked, uncorrectable ones go
through Table 08-5 whatever is asked. -/
def State.scrubLine (s : State) (writeback : Bool) (errs : List (Nat × BitVec 80)) (t : Tally) (line : Nat) : State × Tally :=
  if !(s.scrubbable line) then (s, { t with skipped := t.skipped + 1 })
  else
    let copies := if reserveLine ≤ line then 2 else 1
    let t := { t with words := t.words + 8 * copies }
    let flips := flipsOf errs line
    if flips.all (· == 0) then (s, t)
    else
      let p := s.placeOf line
      let rs := s.decodeLine p.1 p.2.1 p.2.2 line flips
      let t := (List.range 8).foldl (fun (t : Tally) k =>
        let r := (rs.getD k (.ok, 0)).1
        if r.corrected || r == .bad then t.fail r (line * 64 + k * 8) else t) t
      let r := s.readLine p.1 p.2.1 p.2.2 line flips flips true
      let s := if writeback && s.lineGood rs then
          (wordsWith rs WordRes.corrected).foldl (fun s k => s.t1Write (line * 64 + k * 8) (leBytes 8 (rs.getD k (.ok, 0)).2.toNat)) r.1
        else r.1
      (s, { t with left := t.left || !r.2 })

/-- A pass over lines of T1. -/
def State.scrubT1 (s : State) (writeback : Bool) (errs : List (Nat × BitVec 80)) (lines : List Nat) : State × Tally :=
  lines.foldl (fun (acc : State × Tally) l => acc.1.scrubLine writeback errs acc.2 l) (s, {})

/-- A pass over T0: every valid line (R254, R298). -/
def State.scrubT0 (s : State) (errs : List (Nat × BitVec 80)) (stop : Option Nat) : State × Tally :=
  let ls := (s.tier.lines.map (·.1)).filter (fun l => match stop with
    | some a => decide (l ≤ a)
    | none => true)
  let t0 : Tally := { words := 8 * ls.length, skipped := t0Lines - ls.length }
  errs.foldl (fun (acc : State × Tally) e =>
    let line := e.1 / 8
    match acc.1.line line with
    | some x =>
      let w := encodeWord (BitVec.ofNat 64 (leNat ((x.data.drop (e.1 % 8 * 8)).take 8)))
      let r := (decodeWord false (w ^^^ e.2)).1
      if ls.contains line && (r.corrected || r == .bad) then
        let u := acc.1.t0Word line (e.1 % 8) r
        (u.1, { acc.2.fail r (e.1 * 8) with left := acc.2.left || !u.2 })
      else acc
    | none => acc) (s, t0)

/-- QPs with a context in the SRAM, in ascending order; context i lies at i × the context's size. -/
def State.contexts (s : State) : List Nat := (s.net.qps.filter (fun e => e.2.where_ == .resident || e.2.where_ == .spilling)).map (·.1)

/-- An uncorrectable word in a QP context: the QP enters Error, no NAK is sent (R309, R117, R118). -/
def State.contextBad (s : State) (n : Nat) : State :=
  ((s.count Reg.ECC_CTX_UNCORR).record .eccCtxUncorr 0 (leBytes 4 n)).enterError n 0x70

/-- A pass over the context SRAM (R298, R309). -/
def State.scrubCtx (s : State) (errs : List (Nat × BitVec 80)) (stop : Option Nat) : State × Tally :=
  let ws := Config.contextBytes / 8
  let cs := s.contexts
  let upto := match stop with
    | some a => min (cs.length * ws) (a + 1)
    | none => cs.length * ws
  let t0 : Tally := { words := upto, skipped := (65536 - cs.length) * ((Config.contextBytes + 63) / 64) }
  errs.foldl (fun (acc : State × Tally) e =>
    if e.1 < upto then
      let r := (decodeWord false (encodeWord 0 ^^^ e.2)).1
      let t := if r.corrected || r == .bad then acc.2.fail r (e.1 * 8) else acc.2
      if r.corrected then (acc.1.count Reg.ECC_CTX_CORR, t)
      else if r == .bad then (acc.1.contextBad (cs.getD (e.1 / max 1 ws) 0), t)
      else (acc.1, t)
    else acc) (s, t0)

/-- The summary registers (R299). -/
def State.summary (s : State) (t : Tally) : State :=
  let s := (s.setReg64 Reg.ECC_SCRUB_WORDS_LO Reg.ECC_SCRUB_WORDS_HI t.words).setReg Reg.ECC_SCRUB_CORR1 (BitVec.ofNat 32 t.corr1)
  let s := ((s.setReg Reg.ECC_SCRUB_CORR2 (BitVec.ofNat 32 t.corr2)).setReg Reg.ECC_SCRUB_UNCORR (BitVec.ofNat 32 t.uncorr)).setReg
    Reg.ECC_SCRUB_SKIPPED (BitVec.ofNat 32 t.skipped)
  (s.setReg64 Reg.ECC_SCRUB_FIRST_LO Reg.ECC_SCRUB_FIRST_HI (t.first.getD 0)).setReg64 Reg.ECC_SCRUB_LAST_LO Reg.ECC_SCRUB_LAST_HI (t.last.getD 0)

/-- Bytes of a summary in an event's payload. -/
def Tally.bytes (t : Tally) : List Byte :=
  leBytes 8 t.words ++ leBytes 4 t.corr1 ++ leBytes 4 t.corr2 ++ leBytes 4 t.uncorr ++ leBytes 4 t.skipped

/-- A START (R298, R299, Table 09-7). -/
def State.scrubStart (s : State) (target : Nat) (writeback : Bool) : State :=
  let a := s.reg64 Reg.ECC_SCRUB_ADDR_LO Reg.ECC_SCRUB_ADDR_HI
  let n := (s.reg Reg.ECC_SCRUB_LINES).toNat
  if s.on Fld.ECC_SCRUB_STATUS_BUSY then s.put Fld.ECC_SCRUB_STATUS_ERR 1
  else if target = 3 then s.put Fld.ECC_SCRUB_STATUS_ERR 2
  else if target = 0 && decide (2 ^ 51 < a + n * 64) then s.put Fld.ECC_SCRUB_STATUS_ERR 3
  else
    let s := (s.summary {}).setReg Reg.ECC_SCRUB_STATUS 1
    { s with dram := { s.dram with scrub := some (target, writeback, a / 64, n) } }

/-- The running pass, up to an address when it is aborted after the line in progress (R299). -/
def State.scrubRun (s : State) (errs : List (Nat × BitVec 80)) (stop : Option Nat) : State :=
  match s.dram.scrub with
  | some (target, writeback, first, n) =>
    let r := if target = 0 then
        s.scrubT1 writeback errs ((span first n).filter (fun l => match stop with
          | some a => decide (l ≤ a / 64)
          | none => true))
      else if target = 1 then s.scrubT0 errs (stop.map (· / 64))
      else s.scrubCtx errs (stop.map (· / 8))
    let s : State := { r.1 with dram := { r.1.dram with scrub := none, stopping := false } }
    let s := ((s.summary r.2).put Fld.ECC_SCRUB_STATUS_BUSY 0).put Fld.ECC_SCRUB_STATUS_DONE 1
    (s.record .eccScrubDone 0 r.2.bytes).settle
  | none => s

def execScrubStart (target : Fin 4) (writeback : Bool) (s : State) : Host.Outcome State Fault Refusal := s.core (s.scrubStart target.val writeback)

/-- ABORT (R299): the address is that of the line in progress. -/
def execScrubAbort (at_ : Nat) (errs : List (Nat × BitVec 80)) (s : State) : Host.Outcome State Fault Refusal :=
  s.core (if s.dram.scrub.isSome then (s.scrubRun errs (some at_)).put Fld.ECC_SCRUB_STATUS_ABORTED 1 else s)

/-- A pass that ABORT stops at its last line ends as an aborted one. -/
def execScrubPassDone (errs : List (Nat × BitVec 80)) (s : State) : Host.Outcome State Fault Refusal :=
  s.core (if s.dram.stopping then (s.scrubRun errs none).put Fld.ECC_SCRUB_STATUS_ABORTED 1 else s.scrubRun errs none)

/-- A patrol pass over the frames that the chip holds for the home set that it stands by for (R303). The firmware
reserve has no lines of its own in the model's T1 map, so its words are those that the errors name. -/
def execPatrolPassDone (home : Fin 2) (errs : List (Nat × BitVec 80)) (s : State) : Host.Outcome State Fault Refusal :=
  s.core (let h := home.val
    if !(s.on Fld.ECC_CTRL_PATROL_EN && s.standby h) then s
    else
      let ls := ((s.tier.frames.filter (fun e => s.homeOfUnit e.1 = some h)).map (fun e => span (e.1 * 256) 256)).flatten
      let rs := ((errs.filter (fun e => decide (reserveLine * 8 ≤ e.1))).map (fun e => e.1 / 8)).eraseDups
      let r := s.scrubT1 true errs (ls ++ rs)
      let s := (r.1.put Fld.ECC_PATROL_STAT_PERCENT 0).put Fld.ECC_PATROL_STAT_PASSES (s.get Fld.ECC_PATROL_STAT_PASSES + 1)
      ((s.setRegBit Reg.TWN_HEALTH 1 r.2.left).record .eccPatrolPass 0 r.2.bytes).settle)

/-- A remap entry is loaded: by firmware, or by ECC_RMCTL.LOAD for test (R305, R306). -/
def State.remapLoad (s : State) (c entry sub : Nat) (la : BitVec 32) (word : Nat) : State :=
  if s.dmcState c == 2 || s.dmcState c == 4 then s.remapSet c entry sub la word else s

def execRemapLoad (chan entry : Fin 16) (sub : Fin 2) (line : BitVec 32) (word : Fin 8) (s : State) : Host.Outcome State Fault Refusal :=
  s.core (s.remapLoad chan.val entry.val sub.val line word.val)

/-- CLEAR (Table 09-8): the word is read from DRAM again. -/
def State.remapClear (s : State) (c entry : Nat) : State := s.updChan c (fun x => { x with remap := kdel x.remap entry })

def execRemapClear (chan entry : Fin 16) (s : State) : Host.Outcome State Fault Refusal := s.core (s.remapClear chan.val entry.val)

/-- ECC_CLOG0 and ECC_CLOG1 as a read shows them (Table 09-9). -/
def State.clog0 (s : State) : BitVec 32 := match s.dram.clog.head? with
  | some e => e.line
  | none => 0
def State.clog1 (s : State) : BitVec 32 := match s.dram.clog.head? with
  | some e => BitVec.ofNat 32 (e.word + e.sub * 8 + e.chan * 16 + e.double.toNat * 256 + e.scrub.toNat * 512 +
      s.dram.clogLost.toNat * 2 ^ 30 + 2 ^ 31)
  | none => 0

/-- A read of ECC_CLOG1 removes the oldest entry (R297). -/
def State.clogPop (s : State) : State :=
  match s.dram.clog with
  | _ :: l => { s with dram := { s.dram with clog := l, clogLost := false } }
  | [] => s

def execClogRead (s : State) : Host.Outcome State Fault Refusal := s.core s.clogPop

end Sys2Proof.Machine
end

