-- ==== Sys2Proof/Machine/Colony.lean ====
section
/-! DEFINITION. Sys2Proof/Machine/Colony.lean: the meanings of colony messages and timers (R404 to R419). -/

namespace Sys2Proof.Machine

/-- The member that sent a message. -/
def State.colFrom (s : State) (x : ColHdr) : Option (Nat × ColMember) :=
  s.col.members.find? (fun e => e.2.path = x.path.toNat && e.2.depth = x.depth.val)

/-- A message from a member reaches the chip on duty; one from the parent reaches a joined chip. A wrong CRC drops it. -/
def State.fromMember (s : State) (x : ColHdr) (go : Nat → ColMember → State → State) : State :=
  if x.crcOk && s.colDuty then
    let s := s.wake 3
    match s.colFrom x with
    | some e => go e.1 e.2 s
    | none => s
  else s

def State.fromParent (s : State) (x : ColHdr) (go : State → State) : State :=
  if x.crcOk && s.colSpeaks && !s.colTop then go (s.wake 3) else s

/-- The request that an answer names, taken off the list. -/
def State.colTake (s : State) (txn : Nat) : Option ColReq × State :=
  (s.col.reqs.find? (fun r => r.txn = txn), s.updCol (fun c => { c with reqs := c.reqs.filter (fun r => r.txn != txn) }))

/-- A request answered for a purpose. -/
def State.answered (s : State) (txn : Nat) (go : ColReq → State → State) : State :=
  match s.colTake txn with
  | (some r, s') => go r s'
  | (none, _) => s

/-- The lowest member index not in use (R405). -/
def State.freeMember (s : State) : Option Nat := (List.range 64).find? (fun i => (kget s.col.members i).isNone)

/-- JOIN (R407, R418): a known member keeps its index and number, a new one needs the credential, an index, and a depth
of at most 8. -/
def State.joinIn (s : State) (x : ColHdr) (j : ColJoin) : State :=
  if !(x.crcOk && s.colDuty) then s
  else
    let s := s.wake 3
    let known := s.col.members.find? (fun e => e.2.svc0 = j.svc0)
    let idx := match known with
      | some e => some e.1
      | none => s.freeMember
    match idx with
    | some i =>
      if j.cred.toNat != s.col.cred || 8 ≤ s.colDepth then (s.colAnswer none x.txn (.joinAck false 0 0 0 0)).record .colJoinRefused
      else
        let path := s.colPath + i * 64 ^ s.colDepth
        let no := match known with
          | some e => e.2.workerNo
          | none => if j.worker && s.colTop && s.col.workers < 1024 then some s.col.workers else none
        let m : ColMember :=
          { path := path, depth := s.colDepth + 1, workerNo := no, worker := j.worker, manager := j.manager,
            freePersistent := j.capacity, svc0 := j.svc0, svc1 := j.svc1 }
        let s := s.updCol (fun c => { c with
          members := kput c.members i m, workers := if known.isNone && no.isSome then c.workers + 1 else c.workers })
        (((s.colAnswer (some i) x.txn (.joinAck true i path (s.colDepth + 1) (no.getD 0xFFFFFFFF))).colCounts).record .colMemberJoin (unitChan i))
    | none => (s.colAnswer none x.txn (.joinAck false 0 0 0 0)).record .colJoinRefused

def execJoin (x : ColHdr) (j : ColJoin) (s : State) : Host.Outcome State Fault Refusal := s.core (s.joinIn x j)

/-- JOIN_ACK (R407, R418). -/
def execJoinAck (x : ColHdr) (accepted : Bool) (index : Fin 64) (path : BitVec 48) (depth : Fin 9) (s : State) : Host.Outcome State Fault Refusal :=
  s.core (s.fromParent x (fun s => s.answered x.txn (fun _ s =>
    if !accepted then s.record .colJoinRefused
    else
      let s := s.setReg Reg.COL_PATH_LO (BitVec.ofNat 32 path.toNat)
      let s := s.setReg Reg.COL_PATH_HI (BitVec.ofNat 32 (path.toNat / 2 ^ 32 + depth.val * 65536))
      let s := match x.worker with
        | some w => s.put Fld.COL_STATUS_WORKER_NO w.val
        | none => s
      (((s.put Fld.COL_STATUS_JOINED 1).put Fld.COL_STATUS_PARENT_LOST 0).record .colJoined (unitChan index.val)).askBlock)))

/-- HEALTH of a member (R419). -/
def execColonyHealth (x : ColHdr) (m : ColHealth) (s : State) : Host.Outcome State Fault Refusal :=
  s.core (s.fromMember x (fun i _ s =>
    let s := s.updCol (fun c => { c with members := kupd c.members i (fun e => { e with
      lost := false, paired := m.paired0 && m.paired1, freePersistent := m.freePersistent, freeVolatile := m.freeVolatile,
      freeKeys := m.freeKeys }) })
    (s.colCounts).colAnswer (some i) x.txn .ack))

/-- The home set with more room, of those that this chip is active for: the one with fewer bytes of regions (R412). -/
def State.roomyHome (s : State) : Option Nat :=
  let used (h : Nat) : Nat := ((s.prot.regions.filter (fun e => e.2.home = h)).map (fun e => e.2.len)).foldl (· + ·) 0
  match s.activeHomes with
  | [h] => some h
  | h :: g :: _ => if used g < used h then some g else some h
  | [] => none

/-- Service address of a home set: IPv6, or an IPv4 address mapped (R413). -/
def State.svcAddress (s : State) (h : Nat) : BitVec 128 :=
  let v6 := (List.range 4).foldl (fun a w => a * 2 ^ 32 + (s.reg (Reg.TRN_SVC_IP6 h 0 w)).toNat) 0
  if v6 = 0 then BitVec.ofNat 128 (0xFFFF * 2 ^ 32 + (s.reg (Reg.TRN_SVC_IP4 h 0)).toNat) else BitVec.ofNat 128 v6

/-- CREATE (R412): a lower manager passes it on, a worker creates the region and answers with its first key. -/
def execCreate (x : ColHdr) (r : ColCreate) (s : State) : Host.Outcome State Fault Refusal :=
  s.core (s.fromParent x (fun s =>
    if s.colDuty && !s.colWorker then s.createAt r none x.txn []
    else match s.roomyHome with
      | some h => match s.makeRegion h r with
        | some (s, i) =>
          let key := keyValue i (((s.key i).map (·.tag)).getD 0)
          (s.colAnswer none x.txn (.createAck (some (key, h, s.svcAddress h)))).askBlock
        | none => (s.blocksLow).colAnswer none x.txn (.createAck none)
      | none => s.colAnswer none x.txn (.createAck none)))

/-- CREATE_ACK (R412): the directory records the region, then REDIRECT, then the completion; a refusal goes to the next
member. -/
def execCreateAck (x : ColHdr) (made : Option (BitVec 32 × Fin 2 × BitVec 128)) (s : State) : Host.Outcome State Fault Refusal :=
  s.core (s.fromMember x (fun _ m s => s.answered x.txn (fun q s => match q.why, made with
    | .create _ cap up _, some (key, home, ip) =>
      let s := s.updCol (fun c => { c with keys := kput c.keys (keyIndex key) { path := m.path, depth := m.depth, home := home.val, ip := ip } })
      match cap with
      | some c => ((s.redirect c.qpn key.toNat ip).okCap c key.toNat).settle
      | none => s.colAnswer none up (.createAck (some (key, home.val, ip)))
    | .create r cap up tried, none => (s.createAt r cap up tried).settle
    | _, _ => s)))

/-- Blocks granted from the top manager's pool: the lowest free ones (R410). -/
def State.takeBlocks (s : State) (n : Nat) : List Nat :=
  ((List.range 1024).filter (fun b => (kget s.col.blocks b).isNone && !(s.col.own.contains b))).take n

/-- Blocks recorded for a member. -/
def State.noteBlocks (s : State) (m : ColMember) (bs : List Nat) : State :=
  s.updCol (fun c => { c with blocks := bs.foldl (fun t b => kput t b (m.path, m.depth)) c.blocks })

/-- BLOCK_REQ (R410): the top manager grants, a lower manager asks its parent. -/
def execBlockReq (x : ColHdr) (n : Nat) (s : State) : Host.Outcome State Fault Refusal :=
  s.core (s.fromMember x (fun i m s =>
    if s.colTop then
      let bs := s.takeBlocks n
      (s.noteBlocks m bs).colAnswer (some i) x.txn (.blockGrant bs)
    else s.colSend none (.blockReq n) (.blocks (some (i, x.txn)))))

/-- BLOCK_GRANT (R410). -/
def execBlockGrant (x : ColHdr) (blocks : List (Fin 1024)) (s : State) : Host.Outcome State Fault Refusal :=
  s.core (s.fromParent x (fun s => s.answered x.txn (fun q s => match q.why with
    | .blocks none => s.updCol (fun c => { c with own := c.own ++ (blocks.map (·.val)).filter (fun b => !(c.own.contains b)) })
    | .blocks (some (i, up)) =>
      match kget s.col.members i with
      | some m => (s.noteBlocks m (blocks.map (·.val))).colAnswer (some i) up (.blockGrant (blocks.map (·.val)))
      | none => s
    | _ => s)))

/-- KEY_REPORT (R415): keys issued or revoked, regions destroyed; a lower manager passes it up. -/
def execKeyReport (x : ColHdr) (keys : List (Nat × Bool)) (destroyed : List Nat) (s : State) : Host.Outcome State Fault Refusal :=
  s.core (s.fromMember x (fun i m s =>
    let put (t : List (Nat × ColKey)) (k : Nat × Bool) : List (Nat × ColKey) :=
      if k.2 then kput t k.1 { path := m.path, depth := m.depth, home := 0, ip := m.svc0 } else kdel t k.1
    let s := s.updCol (fun c => { c with keys := keys.foldl put c.keys })
    let s := s.colAnswer (some i) x.txn .ack
    if s.colTop then s else s.colSend none (.keyReport keys destroyed) (.report none 0)))

/-- PD_SYNC (R411): a member applies the colony's PD table and passes it to its own members. -/
def execPdSync (x : ColHdr) (entries : List (Fin 65536 × Bool × Bool × Fin 256 × BitVec 64)) (s : State) : Host.Outcome State Fault Refusal :=
  s.core (s.fromParent x (fun s =>
    let s := entries.foldl (fun s e =>
      s.setPd e.1.val { s.pd e.1.val with en := e.2.1, admin := e.2.2.1, tenant := e.2.2.2.1.val, cred := e.2.2.2.2.toNat }) s
    let s := s.colAnswer none x.txn .ack
    let plain : List (Nat × Bool × Bool × Nat × Nat) := entries.map (fun e => (e.1.val, e.2.1, e.2.2.1, e.2.2.2.1.val, e.2.2.2.2.toNat))
    if s.colDuty then s.col.members.foldl (fun s m => s.colSend (some m.1) (.pdSync plain) .pdSync) s else s))

/-- ACK (R416): the request it names is no longer sent; a report lets its capsule complete (R415). -/
def execColonyAck (x : ColHdr) (s : State) : Host.Outcome State Fault Refusal :=
  s.core (if !x.crcOk then s
    else s.answered x.txn (fun q s =>
      let s := if q.peer.isNone then s.put Fld.COL_STATUS_PARENT_LOST 0 else s
      match q.why with
      | .report (some c) result => (s.okCap c result).settle
      | _ => s))

/-- COL_TMO passes without an answer (R416): three sends in all, on the lanes in turn; then the peer is unreachable for
the request. Reports stay until the parent answers (log entry 41). -/
def execColonyResendTimeout (txn : Nat) (s : State) : Host.Outcome State Fault Refusal :=
  s.core (match s.col.reqs.find? (fun r => r.txn = txn) with
    | some q =>
      if q.sends < 3 then
        (s.updCol (fun c => { c with reqs := c.reqs.map (fun r => if r.txn = txn then { r with sends := r.sends + 1 } else r) })).emit
          (.colony q.peer (if s.on Fld.COL_CTRL_LANE1_EN then q.sends % 2 else 0) txn q.msg)
      else
        let keep := match q.why with
          | .report _ _ => true
          | _ => false
        let again (r : ColReq) : ColReq := if r.txn = txn then { r with sends := 1 } else r
        let rest := if keep then s.col.reqs.map again else s.col.reqs.filter (fun r => r.txn != txn)
        let s := s.updCol (fun c => { c with reqs := rest })
        let s := if q.peer.isNone && !(s.on Fld.COL_STATUS_PARENT_LOST) then (s.put Fld.COL_STATUS_PARENT_LOST 1).record .colParentLost else s
        match q.why with
        | .create r cap up tried => (s.createAt r cap up tried).settle
        | _ => s
    | none => s)

/-- Every 100 ms a member sends HEALTH to its parent (R417, Table 12-1); one that is not admitted sends its JOIN. -/
def execColonyHealthTimer (s : State) : Host.Outcome State Fault Refusal :=
  s.core (if !s.colSpeaks || s.colTop then s
    else
      let free := (s.usable - s.mappedUnits) * unitBytes
      let m : ColHealth := ⟨s.paired 0, s.paired 1, free, s.floatFree * granuleBytes, s.keyFree⟩
      let j : ColJoin := ⟨BitVec.ofNat 64 s.col.cred, s.colWorker, s.on Fld.COL_CTRL_MANAGER, s.usable * unitBytes, s.svcAddress 0, s.svcAddress 1⟩
      if s.on Fld.COL_STATUS_JOINED then s.colSend none (.health m) .health
      else if s.col.reqs.any (fun r => r.why == .join) then s
      else s.colSend none (.join j) .join)

/-- A member's HEALTH has been missing for 300 ms (R419): it is lost, and creations that wait for it go to the next
member (Table 12-2). -/
def execMemberLostTimeout (index : Fin 64) (s : State) : Host.Outcome State Fault Refusal :=
  s.core (match kget s.col.members index.val with
    | some m =>
      if m.lost then s
      else
        let s := (s.updCol (fun c => { c with members := kupd c.members index.val (fun e => { e with lost := true }) })).colCounts
        let s := s.record .colMemberLost (unitChan index.val)
        let qs := s.col.reqs.filter (fun r => r.peer = some index.val)
        (qs.foldl (fun s q => match q.why with
          | .create r cap up tried => ((s.colTake q.txn).2).createAt r cap up tried
          | _ => s) s).settle
    | none => s)

end Sys2Proof.Machine
end

