-- ==== Sys2Proof/Machine/Apply.lean ====
section
/-! DEFINITION. Sys2Proof/Machine/Apply.lean: what a register takes from a word written to it, the classes of Table 19-2,
and a committed value applied to its register (R205, R355, R409, R411, R562, R565, R577, R590). -/

namespace Sys2Proof.Machine

/-! ### Values (R577) -/

/-- A field limited to its stated range: the lowest value below it, the highest above. -/
def limitField (v : BitVec 32) (r : Nat × Nat × Nat × Nat) : BitVec 32 :=
  let f : Field := ⟨0, r.1, r.2.1⟩
  withField f v (max r.2.2.1 (min r.2.2.2 (fieldOf f v)))

/-- PWS_PHASE.RULE 3 is treated as 0 (Table 13-7); DMC_SCHED.WM_LOW lies below WM_HIGH (Table 08-10). -/
def limitSpecial (name : String) (v : BitVec 32) : BitVec 32 :=
  if name = "PWS_PHASE" && fieldOf ⟨0, 16, 2⟩ v = 3 then withField ⟨0, 16, 2⟩ v 0
  else if name = "DMC_SCHED" then withField ⟨0, 14, 6⟩ v (min (fieldOf ⟨0, 14, 6⟩ v) (fieldOf ⟨0, 8, 6⟩ v - 1))
  else v

/-- A word with every field in its range. -/
def RegDef.limit (d : RegDef) (v : BitVec 32) : BitVec 32 := limitSpecial d.name (d.ranges.foldl limitField v)

/-- Bits that a write sets to the value written. -/
def RegDef.data (d : RegDef) : BitVec 32 := BitVec.ofNat 32 (d.rw ||| d.rwl)

/-- The register after a write: each field acts by its own code (R577). -/
def RegDef.after (d : RegDef) (locked : Bool) (old v : BitVec 32) : BitVec 32 :=
  let m := BitVec.ofNat 32 (if locked then d.rw else d.rw ||| d.rwl)
  let x := (old &&& ~~~m) ||| (d.limit v &&& m)
  (x &&& ~~~(v &&& BitVec.ofNat 32 d.w1c)) ||| (v &&& BitVec.ofNat 32 d.w1s)

/-- FTL_RESERVE.SB is never below the minimum of R343. -/
def State.limitReserve (s : State) (a : Nat) (v : BitVec 32) : BitVec 32 :=
  if a = Reg.FTL_RESERVE then
    let size := 32 * s.sbPages * unitBytes
    withField ⟨0, 0, 20⟩ v (max (fieldOf ⟨0, 0, 20⟩ v) (if size = 0 then 0 else (2 * 64 * 2 ^ 30 + size - 1) / size + 4))
  else v

/-! ### Classes (Tables 19-2, R562) -/

/-- Joint registers. -/
def jointReg (a : Nat) : Bool := a == Reg.TWN_EPOCH || a == Reg.TWN_CTRL || a == Reg.TWN_LOCKSTEP || a == Reg.TWN_FAILBACK

/-- Last boundary after n at which a unit of the register switches: 7 for a slice register, the channel's own for DMC and
FCH, 0 for the others; and whether the register is of a rolling class. -/
def switchOf (a : Nat) : Nat × Bool :=
  if 0x120000 ≤ a && a < 0x140000 then (7, true)
  else if 0x200000 ≤ a && a < 0x220000 then ((a - 0x200000) / 0x1000, true)
  else if 0x260000 ≤ a && a < 0x280000 then ((a - 0x260000) / 0x800 / 2, true)
  else (0, false)

/-- The selector of an indexed register (R562). -/
def selectorOf (a : Nat) : Option Nat :=
  if a = Reg.KEY_PDCTL || a = Reg.KEY_PDCRED_LO || a = Reg.KEY_PDCRED_HI then some Reg.KEY_PDSEL
  else if a = Reg.TIER_TQUOTA || a = Reg.TIER_TPIN then some Reg.TIER_TSEL
  else none

/-- A member of a colony that is not its top manager takes its PD table from above (R411). -/
def State.pdLocked (s : State) : Bool := s.on Fld.COL_STATUS_JOINED && !s.colTop

/-! ### Applying one value -/

/-- The top manager sends a changed PD entry to every member (R411, Table 12-1). -/
def State.pdToMembers (s : State) (n : Nat) : State :=
  let p := s.pd n
  if s.colDuty && s.colTop then s.col.members.foldl (fun s m => s.colSend (some m.1) (.pdSync [(n, p.en, p.admin, p.tenant, p.cred)]) .pdSync) s
  else s

/-- The two halves of a credential take effect with the second of them (R562). -/
def State.pdHalves (s : State) (n : Nat) (p : Pd) : State :=
  match p.credLo, p.credHi with
  | some lo, some hi => (s.setPd n { p with cred := lo + hi * 2 ^ 32, credLo := none, credHi := none }).pdToMembers n
  | _, _ => s.setPd n p

/-- A value that R205 refuses: the old one stays. -/
def State.quotaRefused (s : State) : State := (s.put Fld.TIER_STATUS_CFG_ERR 1).record .tierQuotaCfg

/-- TIER_TQUOTA of a tenant (R205). -/
def State.applyQuota (s : State) (t v : Nat) : State :=
  let others := s.quotaSum - (s.tenant t).quota
  if v != 0 && s.floatSize < others + v then s.quotaRefused
  else { s with tier := { s.tier with tenants := kput s.tier.tenants t { s.tenant t with quota := v } } }

/-- TIER_TRANSIENT (R205). -/
def State.applyTransient (s : State) (v : BitVec 32) : State :=
  if (s.reg Reg.TIER_T1_TOTAL).toNat < s.reserved + s.streamRsv + s.mirrorRsv + v.toNat + s.quotaSum then s.quotaRefused
  else s.setReg Reg.TIER_TRANSIENT v

/-- PRT_MODE: a new rate of a port in operation takes the link down and trains it again; rate 0 leaves it down (R78, R79). -/
def State.applyPortMode (s : State) (p : Nat) (v : BitVec 32) : State :=
  let old := s.get (Fld.PRT_MODE_RATE p)
  let s := s.setReg (Reg.PRT_MODE p) v
  if s.get (Fld.PRT_MODE_RATE p) = old || s.get Fld.CFL_BOOTINFO_STEP < 10 then s
  else
    let up := s.linkUp p
    let s := (s.putB (Fld.PRT_STATUS_LINK_UP p) false).putB (Fld.PRT_STATUS_LT_DONE p) false
    let s := s.updPort p (fun x => { x with training := if s.get (Fld.PRT_MODE_RATE p) = 0 then none else some s.now })
    if up then s.record .prtLinkDown (unitChan p) else s

/-- The directory's region is made when MANAGER is first committed (R409, log entry 45). -/
def State.makeDirectory (s : State) : State :=
  let len := (Config.directoryGranules + 1) * granuleBytes
  let base := freeBase len s.prot.regions 0
  if s.col.dirRegion.isSome || s.role 0 = 2 || 1048576 ≤ s.prot.regions.length || 2 ^ 50 < base + len then s
  else
    let x : Region := { home := 0, pd := 0, volatile := false, dflush := false, mirror := false, failqp := false, len := len, maxRights := 0, keyDomain := 0 }
    let t : State := { s with prot := { s.prot with regions := kput s.prot.regions base x }, col := { s.col with dirRegion := some base } }
    t.noteRegion false base x

/-- COL_CTRL (R404, R409): the top manager is in service at once. -/
def State.applyColCtrl (s : State) (v : BitVec 32) : State :=
  let was := s.colDuty
  let s := s.setReg Reg.COL_CTRL v
  let s := if s.on Fld.COL_CTRL_MANAGER then s.makeDirectory else s
  let s := if s.colDuty && !was then s.emit .colonyAdvert else s
  if s.colTop then s.put Fld.COL_STATUS_JOINED 1 else s

/-- TWN_CTRL: LEASE_FORCE puts both home sets in lease mode (Table 11-14). -/
def State.applyTwnCtrl (s : State) (v : BitVec 32) : State :=
  let s := s.setReg Reg.TWN_CTRL v
  if s.on Fld.TWN_CTRL_LEASE_FORCE then (s.leaseOn 0).leaseOn 1
  else [0, 1].foldl (fun s h => if (s.home h).intlkFaulty then s else s.leaseOff h) s

/-- The PIN_T1 granules of the home sets that the chip is not active for are made resident (Table 06-1). -/
def State.loadStandbyPins (s : State) : State :=
  s.loadGranules ((s.tier.granules.filter (fun e => e.2.place == .pin &&
    match s.regionAt (e.1 * granuleBytes) with
    | some r => !(s.active r.2.home)
    | none => false)).map (·.1))

/-- TIER_CTRL: Parison goes on loading, or stops (R215, Table 19-3); setting PIN_STANDBY loads the other home set's pins. -/
def State.applyTierCtrl (s : State) (v : BitVec 32) : State :=
  let was := s.on Fld.TIER_CTRL_PIN_STANDBY
  let s := s.setReg Reg.TIER_CTRL v
  let s := if s.on Fld.TIER_CTRL_PIN_STANDBY && !was then s.loadStandbyPins else s
  s.tier.streams.foldl (fun s e => s.parisonNext e.1) s

/-- A word takes effect in the RW and RWL bits of its register; status bits beside them stay. -/
def State.setData (s : State) (a : Nat) (v : BitVec 32) : State :=
  match regAt a with
  | some d => s.setReg a ((s.reg a &&& ~~~d.data) ||| (v &&& d.data))
  | none => s

/-- A value takes effect in its register (R565); a value that its own chapter refuses does not. -/
def State.applyReg (s : State) (x : Staged) : State :=
  let a := x.addr
  let v := s.limitReserve a x.val
  let n := v.toNat
  if a = Reg.KEY_PDCTL then
    (s.setPd x.sel { s.pd x.sel with en := v.getLsbD 0, admin := v.getLsbD 1, tenant := n / 256 % 256 }).pdToMembers x.sel
  else if a = Reg.KEY_PDCRED_LO then s.pdHalves x.sel { s.pd x.sel with credLo := some n }
  else if a = Reg.KEY_PDCRED_HI then s.pdHalves x.sel { s.pd x.sel with credHi := some n }
  else if a = Reg.TIER_TQUOTA then s.applyQuota x.sel n
  else if a = Reg.TIER_TPIN then { s with tier := { s.tier with tenants := kput s.tier.tenants x.sel { s.tenant x.sel with pin := n } } }
  else if a = Reg.TIER_TRANSIENT then s.applyTransient v
  else if a = Reg.TIER_CTRL then s.applyTierCtrl v
  else if a = Reg.FTL_OP then
    if s.usableWith (opClamp (n % 64)) * 97 < s.mappedUnits * 100 then s.put Fld.FTL_STATUS_CFG_ERR 1 else s.setReg a v
  else if a = Reg.COL_CTRL then s.applyColCtrl v
  else if a = Reg.TWN_CTRL then s.applyTwnCtrl v
  else if a = Reg.GLB_LOCK then s.put Fld.GLB_LOCK_LOCK (max (s.get Fld.GLB_LOCK_LOCK) (n % 2)) |>.put Fld.GLB_STATUS_LOCKED (max (s.get Fld.GLB_LOCK_LOCK) (n % 2))
  else if (List.range 16).any (fun c => a = Reg.DMC_REFCTL c) then s.setReg a (withField ⟨0, 5, 1⟩ v (fieldOf ⟨0, 5, 1⟩ (s.reg a)))
  else match (List.range 8).find? (fun p => a = Reg.PRT_MODE p) with
    | some p => s.applyPortMode p v
    | none => s.setData a v

/-- Values take effect one after the other. -/
def State.applyAll (s : State) (set : List Staged) : State := set.foldl State.applyReg s

/-- A value put into a set: a later one replaces an earlier one of its address and selector (R561, R562). -/
def stagePut (set : List Staged) (x : Staged) : List Staged :=
  if set.any (fun e => e.addr = x.addr && e.sel = x.sel) then set.map (fun e => if e.addr = x.addr && e.sel = x.sel then x else e)
  else set ++ [x]

/-- A committed set joins what code flash stores (R511, R568, log entry 46). -/
def State.storeSet (s : State) (set : List Staged) : State :=
  { s with boot := { s.boot with stored := some (set.foldl stagePut (s.boot.stored.getD [])) } }

end Sys2Proof.Machine
end

