-- ==== Sys2Proof/Machine/Aes.lean ====
section
/-! DEFINITION. Sys2Proof/Machine/Aes.lean: the algorithms that the sealing engine names (chapter 15): AES-256 (FIPS 197),
CMAC (SP 800-38B), GCM with a 96-bit IV (SP 800-38D), and key wrap in its KW and KWP forms (SP 800-38F, RFC 3394,
RFC 5649). -/

namespace Sys2Proof.Machine

/-! ### AES-256 (FIPS 197) -/

/-- Multiplication by x in GF(2^8). -/
def gfDouble (a : Byte) : Byte := BitVec.ofNat 8 ((2 * a.toNat) ^^^ (a.toNat / 128 * 0x11B))

/-- Multiplication of a byte by a coefficient, over the n low bits of the coefficient. -/
def gfMulBits : Nat → Nat → Byte → Byte
  | 0, _, _ => 0
  | n + 1, m, a => (if m % 2 = 1 then a else 0) ^^^ gfMulBits n (m / 2) (gfDouble a)

/-- Rows of the S-box and of its inverse (FIPS 197, Figures 7 and 14): entry c of a row at bits 8c of its number. -/
def sRows : List Nat :=
  [0x76abd7fe2b670130c56f6bf27b777c63, 0xc072a49cafa2d4adf04759fa7dc982ca, 0x1531d871f1e5a534ccf73f362693fdb7,
   0x75b227ebe28012079a059618c323c704, 0x842fe329b3d63b52a05a6e1b1a2c8309, 0xcf584c4a39becb6a5bb1fc20ed00d153,
   0xa89f3c507f02f94585334d43fbaaefd0, 0xd2f3ff1021dab6bcf5389d928f40a351, 0x73195d643d7ea7c41744975fec130ccd,
   0xdb0b5ede14b8ee4688902a22dc4f8160, 0x79e4959162acd3c25c2406490a3a32e0, 0x8ae7a65eaf4566ca94ed58d6d37c8e7,
   0x8a8bbd4b1f74dde8c6b4a61c2e2578ba, 0x9e1dc186b95735610ef6034866b53e70, 0xdf2855cee9871e9b948ed9691198f8e1,
   0x16bb54b00f2d99416842e6bf0d89a18c]
def sRowsInv : List Nat :=
  [0xfbd7f3819ea340bf38a53630d56a0952, 0xcbe9dec444438e3487ff2f9b8239e37c, 0x4ec3fa420b954cee3d23c2a632947b54,
   0x25d18b6d49a25b76b224d92866a12e08, 0x92b6655dcc5ca4d41698688664f6f872, 0x849d8da75746155edab9edfd5048706c,
   0x645b3b80558e4f70ad3bc8c00abd890, 0x6b8a130103bdafc1020f3fca8f1e2cd0, 0x73e6b4f0cecff297eadc674f4111913a,
   0x6edf751ce837f9e28535ade72274ac96, 0x1bbe18aa0e62b76f89c5291d711af147, 0xf45acd78fec0db9a2079d2c64b3e56fc,
   0x5fec8027591012b131c7078833a8dd1f, 0xef9cc9939f7ae52d0d4ab519a97f5160, 0x619953833cbbebc8b0f52aae4d3be0a0,
   0x7d0c2155631469e126d677ba7e042b17]

/-- An entry of such a table. -/
def boxAt (rows : List Nat) (a : Byte) : Byte := BitVec.ofNat 8 ((rows.getD (a.toNat / 16) 0) >>> (8 * (a.toNat % 16)))

/-- The S-box and its inverse. -/
def sBox (a : Byte) : Byte := boxAt sRows a
def sBoxInv (a : Byte) : Byte := boxAt sRowsInv a

/-- Bytewise exclusive or. -/
def xorBytes (a b : List Byte) : List Byte := List.zipWith (· ^^^ ·) a b

/-- Round constant of the i-th use. -/
def rcon : Nat → Byte
  | 0 => 1
  | i + 1 => gfDouble (rcon i)

/-- The next word of the key schedule: ws holds the words so far, newest first; i is its number. -/
def nextKeyWord (ws : List (List Byte)) (i : Nat) : List Byte :=
  let t := ws.headD []
  let t := if i % 8 = 0 then
      match (t.drop 1 ++ t.take 1).map sBox with
      | a :: r => (a ^^^ rcon (i / 8 - 1)) :: r
      | [] => []
    else if i % 8 = 4 then t.map sBox else t
  xorBytes t (ws.getD 7 [])

/-- The list cut into pieces of n, at most k of them. -/
def chunks (n : Nat) : Nat → List Byte → List (List Byte)
  | 0, _ => []
  | _, [] => []
  | k + 1, l => l.take n :: chunks n k (l.drop n)

/-- The 15 round keys of a 32-byte key. -/
def roundKeys (key : List Byte) : List (List Byte) :=
  let ws := (span 8 52).foldl (fun ws i => nextKeyWord ws i :: ws) (chunks 4 8 key).reverse
  chunks 16 15 ws.reverse.flatten

/-- ShiftRows and its inverse on a block held by columns. -/
def shiftRows (b : List Byte) : List Byte := (List.range 16).map (fun i => b.getD ((i + 4 * (i % 4)) % 16) 0)
def shiftRowsInv (b : List Byte) : List Byte := (List.range 16).map (fun i => b.getD ((i + 16 - 4 * (i % 4)) % 16) 0)

/-- A column multiplied by the circulant matrix of four coefficients. -/
def mixColumn (c : List Byte) (m : List Nat) : List Byte :=
  (List.range 4).map (fun r => (List.range 4).foldl (fun x k => x ^^^ gfMulBits 4 (m.getD ((k + 4 - r) % 4) 0) (c.getD k 0)) 0)

def mixColumns (m : List Nat) (b : List Byte) : List Byte := ((chunks 4 4 b).map (fun c => mixColumn c m)).flatten

/-- AES-256 of one block of 16 bytes. -/
def aesEnc (key blk : List Byte) : List Byte :=
  let ks := roundKeys key
  let b := xorBytes blk (ks.headD [])
  let b := ((ks.drop 1).take 13).foldl (fun b k => xorBytes (mixColumns [2, 3, 1, 1] (shiftRows (b.map sBox))) k) b
  xorBytes (shiftRows (b.map sBox)) (ks.getD 14 [])

/-- The inverse cipher. -/
def aesDec (key blk : List Byte) : List Byte :=
  let ks := roundKeys key
  let b := (shiftRowsInv (xorBytes blk (ks.getD 14 []))).map sBoxInv
  let b := (((ks.drop 1).take 13).reverse).foldl (fun b k => (shiftRowsInv (mixColumns [14, 11, 13, 9] (xorBytes b k))).map sBoxInv) b
  xorBytes b (ks.headD [])

/-! ### CMAC (SP 800-38B) -/

/-- Doubling in GF(2^128) of a block read most significant byte first. -/
def cmacDouble (b : List Byte) : List Byte :=
  let n := beNat b
  beBytes 16 (if 2 ^ 127 ≤ n then ((2 * n) % 2 ^ 128) ^^^ 0x87 else 2 * n)

/-- AES-CMAC of a message: 16 bytes. -/
def cmac (key msg : List Byte) : List Byte :=
  let k1 := cmacDouble (aesEnc key (List.replicate 16 0))
  let k2 := cmacDouble k1
  let n := max 1 ((msg.length + 15) / 16)
  let bs := chunks 16 n msg
  let last := bs.getD (n - 1) []
  let tail := if last.length = 16 then xorBytes last k1 else xorBytes (padTo 16 (last ++ [0x80])) k2
  let x := (bs.take (n - 1)).foldl (fun x b => aesEnc key (xorBytes x b)) (List.replicate 16 0)
  aesEnc key (xorBytes x tail)

/-- Key check value: the leftmost 64 bits of the CMAC over 16 zero bytes (R470). -/
def kcvOf (key : List Byte) : List Byte := (cmac (key.take 32) (List.replicate 16 0)).take 8

/-! ### GCM (SP 800-38D) -/

/-- Multiplication in the field of GHASH, over n bits of the first factor from bit i on; blocks as numbers, most
significant bit first. -/
def ghashMulBits (x : Nat) : Nat → Nat → Nat → Nat → Nat
  | 0, _, z, _ => z
  | n + 1, v, z, i =>
    let z := if x.testBit (127 - i) then z ^^^ v else z
    let v := if v % 2 = 1 then (v / 2) ^^^ (0xE1 <<< 120) else v / 2
    ghashMulBits x n v z (i + 1)

/-- GHASH over whole blocks. -/
def ghash (h : Nat) (bs : List (List Byte)) : Nat := bs.foldl (fun y b => ghashMulBits (y ^^^ beNat (padTo 16 b)) 128 h 0 0) 0

/-- Blocks of a string, the last padded with zeros. -/
def blocksOf (m : List Byte) : List (List Byte) := chunks 16 ((m.length + 15) / 16) m

/-- Counter mode from counter 2 on, with a 96-bit IV. -/
def gcmCtr (key iv m : List Byte) : List Byte :=
  let bs := blocksOf m
  ((List.range bs.length).map (fun i => xorBytes (bs.getD i []) (aesEnc key (iv ++ beBytes 4 (i + 2))))).flatten

/-- The tag over additional data and ciphertext. -/
def gcmTag (key iv aad ct : List Byte) : List Byte :=
  let h := beNat (aesEnc key (List.replicate 16 0))
  let g := ghash h (blocksOf aad ++ blocksOf ct ++ [beBytes 8 (8 * aad.length) ++ beBytes 8 (8 * ct.length)])
  xorBytes (beBytes 16 g) (aesEnc key (iv ++ beBytes 4 1))

/-! ### Key wrap (RFC 3394, RFC 5649) -/

/-- One wrapping step t on A and the registers R (RFC 3394, section 2.2.1). -/
def wrapStep (key : List Byte) (n : Nat) (x : List Byte × List (List Byte)) (t : Nat) : List Byte × List (List Byte) :=
  let i := (t - 1) % n
  let b := aesEnc key (x.1 ++ x.2.getD i [])
  (xorBytes (b.take 8) (beBytes 8 t), updAt x.2 i (fun _ => b.drop 8))

/-- One unwrapping step. -/
def unwrapStep (key : List Byte) (n : Nat) (x : List Byte × List (List Byte)) (t : Nat) : List Byte × List (List Byte) :=
  let i := (t - 1) % n
  let b := aesDec key (xorBytes x.1 (beBytes 8 t) ++ x.2.getD i [])
  (b.take 8, updAt x.2 i (fun _ => b.drop 8))

/-- The wrapping function over an initial value and at least two registers. -/
def wrapW (key iv p : List Byte) : List Byte :=
  let n := p.length / 8
  let r := ((List.range (6 * n)).map (· + 1)).foldl (wrapStep key n) (iv, chunks 8 n p)
  r.1 ++ r.2.flatten

/-- Its inverse: the initial value recovered, and the registers. -/
def unwrapW (key c : List Byte) : List Byte × List Byte :=
  let n := c.length / 8 - 1
  let r := (((List.range (6 * n)).map (· + 1)).reverse).foldl (unwrapStep key n) (c.take 8, chunks 8 n (c.drop 8))
  (r.1, r.2.flatten)

/-- AES-KW (RFC 3394). -/
def kwWrap (key p : List Byte) : List Byte := wrapW key (List.replicate 8 0xA6) p

def kwUnwrap (key c : List Byte) : Option (List Byte) :=
  let r := unwrapW key c
  if r.1 = List.replicate 8 0xA6 then some r.2 else none

/-- AES-KWP (RFC 5649): the initial value holds the length; a single register is one block. -/
def kwpWrap (key p : List Byte) : List Byte :=
  let iv : List Byte := [0xA6, 0x59, 0x59, 0xA6] ++ beBytes 4 p.length
  let q := padTo ((p.length + 7) / 8 * 8) p
  if q.length = 8 then aesEnc key (iv ++ q) else wrapW key iv q

def kwpUnwrap (key c : List Byte) : Option (List Byte) :=
  let r := if c.length = 16 then (let b := aesDec key c; (b.take 8, b.drop 8)) else unwrapW key c
  let len := beNat (r.1.drop 4)
  let n := r.2.length
  if r.1.take 4 = [0xA6, 0x59, 0x59, 0xA6] && decide (n < len + 8) && decide (len ≤ n) && (r.2.drop len).all (· == 0)
  then some (r.2.take len) else none

end Sys2Proof.Machine
end

