-- ==== Sys2Proof/Machine/Amber.lean ====
section
/-! DEFINITION. Sys2Proof/Machine/Amber.lean: the event recorder's area, flushing, reading and queries, debug
authorisation, and the raw read-out (R540 to R559). -/

namespace Sys2Proof.Machine

/-! ### Records and the area (R541, R544, R546) -/

/-- The 64 bytes of a record (Table 18-1). -/
def recBytes (r : AmbRec) : List Byte :=
  let b := leBytes 4 r.seq ++ leBytes 8 (r.stamp % 2 ^ 36) ++ leBytes 3 r.pcycle ++
    [BitVec.ofNat 8 ((if r.damaged then 1 else 0) + (if r.late then 2 else 0))] ++ leBytes 2 r.code.toNat ++
    [BitVec.ofNat 8 (min 40 r.payload.length), r.unit] ++ padTo 40 r.payload
  b ++ leBytes 4 (crc32 b)

/-- Records that the area can hold: 512 sectors of 64 (R546). -/
abbrev areaSlots : Nat := 32768

/-- A slot has been programmed; with the last one Amber is FULL and EV_AMB_FULL is the last record staged (R546). -/
def State.ambFill (s : State) (x : AmbSlot) : State :=
  let s : State := { s with amb := { s.amb with area := s.amb.area ++ [x] } }
  if areaSlots ≤ s.amb.area.length then
    let s := s.record .ambFull
    { s with amb := { s.amb with full := true, flushTo := none } }
  else s

/-- The oldest staged record of a flush has been programmed, and its staging slot is free; a program that fails its
verify leaves a bad slot (R544, R547). -/
def State.ambProgram (s : State) (ok : Bool) : State :=
  match s.amb.staging, s.amb.flushTo with
  | r :: rest, some last =>
    if s.amb.full || s.amb.clearing then s
    else if r.seq ≤ last then
      if ok then
        let s : State := { s with amb := { s.amb with staging := rest, flushTo := if rest.all (fun x => decide (last < x.seq)) then none else some last } }
        (s.ambFill (.rec_ r)).ambLostDue
      else s.ambFill .bad
    else { s with amb := { s.amb with flushTo := none } }
  | _, _ => { s with amb := { s.amb with flushTo := none } }

/-- A flush of everything staged, to its end: the Amber step of Quench, and step 1 of a clear (R544, R553). -/
def State.ambFlushAll (s : State) : State :=
  let s := s.ambFlush
  (List.range s.amb.staging.length).foldl (fun s _ => s.ambProgram true) s

/-- A flush begins 10 ms after an enabled event's record was staged (Table 18-2). -/
def execAmberFlushTimer (s : State) : Host.Outcome State Fault Refusal :=
  .next (if s.amb.staging.any (·.urgent) then s.ambFlush else s)

/-- A flush begins because a staged record is older than 60 s (Table 18-2). -/
def execAmberFlushAge (s : State) : Host.Outcome State Fault Refusal := .next s.ambFlush

/-- AMB_CMD FLUSH (Table 18-2). -/
def execAmberFlush (s : State) : Host.Outcome State Fault Refusal := .next s.ambFlush

/-- A staged record has been programmed (R544, R547). -/
def execAmberRecordProgrammed (ok : Bool) (s : State) : Host.Outcome State Fault Refusal := .next (s.ambProgram ok)

/-- Firmware stores the operating-hours counter once an hour (R542). -/
def execHoursStoreTimer (s : State) : Host.Outcome State Fault Refusal :=
  .next { s with amb := { s.amb with stHours := s.stamp } }

/-! ### Reading and queries (R548, R549) -/

/-- Every valid record, in the area and in staging, in SEQ order. -/
def State.ambRecords (s : State) : List AmbRec :=
  (s.amb.area.filterMap (fun x => match x with
    | .rec_ r => some r
    | .bad => none)) ++ s.amb.staging

/-- The record that AMB_RDSEQ selects. -/
def State.ambSelected (s : State) : Option AmbRec := s.ambRecords.find? (fun r => r.seq = (s.reg Reg.AMB_RDSEQ).toNat)

/-- AMB_RDSTAT: FOUND and STAGED of the selected SEQ. A bad slot bears no SEQ that can be read, so BAD shows when the
SEQ lies between two that are present and is not itself (R547). -/
def State.ambRdstat (s : State) : Nat :=
  let n := (s.reg Reg.AMB_RDSEQ).toNat
  let rs := s.ambRecords
  match s.ambSelected with
  | some _ => if s.amb.staging.any (fun r => r.seq = n) then 3 else 1
  | none => if s.amb.area.contains .bad && rs.any (fun r => decide (r.seq < n)) && rs.any (fun r => decide (n < r.seq)) then 4 else 0

/-- Word w of the selected record, 0 when it is not present (R548). -/
def State.ambWord (s : State) (w : Nat) : BitVec 32 :=
  match s.ambSelected with
  | some r => BitVec.ofNat 32 (leNat (((recBytes r).drop (4 * w)).take 4))
  | none => 0

/-- FIND (R549): the records whose stamps lie in the half-open window. -/
def State.ambFind (s : State) : State :=
  let lo := (s.reg Reg.AMB_QSTART_LO).toNat + s.get Fld.AMB_QSTART_HI_STAMP * 2 ^ 32
  let hi := (s.reg Reg.AMB_QEND_LO).toNat + s.get Fld.AMB_QEND_HI_STAMP * 2 ^ 32
  let rs := s.ambRecords.filter (fun r => decide (lo ≤ r.stamp) && decide (r.stamp < hi))
  (s.setReg Reg.AMB_QFIRST (BitVec.ofNat 32 ((rs.head?.map (·.seq)).getD 0))).setReg Reg.AMB_QCOUNT (BitVec.ofNat 32 (rs.length % 2 ^ 16))

/-- AMB_CMD FIND (R549). -/
def execAmberFind (s : State) : Host.Outcome State Fault Refusal := .next s.ambFind

/-! ### Debug authorisation (R550 to R553) -/

/-- The debug authorisation key as bytes; word 0 first, each little-endian (R9). -/
def wordBytes (ws : List (BitVec 32)) : List Byte := (ws.map (fun w => leBytes 4 w.toNat)).flatten

/-- A read of DBG_CHAL(0) draws a challenge (R551). -/
def State.dbgChallenge (s : State) : State :=
  let r := s.draw
  let c := Config.random128 r.1
  let s : State := { r.2 with dbg := { r.2.dbg with challenge := some c } }
  (List.range 4).foldl (fun s w => s.setReg (Reg.DBG_CHAL w) (BitVec.ofNat 32 (c.toNat >>> (32 * w)))) s

def execDbgChallenge (s : State) : Host.Outcome State Fault Refusal := .next s.dbgChallenge

def State.dbgResult (s : State) (r : Nat) : State := s.put Fld.DBG_STATUS_RESULT r

/-- An authorised command (R551): what it does when it is accepted; the flag is 1 when no key is provisioned. -/
def State.dbgAuth (s : State) (path : Path) (purpose : Byte) (go : Bool → State → State) : State :=
  match path, s.dbg.key with
  | .capsule _, _ => s
  | p, none => if p = .twoWire then go true (s.dbgResult 0) else s.dbgResult 3
  | _, some key =>
    if 3 ≤ s.get Fld.DBG_STATUS_FAILS then s.dbgResult 2
    else
      let pass := match s.dbg.challenge with
        | some c => wordBytes s.dbg.resp == cmac (wordBytes key) (leBytes 16 c.toNat ++ [purpose])
        | none => false
      let s : State := { s with dbg := { s.dbg with challenge := none } }
      if pass then go false (s.dbgResult 0)
      else ((s.dbgResult 1).put Fld.DBG_STATUS_FAILS (s.get Fld.DBG_STATUS_FAILS + 1)).record .dbgAuthFail

/-- Payload of EV_DBG_UNLOCK and EV_AMB_CLEARED (R551). -/
def noKeyByte (open_ : Bool) : List Byte := [if open_ then 1 else 0]

/-- UNLOCK (R552). -/
def State.dbgUnlock (s : State) (path : Path) : State :=
  s.dbgAuth path 1 (fun o s => (s.putB Fld.DBG_STATUS_UNLOCKED true).record .dbgUnlock 0 (noKeyByte o))

def execDbgUnlock (path : Path) (s : State) : Host.Outcome State Fault Refusal := .next (s.dbgUnlock path)

/-- CLEAR (R553): staging is flushed, EV_AMB_CLEARED staged with the range that the area holds, and the erase begins. -/
def State.dbgClear (s : State) (path : Path) : State :=
  if s.on Fld.PWS_STATUS_INCOMPLETE then (match path with
    | .capsule _ => s
    | _ => s.dbgResult 3)
  else
    s.dbgAuth path 2 (fun o s =>
      let s := s.ambFlushAll
      let seqs := s.amb.area.filterMap (fun x => match x with
        | .rec_ r => some r.seq
        | .bad => none)
      let s := (s.setEvt .ambCleared 0).ambStage Event.ambCleared.code 0
        (noKeyByte o ++ leBytes 3 0 ++ leBytes 4 (seqs.head?.getD 0) ++ leBytes 4 (seqs.getLast?.getD 0)) (s.evtEnabled .ambCleared 0)
      { s with amb := { s.amb with clearing := true, stClearing := true, flushTo := none } })

def execDbgClear (path : Path) (s : State) : Host.Outcome State Fault Refusal := .next (s.dbgClear path)

/-- The erase of the area is complete (R553): the next flush programs EV_AMB_CLEARED first. -/
def State.ambCleared (s : State) : State :=
  let s := s.setReg Reg.AMB_OVERFLOW 0
  ({ s with amb := { s.amb with area := [], full := false, clearing := false, stClearing := false, stOverflow := 0 } } : State).ambFlush

def execAmberClearDone (s : State) : Host.Outcome State Fault Refusal := .next (if s.amb.clearing then s.ambCleared else s)

/-- PROVISION (R550). -/
def State.dbgProvision (s : State) (path : Path) : State :=
  match path with
  | .capsule _ => s
  | _ => if s.dbg.key.isSome then s.dbgResult 3
    else ({ s with dbg := { s.dbg with key := some s.dbg.keyIn } } : State).dbgResult 0

def execDbgProvision (path : Path) (s : State) : Host.Outcome State Fault Refusal := .next (s.dbgProvision path)

/-- TRST_N resets the TAP alone (R556). -/
def execTrstN (s : State) : Host.Outcome State Fault Refusal := .next { s with dbg := { s.dbg with tapIr := 1, tapOut := 0 } }

end Sys2Proof.Machine
end

