-- ==== Sys2Proof/Machine/CodeFlash.lean ====
section
/-! DEFINITION. Sys2Proof/Machine/CodeFlash.lean: the code flash and its commands, select words, image headers and
verification (R492 to R508). -/

namespace Sys2Proof.Machine

/-! ### Layout (Table 16-1) -/

abbrev slotBytes : Nat := 0x800000
abbrev selectBase : Nat := 0x1800000

/-- The slot that holds an address: 0 A, 1 B. -/
def slotOfAddr (a : Nat) : Option Nat := if a < 2 * slotBytes then some (a / slotBytes) else none

/-- Reserved areas: reads return all ones, program and erase are refused. -/
def cfReserved (a : Nat) : Bool :=
  (decide (0x1200000 ≤ a) && decide (a < selectBase)) || (decide (0x1802000 ≤ a) && decide (a < 0x1C00000)) || decide (0x2000000 ≤ a)

/-- The slot that runs: none in recovery (R506). -/
def State.runningSlot (s : State) : Option Nat := if s.on Fld.CFL_STATUS_RECOVERY then none else some (s.get Fld.CFL_BOOTINFO_SLOT)

/-- Eight bytes of the code flash. -/
def State.cfBytes (s : State) (a n : Nat) : List Byte := memRead 0xFF s.boot.cf a n

/-- The slot of the Amber area in which an address lies, if it has been programmed (R546). -/
def State.amberSlot (s : State) (a : Nat) : Option AmbSlot :=
  if within 0x1000000 0x200000 a then s.amb.area[(a - 0x1000000) / 64]? else none

/-- The word at an address of the code flash: in the Amber area that of the record of its slot (R493, R546). -/
def State.cfWord (s : State) (a : Nat) : List Byte :=
  match s.amberSlot a with
  | some (.rec_ r) => ((recBytes r).drop (a % 64)).take 8
  | _ => s.cfBytes a 8

/-- What the word reads as is not given: it failed its verify, lies in a bad slot or in an INCOMPLETE sector, or in the
configuration area, whose layout is the implementation's (R495, R500, R507, R547). -/
def State.cfUnknown (s : State) (a : Nat) : Bool :=
  s.boot.torn.contains (a / 8) || s.amberSlot a == some .bad || s.boot.incomplete.contains (a / 4096) || decide (0x1C00000 ≤ a)

/-- Bytes stored in the code flash. -/
def State.cfStore (s : State) (a : Nat) (bs : List Byte) : State :=
  { s with boot := { s.boot with cf := memWrite 0xFF s.boot.cf a bs } }

/-- A sector becomes erased and OK (R499); records of the Amber area that it held are gone (log entry 47). -/
def State.cfErased (s : State) (sec : Nat) : State :=
  let lose (e : AmbSlot × Nat) : AmbSlot := if (0x1000000 + 64 * e.2) / 4096 = sec then .bad else e.1
  ({ s with
    amb := { s.amb with area := (s.amb.area.zip (List.range s.amb.area.length)).map lose }
    boot := { s.boot with
      cf := memClear s.boot.cf (sec * 4096) 4096
      torn := s.boot.torn.filter (fun w => w / 512 != sec)
      incomplete := s.boot.incomplete.filter (· != sec) } } : State).count Reg.CFL_ERASES

/-! ### Commands (R495, R498 to R502) -/

def State.cfErr (s : State) (e : Nat) : State := s.put Fld.CFL_STATUS_ERR e

/-- The path may program or erase the sector of an address (R498). -/
def State.cfPath (s : State) (p : Path) (a : Nat) : Bool :=
  match p with
  | .capsule _ => false
  | .firmware => slotOfAddr a != s.runningSlot || (slotOfAddr a).isNone
  | .twoWire => (slotOfAddr a).isSome && slotOfAddr a != s.runningSlot && s.on Fld.CFL_CTRL_EXT_WR

/-- Address of CFL_ADDR: a word address in bytes. -/
def State.cfAddr (s : State) : Nat := (s.reg Reg.CFL_ADDR).toNat % 2 ^ 25 / 8 * 8

/-- The checks that PROGRAM and ERASE share: busy, path, address, brown-out. -/
def State.cfGate (s : State) (p : Path) (go : Nat → State) : State :=
  let a := s.cfAddr
  if s.boot.op.isSome then s.cfErr 1
  else if !(s.cfPath p a) then s.cfErr 2
  else if cfReserved a then s.cfErr 6
  else if s.on Fld.CFL_STATUS_BROWNOUT then s.cfErr 4
  else go a

def State.cfBegin (s : State) (o : CfOp) : State :=
  (({ s with boot := { s.boot with op := some o } } : State).put Fld.CFL_STATUS_BUSY 1).cfErr 0

/-- PROGRAM (R495, R500). -/
def State.cfProgram (s : State) (p : Path) : State :=
  s.cfGate p (fun a =>
    if s.boot.incomplete.contains (a / 4096) then s.cfErr 5
    else if s.cfWord a != List.replicate 8 0xFF || s.boot.torn.contains (a / 8) || s.amberSlot a == some .bad then s.cfErr 3
    else s.cfBegin (.program a ((s.reg Reg.CFL_DATA_HI) ++ (s.reg Reg.CFL_DATA_LO))))

/-- ERASE (R499): the sector is INCOMPLETE from the moment its mark is programmed. -/
def State.cfErase (s : State) (p : Path) : State :=
  s.cfGate p (fun a =>
    let sec := a / 4096
    let s : State := { s with boot := { s.boot with incomplete := sec :: s.boot.incomplete.filter (· != sec) } }
    s.cfBegin (.erase sec false 0))

/-- SUSPEND and RESUME come from a path that may use CFL_CMD (R498). -/
def cmdPath : Path → Bool
  | .capsule _ => false
  | _ => true

/-- A running erase is suspended, at most 16 times (R501). -/
def State.cfSuspend (s : State) : State :=
  match s.boot.op with
  | some (.erase sec false n) =>
    if 16 ≤ n then s
    else ((({ s with boot := { s.boot with op := some (.erase sec true (n + 1)) } } : State).put Fld.CFL_STATUS_SUSPENDED 1).count
      Reg.CFL_SUSPENDS).cfErr 0
  | _ => s.cfErr 6

/-- A suspended erase resumes (R501). -/
def State.cfResume (s : State) : State :=
  match s.boot.op with
  | some (.erase sec true n) =>
    (({ s with boot := { s.boot with op := some (.erase sec false n) } } : State).put Fld.CFL_STATUS_SUSPENDED 0).cfErr 0
  | _ => s.cfErr 6

/-- READ (R492, R493, R500): ecc is 0 for a word read clean, 1 corrected, 2 uncorrectable. -/
def State.cfRead (s : State) (ecc : Nat) : State :=
  let a := s.cfAddr
  if s.boot.op.isSome then s.cfErr 1
  else
    let s := s.cfErr 0
    let s := if s.boot.incomplete.contains (a / 4096) then s.put Fld.CFL_STATUS_RD_INCOMPLETE 1 else s
    let s := if ecc = 1 then s.count Reg.CFL_CORR else s
    let s := if ecc = 2 then (s.count Reg.CFL_UNCORR).record .cflUncorr 0 (leBytes 4 a) else s
    let open_ := ecc = 2 || s.cfUnknown a
    let r : State × Nat :=
      if cfReserved a then (s, 2 ^ 64 - 1)
      else if open_ then (s.draw.2, (Config.flashWord s.draw.1).toNat)
      else (s, leNat (s.cfWord a))
    (r.1.setReg Reg.CFL_DATA_LO (BitVec.ofNat 32 r.2)).setReg Reg.CFL_DATA_HI (BitVec.ofNat 32 (r.2 >>> 32))

/-- A write of CFL_CMD (Table 16-7). -/
def State.cfCmd (s : State) (p : Path) (op : Nat) : State :=
  if !(cmdPath p) then s.cfErr 2
  else match op with
    | 1 => s.cfProgram p
    | 2 => s.cfErase p
    | 3 => s.cfSuspend
    | 4 => s.cfResume
    | 5 => s.cfRead 0
    | _ => if s.boot.op.isSome then s.cfErr 1 else s.cfErr 6

def execCflProgram (path : Path) (s : State) : Host.Outcome State Fault Refusal := s.core (s.cfProgram path)
def execCflErase (path : Path) (s : State) : Host.Outcome State Fault Refusal := s.core (s.cfErase path)
def execCflSuspend (path : Path) (s : State) : Host.Outcome State Fault Refusal := s.core (if cmdPath path then s.cfSuspend else s.cfErr 2)
def execCflResume (path : Path) (s : State) : Host.Outcome State Fault Refusal := s.core (if cmdPath path then s.cfResume else s.cfErr 2)
def execCflRead (path : Path) (ecc : Fin 3) (s : State) : Host.Outcome State Fault Refusal :=
  s.core (if cmdPath path then s.cfRead ecc.val else s.cfErr 2)

/-- No operation runs any more. -/
def State.cfIdle (s : State) : State :=
  (({ s with boot := { s.boot with op := none } } : State).put Fld.CFL_STATUS_BUSY 0).put Fld.CFL_STATUS_SUSPENDED 0

/-- A word program ends (R495). -/
def execCflProgramDone (ok : Bool) (s : State) : Host.Outcome State Fault Refusal :=
  s.core (match s.boot.op with
    | some (.program a d) =>
      if ok then ((s.cfStore a (leBytes 8 d.toNat)).count Reg.CFL_PROGRAMS).cfIdle
      else (({ s with boot := { s.boot with torn := a / 8 :: s.boot.torn } } : State).cfErr 7).cfIdle
    | _ => s)

/-- A sector erase ends and the sector becomes OK (R499). -/
def execCflEraseDone (s : State) : Host.Outcome State Fault Refusal :=
  s.core (match s.boot.op with
    | some (.erase sec false _) => (s.cfErased sec).cfIdle
    | _ => s)

/-- Reads of the bank of a suspended erase have been idle for 50 µs (R501). -/
def execCflEraseIdleResume (s : State) : Host.Outcome State Fault Refusal :=
  s.core (match s.boot.op with
    | some (.erase _ true _) => s.cfResume
    | _ => s)

/-- The brown-out detector asserts, or reads the supply in order again (R502): an erase stops and its sector stays
INCOMPLETE. -/
def execCflBrownout (low : Bool) (s : State) : Host.Outcome State Fault Refusal :=
  .next (if low then
      let s := ((s.put Fld.CFL_STATUS_BROWNOUT 1).count Reg.CFL_BROWNOUTS).record .cflBrownout
      match s.boot.op with
      | some (.erase _ _ _) => s.cfIdle
      | _ => s
    else s.put Fld.CFL_STATUS_BROWNOUT 0)

/-- CFL_SECSTAT (Table 16-7). -/
def State.cfSecstat (s : State) : Nat :=
  let sec := s.cfAddr / 4096
  match s.boot.op with
  | some (.erase x susp n) =>
    if x = sec then (if susp then 3 else 2) + 4 * n else if s.boot.incomplete.contains sec then 1 else 0
  | _ => if s.boot.incomplete.contains sec then 1 else 0

/-! ### Select words (R503) -/

/-- A select word: SEQ, TYPE (1 SELECT, 2 ATTEMPT, 3 CONFIRM), SLOT. -/
structure SelectWord where
  seq : Nat
  typ : Nat
  slot : Nat
  deriving DecidableEq, Repr

/-- The word at an index of the two sectors; it is valid with the right MARK in an OK sector. -/
def State.selectAt (s : State) (i : Nat) : Option SelectWord :=
  let a := selectBase + 8 * i
  let w := leNat (s.cfBytes a 8)
  if w / 2 ^ 48 = 0x5E1C && !(s.boot.incomplete.contains (a / 4096)) && !(s.boot.torn.contains (a / 8)) then
    some { seq := w % 2 ^ 32, typ := w / 2 ^ 32 % 4, slot := w / 2 ^ 34 % 2 }
  else none

/-- Every valid select word. -/
def State.selectWords (s : State) : List SelectWord := (List.range 1024).filterMap s.selectAt

/-- The word with the highest SEQ of those that keep a condition. -/
def lastWord (ws : List SelectWord) (p : SelectWord → Bool) : Option SelectWord :=
  (ws.filter p).foldl (fun m w => match m with
    | some x => if x.seq < w.seq then some w else some x
    | none => some w) none

/-- Index at which the next word goes: the first erased word of the sector that holds the highest SEQ; when that sector
is full, word 0 of the other one, which is erased first. -/
def State.selectPlace (s : State) : Nat × Option Nat :=
  let top := (s.selectWords.map (·.seq)).foldl max 0
  let sec := if (List.range 512).any (fun i => ((s.selectAt (512 + i)).map (·.seq)) = some top) then 1 else 0
  match (List.range 512).find? (fun i => s.cfBytes (selectBase + 8 * (512 * sec + i)) 8 == List.replicate 8 0xFF) with
  | some i => (512 * sec + i, none)
  | none => (512 * (1 - sec), some (1 - sec))

/-- A select word is programmed (R503). -/
def State.programSelect (s : State) (typ slot : Nat) : State :=
  let seq := (s.selectWords.map (·.seq)).foldl max 0 + 1
  let p := s.selectPlace
  let s := match p.2 with
    | some sec => s.cfErased (selectBase / 4096 + sec)
    | none => s
  (s.cfStore (selectBase + 8 * p.1) (leBytes 8 (seq % 2 ^ 32 + typ * 2 ^ 32 + slot * 2 ^ 34 + 0x5E1C * 2 ^ 48))).count Reg.CFL_PROGRAMS

/-! ### Images (R505, R508, Table 16-3) -/

/-- A field of a slot's header. -/
def State.imgField (s : State) (slot off n : Nat) : Nat := leNat (s.cfBytes (slot * slotBytes + off) n)

def State.imgLen (s : State) (slot : Nat) : Nat := s.imgField slot 16 4

/-- The header keeps every check of Table 16-3 but the rollback floor and the signature. -/
def State.imgFormed (s : State) (slot : Nat) : Bool :=
  let zero (off n : Nat) : Bool := (s.cfBytes (slot * slotBytes + off) n).all (· == 0)
  s.cfBytes (slot * slotBytes) 4 == [0x57, 0x4D, 0x49, 0x4D] && s.imgField slot 4 2 = 1 && zero 6 2 &&
    s.imgLen slot % 4096 = 0 && decide (524288 ≤ s.imgLen slot) && decide (s.imgLen slot ≤ 8388608) &&
    decide (s.imgField slot 20 4 ≤ 63) && decide (s.imgField slot 24 4 < s.imgLen slot) && s.imgField slot 28 4 = 0xB1 &&
    zero 32 352 && zero 480 32

/-- VERSION of a slot's header. -/
def State.imgVersion (s : State) (slot : Nat) : Nat := s.imgField slot 8 8

/-- The image that the signature covers: bytes 384 to 479 taken as 0. -/
def State.imgSigned (s : State) (slot : Nat) : Bool :=
  let b := s.cfBytes (slot * slotBytes) (s.imgLen slot)
  Config.imageSigned (b.take 384 ++ List.replicate 96 0 ++ b.drop 480)

/-- Verification of a slot (R505, R508). -/
def State.verifySlot (s : State) (slot : Nat) : Bool :=
  s.imgFormed slot && decide (s.boot.floor ≤ s.imgField slot 20 4) &&
    !(s.boot.incomplete.any (fun x => within (slot * 2048) (s.imgLen slot / 4096) x)) && s.imgSigned slot

/-- The slot that is staged: the one that does not run (R512). -/
def State.stagedSlot (s : State) : Nat := 1 - (s.runningSlot.getD 0)

/-- Check 2 of Table 16-5: the staged map covers the image of a well-formed header. -/
def State.stagedWhole (s : State) : Bool :=
  s.imgFormed s.stagedSlot && (List.range (s.imgLen s.stagedSlot / 4096)).all (fun p => s.boot.staged.contains p)

end Sys2Proof.Machine
end

