-- ==== Sys2Proof/Machine/Seal.lean ====
section
/-! DEFINITION. Sys2Proof/Machine/Seal.lean: key slots, sealed blobs, the sealing engine and its lock (R470 to R491). -/

namespace Sys2Proof.Machine

/-! ### Slots (R470 to R472) -/

/-- Slot of the metadata key (Table 15-1). -/
abbrev metaSlot : Nat := 4096

def State.keySlot (s : State) (n : Nat) : Option KeySlot := kget s.sealing.slots n

/-- Slot n is a management slot (Table 15-1). -/
def isMgmt (n : Nat) : Bool := decide (4097 ≤ n) && decide (n ≤ 4112)

/-- The two halves of a key pair are equal (R472). -/
def halvesEqual (k : List Byte) : Bool := k.take 32 == (k.drop 32).take 32

/-- KCV of a slot, 0 when it is EMPTY (Table 15-5). -/
def State.slotKcv (s : State) (n : Nat) : Nat := ((s.keySlot n).map (fun k => leNat (kcvOf k.key))).getD 0

/-- KCV of the root key, 0 before it is provisioned (R473). -/
def State.rootKcv (s : State) : Nat := (s.sealing.root.map (fun k => leNat (kcvOf k))).getD 0

/-- Key domains LOADED (XTS_DOMAINS). -/
def State.domainsLoaded (s : State) : Nat := (s.sealing.slots.filter (fun e => decide (e.1 < 4096))).length

/-- Regions that name a key domain (XTS_DOMINFO). -/
def State.domainRegions (s : State) (d : Nat) : Nat := (s.prot.regions.filter (fun e => e.2.keyDomain = d)).length

/-- A slot is loaded, and the change recorded with its number and KCV (Table 15-4). -/
def State.loadSlot (s : State) (n : Nat) (k : KeySlot) : State :=
  ({ s with sealing := { s.sealing with slots := kput s.sealing.slots n k } } : State).record .sealSlotChange 0 (leBytes 4 n ++ kcvOf k.key)

/-- A slot is emptied and its blob deleted (R477). -/
def State.clearSlot (s : State) (n : Nat) : State :=
  let kcv := leBytes 8 (s.slotKcv n)
  ({ s with sealing := { s.sealing with slots := kdel s.sealing.slots n, blobs := kdel s.sealing.blobs n } } : State).record
    .sealSlotChange 0 (leBytes 4 n ++ kcv)

/-! ### The lock (R483 to R485) -/

/-- Owner number and QPN of a path (Table 15-6). -/
def pathOwner : Path → Nat × Nat
  | .firmware => (1, 0)
  | .twoWire => (2, 0)
  | .capsule q => (3, q.toNat)

/-- The path owns the lock. -/
def State.sealOwns (s : State) (p : Path) : Bool :=
  s.get Fld.SEAL_LOCK_OWNER = (pathOwner p).1 && s.get Fld.SEAL_LOCK_QPN = (pathOwner p).2

/-- Another path holds the lock (R484). -/
def State.sealForeign (s : State) (p : Path) : Bool := s.get Fld.SEAL_LOCK_OWNER != 0 && !(s.sealOwns p)

/-- An access that R484 turns away is noted. -/
def State.noteForeign (s : State) : State := (s.put Fld.SEAL_STATUS_FOREIGN 1).record .sealForeign 0 [] 0 (perSecond 0)

/-- A claim succeeds only while the lock is free (R483). -/
def State.sealClaim (s : State) (p : Path) : State :=
  if s.get Fld.SEAL_LOCK_OWNER = 0 then
    (s.put Fld.SEAL_LOCK_OWNER (pathOwner p).1).put Fld.SEAL_LOCK_QPN (pathOwner p).2
  else s

/-- A range of registers set to 0. -/
def State.zeroRegs (s : State) (a n : Nat) : State := (List.range n).foldl (fun s i => s.setReg (a + 4 * i) 0) s

/-- SEAL_BUF is zeroed. -/
def State.zeroBuf (s : State) : State :=
  { s with regs := s.regs.filter (fun e => !(decide (0x61000 ≤ e.1) && decide (e.1 < 0x62000))) }

/-- The lock is released: buffers and internal state are zeroed, a running operation is abandoned (R485). -/
def State.sealRelease (s : State) : State :=
  let s := if s.sealing.job.isSome then (s.put Fld.SEAL_STATUS_BUSY 0).put Fld.SEAL_STATUS_RESULT 7 else s
  let s := ((s.zeroBuf.zeroRegs (Reg.SEAL_IV 0) 3).zeroRegs (Reg.SEAL_TAG 0) 4).setReg Reg.SEAL_LOCK 0
  { s with sealing := { s.sealing with keyIn := [], job := none } }

def execSealLockClaim (path : Path) (s : State) : Host.Outcome State Fault Refusal := s.core (s.sealClaim path)

/-- RELEASE acts only for the owner (R485). -/
def State.sealGiveUp (s : State) (p : Path) : State := if s.sealOwns p then s.sealRelease else s

def execSealLockRelease (path : Path) (s : State) : Host.Outcome State Fault Refusal := s.core (s.sealGiveUp path)

/-- The owner has made no access for 1 s (R485). -/
def execSealLockTimeout (s : State) : Host.Outcome State Fault Refusal :=
  s.core (if s.get Fld.SEAL_LOCK_OWNER = 0 then s else s.sealRelease.record .sealLockTimeout)

/-! ### Operations (R486, R487, Table 15-3) -/

/-- The first n bytes of SEAL_BUF. -/
def State.sealBytes (s : State) (n : Nat) : List Byte :=
  (wordBytes ((List.range ((n + 3) / 4)).map (fun i => s.reg (Reg.SEAL_BUF i)))).take n

/-- SEAL_BUF from offset 0 on; the bytes beyond stay. -/
def State.setSealBytes (s : State) (bs : List Byte) : State :=
  let w := (bs.length + 3) / 4
  let all := bs ++ (s.sealBytes (4 * w)).drop bs.length
  (List.range w).foldl (fun s i => s.setReg (Reg.SEAL_BUF i) (BitVec.ofNat 32 (leNat ((all.drop (4 * i)).take 4)))) s

/-- SEAL_TAG and SEAL_IV as bytes. -/
def State.sealTag (s : State) : List Byte := wordBytes ((List.range 4).map (fun i => s.reg (Reg.SEAL_TAG i)))
def State.sealIv (s : State) : List Byte := wordBytes ((List.range 3).map (fun i => s.reg (Reg.SEAL_IV i)))

/-- The first n bytes of SEAL_KEYIN; a word not written is 0. -/
def State.keyInBytes (s : State) (n : Nat) : List Byte :=
  (wordBytes ((List.range 16).map (fun i => (kget s.sealing.keyIn i).getD 0))).take n

/-- An operation starts: it needs the lock, and none may run (R486). -/
def State.sealStart (s : State) (p : Path) (job : SealJob) : State :=
  if s.sealForeign p then s.noteForeign
  else if !(s.sealOwns p) || s.on Fld.SEAL_STATUS_BUSY then s
  else ({ s with sealing := { s.sealing with job := some job } } : State).put Fld.SEAL_STATUS_BUSY 1

/-- The fields of an unwrapped blob (Table 15-2): the slot and its key. -/
def blobFields (b : List Byte) : Option (Nat × List Byte) :=
  let slot := leNat ((b.drop 4).take 2)
  let typ := leNat ((b.drop 2).take 1)
  let key := b.drop 8
  if leNat (b.take 2) != 1 || b.getD 3 0 != 0 || leNat ((b.drop 6).take 2) != 0 then none
  else if typ = 1 && decide (slot ≤ 4096) then some (slot, key)
  else if typ = 2 && isMgmt slot && (key.drop 32).all (· == 0) then some (slot, key.take 32)
  else none

/-- UNSEAL (R472, R474, R477). -/
def State.unsealJob (s : State) : SealJob :=
  match s.sealing.root with
  | none => { result := 5 }
  | some root =>
    match (kwUnwrap root (s.sealBytes 80)).bind blobFields with
    | none => { result := 1, unsealed := true }
    | some (n, k) =>
      if decide (n ≤ 4096) && halvesEqual k then { result := 3 }
      else if (s.keySlot n).isSome then { result := 4 }
      else { load := some (n, { key := k }), unsealed := true }

/-- LOAD_PLAIN (R472, R476, R477). -/
def State.loadPlainJob (s : State) : SealJob :=
  let n := (s.reg Reg.SEAL_KEYDST).toNat % 8192
  let k := s.keyInBytes (if n ≤ 4096 then 64 else 32)
  if s.sealing.root.isSome then { result := 5 }
  else if 4112 < n then { result := 3 }
  else if decide (n ≤ 4096) && halvesEqual k then { result := 3 }
  else if (s.keySlot n).isSome then { result := 4 }
  else { load := some (n, { key := k, plain := true }) }

/-- CLEAR (R477). -/
def State.clearJob (s : State) : SealJob :=
  let n := (s.reg Reg.SEAL_KEYDST).toNat % 8192
  if 4112 < n then { result := 3 }
  else if decide (n < 4096) && s.domainRegions n != 0 then { result := 4 }
  else if n = metaSlot && s.flash.formatted then { result := 4 }
  else { clear := some n }

/-- An operation with the key of a management slot: a slot of another kind is refused with 3, an EMPTY one with 4. -/
def State.withMgmt (s : State) (slot : Nat) (go : List Byte → SealJob) : SealJob :=
  if !(isMgmt slot) then { result := 3 }
  else match s.keySlot slot with
    | some k => go k.key
    | none => { result := 4 }

def State.sealLen (s : State) : Nat := s.get Fld.SEAL_LEN_LEN
def State.sealAad (s : State) : Nat := s.get Fld.SEAL_LEN_AADLEN

/-- GCM_ENC. -/
def State.gcmEncJob (s : State) (slot : Nat) : SealJob :=
  s.withMgmt slot (fun k =>
    if 4096 < s.sealLen || s.sealLen < s.sealAad then { result := 3 }
    else
      let m := s.sealBytes s.sealLen
      let ct := gcmCtr k s.sealIv (m.drop s.sealAad)
      { buf := some (m.take s.sealAad ++ ct), tag := some (gcmTag k s.sealIv (m.take s.sealAad) ct) })

/-- GCM_DEC (R487). -/
def State.gcmDecJob (s : State) (slot : Nat) : SealJob :=
  s.withMgmt slot (fun k =>
    if 4096 < s.sealLen || s.sealLen < s.sealAad then { result := 3 }
    else
      let m := s.sealBytes s.sealLen
      let ct := m.drop s.sealAad
      if gcmTag k s.sealIv (m.take s.sealAad) ct == s.sealTag then { buf := some (m.take s.sealAad ++ gcmCtr k s.sealIv ct) }
      else { result := 1, buf := some (List.replicate 4096 0), authFail := true, gcm := true })

/-- What a failed unwrap leaves. -/
def unwrapFail : SealJob := { result := 1, buf := some (List.replicate 4096 0), authFail := true }

def State.kwWrapJob (s : State) (slot : Nat) : SealJob :=
  s.withMgmt slot (fun k =>
    if s.sealLen < 16 || 4088 < s.sealLen || s.sealLen % 8 != 0 then { result := 3 }
    else let w := kwWrap k (s.sealBytes s.sealLen); { buf := some w, outLen := some w.length })

def State.kwUnwrapJob (s : State) (slot : Nat) : SealJob :=
  s.withMgmt slot (fun k =>
    if s.sealLen < 24 || 4096 < s.sealLen || s.sealLen % 8 != 0 then { result := 3 }
    else match kwUnwrap k (s.sealBytes s.sealLen) with
      | some d => { buf := some d }
      | none => unwrapFail)

def State.kwpWrapJob (s : State) (slot : Nat) : SealJob :=
  s.withMgmt slot (fun k =>
    if s.sealLen < 1 || 4088 < s.sealLen then { result := 3 }
    else let w := kwpWrap k (s.sealBytes s.sealLen); { buf := some w, outLen := some w.length })

def State.kwpUnwrapJob (s : State) (slot : Nat) : SealJob :=
  s.withMgmt slot (fun k =>
    if s.sealLen < 16 || 4096 < s.sealLen || s.sealLen % 8 != 0 then { result := 3 }
    else match kwpUnwrap k (s.sealBytes s.sealLen) with
      | some d => { buf := some d }
      | none => unwrapFail)

def State.cmacGenJob (s : State) (slot : Nat) : SealJob :=
  s.withMgmt slot (fun k => if 4096 < s.sealLen then { result := 3 } else { tag := some (cmac k (s.sealBytes s.sealLen)) })

def State.cmacVerJob (s : State) (slot : Nat) : SealJob :=
  s.withMgmt slot (fun k =>
    if 4096 < s.sealLen then { result := 3 }
    else if cmac k (s.sealBytes s.sealLen) == s.sealTag then {} else { result := 1, authFail := true })

/-- PROVISION_ROOT (R473). -/
def State.provisionJob (s : State) : SealJob :=
  if s.sealing.root.isSome then { result := 5 } else { root := some (s.keyInBytes 32) }

/-- The operation of an OP number (Table 15-3); another OP is reserved. -/
def State.sealJobOf (s : State) (op slot : Nat) : SealJob :=
  match op with
  | 1 => s.unsealJob
  | 2 => s.loadPlainJob
  | 3 => s.clearJob
  | 4 => s.gcmEncJob slot
  | 5 => s.gcmDecJob slot
  | 6 => s.kwWrapJob slot
  | 7 => s.kwUnwrapJob slot
  | 8 => s.kwpWrapJob slot
  | 9 => s.kwpUnwrapJob slot
  | 10 => s.cmacGenJob slot
  | 11 => s.cmacVerJob slot
  | 12 => s.provisionJob
  | _ => { result := 2 }

/-- A write of SEAL_OP. -/
def State.sealOp (s : State) (p : Path) (op slot : Nat) : State := s.sealStart p (s.sealJobOf op slot)

def execUnseal (path : Path) (s : State) : Host.Outcome State Fault Refusal := s.core (s.sealStart path s.unsealJob)
def execLoadPlain (path : Path) (s : State) : Host.Outcome State Fault Refusal := s.core (s.sealStart path s.loadPlainJob)
def execSealClear (path : Path) (s : State) : Host.Outcome State Fault Refusal := s.core (s.sealStart path s.clearJob)
def execGcmEnc (path : Path) (slot : BitVec 16) (s : State) : Host.Outcome State Fault Refusal := s.core (s.sealStart path (s.gcmEncJob slot.toNat))
def execGcmDec (path : Path) (slot : BitVec 16) (s : State) : Host.Outcome State Fault Refusal := s.core (s.sealStart path (s.gcmDecJob slot.toNat))
def execKwWrap (path : Path) (slot : BitVec 16) (s : State) : Host.Outcome State Fault Refusal := s.core (s.sealStart path (s.kwWrapJob slot.toNat))
def execKwUnwrap (path : Path) (slot : BitVec 16) (s : State) : Host.Outcome State Fault Refusal := s.core (s.sealStart path (s.kwUnwrapJob slot.toNat))
def execKwpWrap (path : Path) (slot : BitVec 16) (s : State) : Host.Outcome State Fault Refusal := s.core (s.sealStart path (s.kwpWrapJob slot.toNat))
def execKwpUnwrap (path : Path) (slot : BitVec 16) (s : State) : Host.Outcome State Fault Refusal := s.core (s.sealStart path (s.kwpUnwrapJob slot.toNat))
def execCmacGen (path : Path) (slot : BitVec 16) (s : State) : Host.Outcome State Fault Refusal := s.core (s.sealStart path (s.cmacGenJob slot.toNat))
def execCmacVer (path : Path) (slot : BitVec 16) (s : State) : Host.Outcome State Fault Refusal := s.core (s.sealStart path (s.cmacVerJob slot.toNat))
def execProvisionRoot (path : Path) (s : State) : Host.Outcome State Fault Refusal := s.core (s.sealStart path s.provisionJob)

/-- What a finished operation leaves (R473 to R477, R486, R487). -/
def State.sealApply (s : State) (j : SealJob) : State :=
  let s := match j.buf with
    | some b => s.setSealBytes b
    | none => s
  let s := match j.tag with
    | some t => (List.range 4).foldl (fun s i => s.setReg (Reg.SEAL_TAG i) (BitVec.ofNat 32 (leNat ((t.drop (4 * i)).take 4)))) s
    | none => s
  let s := match j.outLen with
    | some n => s.setReg Reg.SEAL_OUTLEN (BitVec.ofNat 32 n)
    | none => s
  let s := match j.load with
    | some (n, k) =>
      let s := s.loadSlot n k
      if j.unsealed && decide (n ≤ 4096) then { s with sealing := { s.sealing with blobs := kput s.sealing.blobs n k } } else s
    | none => s
  let s := match j.clear with
    | some n => if (s.keySlot n).isSome then s.clearSlot n else s
    | none => s
  let s := match j.root with
    | some k =>
      if s.sealing.root.isSome then s
      else ({ s with sealing := { s.sealing with root := some k } } : State).record .sealRootProvisioned
    | none => s
  let s := if j.authFail then s.count Reg.SEAL_AUTH_FAIL else s
  let s := if j.gcm then s.record .sealAuthFail 0 [] 0 (perSecond 0) else s
  if j.unsealed && j.result = 1 then s.record .sealUnsealFail else s

/-- SEAL_OP_DONE (R486). -/
def execSealOpDone (s : State) : Host.Outcome State Fault Refusal :=
  s.core (match s.sealing.job with
    | some j =>
      let s := s.sealApply j
      let s := ((s.put Fld.SEAL_STATUS_BUSY 0).put Fld.SEAL_STATUS_RESULT j.result).count Reg.SEAL_OPS
      { s with sealing := { s.sealing with job := none } }
    | none => s)

/-- At every start-up after P3 or power loss every stored blob is unsealed again (R475). -/
def State.unsealStored (s : State) : State :=
  s.sealing.blobs.foldl (fun s e => if (s.keySlot e.1).isSome then s else s.loadSlot e.1 e.2) s

/-- The mount's wait for keys (R481): slot 4,096, and once the checkpoint is read every domain that a region names. -/
def State.keysReady (s : State) : Bool :=
  (s.keySlot metaSlot).isSome && s.prot.regions.all (fun e => e.2.volatile || (s.keySlot e.2.keyDomain).isSome)

end Sys2Proof.Machine
end

