-- ==== Sys2Proof/Machine/Boot.lean ====
section
/-! DEFINITION. Sys2Proof/Machine/Boot.lean: what a reset resets, boot selection, the start-up steps, the survey, the mount
of T2, confirmation of an image (R351, R352, R444, R480, R481, R500 to R511, R533, R534, R589). -/

namespace Sys2Proof.Machine

/-! ### ALERT_N (R529) -/

/-- Event registers by the bit of MBUS_ALERTSRC; DMC's sixteen share one bit (Table 17-9). -/
def alertRegs : List (Nat × Nat) :=
  [(0, Reg.TRN_EVT), (1, Reg.KEY_EVT), (2, Reg.CQI_EVT), (3, Reg.TIER_EVT), (4, Reg.LC_EVT), (6, Reg.ECC_EVT), (7, Reg.FTL_EVT),
   (8, Reg.TWN_EVT), (9, Reg.COL_EVT), (10, Reg.PWS_EVT), (11, Reg.GOV_EVT), (12, Reg.SEAL_EVT), (13, Reg.XTS_EVT),
   (14, Reg.CFL_EVT), (15, Reg.AMB_EVT), (16, Reg.DBG_EVT), (17, Reg.MBUS_EVT)] ++ (List.range 16).map (fun c => (5, Reg.DMC_EVT c))

/-- A block has an alert pending. -/
def State.alertPends (s : State) (a : Nat) : Bool := (s.reg a &&& s.reg (a + 4)) != 0

/-- MBUS_ALERTSRC. -/
def State.alertSrc (s : State) : Nat :=
  (List.range 18).foldl (fun n b => if alertRegs.any (fun e => e.1 = b && s.alertPends e.2) then n + 2 ^ b else n) 0

/-- ALERT_N is released when no block has an alert pending any longer. -/
def State.alertSettle (s : State) : State :=
  if s.mbus.alert && s.alertSrc = 0 then { s with mbus := { s.mbus with alert := false } } else s

/-! ### What a reset resets (R471, R589, Table 20-2) -/

/-- Registers that a warm reset and an exit from P3 keep: PWS, MBUS, AMB, GLB_WINSEL, GOV_PCAP, GOV_WAKE_TMR,
GLB_RSTCAUSE and GLB_RSTCOUNT. -/
def keptReg (a : Nat) : Bool :=
  a / 65536 % 256 == 1 || a / 65536 == 3 || a / 65536 == 4 || a == Reg.GLB_WINSEL || a == Reg.GOV_PCAP || a == Reg.GOV_WAKE_TMR ||
    a == Reg.GLB_RSTCAUSE || a == Reg.GLB_RSTCOUNT

/-- What stays of a region: it is disarmed, without loss marks. -/
def resetRegion (r : Region) : Region :=
  { r with armed := false, arming := none, recArmed := false, unconf := false, loss := [] }

/-- What stays of a home set: its stand record and its change bitmap (R380, R386). -/
def resetHome (warm : Bool) (ckpt : List Nat) (x : HomeSt) : HomeSt :=
  { srTerm := x.srTerm, srEpoch := x.srEpoch, srRole := x.srRole, srComplete := x.srComplete, soloTerm := x.soloTerm,
    inRel := x.inRel, changed := if warm then x.changed else ckpt, bitmapLost := x.bitmapLost }

/-- What stays of a frame over a warm reset: a copy in flight is gone, so its bytes are dirty again (R69). -/
def resetFrame (f : Frame) : Frame :=
  { f with dirty := if f.copy.isSome then f.dirty ||| f.valid else f.dirty, copy := none, filling := false }

/-- A word program that the reset cuts leaves its word undefined (R495). -/
def cutProgram (op : Option CfOp) (torn : List Nat) : List Nat :=
  match op with
  | some (.program a _) => a / 8 :: torn
  | _ => torn

/-- Every domain but the always-on domain is reset; warm keeps T1 and the key slots, otherwise T1 is lost (R444, R510).
Registers go back to their reset values but for those of Table 20-2. -/
def State.coreReset (s : State) (warm : Bool) : State :=
  let s := s.interruptTests (fun _ => true)
  let up := (List.range 16).filter (fun c => s.dmcState c == 2 || s.dmcState c == 3 || s.dmcState c == 4)
  let caps := up.map (fun c => (c, s.reg (Reg.DMC_CAPACITY c), s.reg (Reg.DMC_STATUS c)))
  let gr (g : Nat × Granule) : Nat × Granule := (g.1, { g.2 with claims := [], evicting := false })
  let t : State :=
    { pending := s.pending, now := s.now, free := s.free, out := s.out, regs := s.regs.filter (fun e => keptReg e.1),
      amb := s.amb, dbg := { key := s.dbg.key },
      prot := {
        regions := s.prot.regions.map (fun e => (e.1, resetRegion e.2))
        keys := (s.prot.keys.filter (fun e => e.2.valid && e.2.aperture.isNone)).map (fun e => (e.1, { e.2 with fencing := false })) },
      cqi := { testLog := s.cqi.testLog },
      tier := if warm then
          { t1 := s.tier.t1, frames := s.tier.frames.map (fun e => (e.1, resetFrame e.2)), written := s.tier.written,
            uncorr := s.tier.uncorr, granules := s.tier.granules.map gr, stamp := s.tier.stamp }
        else { granules := s.tier.granules.map gr },
      flash := { s.flash with prog := [], ops := [], temps := [], warned90 := false, warned97 := false, readOnly := false, thr := [] },
      twin := { homes := [0, 1].map (fun h => resetHome warm (s.flash.ckptChanged.getD h []) (s.home h)) },
      dram := { chans := s.dram.chans.map (fun x => { remap := x.remap }) },
      col := { s.col with reqs := [], cred := 0, credLo := none, credHi := none },
      pw := { s.pw with activating := false, huWaived := false },
      sealing := { slots := s.sealing.slots, root := s.sealing.root, blobs := s.sealing.blobs },
      boot := { cf := s.boot.cf, torn := cutProgram s.boot.op s.boot.torn, incomplete := s.boot.incomplete, floor := s.boot.floor, stored := s.boot.stored },
      mbus := { s.mbus with used := [] } }
  let t := t.putB Fld.TWN_STATUS_SIDE_A s.mbus.sideA
  let t := if warm then caps.foldl (fun t c => ((t.setReg (Reg.DMC_CAPACITY c.1) c.2.1).setReg (Reg.DMC_STATUS c.1) c.2.2).put (Fld.DMC_STATUS_STATE c.1) 3) t
    else t
  (t.setRegBit Reg.TWN_HEALTH 5 (decide ((t.reg Reg.PWS_BUDGET).toNat < 65536))).alertSettle

/-! ### Boot selection (R500, R504, R505) -/

/-- The slot that the boot ROM starts, none when neither verifies. -/
def State.bootSelect (s : State) : State × Option Nat :=
  let ws := s.selectWords
  let sel := lastWord ws (fun w => w.typ = 1)
  let seq := (sel.map (·.seq)).getD 0
  let slot := (sel.map (·.slot)).getD 0
  let tries := (ws.filter (fun w => w.typ = 2 && decide (seq < w.seq))).length
  let trial := sel.isSome && !(ws.any (fun w => w.typ = 3 && w.slot = slot && decide (seq < w.seq)))
  let revert := trial && decide (3 ≤ tries)
  let slot := if revert then 1 - slot else slot
  let s := if revert then (s.programSelect 1 slot).record .cflRevert 0 [BitVec.ofNat 8 slot]
    else if trial then s.programSelect 2 slot else s
  let trial := trial && !revert
  let alt := !(s.verifySlot slot)
  if alt && !(s.verifySlot (1 - slot)) then (s, none)
  else
    let slot := if alt then 1 - slot else slot
    let s := if alt then s.record .cflAltBoot 0 [BitVec.ofNat 8 slot] else s
    let now := lastWord s.selectWords (fun w => w.typ = 1)
    let nseq := (now.map (·.seq)).getD 0
    let s := s.setReg Reg.CFL_BOOT (BitVec.ofNat 32 nseq)
    let s := (s.put Fld.CFL_BOOTINFO_SLOT slot).putB Fld.CFL_BOOTINFO_TRIAL trial
    let s := s.put Fld.CFL_BOOTINFO_ATTEMPTS (s.selectWords.filter (fun w => w.typ = 2 && decide (nseq < w.seq))).length
    ((s.putB Fld.CFL_BOOTINFO_REVERTED revert).putB Fld.CFL_BOOTINFO_ALT_BOOT alt, some slot)

/-- Core release: known-answer tests, T0 invalid and enabled, stored blobs unsealed; the survey of step 6 follows (R244,
R475, R482, R507). -/
def State.coreRelease (s : State) : State :=
  let s := s.put Fld.CFL_BOOTINFO_STEP 5
  let r := s.draw
  let pass := Config.katPasses r.1
  let s := r.2.putB Fld.XTS_STATUS_KAT_PASS pass
  if !pass then s.record .xtsKatFail
  else
    let s := (((s.mopStart 1 0).mopDone).lcEnable.1).unsealStored
    let s : State := { s with boot := { s.boot with released := true }, mbus := { s.mbus with survey := true } }
    s.put Fld.CFL_BOOTINFO_STEP 6

/-- The boot ROM runs (start-up steps 3 to 5): it needs the core rails (Table 13-1). -/
def State.bootRom (s : State) : State :=
  if s.groupBad 1 then s
  else
    let s := ((s.put Fld.GLB_RSTCAUSE_CAUSE s.pw.resetCause).putB Fld.GLB_RSTCAUSE_FROM_FREEZE s.pw.fromFreeze)
    let s := s.boot.incomplete.foldl (fun s x => s.record .cflIncomplete 0 (leBytes 4 (x * 4096))) s
    let r := (s.put Fld.CFL_BOOTINFO_STEP 4).bootSelect
    match r.2 with
    | none => (r.1.put Fld.CFL_STATUS_RECOVERY 1).record .cflRecovery
    | some slot =>
      let v := r.1.imgVersion slot
      let s := r.1.setReg64 Reg.CFL_RUNVER_LO Reg.CFL_RUNVER_HI v
      (s.record .cflBoot 0 ([BitVec.ofNat 8 slot] ++ leBytes 8 v ++ [BitVec.ofNat 8 (s.get Fld.CFL_BOOTINFO_TRIAL)])).coreRelease

/-- A CONFIRM is programmed once the image has been in service for 60 s, and the rollback floor may rise (R504, R508). -/
def execImageConfirmTimer (s : State) : Host.Outcome State Fault Refusal :=
  s.core (if s.get Fld.CFL_BOOTINFO_STEP = 11 && s.on Fld.CFL_BOOTINFO_TRIAL then
      let slot := s.get Fld.CFL_BOOTINFO_SLOT
      let s := ((s.programSelect 3 slot).put Fld.CFL_BOOTINFO_TRIAL 0).record .cflConfirm 0 [BitVec.ofNat 8 slot]
      { s with boot := { s.boot with floor := max s.boot.floor (s.imgField slot 20 4) } }
    else s)

/-! ### Survey (R258 to R261, R314, R533, R534, R602) -/

/-- An enabled rail of a group feeds unit k, and the condition holds of it. -/
def State.feeds (s : State) (g k : Nat) (p : Nat → Bool) : Bool :=
  (List.range 24).any (fun n => s.on (Fld.PWS_RAIL_EN n) && s.get (Fld.PWS_RAIL_GROUP n) = g && (s.get (Fld.PWS_RAIL_MASK n)).testBit k && p n)

/-- Rails of two groups that feed unit k come up in the wrong order (R602), or one of them is not in order. -/
def State.railsBad (s : State) (g k : Nat) : Bool :=
  let bad (n : Nat) : Bool := (s.pw.rails.getD n {}).st == .failed || (s.pw.rails.getD n {}).st == .faulted
  s.feeds g k bad || s.feeds (g + 1) k bad ||
    s.feeds g k (fun n => s.feeds (g + 1) k (fun m => decide (s.get (Fld.PWS_RAIL_PHASE m) ≤ s.get (Fld.PWS_RAIL_PHASE n))))

/-- A DIMM is within the limits of Table 08-1, and runs at 4800 MT/s. -/
def dimmOk (d : Dimm) : Bool :=
  d.rdimm && d.subWidth = 40 && (d.devWidth = 4 || d.devWidth = 8) && decide (1 ≤ d.ranks) && decide (d.ranks ≤ 2) &&
    [1, 2, 4, 8].contains d.stack && decide (16 ≤ d.gib) && decide (d.gib ≤ 256) && decide (4800 ≤ d.rate)

/-- One channel after its SPDs were read (R258, R260, R261). -/
def State.surveyChan (s : State) (dimms : List Dimm) (c : Nat) : State :=
  let ds := dimms.filter (fun d => d.chan.val = c)
  let s := ds.foldl (fun s d => if d.spdOk then s else s.record .dmcSpdFail (unitChan c) [BitVec.ofNat 8 d.slot.val] c) s
  let good := ds.filter (·.spdOk)
  let unsup := good.any (fun d => !(dimmOk d))
  let s := if unsup then s.record .dmcDimmUnsupported (unitChan c) [] c else s
  let gap := good.any (fun d => d.slot.val = 1) && !(good.any (fun d => d.slot.val = 0))
  if s.dmcState c == 3 then s
  else if ds.isEmpty then s.put (Fld.DMC_STATUS_STATE c) 0
  else if unsup || gap || good.isEmpty || s.railsBad 3 c then s.put (Fld.DMC_STATUS_STATE c) 7
  else
    let s := s.setReg (Reg.DMC_CAPACITY c) (BitVec.ofNat 32 ((good.map (·.gib)).foldl (· + ·) 0))
    let s := (s.put (Fld.DMC_STATUS_DIMMS c) good.length).put (Fld.DMC_STATUS_RANKS c) ((good.map (fun d => d.ranks * d.stack)).foldl (· + ·) 0)
    s.put (Fld.DMC_STATUS_STATE c) 1

/-- The one data rate of all channels (R259), as DMC_STATUS.RATE encodes it. -/
def rateCode (dimms : List Dimm) : Nat :=
  let two := dimms.any (fun d => dimms.any (fun e => e.chan = d.chan && e.slot != d.slot))
  let cap : Nat := (dimms.map (·.rate)).foldl min (if two then 5600 else 6400)
  if 6400 ≤ cap then 3 else if 5600 ≤ cap then 2 else if 5200 ≤ cap then 1 else 0

/-- The BODY of an identity memory whose MAGIC, FORMAT, TYPE and CRC are right (Table 17-4). -/
def idBody (typ : Nat) (m : Option (List Byte)) : Option (List Byte) :=
  match m with
  | some b =>
    if b.length = 64 && b.take 4 == [0x57, 0x49, 0x44, 0x4D] && leNat ((b.drop 4).take 2) = 1 && (b.getD 6 0).toNat = typ &&
        leNat (b.drop 60) = crc32 (b.take 60) then some ((b.drop 24).take 32)
    else none
  | none => none

/-- The bus clear before the first transaction on a segment and branch after a reset (R535, Table 17-3). -/
def State.busFirst (s : State) (seg branch : Nat) : State :=
  if s.mbus.used.contains (seg * 4 + branch) then s
  else (({ s with mbus := { s.mbus with used := (seg * 4 + branch) :: s.mbus.used } } : State)).count Reg.MBUS_BUS_CLEARS

/-- The survey goes over every branch of every segment that has not failed (R534, R536). -/
def State.surveyClears (s : State) : State :=
  [(0, 0), (0, 1), (0, 2), (0, 3), (1, 0), (1, 1), (2, 0), (3, 0)].foldl
    (fun s e => if 2 ≤ s.get (Fld.MBUS_ISEG_STATE e.1) then s else s.busFirst e.1 e.2) s

/-- The survey ends (R534): the hold-up module's constants are loaded unless the BMC has written them (R533). -/
def State.survey (s : State) (dimms : List Dimm) (carriers : List (Fin 16 × Option (List Byte))) (module_ cable : Option (List Byte)) : State :=
  let s := (List.range 16).foldl (fun s c => s.surveyChan dimms c) s
  let live := dimms.filter (fun d => s.dmcState d.chan.val == 1 || s.dmcState d.chan.val == 3)
  let s := (List.range 16).foldl (fun s c => if s.dmcState c == 1 || s.dmcState c == 3 then s.put (Fld.DMC_STATUS_RATE c) (rateCode live) else s) s
  let s := match idBody 2 module_ with
    | some b => if s.pw.humodSet then s
      else (s.setReg Reg.PWS_HUMOD0 (BitVec.ofNat 32 (leNat (b.take 4)))).setReg Reg.PWS_HUMOD1 (BitVec.ofNat 32 (leNat ((b.drop 4).take 4)))
    | none => s.record .mbusIdBad 0 [2]
  let s := match idBody 3 cable with
    | some _ => s
    | none => s.record .mbusIdBad 0 [3]
  let s := (List.range 16).foldl (fun s k => if s.railsBad 5 k then
      (s.put (Fld.FCH_STATUS_STATE (2 * k)) 5).put (Fld.FCH_STATUS_STATE (2 * k + 1)) 5 else s) s
  let n (b : Bool) : Nat := if b then 1 else 0
  let s := s.surveyClears
  let s : State := { s with mbus := { s.mbus with survey := false } }
  ((s.record .mbusSurveyDone 0 ([dimms.length, (carriers.filter (fun e => e.2.isSome)).length, n module_.isSome, n cable.isSome].map
    (BitVec.ofNat 8))).put Fld.CFL_BOOTINFO_STEP 7).t1Check

def execIdentitySurveyDone (dimms : List Dimm) (carriers : List (Fin 16 × Option (List Byte))) (module_ cable : Option (List Byte))
    (s : State) : Host.Outcome State Fault Refusal :=
  s.core (if s.mbus.survey && s.get Fld.CFL_BOOTINFO_STEP = 6 then s.survey dimms carriers module_ cable else s)

/-! ### Mount (R350 to R352, R383, R435, R480, R481) -/

/-- Blank carriers are formatted (R339, R480): spares are 2% of the good blocks of each channel, rounded up; with a root
key the metadata key is drawn, loaded and stored. -/
def State.format (s : State) : State :=
  let s := (List.range 32).foldl (fun s c =>
    if s.chanIn c then
      let good := s.goodBlocks c
      let n := (good.length * 2 + 99) / 100
      let s := s.markBlocks (good.drop (good.length - n)) .spare
      s.setReg (Reg.FCH_SPARE c) (BitVec.ofNat 32 (n + n * 65536))
    else s) s
  { s with flash := { s.flash with formatted := true } }

/-- The metadata key of a T2 to be formatted on a device with a root key (R480). -/
def State.makeMetaKey (s : State) : State :=
  let key := (List.range 4).map (fun i => leBytes 16 (Config.random128 (s.free + i)).toNat)
  let k : KeySlot := { key := key.flatten }
  let s : State := { s with free := s.free + 4 }
  let s := s.loadSlot metaSlot k
  { s with sealing := { s.sealing with blobs := kput s.sealing.blobs metaSlot k } }

/-- Journal entries that reached a page, or data pages that the superblock scan finds, take effect (R351). -/
def State.replay (s : State) : State :=
  let es := (s.flash.jpages.map (·.2)).flatten ++ s.flash.journal
  es.foldl State.commitEntry { s with flash := { s.flash with jpages := [], journal := [] } }

/-- Open superblocks are closed: what was not programmed is padded (R351). -/
def State.closeOpen (s : State) : State :=
  (s.flash.sbs.filter (fun (e : Nat × Sb) => e.2.st == .opened)).foldl (fun s (e : Nat × Sb) =>
    let x : Sb := { e.2 with st := .closed, next := List.replicate 32 e.2.pages, done := List.replicate 32 e.2.pages }
    (s.setSb e.1 x).markBlocks e.2.members .closed) s

/-- Erases begun and not done leave their blocks erase-incomplete (R350). -/
def State.eraseIncomplete (s : State) : State :=
  let bad := (s.flash.blocks.filter (fun (e : Nat × Blk) => e.2.st == .erasing)).map (·.1)
  if bad.isEmpty then s
  else ((s.markBlocks bad .eraseIncomplete).countBy Reg.FTL_ERASE_INCOMPLETE bad.length).record .ftlEraseIncomplete 0 (leBytes 4 bad.length)

/-- The stored configuration set is applied, every value at once (R511). -/
def State.applyStored (s : State) : State :=
  match s.boot.stored with
  | some set => ({ s with boot := { s.boot with configured := true } } : State).applyAll set
  | none => s

/-- The mount ends (R352): torn units are recorded, a checkpoint is written, start-up step 9 begins; a chip that does
not pair claims both tokens (R383). -/
def State.mounted (s : State) (torn ms : Nat) : State :=
  let warm := s.pw.inRestore
  let s := if s.flash.formatted then s else s.format
  let s := s.replay.closeOpen.eraseIncomplete
  let s := (List.range torn).foldl (fun s _ => s.record .ftlTornUnit) (s.countBy Reg.FTL_TORN torn)
  let s := ((s.ckptStart.ckptDone).put Fld.FTL_STATUS_MOUNTED 1).putB Fld.FTL_STATUS_WARM warm
  let s := (s.setReg Reg.FTL_MOUNT_MS (BitVec.ofNat 32 ms)).record .ftlMount 0 (leBytes 4 ms ++ [if warm then 1 else 0])
  let s : State := { s with pw := { s.pw with inRestore := false } }
  let s := (s.put Fld.CFL_BOOTINFO_STEP 9).applyStored
  let s : State := { s with twin := { s.twin with pairWait := s.twin.bids.isNone && s.on Fld.TWN_CTRL_EN } }
  let s := if s.on Fld.TWN_CTRL_EN then s else (s.claimToken 0 .alone).claimToken 1 .alone
  s.startup.spaceCheck

/-- MOUNT_DONE: the mount waits for slot 4,096 and for every key domain that a region names (R481). -/
def execMountDone (torn durationMs : Nat) (s : State) : Host.Outcome State Fault Refusal :=
  s.core (if s.get Fld.CFL_BOOTINFO_STEP != 8 || s.on Fld.FTL_STATUS_MOUNTED then s
    else
      let s := if !s.flash.formatted && s.sealing.root.isSome && (s.keySlot metaSlot).isNone then s.makeMetaKey else s
      if s.keysReady then s.mounted torn durationMs else s)

/-- Every 10 s of waiting for keys is recorded (R481). -/
def execKeysMissingTimer (s : State) : Host.Outcome State Fault Refusal :=
  s.core (if s.get Fld.CFL_BOOTINFO_STEP = 8 && !(s.on Fld.FTL_STATUS_MOUNTED) && !s.keysReady then s.record .xtsKeysMissing else s)

end Sys2Proof.Machine
end

