-- ==== Sys2Proof/Machine/Power.lean ====
section
/-! DEFINITION. Sys2Proof/Machine/Power.lean: the power supervisor: the rail sequence, running faults, the timed shutdown and
Quench, warm reset, buttons, VAON (R422 to R447, R460, R465 to R467, R600, R606, R607). -/

namespace Sys2Proof.Machine

/-! ### Rails (R423 to R430, Table 13-2) -/

/-- A rail channel. -/
def State.rail (s : State) (n : Nat) : Rail := s.pw.rails.getD n {}

def State.updRail (s : State) (n : Nat) (f : Rail → Rail) : State := { s with pw := { s.pw with rails := setAt 24 {} s.pw.rails n f } }

/-- RAILEN of a channel is driven. -/
def State.railEn (s : State) (n : Nat) (on : Bool) : State :=
  if (s.rail n).on == on then s else (s.updRail n (fun r => { r with on := on })).emit (.railEn n on)

/-- A rail is turned off: RAILEN deasserted, state OFF. -/
def State.railOff (s : State) (n : Nat) : State :=
  let s := (s.railEn n false).updRail n (fun r => { r with st := .off })
  (s.setRegBit Reg.PWS_RAILQ n false).setRegBit Reg.PWS_RAILPG n false

/-- Enabled rails of a phase. The rail of group 7 is switched by the hold-up test alone (log entry 48). -/
def State.phaseRails (s : State) (k : Nat) : List Nat :=
  (List.range 24).filter (fun n => s.on (Fld.PWS_RAIL_EN n) && s.get (Fld.PWS_RAIL_PHASE n) = k && s.get (Fld.PWS_RAIL_GROUP n) != 7)

/-- Rule by which the rails of a rail's phase qualify (R427). -/
def State.ruleOf (s : State) (n : Nat) : Nat := s.get (Fld.PWS_PHASE_RULE (s.get (Fld.PWS_RAIL_PHASE n)))

/-- An ACT 1 sense input is linked to the rail (R425). -/
def State.sensed (s : State) (n : Nat) : Bool :=
  (List.range 8).any (fun i => s.get (Fld.PWS_VSCTL_ACT i) = 1 && s.get (Fld.PWS_VSCTL_RAIL i) = n)

/-- QUALIFIED (Table 13-2). -/
def State.railQualify (s : State) (n : Nat) : State :=
  let s := (s.updRail n (fun r => { r with st := .qualified })).setRegBit Reg.PWS_RAILQ n true
  if s.ruleOf n = 0 then s.setRegBit Reg.PWS_RAILPG n true else s

/-- FAILED: RAILEN is deasserted unless KEEP_ON is set (Table 13-2). -/
def State.railFail (s : State) (n : Nat) : State :=
  let s := ((s.updRail n (fun r => { r with st := .failed })).setRegBit Reg.PWS_RAILSTAT n true).record .pwsRailFailRise 0 [BitVec.ofNat 8 n]
  if s.on (Fld.PWS_RAIL_KEEP_ON n) then s else s.railEn n false

/-! ### The stored table (R428) -/

/-- Registers of the sequence table. -/
def seqTable : List Nat :=
  Reg.PWS_SEQCTL :: ((List.range 8).map Reg.PWS_PHASE ++ (List.range 24).map Reg.PWS_RAIL ++
    (List.range 8).map Reg.PWS_VSCFG ++ (List.range 8).map Reg.PWS_VSCTL)

/-- The table in force, without the STORED bit. -/
def State.tableNow (s : State) : List (Nat × BitVec 32) :=
  seqTable.map (fun a => (a, if a = Reg.PWS_SEQCTL then s.reg a &&& 0xFFFFFBFF else s.reg a))

/-- Firmware stores a table that differs from the stored copy. -/
def State.storeTable (s : State) : State :=
  if s.groupBad 1 then s else { s with pw := { s.pw with table := some s.tableNow } }

/-- The loader reads the stored copy when VAON is first applied. -/
def State.loadTable (s : State) : State :=
  match s.pw.table with
  | some t => (t.foldl (fun s e => s.setReg e.1 e.2) s).putB Fld.PWS_SEQCTL_STORED true
  | none => s.record .pwsTableBad

/-! ### The sequence (R426) -/

/-- The last phase has completed: the boot ROM is released. -/
def State.seqDone (s : State) : State := ((s.put Fld.PWS_STATUS_SEQ 2).record .pwsSeqDone).storeTable.bootRom

/-- A phase completes when every rail of it is qualified or has failed. -/
def State.phaseCheck (s : State) : State :=
  let k := s.get Fld.PWS_STATUS_PHASE
  if s.pw.phaseRuns && (s.phaseRails k).all (fun n => (s.rail n).st != .qualifying) then
    let s : State := { s with pw := { s.pw with phaseRuns := false } }
    if s.get Fld.PWS_SEQCTL_LAST_PHASE ≤ k then s.seqDone else s
  else s

/-- A phase begins (Table 13-2, R427). -/
def State.beginPhase (s : State) (k : Nat) : State :=
  let s : State := { s.put Fld.PWS_STATUS_PHASE k with pw := { s.pw with phaseRuns := true } }
  let s := (s.phaseRails k).foldl (fun s n => (s.railEn n true).updRail n (fun r => { r with st := .qualifying, restarts := 0 })) s
  let s := (s.phaseRails k).foldl (fun s n => if s.ruleOf n = 1 && !(s.sensed n) then s.railQualify n else s) s
  s.phaseCheck

/-- The sequence starts, from OFF or from P3 (R429, R467); identity segments given up until the next cold start are tried
again (R536). -/
def State.startSeq (s : State) : State :=
  let s := ((s.put Fld.PWS_STATUS_SEQ 1).setReg Reg.PWS_RAILQ 0).setReg Reg.PWS_RAILSTAT 0
  let s := (List.range 4).foldl (fun s n => s.put (Fld.MBUS_ISEG_STATE n) 0) s
  ({ s with pw := { s.pw with afterShut := false }, mbus := { s.mbus with cycled := [], cycling := none } } : State).beginPhase 0

/-- Nothing holds the sequence back: XAON has settled, no trip cools down, no shutdown runs (R436, R460, R606). -/
def State.mayStart (s : State) : Bool :=
  s.get Fld.PWS_STATUS_SEQ = 0 && s.pw.xaon && !s.pw.tripped && s.pw.shut.isNone

/-- A cold start: the budget is 0 until the first hold-up test completes (R441). -/
def State.powerOn (s : State) : State :=
  if s.mayStart then
    (({ s with pw := { s.pw with huCold := true, huWaived := false, huBudget := 0 } } : State).setReg Reg.PWS_BUDGET 0).startSeq
  else s

/-! ### Shutdown (R432 to R435, Table 13-3) -/

/-- A domain fed by group g with MASK bit k has lost a rail (R434). -/
def State.railLost (s : State) (g k : Nat) : Bool := s.feeds g k (fun n => (s.rail n).st != .qualified)

/-- The chip core has lost a rail. -/
def State.coreLost (s : State) : Bool :=
  (List.range 24).any (fun n => s.on (Fld.PWS_RAIL_EN n) && s.get (Fld.PWS_RAIL_GROUP n) = 1 && (s.rail n).st != .qualified)

/-- Quench cannot copy a dirty frame: its DRAM channel or the carrier of its stripe position has no power (R434). -/
def State.outOfReach (s : State) (u : Nat) (f : Frame) : Bool :=
  let carrier := s.stripeChan (u % 32) / 2
  s.coreLost || s.railLost 3 f.chan || s.railLost 4 f.chan || s.railLost 5 carrier || s.railLost 6 carrier

/-- Dirty persistent units: T1 frames and units with a dirty line in T0. -/
def State.dirtyUnits (s : State) : List Nat :=
  let t1 := (s.tier.frames.filter (fun e => (e.2.dirty != 0 || e.2.copy.isSome) && !(s.volatileUnit e.1))).map (·.1)
  let t0 := (s.tier.lines.filter (fun e => e.2.dirty && !(s.volatileUnit (e.1 / 256)))).map (fun e => e.1 / 256)
  sortBy (fun a b => decide (a ≤ b)) (t1 ++ t0).eraseDups

/-- T0 step: dirty lines are written back (R70). -/
def State.quenchT0 (s : State) : State :=
  if s.coreLost then s else (s.tier.lines.map (·.1)).foldl State.cleanLine s

/-- One frame of the T1 step. -/
def State.quenchFrame (s : State) (u : Nat) : State :=
  match s.frame u with
  | some f =>
    if s.outOfReach u f then s
    else if f.dirty != 0 then (((s.commitUnit u).copyFrame true u).commitUnit u) else s.commitUnit u
  | none => s

/-- T1 step: dirty frames of both home sets are destaged (R70). -/
def State.quenchT1 (s : State) : State :=
  let us := s.dirtyUnits
  let s := us.foldl State.quenchFrame s
  { s with pw := { s.pw with shut := s.pw.shut.map (fun x => { x with bytes := x.bytes + us.length * unitBytes }) } }

/-- Map journal step: the journal buffer is programmed (R349). -/
def State.quenchJournal (s : State) : State :=
  if s.coreLost then s
  else
    let n := s.flash.journal.length
    let s := (List.range (n / 510 + 1)).foldl (fun s _ => s.journalPump true) s
    { s with pw := { s.pw with shut := s.pw.shut.map (fun x => { x with bytes := x.bytes + n * 32 }) } }

/-- Runs of consecutive units, as first unit and count. -/
def unitRuns : List Nat → List (Nat × Nat)
  | [] => []
  | u :: us => match unitRuns us with
    | (f, n) :: rest => if f = u + 1 then (u, n + 1) :: rest else (u, 1) :: (f, n) :: rest
    | [] => [(u, 1)]

/-- The two runs with the least gap between them become one. -/
def mergeClosest (rs : List (Nat × Nat)) : List (Nat × Nat) :=
  let gap (p : (Nat × Nat) × (Nat × Nat)) : Nat := p.2.1 - (p.1.1 + p.1.2)
  let pairs := rs.zip rs.tail
  match pairs with
  | [] => rs
  | p :: ps =>
    let best := ps.foldl (fun b q => if gap q < gap b then q else b) p
    (rs.filter (fun r => r != best.2)).map (fun r => if r = best.1 then (r.1, best.2.1 + best.2.2 - r.1) else r)

/-- At most 64 ranges: the closest are merged (R435). -/
def rangesOf (us : List Nat) : List (Nat × Nat) :=
  let rs := unitRuns us
  (List.range (rs.length - 64)).foldl (fun rs _ => mergeClosest rs) rs

/-- EV_PWS_PERSIST_INCOMPLETE: the ranges, two to a record (R435, log entry 49). -/
def State.incomplete (s : State) (rs : List (Nat × Nat)) : State :=
  if rs.isEmpty then s
  else
    let bytes (r : Nat × Nat) : List Byte := leBytes 8 (r.1 * unitBytes) ++ leBytes 8 (r.2 * unitBytes)
    let s := (List.range ((rs.length + 1) / 2)).foldl (fun s i => s.record .pwsPersistIncomplete 0 (((rs.drop (2 * i)).take 2).map bytes).flatten) s
    let s : State := { s with pw := { s.pw with lost := (rs.map (fun r => span r.1 r.2)).flatten } }
    s.put Fld.PWS_STATUS_INCOMPLETE 1

/-- Every unit of a persistent region that this chip holds, as one range (Table 18-3). -/
def State.heldRange (s : State) : List (Nat × Nat) :=
  let us := sortBy (fun a b => decide (a ≤ b)) (((s.flash.map.map (·.1)) ++ ((s.tier.frames.filter (fun e => !(s.volatileUnit e.1))).map (·.1))).eraseDups)
  match us.head?, us.getLast? with
  | some a, some b => [(a, b - a + 1)]
  | _, _ => []

/-- Stand records at the end of Quench (R380, R433). -/
def State.standAll (s : State) (complete : Bool) : State :=
  [0, 1].foldl (fun s h => if s.role h = 0 then s else s.standWrite h (s.home h).srRole complete) s

/-- The Amber step: what Quench left is recorded, every staged record is programmed, the counters and the stand records are
stored (R435, R542, R544, R546). -/
def State.quenchAmber (s : State) : State :=
  let lost := s.dirtyUnits
  let s := s.incomplete (rangesOf lost)
  let s := match s.pw.shut with
    | some x => s.record .pwsQuenchDone 0 (leBytes 8 (s.now - x.start) ++ leBytes 8 x.bytes)
    | none => s
  if s.coreLost then s
  else
    let s := s.ambFlushAll
    let s : State := { s with amb := { s.amb with stHours := s.stamp, stSeq := s.amb.nextSeq - 1, stOverflow := (s.reg Reg.AMB_OVERFLOW).toNat } }
    s.standAll lost.isEmpty

/-- Rails of a phase go off; a P3 entry keeps the rails with P3_KEEP (R465). -/
def State.phaseOff (s : State) (k : Nat) : State :=
  let p3 := s.pw.shut.any (fun x => x.cause = 6)
  ((s.phaseRails k).filter (fun n => !(p3 && s.on (Fld.PWS_RAIL_P3_KEEP n)))).foldl State.railOff s

/-- Every rail is off: the chip stays in the always-on domain (R436), or in P3 with the keys zeroed (R465, R471). -/
def State.offEnd (s : State) : State :=
  match s.pw.shut with
  | some x =>
    let old := s.get Fld.GOV_STATUS_PSTATE
    let due := s.gov.wakeDue
    let src := s.gov.wake
    let s : State := { s with pw := { s.pw with shut := none, phaseRuns := false } }
    let s := (s.coreReset false).put Fld.PWS_STATUS_PHASE 0
    if x.cause = 6 then
      let s : State := { s with sealing := { s.sealing with slots := [] }, gov := { s.gov with target := 3, wake := src, wakeDue := due } }
      ((s.put Fld.PWS_STATUS_SEQ 4).put Fld.GOV_STATUS_PSTATE old).put Fld.GOV_STATUS_ENTERING 1
    else
      ({ s with pw := { s.pw with afterShut := true, resetCause := 1, fromFreeze := false, inRestore := false, huCold := true, huBudget := 0 } } : State).put
        Fld.PWS_STATUS_SEQ 0
  | none => s

/-- The rails step begins with the highest phase (R426, Table 13-3 step 10). -/
def State.railsStep (s : State) (top : Nat) : State :=
  let s : State := { s with pw := { s.pw with shut := s.pw.shut.map (fun x => { x with step := .rails }), phaseRuns := false } }
  let s := (s.put Fld.PWS_STATUS_PHASE top).phaseOff top
  if top = 0 then s.offEnd else s

/-- Quench begins: erases stop, collection stops (R349). -/
def State.quenchBegin (s : State) : State :=
  { s with pw := { s.pw with shut := s.pw.shut.map (fun x => { x with step := .t0, start := s.now }) } }

/-- The test load is switched off and a hold-up test in progress is dropped (R437, R445). -/
def State.huAbort (s : State) : State :=
  if s.pw.hu.isSome then
    let s := (List.range 24).foldl (fun s n => if s.get (Fld.PWS_RAIL_GROUP n) = 7 then s.railEn n false else s) s
    ({ s with pw := { s.pw with hu := none } } : State).put Fld.PWS_STATUS_HU_TESTING 0
  else s

/-- The chip leaves P1 or P2 before a shutdown (R464). -/
def State.leaveIdle (s : State) : State :=
  let p := s.get Fld.GOV_STATUS_PSTATE
  if p = 1 || p = 2 then
    let s := (List.range 16).foldl (fun s c => if s.dmcState c == 3 then s.put (Fld.DMC_STATUS_STATE c) 2 else s) s
    let s := (s.put Fld.GOV_STATUS_PSTATE 0).put Fld.GOV_STATUS_EXITING 0
    s.record .govPstate 0 [BitVec.ofNat 8 p, 0, 0]
  else s

/-- A roll is abandoned (R569). -/
def State.dropRoll (s : State) : State := { s with cfg := { s.cfg with commit := none } }

/-- A shutdown begins with this LAST_CAUSE (R432, R443, R445, R465, Table 18-3). -/
def State.shutdown (s : State) (cause : Nat) (timed : Bool) : State :=
  let seq := s.get Fld.PWS_STATUS_SEQ
  let top := if seq = 1 then s.get Fld.PWS_STATUS_PHASE else s.get Fld.PWS_SEQCTL_LAST_PHASE
  let frozen := s.on Fld.DBG_STATUS_FROZEN
  let p3 := cause = 6
  let s := ((s.put Fld.PWS_STATUS_LAST_CAUSE cause).huAbort.dropRoll.sealRelease)
  let s := if p3 then s else s.leaveIdle
  let shut : Shutdown := { cause := cause, timed := timed, step := .handing, quench := seq = 2 && !s.pw.inRestore && !frozen, start := s.now }
  let s : State := { s with pw := { s.pw with shut := some shut } }
  let s := if seq = 4 then s else s.put Fld.PWS_STATUS_SEQ 3
  if shut.quench then
    let s := (s.stopHome 0).stopHome 1
    let next : HandNext := if p3 then .pstate else .powerFail
    let s := [0, 1].foldl (fun s h => (s.beginHandover h next).1) s
    if (s.home 0).handing || (s.home 1).handing then s else s.quenchBegin
  else
    let s := if frozen then (s.incomplete s.heldRange).ambFlushAll
      else if seq = 2 then (s.incomplete (rangesOf s.dirtyUnits)).ambFlushAll else s
    s.railsStep top

/-- A power-fail trigger (R431, R432): a second one only records its event (Table 19-1); one during an entry to P3 starts
Table 13-3; with every rail off there is nothing to turn off. -/
def State.pfTrigger (s : State) (cause : Nat) : State :=
  let s := (s.count Reg.PWS_WARNINGS).record .pwsPfw 0 [BitVec.ofNat 8 cause]
  match s.pw.shut with
  | some x => if x.cause = 6 then
      ({ s with pw := { s.pw with shut := some { x with cause := cause, timed := true } } } : State).put Fld.PWS_STATUS_LAST_CAUSE cause
    else s
  | none => if s.get Fld.PWS_STATUS_SEQ = 0 then s else s.shutdown cause true

/-- A step of Quench has ended (R70). -/
def State.quenchStep (s : State) : State :=
  let go (s : State) (st : ShutStep) : State := { s with pw := { s.pw with shut := s.pw.shut.map (fun x => { x with step := st }) } }
  match s.pw.shut with
  | some x => match x.step with
    | .t0 => go s.quenchT0 .t1
    | .t1 => go s.quenchT1 .journal
    | .journal => go s.quenchJournal .amber
    | .amber =>
      let s := if x.cause = 6 && s.on Fld.FTL_STATUS_MOUNTED && !s.coreLost then s.ckptStart.ckptDone else s
      (s.quenchAmber).railsStep (s.get Fld.PWS_SEQCTL_LAST_PHASE)
    | _ => s
  | none => s

def execQuenchStepDone (s : State) : Host.Outcome State Fault Refusal := .next s.quenchStep

/-- Step 8 of Table 13-3: a T0 or T1 step still running stops, and the map journal step follows; what step 4 has not handed
over stays here. -/
def execQuenchCutoff (s : State) : Host.Outcome State Fault Refusal :=
  .next (match s.pw.shut with
    | some x => if x.timed && (x.step = .handing || x.step = .t0 || x.step = .t1) then
        let s := [0, 1].foldl (fun s h => s.updHome h (fun y => { y with handing := false })) s
        { s with pw := { s.pw with shut := some { x with step := .journal } } }
      else s
    | none => s)

/-- OFF_DELAY has passed: the next lower phase goes off (Table 13-3 step 10). -/
def execRailOffDelay (s : State) : Host.Outcome State Fault Refusal :=
  .next (match s.pw.shut with
    | some x => if x.step = .rails then
        let k := s.get Fld.PWS_STATUS_PHASE
        let s := (s.put Fld.PWS_STATUS_PHASE (k - 1)).phaseOff (k - 1)
        if k ≤ 1 then s.offEnd else s
      else s
    | none => s)

/-- Every rail goes off at once (Table 13-3 step 11, R460). -/
def State.allOff (s : State) : State := (List.range 24).foldl State.railOff s

/-- DEADLINE: any rail still on goes off at once. What was not flushed is recorded (R435). -/
def execShutdownDeadline (s : State) : Host.Outcome State Fault Refusal :=
  .next (match s.pw.shut with
    | some x => if x.timed then
        let s := if x.step = .rails then s else s.incomplete (rangesOf s.dirtyUnits)
        s.allOff.offEnd
      else s
    | none => s)

/-! ### Triggers and sequence commands -/

/-- PFW_N held low for 0.5 µs (R431). -/
def execPfwNAsserted (s : State) : Host.Outcome State Fault Refusal := .next ((s.put Fld.PWS_STATUS_PFW_IN 1).pfTrigger 1)

/-- A FAULTED rail (R431, R434): power-fail, or isolation of a rail of group 0, 5 or 6 with FAULT_ACT 1. -/
def State.railFault (s : State) (n cause : Nat) : State :=
  let s := (s.updRail n (fun r => { r with st := .faulted })).setRegBit Reg.PWS_RAILQ n false
  let s := (s.setRegBit Reg.PWS_RAILFLT n true).record .pwsRailFault 0 [BitVec.ofNat 8 n]
  let g := s.get (Fld.PWS_RAIL_GROUP n)
  let isolates := s.on (Fld.PWS_RAIL_FAULT_ACT n) && (g = 0 || g = 5 || g = 6)
  if s.pw.shut.isSome then s
  else if cause = 2 && isolates then
    let s := s.railEn n false
    if g = 0 then s
    else (List.range 32).foldl (fun s c => if (s.get (Fld.PWS_RAIL_MASK n)).testBit (c / 2) then s.retireFch c else s) s
  else s.pfTrigger cause

/-- RAILPG low for 96 samples; RULE SENSE ignores RAILPG (R427, R429). -/
def execRailpgLow (rail : Fin 24) (s : State) : Host.Outcome State Fault Refusal :=
  .next (if (s.rail rail.val).st = .qualified && s.ruleOf rail.val != 1 then
    (s.setRegBit Reg.PWS_RAILPG rail.val false).railFault rail.val 2 else s)

/-- A sense input out of window (R425, R431). -/
def execVsenseOutOfWindow (input : Fin 8) (code : BitVec 12) (s : State) : Host.Outcome State Fault Refusal :=
  let i := input.val
  let act := s.get (Fld.PWS_VSCTL_ACT i)
  .next (if act = 0 || act = 3 || (s.get (Fld.PWS_VSCFG_LOW i) ≤ code.toNat && code.toNat ≤ s.get (Fld.PWS_VSCFG_HIGH i)) then s
    else
      let s := s.setReg (Reg.PWS_VSVAL i) (BitVec.ofNat 32 code.toNat)
      if act = 2 then s.record .pwsSenseFault 0 [BitVec.ofNat 8 i]
      else
        let n := s.get (Fld.PWS_VSCTL_RAIL i)
        if n < 24 && (s.rail n).st = .qualified then s.railFault n 3 else s)

/-- A phase begins ON_DELAY after the one before it completed (R426). -/
def execPhaseBegin (s : State) : Host.Outcome State Fault Refusal :=
  .next (if s.get Fld.PWS_STATUS_SEQ = 1 && !s.pw.phaseRuns then s.beginPhase (s.get Fld.PWS_STATUS_PHASE + 1) else s)

/-- The rule of R427 has held for TQUAL; RULE TIME qualifies by the timeout alone. -/
def execRailTqualMet (rail : Fin 24) (s : State) : Host.Outcome State Fault Refusal :=
  .next (if (s.rail rail.val).st = .qualifying && s.ruleOf rail.val != 2 then (s.railQualify rail.val).phaseCheck else s)

/-- TIMEOUT of the phase: its rails qualify under RULE TIME, and fail otherwise (R427, R429). With no phase under way it is
that of a rail cycled for an identity segment (R536). -/
def execRailPhaseTimeout (s : State) : Host.Outcome State Fault Refusal :=
  .next (if s.pw.phaseRuns then
    ((s.phaseRails (s.get Fld.PWS_STATUS_PHASE)).foldl (fun s n =>
      if (s.rail n).st = .qualifying then (if s.ruleOf n = 2 then s.railQualify n else s.railFail n) else s) s).phaseCheck
    else if s.get Fld.PWS_STATUS_SEQ = 1 then s
    else (List.range 24).foldl (fun s n =>
      if (s.rail n).st = .qualifying then (if s.ruleOf n = 2 then s.railQualify n else s.railFail n) else s) s)

/-- A sample breaks the rule of a QUALIFYING rail: restart, failed at a count of 16 (Table 13-2). -/
def execQualificationRestart (rail : Fin 24) (s : State) : Host.Outcome State Fault Refusal :=
  .next (let r := s.rail rail.val
    if r.st = .qualifying && s.ruleOf rail.val != 2 then
      let s := (s.updRail rail.val (fun r => { r with restarts := r.restarts + 1 })).count Reg.PWS_QUAL_RESTART
      if 16 ≤ r.restarts + 1 then (s.railFail rail.val).phaseCheck else s
    else s)

/-- PG of a qualified rail drops for fewer than 96 samples: ignored and counted (Table 13-2). -/
def execPgGlitch (rail : Fin 24) (s : State) : Host.Outcome State Fault Refusal :=
  .next (if (s.rail rail.val).st = .qualified then s.count Reg.PWS_PG_GLITCH else s)

/-- PWS_CMD POWER_ON that starts the sequence from OFF counts in PCYCLE (R436, R542). -/
def State.cmdPowerOn (s : State) : State :=
  if s.mayStart then
    let n := min (s.amb.pcycle + 1) 0xFFFFFF
    ({ s with amb := { s.amb with pcycle := n, stPcycle := n } } : State).powerOn
  else s

def execPowerOn (s : State) : Host.Outcome State Fault Refusal := .next s.cmdPowerOn

/-- ORDERLY_OFF (R443); ignored while a shutdown runs, under FREEZE and in P3 (R445, Table 18-3). -/
def State.orderlyOff (s : State) : State :=
  if s.pw.shut.isSome || s.still || s.get Fld.PWS_STATUS_SEQ = 0 then s else s.shutdown 5 false

def execOrderlyOff (s : State) : Host.Outcome State Fault Refusal := .next s.orderlyOff

/-- PFW_N has been high for 2 s after a shutdown (R436). -/
def execPfwRestartTimer (s : State) : Host.Outcome State Fault Refusal :=
  .next (let s := s.put Fld.PWS_STATUS_PFW_IN 0
    if s.pw.afterShut && s.on Fld.PWS_SEQCTL_RESTART then s.powerOn else s)

/-! ### Warm reset (R444, R510, R592) -/

/-- The chip is reset warm: tokens released, T0 cleaned, refresh debt paid, DRAM in self-refresh, every domain but the
always-on domain reset. Under FREEZE the first steps have been taken and T0 is lost (R255, Table 18-3). -/
def State.warmDown (s : State) (cause : Nat) (hold : Bool) : State :=
  let frozen := s.on Fld.DBG_STATUS_FROZEN
  let s := (s.dropTokens.huAbort.stopHome 0).stopHome 1
  let s := if frozen then s
    else
      let s := (s.tier.lines.map (·.1)).foldl State.cleanLine s
      (List.range 16).foldl State.payDebt s
  let s := s.coreReset true
  { s with pw := { s.pw with resetCause := cause, fromFreeze := frozen, mrLow := hold, inRestore := true } }

/-- A reset ends: SIDE_A is sampled, start-up resumes at step 3 (R357, R444). -/
def State.warmUp (s : State) : State :=
  let s : State := { s with pw := { s.pw with mrLow := false } }
  let s := s.putB Fld.TWN_STATUS_SIDE_A s.mbus.sideA
  let s := s.setReg Reg.GLB_RSTCOUNT (BitVec.ofNat 32 (min ((s.reg Reg.GLB_RSTCOUNT).toNat + 1) 0xFFFF))
  (s.record .pwsWarmReset 0 [BitVec.ofNat 8 s.pw.resetCause]).bootRom

/-- A warm reset that no pin holds. -/
def State.warmReset (s : State) (cause : Nat) : State := (s.warmDown cause false).warmUp

/-- MR_N held low for 100 µs; ignored while a shutdown runs (R444, R445). -/
def execMrNAsserted (s : State) : Host.Outcome State Fault Refusal :=
  .next (if s.pw.shut.isNone && s.get Fld.PWS_STATUS_SEQ = 2 && !s.pw.mrLow then s.warmDown 2 true else s)

def execMrNReleased (sideA : Bool) (s : State) : Host.Outcome State Fault Refusal :=
  .next (if s.pw.mrLow then ({ s with mbus := { s.mbus with sideA := sideA } } : State).warmUp else s)

/-- A fatal fault of the supervisor cluster, or an uncorrectable word fetched from the running slot at an address (R510). -/
def execSupervisorFatalFault (fetch : Option (BitVec 25)) (s : State) : Host.Outcome State Fault Refusal :=
  .next (if s.pw.shut.isSome || s.still || s.get Fld.PWS_STATUS_SEQ != 2 then s
    else match fetch with
      | some a => ((s.count Reg.CFL_UNCORR).record .cflUncorr 0 (leBytes 4 a.toNat)).warmReset 4
      | none => s.warmReset 3)

/-! ### VAON (R422, R542, R543, R589, R600, R606, R607) -/

/-- What stays without VAON: T2, code flash with the Amber and configuration areas, and fuses. -/
def State.vaonLost (s : State) : State :=
  let s := s.coreReset false
  { s with regs := [], amb := { area := s.amb.area, stHours := s.amb.stHours, stSeq := s.amb.stSeq, stPcycle := s.amb.stPcycle, stOverflow := s.amb.stOverflow, stClearing := s.amb.stClearing },
           pw := { table := s.pw.table, lost := s.pw.lost }, sealing := { s.sealing with slots := [] },
           dram := { chans := (s.dram.chans.map (fun x => { remap := x.remap })) }, mbus := {} }

/-- VAON falls below 1.50 V: every RAILEN is driven low (R600). -/
def execVaonLoss (s : State) : Host.Outcome State Fault Refusal := .next s.allOff.vaonLost

/-- Amber resumes: hours, SEQ and the counters stored with the configuration; a clear that was interrupted is completed
(R542, R543, R546, R553). -/
def State.ambResume (s : State) : State :=
  let recs := s.amb.area.filterMap (fun x => match x with
    | .rec_ r => some r
    | .bad => none)
  let n := min (s.amb.stPcycle + 1) 0xFFFFFF
  let s : State := { s with amb := { s.amb with
    hours := recs.foldl (fun m r => max m r.stamp) s.amb.stHours, hoursAt := s.now,
    nextSeq := recs.foldl (fun m r => max m r.seq) s.amb.stSeq + 1, pcycle := n, stPcycle := n, full := decide (areaSlots ≤ s.amb.area.length) } }
  let s := s.setReg Reg.AMB_OVERFLOW (BitVec.ofNat 32 s.amb.stOverflow)
  if s.amb.stClearing then s.ambCleared else s

/-- VAON is first applied (Table 21-7): power-on reset, straps, Amber, the sequence table. -/
def execVaonApplied (sideA : Bool) (madr : BitVec 3) (s : State) : Host.Outcome State Fault Refusal :=
  .next (let s := s.allOff.vaonLost
    let s : State := { s with mbus := { madr := madr, sideA := sideA }, pw := { s.pw with resetCause := 0 } }
    let s := (s.putB Fld.TWN_STATUS_SIDE_A sideA).ambResume
    let s := s.putB Fld.PWS_STATUS_INCOMPLETE (!s.pw.lost.isEmpty)
    s.loadTable)

/-- XAON has oscillated for 100 ms: the sequence starts if a stored table says so (R428, R606). -/
def execXaonSettled (s : State) : Host.Outcome State Fault Refusal :=
  .next (let s : State := { s with pw := { s.pw with xaon := true } }
    if s.on Fld.PWS_SEQCTL_STORED && s.on Fld.PWS_SEQCTL_AUTO_ON && !s.pw.afterShut then s.powerOn else s)

/-! ### Leaving P3, buttons (R442, R466, R467) -/

/-- A wake event in P3 starts the rail sequence (Table 14-6); one during the entry is acted on when the entry ends. -/
def State.wakeP3 (s : State) (src : Nat) : State :=
  if s.get Fld.PWS_STATUS_SEQ = 4 && s.get Fld.GOV_STATUS_PSTATE = 3 && s.pw.shut.isNone then
    let s := ((s.setReg Reg.GOV_WAKESRC (BitVec.ofNat 32 src)).count Reg.GOV_WAKES).put Fld.GOV_STATUS_EXITING 1
    let s := s.setReg Reg.GLB_RSTCOUNT (BitVec.ofNat 32 (min ((s.reg Reg.GLB_RSTCOUNT).toNat + 1) 0xFFFF))
    ({ s with pw := { s.pw with resetCause := 7, fromFreeze := false }, gov := { s.gov with wake := src } } : State).startSeq
  else if s.on Fld.GOV_STATUS_ENTERING then { s with gov := { s.gov with wakeDue := true, wake := src } }
  else s

/-- A short press (R442): ignored while a shutdown runs and under FREEZE. -/
def execPwrbtnShort (s : State) : Host.Outcome State Fault Refusal :=
  .next (if s.pw.shut.any (fun x => x.cause != 6) || s.on Fld.DBG_STATUS_FROZEN then s
    else
      let s := s.record .pwsBtnShort
      if s.get Fld.PWS_STATUS_SEQ = 0 then s.powerOn
      else if s.get Fld.PWS_STATUS_SEQ = 4 || s.pw.shut.isSome then s.wakeP3 8
      else if s.on Fld.PWS_BTN_SHORT_ACT then s.orderlyOff else s)

/-- A press held for LONG_S (R442). -/
def execPwrbtnLong (s : State) : Host.Outcome State Fault Refusal :=
  .next (if s.pw.shut.any (fun x => x.cause != 6) || s.on Fld.DBG_STATUS_FROZEN then s
    else
      let s := s.record .pwsBtnLong
      if s.get Fld.PWS_STATUS_SEQ = 0 then s
      else if s.pw.shut.isSome then
        ({ s with pw := { s.pw with shut := s.pw.shut.map (fun x => { x with cause := 4, timed := true }) } } : State).put Fld.PWS_STATUS_LAST_CAUSE 4
      else s.shutdown 4 true)

end Sys2Proof.Machine
end

