-- ==== Sys2Proof/Machine/HoldUp.lean ====
section
/-! DEFINITION. Sys2Proof/Machine/HoldUp.lean: the hold-up test, the energy arithmetic and the dirty budget in force (R437 to
R441). Voltages are in mV, I_T in mA, times in ms; a quotient is exact until it is rounded down into its register (log
entry 50). -/

namespace Sys2Proof.Machine

/-! ### Arithmetic (R437, R438) -/

/-- A quotient; one whose divisor is 0 has no result in the spec, and the model takes a free value. -/
def quot (n d : Nat) : Nat := if d = 0 then Config.holdupByZero n else n / d

/-- V_ME in mV: V_MIN + ESR × P_QUENCH ÷ V_MIN, with ESR in µΩ. -/
def State.vMe (s : State) (esr : Nat) : Nat :=
  let vmin := s.get Fld.PWS_HUMOD0_V_MIN
  vmin + quot (esr * s.get Fld.PWS_HUMOD1_P_QUENCH) vmin

/-- E in 0.1 J as a fraction, for C as charge in µC over voltage in mV. -/
def State.energy (s : State) (c : Nat × Nat) (esr v : Nat) : Nat × Nat :=
  let me := s.vMe esr
  (c.1 * (v * v - me * me), 200000000 * c.2)

/-- A fraction rounded down. -/
def frac (e : Nat × Nat) : Nat := quot e.1 e.2

/-- B in MiB, 0 to 65,536 (R438). -/
def State.budgetOf (s : State) (e : Nat × Nat) : Nat :=
  let k := s.get Fld.PWS_HUK_FIXED_J * 1000 * e.2
  min 65536 (quot ((e.1 * s.get Fld.PWS_HUK_DERATE - k) * 1024) (10 * s.get Fld.PWS_HUK_J_PER_GIB * e.2))

/-- TEST_J in 0.1 J for a module voltage (R437). -/
def State.testJ (s : State) (v0 : Nat) : Nat :=
  s.get Fld.PWS_HUMOD0_I_T * v0 * (s.get Fld.PWS_HUMOD1_T_TEST + 1) / 100000000

/-- A register of 20 bits. -/
def State.put20 (s : State) (a v : Nat) : State := s.setReg a (BitVec.ofNat 32 (min v 0xFFFFF))

/-! ### The budget in force (R438, R439) -/

/-- The budget in force changes: HOLDUP of the health word, EV_PWS_HU_LOW when it falls below LOW_GIB, and the writes and
the pause that depend on it (R437, R439, R454, R455). -/
def State.setBudget (s : State) (b : Nat) : State :=
  let low := s.get Fld.PWS_HUCFG_LOW_GIB * 1024
  let falls := b < low && low ≤ (s.reg Reg.PWS_BUDGET).toNat
  let s := (s.setReg Reg.PWS_BUDGET (BitVec.ofNat 32 b)).setRegBit Reg.TWN_HEALTH 5 (decide (b < 65536))
  let s := if falls then s.record .pwsHuLow 0 (leBytes 4 b) else s
  (s.placeLate (s.twin.late.length + 1)).settle

/-- The smaller of B and the budget from E_NOW takes force. -/
def State.budgetNow (s : State) : State :=
  let e := s.energy s.pw.huC s.pw.huEsr s.pw.huNow
  if s.on Fld.PWS_STATUS_HU_VALID && !s.pw.huCold then
    (s.put20 Reg.PWS_HU_ENOW (frac e)).setBudget (min s.pw.huBudget (s.budgetOf e))
  else s

/-- Every 1 ms (R438). -/
def execEnowTimer (mv : Nat) (s : State) : Host.Outcome State Fault Refusal :=
  .next (({ s with pw := { s.pw with huNow := mv } } : State).budgetNow)

/-! ### The test (R437, R440, R441) -/

/-- The one enabled rail of group 7 (R440). -/
def State.testRail (s : State) : Option Nat :=
  match (List.range 24).filter (fun n => s.on (Fld.PWS_RAIL_EN n) && s.get (Fld.PWS_RAIL_GROUP n) = 7) with
  | [n] => some n
  | _ => none

/-- A test begins: the budget is lowered to that of PWS_HU_E less TEST_J, and the test waits until the dirty data fits. -/
def State.huStart (s : State) : State :=
  if s.testRail.isNone || s.pw.hu.isSome || s.pw.shut.isSome || s.still || s.get Fld.PWS_STATUS_SEQ != 2 then s
  else
    let s : State := { s.put Fld.PWS_STATUS_HU_TESTING 1 with pw := { s.pw with hu := some {} } }
    let b := s.budgetOf ((s.reg Reg.PWS_HU_E).toNat - s.testJ s.pw.huNow, 1)
    let s : State := { s with pw := { s.pw with huBudget := min s.pw.huBudget b } }
    if s.on Fld.PWS_STATUS_HU_VALID && !s.pw.huCold then s.setBudget (min (s.reg Reg.PWS_BUDGET).toNat b) else s

def execHuTest (s : State) : Host.Outcome State Fault Refusal := .next s.huStart

/-- PERIOD hours have passed; 0 means no periodic test. -/
def execHuTestPeriod (s : State) : Host.Outcome State Fault Refusal := .next (if s.get Fld.PWS_HUCFG_PERIOD = 0 then s else s.huStart)

/-- At a cold start the module voltage has settled (R441). -/
def execHuVoltageStable (mv : Nat) (s : State) : Host.Outcome State Fault Refusal :=
  .next (let s : State := { s with pw := { s.pw with huNow := mv } }
    if s.pw.huCold then s.huStart else s)

/-- The dirty data fits: V0 is the mean of 16 samples, and the load is switched on. -/
def execHuBudgetFits (v0 : Nat) (s : State) : Host.Outcome State Fault Refusal :=
  .next (match s.pw.hu, s.testRail with
    | some x, some n =>
      if x.step = 0 && s.budgetFits 0 then
        ({ s with pw := { s.pw with hu := some { x with step := 1, v0 := v0 } } } : State).railEn n true
      else s
    | _, _ => s)

/-- A sample point: V1, Va, or Vb, after which the load is off and ESR and C are known. -/
def execHuSampleTimer (mv : Nat) (s : State) : Host.Outcome State Fault Refusal :=
  .next (match s.pw.hu, s.testRail with
    | some x, some n =>
      if x.step = 1 then { s with pw := { s.pw with hu := some { x with step := 2, v1 := mv } } }
      else if x.step = 2 then { s with pw := { s.pw with hu := some { x with step := 3, va := mv } } }
      else if x.step = 3 then
        let it := s.get Fld.PWS_HUMOD0_I_T
        let esr := quot ((x.v0 - x.v1) * 1000000) it
        ({ s with pw := { s.pw with hu := some { x with step := 4 }, huEsr := esr, huC := (it * s.get Fld.PWS_HUMOD1_T_TEST, x.va - mv) } } : State).railEn n false
      else s
    | _, _ => s)

/-- The module voltage is back within 0.1% of V0: the test completes and the budget of R438 takes force. -/
def execHuRecovered (mv : Nat) (s : State) : Host.Outcome State Fault Refusal :=
  .next (match s.pw.hu with
    | some x =>
      if x.step = 4 && decide (x.v0 * 999 ≤ mv * 1000) && decide (mv * 1000 ≤ x.v0 * 1001) then
        let e := s.energy s.pw.huC s.pw.huEsr x.v0
        let c := frac s.pw.huC
        let s := ((s.put20 Reg.PWS_HU_C c).put20 Reg.PWS_HU_ESR s.pw.huEsr).put20 Reg.PWS_HU_E (frac e)
        let s := ((s.put Fld.PWS_STATUS_HU_TESTING 0).put Fld.PWS_STATUS_HU_VALID 1).count Reg.PWS_HU_TESTS
        let s := s.record .pwsHuTest 0 (leBytes 4 c ++ leBytes 4 s.pw.huEsr ++ leBytes 4 (frac e))
        let s : State := { s with pw := { s.pw with hu := none, huCold := false, huBudget := s.budgetOf e, huNow := mv, huAt := s.stamp / 4096 } }
        s.budgetNow.startup
      else s
    | none => s)

/-- Step 9 has waited 120 s: it goes on with a budget of 0 (R441). -/
def execHuWaitLimit (s : State) : Host.Outcome State Fault Refusal :=
  .next (if s.pw.huCold && !s.pw.huWaived && s.get Fld.CFL_BOOTINFO_STEP = 9 then
    (({ s with pw := { s.pw with huWaived := true } } : State).record .pwsHuLow 0 (leBytes 4 0)).startup else s)

end Sys2Proof.Machine
end

