-- ==== Sys2Proof/Machine/Governor.lean ====
section
/-! DEFINITION. Sys2Proof/Machine/Governor.lean: the governor: admission, power cap, thermal steps and trip, power states,
domain gating (R71, R72, R193, R448 to R467). -/

namespace Sys2Proof.Machine

/-! ### Admission (R450 to R455, Table 14-1) -/

/-- The dirty fraction is at or above 50%. -/
def State.halfDirty (s : State) : Bool := decide (s.budget ≤ 2 * s.dirtyBytes)

/-- A class is forced (Table 14-1, R455). -/
def State.forced (s : State) (c : Nat) : Bool :=
  match c with
  | 0 => s.halfDirty || s.on Fld.GOV_STATUS_DIRTY_PAUSE
  | 1 => decide (s.freeSbs ≤ s.reserveSb + 2)
  | 6 => true
  | _ => false

/-- The thermal step, 0 to 4. -/
def State.tstep (s : State) : Nat := s.get Fld.GOV_STATUS_TSTEP

/-- A thermal step refuses a class (Table 14-1, Table 14-2). -/
def State.heatRefuses (s : State) (c : Nat) : Bool :=
  match c with
  | 2 | 3 => decide (1 ≤ s.tstep)
  | 0 | 1 | 7 => decide (2 ≤ s.tstep)
  | 4 => decide (3 ≤ s.tstep)
  | _ => false

/-- Admission state of a class: forced goes before refused, refused before limited (R450, R452). -/
def State.admission (s : State) (c : Nat) : Nat :=
  if s.forced c then 3
  else if s.gov.steps.contains c || s.heatRefuses c then 2
  else if (c = 4 || c = 5) && 1 ≤ s.tstep then 1
  else 0

/-- Core clock: the slowest of what the cap, the thermal step and the power state ask (R451, Tables 14-2 and 14-4). -/
def State.coreClock (s : State) : Nat :=
  let cap := if s.gov.steps.contains 9 then 2 else if s.gov.steps.contains 8 then 1 else 0
  let heat := if 3 ≤ s.tstep then 2 else if 2 ≤ s.tstep then 1 else 0
  max (max cap heat) (if s.get Fld.GOV_STATUS_PSTATE = 0 then 0 else 2)

/-- The governor's decisions take effect: admission, clock, refresh hold (R448, R453). -/
def State.govApply (s : State) : State :=
  let adm := (List.range 8).foldl (fun n c => n + s.admission c * 4 ^ c) 0
  let hold := s.admission 7 = 2
  let s := ((s.setReg Reg.GOV_ADMIT (BitVec.ofNat 32 adm)).put Fld.GOV_STATUS_CORE_CLK s.coreClock).putB
    Fld.GOV_STATUS_OVER_CAP (s.gov.steps.contains 10)
  (List.range 16).foldl (fun s c => s.putB (Fld.DMC_REFCTL_GOV_HOLD c) (hold || s.gov.burst.contains c)) s

/-- The power cap in W; values below 40 read as 40. -/
def State.pcap (s : State) : Nat := max 40 ((s.reg Reg.GOV_PCAP).toNat % 1024)

/-- The next step that the cap takes (R451): a class by its refusal order, then the clock, then OVER_CAP. -/
def State.capNext (s : State) : Nat :=
  let free (c : Nat) : Bool := !(s.gov.steps.contains c) && !(s.forced c) && !(s.heatRefuses c)
  match [3, 2, 4, 5, 1, 7, 0].find? free with
  | some c => c
  | none => if !(s.gov.steps.contains 8) then 8 else if !(s.gov.steps.contains 9) then 9 else 10

/-- The power cap in one period (R451). -/
def State.capPeriod (s : State) (pest : Nat) : State :=
  let s := if s.pcap < pest then s.count Reg.GOV_CAP_PERIODS else s
  if decide (s.pcap < pest) && s.on Fld.GOV_CTRL_CAP_EN then
    let n := s.capNext
    let s : State := { s with gov := { s.gov with calm := 0, steps := if s.gov.steps.contains n then s.gov.steps else n :: s.gov.steps } }
    if n = 10 then s.record .govCapExceeded 0 (leBytes 2 pest) 0 (some (0, 60000000)) else s
  else if pest < s.pcap - 5 then
    let calm := s.gov.calm + 1
    { s with gov := { s.gov with calm := min calm 10, steps := if 10 ≤ calm then s.gov.steps.drop 1 else s.gov.steps } }
  else { s with gov := { s.gov with calm := 0 } }

/-! ### Thermal steps (R459, R460, Table 14-2) -/

/-- Entry temperature of a step. -/
def stepEntry (n : Nat) : Int := if n = 1 then 110 else if n = 2 then 115 else if n = 3 then 120 else 123

/-- The least step that the sensors allow (R458). -/
def State.stepFloor (s : State) : Nat := if 12 < s.gov.bad.length then 2 else 0

/-- The thermal step changes. -/
def State.setStep (s : State) (n : Nat) : State :=
  let old := s.tstep
  if n = old then s
  else
    let s := (s.put Fld.GOV_STATUS_TSTEP n).record .govThermalStep 0 [BitVec.ofNat 8 old, BitVec.ofNat 8 n]
    let s : State := { s with gov := { s.gov with cool := 0 } }
    (if old < n then s.countBy Reg.GOV_TSTEPS 1 else s).govApply

/-- The step rises as soon as TJ reaches an entry temperature. -/
def State.raiseStep (s : State) : State :=
  let top := ([1, 2, 3, 4].filter (fun n => decide (stepEntry n ≤ s.gov.tj))).foldl max s.stepFloor
  if s.tstep < top then s.setStep top else s

/-- The step falls by one after 10 ms below its entry temperature less 5 °C. -/
def State.coolPeriod (s : State) : State :=
  let n := s.tstep
  if n = 0 then s
  else if s.gov.tj < stepEntry n - 5 then
    let c := s.gov.cool + 1
    if 100 ≤ c then (if s.stepFloor < n then s.setStep (n - 1) else s) else { s with gov := { s.gov with cool := c } }
  else { s with gov := { s.gov with cool := 0 } }

/-- The governor runs in P0 and P1: its cores have power and clock (R448, Table 14-4). -/
def State.governs (s : State) : Bool :=
  s.get Fld.PWS_STATUS_SEQ = 2 && s.boot.released && !s.still && decide (s.get Fld.GOV_STATUS_PSTATE ≤ 1)

/-- Step 4: every lossless class is paused for the first 50 µs of the period (Table 14-2). -/
def State.heatPause (s : State) : State :=
  if s.tstep = 4 then (s.setPauseAll (fun x => { x with xoffListen := true })).setPauseAll (fun x => { x with xoffListen := false }) else s

/-- One period of 100 µs (R448): the power estimate, and the load of each DRAM channel in percent of its peak. -/
def State.govPeriod (s : State) (pest : Nat) (loads : List (Fin 16 × Nat)) : State :=
  let s := s.setReg Reg.GOV_PEST (BitVec.ofNat 32 (min pest 1023))
  let on := s.on Fld.GOV_CTRL_BURST_HOLD
  let burst := loads.foldl (fun (b : List Nat) l =>
    if 50 < l.2 then l.1.val :: b.filter (· != l.1.val) else if l.2 < 25 then b.filter (· != l.1.val) else b) s.gov.burst
  let s : State := { s with gov := { s.gov with burst := if on then burst else [] } }
  let s := (s.dirtyPause.coolPeriod).capPeriod pest
  let s := if s.on Fld.GOV_STATUS_DIRTY_PAUSE then s.countBy Reg.GOV_PAUSE_US 100 else s
  s.heatPause.govApply

def execGovernorPeriod (pest : Nat) (loads : List (Fin 16 × Nat)) (s : State) : Host.Outcome State Fault Refusal :=
  .next (if s.governs then s.govPeriod pest loads else s)

/-! ### Sensors and trip (R458, R460) -/

/-- Sum of the two middle readings of 24: twice the median. -/
def median2 (ts : List Int) : Int :=
  let sorted := sortBy (fun a b => decide (a ≤ b)) ts
  sorted.getD 11 0 + sorted.getD 12 0

/-- A reading is valid. -/
def tempValid (m2 t : Int) : Bool :=
  decide (-50 ≤ t) && decide (t ≤ 150) && decide (2 * t - m2 ≤ 60) && decide (m2 - 2 * t ≤ 60)

/-- The sensors are read; invalid ones are left out until reset. Without a valid sensor TJ is a free value. -/
def State.readTemps (s : State) (ts : List Int) : State :=
  let m2 := median2 ts
  let new := (List.range 24).filter (fun i => !(s.gov.bad.contains i) && !(tempValid m2 (ts.getD i 0)))
  let s : State := { s with gov := { s.gov with temps := ts, bad := s.gov.bad ++ new } }
  let s := new.foldl (fun s i => s.record .govSensorFail (unitChan i) [BitVec.ofNat 8 i]) s
  let good := ((List.range 24).filter (fun i => !(s.gov.bad.contains i))).map (fun i => ts.getD i 0)
  match good with
  | t :: rest => { s with gov := { s.gov with tj := rest.foldl max t } }
  | [] => let r := s.draw
    { r.2 with gov := { r.2.gov with tj := Config.noTj r.1 } }

/-- 140 °C: every rail goes off at once, and what is dirty is lost (R435, R460). -/
def State.meltdown (s : State) : State :=
  if s.get Fld.PWS_STATUS_SEQ = 0 then { s with pw := { s.pw with tripped := true } }
  else
    let s := (s.incomplete (rangesOf s.dirtyUnits)).put Fld.PWS_STATUS_LAST_CAUSE 7
    let s : State := { s with pw := { s.pw with tripped := true, shut := some { cause := 7, timed := true, step := .rails } } }
    s.allOff.offEnd

/-- Two samples of 125 °C: the trip starts the timed shutdown (R460). -/
def State.trip (s : State) : State :=
  if s.pw.tripped then s
  else
    let s := ({ s with pw := { s.pw with tripped := true } } : State).record .govThermalTrip 0 [BitVec.ofInt 8 s.gov.tj]
    match s.pw.shut with
    | some x => if x.cause = 6 then
        ({ s with pw := { s.pw with shut := some { x with cause := 7, timed := true } } } : State).put Fld.PWS_STATUS_LAST_CAUSE 7
      else s
    | none => if s.get Fld.PWS_STATUS_SEQ = 0 then s else s.shutdown 7 true

/-- A sample of the 24 sensors in °C. -/
def execThermalSample (temps : List Int) (s : State) : Host.Outcome State Fault Refusal :=
  if temps.length ≠ 24 then .refused (.illFormed "THERMAL_SAMPLE: 24 readings")
  else
    .next (let s := s.readTemps temps
      let hot := decide (125 ≤ s.gov.tj)
      let two := hot && s.pw.hotBefore
      let s : State := { s with pw := { s.pw with hotBefore := hot } }
      if 140 ≤ s.gov.tj then s.meltdown
      else
        let s := if s.governs then s.raiseStep else s
        if two then s.trip else s)

/-- TJ has stayed below 100 °C for 10 s. -/
def execTripCooldown (s : State) : Host.Outcome State Fault Refusal :=
  .next (if s.gov.tj < 100 then { s with pw := { s.pw with tripped := false } } else s)

/-! ### Power states (R193, R462 to R467, Table 14-4) -/

/-- A forced class of background work runs. -/
def State.forcedRuns (s : State) : Bool :=
  s.on Fld.FTL_STATUS_CKPT_BUSY || (s.forced 0 && decide (0 < s.dirtyBytes)) || (s.forced 1 && s.on Fld.FTL_STATUS_GC_ACTIVE)

/-- A request for a state is granted (R462). -/
def State.grants (s : State) (p : Nat) : Bool :=
  if p = 2 then !(s.forcedRuns) && !(s.on Fld.PWS_STATUS_HU_TESTING) &&
    [0, 1].all (fun h => s.role h = 0 || !(s.pairState h = 1 || s.pairState h = 2))
  else if p = 3 then !s.pw.activating && s.cfg.commit.isNone
  else true

/-- A deeper state can be entered now: the chip runs, and no entry or exit is in progress. -/
def State.mayDeepen (s : State) (p : Nat) : Bool :=
  s.get Fld.PWS_STATUS_SEQ = 2 && s.pw.shut.isNone && !s.still && !(s.on Fld.GOV_STATUS_ENTERING) && !(s.on Fld.GOV_STATUS_EXITING) &&
    decide (s.get Fld.GOV_STATUS_PSTATE < p)

/-- The entry begins: every steering entry goes to slice 0 (Table 14-4), or the shutdown of R465 runs. -/
def State.deepen (s : State) (p : Nat) : State :=
  let old := s.get Fld.GOV_STATUS_PSTATE
  let s : State := { s with gov := { s.gov with target := p, wakeDue := false, wake := 0 } }
  let s := s.put Fld.GOV_STATUS_ENTERING 1
  if p = 3 then s.shutdown 6 false
  else if old = 0 then
    let s : State := { s with gov := { s.gov with steer := s.net.steer }, net := { s.net with steerWait := (List.range 8).map (fun i => (i, 0)) } }
    s.steerNow
  else s

/-- A request for a power state; false when it is refused. -/
def State.requestP (s : State) (p : Nat) : State × Bool :=
  if !(s.mayDeepen p) then (s, true)
  else if s.grants p then (s.deepen p, true)
  else (s, false)

/-- GOV_CMD (R462). -/
def State.govCmd (s : State) (p : Nat) : State :=
  let r := s.requestP p
  if r.2 then r.1 else s.put Fld.GOV_STATUS_REFUSED 1

/-- GOV_CMD OP 1: return to P0 (Table 14-5). -/
def State.govP0 (s : State) : State :=
  if s.get Fld.GOV_STATUS_PSTATE = 3 || (s.on Fld.GOV_STATUS_ENTERING && s.gov.target = 3) then s.wakeP3 6 else s.wake 6

def execGovP0 (s : State) : Host.Outcome State Fault Refusal := .next s.govP0
def execGovP1 (s : State) : Host.Outcome State Fault Refusal := .next (s.govCmd 1)
def execGovP2 (s : State) : Host.Outcome State Fault Refusal := .next (s.govCmd 2)
def execGovP3 (s : State) : Host.Outcome State Fault Refusal := .next (s.govCmd 3)

/-- The idle timers of idle-timer mode (R193). -/
def execP1IdleExpiry (s : State) : Host.Outcome State Fault Refusal :=
  .next (if s.get Fld.CQI_CTRL_PWRMODE = 1 && s.get Fld.GOV_STATUS_PSTATE = 0 && s.get Fld.CQI_IDLE_P1_IDLE != 0 then (s.requestP 1).1 else s)

def execP2IdleExpiry (s : State) : Host.Outcome State Fault Refusal :=
  .next (if s.get Fld.CQI_CTRL_PWRMODE = 1 && s.get Fld.GOV_STATUS_PSTATE = 1 && s.get Fld.CQI_IDLE_P2_IDLE != 0 then (s.requestP 2).1 else s)

/-- Domains that P1 gates (Table 14-4). -/
def p1Domains : List Domain :=
  [.slice 1, .slice 2, .slice 3, .slice 4, .slice 5, .slice 6, .slice 7, .cluster 1, .cluster 2, .cluster 3, .cluster 4, .cluster 5,
   .cluster 6, .cluster 7]

/-- Domains that P2 gates besides. -/
def p2Domains (s : State) : List Domain :=
  [.txnTable, .slice 0, .cluster 0, .cluster 8, .cluster 9, .cluster 10] ++
    (List.finRange 16).map Domain.lcBank ++ ((List.finRange 8).filter (fun p => s.linkUp p.val)).map Domain.port

/-- A gating is closed. -/
def State.gate (s : State) (ds : List Domain) : State :=
  { s with gov := { s.gov with
    powerGated := s.gov.powerGated ++ ds.filter (fun d => !(s.gov.powerGated.contains d)),
    clockGated := s.gov.clockGated.filter (fun d => !(ds.contains d)) } }

/-- Domains serve again. -/
def State.ungate (s : State) (ds : List Domain) : State :=
  { s with gov := { s.gov with
    powerGated := s.gov.powerGated.filter (fun d => !(ds.contains d)), clockGated := s.gov.clockGated.filter (fun d => !(ds.contains d)),
    waking := s.gov.waking.filter (fun d => !(ds.contains d)) } }

/-- What P2 does besides P1: T0 cleaned and its banks gated, refresh debt paid, DRAM in self-refresh, ports listening
(R276, R463). -/
def State.enterP2 (s : State) : State :=
  let s := (s.cleanInvWhole).setReg Reg.LC_STATUS (s.reg Reg.LC_STATUS &&& 0x0000FFFF)
  let s := (List.range 16).foldl (fun s c => if s.dmcState c = 2 then (s.payDebt c).put (Fld.DMC_STATUS_STATE c) 3 else s) s
  let s := (List.range 8).foldl (fun s p => if s.linkUp p then s.updPort p (fun x => { x with listening := true, listen := 0 }) else s) s
  let s : State := { s with gov := { s.gov with clockGated := .cluster 11 :: s.gov.clockGated } }
  s.gate (p2Domains s)

/-- P2 is left (R263, R463): the ports' pause ends and T0 banks, DRAM and domains serve again. -/
def State.exitP2 (s : State) : State :=
  let s := s.setReg Reg.LC_STATUS (s.reg Reg.LC_STATUS ||| 0xFFFF0000)
  let s := (List.range 16).foldl (fun s c => if s.dmcState c = 3 then s.put (Fld.DMC_STATUS_STATE c) 2 else s) s
  let s := (List.range 8).foldl (fun s p => s.updPort p (fun x => { x with listening := false, listen := 0 })) s
  (s.setPauseAll (fun x => { x with xoffListen := false })).ungate (.cluster 11 :: p2Domains s)

/-- Nothing is left that keeps a state from being entered: QPs steered away; for P2 no transaction and no packet. -/
def State.settledFor (s : State) (p : Nat) : Bool :=
  s.net.steerWait.isEmpty && (p = 1 || (s.net.txns.isEmpty && s.net.held.isEmpty))

/-- An entry completes (R462); a wake that arrived meanwhile is acted on (R465). -/
def State.entryDone (s : State) : State :=
  let old := s.get Fld.GOV_STATUS_PSTATE
  let p := s.gov.target
  if !(s.on Fld.GOV_STATUS_ENTERING) then s
  else
    let go (s : State) : State :=
      ((s.put Fld.GOV_STATUS_PSTATE p).put Fld.GOV_STATUS_ENTERING 0).record .govPstate 0 [BitVec.ofNat 8 old, BitVec.ofNat 8 p, 0]
    let due := s.gov.wakeDue
    let src := s.gov.wake
    let s' : State := { s with gov := { s.gov with wakeDue := false } }
    if p = 3 then
      if s.get Fld.PWS_STATUS_SEQ = 4 && s.pw.shut.isNone then
        let s := go s'
        if due then s.wakeP3 src else s
      else s
    else if s.settledFor p && s.pw.shut.isNone && !s.still then
      let s := if old = 0 then s'.gate p1Domains else s'
      let s := go (if p = 2 then s.enterP2 else s)
      let s := s.put Fld.GOV_STATUS_CORE_CLK s.coreClock
      if due then s.wake src else s
    else s

def execPstateEntryDone (s : State) : Host.Outcome State Fault Refusal := .next s.entryDone

/-- An exit completes: the chip is in P0 (R462, R463, Table 14-6). -/
def State.exitDone (s : State) : State :=
  let old := s.get Fld.GOV_STATUS_PSTATE
  if !(s.on Fld.GOV_STATUS_EXITING) then s
  else if old = 3 && !(s.get Fld.PWS_STATUS_SEQ = 2 && 10 ≤ s.get Fld.CFL_BOOTINFO_STEP) then s
  else
    let s := if old = 2 then s.exitP2 else s
    let s := if old = 3 then s.ungate s.gov.powerGated else s.ungate p1Domains
    let s := (s.put Fld.GOV_STATUS_PSTATE 0).put Fld.GOV_STATUS_EXITING 0
    let s := s.record .govPstate 0 [BitVec.ofNat 8 old, 0, BitVec.ofNat 8 s.gov.wake]
    let s := s.put Fld.GOV_STATUS_CORE_CLK s.coreClock
    if old = 3 then s
    else
      let back := (List.range 8).map (fun i => (i, s.gov.steer.getD i i))
      ({ s with net := { s.net with steerWait := back } } : State).steerNow

def execPstateExitDone (s : State) : Host.Outcome State Fault Refusal := .next s.exitDone

/-- GOV_WAKE_TMR expires (Table 14-5). -/
def execGovWakeTimer (s : State) : Host.Outcome State Fault Refusal :=
  .next (if s.reg Reg.GOV_WAKE_TMR == 0 then s
    else if s.get Fld.GOV_STATUS_PSTATE = 3 || (s.on Fld.GOV_STATUS_ENTERING && s.gov.target = 3) then s.wakeP3 7 else s.wake 7)

/-- WAKE_N low for 1 ms (R436, R466). -/
def execWakeN (s : State) : Host.Outcome State Fault Refusal :=
  .next (if s.get Fld.PWS_STATUS_SEQ = 0 then (if s.pw.afterShut then s.powerOn else s)
    else if s.get Fld.GOV_STATUS_PSTATE = 3 || (s.on Fld.GOV_STATUS_ENTERING && s.gov.target = 3) then s.wakeP3 5 else s.wake 5)

/-- The first frame on a listening port wakes the chip and pauses every lossless class; frames that follow share the
listen buffer, of which lossy ones get the first 32 KiB (R463, R83). -/
def execListenFrame (port : Fin 8) (flen : Nat) (s : State) : Host.Outcome State Fault Refusal :=
  let p := port.val
  .next (if !((s.port p).listening) || s.still then s
    else
      let s := if (s.port p).listen = 0 then
          (List.range 8).foldl (fun s c => if s.lossless p c then s.setPause p c (fun x => { x with xoffListen := true }) else s) (s.wake 1)
        else s
      let lossyOnly := (s.get (Fld.PRT_LOSSLESS_LL_MASK p)) = 0
      let n := (s.port p).listen + flen
      if lossyOnly && 32768 < n then s.count (Reg.PRT_LOSSY_DROP p)
      else if 262144 < n then s.count (Reg.PRT_RX_DROP p)
      else s.updPort p (fun x => { x with listen := n }))

/-! ### Domain gating (R71, R72, R461, Table 02-6) -/

/-- A flash channel has a page in flight. -/
def State.flashBusy (s : State) (c : Nat) : Bool := s.flash.ops.any (fun o => s.stripeChan o.pos = c)

/-- The domain holds work. -/
def State.domainBusy (s : State) : Domain → Bool
  | .alwaysOn => true
  | .serdesQuad q => s.linkUp (2 * q.val) || s.linkUp (2 * q.val + 1)
  | .port p => s.linkUp p.val
  | .twinQuad _ => s.elytraUp
  | .colonyQuad => s.on Fld.COL_CTRL_WORKER || s.on Fld.COL_CTRL_MANAGER
  | .slice k => s.net.txns.any (fun t => t.slice = k.val) || s.net.held.any (fun h => h.slice = k.val)
  | .contextBank _ => !s.net.qps.isEmpty
  | .txnTable => !s.net.txns.isEmpty
  | .lcBank b => s.tier.mop.isSome || s.tier.lines.any (fun l => l.2.filling && l.1 % 16 = b.val)
  | .dram c => s.dmcState c.val = 2 || s.dmcState c.val = 4
  | .flash c => s.flashBusy c.val
  | .cluster k =>
    if k.val < 8 then s.net.txns.any (fun t => t.slice = k.val) || s.net.held.any (fun h => h.slice = k.val)
    else if k.val < 11 then !s.flash.ops.isEmpty || s.on Fld.FTL_STATUS_GC_ACTIVE || s.on Fld.FTL_STATUS_CKPT_BUSY
    else decide (s.get Fld.GOV_STATUS_PSTATE ≤ 1)
  | .cipher => (List.range 32).any s.flashBusy
  | .sealing => s.sealing.job.isSome
  | .codeFlash b => match s.boot.op with
    | some (.program a _) => a / 8388608 = b.val
    | some (.erase x _ _) => x / 2048 = b.val
    | none => false
  | .parison => !s.tier.streams.isEmpty
  | .lehr => decide (0 < s.dirtyBytes)
  | .debug => s.on Fld.DBG_STATUS_UNLOCKED || s.on Fld.DBG_STATUS_FROZEN

/-- A domain is power-gated. -/
def State.gated (s : State) (d : Domain) : Bool := s.gov.powerGated.contains d

/-- Table 02-6 lets an idle domain be power-gated in the present state: its own condition, and no domain that needs it is
powered. -/
def State.mayGate (s : State) (d : Domain) : Bool :=
  let p := s.get Fld.GOV_STATUS_PSTATE
  match d with
  | .alwaysOn => false
  | .serdesQuad q => !(s.linkUp (2 * q.val)) && !(s.linkUp (2 * q.val + 1)) &&
      (List.finRange 8).all (fun i => i.val / 2 != q.val || s.gated (.port i))
  | .port i => !(s.linkUp i.val) || p = 2
  | .twinQuad _ => p = 3
  | .colonyQuad => true
  | .slice k => s.net.steer.all (· != k.val)
  | .contextBank _ => p = 3
  | .txnTable => decide (2 ≤ p) && (List.finRange 8).all (fun k => s.gated (.slice k))
  | .lcBank _ => decide (2 ≤ p)
  | .dram c => p = 3 || s.dmcState c.val = 6 || s.dmcState c.val = 5
  | .flash c => s.gated .lehr || (List.finRange 32).any (fun i => i != c && !(s.gated (.flash i)))
  | .cluster k =>
    if h : k.val < 8 then s.gated (.slice ⟨k.val, h⟩)
    else if k.val < 11 then (List.finRange 32).all (fun i => s.gated (.flash i)) || ([8, 9, 10] : List (Fin 12)).any (fun i => i != k && !(s.gated (.cluster i)))
    else p = 3
  | .cipher => (List.finRange 32).all (fun i => s.gated (.flash i))
  | .sealing => s.get Fld.SEAL_LOCK_OWNER = 0
  | .codeFlash b => !(s.on Fld.CFL_STATUS_BUSY) && b.val != 2 && s.runningSlot != some b.val
  | .parison => true
  | .lehr => true
  | .debug => true

/-- A domain idle for 2 µs is clock-gated (R71). -/
def execClockGateIdle (d : Domain) (s : State) : Host.Outcome State Fault Refusal :=
  .next (if s.domainBusy d || s.gated d || s.gov.clockGated.contains d then s
    else { s with gov := { s.gov with clockGated := d :: s.gov.clockGated } })

/-- An idle domain is power-gated after its idle time; a gating takes effect only if no work has arrived (R72, R461). -/
def execPowerGateIdle (d : Domain) (s : State) : Host.Outcome State Fault Refusal :=
  .next (if s.domainBusy d || s.gated d || !(s.mayGate d) then s else s.gate [d])

/-- Work arrives for a gated domain (R72). -/
def execDomainWake (d : Domain) (s : State) : Host.Outcome State Fault Refusal :=
  .next (if (s.gated d || s.gov.clockGated.contains d) && !(s.gov.waking.contains d) then
    { s with gov := { s.gov with waking := d :: s.gov.waking } } else s)

/-- A woken domain serves again (R72). -/
def execDomainWakeDone (d : Domain) (s : State) : Host.Outcome State Fault Refusal :=
  .next (if s.gov.waking.contains d then s.ungate [d] else s)

end Sys2Proof.Machine
end

