-- ==== Sys2Proof/Machine/Commit.lean ====
section
/-! DEFINITION. Sys2Proof/Machine/Commit.lean: configuration commits and their roll, epoch boundaries, the end of a planned
hand-over, FW_ACTIVATE, chip reset through GLB_RSTCTL (R35, R376, R387, R388, R398, R513, R514, R561 to R574, R584, R592). -/

namespace Sys2Proof.Machine

/-! ### Acceptance (R563, R564, R572, R584) -/

/-- The commit home set (R564). -/
def State.commitHome (s : State) : Nat := if s.active 0 then 0 else if s.active 1 then 1 else 0

/-- A home set is PAIRED on this chip, as active side or as standby. -/
def State.pairedAny (s : State) : Bool := s.pairState 0 == 3 || s.pairState 1 == 3

/-- The report of a commit (Table 20-8): LAST, and the path. -/
def State.commitReport (s : State) (last : Nat) (via : CommitVia) : State :=
  (s.put Fld.GLB_CMTSTAT_LAST last).put Fld.GLB_CMTSTAT_VIA (match via with
    | .twoWire => 1
    | _ => 0)

/-- The staged set cannot be committed now (R563). -/
def State.commitBusy (s : State) : Bool :=
  s.cfg.commit.isSome || s.pw.activating ||
    (s.cfg.staged.any (fun x => jointReg x.addr) && s.pairedAny && !(s.active 0) && !(s.active 1))

/-- Before start-up step 10 every register takes its value at once (R572), the set is stored, and start-up goes on (R511). -/
def State.commitNow (s : State) (via : CommitVia) : State :=
  let set := s.cfg.staged
  let s : State := { s with cfg := { s.cfg with staged := [] } }
  let s := ((s.applyAll set).storeSet set).setReg64 Reg.GLB_CMTEPOCH_LO Reg.GLB_CMTEPOCH_HI 0
  ((({ s with boot := { s.boot with configured := true } } : State).commitReport 2 via).startup)

/-- A commit that will roll is accepted: its joint values travel in the next DELTA of its home set (R564, R570). In P1 and P2
the chip first returns to P0 (R573). -/
def State.commitAccept (s : State) (via : CommitVia) : State × Nat :=
  let set := s.cfg.staged
  let h := s.commitHome
  let joint := set.any (fun x => jointReg x.addr)
  let n := s.epoch h + (if joint then 4 else 2)
  let c : Commit := { n := n, home := h, set := set, joint := joint, via := via }
  let s : State := { s with cfg := { s.cfg with staged := [], commit := some c } }
  let pairs := (set.filter (fun x => jointReg x.addr)).map (fun x => (x.addr, x.val))
  let s := if joint && s.active h then s.updHome h (fun x => { x with newConfig := x.newConfig ++ [(n, pairs)] }) else s
  let s := ((s.put Fld.GLB_STATUS_COMMITTING 1).setReg64 Reg.GLB_CMTEPOCH_LO Reg.GLB_CMTEPOCH_HI n).commitReport 1 via
  (s.wake 0, n)

/-- What a commit answers: refused; done, with its RESULT; or accepted, with epoch n. -/
inductive CommitAns where
  | busy
  | done
  | accepted (n : Nat)
  deriving DecidableEq, Repr

/-- CONFIG_COMMIT, or GLB_CMT OP 1, without DISCARD (R563, R584). -/
def State.commit (s : State) (via : CommitVia) : State × CommitAns :=
  if s.cfg.staged.isEmpty then (s.commitReport 2 via, .done)
  else if s.commitBusy then (s, .busy)
  else if s.get Fld.CFL_BOOTINFO_STEP < 10 then (s.commitNow via, .done)
  else
    let r := s.commitAccept via
    (r.1, .accepted r.2)

/-- DISCARD (R563). -/
def State.discard (s : State) (via : CommitVia) : State := ({ s with cfg := { s.cfg with staged := [] } } : State).commitReport 3 via

/-- GLB_CMT (R584): a refused commit sets CMT_REFUSED; the answer says whether it was refused. -/
def State.glbCmt (s : State) (op : Nat) (via : CommitVia) : State × Bool :=
  if op = 1 then
    let r := s.commit via
    if r.2 == .busy then (r.1.put Fld.GLB_STATUS_CMT_REFUSED 1, true) else (r.1, false)
  else if op = 2 then (s.discard via, false)
  else (s, false)

/-! ### The roll (R565 to R568, Table 19-2) -/

/-- A DRAM channel or flash channel register: applied at its channel's own boundary. -/
def channelReg (a : Nat) : Bool := (switchOf a).2 && decide (0x200000 ≤ a)

/-- The last boundary after n at which a unit switches. -/
def Commit.last (c : Commit) : Nat := (c.set.map (fun x => (switchOf x.addr).1)).foldl max 0

/-- The channel of a channel register is retired (R565). -/
def State.chanRetired (s : State) (a : Nat) : Bool :=
  if a < 0x220000 then s.dmcState ((a - 0x200000) / 0x1000) = 5 else s.get (Fld.FCH_STATUS_STATE ((a - 0x260000) / 0x800)) = 4

/-- Pages in flight on the flash channels that switch at boundary n + j, if the set holds their registers. -/
def State.oldPages (s : State) (c : Commit) (j : Nat) : List (Nat × Nat × Nat) :=
  if c.set.any (fun x => decide (0x260000 ≤ x.addr) && decide (x.addr < 0x280000) && (switchOf x.addr).1 = j) then
    (s.flash.ops.filter (fun o => s.stripeChan o.pos / 2 = j)).map (fun o => (o.sb, o.pos, o.page))
  else []

/-- Boundary n + j: the units of that boundary switch. -/
def State.switchUnits (s : State) (c : Commit) (j : Nat) : State :=
  let here (x : Staged) : Bool := channelReg x.addr && (switchOf x.addr).1 = j && !(s.chanRetired x.addr)
  let marks := if j < 8 then c.marks ++ [s.net.txnId] else c.marks
  let c' : Commit := { c with switched := j, marks := marks, pages := c.pages ++ s.oldPages c j }
  (({ s with cfg := { s.cfg with commit := some c' } } : State)).applyAll (c.set.filter here)

/-- Boundary n: the registers of the global and joint classes take their values, and those of the slice class keep their old
value for slices that have not switched. -/
def State.beginRoll (s : State) (c : Commit) : State :=
  let slices := c.set.filter (fun x => (switchOf x.addr).2 && !(channelReg x.addr))
  let old := slices.map (fun x => { x with val := s.reg x.addr })
  let rolling := c.set.any (fun x => (switchOf x.addr).2)
  let s := s.applyAll (c.set.filter (fun x => !(channelReg x.addr)))
  let c' : Commit := { c with begun := true, old := old, drained := !rolling }
  (s.putB Fld.GLB_STATUS_MIXED rolling).switchUnits c' 0

/-- Every transaction and page of the old configuration is done (R567). -/
def State.rollEmpty (s : State) (c : Commit) : Bool :=
  (c.old.isEmpty || s.net.txns.all (fun t => decide (c.marks.getD t.slice 0 ≤ t.id) || t.id = 0)) &&
    c.pages.all (fun p => !(s.flash.ops.any (fun o => o.sb = p.1 && o.pos = p.2.1 && o.page = p.2.2)))

/-- The commit completes (R568): the set is stored, and the capsule posts n. -/
def State.commitEnd (s : State) (c : Commit) : State :=
  let s := s.storeSet c.set
  let s : State := { s with cfg := { s.cfg with commit := none } }
  let s := (s.put Fld.GLB_STATUS_COMMITTING 0).put Fld.GLB_CMTSTAT_LAST 2
  match c.via with
  | .capsule qpn queue slot => (s.okCap ⟨qpn, queue, slot⟩ c.n).settle
  | _ => s

/-- The commit completes once its roll is drained and the standby has its joint values, or the home set is solo (R568). -/
def State.commitCheck (s : State) : State :=
  match s.cfg.commit with
  | some c => if c.begun && c.drained && (!c.joint || c.delta || !(s.mirrors c.home)) then s.commitEnd c else s
  | none => s

/-- Hand-overs that waited for the roll begin (Table 19-1). -/
def State.deferredHandovers (s : State) : State :=
  [0, 1].foldl (fun s h => if (s.home h).handWait then (s.beginHandover h .serve).1 else s) s

/-- The roll is drained (R567). -/
def State.rollDrained (s : State) : State :=
  match s.cfg.commit with
  | some c =>
    if c.begun && !c.drained && decide (c.last ≤ c.switched) && s.rollEmpty c then
      let s : State := { s with cfg := { s.cfg with commit := some { c with drained := true } } }
      ((s.put Fld.GLB_STATUS_MIXED 0).deferredHandovers).commitCheck
    else s.commitCheck
  | none => s

def execRollDrained (s : State) : Host.Outcome State Fault Refusal := s.core s.rollDrained

/-- A boundary of the commit home set has opened an epoch: the roll begins at n, or later if the chip was in P1 or P2 (R573),
and goes on by one boundary. -/
def State.commitBoundary (s : State) (h : Nat) : State :=
  match s.cfg.commit with
  | some c =>
    if c.home != h || s.get Fld.GOV_STATUS_PSTATE != 0 then s
    else
      let s := if !c.begun then (if c.n ≤ s.epoch h then s.beginRoll c else s)
        else if c.switched < 15 then s.switchUnits c (c.switched + 1) else s
      s.commitCheck
  | none => s

/-- Joint values of the partner switch at the epoch that their CONFIG entry names (R570, R571). -/
def State.jointBoundary (s : State) (h : Nat) : State :=
  let due := s.cfg.jointIn.filter (fun e => e.1 = h && decide (e.2.1 ≤ s.epoch h))
  let s : State := { s with cfg := { s.cfg with jointIn := s.cfg.jointIn.filter (fun e => !(e.1 = h && decide (e.2.1 ≤ s.epoch h))) } }
  s.applyAll (due.map (fun e => e.2.2))

/-! ### Epoch boundary (R35, R36, R370, R376, R387, R388) -/

/-- Admission of the joining chip (R388): it is PAIRED, and hosts are told (R21). -/
def State.admitJoiner (s : State) (h : Nat) : State :=
  let s := ((s.setPair h 3).standWrite h 2 false).record .twnPaired (unitHome h)
  let s := s.updHome h (fun x => { x with changed := [], respSum := 0 })
  s.notifyAll h 0x0003 (s.epoch h) h

/-- After the DELTA of the closed epoch the home set goes from RESYNC to LOCKSTEP, or from LOCKSTEP to PAIRED. -/
def State.joinStep (s : State) (h : Nat) : State :=
  if s.pairState h = 1 && s.twin.bulk.waiting.isEmpty then
    (s.setPair h 2).updHome h (fun x => { x with matched := 0, inseq := 0, respSum := 0 })
  else if s.pairState h = 2 && decide (s.get Fld.TWN_LOCKSTEP_EPOCHS ≤ (s.home h).matched) then s.admitJoiner h
  else s

/-- An epoch boundary of a home set. -/
def State.epochBoundary (s : State) (h : Nat) : State :=
  if s.still then s
  else
    let s := if s.active h then
        let closed := if s.elytraUp && (s.pairState h = 1 || s.pairState h = 2 || s.pairState h = 3) then
            let s := s.sendDelta h false
            s.joinStep h
          else s.updHome h (fun x => { x with touched := [], newKeys := [], newRegions := [], newDirty := [], newQueues := [], newConfig := [] })
        closed.updHome h (fun x => { x with epoch := x.epoch + 1 })
      else if s.role h = 0 then s.updHome h (fun x => { x with epoch := x.epoch + 1 })
      else if s.standby h && s.elytraUp then s.sendHealth
      else s
    ((s.steerNow).jointBoundary h).commitBoundary h

def execEpochBoundary (home : Fin 2) (s : State) : Host.Outcome State Fault Refusal := .next (s.epochBoundary home.val)

/-! ### The end of a hand-over (R398, R465, R514, R592) -/

/-- Every hand-over of an activation is done: the SELECT word of the staged slot is programmed, and the chip resets (R514). -/
def State.activateEnd (s : State) : State := (s.programSelect 1 s.stagedSlot).warmReset 5

/-- What follows the hand-overs. A shutdown that has begun meanwhile goes on with Quench. -/
def State.afterHandover (s : State) (next : HandNext) : State :=
  if (s.home 0).handing || (s.home 1).handing then s
  else if s.pw.shut.isSome then (if s.pw.shut.any (fun x => x.step == .handing) then s.quenchBegin else s)
  else match next with
    | .activate => s.activateEnd
    | .warmReset => s.warmReset 6
    | _ => s

/-- Accepted transactions are done: the token passes (Table 11-10). -/
def execHandoverDrained (home : Fin 2) (s : State) : Host.Outcome State Fault Refusal :=
  let h := home.val
  s.core (if (s.home h).handing && s.drainedHome h then
      let next := (s.home h).handNext
      (s.passToken h).afterHandover next
    else s)

/-- Every home set that the chip is active for can be handed over now (Table 16-5 check 4, R592). -/
def State.canHandAll (s : State) : Bool := s.activeHomes.all s.paired && !s.twin.partnerPfw

/-- Every active home set is handed over; with none, what follows happens at once. -/
def State.handAll (s : State) (next : HandNext) : State :=
  let s := [0, 1].foldl (fun s h => if s.active h then (s.beginHandover h next).1 else s) s
  s.afterHandover next

/-- GLB_RSTCTL with its key (R592); ignored while a shutdown runs, under FREEZE, and outside service of the core. -/
def State.rstCtl (s : State) (handover : Bool) : State :=
  if s.pw.shut.isSome || s.still || s.get Fld.PWS_STATUS_SEQ != 2 then s
  else if !handover then s.warmReset 6
  else if s.canHandAll then s.handAll .warmReset
  else s.put Fld.GLB_STATUS_RST_REFUSED 1

def execWarmResetRequest (s : State) : Host.Outcome State Fault Refusal := .next (s.rstCtl false)
def execWarmResetHandover (s : State) : Host.Outcome State Fault Refusal := .next (s.rstCtl true)

/-- FW_ACTIVATE (R513, R514): its checks in the order of Table 16-5, or the status of the first that fails. -/
def State.fwActivate (s : State) : State × Option Nat :=
  if s.pw.activating || s.cfg.commit.isSome then (s, some stBusy)
  else if !s.stagedWhole then (s, some stNoImage)
  else if !(s.verifySlot s.stagedSlot) then (s, some stSignatureInvalid)
  else if !s.canHandAll then (s, some stNotPaired)
  else ((({ s with pw := { s.pw with activating := true } } : State).record .cflActivate 0 [BitVec.ofNat 8 s.stagedSlot]), none)

end Sys2Proof.Machine
end

