-- ==== Sys2Proof/Machine/Identity.lean ====
section
/-! DEFINITION. Sys2Proof/Machine/Identity.lean: the identity-bus controller: transactions through MBUS_ICTL, bus clears, stuck
segments and the power cycle of their rail (R535 to R537, Tables 17-10 and 17-11). -/

namespace Sys2Proof.Machine

/-- The bytes of MBUS_IBUF. -/
def State.ibuf (s : State) : List Byte := ((List.range 8).map (fun w => leBytes 4 (s.reg (Reg.MBUS_IBUF w)).toNat)).flatten

/-- Bytes read from an identity device go into MBUS_IBUF from its first byte. -/
def State.ibufPut (s : State) (bs : List Byte) : State :=
  let all := bs ++ s.ibuf.drop bs.length
  (List.range 8).foldl (fun s w => s.setReg (Reg.MBUS_IBUF w) (BitVec.ofNat 32 (leNat ((all.drop (4 * w)).take 4)))) s

/-- MBUS_ISTAT.RESULT of a transaction that ends. -/
def State.idResult (s : State) (r : Nat) : State := (s.put Fld.MBUS_ISTAT_BUSY 0).put Fld.MBUS_ISTAT_RESULT r

/-- GO (R537): ignored while BUSY; refused with RESULT 5 in a survey, and for a write while ID_WR_EN is 0. A segment that is
stuck or failed takes no transaction: RESULT 3. -/
def State.identityGo (s : State) : State :=
  let seg := s.get Fld.MBUS_ICTL_SEG
  let branch := s.get Fld.MBUS_ICTL_BRANCH
  let w := s.on Fld.MBUS_ICTL_WRITE
  let len := max 1 (min 32 (s.get Fld.MBUS_ICTL_LEN))
  let off := if s.on Fld.MBUS_ICTL_OFF16 then (s.reg Reg.MBUS_IOFF).toNat % 65536 else (s.reg Reg.MBUS_IOFF).toNat % 256
  if s.on Fld.MBUS_ISTAT_BUSY then s
  else if s.mbus.survey || (w && !(s.on Fld.MBUS_CTRL_ID_WR_EN)) then s.put Fld.MBUS_ISTAT_RESULT 5
  else if 2 ≤ s.get (Fld.MBUS_ISEG_STATE seg) then s.put Fld.MBUS_ISTAT_RESULT 3
  else
    let s := s.busFirst seg branch
    let s : State := { s with mbus := { s.mbus with txn := some { seg := seg, branch := branch, write := w, len := len } } }
    let s := ((s.put Fld.MBUS_ISTAT_BUSY 1).put Fld.MBUS_ISTAT_RESULT 0).put (Fld.MBUS_ISEG_STATE seg) 1
    s.emit (.identity seg branch (s.get Fld.MBUS_ICTL_ADDR7) off (s.on Fld.MBUS_ICTL_OFF16) w len (if w then s.ibuf.take len else []))

def execIdentityGo (s : State) : Host.Outcome State Fault Refusal := .next s.identityGo

/-- A segment is stuck (R536): its rail is power-cycled once, after start-up step 7 only if it is of GROUP 0; otherwise the
segment has failed. -/
def State.segStuck (s : State) (seg : Nat) : State :=
  let s := (s.put (Fld.MBUS_ISEG_STATE seg) 2).record .mbusSegStuck 0 [BitVec.ofNat 8 seg]
  let n := s.get (Fld.MBUS_ISEG_SW_RAIL seg)
  if decide (n < 24) && !(s.mbus.cycled.contains seg) && s.mbus.cycling.isNone &&
      (decide (s.get Fld.CFL_BOOTINFO_STEP ≤ 7) || s.get (Fld.PWS_RAIL_GROUP n) = 0) then
    { s.railOff n with mbus := { s.mbus with cycled := seg :: s.mbus.cycled, cycling := some (seg, n) } }
  else s.put (Fld.MBUS_ISEG_STATE seg) 3

/-- The end of a transaction: results 0 to 4 (Table 17-6). -/
def execIdentityTransactionDone (result : Fin 8) (data : List Byte) (s : State) : Host.Outcome State Fault Refusal :=
  .next (match s.mbus.txn with
    | some t =>
      if 5 ≤ result.val then s
      else
        let s := if result.val = 0 && !t.write then s.ibufPut (data.take t.len) else s
        let s := ((({ s with mbus := { s.mbus with txn := none } } : State)).idResult result.val).put (Fld.MBUS_ISEG_STATE t.seg) 0
        if result.val = 3 then s.segStuck t.seg
        else if result.val = 4 then s.count Reg.MBUS_BUS_CLEARS
        else s
    | none => s)

/-- The bus clear of a segment has ended: it goes back to idle, or stays as it is for what follows. -/
def State.segCleared (s : State) (seg : Nat) : State :=
  (s.put (Fld.MBUS_ISEG_STATE seg) 0).record .mbusSegRecovered 0 [BitVec.ofNat 8 seg]

/-- 100 ms after RAILEN of a stuck segment's rail was deasserted: the rail is switched on and qualified, and a bus clear
follows (R536). -/
def execSegmentRailCycle (cleared : Bool) (s : State) : Host.Outcome State Fault Refusal :=
  .next (match s.mbus.cycling with
    | some (seg, n) =>
      let s : State := { s with mbus := { s.mbus with cycling := none } }
      let s := (s.railEn n true).updRail n (fun r => { r with st := .qualifying, restarts := 0 })
      let s := s.count Reg.MBUS_BUS_CLEARS
      if cleared then s.segCleared seg else s.put (Fld.MBUS_ISEG_STATE seg) 3
    | none => s)

/-- SDA reads low while a segment is idle (R535, R536). -/
def execSdaLowWhileIdle (segment : Fin 4) (cleared : Bool) (s : State) : Host.Outcome State Fault Refusal :=
  .next (if s.get (Fld.MBUS_ISEG_STATE segment.val) = 0 then
      let s := s.count Reg.MBUS_BUS_CLEARS
      if cleared then s else s.segStuck segment.val
    else s)

end Sys2Proof.Machine
end

