-- ==== Sys2Proof/Machine/CapData.lean ====
section
/-! DEFINITION. Sys2Proof/Machine/CapData.lean: the meanings of fetches and doorbells, of the I/O capsules, and of the
admin capsules on regions, keys, placements and streams (chapters 4 to 6). -/

namespace Sys2Proof.Machine

/-- A grant of the fetch scheduler (R178, R179). -/
def execFetchGrant (home : Fin 2) (s : State) : Host.Outcome State Fault Refusal := s.core (s.fetchGrant home.val)

/-- A doorbell is an RDMA WRITE Only of 8 bytes on DB_KEY (R160). -/
def State.doorbellWrite (s : State) (p : Pkt) (key : BitVec 32) (offset value : BitVec 64) : State :=
  s.ingress p (.write .only (some { va := offset, key := key, dlen := 8 }) none (leBytes 8 value.toNat))

/-- SQ doorbell (R160 to R163). -/
def execSqDoorbell (p : Pkt) (key : BitVec 32) (offset value : BitVec 64) (s : State) : Host.Outcome State Fault Refusal :=
  s.core (s.doorbellWrite p key offset value)

/-- Queue 0 SQ doorbell with RESUME (R183). -/
def execResumeDoorbell (p : Pkt) (key : BitVec 32) (offset : BitVec 64) (sqTail : BitVec 16) (s : State) : Host.Outcome State Fault Refusal :=
  s.core (s.doorbellWrite p key offset (BitVec.ofNat 64 (sqTail.toNat + 2 ^ 63)))

/-- Queue 0 SQ doorbell with RESUME and REPLAY (R183). -/
def execResumeReplayDoorbell (p : Pkt) (key : BitVec 32) (offset : BitVec 64) (sqTail : BitVec 16) (s : State) : Host.Outcome State Fault Refusal :=
  s.core (s.doorbellWrite p key offset (BitVec.ofNat 64 (sqTail.toNat + 2 ^ 63 + 2 ^ 62)))

/-- CQ doorbell (R161). -/
def execCqDoorbell (p : Pkt) (key : BitVec 32) (offset value : BitVec 64) (s : State) : Host.Outcome State Fault Refusal :=
  s.core (s.doorbellWrite p key offset value)

/-- NQ doorbell (R161, R176). -/
def execNqDoorbell (p : Pkt) (key : BitVec 32) (offset value : BitVec 64) (s : State) : Host.Outcome State Fault Refusal :=
  s.core (s.doorbellWrite p key offset value)

/-- Capsule READ (R168, R169, R174). -/
def execCapsuleRead (c : CapRef) (s : State) : Host.Outcome State Fault Refusal := s.core (s.startCap c .read (fun qp bs s => s.capRead c qp bs))

/-- Capsule WRITE (R168, R174). -/
def execCapsuleWrite (c : CapRef) (s : State) : Host.Outcome State Fault Refusal := s.core (s.startCap c .write (fun qp bs s => s.capWrite c qp bs)).spaceCheck

/-- Capsule FLUSH (R25, R27). -/
def execCapsuleFlush (c : CapRef) (s : State) : Host.Outcome State Fault Refusal := s.core (s.startCap c .flush (fun qp _ s => s.capFlushTxn c qp false))

/-- Capsule FLUSH with DEEP (R25, R27). -/
def execCapsuleFlushDeep (c : CapRef) (s : State) : Host.Outcome State Fault Refusal :=
  s.core (s.startCap c .flushDeep (fun qp _ s => s.capFlushTxn c qp true))

/-- ZERO (R170): whole 64-bit words. -/
def execZero (c : CapRef) (s : State) : Host.Outcome State Fault Refusal := s.core (s.startCap c .zero (fun qp bs s => s.capOne c qp bs 8 .zero)).spaceCheck

/-- TRIM (R170): whole map units. -/
def execTrim (c : CapRef) (s : State) : Host.Outcome State Fault Refusal := s.core (s.startCap c .trim (fun qp bs s => s.capOne c qp bs 16384 .trim)).spaceCheck

/-- COPY (R168, R169). -/
def execCopy (c : CapRef) (s : State) : Host.Outcome State Fault Refusal := s.core (s.startCap c .copy (fun qp bs s => s.capCopy c qp bs)).spaceCheck

/-- REGION_CREATE (R132, R134). -/
def execRegionCreate (c : CapRef) (s : State) : Host.Outcome State Fault Refusal :=
  s.core (s.startCap c .regionCreate (fun qp bs s => s.capRegionCreate c qp bs))

/-- REGION_CREATE with MODIFY (R148, R166). -/
def execRegionModify (c : CapRef) (s : State) : Host.Outcome State Fault Refusal :=
  s.core (s.startCap c .regionModify (fun qp bs s => s.capRegionModify c qp bs))

/-- REGION_DESTROY (R135). -/
def execRegionDestroy (c : CapRef) (s : State) : Host.Outcome State Fault Refusal :=
  s.core (s.startCap c .regionDestroy (fun qp bs s => s.capRegionDestroy c qp bs))

/-- KEY_GRANT (R137). -/
def execKeyGrant (c : CapRef) (s : State) : Host.Outcome State Fault Refusal := s.core (s.startCap c .keyGrant (fun qp bs s => s.capKeyGrant c qp bs))

/-- KEY_GRANT with EXISTING (R148, R166). -/
def execKeyGrantExisting (c : CapRef) (s : State) : Host.Outcome State Fault Refusal :=
  s.core (s.startCap c .keyGrantExisting (fun qp bs s => s.capKeyExisting c qp bs))

/-- KEY_REVOKE (R149, R166). -/
def execKeyRevoke (c : CapRef) (s : State) : Host.Outcome State Fault Refusal := s.core (s.startCap c .keyRevoke (fun qp bs s => s.capKeyRevoke c qp bs))

/-- OBJECT_PLACE (R198 to R201). -/
def execObjectPlace (c : CapRef) (s : State) : Host.Outcome State Fault Refusal :=
  s.core (s.startCap c .objectPlace (fun qp bs s => s.capObjectPlace c qp bs))

/-- STREAM_OPEN (R212). -/
def execStreamOpen (c : CapRef) (s : State) : Host.Outcome State Fault Refusal :=
  s.core (s.startCap c .streamOpen (fun qp bs s => s.capStreamOpen c qp bs))

/-- STREAM_ADVANCE (R214). -/
def execStreamAdvance (c : CapRef) (s : State) : Host.Outcome State Fault Refusal :=
  s.core (s.startCap c .streamAdvance (fun qp bs s => s.capStreamAdvance c qp bs))

/-- STREAM_CLOSE (R220). -/
def execStreamClose (c : CapRef) (s : State) : Host.Outcome State Fault Refusal :=
  s.core (s.startCap c .streamClose (fun qp bs s => s.capStreamClose c qp bs))

/-- QRESUME with ACTION 0 (R183). -/
def execQresumeDiscard (c : CapRef) (s : State) : Host.Outcome State Fault Refusal :=
  s.core (s.startCap c .qresumeDiscard (fun _ bs s => s.capResume c bs false))

/-- QRESUME with ACTION 1 (R183). -/
def execQresumeReplay (c : CapRef) (s : State) : Host.Outcome State Fault Refusal :=
  s.core (s.startCap c .qresumeReplay (fun _ bs s => s.capResume c bs true))

/-- A capsule whose opcode its queue does not accept (R165). -/
def execUnknownCapsuleOpcode (c : CapRef) (s : State) : Host.Outcome State Fault Refusal := s.core (s.startCap c .unknown (fun _ _ s => s))

end Sys2Proof.Machine
end

