-- ==== Sys2Proof/Machine/RegRead.lean ====
section
/-! DEFINITION. Sys2Proof/Machine/RegRead.lean: what a read of a register returns and does, by each path: the registers that
show state held elsewhere, RC fields, values staged and values of a roll (R131, R484, R491, R548, R557, R576 to R581). -/

namespace Sys2Proof.Machine

/-! ### Registers that show other state -/

def word32 (n : Nat) : BitVec 32 := BitVec.ofNat 32 n

/-- The low and high word of a 64-bit value at two addresses. -/
def pairView (a lo hi v : Nat) : Option (BitVec 32) :=
  if a = lo then some (word32 v) else if a = hi then some (word32 (v >>> 32)) else none

/-- Signed 8-bit field. -/
def int8 (t : Int) : Nat := (BitVec.ofInt 8 t).toNat

/-- PRT_STATUS.PAUSED (Table 03-13). -/
def State.viewPrt (s : State) (a : Nat) : Option (BitVec 32) :=
  match (List.range 8).find? (fun p => a = Reg.PRT_STATUS p) with
  | some p => some (word32 ((List.range 8).foldl (fun n k => if (s.cls p k).paused.isSome then n + 2 ^ (k + 4) else n) ((s.reg a).toNat % 16)))
  | none => none

/-- TRN_QPINFO0 (Table 03-19). A number that names no QP shows 0. -/
def State.qpInfo (s : State) (n : Nat) (q : Qp) : Nat :=
  (match q.st with
    | .idle => 0
    | .rtr => 1
    | .rts => 2
    | .error => 3) + (if q.where_ == .resident then 8 else 0) + s.sliceOf n * 16 + q.home % 2 * 128 + q.sink.isSome.toNat * 256 +
    q.rate.limited.toNat * 512

def State.viewTrn (s : State) (a : Nat) : Option (BitVec 32) :=
  let sel := (s.reg Reg.TRN_QPSEL).toNat % 2 ^ 24
  let of (f : Qp → Nat) : Option (BitVec 32) := some (word32 (((s.qp sel).map f).getD 0))
  if a = Reg.TRN_QP_COUNT then some (word32 s.contexts.length)
  else if a = Reg.TRN_QP_CONN then some (word32 (s.net.qps.filter (fun e => e.2.receives)).length)
  else if a = Reg.TRN_QPINFO0 then of (s.qpInfo sel)
  else if a = Reg.TRN_QPINFO1 then of (fun q => q.epsn.toNat)
  else if a = Reg.TRN_QPINFO2 then of (fun q => q.cpsn.toNat)
  else if a = Reg.TRN_QPINFO3 then of (fun q => q.spsn.toNat)
  else none

/-- KEY_PDCTL of the selected PD, and the counts (Table 04-5). -/
def State.viewKey (s : State) (a : Nat) : Option (BitVec 32) :=
  if a = Reg.KEY_REGIONS then some (word32 s.prot.regions.length)
  else if a = Reg.KEY_KEYS then some (word32 s.validKeys.length)
  else if a = Reg.KEY_PDCTL then
    let p := s.pd ((s.reg Reg.KEY_PDSEL).toNat % 65536)
    some (word32 (p.en.toNat + p.admin.toNat * 2 + p.tenant % 256 * 256))
  else none

/-- A self-test of the namespace runs or is suspended. -/
def State.testing (s : State) (home pd : Nat) : Bool := s.cqi.tests.any (fun t => t.home = home && t.pd = pd)

def State.viewCqi (s : State) (a : Nat) : Option (BitVec 32) :=
  let n := (s.reg Reg.CQI_QSEL).toNat % 2 ^ 24
  let k := (s.reg Reg.CQI_QSEL).toNat / 2 ^ 24 % 64
  let of (f : Queue → Nat) : Option (BitVec 32) := some (word32 (((s.queue n k).map f).getD 0))
  let st (q : Queue) : Nat := match q.st with
    | .disabled => 0
    | .active => 1
    | .frozen => 2
    | .ended => 3
  let test := match s.qp n with
    | some q => (s.testing q.home q.pd).toNat
    | none => 0
  if a = Reg.CQI_QUEUES then some (word32 (s.cqi.queues.filter (fun e => e.2.live)).length)
  else if a = Reg.CQI_FROZEN then some (word32 (s.cqi.queues.filter (fun e => e.2.st == .frozen)).length)
  else if a = Reg.CQI_QINFO0 then of (fun q => st q + q.cls % 4 * 4 + (if q.nqSize = 0 then 0 else 16) + test * 32)
  else if a = Reg.CQI_QINFO1 then of (fun q => q.sqHead + q.sqTail * 65536)
  else if a = Reg.CQI_QINFO2 then of (fun q => q.cqCount % q.cqSize + q.cqHead * 65536)
  else if a = Reg.CQI_QINFO3 then of (fun q => q.cursor + q.slots.length * 65536)
  else none

def State.viewTier (s : State) (a : Nat) : Option (BitVec 32) :=
  let t := (s.reg Reg.TIER_TSEL).toNat % 256
  if a = Reg.TIER_STATUS then some (withField Fld.TIER_STATUS_PARISON_BUSY (s.reg a) (s.tier.streams.any (fun e => e.2.loading.isSome)).toNat)
  else if a = Reg.TIER_RESERVED then some (word32 s.reserved)
  else if a = Reg.TIER_STREAM_RSV then some (word32 s.streamRsv)
  else if a = Reg.TIER_MIRROR_RSV then some (word32 s.mirrorRsv)
  else if a = Reg.TIER_FLOAT then some (word32 s.floatSize)
  else if a = Reg.TIER_FLOAT_FREE then some (word32 s.floatFree)
  else if a = Reg.TIER_STREAMS then some (word32 s.tier.streams.length)
  else if a = Reg.TIER_TQUOTA then some (word32 (s.tenant t).quota)
  else if a = Reg.TIER_TPIN then some (word32 (s.tenant t).pin)
  else if a = Reg.TIER_TUSE then some (word32 (s.floatCharge t))
  else if a = Reg.TIER_TPUSE then some (word32 (s.pinCharge t))
  else none

/-- The remap entry that ECC_RMSEL selects; while none is loaded there the words last written show (log entry 53). -/
def State.viewEcc (s : State) (a : Nat) : Option (BitVec 32) :=
  let c := (s.reg Reg.ECC_RMSEL).toNat % 16
  let e := kget (s.chan c).remap ((s.reg Reg.ECC_RMSEL).toNat / 16 % 16)
  if a = Reg.ECC_RMADDR then e.map (fun x => x.line)
  else if a = Reg.ECC_RMCTL then
    let free := (16 - (s.chan c).remap.length) * 4096
    some (word32 (free + match e with
      | some x => x.word % 8 + x.sub % 2 * 8 + 16
      | none => (s.reg a).toNat % 16))
  else if a = Reg.ECC_CLOG0 then some s.clog0
  else if a = Reg.ECC_CLOG1 then some s.clog1
  else none

/-- A word of the threshold table: as written since reset, or as the carriers hold it (R314, R355). -/
def State.thrIndex (s : State) (w : Nat) : Nat :=
  (s.get Fld.FTL_THRSEL_TYPE * 512 + s.get Fld.FTL_THRSEL_ENTRY) * 4 + w

def State.viewFtl (s : State) (a : Nat) : Option (BitVec 32) :=
  let least := (((List.range 32).filter s.chanIn).map (fun c => (s.spares c, c))).foldl
    (fun (m : Option (Nat × Nat)) e => match m with
      | some x => if e.1 < x.1 then some e else some x
      | none => some e) none
  let spare := match least with
    | some x => min x.1 65535 + x.2 * 65536
    | none => 0
  match pairView a Reg.FTL_USABLE_LO Reg.FTL_USABLE_HI s.usable, pairView a Reg.FTL_MAPPED_LO Reg.FTL_MAPPED_HI s.mappedUnits with
  | some v, _ => some v
  | none, some v => some v
  | none, none =>
    if a = Reg.FTL_SB then some (word32 (s.serviceSbs % 65536 + s.freeSbs % 65536 * 65536))
    else if a = Reg.FTL_WEAR then some (word32 (min s.wearMean 65535 + min s.wearMax 65535 * 65536))
    else if a = Reg.FTL_SPARE_MIN then some (word32 spare)
    else match (List.range 4).find? (fun w => a = Reg.FTL_THRDATA w) with
      | some w => some ((kget s.flash.thr (s.thrIndex w)).getD (Config.thresholdWord (s.thrIndex w)))
      | none => none

def State.viewFch (s : State) (a : Nat) : Option (BitVec 32) :=
  match (List.range 32).find? (fun c => a = Reg.FCH_SPARE c || a = Reg.FCH_PE c) with
  | some c =>
    let pes := (s.goodBlocks c).map (fun n => (s.blk n).pe)
    if a = Reg.FCH_SPARE c then some (word32 (s.spares c % 65536 + (s.reg a).toNat / 65536 * 65536))
    else some (word32 ((if pes.isEmpty then 0 else pes.foldl (· + ·) 0 / pes.length) % 65536 + pes.foldl max 0 % 65536 * 65536))
  | none => none

def State.viewTwn (s : State) (a : Nat) : Option (BitVec 32) :=
  match pairView a (Reg.TWN_EPOCHNUM_LO 0) (Reg.TWN_EPOCHNUM_HI 0) (s.epoch 0) with
  | some v => some v
  | none => pairView a (Reg.TWN_EPOCHNUM_LO 1) (Reg.TWN_EPOCHNUM_HI 1) (s.epoch 1)

def State.viewCol (s : State) (a : Nat) : Option (BitVec 32) :=
  if a = Reg.COL_KEYFREE then some (word32 s.keyFree)
  else if a = Reg.COL_STATUS then some (withField Fld.COL_STATUS_DUTY (s.reg a) s.colDuty.toNat)
  else none

def State.viewPws (s : State) (a : Nat) : Option (BitVec 32) :=
  if a = Reg.PWS_HU_AGE then some (word32 (min ((s.stamp - s.pw.huAt) / 4096) 65535)) else none

/-- D in MiB; the selected sensor, TJ and whether the sensor is out (Table 14-8). -/
def State.viewGov (s : State) (a : Nat) : Option (BitVec 32) :=
  if a = Reg.GOV_DIRTYNOW then some (word32 (s.dirtyBytes / 1048576))
  else if a = Reg.GOV_TVAL then
    let n := (s.reg Reg.GOV_TSEL).toNat % 32
    some (word32 (int8 (s.gov.temps.getD n 0) + int8 s.gov.tj * 256 + (if s.gov.bad.contains n || 24 ≤ n then 65536 else 0)))
  else none

def State.viewSeal (s : State) (a : Nat) : Option (BitVec 32) :=
  let n := (s.reg Reg.SEAL_KEYSEL).toNat % 8192
  if a = Reg.SEAL_STATUS then some (withField Fld.SEAL_STATUS_ROOT_PROV (s.reg a) s.sealing.root.isSome.toNat)
  else if a = Reg.SEAL_KCV_INFO then some (word32 (match s.keySlot n with
    | some k => 1 + k.plain.toNat * 2
    | none => 0))
  else match pairView a Reg.SEAL_KCV_LO Reg.SEAL_KCV_HI (s.slotKcv n) with
    | some v => some v
    | none => pairView a Reg.SEAL_ROOT_KCV_LO Reg.SEAL_ROOT_KCV_HI s.rootKcv

def State.viewXts (s : State) (a : Nat) : Option (BitVec 32) :=
  let d := (s.reg Reg.XTS_DOMSEL).toNat % 4096
  if a = Reg.XTS_STATUS then
    let w := withField Fld.XTS_STATUS_META_LOADED (s.reg a) (s.keySlot 4096).isSome.toNat
    some (withField Fld.XTS_STATUS_WAIT_KEYS w (s.get Fld.CFL_BOOTINFO_STEP = 8 && !s.keysReady).toNat)
  else if a = Reg.XTS_DOMAINS then some (word32 s.domainsLoaded)
  else if a = Reg.XTS_DOMINFO then some (word32 ((match s.keySlot d with
    | some k => 1 + k.plain.toNat * 2
    | none => 0) + s.domainRegions d * 4))
  else none

def State.viewCfl (s : State) (a : Nat) : Option (BitVec 32) :=
  let k := s.stagedSlot
  if a = Reg.CFL_SECSTAT then some (word32 s.cfSecstat)
  else if a = Reg.CFL_BOOTINFO then some (withField Fld.CFL_BOOTINFO_FLOOR (s.reg a) s.boot.floor)
  else if a = Reg.CFL_STAGED then some (word32 (s.boot.staged.length % 4096 + s.stagedWhole.toNat * 4096))
  else pairView a Reg.CFL_STGVER_LO Reg.CFL_STGVER_HI (if s.imgFormed k then s.imgVersion k else 0)

def State.viewMbus (s : State) (a : Nat) : Option (BitVec 32) :=
  if a = Reg.MBUS_ALERTSRC then some (word32 s.alertSrc)
  else if a = Reg.MBUS_STATUS then
    some (withField Fld.MBUS_STATUS_STRAP (withField Fld.MBUS_STATUS_ALERT (s.reg a) s.mbus.alert.toNat) s.mbus.madr.toNat)
  else none

def State.viewAmb (s : State) (a : Nat) : Option (BitVec 32) :=
  let h := s.stamp
  if a = Reg.AMB_STATUS then
    some (word32 (s.amb.staging.length + s.amb.flushTo.isSome.toNat * 256 + s.amb.full.toNat * 512 + s.amb.clearing.toNat * 1024))
  else if a = Reg.AMB_FIRSTSEQ then some (word32 ((s.ambRecords.head?.map (·.seq)).getD 0))
  else if a = Reg.AMB_NEXTSEQ then some (word32 s.amb.nextSeq)
  else if a = Reg.AMB_RDSTAT then some (word32 s.ambRdstat)
  else if a = Reg.AMB_HOURS then some (word32 h)
  else if a = Reg.AMB_HOURS_HI then some (word32 (h >>> 32 % 16 + s.amb.pcycle % 2 ^ 24 * 256))
  else match (List.range 16).find? (fun w => a = Reg.AMB_REC w) with
    | some w => some (s.ambWord w)
    | none => none

def State.viewDbg (s : State) (a : Nat) : Option (BitVec 32) :=
  if a = Reg.DBG_STATUS then some (withField Fld.DBG_STATUS_KEY_PROV (s.reg a) s.dbg.key.isSome.toNat)
  else if a = Reg.DBG_MDATA0 then some (s.dbg.mdata.setWidth 32)
  else if a = Reg.DBG_MDATA1 then some ((s.dbg.mdata >>> 32).setWidth 32)
  else if a = Reg.DBG_MDATA2 then some ((s.dbg.mdata >>> 64).setWidth 32)
  else none

def State.viewGlb (s : State) (a : Nat) : Option (BitVec 32) :=
  if a = Reg.GLB_STATUS then some (withField Fld.GLB_STATUS_RECOVERY (s.reg a) (s.get Fld.CFL_STATUS_RECOVERY))
  else if a = Reg.GLB_CMTSTAT then some (withField Fld.GLB_CMTSTAT_STAGED (s.reg a) s.cfg.staged.length)
  else match (List.range 4).find? (fun w => a = Reg.GLB_SERIAL w) with
    | some w => some (Config.serialWord w)
    | none => none

/-- The block of an address (Table 20-1). -/
def blockNo (a : Nat) : Nat := if 0x100000 ≤ a then a / 0x20000 * 2 else a / 0x10000

def State.viewOf (s : State) (a : Nat) : Option (BitVec 32) :=
  match blockNo a with
  | 0x00 => s.viewGlb a
  | 0x01 => s.viewPws a
  | 0x02 => s.viewGov a
  | 0x03 => s.viewMbus a
  | 0x04 => s.viewAmb a
  | 0x05 => s.viewCfl a
  | 0x06 => s.viewSeal a
  | 0x07 => s.viewDbg a
  | 0x10 => s.viewPrt a
  | 0x12 => s.viewTrn a
  | 0x14 => s.viewKey a
  | 0x16 => s.viewCqi a
  | 0x18 => s.viewTier a
  | 0x22 => s.viewEcc a
  | 0x24 => s.viewFtl a
  | 0x26 => s.viewFch a
  | 0x28 => s.viewXts a
  | 0x2A => s.viewTwn a
  | 0x2C => s.viewCol a
  | _ => none

/-- From boundary n a channel's register reads as its new value, whether or not its channel has switched (R580). -/
def State.rollView (s : State) (a : Nat) (v : BitVec 32) : BitVec 32 :=
  match s.cfg.commit with
  | some c =>
    match c.set.find? (fun x => c.begun && channelReg x.addr && x.addr = a && !(s.chanRetired a)) with
    | some x => if (List.range 16).any (fun k => a = Reg.DMC_REFCTL k) then withField ⟨0, 5, 1⟩ x.val (fieldOf ⟨0, 5, 1⟩ v) else x.val
    | none => v
  | none => v

/-- The effective value of a register, read with no side effect (R580); a reserved address reads 0. -/
def State.regView (s : State) (a : Nat) : BitVec 32 :=
  if (regAt a).isNone then 0 else s.rollView a ((s.viewOf a).getD (s.reg a))

/-! ### Read-out under FREEZE (R491, R556, R557) -/

/-- The register space as a read-out path sees it: SEAL_BUF reads 0. -/
def State.rawReg (s : State) (a : Nat) : BitVec 32 := if 0x61000 ≤ a ∧ a < 0x62000 then 0 else s.regView a

/-- The raw 80-bit word of a store of Table 18-4; the layout of stores 1 to 4 is a free value. -/
def State.rawRead (s : State) (store : Nat) (addr : Nat) : State × BitVec 80 :=
  if store = 5 then (s, (s.rawReg (addr % 2 ^ 22 * 4)).setWidth 80)
  else if store = 0 || 5 < store then (s, 0)
  else (s.draw.2, Config.rawWord s.draw.1)

/-- A read of DBG_MDATA0 performs the read (R557); without FREEZE no store is readable. -/
def State.dbgRead (s : State) : State :=
  if s.on Fld.DBG_STATUS_FROZEN then
    let r := s.rawRead ((s.reg Reg.DBG_MSEL).toNat % 8) (s.reg Reg.DBG_MADDR).toNat
    { r.1 with dbg := { r.1.dbg with mdata := r.2 } }
  else { s with dbg := { s.dbg with mdata := 0 } }

def execDbgMemoryRead (s : State) : Host.Outcome State Fault Refusal := .next s.dbgRead

/-- A read-out instruction of the TAP: BYPASS unless FROZEN (R556). -/
def State.tapRead (s : State) (ir store addr : Nat) : State :=
  if s.on Fld.DBG_STATUS_FROZEN then
    let r := s.rawRead store addr
    ({ r.1 with dbg := { r.1.dbg with tapIr := ir, tapOut := r.2 } } : State).emit (.tap r.2)
  else { s with dbg := { s.dbg with tapIr := 0, tapOut := 0 } }

def execTapMemread (store : BitVec 3) (addr : BitVec 32) (s : State) : Host.Outcome State Fault Refusal :=
  .next (s.tapRead 4 store.toNat addr.toNat)

def execTapRegread (addr : BitVec 24) (s : State) : Host.Outcome State Fault Refusal := .next (s.tapRead 5 5 (addr.toNat / 4))

/-! ### A read by a path -/

/-- A path reads staged values (R581). -/
def State.seesStaged (s : State) : Path → Bool
  | .firmware => false
  | .twoWire => s.on Fld.GLB_CFGCTL_VIEW_MBUS
  | .capsule _ => s.on Fld.GLB_CFGCTL_VIEW_CAP

/-- The value staged for a register, an indexed one for the selector value now in force (R562). -/
def State.stagedAt (s : State) (a : Nat) : Option (BitVec 32) :=
  let sel := ((selectorOf a).map (fun r => (s.reg r).toNat)).getD 0
  (s.cfg.staged.find? (fun x => x.addr = a && x.sel = sel)).map (·.val)

/-- Registers of the sealing engine that only the owner of the lock reads (R484, R486). -/
def sealSecret (a : Nat) : Bool :=
  (decide (0x61000 ≤ a) && decide (a < 0x62000)) || (decide (Reg.SEAL_TAG 0 ≤ a) && decide (a ≤ Reg.SEAL_TAG 3)) ||
    a == Reg.SEAL_KCV_LO || a == Reg.SEAL_KCV_HI

/-- What a read does before it returns a value: a challenge is drawn (R551), a store is read (R557). -/
def State.readBefore (s : State) (a : Nat) : State :=
  if a = Reg.DBG_CHAL 0 then s.dbgChallenge
  else if a = Reg.DBG_MDATA0 then s.dbgRead
  else s

/-- What a read does after it: RC fields clear; ECC_CLOG1 removes its entry (R297). -/
def State.readAfter (s : State) (a : Nat) : State :=
  if a = Reg.ECC_CLOG1 then s.clogPop
  else match regAt a with
    | some d => if d.rc = 0 then s else s.setReg a (s.reg a &&& ~~~(word32 d.rc))
    | none => s

/-- A read of a register by a path (R131, R484, R521, R580, R581). -/
def State.regRead (s : State) (p : Path) (a : Nat) : State × BitVec 32 :=
  if (regAt a).isNone then (s, 0)
  else if sealSecret a && s.sealForeign p then (s.noteForeign, 0)
  else
    let s := s.readBefore a
    let v := s.regView a
    let v := match regAt a, s.stagedAt a with
      | some d, some x => if d.shadowed && s.seesStaged p then (v &&& ~~~d.data) ||| (x &&& d.data) else v
      | _, _ => v
    (s.readAfter a, v)

end Sys2Proof.Machine
end

