-- ==== Sys2Proof/Machine/RegWrite.lean ====
section
/-! DEFINITION. Sys2Proof/Machine/RegWrite.lean: a write of a register by a path: what it is refused for, staging, and the
behaviours of command registers (R484, R522, R561, R577 to R579, R583, R584, R587, R590). -/

namespace Sys2Proof.Machine

/-- What a write answers (R587). -/
inductive WriteAns where
  | ok | denied | invalid | busy
  deriving DecidableEq, Repr

/-- A capsule's write. -/
def fromCapsule : Path → Bool
  | .capsule _ => true
  | _ => false

/-- How a commit through GLB_CMT was made (R584). -/
def viaOf : Path → CommitVia
  | .twoWire => .twoWire
  | _ => .regWrite

/-! ### Alerts (R529) -/

/-- Pending bits of an event register after a write: a newly pending bit asserts ALERT_N. -/
def State.alertAfter (old s : State) (a : Nat) : State :=
  let evt := if alertRegs.any (fun e => e.2 = a) then a else a - 4
  let fresh := (s.reg evt &&& s.reg (evt + 4)) &&& ~~~(old.reg evt &&& old.reg (evt + 4))
  let s : State := if fresh != 0 then { s with mbus := { s.mbus with alert := true } } else s
  s.alertSettle

/-! ### Shadowed registers (R561, R562, R577, R579, R583) -/

/-- A write to a shadowed register takes effect at once: by firmware, before start-up step 5, and for PWS while every rail
is off. -/
def State.atOnce (s : State) (p : Path) (a : Nat) : Bool :=
  p == .firmware || decide (s.get Fld.CFL_BOOTINFO_STEP < 5) ||
    (blockNo a == 1 && (List.range 24).all (fun n => !(s.rail n).on))

/-- More than two lossless classes (R82). -/
def tooLossless (a : Nat) (v : BitVec 32) : Bool :=
  (List.range 8).any (fun p => a = Reg.PRT_LOSSLESS p) && decide (2 < ((List.range 8).filter (fun k => v.getLsbD k)).length)

/-- The value of a shadowed register is staged, or takes effect where R579 says so. -/
def State.writeShadowed (s : State) (p : Path) (d : RegDef) (a : Nat) (v : BitVec 32) : State × WriteAns :=
  let s := if d.w1c = 0 then s else s.setReg a (s.reg a &&& ~~~(v &&& word32 d.w1c))
  let s : State := if p == .twoWire && (a = Reg.PWS_HUMOD0 || a = Reg.PWS_HUMOD1) then { s with pw := { s.pw with humodSet := true } } else s
  let x : Staged := {
    addr := a
    sel := ((selectorOf a).map (fun r => (s.reg r).toNat)).getD 0
    val := d.limit v &&& word32 (d.rw ||| d.rwl ||| d.wo) }
  let fresh := !(s.cfg.staged.any (fun e => e.addr = x.addr && e.sel = x.sel))
  if tooLossless a v then (s.setRegBit a 8 true, .ok)
  else if (a = Reg.KEY_PDCTL || a = Reg.KEY_PDCRED_LO || a = Reg.KEY_PDCRED_HI) && s.pdLocked && p != .firmware then
    (s.put Fld.COL_STATUS_PD_LOCKED 1, .ok)
  else if s.atOnce p a then (s.applyReg x, .ok)
  else if !s.boot.released then (s.put Fld.MBUS_STATUS_NOT_READY 1, .ok)
  else if fresh && decide (4096 ≤ s.cfg.staged.length) then (s.put Fld.GLB_STATUS_STAGE_FULL 1, .invalid)
  else ({ s with cfg := { s.cfg with staged := stagePut s.cfg.staged x } }, .ok)

/-! ### Immediate registers -/

/-- PWS_CMD. -/
def State.pwsCmd (s : State) (op : Nat) : State :=
  if op = 1 then s.cmdPowerOn else if op = 2 then s.orderlyOff else if op = 3 then s.huStart else s

/-- GOV_CMD (R462, Table 14-8). -/
def State.govOp (s : State) (op : Nat) : State :=
  if op = 1 then s.govP0 else if op = 2 then s.govCmd 1 else if op = 3 then s.govCmd 2 else if op = 4 then s.govCmd 3 else s

/-- ECC_SCRUB_CMD: ABORT wins over START (Table 09-6). -/
def State.scrubCmd (s : State) (v : BitVec 32) : State :=
  if v.getLsbD 4 then (if s.dram.scrub.isSome then { s with dram := { s.dram with stopping := true } } else s)
  else if v.getLsbD 3 then s.scrubStart (v.toNat % 4) (v.getLsbD 2)
  else s

/-- ECC_RMCTL.LOAD and CLEAR for the entry that ECC_RMSEL selects (Table 09-8). -/
def State.remapCmd (s : State) (v : BitVec 32) : State :=
  let c := (s.reg Reg.ECC_RMSEL).toNat % 16
  let e := (s.reg Reg.ECC_RMSEL).toNat / 16 % 16
  let s := if v.getLsbD 5 then s.remapLoad c e (v.toNat / 8 % 2) (s.reg Reg.ECC_RMADDR) (v.toNat % 8) else s
  if v.getLsbD 6 then s.remapClear c e else s

/-- A half of the colony credential, which takes effect when both have been written (Table 12-4). -/
def State.colCred (s : State) (high : Bool) (n : Nat) : State :=
  let c := if high then { s.col with credHi := some n } else { s.col with credLo := some n }
  match c.credLo, c.credHi with
  | some lo, some hi => { s with col := { c with cred := lo + hi * 2 ^ 32, credLo := none, credHi := none } }
  | _, _ => { s with col := c }

/-- Registers of the blocks below 0x10_0000 that act when they are written. -/
def State.actLow (s : State) (p : Path) (a : Nat) (v : BitVec 32) : State × WriteAns :=
  let n := v.toNat
  if a = Reg.GLB_RSTCTL then
    (if n / 65536 = 0xA5C3 && v.getLsbD 0 then s.rstCtl (v.getLsbD 1) else s, .ok)
  else if a = Reg.GLB_CMT then
    if !s.coreRuns then (s, .ok)
    else
      let r := s.glbCmt (n % 4) (viaOf p)
      (r.1, if r.2 then .busy else .ok)
  else if a = Reg.PWS_CMD then (s.pwsCmd (n % 16), .ok)
  else if a = Reg.GOV_CMD then (s.govOp (n % 8), .ok)
  else if a = Reg.MBUS_ICTL then (if v.getLsbD 31 then s.identityGo else s, .ok)
  else if a = Reg.AMB_CMD then (if n % 4 = 1 then s.ambFlush else if n % 4 = 2 then s.ambFind else s, .ok)
  else if a = Reg.CFL_CMD then (s.cfCmd p (n % 16), .ok)
  else if a = Reg.SEAL_LOCK then (if n % 4 = 1 then s.sealClaim p else if n % 4 = 2 then s.sealGiveUp p else s, .ok)
  else if a = Reg.SEAL_OP then (s.sealOp p (n % 16) (n / 65536), .ok)
  else if a = Reg.DBG_CMD then
    (if n % 4 = 1 then s.dbgUnlock p else if n % 4 = 2 then s.dbgClear p else if n % 4 = 3 then s.dbgProvision p else s, .ok)
  else match (List.range 16).find? (fun w => a = Reg.SEAL_KEYIN w), (List.range 4).find? (fun w => a = Reg.DBG_RESP w),
      (List.range 8).find? (fun w => a = Reg.DBG_KEYIN w) with
    | some w, _, _ => ({ s with sealing := { s.sealing with keyIn := kput s.sealing.keyIn w v } }, .ok)
    | none, some w, _ => ({ s with dbg := { s.dbg with resp := s.dbg.resp.set w v } }, .ok)
    | none, none, some w => ({ s with dbg := { s.dbg with keyIn := s.dbg.keyIn.set w v } }, .ok)
    | none, none, none => (s, .ok)

/-- Registers of the blocks from 0x10_0000 up that act when they are written. -/
def State.actHigh (s : State) (a : Nat) (v : BitVec 32) : State × WriteAns :=
  let n := v.toNat
  if a = Reg.LC_CTRL then
    if v.getLsbD 0 then
      let r := s.lcEnable
      (r.1, if r.2 then .ok else .invalid)
    else (s.lcDisable, .ok)
  else if a = Reg.LC_LOCK then (s.lcLockWrite (n % 256), .ok)
  else if a = Reg.LC_MOP_CMD then (s.mopStart (n % 16) (n / 256 % 256), .ok)
  else if a = Reg.ECC_SCRUB_CMD then (s.scrubCmd v, .ok)
  else if a = Reg.ECC_RMCTL then (s.remapCmd v, .ok)
  else if a = Reg.TWN_CMD then (s.twnCmd (n % 16) (n / 16 % 2), .ok)
  else if a = Reg.COL_CRED_LO then (s.colCred false n, .ok)
  else if a = Reg.COL_CRED_HI then (s.colCred true n, .ok)
  else match (List.range 4).find? (fun w => a = Reg.FTL_THRDATA w), (List.range 16).find? (fun c => a = Reg.DMC_CTRL c),
      (List.range 32).find? (fun c => a = Reg.FCH_CTRL c) with
    | some w, _, _ => ({ s with flash := { s.flash with thr := kput s.flash.thr (s.thrIndex w) v } }, .ok)
    | none, some c, _ => (if v.getLsbD 0 then s.retireDram c else s, .ok)
    | none, none, some c => (if v.getLsbD 0 then s.retireFch c else s, .ok)
    | none, none, none => (s, .ok)

/-- Registers whose bits follow from what the write does. -/
def ownBits (a : Nat) : Bool := a == Reg.LC_CTRL || a == Reg.LC_LOCK

/-- A write to an immediate register (R577, R579). -/
def State.writeNow (s : State) (p : Path) (d : RegDef) (a : Nat) (v : BitVec 32) : State × WriteAns :=
  if seqTable.contains a && s.get Fld.PWS_STATUS_SEQ != 0 then (s.put Fld.PWS_STATUS_WR_LOCKED 1, .ok)
  else if (decide (0x61000 ≤ a) && decide (a < 0x62000)) && !(s.sealOwns p) then (s, .ok)
  else
    let t := if ownBits a then s else s.setReg a (d.after (s.on Fld.GLB_STATUS_LOCKED) (s.reg a) v)
    let r := if a < 0x100000 then t.actLow p a v else t.actHigh a v
    if alertRegs.any (fun e => e.2 = a || e.2 + 4 = a) then (State.alertAfter s r.1 a, r.2) else r

/-! ### A write by a path -/

/-- Registers that no capsule writes (R498, R587). -/
def notByCapsule (a : Nat) : Bool := blockNo a == 7 || a == Reg.GLB_RSTCTL || a == Reg.CFL_CMD

/-- A write of one word by a path. A reserved address takes nothing. -/
def State.regWrite (s : State) (p : Path) (a : Nat) (v : BitVec 32) : State × WriteAns :=
  match regAt a with
  | none => (s, .invalid)
  | some d =>
    if fromCapsule p && notByCapsule a then (s, .denied)
    else if blockNo a == 6 && a != Reg.SEAL_LOCK && s.sealForeign p then (s.noteForeign, .denied)
    else if d.rwl != 0 && s.on Fld.GLB_STATUS_LOCKED then (s.put Fld.GLB_STATUS_LOCK_WR 1, .denied)
    else if d.shadowed then s.writeShadowed p d a v
    else s.writeNow p d a v

def execRegisterWrite (path : Path) (addr : BitVec 24) (value : BitVec 32) (s : State) : Host.Outcome State Fault Refusal :=
  .next (s.regWrite path addr.toNat value).1

def execGlbCommit (path : Path) (s : State) : Host.Outcome State Fault Refusal := s.core (s.glbCmt 1 (viaOf path)).1
def execGlbDiscard (path : Path) (s : State) : Host.Outcome State Fault Refusal := .next (s.glbCmt 2 (viaOf path)).1

end Sys2Proof.Machine
end

