-- ==== Sys2Proof/Machine/TwoWire.lean ====
section
/-! DEFINITION. Sys2Proof/Machine/TwoWire.lean: messages of the management target: writes, reads, the pointer and the window,
PEC, the alert response, the bus timeout (R517 to R530). A message is one command: the window and MBUS_CTRL are those in
force at its START (R520, R525). -/

namespace Sys2Proof.Machine

/-- One byte of CRC-8, polynomial x^8 + x^2 + x + 1 (R525). -/
def crc8Byte (c b : BitVec 8) : BitVec 8 :=
  (List.range 8).foldl (fun (x : BitVec 8) _ => if x.getLsbD 7 then (x <<< 1) ^^^ 0x07 else x <<< 1) (c ^^^ b)

/-- The packet error code of the bytes of a message. -/
def pecOf (bs : List Byte) : Byte := bs.foldl crc8Byte 0

/-- Address byte of the target: MADR strap, and the direction (R518). -/
def State.addrByte (s : State) (read : Bool) : Byte := BitVec.ofNat 8 ((0x58 + s.mbus.madr.toNat) * 2 + read.toNat)

/-- The register that a pointer names in the window (R520). -/
def winAddr (win : Nat) (p : BitVec 16) : Nat := if p.toNat / 4 = 0xFFF0 / 4 then Reg.GLB_WINSEL else win * 65536 + p.toNat / 4 * 4

/-- A block is served (R523): GLB, PWS, GOV, MBUS and AMB always, any other while the chip is powered and not held in reset,
and of those CFL alone in recovery (R506). -/
def State.served (s : State) (a : Nat) : Bool :=
  let b := a / 65536
  decide (b ≤ 4) ||
    ((s.get Fld.PWS_STATUS_SEQ = 2 || s.pw.shut.any (fun x => x.step != .rails)) && !s.pw.mrLow &&
      (b = 5 || !(s.on Fld.CFL_STATUS_RECOVERY)))

/-! ### Writes (R522, R525) -/

/-- The 32-byte buffer of a write: offset in the page, byte, number of the byte in the message; a later byte replaces an
earlier one. -/
def pageBuffer (p : Nat) (data : List Byte) : List (Nat × Byte × Nat) :=
  (data.zip (List.range data.length)).foldl (fun m e => kput m ((p + e.2) % 32) (e.1, e.2)) []

/-- The four bytes of word w of the page, if all were received, and the number of the last that arrived. -/
def wholeWord (buf : List (Nat × Byte × Nat)) (w : Nat) : Option (Nat × BitVec 32) :=
  match kget buf (4 * w), kget buf (4 * w + 1), kget buf (4 * w + 2), kget buf (4 * w + 3) with
  | some a, some b, some c, some d => some (max (max a.2 b.2) (max c.2 d.2), BitVec.ofNat 32 (leNat [a.1, b.1, c.1, d.1]))
  | _, _, _, _ => none

/-- Whole words in the order in which their last byte arrived: arrival, word of the page, value. -/
def wholeWords (buf : List (Nat × Byte × Nat)) : List (Nat × Nat × BitVec 32) :=
  sortBy (fun a b => decide (a.1 ≤ b.1)) ((List.range 8).filterMap (fun w => (wholeWord buf w).map (fun e => (e.1, w, e.2))))

/-- Some bytes of a word arrived, not all. -/
def partWord (buf : List (Nat × Byte × Nat)) (w : Nat) : Bool :=
  (wholeWord buf w).isNone && (List.range 4).any (fun i => (kget buf (4 * w + i)).isSome)

/-- One word of a write. Under FREEZE only GLB, PWS, GOV, MBUS, AMB and DBG take it (Table 18-3). -/
def State.wireWord (s : State) (a : Nat) (v : BitVec 32) : State :=
  if !(s.served a) then s.put Fld.MBUS_STATUS_NOT_READY 1
  else if s.on Fld.DBG_STATUS_FROZEN && !(decide (a / 65536 ≤ 4) || a / 65536 = 7) then s
  else (s.regWrite .twoWire a v).1

/-- The buffer is applied at the P or Sr that ends the write. -/
def State.wireApply (s : State) (ptr : BitVec 16) (data : List Byte) : State :=
  let win := s.get Fld.GLB_WINSEL_WIN
  let page := ptr.toNat / 32 * 32
  let buf := pageBuffer (ptr.toNat % 32) data
  let s := if 32 < ptr.toNat % 32 + data.length then s.put Fld.MBUS_STATUS_WRAP 1 else s
  let s := if (List.range 8).any (partWord buf) then s.put Fld.MBUS_STATUS_PARTIAL 1 else s
  let s := s.count Reg.MBUS_WRITES
  let s := (wholeWords buf).foldl (fun s e => s.wireWord (winAddr win (BitVec.ofNat 16 (page + 4 * e.2.1))) e.2.2) s
  { s with mbus := { s.mbus with pointer := BitVec.ofNat 16 (page + (ptr.toNat + data.length) % 32) } }

/-- A PEC that does not match: nothing of the message is applied (R525). -/
def State.pecBad (s : State) : State :=
  (((s.put Fld.MBUS_STATUS_PEC_ERR 1).count Reg.MBUS_PEC_FAIL).record .mbusPecErr 0 [] 0 (perSecond 0)).emit (.twoWire [] false)

/-- The bytes of a write ahead of its PEC. -/
def State.writeBytes (s : State) (ptr : BitVec 16) (data : List Byte) : List Byte :=
  [s.addrByte false, BitVec.ofNat 8 (ptr.toNat / 256), BitVec.ofNat 8 (ptr.toNat % 256)] ++ data

/-- A write message with its data and the PEC that the controller sent. With PEC_EN the last byte of any write is its PEC. -/
def State.wireWrite (s : State) (ptr : BitVec 16) (data : List Byte) (pec : Option Byte) : State :=
  if s.on Fld.MBUS_CTRL_PEC_EN then
    let all := data ++ pec.toList
    match all.getLast? with
    | some c =>
      let body := all.dropLast
      if pecOf (s.writeBytes ptr body) = c then
        let s := s.emit (.twoWire [] true)
        if body.isEmpty then { s with mbus := { s.mbus with pointer := ptr } } else s.wireApply ptr body
      else s.pecBad
    | none => s.pecBad
  else
    let all := data ++ pec.toList
    let s := s.emit (.twoWire [] true)
    if all.isEmpty then { s with mbus := { s.mbus with pointer := ptr } } else s.wireApply ptr all

def execTwoWireWrite (ptr : BitVec 16) (data : List Byte) (pec : Option Byte) (s : State) : Host.Outcome State Fault Refusal :=
  .next (s.wireWrite ptr data pec)

/-- A set-pointer message: the pointer is loaded, nothing is written (Table 17-1); with PEC_EN a PEC that does not match
leaves the pointer. -/
def execSetPointer (ptr : BitVec 16) (pec : Option Byte) (s : State) : Host.Outcome State Fault Refusal := .next (s.wireWrite ptr [] pec)

/-! ### Reads (R521, R525) -/

/-- One word of a read. -/
def State.wireRead (s : State) (a : Nat) : State × BitVec 32 :=
  if s.served a then s.regRead .twoWire a else (s.put Fld.MBUS_STATUS_NOT_READY 1, 0)

/-- A read in progress: the machine, the pointer, the word latched with its address, the bytes given. -/
structure WireRead where
  st : State
  ptr : BitVec 16
  latch : Option (Nat × BitVec 32) := none
  bytes : List Byte := []

/-- One byte of a read: the first byte of an aligned word latches it. -/
def WireRead.byte (win : Nat) (r : WireRead) : WireRead :=
  let a := winAddr win r.ptr
  let k := match r.latch with
    | some l => if l.1 = a then (r.st, l.2) else r.st.wireRead a
    | none => r.st.wireRead a
  { st := k.1, ptr := r.ptr + 1, latch := some (a, k.2), bytes := r.bytes ++ [BitVec.ofNat 8 (k.2.toNat >>> (8 * (r.ptr.toNat % 4)))] }

/-- len bytes that the controller clocks from a pointer; head is what it sent ahead of them. With PEC_EN the PEC follows
(RDLEN + 1) × 4 bytes, and 0xFF after it. -/
def State.wireReadout (s : State) (ptr : BitVec 16) (len : Nat) (head : List Byte) : State :=
  let win := s.get Fld.GLB_WINSEL_WIN
  let pec := s.on Fld.MBUS_CTRL_PEC_EN
  let n := if pec then min len ((s.get Fld.MBUS_CTRL_RDLEN + 1) * 4) else len
  let r := (List.range n).foldl (fun r _ => WireRead.byte win r) { st := s.count Reg.MBUS_READS, ptr := ptr }
  let tail : List Byte := if n < len then pecOf (head ++ r.bytes) :: List.replicate (len - n - 1) 0xFF else []
  ({ r.st with mbus := { r.st.mbus with pointer := r.ptr } } : State).emit (.twoWire (r.bytes ++ tail) true)

def execTwoWireRead (ptr : BitVec 16) (len : Nat) (s : State) : Host.Outcome State Fault Refusal :=
  .next (s.wireReadout ptr len (s.writeBytes ptr [] ++ [s.addrByte true]))

def execCurrentRead (len : Nat) (s : State) : Host.Outcome State Fault Refusal :=
  .next (s.wireReadout s.mbus.pointer len [s.addrByte true])

/-! ### Alert response and timeout (R527, R530) -/

/-- An alert response read: the straps of the other chips that answer decide the arbitration, a lower address wins, and the
same address wins too. -/
def execAlertResponse (others : List (BitVec 3)) (len : Nat) (s : State) : Host.Outcome State Fault Refusal :=
  .next (if s.mbus.alert then
      if others.all (fun m => decide (s.mbus.madr.toNat ≤ m.toNat)) then
        let b := s.addrByte false
        let bytes := if s.on Fld.MBUS_CTRL_PEC_EN then [b, pecOf [0x19, b]] else [b]
        let s : State := { s with mbus := { s.mbus with alert := false } }
        (s.count Reg.MBUS_ARA_WON).emit (.twoWire (bytes.take (max 1 len)) true)
      else s
    else s.emit (.twoWire [] false))

/-- SCL held low for 25 ms: the interface is reset and the write buffer dropped. -/
def execSclLowTimeout (s : State) : Host.Outcome State Fault Refusal :=
  .next (((s.put Fld.MBUS_STATUS_TIMEOUT 1).count Reg.MBUS_TIMEOUTS).record .mbusTimeout)

end Sys2Proof.Machine
end

