-- ==== Sys2Proof/Machine/Freeze.lean ====
section
/-! DEFINITION. Sys2Proof/Machine/Freeze.lean: FREEZE_N (R554, Table 19-1, Table 19-3). -/

namespace Sys2Proof.Machine

/-- FREEZE begins (R554): tokens and the SEAL lock are released, the refresh debt is paid, DRAM enters self-refresh, T0 is
not cleaned, a roll is abandoned (R569), and the always-on domain stages the event. -/
def State.freeze (s : State) : State :=
  let s := (((s.dropTokens.huAbort.stopHome 0).stopHome 1).sealRelease).dropRoll
  let s := (List.range 16).foldl State.payDebt s
  let s := (List.range 16).foldl (fun s c => if s.dmcState c == 2 || s.dmcState c == 4 then s.put (Fld.DMC_STATUS_STATE c) 3 else s) s
  (s.put Fld.DBG_STATUS_FROZEN 1).record .dbgFreeze

/-- FREEZE_N low for 10 µs: ignored while locked, where its first falling edge after a reset is recorded; once a shutdown has
begun it is recorded only. -/
def execFreezeNAsserted (s : State) : Host.Outcome State Fault Refusal :=
  .next (if s.still then s
    else if !(s.on Fld.DBG_STATUS_UNLOCKED) then
      if s.dbg.refusedSeen then s
      else ({ s with dbg := { s.dbg with refusedSeen := true } } : State).record .dbgFreezeRefused
    else if s.pw.shut.isSome then s.record .dbgFreeze
    else s.freeze)

end Sys2Proof.Machine
end

