-- ==== Sys2Proof/Machine/Admin.lean ====
section
/-! DEFINITION. Sys2Proof/Machine/Admin.lean: IDENTIFY and the log pages (R188 to R190, R353, R401, Tables 05-12 to 05-14, 10-7
and 11-11), self-tests (R191, R192), POWER_STATE (R193, R462, R465). -/

namespace Sys2Proof.Machine

/-! ### Layouts -/

/-- A page of n zero bytes with fields laid into it: offset and bytes. -/
def layout (n : Nat) (fields : List (Nat × List Byte)) : List Byte :=
  fields.foldl (fun p f => p.take f.1 ++ f.2 ++ p.drop (f.1 + f.2.length)) (List.replicate n 0)

/-- ASCII text, padded with spaces. -/
def padText (n : Nat) (t : String) : List Byte :=
  let b := t.toList.map (fun c => BitVec.ofNat 8 c.toNat)
  b ++ List.replicate (n - b.length) 0x20

/-- The unit serial number. -/
def serialBytes : List Byte := ((List.range 4).map (fun w => leBytes 4 (Config.serialWord w).toNat)).flatten

/-- Raw bytes of the dies in service. -/
def State.rawBytes (s : State) : Nat :=
  (((List.range 32).filter s.chanIn).map (fun c => match s.geom c with
    | some g => (g.dies.val - (s.flash.deadDies.filter (fun d => d / 128 = c)).length) * g.dieBlocks * 2 ^ (g.blockLog2.val + 20)
    | none => 0)).foldl (· + ·) 0

/-- T1 bytes available to the pool. -/
def State.t1Bytes (s : State) : Nat := (s.reg Reg.TIER_T1_TOTAL).toNat * granuleBytes

/-- A 64-bit value split over two registers, as bytes. -/
def State.pairBytes (s : State) (lo hi : Nat) : List Byte := leBytes 8 (s.reg64 lo hi)

/-! ### IDENTIFY (R190, Table 05-14) -/

def State.identifyData (s : State) (qp : Qp) : List Byte :=
  layout 4096 [
    (0, padText 16 "Wyndawald"), (16, padText 16 "PM8160-B1-FB"), (32, serialBytes), (48, s.pairBytes Reg.CFL_RUNVER_LO Reg.CFL_RUNVER_HI),
    (56, leBytes 2 1), (58, leBytes 1 qp.home), (59, leBytes 1 (!(s.paired qp.home)).toNat), (60, leBytes 2 qp.pd),
    (62, leBytes 1 (s.get Fld.COL_CTRL_WORKER + 2 * s.get Fld.COL_CTRL_MANAGER)),
    (64, leBytes 8 s.t1Bytes), (72, leBytes 8 (s.usable * unitBytes)), (80, leBytes 4 1048576), (84, leBytes 4 4194304), (88, [64]),
    (92, leBytes 4 2147483648), (96, leBytes 4 (s.reg Reg.TWN_EPOCH).toNat), (100, leBytes 4 4000),
    (104, leBytes 1 (s.get Fld.CQI_CTRL_PWRMODE)),
    (108, (([10, 20, 1000, 3000, 2000000, 6000000] : List Nat).map (leBytes 4)).flatten),
    (132, leBytes 4 (s.reg Reg.PWS_BUDGET).toNat), (136, leBytes 4 90),
    (140, leBytes 4 (1200 + 60 * ((s.rawBytes + 2 ^ 44 - 1) / 2 ^ 44)))]

def execIdentify (c : CapRef) (s : State) : Host.Outcome State Fault Refusal :=
  s.core (s.startCap c .identify (fun qp bs s => (s.toHost c bs ((s.identifyData qp).take (capLen bs))).okCap c))

/-! ### LOG_READ (R188) -/

/-- Page 0x01: the error log of the connection (R189). -/
def pageErrors (qp : Qp) : List Byte :=
  layout 4096 ((0, leBytes 8 qp.errTotal) :: (8, leBytes 2 qp.errLog.length) ::
    ((List.range qp.errLog.length).zip qp.errLog).map (fun e => (64 + 64 * e.1, e.2.take 64)))

/-- Page 0x02: the self-test log of the namespace, a test that runs first. -/
def State.pageTests (s : State) (qp : Qp) : State × List Byte :=
  let r := s.testSoFar
  let now := (s.cqi.tests.filter (fun t => t.home = qp.home && t.pd = qp.pd)).map (fun t => s.testEntry t 4 r.2)
  let es := (now ++ (kget s.cqi.testLog (qp.home * 65536 + qp.pd)).getD []).take 20
  (if now.isEmpty then s else r.1,
    layout 672 ((0, leBytes 1 es.length) :: ((List.range es.length).zip es).map (fun e => (32 + 32 * e.1, e.2.take 32))))

/-- SPACE of page 0x03. -/
def State.spaceCode (s : State) : Nat :=
  if s.flash.readOnly then 3
  else if s.usable * 97 ≤ s.mappedUnits * 100 then 2
  else if s.usable * 90 ≤ s.mappedUnits * 100 then 1
  else 0

/-- Units with a poisoned line now. -/
def State.poisonedUnits (s : State) : Nat :=
  (((s.flash.map.filter (fun e => e.2.poison != 0)).map (·.1) ++ (s.tier.frames.filter (fun e => e.2.poison != 0)).map (·.1)).eraseDups).length

/-- Page 0x03: tier and space summary (Table 10-7). -/
def State.pageSpace (s : State) : List Byte :=
  let chans := (List.range 32).filter s.chanIn
  let spare := match chans with
    | [] => 0
    | c :: cs => cs.foldl (fun m c => min m (s.spares c)) (s.spares c)
  let retired := (chans.map (fun c => (s.blocksIn c .retired).length)).foldl (· + ·) 0
  layout 512 [
    (0, leBytes 8 s.rawBytes), (8, leBytes 8 (s.usable * unitBytes)), (16, leBytes 8 (s.mappedUnits * unitBytes)),
    (24, leBytes 4 s.serviceSbs), (28, leBytes 4 s.freeSbs), (32, leBytes 4 s.reserveSb), (36, leBytes 2 spare), (38, leBytes 1 s.spaceCode),
    (39, leBytes 1 chans.length), (40, leBytes 4 retired), (44, leBytes 2 s.wearMean), (46, leBytes 2 s.wearMax),
    (48, leBytes 8 s.flash.destaged), (56, leBytes 8 s.flash.programmed), (64, leBytes 8 s.flash.retries), (72, leBytes 8 s.poisonedUnits),
    (80, leBytes 8 s.t1Bytes), (88, leBytes 8 s.dirtyBytes), (96, leBytes 4 (s.reg Reg.PWS_BUDGET).toNat),
    (100, leBytes 4 (s.flash.ckptHours % 2 ^ 24))]

/-- A home set in page 0x04 (Table 11-11). -/
def State.pageHome (s : State) (h : Nat) : List (Nat × List Byte) :=
  let x := s.home h
  let b := 48 * h
  let mine := s.on Fld.TWN_RESYNC_ACTIVE && s.get Fld.TWN_RESYNC_HOME = h
  [(b, leBytes 1 (s.role h)), (b + 1, leBytes 1 (s.pairState h)), (b + 2, leBytes 1 x.lease.toNat), (b + 4, leBytes 4 (s.term h)),
   (b + 8, leBytes 8 x.epoch), (b + 16, leBytes 4 x.takeovers), (b + 20, leBytes 4 x.handovers), (b + 24, leBytes 4 (x.changeHours % 2 ^ 24)),
   (b + 28, leBytes 1 (if mine then s.get Fld.TWN_RESYNC_PERCENT else 0)), (b + 29, leBytes 1 (if mine then s.get Fld.TWN_RESYNC_FULL else 0))]

/-- Page 0x04: twin state (R401). -/
def State.pageTwin (s : State) : List Byte :=
  layout 256 (s.pageHome 0 ++ s.pageHome 1 ++ [
    (96, leBytes 4 (s.reg Reg.TWN_HEALTH).toNat), (100, leBytes 4 (s.reg Reg.TWN_PHEALTH).toNat),
    (104, ((List.range 4).map (fun w => leBytes 4 (Config.partnerSerial w).toNat)).flatten),
    (120, leBytes 1 (s.get Fld.TWN_STATUS_LANES)), (121, leBytes 1 (s.get Fld.TWN_CTRL_FAILBACK)), (122, leBytes 1 s.sideA.toNat),
    (124, leBytes 4 (s.get Fld.TWN_LINK_RTT)), (128, leBytes 8 s.twin.crcErrs), (136, leBytes 8 s.twin.resent)])

/-- A page with its bytes; none for a number that Table 05-12 does not list. -/
def State.logPage (s : State) (qp : Qp) (n : Nat) : Option (State × List Byte) :=
  match n with
  | 1 => some (s, pageErrors qp)
  | 2 => some (s.pageTests qp)
  | 3 => some (s, s.pageSpace)
  | 4 => some (s, s.pageTwin)
  | _ => none

def State.capLog (s : State) (c : CapRef) (qp : Qp) (bs : List Byte) : State :=
  let n := capField bs 32 1
  match s.logPage qp n with
  | some (t, page) =>
    if page.length ≤ capOff bs || (n = 1 && decide (capLen bs < 64)) then s.failCap c stInvalidField
    else
      let data := (page.drop (capOff bs)).take (capLen bs)
      (t.toHost c bs data).okCap c data.length
  | none => s.failCap c stInvalidField

def execLogRead (c : CapRef) (s : State) : Host.Outcome State Fault Refusal :=
  s.core (s.startCap c .logRead (fun qp bs s => s.capLog c qp bs))

/-! ### Self-tests (R191, R192) -/

/-- Host work on a namespace is pending, apart from one capsule. -/
def State.hostBusy (s : State) (home pd : Nat) (c : CapRef) : Bool :=
  let mine (n : Nat) : Bool := match s.qp n with
    | some q => q.home = home && q.pd = pd
    | none => false
  s.net.txns.any (fun t => t.home = home && mine t.qpn) ||
    s.cqi.queues.any (fun e => mine (e.1 / 64) &&
      e.2.slots.any (fun x => x.st == .running && !(e.1 = queueKey c.qpn c.queue && x.idx = c.slot)))

/-- A SELFTEST is scheduled: BUSY while another runs on the namespace; a TYPE that Table 05-6 does not list gives
INVALID_FIELD. It waits while host work is pending or the governor refuses its class. -/
def State.capTest (s : State) (c : CapRef) (qp : Qp) (typ : Nat) : State :=
  if typ != 1 && typ != 2 then s.failCap c stInvalidField
  else if s.testing qp.home qp.pd then s.failCap c stBusy
  else
    let t : SelfTest := { home := qp.home, pd := qp.pd, typ := typ, suspended := s.hostBusy qp.home qp.pd c || !(s.admits 3), qpn := c.qpn }
    ({ s with cqi := { s.cqi with tests := s.cqi.tests ++ [t] } } : State).okCap c

def execSelftestShort (c : CapRef) (s : State) : Host.Outcome State Fault Refusal :=
  s.core (s.startCap c .selftestShort (fun qp bs s => s.capTest c qp (capField bs 32 1)))
def execSelftestExtended (c : CapRef) (s : State) : Host.Outcome State Fault Refusal :=
  s.core (s.startCap c .selftestExtended (fun qp bs s => s.capTest c qp (capField bs 32 1)))

/-- The test of a namespace. -/
def State.testOf (s : State) (home pd : Nat) : Option SelfTest := s.cqi.tests.find? (fun t => t.home = home && t.pd = pd)

/-- A test ends: its log entry and SELFTEST_DONE (R191). -/
def State.endTest (s : State) (t : SelfTest) (result units : Nat) (fields : List Byte) : State :=
  let s := (s.logTest t result fields).notify t.qpn 0 0x000A 0 result units 0
  if result = 1 then s.record .cqiSelftestFail (unitHome t.home) (leBytes 2 t.pd) else s

/-- TYPE 0x0F aborts the running test with result 2; with none running it completes without effect. -/
def State.capTestAbort (s : State) (c : CapRef) (qp : Qp) : State :=
  match s.testOf qp.home qp.pd with
  | some t =>
    let r := s.testSoFar
    (r.1.endTest t 2 (capField r.2 12 4) r.2).okCap c
  | none => s.okCap c

def execSelftestAbort (c : CapRef) (s : State) : Host.Outcome State Fault Refusal :=
  s.core (s.startCap c .selftestAbort (fun qp _ s => s.capTestAbort c qp))

/-- The namespace has been idle for RESUME_IDLE: the test goes on, unless the governor refuses its class (R450). -/
def execSelftestResume (home : Fin 2) (pd : BitVec 16) (s : State) : Host.Outcome State Fault Refusal :=
  s.core (if s.admits 3 then
      { s with cqi := { s.cqi with tests := s.cqi.tests.map (fun t => if t.home = home.val && t.pd = pd.toNat then { t with suspended := false } else t) } }
    else s)

/-- A test that runs ends with result 0 or 1. -/
def execSelftestEnd (home : Fin 2) (pd : BitVec 16) (result : Fin 5) (failKey : BitVec 32) (failOffset : BitVec 64)
    (units healed notHealed : BitVec 32) (s : State) : Host.Outcome State Fault Refusal :=
  s.core (match s.testOf home.val pd.toNat with
    | some t =>
      if t.suspended || decide (2 ≤ result.val) then s
      else (s.endTest t result.val units.toNat
        (testFields failKey.toNat failOffset.toNat units.toNat healed.toNat notHealed.toNat)).settle
    | none => s)

/-! ### POWER_STATE (R193, R462, R465) -/

/-- Action 0 reports; a value that Table 05-6 does not list gives INVALID_FIELD. -/
def execPowerStateReport (c : CapRef) (s : State) : Host.Outcome State Fault Refusal :=
  s.core (s.startCap c .powerReport (fun _ bs s =>
    if capField bs 32 1 = 0 then s.okCap c (s.get Fld.GOV_STATUS_PSTATE) else s.failCap c stInvalidField))

/-- P1 and P2: a refused request completes with BUSY. -/
def State.capPstate (s : State) (c : CapRef) (p : Nat) : State :=
  let r := s.requestP p
  if r.2 then r.1.okCap c (r.1.get Fld.GOV_STATUS_PSTATE) else s.failCap c stBusy

def execPowerStateP0 (c : CapRef) (s : State) : Host.Outcome State Fault Refusal :=
  s.core (s.startCap c .powerP0 (fun _ _ s =>
    let s := s.wake 4
    s.okCap c (s.get Fld.GOV_STATUS_PSTATE)))
def execPowerStateP1 (c : CapRef) (s : State) : Host.Outcome State Fault Refusal :=
  s.core (s.startCap c .powerP1 (fun _ _ s => s.capPstate c 1))
def execPowerStateP2 (c : CapRef) (s : State) : Host.Outcome State Fault Refusal :=
  s.core (s.startCap c .powerP2 (fun _ _ s => s.capPstate c 2))

/-- P3: the capsule completes with RESULT 0 before the hand-over begins (R465). -/
def execPowerStateP3 (c : CapRef) (s : State) : Host.Outcome State Fault Refusal :=
  s.core (s.startCap c .powerP3 (fun _ _ s => if s.grants 3 then ((s.okCap c 0).requestP 3).1 else s.failCap c stBusy))

end Sys2Proof.Machine
end

