-- ==== Sys2Proof/Machine/RegCaps.lean ====
section
/-! DEFINITION. Sys2Proof/Machine/RegCaps.lean: what READ responses bring the device, configuration, firmware and register
capsules (R103, R157, R168, R179, R498, R512 to R514, R561 to R563, R584 to R588). -/

namespace Sys2Proof.Machine

/-! ### REG_READ, REG_WRITE (R585 to R588) -/

/-- Both registers of a COUNT 2 read are of one block; a reserved address is no register. -/
def regReadOk (a n : Nat) : Bool :=
  a % 4 = 0 && decide (1 ≤ n) && decide (n ≤ 2) && (regAt a).isSome && (n = 1 || ((regAt (a + 4)).isSome && blockNo a = blockNo (a + 4)))

def State.capRegRead (s : State) (c : CapRef) (bs : List Byte) : State :=
  let a := capField bs 32 3
  let n := capField bs 36 1
  let p : Path := .capsule (BitVec.ofNat 24 c.qpn)
  if !(regReadOk a n) then s.failCap c stInvalidField
  else
    let r := s.regRead p a
    if n = 1 then r.1.okCap c r.2.toNat
    else
      let r2 := r.1.regRead p (a + 4)
      r2.1.okCap c (r.2.toNat + r2.2.toNat * 2 ^ 32)

def execRegRead (c : CapRef) (s : State) : Host.Outcome State Fault Refusal :=
  s.core (s.startCap c .regRead (fun _ bs s => s.capRegRead c bs))

def State.capRegWrite (s : State) (c : CapRef) (bs : List Byte) : State :=
  let a := capField bs 32 3
  if a % 4 != 0 then s.failCap c stInvalidField
  else
    let r := s.regWrite (.capsule (BitVec.ofNat 24 c.qpn)) a (BitVec.ofNat 32 (capField bs 36 4))
    match r.2 with
    | .ok => r.1.okCap c
    | .denied => r.1.failCap c stAccessDenied
    | .invalid => r.1.failCap c stInvalidField
    | .busy => r.1.failCap c stBusy

def execRegWrite (c : CapRef) (s : State) : Host.Outcome State Fault Refusal :=
  s.core (s.startCap c .regWrite (fun _ bs s => s.capRegWrite c bs))

/-! ### CONFIG_STAGE, CONFIG_COMMIT (R561 to R563) -/

/-- An admin capsule reads its host buffer by one RDMA READ. -/
def State.fetchBuffer (s : State) (c : CapRef) (bs : List Byte) : State :=
  (s.setSegs c 1 1).newReq c.qpn (.dataRead c 0) (capField bs 16 8) (BitVec.ofNat 32 (capField bs 24 4)) (capLen bs) [] none none

def execConfigStage (c : CapRef) (s : State) : Host.Outcome State Fault Refusal :=
  s.core (s.startCap c .configStage (fun _ bs s =>
    if capLen bs % 8 != 0 || decide (4096 < capLen bs) then s.failCap c stInvalidField
    else if capLen bs = 0 then s.okCap c 0
    else s.fetchBuffer c bs))

/-- The entries of a CONFIG_STAGE buffer: address, value. -/
def stageEntries (data : List Byte) : List (Nat × BitVec 32) :=
  (List.range (data.length / 8)).map (fun i => (leNat ((data.drop (8 * i)).take 4), BitVec.ofNat 32 (leNat ((data.drop (8 * i + 4)).take 4))))

/-- Selectors of R562. -/
def isSelector (a : Nat) : Bool := a = Reg.KEY_PDSEL || a = Reg.TIER_TSEL

/-- An entry names a shadowed register that it may write, or a selector. -/
def State.stageable (s : State) (a : Nat) : Bool :=
  isSelector a || match regAt a with
    | some d => d.shadowed && !(d.rwl != 0 && s.on Fld.GLB_STATUS_LOCKED)
    | none => false

/-- One entry of a CONFIG_STAGE takes effect or is staged. -/
def State.stageOne (s : State) (p : Path) (e : Nat × BitVec 32) : State × WriteAns :=
  match regAt e.1 with
  | some d => if isSelector e.1 then s.writeNow p d e.1 e.2 else s.writeShadowed p d e.1 e.2
  | none => (s, .ok)

/-- The buffer of a CONFIG_STAGE has arrived (R561, R562): all of it is staged, or nothing. -/
def State.stageBuffer (s : State) (c : CapRef) (data : List Byte) : State :=
  let p : Path := .capsule (BitVec.ofNat 24 c.qpn)
  let es := stageEntries data
  let r := es.foldl (fun (x : State × Bool) e =>
    let y := x.1.stageOne p e
    (y.1, x.2 && y.2 == .ok)) (s, true)
  if es.all (fun e => s.stageable e.1) && r.2 then r.1.okCap c (es.filter (fun e => !(isSelector e.1))).length
  else s.failCap c stInvalidField

/-- CONFIG_COMMIT: its completion waits for the end of an accepted commit (R568). -/
def execConfigCommit (c : CapRef) (s : State) : Host.Outcome State Fault Refusal :=
  s.core (s.startCap c .configCommit (fun _ _ s =>
    let r := s.commit (.capsule c.qpn c.queue c.slot)
    match r.2 with
    | .busy => s.failCap c stBusy
    | .done => r.1.okCap c 0
    | .accepted _ => r.1.updSlot c (fun x => { x with segs := 1 })))

def execConfigDiscard (c : CapRef) (s : State) : Host.Outcome State Fault Refusal :=
  s.core (s.startCap c .configDiscard (fun _ _ s => (s.discard (.capsule c.qpn c.queue c.slot)).okCap c 0))

/-! ### FW_STAGE, FW_ACTIVATE (R512 to R514) -/

/-- OFFSET and LENGTH are multiples of 4 KiB within the 8 MiB of a slot. -/
def execFwStage (c : CapRef) (s : State) : Host.Outcome State Fault Refusal :=
  s.core (s.startCap c .fwStage (fun _ bs s =>
    if capOff bs % 4096 != 0 || capLen bs % 4096 != 0 || decide (slotBytes < capOff bs + capLen bs) then s.failCap c stInvalidField
    else if capLen bs = 0 then s.okCap c
    else s.fetchBuffer c bs))

/-- A page is erased, programmed and marked. -/
def State.stagePage (s : State) (page : Nat) (data : List Byte) : State :=
  let a := s.stagedSlot * slotBytes + page * 4096
  let s := ((s.cfErased (a / 4096)).cfStore a data).countBy Reg.CFL_PROGRAMS 512
  { s with boot := { s.boot with staged := if s.boot.staged.contains page then s.boot.staged else page :: s.boot.staged } }

/-- The pages of a FW_STAGE have arrived. OFFSET 0 clears the staged map and erases the first sector; a page that cannot be
programmed for want of supply ends the capsule with MEDIA_ERROR (R502, R512). -/
def State.stageImage (s : State) (c : CapRef) (off : Nat) (data : List Byte) : State :=
  if s.on Fld.CFL_STATUS_BROWNOUT then s.failCap c stMediaError
  else
    let s : State := if off = 0 then (({ s with boot := { s.boot with staged := [] } } : State).cfErased (s.stagedSlot * slotBytes / 4096)) else s
    ((List.range (data.length / 4096)).foldl (fun s i => s.stagePage (off / 4096 + i) ((data.drop (4096 * i)).take 4096)) s).okCap c

def execFwActivate (c : CapRef) (s : State) : Host.Outcome State Fault Refusal :=
  s.core (s.startCap c .fwActivate (fun _ _ s =>
    let r := s.fwActivate
    match r.2 with
    | some st => s.failCap c st
    | none => (r.1.okCap c).handAll .activate))

/-! ### READ responses (R103) -/

/-- Data that a capsule asked for has arrived: a segment of a WRITE becomes a transaction, the buffer of an admin capsule is
used (R168). -/
def State.bufferArrived (s : State) (c : CapRef) (seg : Nat) (data : List Byte) : State :=
  match s.slot c with
  | some x =>
    if x.st != .running then s
    else match capRow c.queue x.bytes with
      | .write => s.segTxn c seg (capKey x.bytes) (capOff x.bytes + seg * segBytes) data.length rWrite (.write data)
      | .configStage => s.stageBuffer c data
      | .fwStage => s.stageImage c (capOff x.bytes) data
      | _ => s
  | none => s

/-- A READ of the device is answered whole. -/
def State.readAnswered (s : State) (n : Nat) (kind : ReqKind) (data : List Byte) : State :=
  match kind with
  | .queueTable => s.bind n data
  | .fetch k first count => s.fetched n k first count data
  | .dataRead c seg => s.bufferArrived c seg data
  | _ => s

/-- A response packet: it acknowledges what came before its READ, and carries the bytes that are due next. Any other packet is
not what the requester expects, and the local ACK timeout has the READ repeated whole. -/
def State.readResponse (s : State) (n : Nat) (q : Qp) (p : Pkt) (pos : Pos) (data : List Byte) : State :=
  match ackReqs (p.psn - 1) q.reqs with
  | r :: rest =>
    let i := psnDist r.psn p.psn
    let due := min q.pmtu (r.rlen - i * q.pmtu)
    let place : Pos := if r.count = 1 then .only else if i = 0 then .first else if i + 1 = r.count then .last else .middle
    if r.sent && r.kind.isRead && decide (i < r.count) && r.got.length = i * q.pmtu && data.length = due && pos == place then
      let got := r.got ++ data
      if i + 1 < r.count then
        let s := s.setReqs n ({ r with got := got } :: rest)
        s.updQp n (fun q => { q with retry := 0 })
      else ((((s.setReqs n rest).readAnswered n r.kind got).pumpReqs n)).settle
    else s
  | [] => s

def execRdmaReadResponse (p : Pkt) (pos : Pos) (data : List Byte) (s : State) : Host.Outcome State Fault Refusal :=
  s.reqSide p (fun n q s => s.readResponse n q p pos data)

end Sys2Proof.Machine
end

