-- ==== Sys2Proof/Machine/Dispatch.lean ====
section
/-! DEFINITION. Sys2Proof/Machine/Dispatch.lean: the meaning of every command of the table, one arm each. -/

namespace Sys2Proof.Machine

def exec (i : Instr) (s : State) : Host.Outcome State Fault Refusal :=
  match i with
  | .send p pos imm data => Sys2Proof.Machine.execSend p pos imm data s
  | .rdmaWrite p pos reth data => Sys2Proof.Machine.execRdmaWrite p pos reth data s
  | .rdmaWriteWithImmediate p pos reth imm data => Sys2Proof.Machine.execRdmaWriteWithImmediate p pos reth imm data s
  | .rdmaReadRequest p reth => Sys2Proof.Machine.execRdmaReadRequest p reth s
  | .compareAndSwap p va key swap cmp => Sys2Proof.Machine.execCompareAndSwap p va key swap cmp s
  | .fetchAndAdd p va key add => Sys2Proof.Machine.execFetchAndAdd p va key add s
  | .atomicWrite p reth data => Sys2Proof.Machine.execAtomicWrite p reth data s
  | .rdmaFlush p reth global persist rangeSel => Sys2Proof.Machine.execRdmaFlush p reth global persist rangeSel s
  | .acknowledge p => Sys2Proof.Machine.execAcknowledge p s
  | .sequenceNakReceived p => Sys2Proof.Machine.execSequenceNakReceived p s
  | .rnrNakReceived p => Sys2Proof.Machine.execRnrNakReceived p s
  | .errorNakReceived p kind => Sys2Proof.Machine.execErrorNakReceived p kind s
  | .rdmaReadResponse p pos data => Sys2Proof.Machine.execRdmaReadResponse p pos data s
  | .cnp p => Sys2Proof.Machine.execCnp p s
  | .unsupportedRdmaOpcode p opcode => Sys2Proof.Machine.execUnsupportedRdmaOpcode p opcode s
  | .req c m => Sys2Proof.Machine.execReq c m s
  | .rtu c => Sys2Proof.Machine.execRtu c s
  | .rej c => Sys2Proof.Machine.execRej c s
  | .mra c => Sys2Proof.Machine.execMra c s
  | .dreq c => Sys2Proof.Machine.execDreq c s
  | .drep c => Sys2Proof.Machine.execDrep c s
  | .lap c => Sys2Proof.Machine.execLap c s
  | .apr c => Sys2Proof.Machine.execApr c s
  | .sidrReq c => Sys2Proof.Machine.execSidrReq c s
  | .pfcFrame port enable quantaNonZero => Sys2Proof.Machine.execPfcFrame port enable quantaNonZero s
  | .lldpFrame port => Sys2Proof.Machine.execLldpFrame port s
  | .arpRequest port target => Sys2Proof.Machine.execArpRequest port target s
  | .neighbourSolicitation port target => Sys2Proof.Machine.execNeighbourSolicitation port target s
  | .echoRequest port ipv6 dst => Sys2Proof.Machine.execEchoRequest port ipv6 dst s
  | .otherFrame port fcsOk => Sys2Proof.Machine.execOtherFrame port fcsOk s
  | .listenFrame port flen => Sys2Proof.Machine.execListenFrame port flen s
  | .portFecLock port => Sys2Proof.Machine.execPortFecLock port s
  | .portLinkLoss port => Sys2Proof.Machine.execPortLinkLoss port s
  | .linkTrainingTimeout port => Sys2Proof.Machine.execLinkTrainingTimeout port s
  | .pfcXoffRepeat port cls => Sys2Proof.Machine.execPfcXoffRepeat port cls s
  | .pauseStormTimeout port cls => Sys2Proof.Machine.execPauseStormTimeout port cls s
  | .ackCoalesceTimeout qpn => Sys2Proof.Machine.execAckCoalesceTimeout qpn s
  | .localAckTimeout qpn => Sys2Proof.Machine.execLocalAckTimeout qpn s
  | .errorHoldExpiry qpn => Sys2Proof.Machine.execErrorHoldExpiry qpn s
  | .rpTimerExpiry qpn => Sys2Proof.Machine.execRpTimerExpiry qpn s
  | .contextFetchDone qpn => Sys2Proof.Machine.execContextFetchDone qpn s
  | .contextSpillDone qpn => Sys2Proof.Machine.execContextSpillDone qpn s
  | .contextVictimSpill qpn => Sys2Proof.Machine.execContextVictimSpill qpn s
  | .keyCacheFill key => Sys2Proof.Machine.execKeyCacheFill key s
  | .regionTransitionResolved region => Sys2Proof.Machine.execRegionTransitionResolved region s
  | .exceptionNakBuilt qpn => Sys2Proof.Machine.execExceptionNakBuilt qpn s
  | .exceptionQueueRoom slice => Sys2Proof.Machine.execExceptionQueueRoom slice s
  | .slotFreed slice => Sys2Proof.Machine.execSlotFreed slice s
  | .steeringChange index slice => Sys2Proof.Machine.execSteeringChange index slice s
  | .clusterFault cluster => Sys2Proof.Machine.execClusterFault cluster s
  | .dirtyBudgetRoom home => Sys2Proof.Machine.execDirtyBudgetRoom home s
  | .t2FillDone unit codeword decoded => Sys2Proof.Machine.execT2FillDone unit codeword decoded s
  | .t2Deadline txn => Sys2Proof.Machine.execT2Deadline txn s
  | .confirm home entries => Sys2Proof.Machine.execConfirm home entries s
  | .healReq home unit number => Sys2Proof.Machine.execHealReq home unit number s
  | .healData home unit number piece data poison => Sys2Proof.Machine.execHealData home unit number piece data poison s
  | .healFail home unit number => Sys2Proof.Machine.execHealFail home unit number s
  | .lehrDestageStart => Sys2Proof.Machine.execLehrDestageStart s
  | .destageProgramVerified unit => Sys2Proof.Machine.execDestageProgramVerified unit s
  | .floatGranuleFreed granule => Sys2Proof.Machine.execFloatGranuleFreed granule s
  | .transientFrameCleaned unit => Sys2Proof.Machine.execTransientFrameCleaned unit s
  | .parisonLayerLoaded stream layer healed => Sys2Proof.Machine.execParisonLayerLoaded stream layer healed s
  | .pinLoadDone c => Sys2Proof.Machine.execPinLoadDone c s
  | .streamStallTimeout stream => Sys2Proof.Machine.execStreamStallTimeout stream s
  | .fetchGrant home => Sys2Proof.Machine.execFetchGrant home s
  | .sqDoorbell p key offset value => Sys2Proof.Machine.execSqDoorbell p key offset value s
  | .resumeDoorbell p key offset sqTail => Sys2Proof.Machine.execResumeDoorbell p key offset sqTail s
  | .resumeReplayDoorbell p key offset sqTail => Sys2Proof.Machine.execResumeReplayDoorbell p key offset sqTail s
  | .cqDoorbell p key offset value => Sys2Proof.Machine.execCqDoorbell p key offset value s
  | .nqDoorbell p key offset value => Sys2Proof.Machine.execNqDoorbell p key offset value s
  | .capsuleRead c => Sys2Proof.Machine.execCapsuleRead c s
  | .capsuleWrite c => Sys2Proof.Machine.execCapsuleWrite c s
  | .capsuleFlush c => Sys2Proof.Machine.execCapsuleFlush c s
  | .capsuleFlushDeep c => Sys2Proof.Machine.execCapsuleFlushDeep c s
  | .zero c => Sys2Proof.Machine.execZero c s
  | .trim c => Sys2Proof.Machine.execTrim c s
  | .copy c => Sys2Proof.Machine.execCopy c s
  | .identify c => Sys2Proof.Machine.execIdentify c s
  | .regionCreate c => Sys2Proof.Machine.execRegionCreate c s
  | .regionModify c => Sys2Proof.Machine.execRegionModify c s
  | .regionDestroy c => Sys2Proof.Machine.execRegionDestroy c s
  | .keyGrant c => Sys2Proof.Machine.execKeyGrant c s
  | .keyGrantExisting c => Sys2Proof.Machine.execKeyGrantExisting c s
  | .keyRevoke c => Sys2Proof.Machine.execKeyRevoke c s
  | .objectPlace c => Sys2Proof.Machine.execObjectPlace c s
  | .streamOpen c => Sys2Proof.Machine.execStreamOpen c s
  | .streamAdvance c => Sys2Proof.Machine.execStreamAdvance c s
  | .streamClose c => Sys2Proof.Machine.execStreamClose c s
  | .logRead c => Sys2Proof.Machine.execLogRead c s
  | .selftestShort c => Sys2Proof.Machine.execSelftestShort c s
  | .selftestExtended c => Sys2Proof.Machine.execSelftestExtended c s
  | .selftestAbort c => Sys2Proof.Machine.execSelftestAbort c s
  | .selftestResume home pd => Sys2Proof.Machine.execSelftestResume home pd s
  | .selftestEnd home pd result failKey failOffset units healed notHealed => Sys2Proof.Machine.execSelftestEnd home pd result failKey failOffset units healed notHealed s
  | .powerStateReport c => Sys2Proof.Machine.execPowerStateReport c s
  | .powerStateP0 c => Sys2Proof.Machine.execPowerStateP0 c s
  | .powerStateP1 c => Sys2Proof.Machine.execPowerStateP1 c s
  | .powerStateP2 c => Sys2Proof.Machine.execPowerStateP2 c s
  | .powerStateP3 c => Sys2Proof.Machine.execPowerStateP3 c s
  | .qresumeDiscard c => Sys2Proof.Machine.execQresumeDiscard c s
  | .qresumeReplay c => Sys2Proof.Machine.execQresumeReplay c s
  | .configStage c => Sys2Proof.Machine.execConfigStage c s
  | .configCommit c => Sys2Proof.Machine.execConfigCommit c s
  | .configDiscard c => Sys2Proof.Machine.execConfigDiscard c s
  | .fwStage c => Sys2Proof.Machine.execFwStage c s
  | .fwActivate c => Sys2Proof.Machine.execFwActivate c s
  | .regRead c => Sys2Proof.Machine.execRegRead c s
  | .regWrite c => Sys2Proof.Machine.execRegWrite c s
  | .unknownCapsuleOpcode c => Sys2Proof.Machine.execUnknownCapsuleOpcode c s
  | .p1IdleExpiry => Sys2Proof.Machine.execP1IdleExpiry s
  | .p2IdleExpiry => Sys2Proof.Machine.execP2IdleExpiry s
  | .fenceComplete fence => Sys2Proof.Machine.execFenceComplete fence s
  | .fenceTimeout fence => Sys2Proof.Machine.execFenceTimeout fence s
  | .lcEnable => Sys2Proof.Machine.execLcEnable s
  | .lcDisable => Sys2Proof.Machine.execLcDisable s
  | .lcDisableDone => Sys2Proof.Machine.execLcDisableDone s
  | .lcLockSet way => Sys2Proof.Machine.execLcLockSet way s
  | .lcLockSetDone => Sys2Proof.Machine.execLcLockSetDone s
  | .lcLockClear way => Sys2Proof.Machine.execLcLockClear way s
  | .invAll => Sys2Proof.Machine.execInvAll s
  | .invRange => Sys2Proof.Machine.execInvRange s
  | .cleanRange => Sys2Proof.Machine.execCleanRange s
  | .cleanInvRange => Sys2Proof.Machine.execCleanInvRange s
  | .zeroLine => Sys2Proof.Machine.execZeroLine s
  | .lockFill wayMask => Sys2Proof.Machine.execLockFill wayMask s
  | .cleanAll => Sys2Proof.Machine.execCleanAll s
  | .cleanInvAll => Sys2Proof.Machine.execCleanInvAll s
  | .lcMopReservedOp op => Sys2Proof.Machine.execLcMopReservedOp op s
  | .lcMopDone => Sys2Proof.Machine.execLcMopDone s
  | .lcFillDone line => Sys2Proof.Machine.execLcFillDone line s
  | .fillBufferFreed bank => Sys2Proof.Machine.execFillBufferFreed bank s
  | .lcBankInvalidateDone bank => Sys2Proof.Machine.execLcBankInvalidateDone bank s
  | .dramTrainingDone chan ok drfm => Sys2Proof.Machine.execDramTrainingDone chan ok drfm s
  | .warmRestoreDone failed => Sys2Proof.Machine.execWarmRestoreDone failed s
  | .dmcRequestEnqueued a write => Sys2Proof.Machine.execDmcRequestEnqueued a write s
  | .dmcQueueEntryFreed chan sub write => Sys2Proof.Machine.execDmcQueueEntryFreed chan sub write s
  | .dramReadDone a line first again => Sys2Proof.Machine.execDramReadDone a line first again s
  | .dramWriteRetired a => Sys2Proof.Machine.execDramWriteRetired a s
  | .rowIdleClose chan sub bank => Sys2Proof.Machine.execRowIdleClose chan sub bank s
  | .dmcAgeMax chan sub seq => Sys2Proof.Machine.execDmcAgeMax chan sub seq s
  | .rankPowerDown chan rank => Sys2Proof.Machine.execRankPowerDown chan rank s
  | .refreshDue chan rank => Sys2Proof.Machine.execRefreshDue chan rank s
  | .refreshCatchup chan rank => Sys2Proof.Machine.execRefreshCatchup chan rank s
  | .mr4Poll chan hot => Sys2Proof.Machine.execMr4Poll chan hot s
  | .caparAlert chan sub => Sys2Proof.Machine.execCaparAlert chan sub s
  | .caparAlertCleared chan sub window ranks => Sys2Proof.Machine.execCaparAlertCleared chan sub window ranks s
  | .dmcRetire chan => Sys2Proof.Machine.execDmcRetire chan s
  | .dmcChannelEmptied chan => Sys2Proof.Machine.execDmcChannelEmptied chan s
  | .scrubStart target writeback => Sys2Proof.Machine.execScrubStart target writeback s
  | .scrubAbort at_ errs => Sys2Proof.Machine.execScrubAbort at_ errs s
  | .scrubPassDone errs => Sys2Proof.Machine.execScrubPassDone errs s
  | .patrolPassDone home errs => Sys2Proof.Machine.execPatrolPassDone home errs s
  | .remapLoad chan entry sub line word => Sys2Proof.Machine.execRemapLoad chan entry sub line word s
  | .remapClear chan entry => Sys2Proof.Machine.execRemapClear chan entry s
  | .clogRead => Sys2Proof.Machine.execClogRead s
  | .flashChannelInitDone chan ok g => Sys2Proof.Machine.execFlashChannelInitDone chan ok g s
  | .stripeFillTimeout position => Sys2Proof.Machine.execStripeFillTimeout position s
  | .nandProgramDone block page ok => Sys2Proof.Machine.execNandProgramDone block page ok s
  | .nandEraseDone block ok => Sys2Proof.Machine.execNandEraseDone block ok s
  | .nandReadDone unit codeword step decoded => Sys2Proof.Machine.execNandReadDone unit codeword step decoded s
  | .sbVerifyDone sb relocated => Sys2Proof.Machine.execSbVerifyDone sb relocated s
  | .checkpointStart => Sys2Proof.Machine.execCheckpointStart s
  | .checkpointDone => Sys2Proof.Machine.execCheckpointDone s
  | .gcStart => Sys2Proof.Machine.execGcStart s
  | .dieTempPoll temps => Sys2Proof.Machine.execDieTempPoll temps s
  | .fchRetire chan => Sys2Proof.Machine.execFchRetire chan s
  | .mountDone torn durationMs => Sys2Proof.Machine.execMountDone torn durationMs s
  | .keysMissingTimer => Sys2Proof.Machine.execKeysMissingTimer s
  | .intlkInReleased home => Sys2Proof.Machine.execIntlkInReleased home s
  | .intlkInAsserted home => Sys2Proof.Machine.execIntlkInAsserted home s
  | .tokenClaimSample home released => Sys2Proof.Machine.execTokenClaimSample home released s
  | .claimBackoffExpiry home => Sys2Proof.Machine.execClaimBackoffExpiry home s
  | .releaseConfirmed home => Sys2Proof.Machine.execReleaseConfirmed home s
  | .heartbeatTimer => Sys2Proof.Machine.execHeartbeatTimer s
  | .heartbeatSilence => Sys2Proof.Machine.execHeartbeatSilence s
  | .elytraLaneLock lane => Sys2Proof.Machine.execElytraLaneLock lane s
  | .elytraLaneDown lane => Sys2Proof.Machine.execElytraLaneDown lane s
  | .elytraLinkSilence => Sys2Proof.Machine.execElytraLinkSilence s
  | .seqGapTimeout bulk => Sys2Proof.Machine.execSeqGapTimeout bulk s
  | .ackCarrierTimeout => Sys2Proof.Machine.execAckCarrierTimeout s
  | .dataWrite x d addr msn data => Sys2Proof.Machine.execDataWrite x d addr msn data s
  | .dataZero x d addr len => Sys2Proof.Machine.execDataZero x d addr len s
  | .dataTrim x d addr len => Sys2Proof.Machine.execDataTrim x d addr len s
  | .dataAtomic x d addr original new => Sys2Proof.Machine.execDataAtomic x d addr original new s
  | .dataArm x d region => Sys2Proof.Machine.execDataArm x d region s
  | .dataDoorbell x d queue slot value => Sys2Proof.Machine.execDataDoorbell x d queue slot value s
  | .dataFetch x d queue first count => Sys2Proof.Machine.execDataFetch x d queue first count s
  | .dataPost x d queue nq index psn entry slot => Sys2Proof.Machine.execDataPost x d queue nq index psn entry slot s
  | .dataPlace x d granule count placement => Sys2Proof.Machine.execDataPlace x d granule count placement s
  | .dataStream x d r => Sys2Proof.Machine.execDataStream x d r s
  | .dataOrder x d => Sys2Proof.Machine.execDataOrder x d s
  | .dataBind x d ringKey entries => Sys2Proof.Machine.execDataBind x d ringKey entries s
  | .delta x home epoch term final lockstep lastMseq digest entries => Sys2Proof.Machine.execDelta x home epoch term final lockstep lastMseq digest entries s
  | .heartbeat x m => Sys2Proof.Machine.execHeartbeat x m s
  | .leaseRequest x home number => Sys2Proof.Machine.execLeaseRequest x home number s
  | .leaseGrant x home number expiry => Sys2Proof.Machine.execLeaseGrant x home number expiry s
  | .leaseRelease x home number => Sys2Proof.Machine.execLeaseRelease x home number s
  | .lockstepIngress x home inseq slice p req => Sys2Proof.Machine.execLockstepIngress x home inseq slice p req s
  | .health x word compared budget mirrorFree => Sys2Proof.Machine.execHealth x word compared budget mirrorFree s
  | .bid x rec0 rec1 => Sys2Proof.Machine.execBid x rec0 rec1 s
  | .state x home table last entries => Sys2Proof.Machine.execState x home table last entries s
  | .piece x home addr data poison => Sys2Proof.Machine.execPiece x home addr data poison s
  | .resyncDone x home pieces => Sys2Proof.Machine.execResyncDone x home pieces s
  | .epochBoundary home => Sys2Proof.Machine.execEpochBoundary home s
  | .healthTimer => Sys2Proof.Machine.execHealthTimer s
  | .pairWaitExpiry => Sys2Proof.Machine.execPairWaitExpiry s
  | .interlockTestPulse home followed => Sys2Proof.Machine.execInterlockTestPulse home followed s
  | .eyeMonitorTimer margins => Sys2Proof.Machine.execEyeMonitorTimer margins s
  | .t2SampleTimer bad => Sys2Proof.Machine.execT2SampleTimer bad s
  | .elytraFrameCrcFail bulk => Sys2Proof.Machine.execElytraFrameCrcFail bulk s
  | .bistTimer cluster => Sys2Proof.Machine.execBistTimer cluster s
  | .bistDone cluster passed => Sys2Proof.Machine.execBistDone cluster passed s
  | .leaseRequestTimer => Sys2Proof.Machine.execLeaseRequestTimer s
  | .leaseEnd home => Sys2Proof.Machine.execLeaseEnd home s
  | .leaseGuardExpiry home => Sys2Proof.Machine.execLeaseGuardExpiry home s
  | .arpRepeatTimer home => Sys2Proof.Machine.execArpRepeatTimer home s
  | .handoverDrained home => Sys2Proof.Machine.execHandoverDrained home s
  | .failbackDelayExpiry home => Sys2Proof.Machine.execFailbackDelayExpiry home s
  | .handover home => Sys2Proof.Machine.execHandover home s
  | .forceSolo home => Sys2Proof.Machine.execForceSolo home s
  | .acceptResync home => Sys2Proof.Machine.execAcceptResync home s
  | .retryAdmit home => Sys2Proof.Machine.execRetryAdmit home s
  | .verify home => Sys2Proof.Machine.execVerify home s
  | .join x j => Sys2Proof.Machine.execJoin x j s
  | .joinAck x accepted index path depth => Sys2Proof.Machine.execJoinAck x accepted index path depth s
  | .colonyHealth x m => Sys2Proof.Machine.execColonyHealth x m s
  | .create x r => Sys2Proof.Machine.execCreate x r s
  | .createAck x made => Sys2Proof.Machine.execCreateAck x made s
  | .blockReq x n => Sys2Proof.Machine.execBlockReq x n s
  | .blockGrant x blocks => Sys2Proof.Machine.execBlockGrant x blocks s
  | .keyReport x keys destroyed => Sys2Proof.Machine.execKeyReport x keys destroyed s
  | .pdSync x entries => Sys2Proof.Machine.execPdSync x entries s
  | .colonyAck x => Sys2Proof.Machine.execColonyAck x s
  | .colonyResendTimeout txn => Sys2Proof.Machine.execColonyResendTimeout txn s
  | .colonyHealthTimer => Sys2Proof.Machine.execColonyHealthTimer s
  | .memberLostTimeout index => Sys2Proof.Machine.execMemberLostTimeout index s
  | .vaonApplied sideA madr => Sys2Proof.Machine.execVaonApplied sideA madr s
  | .vaonLoss => Sys2Proof.Machine.execVaonLoss s
  | .xaonSettled => Sys2Proof.Machine.execXaonSettled s
  | .phaseBegin => Sys2Proof.Machine.execPhaseBegin s
  | .railTqualMet rail => Sys2Proof.Machine.execRailTqualMet rail s
  | .railPhaseTimeout => Sys2Proof.Machine.execRailPhaseTimeout s
  | .railpgLow rail => Sys2Proof.Machine.execRailpgLow rail s
  | .vsenseOutOfWindow input code => Sys2Proof.Machine.execVsenseOutOfWindow input code s
  | .pfwNAsserted => Sys2Proof.Machine.execPfwNAsserted s
  | .quenchStepDone => Sys2Proof.Machine.execQuenchStepDone s
  | .quenchCutoff => Sys2Proof.Machine.execQuenchCutoff s
  | .railOffDelay => Sys2Proof.Machine.execRailOffDelay s
  | .shutdownDeadline => Sys2Proof.Machine.execShutdownDeadline s
  | .pfwRestartTimer => Sys2Proof.Machine.execPfwRestartTimer s
  | .powerOn => Sys2Proof.Machine.execPowerOn s
  | .orderlyOff => Sys2Proof.Machine.execOrderlyOff s
  | .huTest => Sys2Proof.Machine.execHuTest s
  | .huTestPeriod => Sys2Proof.Machine.execHuTestPeriod s
  | .huBudgetFits v0 => Sys2Proof.Machine.execHuBudgetFits v0 s
  | .huSampleTimer mv => Sys2Proof.Machine.execHuSampleTimer mv s
  | .huRecovered mv => Sys2Proof.Machine.execHuRecovered mv s
  | .enowTimer mv => Sys2Proof.Machine.execEnowTimer mv s
  | .huVoltageStable mv => Sys2Proof.Machine.execHuVoltageStable mv s
  | .huWaitLimit => Sys2Proof.Machine.execHuWaitLimit s
  | .pwrbtnShort => Sys2Proof.Machine.execPwrbtnShort s
  | .pwrbtnLong => Sys2Proof.Machine.execPwrbtnLong s
  | .mrNAsserted => Sys2Proof.Machine.execMrNAsserted s
  | .mrNReleased sideA => Sys2Proof.Machine.execMrNReleased sideA s
  | .wakeN => Sys2Proof.Machine.execWakeN s
  | .qualificationRestart rail => Sys2Proof.Machine.execQualificationRestart rail s
  | .pgGlitch rail => Sys2Proof.Machine.execPgGlitch rail s
  | .governorPeriod pest loads => Sys2Proof.Machine.execGovernorPeriod pest loads s
  | .thermalSample temps => Sys2Proof.Machine.execThermalSample temps s
  | .tripCooldown => Sys2Proof.Machine.execTripCooldown s
  | .govP0 => Sys2Proof.Machine.execGovP0 s
  | .govP1 => Sys2Proof.Machine.execGovP1 s
  | .govP2 => Sys2Proof.Machine.execGovP2 s
  | .govP3 => Sys2Proof.Machine.execGovP3 s
  | .pstateEntryDone => Sys2Proof.Machine.execPstateEntryDone s
  | .pstateExitDone => Sys2Proof.Machine.execPstateExitDone s
  | .govWakeTimer => Sys2Proof.Machine.execGovWakeTimer s
  | .clockGateIdle d => Sys2Proof.Machine.execClockGateIdle d s
  | .powerGateIdle d => Sys2Proof.Machine.execPowerGateIdle d s
  | .domainWake d => Sys2Proof.Machine.execDomainWake d s
  | .domainWakeDone d => Sys2Proof.Machine.execDomainWakeDone d s
  | .sealLockClaim path => Sys2Proof.Machine.execSealLockClaim path s
  | .sealLockRelease path => Sys2Proof.Machine.execSealLockRelease path s
  | .sealLockTimeout => Sys2Proof.Machine.execSealLockTimeout s
  | .unseal path => Sys2Proof.Machine.execUnseal path s
  | .loadPlain path => Sys2Proof.Machine.execLoadPlain path s
  | .sealClear path => Sys2Proof.Machine.execSealClear path s
  | .gcmEnc path slot => Sys2Proof.Machine.execGcmEnc path slot s
  | .gcmDec path slot => Sys2Proof.Machine.execGcmDec path slot s
  | .kwWrap path slot => Sys2Proof.Machine.execKwWrap path slot s
  | .kwUnwrap path slot => Sys2Proof.Machine.execKwUnwrap path slot s
  | .kwpWrap path slot => Sys2Proof.Machine.execKwpWrap path slot s
  | .kwpUnwrap path slot => Sys2Proof.Machine.execKwpUnwrap path slot s
  | .cmacGen path slot => Sys2Proof.Machine.execCmacGen path slot s
  | .cmacVer path slot => Sys2Proof.Machine.execCmacVer path slot s
  | .provisionRoot path => Sys2Proof.Machine.execProvisionRoot path s
  | .sealOpDone => Sys2Proof.Machine.execSealOpDone s
  | .cflProgram path => Sys2Proof.Machine.execCflProgram path s
  | .cflErase path => Sys2Proof.Machine.execCflErase path s
  | .cflSuspend path => Sys2Proof.Machine.execCflSuspend path s
  | .cflResume path => Sys2Proof.Machine.execCflResume path s
  | .cflRead path ecc => Sys2Proof.Machine.execCflRead path ecc s
  | .cflProgramDone ok => Sys2Proof.Machine.execCflProgramDone ok s
  | .cflEraseDone => Sys2Proof.Machine.execCflEraseDone s
  | .cflEraseIdleResume => Sys2Proof.Machine.execCflEraseIdleResume s
  | .cflBrownout low => Sys2Proof.Machine.execCflBrownout low s
  | .identitySurveyDone dimms carriers module_ cable => Sys2Proof.Machine.execIdentitySurveyDone dimms carriers module_ cable s
  | .imageConfirmTimer => Sys2Proof.Machine.execImageConfirmTimer s
  | .supervisorFatalFault fetch => Sys2Proof.Machine.execSupervisorFatalFault fetch s
  | .twoWireWrite ptr data pec => Sys2Proof.Machine.execTwoWireWrite ptr data pec s
  | .setPointer ptr pec => Sys2Proof.Machine.execSetPointer ptr pec s
  | .twoWireRead ptr len => Sys2Proof.Machine.execTwoWireRead ptr len s
  | .currentRead len => Sys2Proof.Machine.execCurrentRead len s
  | .alertResponse others len => Sys2Proof.Machine.execAlertResponse others len s
  | .sclLowTimeout => Sys2Proof.Machine.execSclLowTimeout s
  | .identityGo => Sys2Proof.Machine.execIdentityGo s
  | .identityTransactionDone result data => Sys2Proof.Machine.execIdentityTransactionDone result data s
  | .segmentRailCycle cleared => Sys2Proof.Machine.execSegmentRailCycle cleared s
  | .sdaLowWhileIdle segment cleared => Sys2Proof.Machine.execSdaLowWhileIdle segment cleared s
  | .amberFlushTimer => Sys2Proof.Machine.execAmberFlushTimer s
  | .amberFlushAge => Sys2Proof.Machine.execAmberFlushAge s
  | .amberFlush => Sys2Proof.Machine.execAmberFlush s
  | .amberFind => Sys2Proof.Machine.execAmberFind s
  | .amberRecordProgrammed ok => Sys2Proof.Machine.execAmberRecordProgrammed ok s
  | .hoursStoreTimer => Sys2Proof.Machine.execHoursStoreTimer s
  | .dbgChallenge => Sys2Proof.Machine.execDbgChallenge s
  | .dbgUnlock path => Sys2Proof.Machine.execDbgUnlock path s
  | .dbgClear path => Sys2Proof.Machine.execDbgClear path s
  | .dbgProvision path => Sys2Proof.Machine.execDbgProvision path s
  | .amberClearDone => Sys2Proof.Machine.execAmberClearDone s
  | .freezeNAsserted => Sys2Proof.Machine.execFreezeNAsserted s
  | .dbgMemoryRead => Sys2Proof.Machine.execDbgMemoryRead s
  | .tapMemread store addr => Sys2Proof.Machine.execTapMemread store addr s
  | .tapRegread addr => Sys2Proof.Machine.execTapRegread addr s
  | .trstN => Sys2Proof.Machine.execTrstN s
  | .rollDrained => Sys2Proof.Machine.execRollDrained s
  | .glbCommit path => Sys2Proof.Machine.execGlbCommit path s
  | .glbDiscard path => Sys2Proof.Machine.execGlbDiscard path s
  | .warmResetRequest => Sys2Proof.Machine.execWarmResetRequest s
  | .warmResetHandover => Sys2Proof.Machine.execWarmResetHandover s
  | .registerWrite path addr value => Sys2Proof.Machine.execRegisterWrite path addr value s
  | .flashDieStopsAnswering chan die => Sys2Proof.Machine.execFlashDieStopsAnswering chan die s

end Sys2Proof.Machine
end

