-- ==== Sys2Proof/WellFormed.lean ====
section
/-! DEFINITION. Sys2Proof/WellFormed.lean: which operands spell a command of their row: the lengths that the frame formats of the
spec fix (R289, R458, Tables 11-3, 11-4, 05-7, 05-9), and a reserved maintenance OP. Every other operand takes all the values of
its type. -/

namespace Sys2Proof

/-- Operands that spell a command. -/
def Instr.wellFormed : Instr → Bool
  | .healData _ _ _ _ data _ => decide (data.length = 4096)
  | .lcMopReservedOp op => op == 0 || decide (8 < op.toNat)
  | .dramReadDone _ _ first again => decide (first.length = 8) && decide (again.length = 8)
  | .dataWrite _ _ _ _ data => decide (data.length ≤ 4096)
  | .dataPost _ _ _ nq _ _ entry _ => decide (entry.length = if nq then 32 else 16)
  | .dataBind _ _ _ entries => decide (entries.length % 64 = 0) && decide (entries.length ≤ 4096)
  | .piece _ _ addr data _ => decide (data.length = 4096) && decide (addr % 4096 = 0)
  | .thermalSample temps => decide (temps.length = 24)
  | .send .. | .rdmaWrite .. | .rdmaWriteWithImmediate .. | .rdmaReadRequest .. | .compareAndSwap .. | .fetchAndAdd ..
  | .atomicWrite .. | .rdmaFlush .. | .acknowledge .. | .sequenceNakReceived .. | .rnrNakReceived .. | .errorNakReceived ..
  | .rdmaReadResponse .. | .cnp .. | .unsupportedRdmaOpcode .. | .req .. | .rtu .. | .rej .. | .mra .. | .dreq .. | .drep .. | .lap ..
  | .apr .. | .sidrReq .. | .pfcFrame .. | .lldpFrame .. | .arpRequest .. | .neighbourSolicitation .. | .echoRequest ..
  | .otherFrame .. | .listenFrame .. | .portFecLock .. | .portLinkLoss .. | .linkTrainingTimeout .. | .pfcXoffRepeat ..
  | .pauseStormTimeout .. | .ackCoalesceTimeout .. | .localAckTimeout .. | .errorHoldExpiry .. | .rpTimerExpiry ..
  | .contextFetchDone .. | .contextSpillDone .. | .contextVictimSpill .. | .keyCacheFill .. | .regionTransitionResolved ..
  | .exceptionNakBuilt .. | .exceptionQueueRoom .. | .slotFreed .. | .steeringChange .. | .clusterFault .. | .dirtyBudgetRoom ..
  | .t2FillDone .. | .t2Deadline .. | .confirm .. | .healReq .. | .healFail .. | .lehrDestageStart | .destageProgramVerified ..
  | .floatGranuleFreed .. | .transientFrameCleaned .. | .parisonLayerLoaded .. | .pinLoadDone .. | .streamStallTimeout ..
  | .fetchGrant .. | .sqDoorbell .. | .resumeDoorbell .. | .resumeReplayDoorbell .. | .cqDoorbell .. | .nqDoorbell ..
  | .capsuleRead .. | .capsuleWrite .. | .capsuleFlush .. | .capsuleFlushDeep .. | .zero .. | .trim .. | .copy .. | .identify ..
  | .regionCreate .. | .regionModify .. | .regionDestroy .. | .keyGrant .. | .keyGrantExisting .. | .keyRevoke .. | .objectPlace ..
  | .streamOpen .. | .streamAdvance .. | .streamClose .. | .logRead .. | .selftestShort .. | .selftestExtended .. | .selftestAbort ..
  | .selftestResume .. | .selftestEnd .. | .powerStateReport .. | .powerStateP0 .. | .powerStateP1 .. | .powerStateP2 ..
  | .powerStateP3 .. | .qresumeDiscard .. | .qresumeReplay .. | .configStage .. | .configCommit .. | .configDiscard .. | .fwStage ..
  | .fwActivate .. | .regRead .. | .regWrite .. | .unknownCapsuleOpcode .. | .p1IdleExpiry | .p2IdleExpiry | .fenceComplete ..
  | .fenceTimeout .. | .lcEnable | .lcDisable | .lcDisableDone | .lcLockSet .. | .lcLockSetDone | .lcLockClear .. | .invAll
  | .invRange | .cleanRange | .cleanInvRange | .zeroLine | .lockFill .. | .cleanAll | .cleanInvAll | .lcMopDone | .lcFillDone ..
  | .fillBufferFreed .. | .lcBankInvalidateDone .. | .dramTrainingDone .. | .warmRestoreDone .. | .dmcRequestEnqueued ..
  | .dmcQueueEntryFreed .. | .dramWriteRetired .. | .rowIdleClose .. | .dmcAgeMax .. | .rankPowerDown .. | .refreshDue ..
  | .refreshCatchup .. | .mr4Poll .. | .caparAlert .. | .caparAlertCleared .. | .dmcRetire .. | .dmcChannelEmptied .. | .scrubStart ..
  | .scrubAbort .. | .scrubPassDone .. | .patrolPassDone .. | .remapLoad .. | .remapClear .. | .clogRead | .flashChannelInitDone ..
  | .stripeFillTimeout .. | .nandProgramDone .. | .nandEraseDone .. | .nandReadDone .. | .sbVerifyDone .. | .checkpointStart
  | .checkpointDone | .gcStart | .dieTempPoll .. | .fchRetire .. | .mountDone .. | .keysMissingTimer | .intlkInReleased ..
  | .intlkInAsserted .. | .tokenClaimSample .. | .claimBackoffExpiry .. | .releaseConfirmed .. | .heartbeatTimer | .heartbeatSilence
  | .elytraLaneLock .. | .elytraLaneDown .. | .elytraLinkSilence | .seqGapTimeout .. | .ackCarrierTimeout | .dataZero ..
  | .dataTrim .. | .dataAtomic .. | .dataArm .. | .dataDoorbell .. | .dataFetch .. | .dataPlace .. | .dataStream .. | .dataOrder ..
  | .delta .. | .heartbeat .. | .leaseRequest .. | .leaseGrant .. | .leaseRelease .. | .lockstepIngress .. | .health .. | .bid ..
  | .state .. | .resyncDone .. | .epochBoundary .. | .healthTimer | .pairWaitExpiry | .interlockTestPulse .. | .eyeMonitorTimer ..
  | .t2SampleTimer .. | .elytraFrameCrcFail .. | .bistTimer .. | .bistDone .. | .leaseRequestTimer | .leaseEnd ..
  | .leaseGuardExpiry .. | .arpRepeatTimer .. | .handoverDrained .. | .failbackDelayExpiry .. | .handover .. | .forceSolo ..
  | .acceptResync .. | .retryAdmit .. | .verify .. | .join .. | .joinAck .. | .colonyHealth .. | .create .. | .createAck ..
  | .blockReq .. | .blockGrant .. | .keyReport .. | .pdSync .. | .colonyAck .. | .colonyResendTimeout .. | .colonyHealthTimer
  | .memberLostTimeout .. | .vaonApplied .. | .vaonLoss | .xaonSettled | .phaseBegin | .railTqualMet .. | .railPhaseTimeout
  | .railpgLow .. | .vsenseOutOfWindow .. | .pfwNAsserted | .quenchStepDone | .quenchCutoff | .railOffDelay | .shutdownDeadline
  | .pfwRestartTimer | .powerOn | .orderlyOff | .huTest | .huTestPeriod | .huBudgetFits .. | .huSampleTimer .. | .huRecovered ..
  | .enowTimer .. | .huVoltageStable .. | .huWaitLimit | .pwrbtnShort | .pwrbtnLong | .mrNAsserted | .mrNReleased .. | .wakeN
  | .qualificationRestart .. | .pgGlitch .. | .governorPeriod .. | .tripCooldown | .govP0 | .govP1 | .govP2 | .govP3
  | .pstateEntryDone | .pstateExitDone | .govWakeTimer | .clockGateIdle .. | .powerGateIdle .. | .domainWake .. | .domainWakeDone ..
  | .sealLockClaim .. | .sealLockRelease .. | .sealLockTimeout | .unseal .. | .loadPlain .. | .sealClear .. | .gcmEnc .. | .gcmDec ..
  | .kwWrap .. | .kwUnwrap .. | .kwpWrap .. | .kwpUnwrap .. | .cmacGen .. | .cmacVer .. | .provisionRoot .. | .sealOpDone
  | .cflProgram .. | .cflErase .. | .cflSuspend .. | .cflResume .. | .cflRead .. | .cflProgramDone .. | .cflEraseDone
  | .cflEraseIdleResume | .cflBrownout .. | .identitySurveyDone .. | .imageConfirmTimer | .supervisorFatalFault .. | .twoWireWrite ..
  | .setPointer .. | .twoWireRead .. | .currentRead .. | .alertResponse .. | .sclLowTimeout | .identityGo
  | .identityTransactionDone .. | .segmentRailCycle .. | .sdaLowWhileIdle .. | .amberFlushTimer | .amberFlushAge | .amberFlush
  | .amberFind | .amberRecordProgrammed .. | .hoursStoreTimer | .dbgChallenge | .dbgUnlock .. | .dbgClear .. | .dbgProvision ..
  | .amberClearDone | .freezeNAsserted | .dbgMemoryRead | .tapMemread .. | .tapRegread .. | .trstN | .rollDrained | .glbCommit ..
  | .glbDiscard .. | .warmResetRequest | .warmResetHandover | .registerWrite .. | .flashDieStopsAnswering .. => true

end Sys2Proof
end

