-- ==== Sys2Proof/Safety.lean ====
section
/-! DEFINITION. Sys2Proof/Safety.lean: what claims call a well-kept machine, and what a command answers. -/

namespace Sys2Proof

/-! ### Commands that need the core -/

/-- Commands that act outside the always-on domain alone, so that they have no effect while its clocks and rails are not there
(Table 18-3, log entry 10). -/
def Instr.inCore : Instr → Bool
  | .pfcFrame .. | .lldpFrame .. | .arpRequest .. | .neighbourSolicitation .. | .echoRequest .. | .otherFrame ..
  | .portFecLock .. | .portLinkLoss .. | .linkTrainingTimeout .. | .pfcXoffRepeat .. | .pauseStormTimeout ..
  | .ackCoalesceTimeout .. | .localAckTimeout .. | .errorHoldExpiry .. | .rpTimerExpiry .. | .contextFetchDone ..
  | .contextSpillDone .. | .contextVictimSpill .. | .keyCacheFill .. | .regionTransitionResolved .. | .exceptionNakBuilt ..
  | .exceptionQueueRoom .. | .slotFreed .. | .steeringChange .. | .clusterFault .. | .dirtyBudgetRoom .. | .t2FillDone ..
  | .t2Deadline .. | .confirm .. | .healReq .. | .healData .. | .healFail .. | .lehrDestageStart | .destageProgramVerified ..
  | .floatGranuleFreed .. | .transientFrameCleaned .. | .parisonLayerLoaded .. | .pinLoadDone .. | .streamStallTimeout ..
  | .fetchGrant .. | .sqDoorbell .. | .resumeDoorbell .. | .resumeReplayDoorbell .. | .cqDoorbell .. | .nqDoorbell ..
  | .capsuleRead .. | .capsuleWrite .. | .capsuleFlush .. | .capsuleFlushDeep .. | .zero .. | .trim .. | .copy .. | .identify ..
  | .regionCreate .. | .regionModify .. | .regionDestroy .. | .keyGrant .. | .keyGrantExisting .. | .keyRevoke ..
  | .objectPlace .. | .streamOpen .. | .streamAdvance .. | .streamClose .. | .logRead .. | .selftestShort ..
  | .selftestExtended .. | .selftestAbort .. | .selftestResume .. | .selftestEnd .. | .powerStateReport .. | .powerStateP0 ..
  | .powerStateP1 .. | .powerStateP2 .. | .powerStateP3 .. | .qresumeDiscard .. | .qresumeReplay .. | .configStage ..
  | .configCommit .. | .configDiscard .. | .fwStage .. | .fwActivate .. | .regRead .. | .regWrite .. | .unknownCapsuleOpcode ..
  | .fenceComplete .. | .fenceTimeout .. | .lcEnable | .lcDisable | .lcDisableDone | .lcLockSet .. | .lcLockSetDone
  | .lcLockClear .. | .invAll | .invRange | .cleanRange | .cleanInvRange | .zeroLine | .lockFill .. | .cleanAll | .cleanInvAll
  | .lcMopReservedOp .. | .lcMopDone | .lcFillDone .. | .fillBufferFreed .. | .lcBankInvalidateDone .. | .dramTrainingDone ..
  | .warmRestoreDone .. | .dmcRequestEnqueued .. | .dmcQueueEntryFreed .. | .dramReadDone .. | .dramWriteRetired ..
  | .rowIdleClose .. | .dmcAgeMax .. | .rankPowerDown .. | .refreshDue .. | .refreshCatchup .. | .mr4Poll .. | .caparAlert ..
  | .caparAlertCleared .. | .dmcRetire .. | .dmcChannelEmptied .. | .scrubStart .. | .scrubAbort .. | .scrubPassDone ..
  | .patrolPassDone .. | .remapLoad .. | .remapClear .. | .clogRead | .flashChannelInitDone .. | .stripeFillTimeout ..
  | .nandProgramDone .. | .nandEraseDone .. | .nandReadDone .. | .sbVerifyDone .. | .checkpointStart | .checkpointDone
  | .gcStart | .dieTempPoll .. | .fchRetire .. | .mountDone .. | .keysMissingTimer | .tokenClaimSample ..
  | .claimBackoffExpiry .. | .releaseConfirmed .. | .heartbeatTimer | .heartbeatSilence | .elytraLaneLock ..
  | .elytraLaneDown .. | .elytraLinkSilence | .seqGapTimeout .. | .ackCarrierTimeout | .heartbeat .. | .leaseRequest ..
  | .leaseGrant .. | .leaseRelease .. | .health .. | .bid .. | .healthTimer | .pairWaitExpiry | .interlockTestPulse ..
  | .eyeMonitorTimer .. | .t2SampleTimer .. | .elytraFrameCrcFail .. | .bistTimer .. | .bistDone .. | .leaseRequestTimer
  | .leaseEnd .. | .leaseGuardExpiry .. | .arpRepeatTimer .. | .handoverDrained .. | .failbackDelayExpiry .. | .handover ..
  | .forceSolo .. | .acceptResync .. | .retryAdmit .. | .verify .. | .join .. | .joinAck .. | .colonyHealth .. | .create ..
  | .createAck .. | .blockReq .. | .blockGrant .. | .keyReport .. | .pdSync .. | .colonyAck .. | .colonyResendTimeout ..
  | .colonyHealthTimer | .memberLostTimeout .. | .sealLockClaim .. | .sealLockRelease .. | .sealLockTimeout | .unseal ..
  | .loadPlain .. | .sealClear .. | .gcmEnc .. | .gcmDec .. | .kwWrap .. | .kwUnwrap .. | .kwpWrap .. | .kwpUnwrap ..
  | .cmacGen .. | .cmacVer .. | .provisionRoot .. | .sealOpDone | .cflProgram .. | .cflErase .. | .cflSuspend .. | .cflResume ..
  | .cflRead .. | .cflProgramDone .. | .cflEraseDone | .cflEraseIdleResume | .identitySurveyDone .. | .imageConfirmTimer
  | .rollDrained | .glbCommit .. | .flashDieStopsAnswering .. => true
  | .send .. | .rdmaWrite .. | .rdmaWriteWithImmediate .. | .rdmaReadRequest .. | .compareAndSwap .. | .fetchAndAdd ..
  | .atomicWrite .. | .rdmaFlush .. | .acknowledge .. | .sequenceNakReceived .. | .rnrNakReceived .. | .errorNakReceived ..
  | .rdmaReadResponse .. | .cnp .. | .unsupportedRdmaOpcode .. | .req .. | .rtu .. | .rej .. | .mra .. | .dreq .. | .drep ..
  | .lap .. | .apr .. | .sidrReq .. | .listenFrame .. | .p1IdleExpiry | .p2IdleExpiry | .intlkInReleased ..
  | .intlkInAsserted .. | .dataWrite .. | .dataZero .. | .dataTrim .. | .dataAtomic .. | .dataArm .. | .dataDoorbell ..
  | .dataFetch .. | .dataPost .. | .dataPlace .. | .dataStream .. | .dataOrder .. | .dataBind .. | .delta ..
  | .lockstepIngress .. | .state .. | .piece .. | .resyncDone .. | .epochBoundary .. | .vaonApplied .. | .vaonLoss
  | .xaonSettled | .phaseBegin | .railTqualMet .. | .railPhaseTimeout | .railpgLow .. | .vsenseOutOfWindow .. | .pfwNAsserted
  | .quenchStepDone | .quenchCutoff | .railOffDelay | .shutdownDeadline | .pfwRestartTimer | .powerOn | .orderlyOff | .huTest
  | .huTestPeriod | .huBudgetFits .. | .huSampleTimer .. | .huRecovered .. | .enowTimer .. | .huVoltageStable .. | .huWaitLimit
  | .pwrbtnShort | .pwrbtnLong | .mrNAsserted | .mrNReleased .. | .wakeN | .qualificationRestart .. | .pgGlitch ..
  | .governorPeriod .. | .thermalSample .. | .tripCooldown | .govP0 | .govP1 | .govP2 | .govP3 | .pstateEntryDone
  | .pstateExitDone | .govWakeTimer | .clockGateIdle .. | .powerGateIdle .. | .domainWake .. | .domainWakeDone ..
  | .cflBrownout .. | .supervisorFatalFault .. | .twoWireWrite .. | .setPointer .. | .twoWireRead .. | .currentRead ..
  | .alertResponse .. | .sclLowTimeout | .identityGo | .identityTransactionDone .. | .segmentRailCycle .. | .sdaLowWhileIdle ..
  | .amberFlushTimer | .amberFlushAge | .amberFlush | .amberFind | .amberRecordProgrammed .. | .hoursStoreTimer | .dbgChallenge
  | .dbgUnlock .. | .dbgClear .. | .dbgProvision .. | .amberClearDone | .freezeNAsserted | .dbgMemoryRead | .tapMemread ..
  | .tapRegread .. | .trstN | .glbDiscard .. | .warmResetRequest | .warmResetHandover | .registerWrite .. => false

namespace Machine

/-- The three byte memories keep their canonical form: T1 and T2 read 0 where nothing is listed, code flash 0xFF. -/
def State.memoryOk (s : State) : Bool :=
  Memory.wf 0 s.tier.t1 && Memory.wf 0 s.flash.t2 && Memory.wf 0xFF s.boot.cf

/-- The register bank keeps its canonical form: no register is listed at its reset value. -/
def State.bankOk (s : State) : Bool := swf regReset s.regs

/-! ### What a command answers -/

/-- The command answers a next state of which P holds. -/
def Leads (i : Instr) (s : State) (P : State → Prop) : Prop := ∃ t, exec i s = .next t ∧ P t

/-- The command answers the next state to which a state with P settles: what waited in the pipeline and can now go on does so,
and after a command that may write the space of T2 is looked at (R345, R346). -/
def Settles (i : Instr) (s : State) (P : State → Prop) : Prop :=
  ∃ v : State, (exec i s = .next v.settle ∨ exec i s = .next v.settle.spaceCheck) ∧ P v

/-- The command answers a state with P in which the space of T2 has then been looked at (R345, R346). -/
def Rechecks (i : Instr) (s : State) (P : State → Prop) : Prop := ∃ v : State, exec i s = .next v.spaceCheck ∧ P v

/-- The command answers f of a state with P. -/
def Through (i : Instr) (s : State) (f : State → State) (P : State → Prop) : Prop := ∃ v : State, exec i s = .next (f v) ∧ P v

/-- The command completes a capsule with SUCCESS and a result, from a state with P. -/
def Completes (i : Instr) (s : State) (c : CapRef) (result : Nat) (P : State → Prop) : Prop :=
  Through i s (fun v => (v.okCap c result).settle) P

/-- The command fails a capsule with a status, from a state with P. -/
def FailsCap (i : Instr) (s : State) (c : CapRef) (status : Nat) (P : State → Prop) : Prop :=
  ∃ v : State, ∃ k o d, (exec i s = .next (v.failCap c status k o d).settle ∨ exec i s = .next (v.failCap c status k o d).settle.spaceCheck) ∧ P v

/-! ### Packets that the first stages pass (Table 03-5) -/

/-- Stage 1 passes the packet. -/
def State.stage1Ok (s : State) (p : Pkt) : Bool := (s.linkIn p).2 && ((s.linkIn p).1.headerIn p).2

/-- The state that stage 1 leaves. -/
def State.stage1 (s : State) (p : Pkt) : State := ((s.linkIn p).1.headerIn p).1

/-- Stages 1 and 2 pass the packet of a request: stage 5 accepts for the QP's home set, no rewind NAK is due, the context is
resident, and nothing of the QP waits ahead of the packet. -/
def State.stage2Ok (s : State) (p : Pkt) : Bool :=
  let u := s.stage1 p
  s.stage1Ok p && match u.qp p.qpn.toNat with
    | some q => u.accepting q.home && !q.rewindDue && q.where_ == .resident &&
        !(u.net.steerWait.any (fun e => e.1 = steerIndex p.qpn.toNat)) && !(u.behind p.qpn.toNat)
    | none => false

/-- The state in which stage 3 looks at the packet: the QP has been used now. -/
def State.stage2Out (s : State) (p : Pkt) : State :=
  let u := s.stage1 p
  u.updQp p.qpn.toNat (fun q => { q with lastUse := u.now })

/-- The packet carries the PSN that the QP expects next, and the QP takes requests. -/
def expected (q : Qp) (p : Pkt) : Bool := q.receives && !q.closing && q.skipped.isEmpty && q.epsn = p.psn

/-- A key admits an access (Table 04-2): it is no aperture key, it is cached and in no transition, its checks pass with entry e,
and stage 4 has a slot. -/
def State.keyAdmits (u : State) (p : Pkt) (q : Qp) (key : BitVec 32) (off len right : Nat) (x : Extent) (e : Key) : Prop :=
  u.isAperture p.qpn.toNat key = false ∧ (1 ≤ keyIndex key → keyIndex key ≤ 4194304 → u.cached (keyIndex key) = true) ∧
    u.prot.transit.contains (keyIndex key) = false ∧ u.checkKey p.qpn.toNat q.pd q.home key off len right x = .ok e ∧
    u.slotFree (u.sliceOf p.qpn.toNat) = true

/-- The transaction table holds a transaction of the packet: what it does and where. -/
def State.holdsTxn (v : State) (p : Pkt) (op : TxnOp) (region addr len : Nat) (key : BitVec 32) : Prop :=
  ∃ t ∈ v.net.txns, t.qpn = p.qpn.toNat ∧ t.psn = p.psn ∧ t.op = op ∧ t.region = region ∧ t.addr = addr ∧ t.len = len ∧ t.key = key

/-- The QP expects this PSN next. -/
def State.expects (v : State) (p : Pkt) (psn : Psn) : Prop := (v.qp p.qpn.toNat).map (·.epsn) = some psn

/-! ### Communication manager -/

/-- A datagram of the communication manager passes stage 1, which leaves u, and is about QP n, whose context is q (R96). -/
def State.cmFor (s : State) (c : Cm) (u : State) (n : Nat) (q : Qp) : Prop :=
  s.cmIn c = (u, some q.home) ∧ u.cmQp c = some (n, q) ∧ u.qp n = some q

/-- A response or acknowledgement passes stage 1, which leaves u, and is for the QP with context q, whose home set the chip acts for. -/
def State.replyIn (s : State) (p : Pkt) (u : State) (q : Qp) : Prop :=
  s.stage1Ok p = true ∧ u = s.stage1 p ∧ u.qp p.qpn.toNat = some q ∧ u.acts q.home = true

/-- The port takes a frame: its link is up, it does not loop back, nothing stands still, and it does not listen in P2. -/
def State.portTakes (s : State) (p : Nat) : Bool := s.linkUp p && !(s.on (Fld.PRT_MODE_LOOP p)) && !s.still && !(s.port p).listening

/-- One more than a counter's value, saturating (R129). -/
def State.plusOne (s : State) (a : Nat) : Nat := min ((s.reg a).toNat + 1) 0xFFFFFFFF

/-! ### Doorbells and capsules (chapter 5) -/

/-- A doorbell of a value at an offset of the aperture key passes stages 1 to 3 on QP context q, names the live queue x, is valid
for it, and no standby must record it first (R160 to R162). -/
def State.doorbellIn (s : State) (p : Pkt) (q : Qp) (key : BitVec 32) (offset : BitVec 64) (v queue slot : Nat) (x : Queue) : Prop :=
  let u := s.stage2Out p
  let n := p.qpn.toNat
  s.stage2Ok p = true ∧ u.qp n = some q ∧ expected q p = true ∧ q.openMsg = none ∧ padOk p 8 = true ∧ offset.toNat = 32 * queue + slot ∧
    slot % 8 = 0 ∧ slot < 24 ∧ u.isAperture n key = true ∧ (∃ e, u.checkKey n q.pd q.home key offset.toNat 8 rWrite .whole = .ok e) ∧
    8 ≤ q.pmtu ∧ u.queue n queue = some x ∧ x.live = true ∧ doorbellValid x queue slot v = true ∧ u.mirrors q.home = false

/-- A fetched capsule of a row is there to start: its FETCH record is confirmed, its queue lives, and the chip accepts for its
home set (R164, R180). -/
def State.capAt (s : State) (c : CapRef) (row : CapRow) (qp : Qp) (bs : List Byte) : Prop :=
  s.coreRuns = true ∧ s.qp c.qpn = some qp ∧ s.accepting qp.home = true ∧ (s.queue c.qpn c.queue).any (·.live) = true ∧
    (s.slot c).map (fun x => (x.st, x.wait, x.bytes)) = some (.fetched, none, bs) ∧ capRow c.queue bs = row

/-- It also has the form of R164, and its connection the admin bit where the row needs it (R167). -/
def State.capFor (s : State) (c : CapRef) (row : CapRow) (qp : Qp) (bs : List Byte) : Prop :=
  s.capAt c row qp bs ∧ row ≠ .unknown ∧ capFormOk row bs = true ∧ (needsAdmin row = true → qp.admin = true)

/-- The capsule runs. -/
def State.started (s : State) (c : CapRef) : State := s.updSlot c (fun x => { x with st := .running })

/-- The key that a capsule names admits its access (Table 04-2). -/
def State.capKeyOk (s : State) (c : CapRef) (qp : Qp) (key : BitVec 32) (off len right : Nat) (e : Key) : Prop :=
  s.checkKey c.qpn qp.pd qp.home key off len right (if len = 0 then .keyOnly else .whole) = .ok e

/-- The transaction table holds a transaction of a capsule: what it does and where. -/
def State.holdsCap (v : State) (c : CapRef) (op : TxnOp) (region addr len : Nat) : Prop :=
  ∃ t ∈ v.net.txns, t.cap = some c ∧ t.op = op ∧ t.region = region ∧ t.addr = addr ∧ t.len = len

/-- The admin key of a capsule is one that its connection may name: entry e, region r (R143). -/
def State.adminKeyOk (s : State) (c : CapRef) (qp : Qp) (key : BitVec 32) (e : Key) (r : Region) : Prop :=
  s.findKey c.qpn key = some e ∧ s.region e.region = some r ∧ r.home = qp.home ∧ (qp.admin = true ∨ r.pd = qp.pd)

/-- What a REGION_CREATE asks for (R166). -/
def createOf (bs : List Byte) : ColCreate :=
  { pd := capField bs 34 2, volatile := (capField bs 32 1).testBit 0, dflush := (capField bs 32 1).testBit 1,
    mirror := (capField bs 32 1).testBit 2, failqp := (capField bs 32 1).testBit 3, rights := BitVec.ofNat 5 (capField bs 33 1),
    keyDomain := capField bs 36 2, len := capField bs 40 8 }

/-- A path's write of a word to the register at an address is to be staged: the register is shadowed, nothing of R484, R498, R577,
R82 or R411 turns the write away, it does not take effect at once, the cores run, and the set has room (R561, R579, R583). -/
def State.stages (s : State) (p : Path) (a : Nat) (v : BitVec 32) (d : RegDef) : Prop :=
  regAt a = some d ∧ d.shadowed = true ∧ (fromCapsule p = true → notByCapsule a = false) ∧ (blockNo a = 6 → s.sealForeign p = false) ∧
    (d.rwl ≠ 0 → s.on Fld.GLB_STATUS_LOCKED = false) ∧ tooLossless a v = false ∧
    (a = Reg.KEY_PDCTL ∨ a = Reg.KEY_PDCRED_LO ∨ a = Reg.KEY_PDCRED_HI → s.pdLocked = false ∨ p = .firmware) ∧
    p ≠ .firmware ∧ 5 ≤ s.get Fld.CFL_BOOTINFO_STEP ∧ (blockNo a = 1 → ∃ n, n < 24 ∧ (s.rail n).on = true) ∧
    s.boot.released = true ∧ s.cfg.staged.length < 4096

end Machine

/-! ### What a command leaves as it was -/

/-- A part of the state, beside the queue and the clock. -/
inductive Part where
  | free | regs | out | amb | dbg | cfg | prot | net | cqi | tier | flash | twin | dram | col | pw | gov | sealing | boot | mbus
  deriving DecidableEq, Repr

/-- A part is the same in two states. -/
def Part.same (s t : Machine.State) : Part → Prop
  | .free => t.free = s.free
  | .regs => t.regs = s.regs
  | .out => t.out = s.out
  | .amb => t.amb = s.amb
  | .dbg => t.dbg = s.dbg
  | .cfg => t.cfg = s.cfg
  | .prot => t.prot = s.prot
  | .net => t.net = s.net
  | .cqi => t.cqi = s.cqi
  | .tier => t.tier = s.tier
  | .flash => t.flash = s.flash
  | .twin => t.twin = s.twin
  | .dram => t.dram = s.dram
  | .col => t.col = s.col
  | .pw => t.pw = s.pw
  | .gov => t.gov = s.gov
  | .sealing => t.sealing = s.sealing
  | .boot => t.boot = s.boot
  | .mbus => t.mbus = s.mbus

/-- Every part. -/
def Part.all : List Part :=
  [.free, .regs, .out, .amb, .dbg, .cfg, .prot, .net, .cqi, .tier, .flash, .twin, .dram, .col, .pw, .gov, .sealing, .boot, .mbus]

/-- The parts of the state that a command may change. A command after which packets or capsules that waited may go on may reach
every part through them. -/
def Instr.parts : Instr → List Part
  | .amberFlushTimer | .amberFlushAge | .amberFlush | .hoursStoreTimer => [.amb]
  | .selftestResume .. => [.cqi]
  | .trstN => [.dbg]
  | .rowIdleClose .. | .rankPowerDown .. | .remapClear .. | .clogRead => [.dram]
  | .clockGateIdle .. | .powerGateIdle .. | .domainWake .. | .domainWakeDone .. => [.gov]
  | .contextVictimSpill .. => [.net]
  | .tripCooldown => [.pw]
  | .otherFrame .. | .lcDisable | .dmcRetire .. | .eyeMonitorTimer .. | .pgGlitch .. | .sealLockClaim .. | .amberFind => [.regs]
  | .intlkInReleased .. | .seqGapTimeout .. | .bistTimer .. => [.twin]
  | .clusterFault .. | .failbackDelayExpiry .. | .handover .. => [.net, .twin]
  | .amberClearDone => [.regs, .amb]
  | .cflSuspend .. | .cflResume .. | .cflProgramDone .. | .cflEraseIdleResume => [.regs, .boot]
  | .dbgProvision .. => [.regs, .dbg]
  | .refreshCatchup .. | .mr4Poll .. | .scrubStart .. => [.regs, .dram]
  | .stripeFillTimeout .. | .checkpointStart | .checkpointDone | .gcStart | .dieTempPoll .. | .t2SampleTimer ..
      => [.regs, .flash]
  | .pfcFrame .. => [.regs, .net]
  | .lldpFrame .. | .arpRequest .. | .neighbourSolicitation .. | .pfcXoffRepeat .. => [.regs, .out]
  | .sealLockRelease .. => [.regs, .sealing]
  | .lcDisableDone | .lcLockSet .. | .lcLockSetDone | .lcLockClear .. | .invAll | .invRange | .cleanRange
  | .cleanInvRange | .zeroLine | .lockFill .. | .cleanAll | .cleanInvAll | .lcMopReservedOp .. => [.regs, .tier]
  | .elytraFrameCrcFail .. => [.regs, .twin]
  | .dbgChallenge => [.free, .regs, .dbg]
  | .lcEnable | .dramTrainingDone .. | .keysMissingTimer | .identitySurveyDone .. | .sclLowTimeout
  | .amberRecordProgrammed .. => [.regs, .amb, .mbus]
  | .bistDone .. | .leaseEnd .. => [.regs, .net, .twin]
  | .alertResponse .. => [.regs, .out, .mbus]
  | .echoRequest .. => [.regs, .out, .net]
  | .claimBackoffExpiry .. | .arpRepeatTimer .. | .forceSolo .. => [.regs, .out, .twin]
  | .colonyHealthTimer => [.free, .regs, .out, .col]
  | .errorHoldExpiry .. => [.prot, .net, .cqi, .twin]
  | .cflBrownout .. => [.regs, .amb, .boot, .mbus]
  | .dbgUnlock .. | .dbgClear .. => [.regs, .amb, .dbg, .mbus]
  | .remapLoad .. => [.regs, .amb, .dram, .mbus]
  | .flashChannelInitDone .. => [.regs, .amb, .flash, .mbus]
  | .portLinkLoss .. | .linkTrainingTimeout .. | .pauseStormTimeout .. => [.regs, .amb, .net, .mbus]
  | .sealLockTimeout | .loadPlain .. | .sealClear .. | .gcmEnc .. | .gcmDec .. | .kwWrap .. | .kwUnwrap .. | .kwpWrap ..
  | .kwpUnwrap .. | .cmacGen .. | .cmacVer .. | .provisionRoot .. | .sealOpDone => [.regs, .amb, .sealing, .mbus]
  | .streamStallTimeout .. | .lcMopDone => [.regs, .amb, .tier, .mbus]
  | .identityGo => [.regs, .out, .amb, .mbus]
  | .listenFrame .. => [.regs, .out, .net, .gov]
  | .cflRead .. => [.free, .regs, .amb, .pw, .mbus]
  | .ackCoalesceTimeout .. => [.free, .regs, .out, .net, .twin]
  | .fenceTimeout .. => [.regs, .amb, .prot, .net, .mbus]
  | .cflProgram .. | .cflErase .. | .cflEraseDone | .imageConfirmTimer => [.regs, .amb, .pw, .boot, .mbus]
  | .portFecLock .. => [.regs, .out, .amb, .net, .mbus]
  | .identityTransactionDone .. | .segmentRailCycle .. | .sdaLowWhileIdle .. => [.regs, .out, .amb, .pw, .mbus]
  | .interlockTestPulse .. => [.regs, .out, .amb, .twin, .mbus]
  | .colonyHealth .. | .blockReq .. | .blockGrant .. | .keyReport .. => [.regs, .out, .net, .col, .gov]
  | .governorPeriod .. => [.regs, .out, .amb, .net, .gov, .mbus]
  | .healReq .. | .heartbeatTimer | .ackCarrierTimeout | .healthTimer | .leaseRequestTimer
      => [.regs, .out, .net, .tier, .flash, .twin]
  | .pdSync .. => [.regs, .out, .prot, .net, .col, .gov]
  | .join .. | .joinAck .. => [.regs, .out, .amb, .net, .col, .gov, .mbus]
  | .lehrDestageStart => [.regs, .out, .amb, .net, .tier, .flash, .mbus]
  | .railTqualMet .. | .mrNReleased .. => [.free, .regs, .amb, .tier, .pw, .sealing, .boot, .mbus]
  | .elytraLaneLock .. => [.regs, .out, .amb, .net, .tier, .flash, .twin, .mbus]
  | .xaonSettled | .phaseBegin | .railPhaseTimeout | .pfwRestartTimer | .powerOn | .qualificationRestart ..
      => [.free, .regs, .out, .amb, .tier, .pw, .sealing, .boot, .mbus]
  | .wakeN | .govP0 | .govWakeTimer => [.free, .regs, .out, .amb, .net, .tier, .pw, .gov, .sealing, .boot, .mbus]
  | .pstateEntryDone => [.free, .regs, .out, .amb, .net, .tier, .dram, .pw, .gov, .sealing, .boot, .mbus]
  | .vaonApplied .. | .vaonLoss | .railOffDelay | .shutdownDeadline | .send .. | .rdmaWrite ..
  | .rdmaWriteWithImmediate .. | .rdmaReadRequest .. | .compareAndSwap .. | .fetchAndAdd .. | .atomicWrite ..
  | .rdmaFlush .. | .acknowledge .. | .sequenceNakReceived .. | .rnrNakReceived .. | .errorNakReceived ..
  | .rdmaReadResponse .. | .cnp .. | .unsupportedRdmaOpcode .. | .req .. | .rtu .. | .rej .. | .mra .. | .dreq ..
  | .drep .. | .lap .. | .apr .. | .sidrReq .. | .localAckTimeout .. | .rpTimerExpiry .. | .contextFetchDone ..
  | .contextSpillDone .. | .keyCacheFill .. | .regionTransitionResolved .. | .exceptionNakBuilt ..
  | .exceptionQueueRoom .. | .slotFreed .. | .steeringChange .. | .dirtyBudgetRoom .. | .t2FillDone .. | .t2Deadline ..
  | .confirm .. | .healData .. | .healFail .. | .destageProgramVerified .. | .floatGranuleFreed ..
  | .transientFrameCleaned .. | .parisonLayerLoaded .. | .pinLoadDone .. | .fetchGrant .. | .sqDoorbell ..
  | .resumeDoorbell .. | .resumeReplayDoorbell .. | .cqDoorbell .. | .nqDoorbell .. | .capsuleRead .. | .capsuleWrite ..
  | .capsuleFlush .. | .capsuleFlushDeep .. | .zero .. | .trim .. | .copy .. | .identify .. | .regionCreate ..
  | .regionModify .. | .regionDestroy .. | .keyGrant .. | .keyGrantExisting .. | .keyRevoke .. | .objectPlace ..
  | .streamOpen .. | .streamAdvance .. | .streamClose .. | .logRead .. | .selftestShort .. | .selftestExtended ..
  | .selftestAbort .. | .selftestEnd .. | .powerStateReport .. | .powerStateP0 .. | .powerStateP1 .. | .powerStateP2 ..
  | .powerStateP3 .. | .qresumeDiscard .. | .qresumeReplay .. | .configStage .. | .configCommit .. | .configDiscard ..
  | .fwStage .. | .fwActivate .. | .regRead .. | .regWrite .. | .unknownCapsuleOpcode .. | .p1IdleExpiry | .p2IdleExpiry
  | .fenceComplete .. | .lcFillDone .. | .fillBufferFreed .. | .lcBankInvalidateDone .. | .warmRestoreDone ..
  | .dmcRequestEnqueued .. | .dmcQueueEntryFreed .. | .dramReadDone .. | .dramWriteRetired .. | .dmcAgeMax ..
  | .refreshDue .. | .caparAlert .. | .caparAlertCleared .. | .dmcChannelEmptied .. | .scrubAbort .. | .scrubPassDone ..
  | .patrolPassDone .. | .nandProgramDone .. | .nandEraseDone .. | .nandReadDone .. | .sbVerifyDone .. | .fchRetire ..
  | .mountDone .. | .intlkInAsserted .. | .tokenClaimSample .. | .releaseConfirmed .. | .heartbeatSilence
  | .elytraLaneDown .. | .elytraLinkSilence | .dataWrite .. | .dataZero .. | .dataTrim .. | .dataAtomic .. | .dataArm ..
  | .dataDoorbell .. | .dataFetch .. | .dataPost .. | .dataPlace .. | .dataStream .. | .dataOrder .. | .dataBind ..
  | .delta .. | .heartbeat .. | .leaseRequest .. | .leaseGrant .. | .leaseRelease .. | .lockstepIngress .. | .health ..
  | .bid .. | .state .. | .piece .. | .resyncDone .. | .epochBoundary .. | .pairWaitExpiry | .leaseGuardExpiry ..
  | .handoverDrained .. | .acceptResync .. | .retryAdmit .. | .verify .. | .create .. | .createAck .. | .colonyAck ..
  | .colonyResendTimeout .. | .memberLostTimeout .. | .railpgLow .. | .vsenseOutOfWindow .. | .pfwNAsserted
  | .quenchStepDone | .quenchCutoff | .orderlyOff | .huTest | .huTestPeriod | .huBudgetFits .. | .huSampleTimer ..
  | .huRecovered .. | .enowTimer .. | .huVoltageStable .. | .huWaitLimit | .pwrbtnShort | .pwrbtnLong | .mrNAsserted
  | .thermalSample .. | .govP1 | .govP2 | .govP3 | .pstateExitDone | .unseal .. | .supervisorFatalFault ..
  | .twoWireWrite .. | .setPointer .. | .twoWireRead .. | .currentRead .. | .freezeNAsserted | .dbgMemoryRead
  | .tapMemread .. | .tapRegread .. | .rollDrained | .glbCommit .. | .glbDiscard .. | .warmResetRequest
  | .warmResetHandover | .registerWrite .. | .flashDieStopsAnswering .. => Part.all

/-- The 64 KiB blocks of register space (Table 20-1) that hold the registers a command may change, where it keeps to some. -/
def Instr.regBlocks : Instr → Option (List Nat)
  | .amberFlushTimer | .amberFlushAge | .amberFlush | .hoursStoreTimer | .selftestResume .. | .trstN | .rowIdleClose ..
  | .rankPowerDown .. | .remapClear .. | .clogRead | .clockGateIdle .. | .powerGateIdle .. | .domainWake ..
  | .domainWakeDone .. | .contextVictimSpill .. | .tripCooldown | .intlkInReleased .. | .seqGapTimeout ..
  | .bistTimer .. | .clusterFault .. | .failbackDelayExpiry .. | .handover .. | .errorHoldExpiry .. => some []
  | .otherFrame .. | .pfcFrame .. => some [0x10]
  | .lcDisable | .lcDisableDone | .lcLockSet .. | .lcLockSetDone | .lcLockClear .. | .invAll | .invRange | .cleanRange
  | .cleanInvRange | .zeroLine | .lockFill .. | .cleanAll | .cleanInvAll | .lcMopReservedOp .. => some [0x1A]
  | .dmcRetire .. | .refreshCatchup .. | .mr4Poll .. => some [0x20]
  | .eyeMonitorTimer .. | .elytraFrameCrcFail .. | .bistDone .. | .leaseEnd .. => some [0x2A]
  | .pgGlitch .. => some [0x01]
  | .sealLockClaim .. | .sealLockRelease .. => some [0x06]
  | .amberFind | .amberClearDone | .amberRecordProgrammed .. => some [0x04]
  | .cflSuspend .. | .cflResume .. | .cflProgramDone .. | .cflEraseIdleResume => some [0x05]
  | .dbgProvision .. | .dbgChallenge => some [0x07]
  | .scrubStart .. => some [0x22]
  | .stripeFillTimeout .. => some [0x28]
  | .checkpointStart | .gcStart => some [0x24, 0x28]
  | .checkpointDone => some [0x24]
  | .dieTempPoll .. => some [0x26]
  | .t2SampleTimer .. => some [0x28, 0x2A]
  | .lldpFrame .. | .arpRequest .. | .neighbourSolicitation .. | .pfcXoffRepeat .. | .identitySurveyDone ..
  | .alertResponse .. | .echoRequest .. | .claimBackoffExpiry .. | .arpRepeatTimer .. | .forceSolo ..
  | .colonyHealthTimer | .identityGo | .listenFrame .. | .ackCoalesceTimeout .. | .portFecLock ..
  | .identityTransactionDone .. | .segmentRailCycle .. | .sdaLowWhileIdle .. | .interlockTestPulse .. | .colonyHealth ..
  | .blockReq .. | .blockGrant .. | .keyReport .. | .governorPeriod .. | .healReq .. | .heartbeatTimer
  | .ackCarrierTimeout | .healthTimer | .leaseRequestTimer | .pdSync .. | .join .. | .joinAck .. | .lehrDestageStart
  | .railTqualMet .. | .mrNReleased .. | .elytraLaneLock .. | .xaonSettled | .phaseBegin | .railPhaseTimeout
  | .pfwRestartTimer | .powerOn | .qualificationRestart .. | .wakeN | .govP0 | .govWakeTimer | .pstateEntryDone
  | .vaonApplied .. | .vaonLoss | .railOffDelay | .shutdownDeadline | .send .. | .rdmaWrite ..
  | .rdmaWriteWithImmediate .. | .rdmaReadRequest .. | .compareAndSwap .. | .fetchAndAdd .. | .atomicWrite ..
  | .rdmaFlush .. | .acknowledge .. | .sequenceNakReceived .. | .rnrNakReceived .. | .errorNakReceived ..
  | .rdmaReadResponse .. | .cnp .. | .unsupportedRdmaOpcode .. | .req .. | .rtu .. | .rej .. | .mra .. | .dreq ..
  | .drep .. | .lap .. | .apr .. | .sidrReq .. | .localAckTimeout .. | .rpTimerExpiry .. | .contextFetchDone ..
  | .contextSpillDone .. | .keyCacheFill .. | .regionTransitionResolved .. | .exceptionNakBuilt ..
  | .exceptionQueueRoom .. | .slotFreed .. | .steeringChange .. | .dirtyBudgetRoom .. | .t2FillDone .. | .t2Deadline ..
  | .confirm .. | .healData .. | .healFail .. | .destageProgramVerified .. | .floatGranuleFreed ..
  | .transientFrameCleaned .. | .parisonLayerLoaded .. | .pinLoadDone .. | .fetchGrant .. | .sqDoorbell ..
  | .resumeDoorbell .. | .resumeReplayDoorbell .. | .cqDoorbell .. | .nqDoorbell .. | .capsuleRead .. | .capsuleWrite ..
  | .capsuleFlush .. | .capsuleFlushDeep .. | .zero .. | .trim .. | .copy .. | .identify .. | .regionCreate ..
  | .regionModify .. | .regionDestroy .. | .keyGrant .. | .keyGrantExisting .. | .keyRevoke .. | .objectPlace ..
  | .streamOpen .. | .streamAdvance .. | .streamClose .. | .logRead .. | .selftestShort .. | .selftestExtended ..
  | .selftestAbort .. | .selftestEnd .. | .powerStateReport .. | .powerStateP0 .. | .powerStateP1 .. | .powerStateP2 ..
  | .powerStateP3 .. | .qresumeDiscard .. | .qresumeReplay .. | .configStage .. | .configCommit .. | .configDiscard ..
  | .fwStage .. | .fwActivate .. | .regRead .. | .regWrite .. | .unknownCapsuleOpcode .. | .p1IdleExpiry | .p2IdleExpiry
  | .fenceComplete .. | .lcFillDone .. | .fillBufferFreed .. | .lcBankInvalidateDone .. | .warmRestoreDone ..
  | .dmcRequestEnqueued .. | .dmcQueueEntryFreed .. | .dramReadDone .. | .dramWriteRetired .. | .dmcAgeMax ..
  | .refreshDue .. | .caparAlert .. | .caparAlertCleared .. | .dmcChannelEmptied .. | .scrubAbort .. | .scrubPassDone ..
  | .patrolPassDone .. | .nandProgramDone .. | .nandEraseDone .. | .nandReadDone .. | .sbVerifyDone .. | .fchRetire ..
  | .mountDone .. | .intlkInAsserted .. | .tokenClaimSample .. | .releaseConfirmed .. | .heartbeatSilence
  | .elytraLaneDown .. | .elytraLinkSilence | .dataWrite .. | .dataZero .. | .dataTrim .. | .dataAtomic .. | .dataArm ..
  | .dataDoorbell .. | .dataFetch .. | .dataPost .. | .dataPlace .. | .dataStream .. | .dataOrder .. | .dataBind ..
  | .delta .. | .heartbeat .. | .leaseRequest .. | .leaseGrant .. | .leaseRelease .. | .lockstepIngress .. | .health ..
  | .bid .. | .state .. | .piece .. | .resyncDone .. | .epochBoundary .. | .pairWaitExpiry | .leaseGuardExpiry ..
  | .handoverDrained .. | .acceptResync .. | .retryAdmit .. | .verify .. | .create .. | .createAck .. | .colonyAck ..
  | .colonyResendTimeout .. | .memberLostTimeout .. | .railpgLow .. | .vsenseOutOfWindow .. | .pfwNAsserted
  | .quenchStepDone | .quenchCutoff | .orderlyOff | .huTest | .huTestPeriod | .huBudgetFits .. | .huSampleTimer ..
  | .huRecovered .. | .enowTimer .. | .huVoltageStable .. | .huWaitLimit | .pwrbtnShort | .pwrbtnLong | .mrNAsserted
  | .thermalSample .. | .govP1 | .govP2 | .govP3 | .pstateExitDone | .unseal .. | .supervisorFatalFault ..
  | .twoWireWrite .. | .setPointer .. | .twoWireRead .. | .currentRead .. | .freezeNAsserted | .dbgMemoryRead
  | .tapMemread .. | .tapRegread .. | .rollDrained | .glbCommit .. | .glbDiscard .. | .warmResetRequest
  | .warmResetHandover | .registerWrite .. | .flashDieStopsAnswering .. => none
  | .lcEnable | .lcMopDone => some [0x04, 0x1A]
  | .dramTrainingDone .. => some [0x04, 0x05, 0x18, 0x20]
  | .keysMissingTimer => some [0x04, 0x28]
  | .sclLowTimeout => some [0x03, 0x04]
  | .cflBrownout .. => some [0x04, 0x05]
  | .dbgUnlock .. | .dbgClear .. => some [0x04, 0x07]
  | .remapLoad .. => some [0x04, 0x22]
  | .flashChannelInitDone .. => some [0x04, 0x24, 0x26]
  | .portLinkLoss .. | .linkTrainingTimeout .. => some [0x04, 0x10, 0x12]
  | .pauseStormTimeout .. => some [0x04, 0x12]
  | .sealLockTimeout | .loadPlain .. | .sealClear .. | .gcmEnc .. | .gcmDec .. | .kwWrap .. | .kwUnwrap .. | .kwpWrap ..
  | .kwpUnwrap .. | .cmacGen .. | .cmacVer .. | .provisionRoot .. | .sealOpDone => some [0x04, 0x06]
  | .streamStallTimeout .. => some [0x04, 0x18]
  | .cflRead .. | .cflProgram .. | .cflErase .. | .cflEraseDone | .imageConfirmTimer => some [0x01, 0x04, 0x05]
  | .fenceTimeout .. => some [0x04, 0x14]

end Sys2Proof
end

