-- ==== Sys2Proof/Certificates/Slice0/Obligations.lean ====
section
/-! DEFINITION. Sys2Proof/Certificates/Slice0/Obligations.lean: the statements for the provers. In every statement the clauses
on commands are joined by ∧; each says what one command answers on every state that meets its premises. -/

open Sys2Proof Sys2Proof.Machine

/-- For every command c and state s whose queue starts with c, step of s is exec of c on s with the queue's rest. The queue is
the model's (log entry 1). (00_scope.md) -/
def Obligations.StepRunsTheFrontCommand : Prop :=
  ∀ (s : State) (c : Instr) (rest : List Instr), s.pending = c :: rest → step s = exec c { s with pending := rest }

/-- For every state and every command, whatever the command does, it leaves the queue of waiting commands and the model's clock
as they are, so that a step removes the front command and no other; with an empty queue a step changes nothing but the clock,
by one microsecond. The queue and the clock are the model's (log entries 1 and 2). (00_scope.md) -/
def Obligations.QueueIsFirstInFirstOut : Prop :=
  (∀ (s t : State) (i : Instr), exec i s = .next t → t.pending = s.pending ∧ t.now = s.now) ∧
    (∀ (s t : State) (c : Instr) (rest : List Instr), s.pending = c :: rest → step s = .next t → t.pending = rest ∧ t.now = s.now) ∧
    (∀ s : State, s.pending = [] → step s = .next { s with now := s.now + 1 })

/-- In every state, reached or not, a step that answers a next state leaves the rollback floor at least as high as it was, a
programmed device root key as it is, and a programmed debug authorisation key as it is: the three are one-time fuses. The
statement holds over all 342 commands and the idle step. (R473, R508, R550) -/
def Obligations.FusesAreOneTime : Prop :=
  ∀ (s t : State), step s = .next t →
    s.boot.floor ≤ t.boot.floor ∧ (∀ k, s.sealing.root = some k → t.sealing.root = some k) ∧
    (∀ k, s.dbg.key = some k → t.dbg.key = some k)

/-- For every state in which the byte memories T1, T2 and code flash and the register bank are in canonical form (addresses
strictly rising, no entry equal to what its address reads as unlisted), a step that answers a next state leaves all four in
canonical form, so that equal contents are equal data. The canonical form is the model's. (R576, R63, R234, R494) -/
def Obligations.CanonicalFormsAreKept : Prop :=
  ∀ (s t : State), s.memoryOk = true → s.bankOk = true → step s = .next t → t.memoryOk = true ∧ t.bankOk = true

/-- At the first application of VAON the byte memories and the register bank are in canonical form, no command waits, and every
register reads as the reset value that its table gives it. (R576) -/
def Obligations.ResetIsCanonical : Prop :=
  State.reset.memoryOk = true ∧ State.reset.bankOk = true ∧ State.reset.pending = [] ∧
    ∀ a : Nat, State.reset.reg a = regReset a

/-- For every command whose operands spell a command of its row and for every state, exec answers a next state: no command faults
and none is refused for the state it meets. A command whose operands spell none (a HEAL_DATA or PIECE without 4,096 bytes, a
line without eight code words, a thermal sample without 24 readings, a ring entry of the wrong length, a listed maintenance
OP given as reserved, a frame longer than its format) is refused with the name of the ill form in every state. Both are the
model's choices (log entry 9): an event that cannot occur in a state has no effect there. (00_scope.md, R378, R289, R458,
R367, R180) -/
def Obligations.CommandsCompleteExactlyWhenWellFormed : Prop :=
  ∀ (i : Instr) (s : State),
    (i.wellFormed = true → ∃ t, exec i s = .next t) ∧ (i.wellFormed = false → ∃ why : String, exec i s = .refused (.illFormed why))

/-- While the rail sequence has not completed, or a shutdown is at its rails step, or FREEZE or MR_N holds the clocks, each
well-formed command that acts outside the always-on domain alone leaves the whole state as it is. Which commands these are,
and that such an event has no effect, is the model's choice (log entry 10). (R444, 18_amber_and_freeze.md,
13_power_supervision.md) -/
def Obligations.CoreCommandsNeedTheCore : Prop :=
  ∀ (i : Instr) (s : State), i.wellFormed = true → i.inCore = true → s.coreRuns = false → exec i s = .next s

/-- Whatever a command does when it answers a next state, it changes no part of the state but those listed for it: the line
cache's operations change registers and the tiers alone, a token's timer the ports and the twin link, a sealing operation
registers, the recorder, the alert line and the sealing engine, a read-out of the correction log the DRAM unit alone, and so
on for every command after which nothing that waited goes on (for the others every part is listed). Where blocks of registers
are listed for a command, every register outside them keeps its value. A byte of T1, of T2 or of code flash is a byte of the
part that holds it. Which parts and blocks are listed is read from the rules of each command (log entry 54). (R576,
00_scope.md, 20_register_map.md) -/
def Obligations.CommandsKeepTheOtherUnits : Prop :=
  ∀ (i : Instr) (s t : State), exec i s = .next t →
    (∀ p : Part, p ∉ i.parts → p.same s t) ∧
    (∀ blocks : List Nat, i.regBlocks = some blocks → ∀ a, a / 65536 ∉ blocks → t.reg a = s.reg a)

/-- A REQ that passes stage 1 at a home set that accepts connections, asks for a path MTU of at least 1,024 bytes, names no
private data of the device and meets an enabled PD 0 with credential 0, while fewer than 1,048,576 QPs exist, makes the QP
with the lowest free number (log entry 7): Ready-to-receive, of that home set, in PD 0 with PD 0's admin bit, expecting the
host's PSN, with the host's QP number and the smaller path MTU, no sink and no queues. A REP with its number leaves, and
every other QP stays. A REQ repeated while its QP is in Ready-to-receive is answered by the same REP and changes no QP. A
message that passes stage 1 and names a QP of that home set acts so: RTU moves a Ready-to-receive QP to Ready-to-send, with
its expected PSN as it was and, with bound queues, a READ of its queue table issued; REJ frees a Ready-to-receive QP; MRA
changes nothing; DREQ is answered by a DREP on a QP that receives, and frees the QP; DREP frees a QP whose DREQ the device
sent. A freed QP no longer exists, and what waited may then go on. LAP and APR are answered by a REJ with reason 5 and
SIDR_REQ by a SIDR_REP with status 1, with no other effect. (R93, R96, R97, R102, R116, R142, R156, R157, R158, R159,
03_ports_and_transport.md) -/
def Obligations.ConnectionManagerActs : Prop :=
  (∀ (s u : State) (c : Cm) (m : ReqMsg) (h : Nat), s.cmIn c = (u, some h) → u.cmQp c = none → u.accepting h = true →
    u.linkUp c.pkt.port.val = true → 1024 ≤ m.pmtu → u.net.qps.length < 1048576 → capField (padTo 92 m.priv) 0 2 ≠ 1 →
    (u.pd 0).en = true → (u.pd 0).cred = 0 →
    Leads (.req c m) s (fun t => ∃ q, t.qp (freeQpn u.net.qps 2) = some q ∧ q.st = .rtr ∧ q.home = h ∧ q.pd = 0 ∧
      q.admin = (u.pd 0).admin ∧ q.hostQpn = m.hostQpn ∧ q.epsn = m.hostPsn ∧ q.cpsn = m.hostPsn - 1 ∧
      q.pmtu = min m.pmtu (u.maxPmtu (u.sliceOf (freeQpn u.net.qps 2))) ∧ q.sink = none ∧ q.qcount = 0 ∧
      t.out = .rep c.pkt.port.val c.localId (freeQpn u.net.qps 2) q.spsn q.pmtu q.respRes q.initDepth 0 0 :: u.out ∧
      (∀ k, k ≠ freeQpn u.net.qps 2 → t.qp k = u.qp k))) ∧
  (∀ (s u : State) (c : Cm) (m : ReqMsg) (n : Nat) (q : Qp), s.cmFor c u n q → q.st = .rtr →
    exec (.req c m) s = .next (u.sendRep c n q) ∧ (u.sendRep c n q).net.qps = u.net.qps) ∧
  (∀ (s u : State) (c : Cm) (n : Nat) (q : Qp), s.cmFor c u n q → q.st = .rtr →
    Leads (.rtu c) s (fun t => ∃ r, t.qp n = some r ∧ r.st = .rts ∧ r.epsn = q.epsn ∧ r.home = q.home ∧
      (q.qcount ≠ 0 → ∃ x ∈ r.reqs, x.kind = .queueTable ∧ x.hostAddr = q.qtable ∧ x.hostKey = q.ringKey ∧ x.rlen = 64 * q.qcount) ∧
      (q.qcount = 0 → t = (u.updQp n (fun q => { q with st := .rts })).touchQp n))) ∧
  (∀ (s u : State) (c : Cm) (n : Nat) (q : Qp), s.cmFor c u n q → q.st = .rtr →
    exec (.rej c) s = .next (u.freeQp n) ∧ (u.freeQp n).qp n = none) ∧
  (∀ (s u : State) (c : Cm) (n : Nat) (q : Qp), s.cmFor c u n q → exec (.mra c) s = .next u) ∧
  (∀ (s u : State) (c : Cm) (n : Nat) (q : Qp), s.cmFor c u n q → q.receives = true → u.linkUp c.pkt.port.val = true →
    Settles (.dreq c) s (fun v => v.qp n = none ∧ v.out = .drep c.pkt.port.val c.localId :: u.out)) ∧
  (∀ (s u : State) (c : Cm) (n : Nat) (q : Qp), s.cmFor c u n q → q.dreqSent = true →
    Settles (.drep c) s (fun v => v.qp n = none ∧ v.out = u.out)) ∧
  (∀ (s u : State) (c : Cm) (h : Nat), s.cmIn c = (u, some h) →
    exec (.lap c) s = .next (u.emit (.rej c.pkt.port.val c.localId 5)) ∧
    exec (.apr c) s = .next (u.emit (.rej c.pkt.port.val c.localId 5)) ∧
    exec (.sidrReq c) s = .next (u.emit (.sidrRep c.pkt.port.val c.localId 1)))

/-- A READ, Compare and Swap, Fetch and Add, ATOMIC WRITE or FLUSH that stages 1 and 2 pass, whose PSN the QP expects while no
message is open, whose operands are as Table 03-5 asks and whose key passes the checks of Table 04-2 and finds a transaction
slot, enters the transaction table with its operation on the bytes at its offset from the base of the key's region, and the
QP then expects the next PSN: past all PSNs of the response for a READ, one further for the others. (R28, R29, R74, R94,
R104, R133, R145, R147) -/
def Obligations.KeyRequestsEnterTheTransactionTable : Prop :=
  (∀ (s : State) (p : Pkt) (q : Qp) (r : Reth) (e : Key), s.stage2Ok p = true → (s.stage2Out p).qp p.qpn.toNat = some q →
    expected q p = true → q.openMsg = none → r.dlen.toNat ≤ 2147483648 →
    (s.stage2Out p).keyAdmits p q r.key r.va.toNat r.dlen.toNat rRead (if r.dlen.toNat = 0 then .keyOnly else .whole) e →
    Settles (.rdmaReadRequest p r) s (fun v => v.expects p (p.psn + BitVec.ofNat 24 (packets q.pmtu r.dlen.toNat)) ∧
      v.holdsTxn p .read e.region (e.region + r.va.toNat) r.dlen.toNat r.key)) ∧
  (∀ (s : State) (p : Pkt) (q : Qp) (va : BitVec 64) (key : BitVec 32) (swap cmp : BitVec 64) (e : Key), s.stage2Ok p = true →
    (s.stage2Out p).qp p.qpn.toNat = some q → expected q p = true → q.openMsg = none → va.toNat % 8 = 0 →
    (s.stage2Out p).keyAdmits p q key va.toNat 8 rAtomic .whole e →
    Settles (.compareAndSwap p va key swap cmp) s (fun v => v.expects p (p.psn + 1) ∧
      v.holdsTxn p (.atomicCas swap cmp) e.region (e.region + va.toNat) 8 key)) ∧
  (∀ (s : State) (p : Pkt) (q : Qp) (va : BitVec 64) (key : BitVec 32) (add : BitVec 64) (e : Key), s.stage2Ok p = true →
    (s.stage2Out p).qp p.qpn.toNat = some q → expected q p = true → q.openMsg = none → va.toNat % 8 = 0 →
    (s.stage2Out p).keyAdmits p q key va.toNat 8 rAtomic .whole e →
    Settles (.fetchAndAdd p va key add) s (fun v => v.expects p (p.psn + 1) ∧
      v.holdsTxn p (.atomicAdd add) e.region (e.region + va.toNat) 8 key)) ∧
  (∀ (s : State) (p : Pkt) (q : Qp) (r : Reth) (data : List Byte) (e : Key), s.stage2Ok p = true →
    (s.stage2Out p).qp p.qpn.toNat = some q → expected q p = true → q.openMsg = none → data.length = 8 → r.dlen.toNat = 8 →
    r.va.toNat % 8 = 0 → (s.stage2Out p).keyAdmits p q r.key r.va.toNat 8 rAtomicWrite .whole e →
    Settles (.atomicWrite p r data) s (fun v => v.expects p (p.psn + 1) ∧
      v.holdsTxn p (.write data) e.region (e.region + r.va.toNat) 8 r.key)) ∧
  (∀ (s : State) (p : Pkt) (q : Qp) (r : Reth) (global persist range : Bool) (e : Key), s.stage2Ok p = true →
    (s.stage2Out p).qp p.qpn.toNat = some q → expected q p = true → q.openMsg = none → (global || persist) = true →
    r.dlen.toNat ≤ 2147483648 →
    (s.stage2Out p).keyAdmits p q r.key r.va.toNat r.dlen.toNat rFlush (if range then .whole else .noBounds) e →
    Settles (.rdmaFlush p r global persist range) s (fun v => v.expects p (p.psn + 1) ∧
      v.holdsTxn p (.flush persist) e.region (e.region + r.va.toNat) 0 r.key))

/-- An expected RDMA WRITE of one packet that its key admits enters the transaction table as a write of its payload at its
offset; the first packet of a longer one does so and opens the message with what is left; its last packet writes at the
message's next byte and closes it. A SEND of one packet, and a WRITE with immediate of one packet, on a QP whose sink has
room place the payload and then the slot's 16-byte header, and the sink's message number rises by one. A packet whose opcode
Table 03-4 does not list waits for the NAK that a transport core builds. (R17, R93, R94, R99, R100, R101, R104, R146) -/
def Obligations.WritesAndSendsEnterTheTransactionTable : Prop :=
  (∀ (s : State) (p : Pkt) (q : Qp) (r : Reth) (data : List Byte) (e : Key), s.stage2Ok p = true →
    (s.stage2Out p).qp p.qpn.toNat = some q → expected q p = true → q.openMsg = none → data.length = r.dlen.toNat →
    data.length ≤ q.pmtu → data.length ≤ 2147483648 → padOk p data.length = true →
    (s.stage2Out p).keyAdmits p q r.key r.va.toNat data.length rWrite (if data.length = 0 then .keyOnly else .whole) e →
    Settles (.rdmaWrite p .only (some r) data) s (fun v => v.expects p (p.psn + 1) ∧
      v.holdsTxn p (if data.length = 0 then .nothing else .write data) e.region (e.region + r.va.toNat) data.length r.key)) ∧
  (∀ (s : State) (p : Pkt) (q : Qp) (r : Reth) (data : List Byte) (e : Key), s.stage2Ok p = true →
    (s.stage2Out p).qp p.qpn.toNat = some q → expected q p = true → q.openMsg = none → data.length = q.pmtu → 0 < q.pmtu →
    q.pmtu < r.dlen.toNat → r.dlen.toNat ≤ 2147483648 → padOk p data.length = true →
    (s.stage2Out p).keyAdmits p q r.key r.va.toNat r.dlen.toNat rWrite .whole e →
    Settles (.rdmaWrite p .first (some r) data) s (fun v => v.expects p (p.psn + 1) ∧
      v.holdsTxn p (.write data) e.region (e.region + r.va.toNat) data.length r.key ∧
      ((v.qp p.qpn.toNat).bind (·.openMsg)).map (fun m => (m.isSend, m.next, m.left, m.key)) =
        some (false, e.region + r.va.toNat + data.length, r.dlen.toNat - data.length, r.key))) ∧
  (∀ (s : State) (p : Pkt) (q : Qp) (m : OpenMsg) (data : List Byte), s.stage2Ok p = true →
    (s.stage2Out p).qp p.qpn.toNat = some q → expected q p = true → q.openMsg = some m → m.isSend = false → m.recheck = false →
    data.length = m.left → 0 < data.length → data.length ≤ q.pmtu → padOk p data.length = true →
    (s.stage2Out p).slotFree ((s.stage2Out p).sliceOf p.qpn.toNat) = true →
    Settles (.rdmaWrite p .last none data) s (fun v => v.expects p (p.psn + 1) ∧
      v.holdsTxn p (.write data) m.region m.next data.length m.key ∧ (v.qp p.qpn.toNat).map (·.openMsg) = some none)) ∧
  (∀ (s : State) (p : Pkt) (q : Qp) (k : Sink) (imm : BitVec 32) (r : Reth) (e : Key), s.stage2Ok p = true →
    (s.stage2Out p).qp p.qpn.toNat = some q → expected q p = true → q.openMsg = none → r.dlen.toNat = 0 → padOk p 0 = true →
    q.sink = some k → (s.stage2Out p).sinkFull k = false →
    (s.stage2Out p).keyAdmits p q r.key r.va.toNat 0 rWrite .keyOnly e →
    Settles (.rdmaWriteWithImmediate p .only (some r) imm []) s (fun v => v.expects p (p.psn + 1) ∧
      v.holdsTxn p (.write (sinkHeader 0 (some imm) true (k.sent + 1))) k.region k.slotAddr 16 k.key ∧
      ((v.qp p.qpn.toNat).bind (·.sink)).map (·.sent) = some (k.sent + 1))) ∧
  (∀ (s : State) (p : Pkt) (q : Qp) (k : Sink) (imm : Option (BitVec 32)) (data : List Byte) (e : Key), s.stage2Ok p = true →
    (s.stage2Out p).qp p.qpn.toNat = some q → expected q p = true → q.openMsg = none → data.length ≤ q.pmtu → 0 < data.length →
    padOk p data.length = true → q.sink = some k → (s.stage2Out p).sinkFull k = false → data.length + 16 ≤ 2 ^ k.slotLog2 →
    (s.stage2Out p).keyAdmits p q k.key (k.slotAddr - k.region) (2 ^ k.slotLog2) rWrite .whole e →
    Settles (.send p .only imm data) s (fun v => v.expects p (p.psn + 1) ∧
      v.holdsTxn p (.write data) e.region (k.slotAddr + 16) data.length k.key ∧
      v.holdsTxn p (.write (sinkHeader data.length imm false (k.sent + 1))) k.region k.slotAddr 16 k.key ∧
      ((v.qp p.qpn.toNat).bind (·.sink)).map (·.sent) = some (k.sent + 1))) ∧
  (∀ (s : State) (p : Pkt) (q : Qp) (op : BitVec 8), s.stage2Ok p = true → (s.stage2Out p).qp p.qpn.toNat = some q →
    expected q p = true → (s.stage2Out p).excUsed ((s.stage2Out p).sliceOf p.qpn.toNat) < 1024 →
    Settles (.unsupportedRdmaOpcode p op) s (fun v => v.expects p p.psn ∧
      { qpn := p.qpn.toNat, slice := (s.stage2Out p).sliceOf p.qpn.toNat, pkt := p, req := .unsupported op, why := .nakBuild } ∈ v.net.held))

/-- A Compare and Swap or Fetch and Add at a PSN below the expected one and within the window, not in a range of another kind and
at or below the completed PSN, whose PSN the replay cache holds, is answered with the value kept there while its port is up,
and is not executed again: no transaction is made, and the expected PSN stays. (R104, R105, R107, R108) -/
def Obligations.DuplicateAtomicsAreNotExecutedTwice : Prop :=
  (∀ (s : State) (p : Pkt) (q : Qp) (va : BitVec 64) (key : BitVec 32) (swap cmp old : BitVec 64), s.stage2Ok p = true →
    (s.stage2Out p).qp p.qpn.toNat = some q → q.receives = true → q.closing = false → q.skipped = [] →
    0 < psnDist p.psn q.epsn → psnDist p.psn q.epsn ≤ 8388608 →
    q.ranges.any (fun r => rangeHolds r p.psn && r.kind != .atomic) = false → psnLe p.psn q.cpsn = true →
    q.atomics.find? (fun e => decide (e.1 = p.psn)) = some (p.psn, old) →
    (s.stage2Out p).linkUp ((s.stage2Out p).sendPort q) = true →
    Settles (.compareAndSwap p va key swap cmp) s (fun v => v.net.txns = (s.stage2Out p).net.txns ∧ v.expects p q.epsn ∧
      v.out = .atomicAck ((s.stage2Out p).sendPort q) p.qpn.toNat p.psn old.toNat :: (s.stage2Out p).out)) ∧
  (∀ (s : State) (p : Pkt) (q : Qp) (va : BitVec 64) (key : BitVec 32) (add old : BitVec 64), s.stage2Ok p = true →
    (s.stage2Out p).qp p.qpn.toNat = some q → q.receives = true → q.closing = false → q.skipped = [] →
    0 < psnDist p.psn q.epsn → psnDist p.psn q.epsn ≤ 8388608 →
    q.ranges.any (fun r => rangeHolds r p.psn && r.kind != .atomic) = false → psnLe p.psn q.cpsn = true →
    q.atomics.find? (fun e => decide (e.1 = p.psn)) = some (p.psn, old) →
    (s.stage2Out p).linkUp ((s.stage2Out p).sendPort q) = true →
    Settles (.fetchAndAdd p va key add) s (fun v => v.net.txns = (s.stage2Out p).net.txns ∧ v.expects p q.epsn ∧
      v.out = .atomicAck ((s.stage2Out p).sendPort q) p.qpn.toNat p.psn old.toNat :: (s.stage2Out p).out))

/-- On a QP whose home set the chip acts for: an ACK removes the sent writes up to its PSN from the outstanding requests, up to
the first READ; a PSN-sequence-error NAK within the outstanding span removes what it acknowledges and has the rest sent
again, counted, while retries are left; an RNR NAK and every other NAK put the QP into Error with no request left; a READ
response packet that brings the bytes due next is kept until the READ is whole, and the last one hands the bytes on; a CNP is
counted, and with the reaction point enabled an unlimited QP falls to half its port rate, not below the minimum rate, with
the port rate as target. (R102, R103, R117, R123, R179) -/
def Obligations.RepliesMoveTheRequester : Prop :=
  (∀ (s u : State) (p : Pkt) (q : Qp), s.replyIn p u q →
    Settles (.acknowledge p) s (fun v => (v.qp p.qpn.toNat).map (fun x => (x.reqs.map (·.psn), x.st, x.epsn)) =
      some ((ackReqs p.psn q.reqs).map (·.psn), q.st, q.epsn))) ∧
  (∀ (s u : State) (p : Pkt) (q : Qp) (rest : List DevReq), s.replyIn p u q → psnDist q.oldest p.psn ≤ psnDist q.oldest q.spsn →
    rest = q.reqs.filter (fun r => decide (psnDist q.oldest p.psn < psnDist q.oldest r.psn + r.count)) → rest ≠ [] →
    q.retry < u.sliceGet (u.sliceOf p.qpn.toNat) Fld.TRN_REQ_TIMER_RETRY_CNT →
    Settles (.sequenceNakReceived p) s (fun v => (v.qp p.qpn.toNat).map (fun x => x.reqs.map (·.psn)) = some (rest.map (·.psn)) ∧
      (v.reg Reg.TRN_RETRY).toNat = u.plusOne Reg.TRN_RETRY)) ∧
  (∀ (s u : State) (p : Pkt) (q : Qp), s.replyIn p u q →
    Settles (.rnrNakReceived p) s (fun v => v = u.enterError p.qpn.toNat 0x20 ∧
      (v.qp p.qpn.toNat).map (fun x => (x.st, x.reqs)) = some (.error, []))) ∧
  (∀ (s u : State) (p : Pkt) (q : Qp) (k : NakKind), s.replyIn p u q →
    Settles (.errorNakReceived p k) s (fun v =>
      v = u.enterError p.qpn.toNat (match k with
        | .invalidRequest => 0x81
        | .remoteAccess => 0x82
        | .remoteOperational => 0x83) ∧
      (v.qp p.qpn.toNat).map (fun x => (x.st, x.reqs)) = some (.error, []))) ∧
  (∀ (s u : State) (p : Pkt) (q : Qp) (r : DevReq) (rest : List DevReq) (data : List Byte), s.replyIn p u q →
    ackReqs (p.psn - 1) q.reqs = r :: rest → r.sent = true → r.kind.isRead = true → r.psn = p.psn → r.got = [] →
    data.length = min q.pmtu r.rlen →
    (1 < r.count → exec (.rdmaReadResponse p .first data) s =
      .next ((u.setReqs p.qpn.toNat ({ r with got := data } :: rest)).updQp p.qpn.toNat (fun q => { q with retry := 0 }))) ∧
    (r.count = 1 → Settles (.rdmaReadResponse p .only data) s (fun v =>
      v = ((u.setReqs p.qpn.toNat rest).readAnswered p.qpn.toNat r.kind data).pumpReqs p.qpn.toNat))) ∧
  (∀ (s u w : State) (p : Pkt) (q : Qp), s.replyIn p u q → w = u.count Reg.TRN_CNP_RX →
    (w.rpField p.qpn.toNat Fld.TRN_CTRL_RP_EN = 0 → exec (.cnp p) s = .next w) ∧
    (w.rpField p.qpn.toNat Fld.TRN_CTRL_RP_EN ≠ 0 → q.rate.limited = false →
      Leads (.cnp p) s (fun t => (t.qp p.qpn.toNat).map (fun x => (x.rate.limited, x.rate.target, x.rate.rate)) =
        some (true, w.portRate (w.sendPort q), max (w.portRate (w.sendPort q) - w.portRate (w.sendPort q) / 2)
          (w.rpField p.qpn.toNat Fld.TRN_CNP_RP_MIN_RATE * 1000)) ∧ t.regs = w.regs)))

/-- On a port that takes frames each frame is counted as received. An LLDP frame goes to the cores. An ARP request or neighbour
solicitation for a service address of a home set the chip acts for is answered with that home set's service MAC address, and
any other is counted as a non-RoCE drop. An echo request for such an address is answered while fewer than 1,000 were answered
in the second, and then no more. A frame of another kind is counted as a drop, or as an FCS error where its FCS fails. A PFC
frame pauses each class that it enables with a non-zero quanta, resumes each that it enables with zero, and leaves the
others. (R81, R87, R89, R90, R129) -/
def Obligations.PortFramesAreAnswered : Prop :=
  (∀ (s u : State) (p : Fin 8), s.coreRuns = true → s.portTakes p.val = true → u = s.count (Reg.PRT_RX_FRAMES p.val) →
    exec (.lldpFrame p) s = .next (u.emit (.lldpToCores p.val)) ∧
    (∀ ok : Bool, exec (.otherFrame p ok) s = .next (u.count (if ok then Reg.PRT_NONROCE_DROP p.val else Reg.PRT_FCS_ERR p.val)))) ∧
  (∀ (s u : State) (p : Fin 8) (ip : BitVec 32), s.coreRuns = true → s.portTakes p.val = true → u = s.count (Reg.PRT_RX_FRAMES p.val) →
    (∀ h, u.svcHome false ip.toNat = some h → u.acts h = true →
      exec (.arpRequest p ip) s = .next (u.emit (.arpReply p.val h ip (u.svcMac h)))) ∧
    (u.svcHome false ip.toNat = none → exec (.arpRequest p ip) s = .next (u.count (Reg.PRT_NONROCE_DROP p.val)))) ∧
  (∀ (s u : State) (p : Fin 8) (ip : BitVec 128), s.coreRuns = true → s.portTakes p.val = true → u = s.count (Reg.PRT_RX_FRAMES p.val) →
    (∀ h, u.svcHome true ip.toNat = some h → u.acts h = true →
      exec (.neighbourSolicitation p ip) s = .next (u.emit (.neighbourAdvert p.val h ip (u.svcMac h)))) ∧
    (∀ h, u.svcHome true ip.toNat = some h → u.acts h = false →
      exec (.neighbourSolicitation p ip) s = .next (u.count (Reg.PRT_NONROCE_DROP p.val)))) ∧
  (∀ (s u : State) (p : Fin 8) (v6 : Bool) (ip h : Nat), s.coreRuns = true → s.portTakes p.val = true →
    u = s.count (Reg.PRT_RX_FRAMES p.val) → u.svcHome v6 ip = some h → u.acts h = true → u.now < (u.port p.val).echoAt + 1000000 →
    ((u.port p.val).echoes < 1000 → exec (.echoRequest p v6 ip) s =
      .next ((u.updPort p.val (fun x => { x with echoes := (u.port p.val).echoes + 1 })).emit (.echoReply p.val))) ∧
    (1000 ≤ (u.port p.val).echoes → exec (.echoRequest p v6 ip) s = .next u)) ∧
  (∀ (s : State) (p : Fin 8) (en quanta : BitVec 8), s.coreRuns = true → s.portTakes p.val = true →
    Leads (.pfcFrame p en quanta) s (fun t =>
      (∀ k, k < 8 → (t.cls p.val k).paused.isSome = if en.getLsbD k then quanta.getLsbD k else (s.cls p.val k).paused.isSome) ∧
      (∀ r k, r < 8 → r ≠ p.val → t.cls r k = s.cls r k) ∧
      (t.reg (Reg.PRT_PFC_RX p.val)).toNat = if en &&& quanta = 0 then (s.reg (Reg.PRT_PFC_RX p.val)).toNat else s.plusOne (Reg.PRT_PFC_RX p.val)))

/-- FEC lock on an enabled port that trains brings its link up, ends its training and records EV_PRT_LINK_UP; at start-up step 10
it also puts the chip in service. Loss of the link clears LINK_UP, ends the partner's pause of every class and begins
training again. A training attempt that times out sets TRAIN_FAIL, records EV_PRT_TRAIN_FAIL and begins the next. A class
that asserts pause repeats its XOFF while the link is up, counted. A lossless class paused without a break for the storm time
is recorded once. (R78, R79, R80, R84, R87, R509) -/
def Obligations.PortLinksAndPause : Prop :=
  (∀ (s : State) (p : Fin 8), s.coreRuns = true → s.get (Fld.PRT_MODE_RATE p.val) ≠ 0 → s.linkUp p.val = false →
    (s.port p.val).training.isSome = true →
    Leads (.portFecLock p) s (fun t => t.linkUp p.val = true ∧ (t.port p.val).training = none ∧
      t.on (Fld.PRT_STATUS_LT_DONE p.val) = s.on (Fld.PRT_MODE_LT_EN p.val) ∧ t.regBit Reg.TRN_EVT 0 = true ∧
      (s.get Fld.CFL_BOOTINFO_STEP = 10 → t.get Fld.CFL_BOOTINFO_STEP = 11 ∧ t.get Fld.GLB_STATUS_IN_SERVICE = 1) ∧
      (s.get Fld.CFL_BOOTINFO_STEP ≠ 10 → t.get Fld.CFL_BOOTINFO_STEP = s.get Fld.CFL_BOOTINFO_STEP))) ∧
  (∀ (s : State) (p : Fin 8), s.coreRuns = true → s.linkUp p.val = true →
    Leads (.portLinkLoss p) s (fun t => t.linkUp p.val = false ∧ (t.port p.val).training = some s.now ∧
      (∀ k, k < 8 → (t.cls p.val k).paused = none) ∧ t.regBit Reg.TRN_EVT 0 = true ∧ t.net.qps = s.net.qps)) ∧
  (∀ (s : State) (p : Fin 8), s.coreRuns = true → s.get (Fld.PRT_MODE_RATE p.val) ≠ 0 → s.linkUp p.val = false →
    (s.port p.val).training.isSome = true →
    exec (.linkTrainingTimeout p) s = .next (((s.putB (Fld.PRT_STATUS_TRAIN_FAIL p.val) true).updPort p.val
      (fun x => { x with training := some s.now })).record .prtTrainFail (unitChan p.val))) ∧
  (∀ (s : State) (p c : Fin 8), s.coreRuns = true → (s.cls p.val c.val).xoff = true → s.linkUp p.val = true →
    exec (.pfcXoffRepeat p c) s = .next ((s.emit (.pfc p.val c.val true)).count (Reg.PRT_PFC_TX p.val))) ∧
  (∀ (s : State) (p c : Fin 8), s.coreRuns = true → s.lossless p.val c.val = true → (s.cls p.val c.val).paused.isSome = true →
    ((s.cls p.val c.val).stormSeen = false →
      Leads (.pauseStormTimeout p c) s (fun t => (t.cls p.val c.val).stormSeen = true ∧ t.regBit Reg.TRN_EVT 2 = true)) ∧
    ((s.cls p.val c.val).stormSeen = true → exec (.pauseStormTimeout p c) s = .next s))

/-- While the coalescing time runs out on a QP with uncovered requests, an ACK of the completed PSN leaves and covers them. The
local ACK timeout of a QP with requests sent repeats them all while retries are left, counting the retry, and otherwise
records EV_TRN_RETRY_EXCEEDED and puts the QP into Error. A QP in Error is freed at the end of its hold. A period without a
CNP lowers alpha of a limited QP and takes one increase step. (R103, R110, R117, R120, R121, R123) -/
def Obligations.QpTimersAct : Prop :=
  (∀ (s : State) (n : BitVec 24) (q : Qp), s.coreRuns = true → s.qp n.toNat = some q → q.uncovered ≠ 0 → q.receives = true →
    s.acts q.home = true → s.linkUp (s.sendPort q) = true →
    exec (.ackCoalesceTimeout n) s = .next (s.sendAck n.toNat q.cpsn) ∧
    ((s.sendAck n.toNat q.cpsn).qp n.toNat).map (·.uncovered) = some 0 ∧
    (s.sendAck n.toNat q.cpsn).out = .ack (s.sendPort q) n.toNat q.cpsn q.msn :: s.out) ∧
  (∀ (s : State) (n : BitVec 24) (q : Qp), s.coreRuns = true → s.qp n.toNat = some q → q.reqs.any (·.sent) = true →
    s.acts q.home = true →
    (q.retry < s.sliceGet (s.sliceOf n.toNat) Fld.TRN_REQ_TIMER_RETRY_CNT →
      Settles (.localAckTimeout n) s (fun v => (v.reg Reg.TRN_RETRY).toNat = s.plusOne Reg.TRN_RETRY ∧
        (v.qp n.toNat).map (fun x => (x.retry, x.reqs.map (·.psn), x.st)) = some (q.retry + 1, q.reqs.map (·.psn), q.st))) ∧
    (s.sliceGet (s.sliceOf n.toNat) Fld.TRN_REQ_TIMER_RETRY_CNT ≤ q.retry →
      Settles (.localAckTimeout n) s (fun v => (v.qp n.toNat).map (fun x => (x.st, x.reqs)) = some (.error, []) ∧
        v.regBit Reg.TRN_EVT 3 = true))) ∧
  (∀ (s : State) (n : BitVec 24) (q : Qp), s.coreRuns = true → s.qp n.toNat = some q →
    (q.st = .error → exec (.errorHoldExpiry n) s = .next (s.freeQp n.toNat) ∧ (s.freeQp n.toNat).qp n.toNat = none) ∧
    (q.st ≠ .error → exec (.errorHoldExpiry n) s = .next s)) ∧
  (∀ (s : State) (n : BitVec 24) (q : Qp), s.coreRuns = true → s.qp n.toNat = some q → q.rate.limited = true →
    s.rpField n.toNat Fld.TRN_CTRL_RP_EN ≠ 0 →
    Leads (.rpTimerExpiry n) s (fun t => (t.qp n.toNat).map (·.rate) =
        some (RateSt.step { q.rate with alpha := alphaDown q.rate.alpha (s.rpField n.toNat Fld.TRN_CNP_G_SHIFT) }
          (s.portRate (s.sendPort q)) (s.rpField n.toNat Fld.TRN_RP_STEP_AI_RATE) (s.rpField n.toNat Fld.TRN_RP_STEP_HAI_RATE)) ∧
      t.regs = s.regs ∧ t.out = s.out ∧ ∀ m, m ≠ n.toNat → t.qp m = s.qp m))

/-- A context being fetched becomes resident, used now, owes no rewind NAK any more, and the packets that wait for it are tried
again; one being spilled becomes spilled, and those that waited for the spill are tried again; the least recently used idle
context makes way for a wanted one. A filled key becomes cached, the keys of a resolved region leave the transition, an
exception's NAK is built and closes its QP, room in an exception queue and a freed transaction slot let the stalled packets
go on, and a steering entry changes once its slice holds no transaction of its QPs, or waits for the exit from P1 and P2.
(R51, R56, R57, R58, R110, R111, R112, R139, R149) -/
def Obligations.WaitingPacketsGoOn : Prop :=
  (∀ (s : State) (n : BitVec 24) (q : Qp), s.coreRuns = true → s.qp n.toNat = some q → q.where_ = .fetching →
    ∃ u : State, (u.qp n.toNat).map (fun x => (x.where_, x.lastUse, x.rewindDue, x.epsn)) = some (.resident, s.now, false, q.epsn) ∧
      u.net.held = s.net.held ∧
      exec (.contextFetchDone n) s = .next (u.refeedWhere (fun h => decide (h.qpn = n.toNat) && h.why == .context))) ∧
  (∀ (s : State) (n : BitVec 24) (q : Qp), s.coreRuns = true → s.qp n.toNat = some q → q.where_ = .spilling →
    exec (.contextSpillDone n) s = .next ((s.updQp n.toNat (fun q => { q with where_ := .spilled })).refeedWhere
      (fun h => decide (h.qpn = n.toNat) && h.why == .spill))) ∧
  (∀ (s : State) (n : BitVec 24) (m : Nat) (q x : Qp), s.coreRuns = true → s.qp n.toNat = some q → s.qp m = some x → m ≠ n.toNat →
    q.where_ = .spilled → s.net.held.any (fun h => decide (h.qpn = n.toNat) && h.why == .context) = true →
    s.net.qps.filter s.idleContext = [(m, x)] →
    Leads (.contextVictimSpill n) s (fun t => (t.qp m).map (·.where_) = some .spilling ∧ (t.qp n.toNat).map (·.where_) = some .fetching ∧
      t.net.held = s.net.held)) ∧
  (∀ (s : State) (k : BitVec 32), s.coreRuns = true →
    s.net.held.any (fun h => h.why == .key && decide (keyIndex (s.heldKey h) = keyIndex k)) = true →
    exec (.keyCacheFill k) s = .next ((s.cacheTouch (keyIndex k)).refeedWhere
      (fun h => h.why == .key && decide (keyIndex (s.heldKey h) = keyIndex k))) ∧ (s.cacheTouch (keyIndex k)).cached (keyIndex k) = true) ∧
  (∀ (s : State) (r : Nat), s.coreRuns = true →
    ∃ u : State, (∀ i, i ∈ u.prot.transit ↔ i ∈ s.prot.transit ∧ ∃ k, s.key i = some k ∧ k.region ≠ r) ∧ u.net = s.net ∧
      u.prot.keys = s.prot.keys ∧ exec (.regionTransitionResolved r) s = .next (u.refeedWhere (fun h => h.why == .transition))) ∧
  (∀ (s : State) (n : BitVec 24) (q : Qp) (h : Held), s.coreRuns = true → s.qp n.toNat = some q → s.net.held = [h] → h.qpn = n.toNat →
    h.why = .nakBuild →
    Settles (.exceptionNakBuilt n) s (fun v => (v.qp n.toNat).map (·.closing) = some true ∧ v.net.held = [] ∧
      ∃ t ∈ v.net.txns, t.qpn = n.toNat ∧ t.psn = h.pkt.psn ∧ t.op = .nak 0x61 ∧ t.slotless = true)) ∧
  (∀ (s : State) (k : Fin 8), s.coreRuns = true →
    (s.excUsed k.val < 1024 → exec (.exceptionQueueRoom k) s = .next (s.refeedWhere (fun h => decide (h.slice = k.val) && h.why == .excFull))) ∧
    (1024 ≤ s.excUsed k.val → exec (.exceptionQueueRoom k) s = .next s) ∧
    (s.slotFree k.val = true → exec (.slotFreed k) s = .next (s.refeedWhere (fun h => decide (h.slice = k.val) && h.why == .slot))) ∧
    (s.slotFree k.val = false → exec (.slotFreed k) s = .next s)) ∧
  (∀ (s : State) (i k : Fin 8), s.coreRuns = true → s.net.steer.length = 8 →
    (s.trimmed = true → exec (.steeringChange i k) s =
      .next { s with gov := { s.gov with steer := updAt s.gov.steer i.val (fun _ => k.val) } }) ∧
    (s.trimmed = false → s.net.steerWait = [] → s.net.txns = [] →
      ∃ u : State, (∀ n, u.sliceOf n = if steerIndex n = i.val then k.val else s.sliceOf n) ∧ u.net.steerWait = [] ∧ u.net.held = s.net.held ∧
        exec (.steeringChange i k) s = .next (u.refeedWhere (fun h => h.why == .steer))) ∧
    (s.trimmed = false → s.net.steerWait = [] →
      (s.net.txns.any (fun t => decide (t.slice = s.net.steer.getD i.val 0) && decide (steerIndex t.qpn = i.val))) = true →
      exec (.steeringChange i k) s = .next { s with net := { s.net with steerWait := [(i.val, k.val)] } }))

/-- A decoded codeword of a unit being filled is delivered and an undecodable one needs a heal; no other unit is touched. A READ
at its deadline is placed with all its bytes, marked as failed, counted and recorded, and ruined where its region is fail-QP.
A HEAL_REQ for a unit that is readable is served and counted whatever the role, and for another answered with HEAL_FAIL.
HEAL_DATA for a heal asked for makes every line of its piece valid, and HEAL_FAIL poisons the unit. A frame of the transient
pool that is clean lets the transactions that wait for the pool be tried again. (R64, R222, R223, R224, R225, R378) -/
def Obligations.TierFillsHealsAndDeadlines : Prop :=
  (∀ (s : State) (u : Nat) (k : Fin 4) (f : Frame), s.coreRuns = true → s.frame u = some f → f.filling = true →
    exec (.t2FillDone u k true) s = .next (s.deliver u k.val) ∧ exec (.t2FillDone u k false) s = .next (s.needHeal u)) ∧
  (∀ (s : State) (id : Nat) (t : Txn) (r : Region), s.coreRuns = true → s.txn id = some t → s.region t.region = some r →
    t.accepted = true → t.placed = false → t.op = .read →
    Settles (.t2Deadline id) s (fun v => (v.txn id).map (fun x => (x.placed, x.got.length, x.failed.isSome, x.ruined)) =
        some (true, t.len, true, r.failqp) ∧
      (v.reg Reg.TIER_DEADLINE_MISS).toNat = s.plusOne Reg.TIER_DEADLINE_MISS ∧ v.regBit Reg.TIER_EVT 0 = true)) ∧
  (∀ (s : State) (h : Fin 2) (u n : Nat), s.coreRuns = true → s.on Fld.TWN_STATUS_LINK_UP = true →
    (s.unitReadable u = true → Leads (.healReq h u n) s (fun t =>
      (t.reg Reg.TWN_HEALS_SERVED).toNat = s.plusOne Reg.TWN_HEALS_SERVED ∧ t.tier = s.tier ∧ t.flash = s.flash ∧ t.net = s.net)) ∧
    (s.unitReadable u = false → exec (.healReq h u n) s = .next (s.linkSend true 32 (.heal 7 h.val u n 0 [] 0)))) ∧
  (∀ (s : State) (h : Fin 2) (u n : Nat) (k : Fin 4) (data : List Byte) (poison : BitVec 64) (f : Frame), s.coreRuns = true →
    data.length = 4096 → s.tier.heals.contains (u, n) = true → s.homeOfUnit u = some h.val → s.frame u = some f →
    Settles (.healData h u n k data poison) s (fun v => ∃ g, v.frame u = some g ∧ (∀ i, i < 64 → g.valid.getLsbD (k.val * 64 + i) = true) ∧
      v.flash = s.flash)) ∧
  (∀ (s : State) (h : Fin 2) (u n : Nat), s.coreRuns = true → s.tier.heals.contains (u, n) = true → s.homeOfUnit u = some h.val →
    exec (.healFail h u n) s = .next (s.poisonUnit u)) ∧
  (∀ (s : State) (u : Nat), s.coreRuns = true → s.frame u = none →
    Settles (.transientFrameCleaned u) s (fun v => v.net.txns = s.net.txns.map (fun t => { t with waitTransient := false }) ∧ v.tier = s.tier))

/-- A CONFIRM of one frame, while the link is up and the chip is active in a PAIRED home set, takes that frame off the
unconfirmed list, and no transaction of the home set waits for it any more. A fence whose conditions hold leaves the list of
fences and the count of fences rises; one that overruns stops waiting for its messages and is recorded. A free unclaimed
clean FLOAT granule stops being evicted and the short-of-float waits are tried again. A layer that Parison has loaded is
resident in its stream, a pin whose load is done is loaded, and a stream whose slow reader stalls it is recorded once for
each finished layer. (R150, R151, R208, R215, R216, R218, R369) -/
def Obligations.ConfirmsFencesAndStreams : Prop :=
  (∀ (s : State) (h : Fin 2) (m : BitVec 48), s.coreRuns = true → s.on Fld.TWN_STATUS_LINK_UP = true → s.paired h.val = true →
    s.cqi.recs = [] → s.net.unconf.any (fun u => decide (u.home = h.val) && decide (u.mseq = m.toNat)) = true →
    Settles (.confirm h [(m, 1)]) s (fun v =>
      v.net.unconf = s.net.unconf.filter (fun u => !(decide (u.home = h.val) && decide (u.mseq = m.toNat))) ∧
      (∀ t ∈ v.net.txns, t.home = h.val → m.toNat ∉ t.mseqs ∧ t.armWait ≠ some m.toNat))) ∧
  (∀ (s : State) (id : Nat) (f : Fence), s.coreRuns = true → s.prot.fences.find? (fun f => decide (f.id = id)) = some f →
    (s.fenceDone f = true → f.cap = none → f.kind = .withdraw →
      Settles (.fenceComplete id) s (fun v => (∀ g ∈ v.prot.fences, g.id ≠ f.id) ∧ (v.reg Reg.KEY_FENCES).toNat = s.plusOne Reg.KEY_FENCES ∧
        v.regBit Reg.KEY_EVT 2 = true)) ∧
    (s.fenceDone f = false → exec (.fenceComplete id) s = .next s) ∧
    (f.begun = true → f.msgs ≠ [] → Leads (.fenceTimeout id) s (fun t =>
      (∀ g ∈ t.prot.fences, g.id = id → g.msgs = []) ∧ t.regBit Reg.KEY_EVT 1 = true))) ∧
  (∀ (s : State) (g : Nat), s.coreRuns = true → (s.granule g).claims = [] → s.isFloat g = true → s.granuleDirty g = false →
    s.granuleResident g = false →
    ∃ u : State, (u.granule g).evicting = false ∧ u.net = s.net ∧ u.regs = s.regs ∧
      exec (.floatGranuleFreed g) s = .next (
        let w := u.retry (fun t => { t with waitFloat := false })
        if w.net.txns.any (·.waitFloat) then w else w.put Fld.TIER_STATUS_FLOAT_SHORT 0)) ∧
  (∀ (s : State) (id layer : Nat) (ok : Bool) (x : Stream), s.coreRuns = true → kget s.tier.streams id = some x → x.loading = some layer →
    Settles (.parisonLayerLoaded id layer ok) s (fun v =>
      v = s.layerLoaded id layer ok ∧ (kget v.tier.streams id).map (fun y => y.loaded.contains (layer % x.layers)) = some true)) ∧
  (∀ (s : State) (c : CapRef) (p : PinLoad), s.coreRuns = true → s.tier.pins.find? (fun p => decide (p.cap = c) && !p.loaded) = some p →
    Settles (.pinLoadDone c) s (fun v => ∀ y ∈ v.tier.pins, y.cap = c → y.loaded = true)) ∧
  (∀ (s : State) (id : Nat) (x : Stream), s.coreRuns = true → kget s.tier.streams id = some x → s.reg Reg.TIER_STRM_STALL ≠ 0 →
    x.readers.any (fun r => r != x.readers.headD none) = true →
    (x.stallSeen ≠ some x.finished → Leads (.streamStallTimeout id) s (fun t =>
      (kget t.tier.streams id).map (·.stallSeen) = some (some x.finished) ∧ t.regBit Reg.TIER_EVT 3 = true)) ∧
    (x.stallSeen = some x.finished → exec (.streamStallTimeout id) s = .next s))

/-- While no standby must record it first, a valid SQ doorbell of a live queue sets its recorded tail, a CQ doorbell its
completion head and an NQ doorbell its notification head; a doorbell of queue 0 with RESUME makes that queue Active if it was
Frozen, with its failed slots released, or with REPLAY kept for fetching again. Each takes its PSN. A grant of the fetch
scheduler to a queue of which it takes one capsule moves the fetch cursor by one, marks the slot as being fetched and adds a
READ of its 64 bytes to the requests of the connection. While the chip does not accept for the home set nothing is granted.
(R160, R161, R163, R176, R178, R179, R183) -/
def Obligations.DoorbellsAndFetches : Prop :=
  (∀ (s : State) (p : Pkt) (q : Qp) (key : BitVec 32) (off v : BitVec 64) (k : Nat) (x : Queue), s.coreRuns = true →
    s.doorbellIn p q key off v.toNat k 0 x → v.toNat < 65536 →
    Settles (.sqDoorbell p key off v) s (fun w => (w.queue p.qpn.toNat k).map (fun y => (y.sqTail, y.cqHead, y.nqHead, y.st)) =
        some (v.toNat, x.cqHead, x.nqHead, x.st) ∧ w.expects p (p.psn + 1))) ∧
  (∀ (s : State) (p : Pkt) (q : Qp) (key : BitVec 32) (off : BitVec 64) (tail : BitVec 16) (x : Queue), s.coreRuns = true →
    s.doorbellIn p q key off (tail.toNat + 2 ^ 63) 0 0 x → x.st = .frozen →
    Settles (.resumeDoorbell p key off tail) s (fun w => (w.queue p.qpn.toNat 0).map (fun y => (y.sqTail, y.st, y.replay)) =
        some (tail.toNat, .active, []) ∧ w.expects p (p.psn + 1) ∧
      ∀ y, w.queue p.qpn.toNat 0 = some y → y.slots = x.slots.filter (fun z => z.st != .failed))) ∧
  (∀ (s : State) (p : Pkt) (q : Qp) (key : BitVec 32) (off : BitVec 64) (tail : BitVec 16) (x : Queue), s.coreRuns = true →
    s.doorbellIn p q key off (tail.toNat + 2 ^ 63 + 2 ^ 62) 0 0 x → x.st = .frozen →
    Settles (.resumeReplayDoorbell p key off tail) s (fun w => (w.queue p.qpn.toNat 0).map (fun y => (y.sqTail, y.st, y.slots)) =
        some (tail.toNat, .active, x.slots) ∧ w.expects p (p.psn + 1) ∧
      ∀ y, w.queue p.qpn.toNat 0 = some y → ∀ i, i ∈ y.replay ↔ ∃ z ∈ x.slots, z.st = .failed ∧ z.idx = i)) ∧
  (∀ (s : State) (p : Pkt) (q : Qp) (key : BitVec 32) (off v : BitVec 64) (k : Nat) (x : Queue), s.coreRuns = true →
    s.doorbellIn p q key off v.toNat k 8 x → v.toNat < 65536 →
    Settles (.cqDoorbell p key off v) s (fun w => (w.queue p.qpn.toNat k).map (fun y => (y.sqTail, y.cqHead, y.nqHead)) =
        some (x.sqTail, v.toNat, x.nqHead) ∧ w.expects p (p.psn + 1))) ∧
  (∀ (s : State) (p : Pkt) (q : Qp) (key : BitVec 32) (off v : BitVec 64) (k : Nat) (x : Queue), s.coreRuns = true →
    s.doorbellIn p q key off v.toNat k 16 x → v.toNat < 65536 →
    Settles (.nqDoorbell p key off v) s (fun w => (w.queue p.qpn.toNat k).map (fun y => (y.sqTail, y.cqHead, y.nqHead)) =
        some (x.sqTail, x.cqHead, v.toNat) ∧ w.expects p (p.psn + 1))) ∧
  (∀ (s : State) (h : Fin 2) (sch : Sched) (key : Nat) (q : Queue) (qp : Qp), s.coreRuns = true →
    (s.accepting h.val = true → s.pick h.val = (sch, some key) → kget s.cqi.queues key = some q → s.qp (key / 64) = some qp →
      s.grantSize q = 1 → q.replay = [] → qp.fetchesInFlight < s.get Fld.CQI_FETCH_FETCH_DEPTH → qp.readsInFlight < 16 →
      Leads (.fetchGrant h) s (fun t => (kget t.cqi.queues key).map (·.cursor) = some ((q.cursor + 1) % q.sqSize) ∧
        (∃ y, kget t.cqi.queues key = some y ∧ { idx := q.cursor % q.sqSize, st := .fetching } ∈ y.slots) ∧
        ∃ z, t.qp (key / 64) = some z ∧ ∃ r ∈ z.reqs, r.kind = .fetch (key % 64) (q.cursor % q.sqSize) 1 ∧
          r.hostAddr = q.sqAddr + 64 * (q.cursor % q.sqSize) ∧ r.hostKey = qp.ringKey ∧ r.rlen = 64)) ∧
    (s.accepting h.val = false → exec (.fetchGrant h) s = .next s))

/-- Completing a capsule of a live queue advances the count of completions. With SUCCESS the slot is released and the queue keeps
its state; with any other status the slot is kept as failed, the queue is Frozen and the error log of the connection grows.
Either way the connection's requests hold an RDMA WRITE of the entry, at its place in the completion ring and with the ring
key, whose result, command identifier, status and phase are those of the capsule, and CQI_COMPLETED counts it. (R171, R172,
R173, R182, R189) -/
def Obligations.CapsuleCompletionIsPosted : Prop :=
  ∀ (s : State) (c : CapRef) (qp : Qp) (q : Queue) (x : Slot) (status result : Nat) (poison : Bool), s.qp c.qpn = some qp →
    s.queue c.qpn c.queue = some q → s.slot c = some x → q.live = true → status < 32768 →
    ∃ t, t = s.complete c status result poison ∧
      (status = 0 → (t.queue c.qpn c.queue).map (fun y => (y.st, y.cqCount, y.slots)) =
        some (q.st, q.cqCount + 1, q.slots.filter (fun y => y.idx != c.slot))) ∧
      (status ≠ 0 → (t.queue c.qpn c.queue).map (fun y => (y.st, y.cqCount, y.slots.map (·.idx))) =
          some (.frozen, q.cqCount + 1, q.slots.map (·.idx)) ∧ (t.slot c).map (fun y => (y.st, y.status)) = some (.failed, status) ∧
        (t.qp c.qpn).map (·.errTotal) = some (qp.errTotal + 1)) ∧
      (∃ y, t.qp c.qpn = some y ∧ ∃ r ∈ y.reqs, r.kind = .postCq c.queue (q.cqCount % q.cqSize) ∧
        r.hostAddr = q.cqAddr + 16 * (q.cqCount % q.cqSize) ∧ r.hostKey = qp.ringKey ∧ r.data.length = 16 ∧
        capField r.data 0 8 = result % 2 ^ 64 ∧ capField r.data 12 2 = capField x.bytes 2 2 ∧
        capField r.data 14 2 = status + phase q.cqCount q.cqSize * 32768) ∧
      (t.reg Reg.CQI_COMPLETED).toNat = s.plusOne Reg.CQI_COMPLETED ∧ t.tier = s.tier ∧ t.flash = s.flash

/-- A capsule that is there to start answers INVALID_OPCODE if its queue does not accept its opcode, INVALID_FIELD if its
reserved parts or LENGTH break the layout, ACCESS_DENIED if its command needs the admin bit and the connection lacks it, and
otherwise its own effect from the state in which it runs. One whose record is not confirmed, whose queue does not live or for
whose home set the chip does not accept does nothing. (R164, R165, R167, R180) -/
def Obligations.CapsulesStartWhenFetched : Prop :=
  (∀ (s : State) (c : CapRef) (qp : Qp) (bs : List Byte), s.capAt c .unknown qp bs →
    FailsCap (.unknownCapsuleOpcode c) s c stInvalidOpcode (fun v => v = s.started c)) ∧
  (∀ (s : State) (c : CapRef) (row : CapRow) (qp : Qp) (bs : List Byte) (go : Qp → List Byte → State → State), s.capAt c row qp bs →
    row ≠ .unknown →
    (capFormOk row bs = false → s.startCap c row go = ((s.started c).failCap c stInvalidField).settle) ∧
    (capFormOk row bs = true → needsAdmin row = true → qp.admin = false →
      s.startCap c row go = ((s.started c).failCap c stAccessDenied).settle) ∧
    (capFormOk row bs = true → (needsAdmin row = true → qp.admin = true) → s.startCap c row go = (go qp bs (s.started c)).settle)) ∧
  (∀ (s : State) (c : CapRef) (row : CapRow) (qp : Qp) (x : Slot) (go : Qp → List Byte → State → State), s.qp c.qpn = some qp →
    s.slot c = some x → x.wait ≠ none ∨ s.accepting qp.home = false ∨ (s.queue c.qpn c.queue).any (·.live) = false →
    s.startCap c row go = s)

/-- A READ of some bytes puts one transaction for each segment of 1 MiB into the transaction table. A WRITE or COPY of some bytes
runs with its number of segments and none begun. ZERO of whole words and TRIM of whole map units are one transaction each,
and so is a FLUSH, plain or DEEP, for the namespace. With LENGTH 0 they complete at once. A ZERO or TRIM that is not aligned
gives INVALID_FIELD, and a READ whose key does not name a valid key table entry ACCESS_DENIED. (R25, R27, R147, R168, R169,
R170) -/
def Obligations.DataCapsulesAreCarriedOut : Prop :=
  (∀ (s : State) (c : CapRef) (qp : Qp) (bs : List Byte) (e : Key), s.capFor c .read qp bs →
    s.capKeyOk c qp (capKey bs) (capOff bs) (capLen bs) rRead e →
    (capLen bs ≠ 0 → Settles (.capsuleRead c) s (fun v => ∀ i, i < segments (capLen bs) →
      v.holdsCap c .read e.region (e.region + (capOff bs + i * segBytes)) (segLen (capLen bs) i))) ∧
    (capLen bs = 0 → Completes (.capsuleRead c) s c 0 (fun v => v = s.started c))) ∧
  (∀ (s : State) (c : CapRef) (qp : Qp) (bs : List Byte), s.capFor c .read qp bs → s.findKey c.qpn (capKey bs) = none →
    FailsCap (.capsuleRead c) s c stAccessDenied (fun v => (v.reg Reg.KEY_VIOL_KEY).toNat = s.plusOne Reg.KEY_VIOL_KEY)) ∧
  (∀ (s : State) (c : CapRef) (qp : Qp) (bs : List Byte) (e : Key), s.capFor c .write qp bs → capLen bs ≠ 0 →
    s.capKeyOk c qp (capKey bs) (capOff bs) (capLen bs) rWrite e →
    Settles (.capsuleWrite c) s (fun v => v = (s.started c).setSegs c (segments (capLen bs)) 0)) ∧
  (∀ (s : State) (c : CapRef) (qp : Qp) (bs : List Byte) (e f : Key), s.capFor c .copy qp bs → capLen bs ≠ 0 →
    s.capKeyOk c qp (capKey bs) (capOff bs) (capLen bs) rRead e →
    s.capKeyOk c qp (BitVec.ofNat 32 (capField bs 32 4)) (capField bs 40 8) (capLen bs) rWrite f →
    Settles (.copy c) s (fun v => v = (s.started c).setSegs c (segments (capLen bs)) 0)) ∧
  (∀ (s : State) (c : CapRef) (qp : Qp) (bs : List Byte) (e : Key), s.capFor c .zero qp bs →
    (capOff bs % 8 = 0 → capLen bs % 8 = 0 → capLen bs ≠ 0 → s.capKeyOk c qp (capKey bs) (capOff bs) (capLen bs) rWrite e →
      Settles (.zero c) s (fun v => v.holdsCap c .zero e.region (e.region + capOff bs) (capLen bs))) ∧
    (capOff bs % 8 ≠ 0 ∨ capLen bs % 8 ≠ 0 → FailsCap (.zero c) s c stInvalidField (fun v => v = s.started c))) ∧
  (∀ (s : State) (c : CapRef) (qp : Qp) (bs : List Byte) (e : Key), s.capFor c .trim qp bs →
    (capOff bs % 16384 = 0 → capLen bs % 16384 = 0 → capLen bs ≠ 0 → s.capKeyOk c qp (capKey bs) (capOff bs) (capLen bs) rWrite e →
      Settles (.trim c) s (fun v => v.holdsCap c .trim e.region (e.region + capOff bs) (capLen bs))) ∧
    (capOff bs % 16384 ≠ 0 ∨ capLen bs % 16384 ≠ 0 → FailsCap (.trim c) s c stInvalidField (fun v => v = s.started c))) ∧
  (∀ (s : State) (c : CapRef) (qp : Qp) (bs : List Byte),
    (s.capFor c .flush qp bs → Settles (.capsuleFlush c) s (fun v => ∃ t ∈ v.net.txns, t.cap = some c ∧ t.op = .capFlush false ∧ t.home = qp.home)) ∧
    (s.capFor c .flushDeep qp bs → Settles (.capsuleFlushDeep c) s (fun v => ∃ t ∈ v.net.txns, t.cap = some c ∧ t.op = .capFlush true ∧ t.home = qp.home)))

/-- Outside a colony a well-formed REGION_CREATE for which there is room creates a region of its length, attributes and
protection domain at the lowest free base, with a first key over all of it whose value is the RESULT. KEY_GRANT issues a key
over the named range of the region with the named rights, and its value is the RESULT. KEY_GRANT with EXISTING that only
raises rights changes the key at once, and so does REGION_CREATE with MODIFY for the most rights of a region. A colony's
directory connection passes a creation to a member instead. (R132, R134, R137, R143, R148, R166, R204, R415) -/
def Obligations.RegionsAndKeysAreMade : Prop :=
  (∀ (s : State) (c : CapRef) (qp : Qp) (bs : List Byte) (w : State) (i : Nat), s.capFor c .regionCreate qp bs →
    ((capField bs 32 1).testBit 1 = false ∨ (capField bs 32 1).testBit 0 = false) →
    ((capField bs 32 1).testBit 2 = true → (capField bs 32 1).testBit 0 = true) →
    capField bs 40 8 % granuleBytes = 0 → capField bs 40 8 ≠ 0 → capField bs 40 8 ≤ 2 ^ 49 → (qp.admin = true ∨ capField bs 34 2 = qp.pd) →
    s.directoryConn qp = false → s.colWorker = false →
    (s.started c).makeRegion qp.home (createOf bs) = some (w, i) →
    Completes (.regionCreate c) s c (keyValue i (((w.key i).map (·.tag)).getD 0)).toNat (fun v =>
      let base := freeBase (capField bs 40 8) s.prot.regions 0
      (v.region base).map (fun r => (r.home, r.pd, r.len, r.keyDomain)) = some (qp.home, capField bs 34 2, capField bs 40 8, capField bs 36 2) ∧
      (v.region base).map (fun r => (r.volatile, r.dflush, r.mirror, r.failqp, r.maxRights)) = some ((capField bs 32 1).testBit 0,
        (capField bs 32 1).testBit 1, (capField bs 32 1).testBit 2, (capField bs 32 1).testBit 3, BitVec.ofNat 5 (capField bs 33 1)) ∧
      (v.key i).map (fun k => (k.region, k.off, k.len, k.rights, k.valid)) =
        some (base, 0, capField bs 40 8, BitVec.ofNat 5 (capField bs 33 1), true))) ∧
  (∀ (s : State) (c : CapRef) (qp : Qp) (bs : List Byte), s.capFor c .regionCreate qp bs → capField bs 40 8 % granuleBytes ≠ 0 →
    FailsCap (.regionCreate c) s c stInvalidField (fun v => v = s.started c)) ∧
  (∀ (s : State) (c : CapRef) (qp : Qp) (bs : List Byte) (e : Key) (r : Region) (w : State) (i : Nat), s.capFor c .keyGrant qp bs →
    s.adminKeyOk c qp (capKey bs) e r → capField bs 32 8 % 4096 = 0 → capField bs 40 8 % 4096 = 0 →
    capField bs 32 8 + capField bs 40 8 ≤ r.len → BitVec.ofNat 5 (capField bs 48 1) &&& ~~~r.maxRights = 0 →
    (s.regionKeys e.region).length < 256 →
    (s.started c).issueKey e.region (capField bs 32 8) (capField bs 40 8) (BitVec.ofNat 5 (capField bs 48 1)) none = some (w, i) →
    Through (.keyGrant c) s (fun v => (v.okCapKeys c (keyValue i (((w.key i).map (·.tag)).getD 0)).toNat [(i, true)] []).settle) (fun v =>
      (v.key i).map (fun k => (k.region, k.off, k.len, k.rights, k.valid)) =
        some (e.region, capField bs 32 8, capField bs 40 8, BitVec.ofNat 5 (capField bs 48 1), true) ∧ v.prot.regions = s.prot.regions)) ∧
  (∀ (s : State) (c : CapRef) (qp : Qp) (bs : List Byte) (e : Key) (r : Region), s.capFor c .keyGrantExisting qp bs →
    s.adminKeyOk c qp (capKey bs) e r → capField bs 32 8 = 0 → capField bs 40 8 = 0 →
    BitVec.ofNat 5 (capField bs 48 1) &&& ~~~r.maxRights = 0 → e.rights &&& ~~~(BitVec.ofNat 5 (capField bs 48 1)) = 0 →
    Completes (.keyGrantExisting c) s c (capKey bs).toNat (fun v =>
      v.key (keyIndex (capKey bs)) = some { e with rights := BitVec.ofNat 5 (capField bs 48 1) } ∧ v.prot.fences = s.prot.fences)) ∧
  (∀ (s : State) (c : CapRef) (qp : Qp) (bs : List Byte) (e : Key) (r : Region), s.capFor c .regionModify qp bs →
    s.adminKeyOk c qp (capKey bs) e r → (capField bs 32 1).testBit 0 = r.volatile → (capField bs 32 1).testBit 2 = r.mirror →
    (capField bs 32 1).testBit 1 = r.dflush → ((capField bs 32 1).testBit 1 && r.volatile) = false → (capField bs 32 1).testBit 3 = r.failqp →
    capField bs 34 2 = r.pd → capField bs 36 2 = r.keyDomain → capField bs 40 8 = r.len →
    r.maxRights &&& ~~~(BitVec.ofNat 5 (capField bs 33 1)) = 0 →
    Completes (.regionModify c) s c 0 (fun v =>
      v.region e.region = some { r with maxRights := BitVec.ofNat 5 (capField bs 33 1) } ∧ v.prot.keys = s.prot.keys))

/-- Each of these capsules, on a region with no fence, adds a fence of its kind for that region and this capsule, and the fence
has begun: a revoked key and all keys of a region to be destroyed are invalid in the key table at once, a lowered key has its
new rights, and a modified region its new attributes. The capsule completes later, when its fence does. KEY_REVOKE of the
only key of a region gives INVALID_FIELD. (R135, R148, R149, R150, R152, R166) -/
def Obligations.FencedChangesBegin : Prop :=
  (∀ (s : State) (c : CapRef) (qp : Qp) (bs : List Byte) (e : Key) (r : Region), s.capFor c .regionDestroy qp bs →
    s.adminKeyOk c qp (capKey bs) e r → (∀ f ∈ s.prot.fences, f.region ≠ e.region) →
    Settles (.regionDestroy c) s (fun v =>
      (∃ f ∈ v.prot.fences, f.region = e.region ∧ f.kind = .destroy ∧ f.cap = some c ∧ f.begun = true) ∧
      v.regionKeys e.region = [] ∧ v.prot.regions = s.prot.regions)) ∧
  (∀ (s : State) (c : CapRef) (qp : Qp) (bs : List Byte) (e : Key) (r : Region), s.capFor c .keyRevoke qp bs →
    s.adminKeyOk c qp (capKey bs) e r → (∀ f ∈ s.prot.fences, f.region ≠ e.region) →
    (1 < (s.regionKeys e.region).length → Settles (.keyRevoke c) s (fun v =>
      (∃ f ∈ v.prot.fences, f.region = e.region ∧ f.kind = .revoke (keyIndex (capKey bs)) ∧ f.cap = some c ∧ f.begun = true) ∧
      v.key (keyIndex (capKey bs)) = some { e with valid := false, fencing := true })) ∧
    ((s.regionKeys e.region).length ≤ 1 → FailsCap (.keyRevoke c) s c stInvalidField (fun v => v = s.started c))) ∧
  (∀ (s : State) (c : CapRef) (qp : Qp) (bs : List Byte) (e : Key) (r : Region), s.capFor c .keyGrantExisting qp bs →
    s.adminKeyOk c qp (capKey bs) e r → capField bs 32 8 = 0 → capField bs 40 8 = 0 →
    BitVec.ofNat 5 (capField bs 48 1) &&& ~~~r.maxRights = 0 → e.rights &&& ~~~(BitVec.ofNat 5 (capField bs 48 1)) ≠ 0 →
    (∀ f ∈ s.prot.fences, f.region ≠ e.region) →
    Settles (.keyGrantExisting c) s (fun v =>
      (∃ f ∈ v.prot.fences, f.region = e.region ∧ f.kind = .keyRights (keyIndex (capKey bs)) (BitVec.ofNat 5 (capField bs 48 1)) ∧
        f.cap = some c ∧ f.begun = true ∧ f.result = (capKey bs).toNat) ∧
      v.key (keyIndex (capKey bs)) = some { e with rights := BitVec.ofNat 5 (capField bs 48 1) })) ∧
  (∀ (s : State) (c : CapRef) (qp : Qp) (bs : List Byte) (e : Key) (r : Region), s.capFor c .regionModify qp bs →
    s.adminKeyOk c qp (capKey bs) e r → (capField bs 32 1).testBit 0 = r.volatile → (capField bs 32 1).testBit 2 = r.mirror →
    ((capField bs 32 1).testBit 1 && r.volatile) = false → capField bs 34 2 = r.pd → capField bs 36 2 = r.keyDomain → capField bs 40 8 = r.len →
    (r.maxRights &&& ~~~(BitVec.ofNat 5 (capField bs 33 1)) ≠ 0 ∨ (capField bs 32 1).testBit 1 ≠ r.dflush ∨
      (capField bs 32 1).testBit 3 ≠ r.failqp) → (∀ f ∈ s.prot.fences, f.region ≠ e.region) →
    Settles (.regionModify c) s (fun v =>
      (∃ f ∈ v.prot.fences, f.region = e.region ∧ f.cap = some c ∧ f.begun = true ∧ f.kind =
        .modify (BitVec.ofNat 5 (capField bs 33 1)) ((capField bs 32 1).testBit 1) ((capField bs 32 1).testBit 3)) ∧
      (v.region e.region).map (fun x => (x.maxRights, x.dflush, x.failqp)) =
        some (BitVec.ofNat 5 (capField bs 33 1), (capField bs 32 1).testBit 1, (capField bs 32 1).testBit 3)))

/-- OBJECT_PLACE of whole granules of a persistent region that lie in no stream gives each of them its placement; with no standby
to tell and no pin it completes, and a pin that fits is entered as a load that is awaited. STREAM_OPEN of granules placed for
streams enters a stream with its base, layers, window and readers, each reader with no progress. STREAM_ADVANCE raises the
progress of one reader and never lowers it. STREAM_CLOSE removes the stream. QRESUME of a frozen I/O queue makes it Active
and releases its failed slots, or keeps them for fetching again; of another queue it gives INVALID_FIELD. (R183, R198, R199,
R200, R201, R212, R213, R214, R220) -/
def Obligations.PlacementsAndStreams : Prop :=
  (∀ (s : State) (c : CapRef) (qp : Qp) (bs : List Byte) (e : Key) (r : Region), s.capFor c .objectPlace qp bs →
    s.adminKeyOk c qp (capKey bs) e r → e.rights.getLsbD rRead = true → r.volatile = false → capOff bs % granuleBytes = 0 →
    capField bs 32 8 % granuleBytes = 0 → capField bs 32 8 ≠ 0 → capOff bs + capField bs 32 8 ≤ r.len → capField bs 40 1 ≤ 3 →
    (granulesOf (e.region + capOff bs) (capField bs 32 8)).any s.inStream = false →
    (capField bs 40 1 ≠ 1 → s.mirrors qp.home = false → Completes (.objectPlace c) s c 0 (fun v =>
      ∀ g ∈ granulesOf (e.region + capOff bs) (capField bs 32 8), (v.granule g).place = placementOf (capField bs 40 1))) ∧
    (capField bs 40 1 = 1 →
      s.pinCharge (s.tenantOfPd r.pd) + ((granulesOf (e.region + capOff bs) (capField bs 32 8)).filter (fun g => (s.granule g).place != .pin)).length
        ≤ (s.tenant (s.tenantOfPd r.pd)).pin →
      s.roomOnBoth qp.home ((granulesOf (e.region + capOff bs) (capField bs 32 8)).filter (fun g => (s.granule g).place != .pin)).length = true →
      Settles (.objectPlace c) s (fun v => (∀ g ∈ granulesOf (e.region + capOff bs) (capField bs 32 8), (v.granule g).place = .pin) ∧
        ∃ p ∈ v.tier.pins, p.cap = c ∧ p.first = (e.region + capOff bs) / granuleBytes ∧ p.loaded = false))) ∧
  (∀ (s : State) (c : CapRef) (qp : Qp) (bs : List Byte) (e : Key) (r : Region) (id : Nat) (x : Stream), s.capFor c .streamOpen qp bs →
    s.adminKeyOk c qp (capKey bs) e r →
    x = { home := qp.home, pd := qp.pd, tenant := s.tenantOfPd qp.pd, region := e.region, base := e.region + capOff bs,
          layerLen := capField bs 32 8, layers := capField bs 40 4, window := capField bs 44 1,
          readers := List.replicate (capField bs 45 1) none, opener := some c } →
    capOff bs % granuleBytes = 0 → x.layerLen % granuleBytes = 0 → x.layerLen ≠ 0 →
    x.layers ≠ 0 → 1 ≤ x.window → x.window ≤ 64 → capField bs 45 1 ≠ 0 → capOff bs + x.layers * x.layerLen ≤ r.len →
    (∀ g ∈ granulesOf x.base (x.layers * x.layerLen), (s.granule g).place = .stream) →
    (List.range 2049).find? (fun i => (kget s.tier.streams i).isNone) = some id →
    (s.tier.streams.filter (fun e => e.2.home = qp.home)).length < 1024 →
    s.pinCharge x.tenant ≤ ({ s with tier := { s.tier with streams := kput s.tier.streams id x } } : State).pinCharge x.tenant →
    ({ s with tier := { s.tier with streams := kput s.tier.streams id x } } : State).pinCharge x.tenant ≤ (s.tenant x.tenant).pin →
    x.w * (x.layerLen / granuleBytes) + s.quotaSum ≤ s.floatSize →
    Settles (.streamOpen c) s (fun v => (kget v.tier.streams id).map (fun y => (y.base, y.layerLen, y.layers, y.window, y.readers, y.opener)) =
      some (x.base, x.layerLen, x.layers, x.window, x.readers, some c))) ∧
  (∀ (s : State) (c : CapRef) (qp : Qp) (bs : List Byte) (x : Stream), s.capFor c .streamAdvance qp bs →
    kget s.tier.streams (capField bs 32 2) = some x → x.home = qp.home → x.pd = qp.pd →
    (capField bs 34 1 < x.readers.length → s.mirrors qp.home = false → Completes (.streamAdvance c) s c 0 (fun v => ∃ y,
      kget v.tier.streams (capField bs 32 2) = some y ∧ y.readers.length = x.readers.length ∧
      (∀ i, i < x.readers.length → i ≠ capField bs 34 1 → y.readers[i]? = x.readers[i]?) ∧
      (x.readers[capField bs 34 1]? = some none → y.readers[capField bs 34 1]? = some (some (capField bs 36 4))) ∧
      (∀ k, x.readers[capField bs 34 1]? = some (some k) → y.readers[capField bs 34 1]? = some (some (max k (capField bs 36 4)))))) ∧
    (x.readers.length ≤ capField bs 34 1 → FailsCap (.streamAdvance c) s c stInvalidField (fun v => v = s.started c))) ∧
  (∀ (s : State) (c : CapRef) (qp : Qp) (bs : List Byte) (x : Stream), s.capFor c .streamClose qp bs →
    kget s.tier.streams (capField bs 32 2) = some x →
    (x.home = qp.home → x.pd = qp.pd → Completes (.streamClose c) s c 0 (fun v => v.tier.streams = kdel s.tier.streams (capField bs 32 2))) ∧
    (x.pd ≠ qp.pd → FailsCap (.streamClose c) s c stAccessDenied (fun v => v = s.started c))) ∧
  (∀ (s : State) (c : CapRef) (qp : Qp) (bs : List Byte) (q : Queue), 1 ≤ capField bs 32 1 → capField bs 32 1 ≤ 63 → s.queue c.qpn (capField bs 32 1) = some q →
    (s.capFor c .qresumeDiscard qp bs → capField bs 33 1 = 0 → q.st = .frozen → Completes (.qresumeDiscard c) s c 0 (fun v =>
      (v.queue c.qpn (capField bs 32 1)).map (fun y => (y.st, y.slots, y.replay)) =
        some (.active, q.slots.filter (fun z => z.st != .failed), []))) ∧
    (s.capFor c .qresumeReplay qp bs → q.st = .frozen → Completes (.qresumeReplay c) s c 0 (fun v =>
      (v.queue c.qpn (capField bs 32 1)).map (fun y => (y.st, y.slots)) = some (.active, q.slots) ∧
        ∀ y, v.queue c.qpn (capField bs 32 1) = some y → ∀ i, i ∈ y.replay ↔ ∃ z ∈ q.slots, z.st = .failed ∧ z.idx = i)) ∧
    (s.capFor c .qresumeReplay qp bs → q.st ≠ .frozen → FailsCap (.qresumeReplay c) s c stInvalidField (fun v => v = s.started c)))

/-- IDENTIFY writes the first LENGTH bytes of a page of 4,096 bytes, which begins with the maker's name, to the host buffer and
completes. LOG_READ of a listed page within its length writes that part and answers its length; a page not listed gives
INVALID_FIELD. A self-test on a namespace without one is entered and completes, BUSY where one is entered already; ABORT ends
it with result 2 in the log, RESUME lets it run if the governor admits it, and its end enters its result. POWER_STATE reports
the P-state, returns to P0, enters P1 or P2 where that is allowed, answers BUSY where it is not, and for P3 completes before
the shutdown begins. (R188, R189, R190, R191, R192, R193, R462, R465) -/
def Obligations.AdminCapsulesAnswer : Prop :=
  (∀ (s : State) (c : CapRef) (qp : Qp) (bs : List Byte), s.capFor c .identify qp bs → capLen bs ≠ 0 →
    Completes (.identify c) s c 0 (fun v => ∃ y, v.qp c.qpn = some y ∧ ∃ r ∈ y.reqs, r.kind = .dataWrite c ∧
      r.hostAddr = capField bs 16 8 ∧ r.hostKey = BitVec.ofNat 32 (capField bs 24 4) ∧ r.data.length = min (capLen bs) 4096 ∧
      (16 ≤ capLen bs → r.data.take 16 = padText 16 "Wyndawald"))) ∧
  (∀ (s : State) (c : CapRef) (qp : Qp) (bs : List Byte), s.capFor c .logRead qp bs →
    (∀ t page, (s.started c).logPage qp (capField bs 32 1) = some (t, page) → capOff bs < page.length → 64 ≤ capLen bs →
      Completes (.logRead c) s c (min (capLen bs) (page.length - capOff bs)) (fun v => ∃ y, v.qp c.qpn = some y ∧ ∃ r ∈ y.reqs,
        r.kind = .dataWrite c ∧ r.hostAddr = capField bs 16 8 ∧ r.data = (page.drop (capOff bs)).take (capLen bs))) ∧
    (capField bs 32 1 = 0 ∨ 4 < capField bs 32 1 → FailsCap (.logRead c) s c stInvalidField (fun v => v = s.started c))) ∧
  (∀ (s : State) (c : CapRef) (qp : Qp) (bs : List Byte),
    (s.capFor c .selftestShort qp bs → capField bs 32 1 = 1 →
      (s.testing qp.home qp.pd = false → Completes (.selftestShort c) s c 0 (fun v => ∃ t, v.cqi.tests = s.cqi.tests ++ [t] ∧
        t.home = qp.home ∧ t.pd = qp.pd ∧ t.typ = 1)) ∧
      (s.testing qp.home qp.pd = true → FailsCap (.selftestShort c) s c stBusy (fun v => v = s.started c))) ∧
    (s.capFor c .selftestExtended qp bs →
      (s.testing qp.home qp.pd = false → Completes (.selftestExtended c) s c 0 (fun v => ∃ t, v.cqi.tests = s.cqi.tests ++ [t] ∧
        t.home = qp.home ∧ t.pd = qp.pd ∧ t.typ = 2)) ∧
      (s.testing qp.home qp.pd = true → FailsCap (.selftestExtended c) s c stBusy (fun v => v = s.started c))) ∧
    (s.capFor c .selftestAbort qp bs →
      (∀ t, s.testOf qp.home qp.pd = some t → Completes (.selftestAbort c) s c 0 (fun v => v.testOf qp.home qp.pd = none ∧
        ∃ es, kget v.cqi.testLog (qp.home * 65536 + qp.pd) = some es ∧ (es.headD []).take 2 = [BitVec.ofNat 8 t.typ, 2])) ∧
      (s.testOf qp.home qp.pd = none → Completes (.selftestAbort c) s c 0 (fun v => v = s.started c)))) ∧
  (∀ (s : State) (h : Fin 2) (pd : BitVec 16), s.coreRuns = true →
    (s.admits 3 = true → Leads (.selftestResume h pd) s (fun t =>
      (∀ x ∈ t.cqi.tests, x.home = h.val → x.pd = pd.toNat → x.suspended = false) ∧ t.cqi.testLog = s.cqi.testLog)) ∧
    (s.admits 3 = false → exec (.selftestResume h pd) s = .next s) ∧
    (∀ (result : Fin 5) (k : BitVec 32) (o : BitVec 64) (a b d : BitVec 32) (t : SelfTest), s.testOf h.val pd.toNat = some t →
      (t.suspended = false → result.val < 2 → Settles (.selftestEnd h pd result k o a b d) s (fun v => v.testOf h.val pd.toNat = none ∧
        ∃ es, kget v.cqi.testLog (h.val * 65536 + pd.toNat) = some es ∧ (es.headD []).take 2 = [BitVec.ofNat 8 t.typ, BitVec.ofNat 8 result.val])) ∧
      (t.suspended = true → exec (.selftestEnd h pd result k o a b d) s = .next s))) ∧
  (∀ (s : State) (c : CapRef) (qp : Qp) (bs : List Byte),
    (s.capFor c .powerReport qp bs → capField bs 32 1 = 0 →
      Completes (.powerStateReport c) s c (s.get Fld.GOV_STATUS_PSTATE) (fun v => v = s.started c)) ∧
    (s.capFor c .powerP0 qp bs → s.get Fld.GOV_STATUS_PSTATE = 1 ∨ s.get Fld.GOV_STATUS_PSTATE = 2 →
      s.on Fld.GOV_STATUS_EXITING = false → s.on Fld.GOV_STATUS_ENTERING = false →
      Completes (.powerStateP0 c) s c (s.get Fld.GOV_STATUS_PSTATE) (fun v => v.on Fld.GOV_STATUS_EXITING = true ∧ v.gov.wake = 4)) ∧
    (s.capFor c .powerP1 qp bs → s.mayDeepen 1 = true →
      Through (.powerStateP1 c) s (fun v => (v.okCap c (v.get Fld.GOV_STATUS_PSTATE)).settle) (fun v =>
        v.on Fld.GOV_STATUS_ENTERING = true ∧ v.gov.target = 1)) ∧
    (s.capFor c .powerP2 qp bs → s.mayDeepen 2 = true →
      (s.grants 2 = true → Through (.powerStateP2 c) s (fun v => (v.okCap c (v.get Fld.GOV_STATUS_PSTATE)).settle) (fun v =>
        v.on Fld.GOV_STATUS_ENTERING = true ∧ v.gov.target = 2)) ∧
      (s.grants 2 = false → FailsCap (.powerStateP2 c) s c stBusy (fun v => v = s.started c))) ∧
    (s.capFor c .powerP3 qp bs →
      (s.grants 3 = true → exec (.powerStateP3 c) s = .next (((s.started c).okCap c 0).requestP 3).1.settle) ∧
      (s.grants 3 = false → FailsCap (.powerStateP3 c) s c stBusy (fun v => v = s.started c))))

/-- CONFIG_STAGE and FW_STAGE of a right LENGTH ask the host for their buffer by one RDMA READ; a buffer that names a register
that may not be staged fails with INVALID_FIELD. CONFIG_COMMIT of nothing completes at once, of a set that cannot be
committed now gives BUSY, and of another in service becomes the commit in progress with nothing left staged. DISCARD empties
the staged set. FW_ACTIVATE checks in order that nothing is in progress, that an image is whole, that it verifies and that
the home sets can be handed over, and then hands over. REG_READ answers the register it reads, and REG_WRITE what its write
answers. (R512, R513, R561, R562, R563, R564, R584, R585, R587) -/
def Obligations.ConfigurationCapsulesAct : Prop :=
  (∀ (s : State) (c : CapRef) (qp : Qp) (bs : List Byte),
    (s.capFor c .configStage qp bs → capLen bs % 8 = 0 → capLen bs ≠ 0 → capLen bs ≤ 4096 → Settles (.configStage c) s (fun v =>
      ∃ y, v.qp c.qpn = some y ∧ ∃ r ∈ y.reqs, r.kind = .dataRead c 0 ∧ r.hostAddr = capField bs 16 8 ∧ r.rlen = capLen bs)) ∧
    (s.capFor c .configStage qp bs → capLen bs % 8 ≠ 0 ∨ 4096 < capLen bs → FailsCap (.configStage c) s c stInvalidField (fun v => v = s.started c)) ∧
    (s.capFor c .fwStage qp bs → capOff bs % 4096 = 0 → capLen bs % 4096 = 0 → capLen bs ≠ 0 → capOff bs + capLen bs ≤ slotBytes →
      Settles (.fwStage c) s (fun v => ∃ y, v.qp c.qpn = some y ∧ ∃ r ∈ y.reqs, r.kind = .dataRead c 0 ∧
        r.hostAddr = capField bs 16 8 ∧ r.rlen = capLen bs)) ∧
    (s.capFor c .fwStage qp bs → slotBytes < capOff bs + capLen bs → FailsCap (.fwStage c) s c stInvalidField (fun v => v = s.started c))) ∧
  (∀ (s : State) (c : CapRef) (data : List Byte), (stageEntries data).any (fun e => !(s.stageable e.1)) = true →
    s.stageBuffer c data = s.failCap c stInvalidField) ∧
  (∀ (s : State) (c : CapRef) (qp : Qp) (bs : List Byte), s.capFor c .configCommit qp bs →
    (s.cfg.staged = [] → Completes (.configCommit c) s c 0 (fun v => v.get Fld.GLB_CMTSTAT_LAST = 2 ∧ v.cfg = s.cfg)) ∧
    (s.cfg.staged ≠ [] → s.commitBusy = true → FailsCap (.configCommit c) s c stBusy (fun v => v = s.started c)) ∧
    (s.cfg.staged ≠ [] → s.commitBusy = false → 10 ≤ s.get Fld.CFL_BOOTINFO_STEP → Settles (.configCommit c) s (fun v =>
      v.cfg.staged = [] ∧ v.on Fld.GLB_STATUS_COMMITTING = true ∧ v.get Fld.GLB_CMTSTAT_LAST = 1 ∧
      ∃ x, v.cfg.commit = some x ∧ x.set = s.cfg.staged ∧ x.home = s.commitHome ∧
        x.n = s.epoch s.commitHome + (if s.cfg.staged.any (fun y => jointReg y.addr) then 4 else 2)))) ∧
  (∀ (s : State) (c : CapRef) (qp : Qp) (bs : List Byte), s.capFor c .configDiscard qp bs →
    Completes (.configDiscard c) s c 0 (fun v => v.cfg = { s.cfg with staged := [] } ∧ v.get Fld.GLB_CMTSTAT_LAST = 3)) ∧
  (∀ (s : State) (c : CapRef) (qp : Qp) (bs : List Byte), s.capFor c .fwActivate qp bs →
    (s.pw.activating = true ∨ s.cfg.commit.isSome = true → FailsCap (.fwActivate c) s c stBusy (fun v => v = s.started c)) ∧
    (s.pw.activating = false → s.cfg.commit = none →
      (s.stagedWhole = false → FailsCap (.fwActivate c) s c stNoImage (fun v => v = s.started c)) ∧
      (s.stagedWhole = true → s.verifySlot s.stagedSlot = false → FailsCap (.fwActivate c) s c stSignatureInvalid (fun v => v = s.started c)) ∧
      (s.stagedWhole = true → s.verifySlot s.stagedSlot = true → s.canHandAll = false →
        FailsCap (.fwActivate c) s c stNotPaired (fun v => v = s.started c)) ∧
      (s.stagedWhole = true → s.verifySlot s.stagedSlot = true → s.canHandAll = true →
        Through (.fwActivate c) s (fun v => ((v.okCap c).handAll .activate).settle) (fun v => v.pw = { s.pw with activating := true })))) ∧
  (∀ (s : State) (c : CapRef) (qp : Qp) (bs : List Byte),
    (s.capFor c .regRead qp bs → regReadOk (capField bs 32 3) (capField bs 36 1) = true → capField bs 36 1 = 1 →
      Completes (.regRead c) s c ((s.started c).regRead (.capsule (BitVec.ofNat 24 c.qpn)) (capField bs 32 3)).2.toNat
        (fun v => v = ((s.started c).regRead (.capsule (BitVec.ofNat 24 c.qpn)) (capField bs 32 3)).1)) ∧
    (s.capFor c .regRead qp bs → regReadOk (capField bs 32 3) (capField bs 36 1) = false →
      FailsCap (.regRead c) s c stInvalidField (fun v => v = s.started c)) ∧
    (s.capFor c .regWrite qp bs → capField bs 32 3 % 4 = 0 →
      ((s.started c).regWrite (.capsule (BitVec.ofNat 24 c.qpn)) (capField bs 32 3) (BitVec.ofNat 32 (capField bs 36 4))).2 = .ok →
      Completes (.regWrite c) s c 0 (fun v => v =
        ((s.started c).regWrite (.capsule (BitVec.ofNat 24 c.qpn)) (capField bs 32 3) (BitVec.ofNat 32 (capField bs 36 4))).1)) ∧
    (s.capFor c .regWrite qp bs → notByCapsule (capField bs 32 3) = true → (regAt (capField bs 32 3)).isSome = true →
      capField bs 32 3 % 4 = 0 → FailsCap (.regWrite c) s c stAccessDenied (fun v => v = s.started c)))

/-- IN read released or asserted is noted; a holder without side priority whose interlock is sound gives its token up when IN
becomes asserted, and ignores an announced test pulse. A claim whose sample reads released, or that side A may hold, wins the
token; another releases OUT and backs off. After a back-off or a confirmed release a claim that waits is made again, a
standby of a PAIRED home set claims to take it over, and a joining chip leaves the home set unserved. Silence of the
heartbeat drops every token. A test pulse that did not follow makes the interlock faulty, and begins lease mode. (R357, R358,
R359, R360, R390, R391, R393) -/
def Obligations.InterlocksAndClaims : Prop :=
  (∀ (s : State) (h : Fin 2), Leads (.intlkInReleased h) s (fun t => (t.home h.val).inRel = true ∧ (t.home h.val).token = (s.home h.val).token ∧
    t.home (1 - h.val) = s.home (1 - h.val) ∧ t.regs = s.regs)) ∧
  (∀ (s : State) (h : Fin 2),
    (s.twin.pulse = some h.val → (s.home h.val).token = true →
      Leads (.intlkInAsserted h) s (fun t => t.twin.pulse = none ∧ t.home h.val = s.home h.val ∧ t.regs = s.regs)) ∧
    (s.twin.pulse ≠ some h.val → (s.home h.val).token = false ∨ s.sidePriority = true ∨ (s.home h.val).intlkFaulty = true →
      Leads (.intlkInAsserted h) s (fun t => t.home h.val = { s.home h.val with inRel := false } ∧ t.regs = s.regs)) ∧
    (s.twin.pulse ≠ some h.val → (s.home h.val).token = true → s.sidePriority = false → (s.home h.val).intlkFaulty = false →
      s.get Fld.CFL_BOOTINFO_STEP ≠ 9 → Leads (.intlkInAsserted h) s (fun t => (t.home h.val).token = false ∧ (t.home h.val).inRel = false ∧
        (t.home h.val).out = false ∧ t.role h.val = 0 ∧ t.home (1 - h.val) = s.home (1 - h.val)))) ∧
  (∀ (s : State) (h : Fin 2) (released : Bool), s.coreRuns = true → (s.home h.val).out = true → (s.home h.val).token = false →
    (s.home h.val).claim.isSome = true →
    (released = true ∨ s.sidePriority = true → exec (.tokenClaimSample h released) s =
      .next ((s.updHome h.val (fun x => { x with inRel := released })).tokenWon h.val)) ∧
    (released = false → s.sidePriority = false → Leads (.tokenClaimSample h released) s (fun t => (t.home h.val).out = false ∧
      (t.home h.val).backoff = true ∧ (t.home h.val).token = false ∧ .intlkOut h.val false ∈ t.out))) ∧
  (∀ (s : State) (h : Fin 2) (w : ClaimWhy), s.coreRuns = true → (s.home h.val).backoff = true → (s.home h.val).claim = some w →
    (s.home h.val).token = false → (s.home h.val).out = false →
    Leads (.claimBackoffExpiry h) s (fun t => (t.home h.val).backoff = false ∧ (t.home h.val).claim = some w ∧
      (t.home h.val).out = (s.home h.val).inRel)) ∧
  (∀ (s : State) (h : Fin 2), s.coreRuns = true → (s.home h.val).inRel = true → (s.home h.val).token = false →
    (∀ w, (s.home h.val).claim = some w → exec (.releaseConfirmed h) s = .next (s.claimToken h.val w)) ∧
    ((s.home h.val).claim = none → s.standby h.val = true → s.pairState h.val = 3 → (s.home h.val).intlkFaulty = false →
      Leads (.releaseConfirmed h) s (fun t => (t.home h.val).claim = some (if (s.home h.val).final then .handover else .takeover) ∧
        ((s.home h.val).backoff = false → (t.home h.val).out = true))) ∧
    ((s.home h.val).claim = none → s.role h.val = 3 → s.get Fld.CFL_BOOTINFO_STEP ≠ 9 →
      Leads (.releaseConfirmed h) s (fun t => t.role h.val = 0 ∧ t.pairState h.val = 5 ∧ t.twin.homes = s.twin.homes))) ∧
  (∀ (s : State), s.coreRuns = true → s.get Fld.CFL_BOOTINFO_STEP ≠ 9 →
    Leads .heartbeatSilence s (fun t => ∀ h, h < 2 → (t.home h).token = false ∧ (t.home h).out = false ∧ (t.home h).claim = none)) ∧
  (∀ (s : State) (h : Fin 2), s.coreRuns = true → (s.home h.val).token = true →
    Leads (.interlockTestPulse h false) s (fun t => (t.home h.val).intlkFaulty = true ∧ (t.home h.val).lease = true ∧
      t.regBit Reg.TWN_HEALTH (6 + h.val) = true ∧ (t.on (leaseField h.val) = true ∨ (s.home h.val).lease = true)) ∧
    Leads (.interlockTestPulse h true) s (fun t => t.twin.pulse = none ∧ (t.home h.val).intlkBad = 0)) ∧
  (∀ (s : State) (h : Fin 2), s.coreRuns = true → (s.home h.val).token = false → s.elytraUp = true → (s.home h.val).claim = none →
    exec (.interlockTestPulse h false) s = .next ((s.emit (.intlkOut h.val true)).emit (.intlkOut h.val false)))

/-- A lane that locks is in service, and with the first the link is up and streams start again; a lane that drops is out of
service, and with the last, or after silence, the link is down, partner and bids unknown. A damaged frame is counted and
replay asked for, as after a gap. A carrier frame leaves. A lease request to a chip that is not active is granted for 20 µs,
a grant moves the end of the holder's lease, a release ends the lease it names, the holder's timer asks for the next, the end
of a lease is counted, and the grantor takes the home set over after the guard time. A HEARTBEAT leaves every period and the
one received tells side, power-fail warning and roles. (R360, R362, R364, R365, R374, R375, R394, R395, R397) -/
def Obligations.LinkAndLeasesAct : Prop :=
  (∀ (s : State) (l : Fin 8), s.coreRuns = true →
    Leads (.elytraLaneLock l) s (fun t => t.regBit Reg.TWN_LINK l.val = true ∧ t.elytraUp = true ∧ t.on Fld.TWN_STATUS_LINK_UP = true ∧
      (s.elytraUp = false → s.on Fld.TWN_CTRL_EN = false → t.twin.bulk = { credits := 16384 } ∧ t.twin.ctl = { credits := 256 })) ∧
    (s.regBit Reg.TWN_LINK l.val = false → exec (.elytraLaneDown l) s = .next s) ∧
    (s.regBit Reg.TWN_LINK l.val = true → (∃ k, k < 8 ∧ k ≠ l.val ∧ s.regBit Reg.TWN_LINK k = true) →
      Leads (.elytraLaneDown l) s (fun t => t.regBit Reg.TWN_LINK l.val = false ∧ t.elytraUp = s.elytraUp ∧ t.twin = s.twin))) ∧
  (∀ (s : State), s.coreRuns = true →
    (s.elytraUp = false → exec .elytraLinkSilence s = .next s ∧ exec .ackCarrierTimeout s = .next s) ∧
    (s.elytraUp = true → s.role 0 = 0 → s.role 1 = 0 → Leads .elytraLinkSilence s (fun t => t.elytraUp = false ∧ t.twin.partnerSideA = none ∧
      t.twin.bids = none ∧ t.twin.bulk = { credits := 16384 })) ∧
    (s.elytraUp = true → exec .ackCarrierTimeout s = .next (s.linkSend false 8 (.confirm 0 0 0)))) ∧
  (∀ (s : State) (b : Bool), s.coreRuns = true → s.elytraUp = true →
    Leads (.elytraFrameCrcFail b) s (fun t => t.twin.crcErrs = s.twin.crcErrs + 1 ∧
      (t.reg Reg.TWN_CRC_ERR).toNat = s.plusOne Reg.TWN_CRC_ERR ∧ (t.link b).replayReq = true ∧ t.link (!b) = s.link (!b)) ∧
    Leads (.seqGapTimeout b) s (fun t => t.link b = { s.link b with replayReq := true } ∧ t.link (!b) = s.link (!b) ∧ t.regs = s.regs)) ∧
  (∀ (s : State) (x : Ely) (h : Fin 2) (n : BitVec 32), s.coreRuns = true → s.elytraUp = true → s.still = false →
    (s.active h.val = false → Leads (.leaseRequest x h n) s (fun t => (t.home h.val).granted = some (n.toNat, s.now + 20) ∧
      (t.home h.val).token = (s.home h.val).token)) ∧
    (∀ expiry : BitVec 64, s.active h.val = true → (s.home h.val).lease = true → n.toNat ≤ (s.home h.val).leaseNo →
      Leads (.leaseGrant x h n expiry) s (fun t => (t.home h.val).leaseEnd =
        some (((expiry.toNat : Int) - (s.reg Reg.TWN_OFFSET).toInt - 100) / 1000).toNat)) ∧
    (∀ e, (s.home h.val).granted = some (n.toNat, e) → Leads (.leaseRelease x h n) s (fun t => (t.home h.val).granted = none))) ∧
  (∀ (s : State), s.coreRuns = true → s.elytraUp = true → Leads .leaseRequestTimer s (fun t => ∀ h, h < 2 →
    (t.home h).leaseNo = (s.home h).leaseNo + (if s.active h && (s.home h).lease then 1 else 0))) ∧
  (∀ (s : State) (h : Fin 2), s.coreRuns = true → s.active h.val = true → (s.home h.val).lease = true →
    Leads (.leaseEnd h) s (fun t => (t.home h.val).leaseEnd = some s.now ∧ t.acts h.val = false ∧
      (t.reg Reg.TWN_LEASE_LAPSE).toNat = s.plusOne Reg.TWN_LEASE_LAPSE)) ∧
  (∀ (s : State) (h : Fin 2), s.coreRuns = true → s.standby h.val = true → s.pairState h.val = 3 → (s.home h.val).lease = true →
    (s.home h.val).granted.isSome = true →
    (s.elytraUp = true ∨ s.sideA = true → exec (.leaseGuardExpiry h) s = .next (((s.driveOut h.val true).updHome h.val (fun x =>
      { x with token := true, claim := none, granted := none, leaseEnd := none })).takeUp h.val true)) ∧
    (s.elytraUp = false → s.sideA = false → exec (.leaseGuardExpiry h) s = .next s)) ∧
  (∀ (s : State), s.coreRuns = true → Leads .heartbeatTimer s (fun t => t.twin.hbCount = s.twin.hbCount + 1 ∧
    (s.elytraUp = true → s.twin.hbSeen = false → (t.reg Reg.TWN_HB_MISS).toNat = s.plusOne Reg.TWN_HB_MISS ∧ t.twin.hbMissed = s.twin.hbMissed + 1))) ∧
  (∀ (s : State) (x : Ely) (m : HbMsg), s.coreRuns = true → s.elytraUp = true → s.still = false →
    Leads (.heartbeat x m) s (fun t => t.twin.partnerSideA = some m.sideA ∧ t.twin.partnerPfw = m.pfw ∧ t.twin.hbSeen = true ∧
      t.twin.partnerRoles = [m.role0.val, m.role1.val] ∧ t.on Fld.TWN_STATUS_PARTNER_PFW = m.pfw))

/-- A BID while the chip pairs is kept, ends the pairing wait and settles both home sets; without pairing or with a strap
conflict it settles nothing. The pairing wait of a chip that was no active side leaves the home set unserved. HANDOVER, and
fail-back in reclaim mode, of a PAIRED home set stops stage 5 for it, and the hand-over is in progress; once it is drained
the token passes. FORCE_SOLO of a home set without token claims it. ACCEPT_RESYNC on a diverged chip makes it bid as a
joining one. RETRY_ADMIT of a home set held out begins a full resync, and VERIFY of a PAIRED one goes back to lockstep.
Takeover advertisements are repeated. (R381, R382, R384, R388, R392, R398, R400) -/
def Obligations.PairingAndCommandsAct : Prop :=
  (∀ (s : State) (x : Ely) (r0 r1 : StandRec), s.coreRuns = true → s.elytraUp = true → s.still = false →
    (s.on Fld.TWN_CTRL_EN = true → s.twin.conflict = false → s.active 0 = true → s.active 1 = true → s.pairState 0 = 3 → s.pairState 1 = 3 →
      Leads (.bid x r0 r1) s (fun t => t.twin.bids = some [r0, r1] ∧ t.twin.pairWait = false)) ∧
    (s.on Fld.TWN_CTRL_EN = false → Leads (.bid x r0 r1) s (fun t => t.twin.bids = s.twin.bids ∧ t.twin.pairWait = s.twin.pairWait))) ∧
  (∀ (s : State), s.coreRuns = true → s.twin.pairWait = true → s.on Fld.TWN_CTRL_EN = true → s.get Fld.CFL_BOOTINFO_STEP ≠ 9 →
    Leads .pairWaitExpiry s (fun t => t.twin.pairWait = false ∧ ∀ h, h < 2 → s.active h = false →
      ((s.home h).srRole = 1 → (s.home h).inRel = true → (t.home h).claim = some .absent) ∧
      ((s.home h).srRole ≠ 1 → t.pairState h = 5))) ∧
  (∀ (s : State) (h : Fin 2), s.coreRuns = true → s.paired h.val = true → s.twin.partnerPfw = false → (s.home h.val).handing = false →
    (s.on Fld.GLB_STATUS_MIXED = false →
      Leads (.handover h) s (fun t => (t.home h.val).handing = true ∧ h.val ∈ t.net.stopped ∧ t.accepting h.val = false) ∧
      (s.on Fld.TWN_CTRL_FAILBACK = false → h.val ≠ s.preferred → exec (.failbackDelayExpiry h) s = exec (.handover h) s)) ∧
    (s.on Fld.GLB_STATUS_MIXED = true → Leads (.handover h) s (fun t => (t.home h.val).handWait = true ∧ t.net = s.net)) ∧
    (s.on Fld.TWN_CTRL_FAILBACK = true → exec (.failbackDelayExpiry h) s = .next s)) ∧
  (∀ (s : State) (h : Fin 2), s.coreRuns = true →
    ((s.home h.val).handing = true → s.drainedHome h.val = true →
      exec (.handoverDrained h) s = .next ((s.passToken h.val).afterHandover (s.home h.val).handNext)) ∧
    ((s.home h.val).handing = true → s.drainedHome h.val = false → exec (.handoverDrained h) s = .next s)) ∧
  (∀ (s : State) (h : Nat), h < 2 → s.get Fld.CFL_BOOTINFO_STEP ≠ 9 → ∃ t, t = s.passToken h ∧
    (t.home h).token = false ∧ (t.home h).handing = false ∧ (t.home h).handovers = (s.home h).handovers + 1 ∧ t.role h = 2 ∧
    (∀ f ∈ t.prot.fences, f.home ≠ h) ∧ (∀ x ∈ t.net.txns, x.home ≠ h)) ∧
  (∀ (s : State) (h : Fin 2), s.coreRuns = true →
    ((s.home h.val).token = false → Leads (.forceSolo h) s (fun t => (t.home h.val).claim = some .forced ∧
      ((s.home h.val).inRel = true → (s.home h.val).backoff = false → (t.home h.val).out = true))) ∧
    ((s.home h.val).token = true → exec (.forceSolo h) s = .next s) ∧
    ((s.home h.val).diverged = true → s.active h.val = false → s.elytraUp = false → Leads (.acceptResync h) s (fun t =>
      (t.home h.val).diverged = false ∧ (t.home h.val).acceptResync = true ∧ (t.home h.val).srRole = 4 ∧ t.term h.val = 0)) ∧
    (s.active h.val = true → s.pairState h.val = 4 → exec (.retryAdmit h) s = .next (s.startResync h.val true)) ∧
    (s.pairState h.val ≠ 4 → exec (.retryAdmit h) s = .next s) ∧
    (s.paired h.val = true → exec (.verify h) s = .next ((((s.goSolo h.val).updHome h.val (fun x =>
      { x with matched := 0, tries := 0, inseq := 0, respSum := 0 })).sendState h.val).setPair h.val 2)) ∧
    (s.acts h.val = true → (s.home h.val).arpsDue ≠ 0 → Leads (.arpRepeatTimer h) s (fun t =>
      (t.home h.val).arpsDue + 1 = (s.home h.val).arpsDue ∧ ∀ p, p < 8 → s.linkUp p = true → .gratuitous p h.val ∈ t.out)))

/-- A chip that stands by for nothing sends its health word every period. A HEALTH frame received is the partner's word, with its
budget and free granules. A lane in service whose eye margin is below the limit sets the bit of the health word, and good
margins clear it. On a standby BIST of one cluster runs at a time, where the governor admits it; its end is shown with the
cluster, and a cluster that failed is retired. A cluster that fails is retired once. The T2 samples of a standby that needed
parity or a heal show in the health word. (R61, R374, R376, R389) -/
def Obligations.HealthAndBistAct : Prop :=
  (∀ (s : State), s.coreRuns = true →
    (s.elytraUp = true → s.standby 0 = false → s.standby 1 = false → Leads .healthTimer s (fun t => t.twin.healthSeq = s.twin.healthSeq + 1)) ∧
    (s.standby 0 = true ∨ s.standby 1 = true → exec .healthTimer s = .next s)) ∧
  (∀ (s : State) (x : Ely) (w budget mf : BitVec 32) (n : BitVec 64), s.coreRuns = true → s.elytraUp = true → s.still = false →
    s.active 0 = false → s.active 1 = false → Leads (.health x w n budget mf) s (fun t => t.reg Reg.TWN_PHEALTH = w ∧
      t.twin.partnerBudget = budget.toNat ∧ t.twin.partnerMirror = mf.toNat)) ∧
  (∀ (s : State) (ms : List (Fin 8 × Nat)), s.coreRuns = true → Leads (.eyeMonitorTimer ms) s (fun t => (t.regBit Reg.TWN_HEALTH 3 = true ↔
    ∃ m ∈ ms, s.regBit Reg.TWN_LINK m.1.val = true ∧ m.2 < s.get Fld.TWN_SELFTEST_EYE_MIN) ∧ t.twin = s.twin)) ∧
  (∀ (s : State) (k : Fin 12), s.coreRuns = true →
    (s.standby 0 = true ∨ s.standby 1 = true → s.twin.bist = none → s.admits 3 = true →
      Leads (.bistTimer k) s (fun t => t.twin.bist = some k.val ∧ t.regs = s.regs)) ∧
    (s.twin.bist ≠ none → exec (.bistTimer k) s = .next s) ∧
    (s.twin.bist = some k.val →
      Leads (.bistDone k true) s (fun t => t.twin.bist = none ∧ t.regBit Reg.TWN_HEALTH 4 = false ∧ t.net = s.net) ∧
      (k.val ≠ 11 → (∃ i, i < 8 ∧ i ≠ k.val ∧ i ∉ s.net.deadClusters) →
        Leads (.bistDone k false) s (fun t => t.twin.bist = none ∧ t.regBit Reg.TWN_HEALTH 4 = true ∧ k.val ∈ t.net.deadClusters))) ∧
    (k.val ∈ s.net.deadClusters → exec (.clusterFault k) s = .next s) ∧
    (k.val ∉ s.net.deadClusters → k.val ≠ 11 → (∃ i, i < 8 ∧ i ≠ k.val ∧ i ∉ s.net.deadClusters) →
      Leads (.clusterFault k) s (fun t => t.net.deadClusters = k.val :: s.net.deadClusters ∧ t.regs = s.regs))) ∧
  (∀ (s : State) (bad : List Nat), s.coreRuns = true →
    (s.standby 0 = true ∨ s.standby 1 = true → Leads (.t2SampleTimer bad) s (fun t => t.regBit Reg.TWN_HEALTH 2 = !bad.isEmpty)) ∧
    (s.standby 0 = false → s.standby 1 = false → exec (.t2SampleTimer bad) s = .next s))

/-- Each frame of DATA of a well-formed kind that arrives on a link that is up, for a home set for which the chip stands by or
joins, is counted. A WRITE, ZERO, TRIM or ATOMIC joins the mirror writes, which are placed in their order as the dirty budget
allows. An ARM record arms the region. A DOORBELL moves the tail or the head that its slot names, a FETCH makes its slots
owned, and a POST of a completion releases its slot or freezes the queue. PLACE places its granules, STREAM opens, advances
or closes a stream, BIND binds the connection, and ORDER changes nothing else. For any other home set the frame has no effect
but its sequence number and its credits. (R37, R38, R157, R162, R180, R184, R200, R220, R367, R368, R396) -/
def Obligations.MirrorFramesAreTakenAndConfirmed : Prop :=
  (∀ (s : State) (x : Ely) (d : DataHdr) (a b c : BitVec 64) (data : List Byte), s.elytraUp = true → s.still = false → data.length ≤ 4096 →
    s.mirrorSide d.home.val = true → ∀ (i : Instr) (op : MirrorOp),
    ((i = .dataWrite x d a b data ∧ op = .write a.toNat b.toNat data) ∨ (i = .dataZero x d a b ∧ op = .zero a.toNat b.toNat) ∨
      (i = .dataTrim x d a b ∧ op = .trim a.toNat b.toNat) ∨ (i = .dataAtomic x d a b c ∧ op = .atomic a.toNat b.toNat (leBytes 8 c.toNat))) →
    Through i s (fun v => (v.placeLate v.twin.late.length).settle) (fun v => v.twin.late = s.twin.late ++ [(d, op)] ∧
      (v.reg Reg.TWN_DATA_RX).toNat = s.plusOne Reg.TWN_DATA_RX ∧ (v.home d.home.val).rxMseq = d.mseq.toNat ∧ v.flash = s.flash)) ∧
  (∀ (s : State) (d : DataHdr) (op : MirrorOp) (rest : List (DataHdr × MirrorOp)) (n : Nat), s.twin.late = (d, op) :: rest →
    (s.budgetFits op.bytes = true → s.placeLate (n + 1) =
      (((({ s with twin := { s.twin with late := rest } } : State).mirrorPlace d op).confirmOut d.home.val d.mseq.toNat)).placeLate n) ∧
    (s.budgetFits op.bytes = false → s.placeLate (n + 1) = s)) ∧
  (∀ (s : State) (x : Ely) (d : DataHdr), s.elytraUp = true → s.still = false → s.mirrorSide d.home.val = true →
    (∀ region : BitVec 64, Through (.dataArm x d region) s (fun v => v.confirmOut d.home.val d.mseq.toNat) (fun v =>
      (v.region region.toNat).map (·.recArmed) = (s.region region.toNat).map (fun _ => true) ∧
      (v.reg Reg.TWN_DATA_RX).toNat = s.plusOne Reg.TWN_DATA_RX)) ∧
    (∀ (k : Fin 64) (slot : Fin 32) (value : BitVec 64) (q : Queue), s.queue d.qpn.toNat k.val = some q → q.st ≠ .frozen →
      Through (.dataDoorbell x d k slot value) s (fun v => v.confirmOut d.home.val d.mseq.toNat) (fun v =>
        (v.queue d.qpn.toNat k.val).map (fun y => (y.sqTail, y.cqHead, y.nqHead)) = some
          (if slot.val = 0 then (value.toNat % 65536, q.cqHead, q.nqHead) else if slot.val = 8 then (q.sqTail, value.toNat % 65536, q.nqHead)
           else if slot.val = 16 then (q.sqTail, q.cqHead, value.toNat % 65536) else (q.sqTail, q.cqHead, q.nqHead)))) ∧
    (∀ (k : Fin 64) (first count : BitVec 16) (q : Queue), s.queue d.qpn.toNat k.val = some q → 0 < q.sqSize →
      Through (.dataFetch x d k first count) s (fun v => v.confirmOut d.home.val d.mseq.toNat) (fun v => ∃ y,
        v.queue d.qpn.toNat k.val = some y ∧ ∀ i, i < count.toNat → { idx := (first.toNat + i) % q.sqSize, st := .running } ∈ y.slots)) ∧
    (∀ (k : Fin 64) (index slot : BitVec 16) (psn : Psn) (entry : List Byte) (q : Queue), s.queue d.qpn.toNat k.val = some q →
      entry.length = 16 → Through (.dataPost x d k false index psn entry slot) s (fun v => v.confirmOut d.home.val d.mseq.toNat) (fun v =>
        (v.queue d.qpn.toNat k.val).map (fun y => (y.cqCount, y.sqHead)) = some (q.cqCount + 1, capField entry 8 2) ∧
        (capField entry 14 2 % 32768 = 0 → (v.queue d.qpn.toNat k.val).map (·.slots) = some (q.slots.filter (fun y => y.idx != slot.toNat))) ∧
        (capField entry 14 2 % 32768 ≠ 0 → (v.queue d.qpn.toNat k.val).map (·.st) = some .frozen))) ∧
    (∀ (k : Fin 64) (index slot : BitVec 16) (psn : Psn) (entry : List Byte) (q : Queue), s.queue d.qpn.toNat k.val = some q →
      entry.length = 32 → Through (.dataPost x d k true index psn entry slot) s (fun v => v.confirmOut d.home.val d.mseq.toNat) (fun v =>
        (v.queue d.qpn.toNat k.val).map (fun y => (y.nqCount, y.slots)) = some (q.nqCount + 1, q.slots))) ∧
    (∀ (g n : Nat) (p : Fin 4), Through (.dataPlace x d g n p) s (fun v => v.confirmOut d.home.val d.mseq.toNat) (fun v =>
      ∀ i, i < n → (v.granule (g + i)).place = mirrorPlacement p)) ∧
    (∀ r : StreamRec, Through (.dataStream x d r) s (fun v => v.confirmOut d.home.val d.mseq.toNat) (fun v =>
      v.tier.streams = (s.streamRec d.home.val r).tier.streams)) ∧
    Through (.dataOrder x d) s (fun v => v.confirmOut d.home.val d.mseq.toNat) (fun v =>
      v.net.qps = s.net.qps ∧ v.cqi = s.cqi ∧ v.tier = s.tier ∧ v.prot.regions = s.prot.regions) ∧
    (∀ (ringKey : BitVec 32) (entries : List Byte) (q : Qp), s.qp d.qpn.toNat = some q → entries.length % 64 = 0 → entries.length ≤ 4096 →
      Through (.dataBind x d ringKey entries) s (fun v => v.confirmOut d.home.val d.mseq.toNat) (fun v =>
        (v.qp d.qpn.toNat).map (fun y => (y.ringKey, y.qcount, y.bound)) = some (ringKey, entries.length / 64, true)))) ∧
  (∀ (s : State) (x : Ely) (d : DataHdr) (region : BitVec 64), s.elytraUp = true → s.still = false → s.mirrorSide d.home.val = false →
    Leads (.dataArm x d region) s (fun t => t.prot.regions = s.prot.regions ∧ t.tier = s.tier ∧ t.cqi = s.cqi ∧
      t.twin.bulk.rxSeq = s.twin.bulk.rxSeq + 1)) ∧
  (∀ (s : State) (x : Ely) (d : DataHdr) (region : BitVec 64), s.elytraUp = false → exec (.dataArm x d region) s = .next s)

/-- A DELTA for a home set that the chip stands by for applies its entries in order, notes its epoch, term and digest, compares
the digests for the health word, and a FINAL one claims the token; the first one without LOCKSTEP after lockstep admits a
joining chip. A STATE image loads its entries into a joining chip. A PIECE of 4,096 bytes is placed with its poison bits,
DONE notes that all pieces are here, and a copy of an ingress frame is executed in lockstep with egress suppressed. A chip
with another role takes none of them. (R36, R37, R370, R371, R372, R373, R378, R384, R385, R387, R388, R391) -/
def Obligations.DeltasAndResyncAreTaken : Prop :=
  (∀ (s : State) (x : Ely) (h : Fin 2) (ep m dg : BitVec 64) (tm : BitVec 32) (fin lock : Bool) (es : List DeltaEntry), s.elytraUp = true →
    s.still = false → s.mirrorSide h.val = true →
    (fin = false → s.role h.val = 2 → Leads (.delta x h ep tm fin lock m dg es) s (fun t => ∃ u : State, u.prot.keys = s.prot.keys ∧
      u.prot.regions = s.prot.regions ∧ u.net.qps = s.net.qps ∧ u.cqi = s.cqi ∧ u.tier = s.tier ∧ t.prot = (es.foldl (fun w e => w.applyEntry h.val e) u).prot ∧ t.cqi = (es.foldl (fun w e => w.applyEntry h.val e) u).cqi)) ∧
    (fin = true → es = [] → (s.home h.val).inRel = false → Leads (.delta x h ep tm fin lock m dg es) s (fun t =>
      (t.home h.val).final = true ∧ (t.home h.val).epoch = ep.toNat + 1 ∧ (t.home h.val).deltaEpoch = ep.toNat ∧
      (t.home h.val).claim = some .handover ∧ t.term h.val = tm.toNat)) ∧
    (fin = false → es = [] → s.role h.val = 2 → Leads (.delta x h ep tm fin lock m dg es) s (fun t =>
      (t.home h.val).epoch = ep.toNat + 1 ∧ (t.home h.val).compared = ep.toNat ∧ (t.home h.val).digest = dg ∧ t.term h.val = tm.toNat ∧
      t.role h.val = 2)) ∧
    (fin = false → es = [] → lock = false → s.role h.val = 3 → s.pairState h.val = 2 → s.get Fld.CFL_BOOTINFO_STEP ≠ 9 →
      Leads (.delta x h ep tm fin lock m dg es) s (fun t => t.role h.val = 2 ∧ t.pairState h.val = 3 ∧ (t.home h.val).srRole = 3))) ∧
  (∀ (s : State) (x : Ely) (h : Fin 2), s.elytraUp = true → s.still = false → s.role h.val = 3 →
    (∀ (tb : Fin 6) (last : Bool) (es : List StateEntry), ∃ u : State, u.prot.keys = s.prot.keys ∧ u.prot.regions = s.prot.regions ∧
      u.cqi = s.cqi ∧ u.tier = s.tier ∧ Leads (.state x h tb last es) s (fun t => t.prot = (es.foldl (fun w e => w.loadEntry h.val e) u).prot ∧
        t.tier = (es.foldl (fun w e => w.loadEntry h.val e) u).tier)) ∧
    (∀ (n : Nat), Leads (.resyncDone x h n) s (fun t => (t.home h.val).copied = true ∧ (t.home h.val).pieces = n ∧ t.tier = s.tier)) ∧
    (∀ (a : Nat) (data : List Byte) (poison : BitVec 64), data.length = 4096 → a % 4096 = 0 → Leads (.piece x h a data poison) s (fun t =>
      ∃ u : State, u.tier = s.tier ∧ u.flash = s.flash ∧
        let m : BitVec 256 := BitVec.ofNat 256 (poison.toNat <<< (64 * (a % unitBytes / 4096)))
        let w : State := (u.loadUnit (a / unitBytes) false).placeBytes (u.mirrorRegion h.val a).2 a data true
        t = w.updFrame (a / unitBytes) (fun f => { f with poison := (f.poison &&& ~~~(codewordMask (a % unitBytes / 4096))) ||| m }))) ∧
    (∀ (n : Nat) (slice : Fin 8) (p : Pkt) (req : Req) (q : Qp), s.shadow h.val = true → s.acts h.val = false → s.sliceOf p.qpn.toNat = slice.val →
      s.qp p.qpn.toNat = some q → Leads (.lockstepIngress x h n slice p req) s (fun t => ∃ u : State,
        (u.home h.val).inseq = n ∧ u.net.qps = s.net.qps ∧ u.net.txns = s.net.txns ∧ u.tier = s.tier ∧ t.out = u.out ∧
        t.tier = ((u.stage2 p req).settle).tier ∧ t.net = ((u.stage2 p req).settle).net))) ∧
  (∀ (s : State) (x : Ely) (h : Fin 2) (n : Nat), s.role h.val ≠ 3 → Leads (.resyncDone x h n) s (fun t =>
    (t.home h.val).copied = (s.home h.val).copied ∧ t.tier = s.tier))

/-- Enabling before INV_DONE sets EN_REFUSED only; after it, the cache is enabled. Disabling an enabled cache begins, and when
the clean and invalidate ends no line is left and the cache is off. Setting a lock bit of an unlocked way makes the lock busy
until the way has been cleaned and its lines are gone, and clearing one acts at once; both are ignored while busy. The end of
a fill gives the line the bytes of T1 and lets waiting accesses of the unit be tried again, a free fill buffer lets misses go
on, and a bank that has invalidated its sets holds no line and is on. (R239, R241, R244, R245, R246, R250) -/
def Obligations.LineCacheIsControlled : Prop :=
  (∀ (s : State), s.coreRuns = true →
    (s.on Fld.LC_CTRL_EN = false → s.on Fld.LC_STATUS_INV_DONE = true → Leads .lcEnable s (fun t => t.on Fld.LC_CTRL_EN = true ∧
      t.on Fld.LC_STATUS_ENABLED = true ∧ t.tier = s.tier)) ∧
    (s.on Fld.LC_CTRL_EN = false → s.on Fld.LC_STATUS_INV_DONE = false → Leads .lcEnable s (fun t => t.on Fld.LC_CTRL_EN = false ∧
      t.on Fld.LC_STATUS_EN_REFUSED = true ∧ t.tier = s.tier)) ∧
    (s.on Fld.LC_CTRL_EN = true → exec .lcEnable s = .next s ∧ exec .lcDisable s = .next (s.put Fld.LC_STATUS_DISABLING 1)) ∧
    (s.on Fld.LC_CTRL_EN = false → exec .lcDisable s = .next s) ∧
    (s.on Fld.LC_STATUS_DISABLING = true → Leads .lcDisableDone s (fun t => t.tier.lines = [] ∧ t.on Fld.LC_CTRL_EN = false ∧
      t.on Fld.LC_STATUS_ENABLED = false ∧ t.on Fld.LC_STATUS_DISABLING = false))) ∧
  (∀ (s : State) (w : Fin 8), s.coreRuns = true →
    (s.on Fld.LC_STATUS_LOCK_BUSY = true → exec (.lcLockSet w) s = .next s ∧ exec (.lcLockClear w) s = .next s) ∧
    (s.on Fld.LC_STATUS_LOCK_BUSY = false → s.wayLocked w.val = false → Leads (.lcLockSet w) s (fun t =>
      t.on Fld.LC_STATUS_LOCK_BUSY = true ∧ t.tier.lockNew = some (s.get Fld.LC_LOCK_LOCK + 2 ^ w.val) ∧ t.tier.lines = s.tier.lines)) ∧
    (s.on Fld.LC_STATUS_LOCK_BUSY = false → s.wayLocked w.val = true → Leads (.lcLockClear w) s (fun t =>
      t.get Fld.LC_LOCK_LOCK + 2 ^ w.val = s.get Fld.LC_LOCK_LOCK ∧ t.tier = s.tier)) ∧
    (∀ v, s.tier.lockNew = some v → v < 256 → Leads .lcLockSetDone s (fun t => t.get Fld.LC_LOCK_LOCK = v ∧ t.tier.lockNew = none ∧
      t.on Fld.LC_STATUS_LOCK_BUSY = false ∧
      ∀ e ∈ t.tier.lines, ¬(e.2.way < 8 ∧ v.testBit e.2.way = true ∧ (s.get Fld.LC_LOCK_LOCK).testBit e.2.way = false)))) ∧
  (∀ (s : State) (l : Nat), s.coreRuns = true →
    (∀ x, s.line l = some x → x.filling = true → Through (.lcFillDone l) s (fun v => v.retryFill (l / 256)) (fun v =>
      v.line l = some { x with filling := false, data := s.t1Read (l * 64) 64 } ∧ v.net = s.net ∧ v.regs = s.regs)) ∧
    (∀ x, s.line l = some x → x.filling = false → exec (.lcFillDone l) s = .next s)) ∧
  (∀ (s : State) (b : Fin 16), s.coreRuns = true →
    (s.bankFills b.val < 64 → Settles (.fillBufferFreed b) s (fun v => v.tier = s.tier ∧ ∀ t ∈ v.net.txns, t.waitBuffer = false)) ∧
    (64 ≤ s.bankFills b.val → exec (.fillBufferFreed b) s = .next s) ∧
    (s.bankOn b.val = false → Settles (.lcBankInvalidateDone b) s (fun v => v.bankOn b.val = true ∧
      (∀ e ∈ v.tier.lines, t0Bank (e.1 * 64) ≠ b.val) ∧ v.tier.t1 = s.tier.t1)))

/-- Every operation is refused with ERR 1 while one runs, an OP not listed with ERR 2, INV_ALL on an enabled cache and ZERO_LINE
or LOCK_FILL on a disabled one with ERR 3, ZERO_LINE below the firmware reserve with ERR 4. Ranged operations within the
space act on each line of the range: INV_RANGE and CLEAN_INV_RANGE leave none of them valid, CLEAN_RANGE leaves none of them
dirty unless a fill is in progress, ZERO_LINE zeroes and LOCK_FILL places them. INV_ALL and CLEAN_INV_ALL leave no line. On a
disabled cache CLEAN_ALL completes at once with DONE 0. Its end clears BUSY and shows the error, and after INV_ALL sets
INV_DONE. (R247, R248, R252, R253) -/
def Obligations.MaintenanceOperationsAct : Prop :=
  (∀ (s : State), s.coreRuns = true → s.on Fld.LC_MOP_STATUS_BUSY = true →
    ∀ i ∈ [Instr.invAll, .invRange, .cleanRange, .cleanInvRange, .zeroLine, .cleanAll, .cleanInvAll, .lockFill 1, .lcMopReservedOp 0, .lcMopReservedOp 9],
      exec i s = .next (s.put Fld.LC_MOP_STATUS_ERR 1)) ∧
  (∀ (s : State) (op : BitVec 4), s.coreRuns = true → s.on Fld.LC_MOP_STATUS_BUSY = false → op = 0 ∨ 8 < op.toNat →
    exec (.lcMopReservedOp op) s = .next (s.put Fld.LC_MOP_STATUS_ERR 2)) ∧
  (∀ (s : State) (m : BitVec 8), s.coreRuns = true → s.on Fld.LC_MOP_STATUS_BUSY = false →
    (s.on Fld.LC_CTRL_EN = true → exec .invAll s = .next (s.put Fld.LC_MOP_STATUS_ERR 3)) ∧
    (s.on Fld.LC_CTRL_EN = false → exec .zeroLine s = .next (s.put Fld.LC_MOP_STATUS_ERR 3) ∧
      exec (.lockFill m) s = .next (s.put Fld.LC_MOP_STATUS_ERR 3) ∧ exec .cleanAll s = .next (s.mopAtOnce 7) ∧
      Leads .invAll s (fun t => t.tier.lines = [] ∧ t.on Fld.LC_MOP_STATUS_BUSY = true ∧ t.get Fld.LC_MOP_STATUS_LAST_OP = 1 ∧
        t.tier.mop = some (1, 0))) ∧
    (s.on Fld.LC_CTRL_EN = true → s.mopRange.1 + s.mopRange.2 ≤ 2 ^ 45 → s.mopRange.1 < reserveLine →
      exec .zeroLine s = .next (s.put Fld.LC_MOP_STATUS_ERR 4))) ∧
  (∀ (s : State) (l0 n : Nat), s.coreRuns = true → s.on Fld.LC_MOP_STATUS_BUSY = false → s.on Fld.LC_CTRL_EN = true →
    s.mopRange = (l0, n) → l0 + n ≤ 2 ^ 45 →
    (∀ i k, (i, k) ∈ [(Instr.invRange, 2), (.cleanInvRange, 4)] → Leads i s (fun t => (∀ l, l0 ≤ l → l < l0 + n → t.line l = none) ∧
      t.on Fld.LC_MOP_STATUS_BUSY = true ∧ t.get Fld.LC_MOP_STATUS_LAST_OP = k ∧ (t.reg Reg.LC_MOP_DONE) = BitVec.ofNat 32 n ∧
      t.tier.mop = some (k, 0))) ∧
    Leads .cleanRange s (fun t => (∀ l x, l0 ≤ l → l < l0 + n → t.line l = some x → x.dirty = false ∨ x.filling = true) ∧
      t.on Fld.LC_MOP_STATUS_BUSY = true ∧ t.get Fld.LC_MOP_STATUS_LAST_OP = 3 ∧ ∀ a, t.poolByte a = s.poolByte a) ∧
    (reserveLine ≤ l0 → exec .zeroLine s = .next (((span l0 n).foldl State.zeroT0Line s).mopBegin 5 n 0)) ∧
    (∀ m : BitVec 8, reserveLine ≤ l0 → m ≠ 0 → (∀ w, w < 8 → m.getLsbD w = true → s.wayLocked w = true) →
      Leads (.lockFill m) s (fun t => t.on Fld.LC_MOP_STATUS_BUSY = true ∧ t.get Fld.LC_MOP_STATUS_LAST_OP = 6 ∧
        (n = 0 → t.reg Reg.LC_MOP_DONE = 0 ∧ t.tier.mop = some (6, 0)))) ∧
    Leads .cleanAll s (fun t => (∀ l x, t.line l = some x → x.dirty = false ∨ x.filling = true) ∧ t.on Fld.LC_MOP_STATUS_BUSY = true ∧
      t.get Fld.LC_MOP_STATUS_LAST_OP = 7 ∧ ∀ a, t.poolByte a = s.poolByte a) ∧
    Leads .cleanInvAll s (fun t => t.tier.lines = [] ∧ t.on Fld.LC_MOP_STATUS_BUSY = true ∧ t.get Fld.LC_MOP_STATUS_LAST_OP = 8)) ∧
  (∀ (s : State) (op err : Nat), s.coreRuns = true → s.tier.mop = some (op, err) → err < 8 →
    Leads .lcMopDone s (fun t => t.tier.mop = none ∧ t.on Fld.LC_MOP_STATUS_BUSY = false ∧ t.get Fld.LC_MOP_STATUS_ERR = err ∧
      (op = 1 → t.on Fld.LC_STATUS_INV_DONE = true) ∧ t.tier.lines = s.tier.lines))

/-- After the device writes some bytes to the pool, each byte of the range reads as written and every other byte as before,
whether the line cache holds the lines, fills them or not. Cleaning a line of the cache changes no byte that a reader sees.
(R62, R235, R236) -/
def Obligations.PoolWritesExactlyItsBytes : Prop :=
  (∀ (s : State) (a : Nat) (bs : List Byte) (b : Nat), (s.poolWrite a bs).poolByte b =
    if a ≤ b ∧ b < a + bs.length then bs.getD (b - a) 0 else s.poolByte b) ∧
  (∀ (s : State) (l a : Nat), (s.cleanLine l).poolByte a = s.poolByte a)

/-- A channel that starts is in service with the geometry of its dies, or excluded. A program that passes counts a page done and
16 KiB programmed and leaves the pages in flight, and what its page held is committed; one that fails is counted, and its
block retired. An erase that passes frees the block with one more erase, and one that fails retires it. A read that decodes
delivers the codeword. One that is served while an erase runs on its die suspends the erase, up to the limit, and is counted.
One that fails after the soft read, and cannot be rebuilt, needs a heal. A closed superblock whose verify ends is verified,
without parity. A timeout hands out filler for each open superblock that is behind there. A channel or die that is retired,
or stops answering, leaves service. (R313, R320, R322, R326, R331, R332, R334, R336, R340, R341, R389) -/
def Obligations.FlashPagesAndBlocks : Prop :=
  (∀ (s : State) (c : Fin 32) (g : FlashGeom), s.coreRuns = true →
    (s.get (Fld.FCH_STATUS_STATE c.val) ≠ 2 → Leads (.flashChannelInitDone c true g) s (fun t => t.get (Fld.FCH_STATUS_STATE c.val) = 2 ∧
      t.geom c.val = some g ∧ t.get (Fld.FCH_GEOM_DIES c.val) = g.dies.val ∧ t.on (Fld.FCH_STATUS_TOGGLE c.val) = g.toggle) ∧
      Leads (.flashChannelInitDone c false g) s (fun t => t.get (Fld.FCH_STATUS_STATE c.val) = 5 ∧ t.flash = s.flash)) ∧
    (s.get (Fld.FCH_STATUS_STATE c.val) = 2 → exec (.flashChannelInitDone c true g) s = .next s)) ∧
  (∀ (s : State) (block page : Nat), s.coreRuns = true →
    (s.findOp block page = none → exec (.nandProgramDone block page true) s = .next s) ∧
    (∀ o x, s.findOp block page = some (o, x) →
      Through (.nandProgramDone block page true) s
        (fun v => ((((((v.pagePassed o (block + page)).closeSb o.sb).gcGoOn).journalPump false).spaceCheck).placeLate (v.twin.late.length + 1)).settle)
        (fun v => v.flash.programmed = s.flash.programmed + 16384 ∧ (v.sb o.sb).map (fun y => y.done) = some (updAt x.done o.pos (· + 1)) ∧
          ∀ p ∈ v.flash.ops, ¬(p.sb = o.sb ∧ p.pos = o.pos ∧ p.page = o.page)) ∧
      Through (.nandProgramDone block page false) s (fun v => (((v.retireBlock block).dieCheck block).journalPump false).spaceCheck)
        (fun v => v = s.count (Reg.FCH_PROG_FAIL (nameChan block))))) ∧
  (∀ (s : State) (block : Nat), s.coreRuns = true →
    ((s.blk block).st = .erasing ∨ (s.blk block).st = .eraseIncomplete →
      Through (.nandEraseDone block true) s (fun v => (v.gcStatus.journalPump false).spaceCheck) (fun v =>
        ((v.blk block).st = .free ∨ (v.blk block).st = .spare) ∧ (v.blk block).pe = (s.blk block).pe + 1 ∧
        ∃ e ∈ v.flash.journal, e.typ = 8 ∧ e.target = block) ∧
      Through (.nandEraseDone block false) s (fun v => (((v.retireBlock block).dieCheck block).gcStatus).spaceCheck)
        (fun v => v = s.count (Reg.FCH_ERASE_FAIL (nameChan block)))) ∧
    ((s.blk block).st = .free → exec (.nandEraseDone block true) s = .next s)) ∧
  (∀ (s : State) (u : Nat) (k : Fin 4) (f : Frame) (m : MapEnt), s.coreRuns = true → s.frame u = some f → kget s.flash.map u = some m →
    (f.filling = true →
      (∀ step : Fin 8, Through (.nandReadDone u k step true) s (fun v => v.deliver u k.val) (fun v => v.tier = s.tier ∧ v.net = s.net)) ∧
      (s.rebuildable m.phys = false → Through (.nandReadDone u k 7 false) s
        (fun v => (v.readFail (s.blockOf m.phys)).needHeal u) (fun v => v.tier = s.tier ∧
          (v.reg (Reg.FCH_UNCORR (nameChan m.phys))).toNat = s.plusOne (Reg.FCH_UNCORR (nameChan m.phys)))) ∧
      (s.flash.blocks.all (fun e => e.2.st != .erasing) = true → exec (.nandReadDone u k 0 false) s = .next s) ∧
      (∀ e, s.flash.blocks.find? (fun e => e.2.st == .erasing && nameChan e.1 == nameChan m.phys && nameDie e.1 == nameDie m.phys) = some e →
        s.on Fld.FTL_CTRL_ERASE_SUSPEND = true → e.2.suspends.contains u = false →
        e.2.suspends.length < s.get (Fld.FCH_ERASE_MAX_SUSPEND (nameChan m.phys)) →
        Leads (.nandReadDone u k 0 false) s (fun t => (t.blk e.1).suspends = u :: e.2.suspends ∧ t.tier = s.tier ∧
          (t.reg (Reg.FCH_SUSPENDS (nameChan m.phys))).toNat = s.plusOne (Reg.FCH_SUSPENDS (nameChan m.phys))))) ∧
    (f.filling = false → exec (.nandReadDone u k 0 true) s = .next s)) ∧
  (∀ (s : State) (n : Nat) (us : List Nat) (x : Sb), s.coreRuns = true → s.sb n = some x →
    (x.st = .closed → ∃ (ws : List Nat) (v : State), exec (.sbVerifyDone n us) s =
        .next (((ws.foldl (fun w b => (w.retireBlock b).dieCheck b) v).journalPump false).spaceCheck) ∧ (us = [] → ws = []) ∧
      v.sb n = some { x with st := .verified, parity := none } ∧ ∃ e ∈ v.flash.journal, e.typ = 6) ∧
    (x.st ≠ .closed → exec (.sbVerifyDone n us) s = .next s)) ∧
  (∀ (s : State) (p : Nat), s.coreRuns = true →
    (p < 32 → Leads (.stripeFillTimeout p) s (fun t => t.flash.ops.length = s.flash.ops.length +
      (s.flash.sbs.filter (fun e => e.2.st == .opened && e.2.next.any (fun g => decide (e.2.next.getD p 0 < g)))).length ∧ t.tier = s.tier)) ∧
    (32 ≤ p → exec (.stripeFillTimeout p) s = .next s)) ∧
  (∀ (s : State) (c : Fin 32), s.coreRuns = true →
    (s.chanIn c.val = true → ∃ (ps : List Nat) (v : State), exec (.fchRetire c) s = .next ((ps.foldl (fun w p => w.movePosition c.val p) v).spaceCheck) ∧
      v.get (Fld.FCH_STATUS_STATE c.val) = 4 ∧ v.on (Fld.FCH_CTRL_RETIRE c.val) = true ∧ (∀ p, p ∈ ps ↔ p < 32 ∧ s.stripeChan p = c.val)) ∧
    (s.chanIn c.val = true → (∀ d : Fin 128, exec (.flashDieStopsAnswering c (some d)) s = .next (s.retireDie c.val d.val)) ∧
      exec (.flashDieStopsAnswering c none) s = .next (s.retireFch c.val)) ∧
    (∀ d, s.chanIn c.val = false → exec (.flashDieStopsAnswering c d) s = .next s))

/-- Where the governor admits destage, outside P2, Lehr copies the oldest dirty frame: its dirty bits clear, and the copy is
programmed with a version. A verified copy is the unit's map entry and T2 holds its bytes, and the copy is gone. Room in the
budget lets mirror writes and, where the chip accepts, waiting writes go on. A checkpoint starts only on a mounted tier,
marks CKPT_BUSY, and its end clears it and is counted. Collection takes its victim only when mounted, idle and admitted. Die
temperatures are noted. A mount with its keys ends start-up step 8, and waiting for keys is recorded. (R25, R68, R69, R329,
R330, R333, R368, R454, R481) -/
def Obligations.DestageCheckpointsAndCollection : Prop :=
  (∀ (s : State), s.coreRuns = true →
    (s.admits 0 = false ∨ s.get Fld.GOV_STATUS_PSTATE = 2 ∨ s.oldestDirty = none → exec .lehrDestageStart s = .next s) ∧
    (∀ e, s.admits 0 = true → s.get Fld.GOV_STATUS_PSTATE ≠ 2 → s.oldestDirty = some e →
      exec .lehrDestageStart s = .next (((s.copyFrame false e.1).dirtyPause).journalPump false)) ∧
    (∀ u r f, s.frame u = some f → ((s.fillLines u allLines).cleanUnit u).handPage false 0 (some (u % 32)) (.unit u s.flash.version) = some r →
      ((s.copyFrame false u).frame u).map (fun g => (g.dirty, g.copy)) = some (0, some s.tier.stamp) ∧
      (kget (s.copyFrame false u).flash.prog u).map (fun p => (p.version, p.loc, p.stamp)) = some (s.flash.version, r.2, s.tier.stamp) ∧
      (s.copyFrame false u).flash.version = s.flash.version + 1)) ∧
  (∀ (s : State) (u : Nat) (p : Prog), s.coreRuns = true → kget s.flash.prog u = some p →
    Through (.destageProgramVerified u) s (fun v => (v.spaceCheck.placeLate (v.twin.late.length + 1)).settle) (fun v =>
      kget v.flash.map u = some { phys := p.loc, version := p.version, poison := p.poison } ∧ kget v.flash.prog u = none ∧
      v.flash.destaged = s.flash.destaged + 16384 ∧
      (∀ a, u * unitBytes ≤ a → a < u * unitBytes + unitBytes → memByte 0 v.flash.t2 a = memByte 0 p.cells a) ∧
      (∀ a, a < u * unitBytes ∨ u * unitBytes + unitBytes ≤ a → memByte 0 v.flash.t2 a = memByte 0 s.flash.t2 a))) ∧
  (∀ (s : State) (h : Fin 2), s.coreRuns = true →
    ((s.placeLate (s.twin.late.length + 1)).accepting h.val = true →
      exec (.dirtyBudgetRoom h) s = .next (s.placeLate (s.twin.late.length + 1)).settle) ∧
    ((s.placeLate (s.twin.late.length + 1)).accepting h.val = false →
      exec (.dirtyBudgetRoom h) s = .next (s.placeLate (s.twin.late.length + 1)))) ∧
  (∀ (s : State), s.coreRuns = true →
    (s.on Fld.FTL_STATUS_MOUNTED = true → s.on Fld.FTL_STATUS_CKPT_BUSY = false → Leads .checkpointStart s (fun t =>
      t.on Fld.FTL_STATUS_CKPT_BUSY = true ∧ t.tier = s.tier)) ∧
    (s.on Fld.FTL_STATUS_MOUNTED = false ∨ s.on Fld.FTL_STATUS_CKPT_BUSY = true → exec .checkpointStart s = .next s) ∧
    (s.on Fld.FTL_STATUS_CKPT_BUSY = true → Leads .checkpointDone s (fun t => t.on Fld.FTL_STATUS_CKPT_BUSY = false ∧
      (t.reg Reg.FTL_CKPTS).toNat = s.plusOne Reg.FTL_CKPTS)) ∧
    (s.on Fld.FTL_STATUS_CKPT_BUSY = false → exec .checkpointDone s = .next s) ∧
    (∀ e, s.on Fld.FTL_STATUS_MOUNTED = true → s.on Fld.FTL_STATUS_GC_ACTIVE = false → s.admits 1 = true →
      s.freeSbs ≤ s.reserveSb + s.get Fld.FTL_RESERVE2_GC_START → s.gcVictim = some e →
      Through .gcStart s (fun v => (v.gcGoOn.gcStatus).journalPump false) (fun v => v.sb e.1 = some { e.2 with st := .collecting } ∧
        (v.reg Reg.FTL_GC_VICTIMS).toNat = s.plusOne Reg.FTL_GC_VICTIMS)) ∧
    (s.on Fld.FTL_STATUS_MOUNTED = false ∨ s.on Fld.FTL_STATUS_GC_ACTIVE = true ∨ s.admits 1 = false → exec .gcStart s = .next s) ∧
    (∀ ts, Leads (.dieTempPoll ts) s (fun t => t.flash.temps =
      ts.foldl (fun m e => kput m (e.1.val * 128 + e.2.1.val) e.2.2) s.flash.temps ∧ t.tier = s.tier ∧ t.net = s.net))) ∧
  (∀ (s : State) (torn ms : Nat), s.coreRuns = true →
    (s.get Fld.CFL_BOOTINFO_STEP ≠ 8 ∨ s.on Fld.FTL_STATUS_MOUNTED = true → exec (.mountDone torn ms) s = .next s ∧
      exec .keysMissingTimer s = .next s) ∧
    (s.get Fld.CFL_BOOTINFO_STEP = 8 → s.on Fld.FTL_STATUS_MOUNTED = false → s.flash.formatted = true →
      (s.keysReady = true → exec (.mountDone torn ms) s = .next (s.mounted torn ms) ∧ exec .keysMissingTimer s = .next s) ∧
      (s.keysReady = false → exec (.mountDone torn ms) s = .next s ∧ exec .keysMissingTimer s = .next (s.record .xtsKeysMissing))))

/-- On a channel in service a read of a line with a queued write is served from the queue, a write of a line with an unissued
write replaces it, another request enters its queue if that has room, and waits if not; a freed entry lets the oldest waiting
request in. A line read or write that ends is counted. An idle bank closes its row, a request older than the limit is marked,
a rank without requests powers down. When a refresh interval passes, a rank never owes as many refreshes as the limit; an
idle rank pays all it owes, unless the governor holds it. MR4 notes the hot ranks. (R267, R268, R270, R271, R272, R273, R274,
R279) -/
def Obligations.DramQueuesAndRefreshAct : Prop :=
  (∀ (s : State) (a : DramAddr) (w : Bool), s.coreRuns = true →
    (s.dmcState a.chan.val ≠ 2 → s.dmcState a.chan.val ≠ 4 → exec (.dmcRequestEnqueued a w) s = .next s) ∧
    (s.dmcState a.chan.val = 2 ∨ s.dmcState a.chan.val = 4 →
      ((∃ e ∈ (s.chan a.chan.val).queue, e.a.sub = a.sub ∧ e.write = true ∧ e.a.line = a.line) →
        exec (.dmcRequestEnqueued a false) s = .next (s.count (Reg.DMC_FWD a.chan.val))) ∧
      ((∃ e ∈ (s.chan a.chan.val).queue, e.a.sub = a.sub ∧ e.write = true ∧ e.a.line = a.line ∧ e.issued = false) →
        exec (.dmcRequestEnqueued a true) s = .next s) ∧
      ((∀ e ∈ (s.chan a.chan.val).queue, e.a.line ≠ a.line) → ((s.chan a.chan.val).of a.sub.val w).length < 64 →
        Leads (.dmcRequestEnqueued a w) s (fun t => (t.chan a.chan.val).seq = (s.chan a.chan.val).seq + 1 ∧
          (∃ e ∈ (t.chan a.chan.val).queue, e.a = a ∧ e.write = w ∧ e.seq = (s.chan a.chan.val).seq) ∧ t.tier = s.tier)) ∧
      ((∀ e ∈ (s.chan a.chan.val).queue, e.a.line ≠ a.line) → 64 ≤ ((s.chan a.chan.val).of a.sub.val w).length →
        Leads (.dmcRequestEnqueued a w) s (fun t => (t.chan a.chan.val).waiting = (s.chan a.chan.val).waiting ++ [(a, w)])))) ∧
  (∀ (s : State) (c : Fin 16) (sub : Fin 2) (w : Bool), s.coreRuns = true →
    (64 ≤ ((s.chan c.val).of sub.val w).length → exec (.dmcQueueEntryFreed c sub w) s = .next s) ∧
    ((s.chan c.val).waiting = [] → exec (.dmcQueueEntryFreed c sub w) s = .next s) ∧
    (∀ a rest, ((s.chan c.val).of sub.val w).length < 64 → (s.chan c.val).waiting = (a, w) :: rest → a.sub = sub →
      exec (.dmcQueueEntryFreed c sub w) s = .next ((s.updChan c.val (fun x => { x with waiting := rest })).enqueue c.val a w))) ∧
  (∀ (s : State) (a : DramAddr) (line : Nat) (f1 f2 : List (BitVec 80)), s.coreRuns = true → s.dmcState a.chan.val = 2 ∨ s.dmcState a.chan.val = 4 →
    (f1.length = 8 → f2.length = 8 → Through (.dramReadDone a line f1 f2) s
      (fun v => ((v.readLine a.chan.val a.sub.val a.line line f1 f2 false).1.retryFill (line / 256)).settle)
      (fun v => (v.reg (Reg.DMC_RD a.chan.val)).toNat = s.plusOne (Reg.DMC_RD a.chan.val) ∧ v.tier = s.tier)) ∧
    Leads (.dramWriteRetired a) s (fun t => (t.reg (Reg.DMC_WR a.chan.val)).toNat = s.plusOne (Reg.DMC_WR a.chan.val) ∧ t.tier = s.tier)) ∧
  (∀ (s : State) (c : Fin 16) (sub : Fin 2) (n : Nat), s.coreRuns = true →
    Leads (.rowIdleClose c sub n) s (fun t => kget (t.chan c.val).rows (sub.val * 1024 + n % 1024) = none ∧ t.regs = s.regs ∧
      (∀ k, k ≠ sub.val * 1024 + n % 1024 → kget (t.chan c.val).rows k = kget (s.chan c.val).rows k)) ∧
    Through (.dmcAgeMax c sub n) s (fun v => v.issue c.val sub.val) (fun v => v.regs = s.regs ∧
      ∀ e ∈ (v.chan c.val).queue, e.seq = n → e.a.sub = sub → e.aged = true)) ∧
  (∀ (s : State) (c r : Fin 16), s.coreRuns = true →
    ((s.chan c.val).busy r.val = true → exec (.rankPowerDown c r) s = .next s) ∧
    ((s.chan c.val).busy r.val = false → Leads (.rankPowerDown c r) s (fun t => r.val ∈ (t.chan c.val).down ∧ t.regs = s.regs)) ∧
    (s.dmcState c.val = 2 ∨ s.dmcState c.val = 4 → Leads (.refreshDue c r) s (fun t =>
      (t.chan c.val).debt.getD r.val 0 ≤ s.postponeLimit c.val - 1 ∧ t.tier = s.tier)) ∧
    (s.dmcState c.val ≠ 2 → s.dmcState c.val ≠ 4 → exec (.refreshDue c r) s = .next s) ∧
    (s.on (Fld.DMC_REFCTL_GOV_HOLD c.val) = true ∨ (s.chan c.val).busy r.val = true → exec (.refreshCatchup c r) s = .next s) ∧
    (s.on (Fld.DMC_REFCTL_GOV_HOLD c.val) = false → (s.chan c.val).busy r.val = false →
      Leads (.refreshCatchup c r) s (fun t => (t.chan c.val).debt.getD r.val 0 = 0)) ∧
    (∀ hot : BitVec 16, Leads (.mr4Poll c hot) s (fun t => (∀ k, k ∈ (t.chan c.val).hot ↔ k < 16 ∧ hot.getLsbD k = true) ∧
      t.on (Fld.DMC_REFSTAT_HOT c.val) = (hot != 0))))

/-- A parity alert stops its subchannel and is counted, and once the RCD has cleared it the subchannel runs with its rows closed.
A channel that ends training well is in service and one that fails is excluded. After a warm restore a channel in
self-refresh is in service, or trains again if its signature failed. RETIRE on a channel in service begins its retirement;
once it is empty it is retired, with no queue, row or remap entry left. (R260, R262, R263, R280, R281, R282) -/
def Obligations.DramChannelsComeAndGo : Prop :=
  (∀ (s : State) (c : Fin 16) (sub : Fin 2), s.coreRuns = true →
    ((s.chan c.val).stopped.getD sub.val false = true → exec (.caparAlert c sub) s = .next s) ∧
    ((s.chan c.val).stopped.getD sub.val false = false → Leads (.caparAlert c sub) s (fun t =>
      (t.chan c.val).stopped.getD sub.val false = true ∧ (t.reg (Reg.DMC_CAPAR c.val)).toNat = s.plusOne (Reg.DMC_CAPAR c.val) ∧
      (s.dmcGet c.val (Fld.DMC_ERRCTL_CAPAR_THR c.val) = 0 → t.dmcState c.val = s.dmcState c.val))) ∧
    (∀ (w : List Nat) (rs : List (Fin 16)),
      ((s.chan c.val).stopped.getD sub.val false = false → exec (.caparAlertCleared c sub w rs) s = .next s) ∧
      ((s.chan c.val).stopped.getD sub.val false = true → Through (.caparAlertCleared c sub w rs) s (fun v => v.issue c.val sub.val) (fun v =>
        (v.chan c.val).stopped.getD sub.val false = false ∧ (∀ e ∈ (v.chan c.val).rows, e.1 / 1024 ≠ sub.val) ∧
        (∀ e ∈ (v.chan c.val).queue, e.a.sub = sub → e.seq ∈ w → e.issued = false))))) ∧
  (∀ (s : State) (c : Fin 16) (ok drfm : Bool), s.coreRuns = true →
    (s.dmcState c.val ≠ 1 → exec (.dramTrainingDone c ok drfm) s = .next s) ∧
    (s.dmcState c.val = 1 → Leads (.dramTrainingDone c ok drfm) s (fun t => t.dmcState c.val = (if ok then 2 else 6) ∧
      (ok = true → t.on (Fld.DMC_STATUS_DRFM c.val) = drfm) ∧ t.tier = s.tier))) ∧
  (∀ (s : State) (failed : BitVec 16), s.coreRuns = true → (∀ e ∈ s.tier.frames, failed.getLsbD e.2.chan = false) →
    Through (.warmRestoreDone failed) s (fun v => v.t1Check.settle) (fun v => ∀ c, c < 16 → v.dmcState c =
      if s.dmcState c = 3 then (if failed.getLsbD c then 1 else 2) else s.dmcState c)) ∧
  (∀ (s : State) (c : Fin 16), s.coreRuns = true →
    Leads (.dmcRetire c) s (fun t => t.on (Fld.DMC_CTRL_RETIRE c.val) = true ∧
      t.dmcState c.val = (if s.dmcState c.val = 2 then 4 else s.dmcState c.val) ∧ t.tier = s.tier) ∧
    (s.dmcState c.val ≠ 4 → exec (.dmcChannelEmptied c) s = .next s) ∧
    (s.dmcState c.val = 4 → Through (.dmcChannelEmptied c) s (fun v => v.t1Shrink.settle) (fun v => v.dmcState c.val = 5 ∧
      (v.chan c.val).queue = [] ∧ (v.chan c.val).waiting = [] ∧ (v.chan c.val).rows = [] ∧ (v.chan c.val).remap = [])))

/-- A START is refused with ERR 1 while a pass runs, ERR 2 for the target that is reserved and ERR 3 for a range outside the
address space; otherwise BUSY is set, the summary cleared, and the pass runs. A pass that meets no flipped bit counts no
correction and ends with DONE, not BUSY. ABORT of a running pass, and the end of one that is being stopped, set ABORTED as
well. A patrol pass on the standby that meets nothing clears its health bit. A remap entry of a channel in service is loaded
and counted, or cleared. A read of the correction log takes its oldest entry. (R297, R299, R303, R305, R306) -/
def Obligations.ScrubPatrolAndRemapAct : Prop :=
  (∀ (s : State) (t : Fin 4) (wb : Bool), s.coreRuns = true →
    (s.on Fld.ECC_SCRUB_STATUS_BUSY = true → exec (.scrubStart t wb) s = .next (s.put Fld.ECC_SCRUB_STATUS_ERR 1)) ∧
    (s.on Fld.ECC_SCRUB_STATUS_BUSY = false → t.val = 3 → exec (.scrubStart t wb) s = .next (s.put Fld.ECC_SCRUB_STATUS_ERR 2)) ∧
    (s.on Fld.ECC_SCRUB_STATUS_BUSY = false → t.val = 0 →
      2 ^ 51 < s.reg64 Reg.ECC_SCRUB_ADDR_LO Reg.ECC_SCRUB_ADDR_HI + (s.reg Reg.ECC_SCRUB_LINES).toNat * 64 →
      exec (.scrubStart t wb) s = .next (s.put Fld.ECC_SCRUB_STATUS_ERR 3)) ∧
    (s.on Fld.ECC_SCRUB_STATUS_BUSY = false → t.val ≠ 3 →
      (t.val = 0 → s.reg64 Reg.ECC_SCRUB_ADDR_LO Reg.ECC_SCRUB_ADDR_HI + (s.reg Reg.ECC_SCRUB_LINES).toNat * 64 ≤ 2 ^ 51) →
      Leads (.scrubStart t wb) s (fun u => u.on Fld.ECC_SCRUB_STATUS_BUSY = true ∧ u.reg Reg.ECC_SCRUB_CORR1 = 0 ∧ u.reg Reg.ECC_SCRUB_UNCORR = 0 ∧
        u.dram.scrub = some (t.val, wb, s.reg64 Reg.ECC_SCRUB_ADDR_LO Reg.ECC_SCRUB_ADDR_HI / 64, (s.reg Reg.ECC_SCRUB_LINES).toNat)))) ∧
  (∀ (s : State) (at_ : Nat) (errs : List (Nat × BitVec 80)), s.coreRuns = true →
    (s.dram.scrub.isSome = true → exec (.scrubAbort at_ errs) s = .next ((s.scrubRun errs (some at_)).put Fld.ECC_SCRUB_STATUS_ABORTED 1)) ∧
    (s.dram.scrub = none → exec (.scrubAbort at_ errs) s = .next s) ∧
    (s.dram.stopping = true → exec (.scrubPassDone errs) s = .next ((s.scrubRun errs none).put Fld.ECC_SCRUB_STATUS_ABORTED 1)) ∧
    (s.dram.stopping = false → s.dram.scrub.isSome = true → Through (.scrubPassDone []) s State.settle (fun v =>
      v.on Fld.ECC_SCRUB_STATUS_BUSY = false ∧ v.on Fld.ECC_SCRUB_STATUS_DONE = true ∧ v.reg Reg.ECC_SCRUB_CORR1 = 0 ∧
      v.reg Reg.ECC_SCRUB_UNCORR = 0 ∧ v.dram.scrub = none ∧ v.tier = s.tier))) ∧
  (∀ (s : State) (h : Fin 2), s.coreRuns = true →
    (s.on Fld.ECC_CTRL_PATROL_EN = false ∨ s.standby h.val = false → exec (.patrolPassDone h []) s = .next s) ∧
    (s.on Fld.ECC_CTRL_PATROL_EN = true → s.standby h.val = true → Through (.patrolPassDone h []) s State.settle (fun v =>
      v.regBit Reg.TWN_HEALTH 1 = false ∧ v.get Fld.ECC_PATROL_STAT_PERCENT = 0 ∧
      v.get Fld.ECC_PATROL_STAT_PASSES = (s.get Fld.ECC_PATROL_STAT_PASSES + 1) % 2 ^ 24 ∧ v.tier = s.tier))) ∧
  (∀ (s : State) (c e : Fin 16) (sub : Fin 2) (la : BitVec 32) (w : Fin 8), s.coreRuns = true →
    (s.dmcState c.val = 2 ∨ s.dmcState c.val = 4 → Leads (.remapLoad c e sub la w) s (fun t =>
      kget (t.chan c.val).remap e.val = some { sub := sub.val, line := la, word := w.val } ∧
      (t.reg Reg.ECC_REMAP_LOADS).toNat = s.plusOne Reg.ECC_REMAP_LOADS)) ∧
    (s.dmcState c.val ≠ 2 → s.dmcState c.val ≠ 4 → exec (.remapLoad c e sub la w) s = .next s) ∧
    Leads (.remapClear c e) s (fun t => kget (t.chan c.val).remap e.val = none ∧ t.regs = s.regs)) ∧
  (∀ (s : State), s.coreRuns = true → (∀ e l, s.dram.clog = e :: l → Leads .clogRead s (fun t => t.dram.clog = l ∧ t.regs = s.regs)) ∧
    (s.dram.clog = [] → exec .clogRead s = .next s))

/-- The manager on duty admits a member with the right credential, at depth below 8, under the lowest free index, with the path
and depth that follow from its own; a top manager gives a new worker the next worker number. A member takes the path and
depth it is given; a refusal leaves it not joined. HEALTH brings a member back with what it reports. An answer removes the
request it names, and an answered report completes its capsule. A request unanswered is repeated three times in all; then a
creation goes to the next member, a report stays and the parent is lost. A member that is silent is lost once. A member not
admitted asks again to join, and an admitted one reports its health. (R405, R407, R408, R415, R416, R418, R419, 12_colony.md) -/
def Obligations.MembersJoinTheColony : Prop :=
  (∀ (s : State) (x : ColHdr) (j : ColJoin), s.coreRuns = true →
    (x.crcOk = false → exec (.join x j) s = .next s) ∧
    (x.crcOk = true → s.colDuty = true → (∀ e ∈ s.col.members, e.2.svc0 ≠ j.svc0) → ∀ i, s.freeMember = some i →
      (j.cred.toNat = s.col.cred → s.colDepth < 8 → Leads (.join x j) s (fun t => ∃ m, kget t.col.members i = some m ∧
        m.path = s.colPath + i * 64 ^ s.colDepth ∧ m.depth = s.colDepth + 1 ∧ m.worker = j.worker ∧ m.svc0 = j.svc0 ∧ m.lost = false ∧
        m.freePersistent = j.capacity ∧ (j.worker = true → s.colTop = true → s.col.workers < 1024 → m.workerNo = some s.col.workers ∧
          t.col.workers = s.col.workers + 1) ∧
        .colony (some i) 0 x.txn (.joinAck true i m.path m.depth (m.workerNo.getD 0xFFFFFFFF)) ∈ t.out)) ∧
      (j.cred.toNat ≠ s.col.cred ∨ 8 ≤ s.colDepth → Leads (.join x j) s (fun t => t.col = s.col ∧
        .colony none 0 x.txn (.joinAck false 0 0 0 0) ∈ t.out)))) ∧
  (∀ (s : State) (x : ColHdr) (i : Fin 64) (path : BitVec 48) (d : Fin 9) (q : ColReq), s.coreRuns = true → x.crcOk = true →
    s.colSpeaks = true → s.colTop = false → s.col.reqs.find? (fun r => r.txn = x.txn) = some q →
    Leads (.joinAck x true i path d) s (fun t => t.colPath = path.toNat ∧ t.colDepth = d.val ∧ t.on Fld.COL_STATUS_JOINED = true ∧
      t.on Fld.COL_STATUS_PARENT_LOST = false ∧ ∀ w, x.worker = some w → t.get Fld.COL_STATUS_WORKER_NO = w.val) ∧
    Leads (.joinAck x false i path d) s (fun t => t.on Fld.COL_STATUS_JOINED = s.on Fld.COL_STATUS_JOINED ∧
      t.col.reqs = s.col.reqs.filter (fun r => r.txn != x.txn))) ∧
  (∀ (s : State) (x : ColHdr) (h : ColHealth) (i : Nat) (m : ColMember), s.coreRuns = true → x.crcOk = true → s.colDuty = true →
    s.colFrom x = some (i, m) → kget s.col.members i = some m →
    Leads (.colonyHealth x h) s (fun t => .colony (some i) 0 x.txn .ack ∈ t.out ∧ ∃ e, kget t.col.members i = some e ∧
      e.lost = false ∧ e.paired = (h.paired0 && h.paired1) ∧ e.freePersistent = h.freePersistent ∧ e.freeVolatile = h.freeVolatile ∧
      e.freeKeys = h.freeKeys ∧ e.path = m.path ∧ e.depth = m.depth ∧ e.workerNo = m.workerNo ∧ e.svc0 = m.svc0)) ∧
  (∀ (s : State) (x : ColHdr) (q : ColReq), s.coreRuns = true → x.crcOk = true → s.col.reqs.find? (fun r => r.txn = x.txn) = some q →
    (∀ c result, q.why = .report (some c) result →
      Completes (.colonyAck x) s c result (fun v => v.col.reqs = s.col.reqs.filter (fun r => r.txn != x.txn))) ∧
    ((∀ c result, q.why ≠ .report (some c) result) →
      Leads (.colonyAck x) s (fun t => t.col.reqs = s.col.reqs.filter (fun r => r.txn != x.txn) ∧ t.net = s.net))) ∧
  (∀ (s : State) (n : Nat) (q : ColReq), s.coreRuns = true → s.col.reqs.find? (fun r => r.txn = n) = some q →
    (q.sends < 3 → Leads (.colonyResendTimeout n) s (fun t => t.col.reqs.find? (fun r => r.txn = n) = some { q with sends := q.sends + 1 } ∧
      .colony q.peer (if s.on Fld.COL_CTRL_LANE1_EN then q.sends % 2 else 0) n q.msg ∈ t.out)) ∧
    (3 ≤ q.sends → (∀ r cap up tried, q.why ≠ .create r cap up tried) → Leads (.colonyResendTimeout n) s (fun t =>
      ((∃ cap result, q.why = .report cap result) → t.col.reqs.find? (fun r => r.txn = n) = some { q with sends := 1 }) ∧
      ((∀ cap result, q.why ≠ .report cap result) → t.col.reqs = s.col.reqs.filter (fun r => r.txn != n)) ∧
      (q.peer = none → t.on Fld.COL_STATUS_PARENT_LOST = true))) ∧
    (3 ≤ q.sends → ∀ r cap up tried, q.why = .create r cap up tried → Through (.colonyResendTimeout n) s
      (fun v => (v.createAt r cap up tried).settle) (fun v => v.col.reqs = s.col.reqs.filter (fun r => r.txn != n)))) ∧
  (∀ (s : State), s.coreRuns = true → s.colSpeaks = true → s.colTop = false →
    (s.on Fld.COL_STATUS_JOINED = true → Leads .colonyHealthTimer s (fun t => ∃ m, t.col.reqs = s.col.reqs ++
      [{ txn := s.col.txn, peer := none, msg := .health m, why := .health }] ∧ m.paired0 = s.paired 0 ∧ m.paired1 = s.paired 1)) ∧
    (s.on Fld.COL_STATUS_JOINED = false → (∀ r ∈ s.col.reqs, r.why ≠ .join) → Leads .colonyHealthTimer s (fun t => ∃ j,
      t.col.reqs = s.col.reqs ++ [{ txn := s.col.txn, peer := none, msg := .join j, why := .join }] ∧ j.cred.toNat = s.col.cred % 2 ^ 64))) ∧
  (∀ (s : State) (i : Fin 64) (m : ColMember), s.coreRuns = true → kget s.col.members i.val = some m →
    (m.lost = true → exec (.memberLostTimeout i) s = .next s) ∧
    (m.lost = false → (∀ r ∈ s.col.reqs, r.peer ≠ some i.val) → Through (.memberLostTimeout i) s State.settle (fun v =>
      kget v.col.members i.val = some { m with lost := true } ∧ v.col.reqs = s.col.reqs)))

/-- A member that is a worker creates the region asked for in the home set with more room and answers with the region's key and
the service address; it answers with a refusal where it cannot. A lower manager passes a creation on. The answer to a
creation is entered in the directory, the host gets REDIRECT, and the capsule completes with the key. The top manager grants
free key blocks, the lowest first, and notes who holds them; a member holds the blocks it is granted. A key report enters
issued keys in the directory and removes revoked ones. PD_SYNC sets the PDs it lists, and no others. (R410, R411, R412, R413,
R415) -/
def Obligations.ColonyRequestsAreServed : Prop :=
  (∀ (s : State) (x : ColHdr) (r : ColCreate) (u : State), s.coreRuns = true → x.crcOk = true → s.colSpeaks = true → s.colTop = false →
    u = s.wake 3 →
    (u.colDuty = false ∨ u.colWorker = true → ∀ h, u.roomyHome = some h →
      (∀ v i, u.makeRegion h r = some (v, i) → Leads (.create x r) s (fun t => t.prot = v.prot ∧
        .colony none 0 x.txn (.createAck (some (keyValue i (((v.key i).map (·.tag)).getD 0), h, v.svcAddress h))) ∈ t.out)) ∧
      (u.makeRegion h r = none → Leads (.create x r) s (fun t => t.prot = s.prot ∧ .colony none 0 x.txn (.createAck none) ∈ t.out))) ∧
    (u.colDuty = true → u.colWorker = false → ∀ i, u.chooseMember r [] = some i → Leads (.create x r) s (fun t => t.prot = s.prot ∧
      t.col.reqs = s.col.reqs ++ [{ txn := s.col.txn, peer := some i, msg := .create r, why := .create r none x.txn [i] }]))) ∧
  (∀ (s : State) (x : ColHdr) (i : Nat) (m : ColMember) (q : ColReq) (r : ColCreate) (cap : Option CapRef) (up : Nat) (tried : List Nat),
    s.coreRuns = true → x.crcOk = true → s.colDuty = true → s.colFrom x = some (i, m) →
    s.col.reqs.find? (fun y => y.txn = x.txn) = some q → q.why = .create r cap up tried →
    (∀ key home ip,
      (∀ c, cap = some c → Completes (.createAck x (some (key, home, ip))) s c key.toNat (fun v => ∃ w : State,
        v = w.redirect c.qpn key.toNat ip ∧ w.col.reqs = s.col.reqs.filter (fun y => y.txn != x.txn) ∧
        kget w.col.keys (keyIndex key) = some { path := m.path, depth := m.depth, home := home.val, ip := ip })) ∧
      (cap = none → Leads (.createAck x (some (key, home, ip))) s (fun t =>
        kget t.col.keys (keyIndex key) = some { path := m.path, depth := m.depth, home := home.val, ip := ip } ∧
        .colony none 0 up (.createAck (some (key, home.val, ip))) ∈ t.out))) ∧
    Through (.createAck x none) s (fun v => (v.createAt r cap up tried).settle)
      (fun v => v.col.reqs = s.col.reqs.filter (fun y => y.txn != x.txn))) ∧
  (∀ (s : State) (x : ColHdr) (n i : Nat) (m : ColMember), s.coreRuns = true → x.crcOk = true → s.colDuty = true → s.colFrom x = some (i, m) →
    (s.colTop = true → Leads (.blockReq x n) s (fun t => ∃ bs : List Nat, .colony (some i) 0 x.txn (.blockGrant bs) ∈ t.out ∧ bs.length ≤ n ∧
      (∀ b ∈ bs, b < 1024 ∧ kget s.col.blocks b = none ∧ b ∉ s.col.own ∧ kget t.col.blocks b = some (m.path, m.depth)) ∧
      ∀ b c, b ∈ bs → c < b → c ∉ bs → kget s.col.blocks c ≠ none ∨ c ∈ s.col.own)) ∧
    (s.colTop = false → Leads (.blockReq x n) s (fun t => t.col.blocks = s.col.blocks ∧ t.col.reqs = s.col.reqs ++
      [{ txn := s.col.txn, peer := none, msg := .blockReq n, why := .blocks (some (i, x.txn)) }]))) ∧
  (∀ (s : State) (x : ColHdr) (bs : List (Fin 1024)) (q : ColReq), s.coreRuns = true → x.crcOk = true → s.colSpeaks = true →
    s.colTop = false → s.col.reqs.find? (fun y => y.txn = x.txn) = some q →
    (q.why = .blocks none → Leads (.blockGrant x bs) s (fun t => (∀ b, b ∈ t.col.own ↔ b ∈ s.col.own ∨ ∃ c ∈ bs, b = c.val) ∧
      t.col.reqs = s.col.reqs.filter (fun y => y.txn != x.txn))) ∧
    (∀ i up m, q.why = .blocks (some (i, up)) → kget s.col.members i = some m → Leads (.blockGrant x bs) s (fun t =>
      (∀ b ∈ bs, kget t.col.blocks b.val = some (m.path, m.depth)) ∧ .colony (some i) 0 up (.blockGrant (bs.map (·.val))) ∈ t.out))) ∧
  (∀ (s : State) (x : ColHdr) (ks : List (Nat × Bool)) (ds : List Nat) (i : Nat) (m : ColMember), s.coreRuns = true → x.crcOk = true →
    s.colDuty = true → s.colFrom x = some (i, m) → Leads (.keyReport x ks ds) s (fun t => .colony (some i) 0 x.txn .ack ∈ t.out ∧
      (∀ k, (k, true) ∈ ks → (k, false) ∉ ks → kget t.col.keys k = some { path := m.path, depth := m.depth, home := 0, ip := m.svc0 }) ∧
      (∀ k, (k, false) ∈ ks → (k, true) ∉ ks → kget t.col.keys k = none) ∧
      ∀ k, (k, true) ∉ ks → (k, false) ∉ ks → kget t.col.keys k = kget s.col.keys k)) ∧
  (∀ (s : State) (x : ColHdr) (es : List (Fin 65536 × Bool × Bool × Fin 256 × BitVec 64)), s.coreRuns = true → x.crcOk = true →
    s.colSpeaks = true → s.colTop = false → (es.map (·.1)).Nodup → Leads (.pdSync x es) s (fun t => .colony none 0 x.txn .ack ∈ t.out ∧
      (∀ e ∈ es, (t.pd e.1.val).en = e.2.1 ∧ (t.pd e.1.val).admin = e.2.2.1 ∧ (t.pd e.1.val).tenant = e.2.2.2.1.val ∧
        (t.pd e.1.val).cred = e.2.2.2.2.toNat) ∧
      (∀ n, (∀ e ∈ es, e.1.val ≠ n) → t.pd n = s.pd n) ∧ t.prot.keys = s.prot.keys ∧ t.prot.regions = s.prot.regions))

/-- Loss of VAON drives every RAILEN low and clears every register, and keeps flash, fuses and the Amber area. With VAON the
straps are taken, the power cycle is counted and the stored table is loaded, or its absence shows. A sequence starts only
where nothing holds it back, with the budget at 0. A phase that begins turns its rails on; under RULE SENSE without a sense
input a rail qualifies at once. A rail whose rule holds is qualified; one that restarts 16 times fails, as does one whose
timeout passes, except that RULE TIME qualifies by the timeout. A failed rail is turned off unless KEEP_ON is set. The phase
is complete when no rail of it still qualifies, and after the last one the boot ROM runs. (R425, R426, R427, R428, R429,
R436, R441, R466, R542, R600, R606, 13_power_supervision.md) -/
def Obligations.RailsComeUpInPhases : Prop :=
  (∀ (s : State), Leads .vaonLoss s (fun t => t.regs = [] ∧ (∀ n, (t.rail n).on = false ∧ ((s.rail n).on = true → n < 24 → .railEn n false ∈ t.out)) ∧
    t.tier.t1 = [] ∧ t.tier.frames = [] ∧ t.sealing.slots = [] ∧ t.net.qps = [] ∧ t.flash.t2 = s.flash.t2 ∧ t.boot.cf = s.boot.cf ∧
    t.sealing.root = s.sealing.root ∧ t.dbg.key = s.dbg.key ∧ t.boot.floor = s.boot.floor ∧ t.amb.area = s.amb.area ∧ t.pw.table = s.pw.table)) ∧
  (∀ (s : State) (side : Bool) (m : BitVec 3), Leads (.vaonApplied side m) s (fun t => t.mbus.madr = m ∧ t.mbus.sideA = side ∧
    t.amb.pcycle = min (s.amb.stPcycle + 1) 0xFFFFFF ∧ s.amb.stHours ≤ t.amb.hours ∧ (∀ n, (t.rail n).on = false) ∧ t.sealing.slots = [] ∧
    (s.pw.table = none → t.on Fld.PWS_SEQCTL_STORED = false ∧ t.regBit Reg.PWS_EVT 0 = true ∧ t.on Fld.TWN_STATUS_SIDE_A = side ∧
      t.on Fld.PWS_STATUS_INCOMPLETE = !s.pw.lost.isEmpty) ∧
    (∀ tb, s.pw.table = some tb → t.on Fld.PWS_SEQCTL_STORED = true ∧ ((tb.map (·.1)).Nodup → ∀ e ∈ tb, e.1 ≠ Reg.PWS_SEQCTL → t.reg e.1 = e.2)))) ∧
  (∀ (s : State),
    (s.mayStart = true → Through .powerOn s (fun v => v.beginPhase 0) (fun v => v.get Fld.PWS_STATUS_SEQ = 1 ∧ v.reg Reg.PWS_RAILQ = 0 ∧
      v.reg Reg.PWS_RAILSTAT = 0 ∧ v.reg Reg.PWS_BUDGET = 0 ∧ v.pw.huCold = true ∧ v.amb.pcycle = min (s.amb.pcycle + 1) 0xFFFFFF)) ∧
    (s.mayStart = false → exec .powerOn s = .next s) ∧
    (s.on Fld.PWS_SEQCTL_STORED = true → s.on Fld.PWS_SEQCTL_AUTO_ON = true → s.pw.afterShut = false → s.get Fld.PWS_STATUS_SEQ = 0 →
      s.pw.tripped = false → s.pw.shut = none → Through .xaonSettled s (fun v => v.beginPhase 0) (fun v => v.get Fld.PWS_STATUS_SEQ = 1 ∧
        v.pw.xaon = true ∧ v.reg Reg.PWS_BUDGET = 0 ∧ v.pw.huCold = true)) ∧
    (s.on Fld.PWS_SEQCTL_AUTO_ON = false → Leads .xaonSettled s (fun t => t.pw.xaon = true ∧ t.regs = s.regs ∧ t.pw.rails = s.pw.rails)) ∧
    (s.get Fld.PWS_STATUS_SEQ = 1 → s.pw.phaseRuns = false → exec .phaseBegin s = .next (s.beginPhase (s.get Fld.PWS_STATUS_PHASE + 1))) ∧
    (s.get Fld.PWS_STATUS_SEQ ≠ 1 ∨ s.pw.phaseRuns = true → exec .phaseBegin s = .next s)) ∧
  (∀ (s : State) (k : Nat), k < 8 → (∃ n ∈ s.phaseRails k, ¬(s.ruleOf n = 1 ∧ s.sensed n = false)) → ∃ t : State, s.beginPhase k = t ∧
    t.get Fld.PWS_STATUS_PHASE = k ∧ t.pw.phaseRuns = true ∧ (∀ n, n < 24 → n ∉ s.phaseRails k → t.rail n = s.rail n) ∧
    ∀ n ∈ s.phaseRails k, (t.rail n).on = true ∧ (t.rail n).restarts = 0 ∧
      (t.rail n).st = (if s.ruleOf n = 1 ∧ s.sensed n = false then .qualified else .qualifying)) ∧
  (∀ (s : State), s.pw.phaseRuns = true →
    ((∃ n ∈ s.phaseRails (s.get Fld.PWS_STATUS_PHASE), (s.rail n).st = .qualifying) → s.phaseCheck = s) ∧
    ((∀ n ∈ s.phaseRails (s.get Fld.PWS_STATUS_PHASE), (s.rail n).st ≠ .qualifying) →
      (s.get Fld.PWS_STATUS_PHASE < s.get Fld.PWS_SEQCTL_LAST_PHASE → s.phaseCheck = { s with pw := { s.pw with phaseRuns := false } }) ∧
      (s.get Fld.PWS_SEQCTL_LAST_PHASE ≤ s.get Fld.PWS_STATUS_PHASE → ∃ v : State, s.phaseCheck = v.bootRom ∧
        v.get Fld.PWS_STATUS_SEQ = 2 ∧ v.pw.phaseRuns = false ∧ v.regBit Reg.PWS_EVT 0 = true))) ∧
  (∀ (s : State) (r : Fin 24), (s.rail r.val).st = .qualifying → s.ruleOf r.val ≠ 2 →
    Through (.railTqualMet r) s State.phaseCheck (fun v => (v.rail r.val).st = .qualified ∧ v.regBit Reg.PWS_RAILQ r.val = true ∧
      (s.ruleOf r.val = 0 → v.regBit Reg.PWS_RAILPG r.val = true) ∧ ∀ n, n < 24 → n ≠ r.val → v.rail n = s.rail n) ∧
    ((s.rail r.val).restarts < 15 → Leads (.qualificationRestart r) s (fun t => (t.rail r.val).st = .qualifying ∧
      (t.rail r.val).restarts = (s.rail r.val).restarts + 1 ∧ (t.reg Reg.PWS_QUAL_RESTART).toNat = s.plusOne Reg.PWS_QUAL_RESTART)) ∧
    (15 ≤ (s.rail r.val).restarts → Through (.qualificationRestart r) s State.phaseCheck (fun v => (v.rail r.val).st = .failed ∧
      v.regBit Reg.PWS_RAILSTAT r.val = true ∧ (s.on (Fld.PWS_RAIL_KEEP_ON r.val) = false → (v.rail r.val).on = false)))) ∧
  (∀ (s : State) (r : Fin 24), (s.rail r.val).st ≠ .qualifying ∨ s.ruleOf r.val = 2 →
    exec (.railTqualMet r) s = .next s ∧ exec (.qualificationRestart r) s = .next s) ∧
  (∀ (s : State), (s.pw.phaseRuns = true → Through .railPhaseTimeout s State.phaseCheck (fun v =>
      ∀ n ∈ s.phaseRails (s.get Fld.PWS_STATUS_PHASE), (s.rail n).st = .qualifying →
        (s.ruleOf n = 2 → (v.rail n).st = .qualified ∧ v.regBit Reg.PWS_RAILQ n = true) ∧
        (s.ruleOf n ≠ 2 → (v.rail n).st = .failed ∧ v.regBit Reg.PWS_RAILSTAT n = true ∧
          (s.on (Fld.PWS_RAIL_KEEP_ON n) = false → (v.rail n).on = false)))) ∧
    (s.pw.phaseRuns = false → s.get Fld.PWS_STATUS_SEQ = 1 → exec .railPhaseTimeout s = .next s)) ∧
  (∀ (s : State) (r : Fin 24),
    ((s.rail r.val).st = .qualified → Leads (.pgGlitch r) s (fun t => t.pw = s.pw ∧ (t.reg Reg.PWS_PG_GLITCH).toNat = s.plusOne Reg.PWS_PG_GLITCH)) ∧
    ((s.rail r.val).st ≠ .qualified → exec (.pgGlitch r) s = .next s))

/-- A shutdown from service stops both home sets, with its cause in LAST_CAUSE. PFW_N low is a trigger: it is counted, and starts
the timed shutdown; while another shutdown runs it is counted only. A RAILPG that drops faults a qualified rail: a rail with
FAULT_ACT in group 0 is isolated, in groups 5 and 6 its flash channels are retired, any other fault is a trigger, and so is a
sense input out of window with ACT 1; ACT 2 only shows. T0, T1, journal and Amber steps of Quench follow each other; the
cut-off of a timed shutdown skips what remains of the first two. Rails go off phase by phase, at the deadline at once.
Afterwards the chip is off, or in P3. Buttons and ORDERLY_OFF do nothing while a shutdown runs. (R425, R429, R431, R432,
R434, R435, R436, R442, R443, R445, 13_power_supervision.md) -/
def Obligations.ShutdownsFollowTheirSteps : Prop :=
  (∀ (s : State) (cause : Nat) (timed : Bool), cause ≤ 7 → s.get Fld.PWS_STATUS_SEQ = 2 → s.pw.inRestore = false →
    s.on Fld.DBG_STATUS_FROZEN = false → ∃ t : State, s.shutdown cause timed = t ∧ t.get Fld.PWS_STATUS_LAST_CAUSE = cause ∧
      t.get Fld.PWS_STATUS_SEQ = 3 ∧ (∃ x, t.pw.shut = some x ∧ x.cause = cause ∧ x.timed = timed) ∧
      t.accepting 0 = false ∧ t.accepting 1 = false ∧ t.cfg.commit = none ∧ t.pw.hu = none) ∧
  (∀ (s : State) (cause : Nat), cause ≤ 7 →
    (s.pw.shut = none → s.get Fld.PWS_STATUS_SEQ ≠ 0 → ∃ v : State, s.pfTrigger cause = v.shutdown cause true ∧
      (v.reg Reg.PWS_WARNINGS).toNat = s.plusOne Reg.PWS_WARNINGS ∧ v.pw = s.pw ∧ v.net = s.net) ∧
    (∀ x, s.pw.shut = some x → x.cause ≠ 6 → ∃ t : State, s.pfTrigger cause = t ∧ t.pw = s.pw ∧ (t.reg Reg.PWS_WARNINGS).toNat = s.plusOne Reg.PWS_WARNINGS) ∧
    (s.pw.shut = none → s.get Fld.PWS_STATUS_SEQ = 0 → ∃ t : State, s.pfTrigger cause = t ∧ t.pw = s.pw ∧ t.get Fld.PWS_STATUS_SEQ = 0)) ∧
  (∀ (s : State), Through .pfwNAsserted s (fun v => v.pfTrigger 1) (fun v => v = s.put Fld.PWS_STATUS_PFW_IN 1)) ∧
  (∀ (s : State) (n cause : Nat), n < 24 → ∃ v : State, v.pw.shut = s.pw.shut ∧ (v.rail n).st = .faulted ∧ v.regBit Reg.PWS_RAILQ n = false ∧
    v.regBit Reg.PWS_RAILFLT n = true ∧ (∀ m, m < 24 → m ≠ n → v.rail m = s.rail m) ∧
    (s.pw.shut ≠ none → s.railFault n cause = v) ∧
    (s.pw.shut = none → ¬(cause = 2 ∧ s.on (Fld.PWS_RAIL_FAULT_ACT n) = true ∧ s.get (Fld.PWS_RAIL_GROUP n) ∈ [0, 5, 6]) →
      s.railFault n cause = v.pfTrigger cause) ∧
    (s.pw.shut = none → cause = 2 → s.on (Fld.PWS_RAIL_FAULT_ACT n) = true →
      (s.get (Fld.PWS_RAIL_GROUP n) = 0 → s.railFault n cause = v.railEn n false) ∧
      (s.get (Fld.PWS_RAIL_GROUP n) = 5 ∨ s.get (Fld.PWS_RAIL_GROUP n) = 6 → s.railFault n cause = (List.range 32).foldl (fun w c =>
        if (w.get (Fld.PWS_RAIL_MASK n)).testBit (c / 2) then w.retireFch c else w) (v.railEn n false)))) ∧
  (∀ (s : State) (r : Fin 24),
    ((s.rail r.val).st = .qualified → s.ruleOf r.val ≠ 1 →
      Through (.railpgLow r) s (fun v => v.railFault r.val 2) (fun v => v = s.setRegBit Reg.PWS_RAILPG r.val false)) ∧
    ((s.rail r.val).st ≠ .qualified ∨ s.ruleOf r.val = 1 → exec (.railpgLow r) s = .next s)) ∧
  (∀ (s : State) (i : Fin 8) (code : BitVec 12),
    (s.get (Fld.PWS_VSCFG_LOW i.val) ≤ code.toNat → code.toNat ≤ s.get (Fld.PWS_VSCFG_HIGH i.val) → exec (.vsenseOutOfWindow i code) s = .next s) ∧
    (s.get (Fld.PWS_VSCTL_ACT i.val) = 0 ∨ s.get (Fld.PWS_VSCTL_ACT i.val) = 3 → exec (.vsenseOutOfWindow i code) s = .next s) ∧
    (code.toNat < s.get (Fld.PWS_VSCFG_LOW i.val) ∨ s.get (Fld.PWS_VSCFG_HIGH i.val) < code.toNat →
      (s.get (Fld.PWS_VSCTL_ACT i.val) = 2 → Leads (.vsenseOutOfWindow i code) s (fun t => t.pw = s.pw ∧
        t.reg (Reg.PWS_VSVAL i.val) = code.setWidth 32 ∧ t.regBit Reg.PWS_EVT 1 = true)) ∧
      (s.get (Fld.PWS_VSCTL_ACT i.val) = 1 → ∀ n, n = s.get (Fld.PWS_VSCTL_RAIL i.val) → n < 24 → (s.rail n).st = .qualified →
        Through (.vsenseOutOfWindow i code) s (fun v => v.railFault n 3) (fun v => v = s.setReg (Reg.PWS_VSVAL i.val) (code.setWidth 32))))) ∧
  (∀ (s : State) (x : Shutdown), s.pw.shut = some x →
    (x.step = .t0 → Leads .quenchStepDone s (fun t => t.pw.shut = some { x with step := .t1 } ∧ (s.coreLost = false →
      ∀ k l, kget t.tier.lines k = some l → l.dirty = true → l.filling = true))) ∧
    (x.step = .t1 → Leads .quenchStepDone s (fun t => t.pw.shut = some { x with step := .journal, bytes := x.bytes + s.dirtyUnits.length * 16384 })) ∧
    (x.step = .journal → Leads .quenchStepDone s (fun t => t.pw.shut.map (·.step) = some .amber)) ∧
    (x.step = .amber → Through .quenchStepDone s (fun v => v.quenchAmber.railsStep (v.get Fld.PWS_SEQCTL_LAST_PHASE))
      (fun v => x.cause ≠ 6 → v = s)) ∧
    (x.step = .rails ∨ x.step = .handing → exec .quenchStepDone s = .next s) ∧
    (x.timed = true → x.step = .handing ∨ x.step = .t0 ∨ x.step = .t1 → Leads .quenchCutoff s (fun t =>
      t.pw.shut = some { x with step := .journal } ∧ (t.home 0).handing = false ∧ (t.home 1).handing = false)) ∧
    (x.timed = false ∨ x.step = .journal ∨ x.step = .amber ∨ x.step = .rails → exec .quenchCutoff s = .next s) ∧
    (x.step = .rails → 1 < s.get Fld.PWS_STATUS_PHASE → Leads .railOffDelay s (fun t =>
      t.get Fld.PWS_STATUS_PHASE + 1 = s.get Fld.PWS_STATUS_PHASE ∧ t.pw.shut = some x ∧
      ∀ n ∈ s.phaseRails (s.get Fld.PWS_STATUS_PHASE - 1), (x.cause = 6 ∧ s.on (Fld.PWS_RAIL_P3_KEEP n) = true → t.rail n = s.rail n) ∧
        (¬(x.cause = 6 ∧ s.on (Fld.PWS_RAIL_P3_KEEP n) = true) → (t.rail n).on = false ∧ (t.rail n).st = .off))) ∧
    (x.step = .rails → s.get Fld.PWS_STATUS_PHASE ≤ 1 → Through .railOffDelay s State.offEnd (fun v => v.pw.shut = some x ∧
      (x.cause ≠ 6 → ∀ n ∈ s.phaseRails 0, (v.rail n).on = false ∧ (v.rail n).st = .off))) ∧
    (x.step ≠ .rails → exec .railOffDelay s = .next s) ∧
    (x.timed = true → Through .shutdownDeadline s State.offEnd (fun v => v.pw.shut = some x ∧ (∀ n, n < 24 → (v.rail n).on = false) ∧
      (x.step ≠ .rails → rangesOf s.dirtyUnits ≠ [] → v.on Fld.PWS_STATUS_INCOMPLETE = true))) ∧
    (x.timed = false → exec .shutdownDeadline s = .next s) ∧
    (x.cause ≠ 6 → (∃ t : State, s.offEnd = t ∧ t.get Fld.PWS_STATUS_SEQ = 0 ∧ t.pw.shut = none ∧ t.pw.afterShut = true ∧ t.pw.huCold = true ∧
        t.net.qps = [] ∧ t.tier.frames = [] ∧ t.flash.t2 = s.flash.t2) ∧
      exec .orderlyOff s = .next s ∧ exec .pwrbtnShort s = .next s ∧ exec .pwrbtnLong s = .next s) ∧
    (x.cause = 6 → ∃ t : State, s.offEnd = t ∧ t.get Fld.PWS_STATUS_SEQ = 4 ∧ t.pw.shut = none ∧ t.sealing.slots = [] ∧ t.flash.t2 = s.flash.t2)) ∧
  (∀ (s : State), s.pw.shut = none → exec .quenchStepDone s = .next s ∧ exec .quenchCutoff s = .next s ∧ exec .railOffDelay s = .next s ∧
    exec .shutdownDeadline s = .next s) ∧
  (∀ (s : State),
    (s.pw.afterShut = true → s.on Fld.PWS_SEQCTL_RESTART = true → s.mayStart = true → Through .pfwRestartTimer s (fun v => v.beginPhase 0) (fun v =>
      v.on Fld.PWS_STATUS_PFW_IN = false ∧ v.get Fld.PWS_STATUS_SEQ = 1 ∧ v.pw.huCold = true)) ∧
    (s.pw.afterShut = false ∨ s.on Fld.PWS_SEQCTL_RESTART = false → exec .pfwRestartTimer s = .next (s.put Fld.PWS_STATUS_PFW_IN 0))) ∧
  (∀ (s : State), s.pw.shut = none → s.still = false → s.get Fld.PWS_STATUS_SEQ ≠ 0 →
    exec .orderlyOff s = .next (s.shutdown 5 false) ∧
    Through .pwrbtnLong s (fun v => v.shutdown 4 true) (fun v => v.regBit Reg.PWS_EVT 4 = true ∧ v.pw = s.pw ∧ v.get Fld.PWS_STATUS_SEQ = s.get Fld.PWS_STATUS_SEQ) ∧
    (s.get Fld.PWS_STATUS_SEQ ≠ 4 → s.on Fld.PWS_BTN_SHORT_ACT = true →
      Through .pwrbtnShort s (fun v => v.shutdown 5 false) (fun v => v.regBit Reg.PWS_EVT 4 = true ∧ v.pw = s.pw)) ∧
    (s.get Fld.PWS_STATUS_SEQ ≠ 4 → s.on Fld.PWS_BTN_SHORT_ACT = false → Leads .pwrbtnShort s (fun t => t.regBit Reg.PWS_EVT 4 = true ∧ t.pw = s.pw)) ∧
    (s.get Fld.PWS_STATUS_SEQ = 4 → Through .pwrbtnShort s (fun v => v.wakeP3 8) (fun v => v.regBit Reg.PWS_EVT 4 = true ∧ v.pw = s.pw))) ∧
  (∀ (s : State), s.on Fld.DBG_STATUS_FROZEN = false → s.mayStart = true →
    Through .pwrbtnShort s (fun v => v.beginPhase 0) (fun v => v.get Fld.PWS_STATUS_SEQ = 1 ∧ v.regBit Reg.PWS_EVT 4 = true))

/-- A commit of nothing is done at once, one that cannot be taken now sets CMT_REFUSED and keeps the set, one before start-up
step 10 takes effect at once and is stored, and any other is accepted for epoch n, two or four after the present one. DISCARD
empties the set. An epoch boundary opens the next epoch of the home set it is for, and of no other. A roll begins at the
boundary that opens n: from then on the slices that have not switched see the old values of slice registers. It is drained
when every transaction and page of the old values is done, and then, once the standby has its joint values or the home set is
solo, the set is stored and the commit is complete. (R563, R564, R565, R566, R567, R568, R572, R584, R35, R370, R388) -/
def Obligations.CommitsRollAtBoundaries : Prop :=
  (∀ (s : State) (p : Path), s.coreRuns = true →
    (s.cfg.staged = [] → exec (.glbCommit p) s = .next (s.commitReport 2 (viaOf p))) ∧
    (s.cfg.staged ≠ [] → s.commitBusy = true → exec (.glbCommit p) s = .next (s.put Fld.GLB_STATUS_CMT_REFUSED 1)) ∧
    (s.cfg.staged ≠ [] → s.commitBusy = false → s.get Fld.CFL_BOOTINFO_STEP < 10 → Through (.glbCommit p) s State.startup (fun v =>
      v.cfg.staged = [] ∧ v.boot.configured = true ∧ v.get Fld.GLB_CMTSTAT_LAST = 2 ∧
      v.boot.stored = some (s.cfg.staged.foldl stagePut (s.boot.stored.getD [])))) ∧
    (s.cfg.staged ≠ [] → s.commitBusy = false → 10 ≤ s.get Fld.CFL_BOOTINFO_STEP → Leads (.glbCommit p) s (fun t => t.cfg.staged = [] ∧
      t.on Fld.GLB_STATUS_COMMITTING = true ∧ t.get Fld.GLB_CMTSTAT_LAST = 1 ∧ t.get Fld.GLB_CMTSTAT_VIA = (if p = .twoWire then 1 else 0) ∧
      ∃ c, t.cfg.commit = some c ∧ c.set = s.cfg.staged ∧ c.begun = false ∧ c.home = s.commitHome ∧
        c.n = s.epoch s.commitHome + (if s.cfg.staged.any (fun x => jointReg x.addr) then 4 else 2) ∧
        t.reg64 Reg.GLB_CMTEPOCH_LO Reg.GLB_CMTEPOCH_HI = c.n % 2 ^ 64))) ∧
  (∀ (s : State) (p : Path), Leads (.glbDiscard p) s (fun t => t.cfg.staged = [] ∧ t.cfg.commit = s.cfg.commit ∧
    t.get Fld.GLB_CMTSTAT_LAST = 3 ∧ t.boot = s.boot)) ∧
  (∀ (s : State) (h : Fin 2),
    (s.still = true → exec (.epochBoundary h) s = .next s) ∧
    (s.still = false →
      (s.active h.val = true ∨ s.role h.val = 0 → Through (.epochBoundary h) s (fun v => (v.steerNow.jointBoundary h.val).commitBoundary h.val)
        (fun v => v.epoch h.val = s.epoch h.val + 1 ∧ v.epoch (1 - h.val) = s.epoch (1 - h.val))) ∧
      (s.role h.val = 2 ∨ s.role h.val = 3 → Through (.epochBoundary h) s (fun v => (v.steerNow.jointBoundary h.val).commitBoundary h.val)
        (fun v => v.epoch h.val = s.epoch h.val ∧ v.cfg = s.cfg)))) ∧
  (∀ (s : State) (h : Nat) (c : Commit), s.cfg.commit = some c →
    (c.home ≠ h ∨ s.get Fld.GOV_STATUS_PSTATE ≠ 0 → s.commitBoundary h = s) ∧
    (c.home = h → s.get Fld.GOV_STATUS_PSTATE = 0 → c.begun = false → c.n ≤ s.epoch h → ∃ v : State, s.commitBoundary h = v.commitCheck ∧
      v.on Fld.GLB_STATUS_MIXED = c.set.any (fun x => (switchOf x.addr).2) ∧
      (∀ x ∈ c.set, (switchOf x.addr).2 = true → channelReg x.addr = false →
        ∀ k, 0 < k → v.sliceReg k x.addr = s.reg x.addr) ∧
      ∃ d, v.cfg.commit = some d ∧ d.begun = true ∧ d.switched = 0 ∧ d.set = c.set ∧ d.n = c.n ∧ d.joint = c.joint ∧ d.via = c.via) ∧
    (c.home = h → s.get Fld.GOV_STATUS_PSTATE = 0 → c.begun = false → s.epoch h < c.n → s.commitBoundary h = s) ∧
    (c.home = h → s.get Fld.GOV_STATUS_PSTATE = 0 → c.begun = true → c.switched < 15 → ∃ v : State, s.commitBoundary h = v.commitCheck ∧
      ∃ d, v.cfg.commit = some d ∧ d.switched = c.switched + 1 ∧ d.old = c.old ∧ d.drained = c.drained)) ∧
  (∀ (s : State) (c : Commit), s.cfg.commit = some c →
    (c.begun = true → c.drained = true → c.joint = false ∨ c.delta = true ∨ s.mirrors c.home = false →
      (∀ q k n, c.via ≠ .capsule q k n) → ∃ t : State, s.commitCheck = t ∧ t.cfg.commit = none ∧ t.on Fld.GLB_STATUS_COMMITTING = false ∧
        t.get Fld.GLB_CMTSTAT_LAST = 2 ∧ t.boot.stored = some (c.set.foldl stagePut (s.boot.stored.getD []))) ∧
    (c.begun = true → c.drained = true → c.joint = false ∨ c.delta = true ∨ s.mirrors c.home = false →
      ∀ q k n, c.via = .capsule q k n → ∃ v : State, s.commitCheck = (v.okCap ⟨q, k, n⟩ c.n).settle ∧ v.cfg.commit = none ∧
        v.boot.stored = some (c.set.foldl stagePut (s.boot.stored.getD []))) ∧
    (c.begun = false ∨ c.drained = false ∨ (c.joint = true ∧ c.delta = false ∧ s.mirrors c.home = true) → s.commitCheck = s) ∧
    (s.coreRuns = true → c.begun = true → c.drained = false → c.last ≤ c.switched → s.rollEmpty c = true →
      Through .rollDrained s (fun v => v.deferredHandovers.commitCheck) (fun v => v.on Fld.GLB_STATUS_MIXED = false ∧
        v.cfg.commit = some { c with drained := true })) ∧
    (s.coreRuns = true → c.begun = true → s.rollEmpty c = false → c.drained = false → exec .rollDrained s = .next s)) ∧
  (∀ (s : State), s.cfg.commit = none → exec .rollDrained s = .next s)

/-- A write of a register, by any path, that is to be staged puts its value into the one staged set: afterwards the set holds for
that address (and, for an indexed register, that selector) the value of this write alone, and every other staged value as
before, whatever paths wrote them. A commit, by any path, takes the whole set: before start-up step 10 every value of the set
takes effect at once, and from then on the accepted commit holds exactly the staged set. (R582) -/
def Obligations.StagedSetIsShared : Prop :=
  (∀ (s : State) (p : Path) (a : BitVec 24) (v : BitVec 32) (d : RegDef), s.stages p a.toNat v d →
    Leads (.registerWrite p a v) s (fun t => ∃ x : Staged, x.addr = a.toNat ∧ x.val = d.limit v &&& word32 (d.rw ||| d.rwl ||| d.wo) ∧
      (∀ r, selectorOf a.toNat = some r → x.sel = (s.reg r).toNat) ∧ x ∈ t.cfg.staged ∧
      (∀ y ∈ t.cfg.staged, y.addr = x.addr → y.sel = x.sel → y = x) ∧
      (∀ y : Staged, ¬(y.addr = x.addr ∧ y.sel = x.sel) → (y ∈ t.cfg.staged ↔ y ∈ s.cfg.staged)))) ∧
  (∀ (s : State) (p : Path), s.coreRuns = true → s.cfg.staged ≠ [] → s.commitBusy = false →
    (10 ≤ s.get Fld.CFL_BOOTINFO_STEP → Leads (.glbCommit p) s (fun t => t.cfg.staged = [] ∧ t.cfg.commit.map (·.set) = some s.cfg.staged)) ∧
    (s.get Fld.CFL_BOOTINFO_STEP < 10 → ∃ u v : State, u.cfg.staged = [] ∧ u.regs = s.regs ∧ v = u.applyAll s.cfg.staged ∧
      Through (.glbCommit p) s State.startup (fun w => w.cfg.staged = [] ∧ w.prot = v.prot ∧ w.tier = v.tier ∧
        ∀ a, a ∉ [Reg.GLB_CMTSTAT, Reg.GLB_CMTEPOCH_LO, Reg.GLB_CMTEPOCH_HI] → w.reg a = v.reg a)))

/-- MR_N low, in service, releases the tokens, drops every connection, keeps T1, T2, the key slots and the pinned registers, and
holds the chip; its release samples SIDE_A, counts the reset and runs the boot ROM. A fatal fault and GLB_RSTCTL do the same
at once with their causes. GLB_RSTCTL with HANDOVER hands over first, is refused where a home set cannot be handed over, and
with no active home set resets at once. None of them acts while a shutdown runs, under FREEZE or outside service. (R444,
R445, R510, R513, R514, R592, R357, R360, R589) -/
def Obligations.ResetsAndHandOversAct : Prop :=
  (∀ (s : State) (cause : Nat) (hold : Bool), ∃ t : State, s.warmDown cause hold = t ∧ t.pw.mrLow = hold ∧ t.pw.resetCause = cause ∧
    t.acts 0 = false ∧ t.acts 1 = false ∧ t.net.qps = [] ∧ t.cqi.queues = [] ∧ t.cfg.commit = none ∧ t.flash.t2 = s.flash.t2 ∧
    t.flash.map = s.flash.map ∧ t.sealing.slots = s.sealing.slots ∧ t.boot.cf = s.boot.cf ∧ (s.pw.hu = none → t.pw.rails = s.pw.rails) ∧ t.tier.lines = [] ∧
    (s.on Fld.DBG_STATUS_FROZEN = true → t.tier.t1 = s.tier.t1) ∧
    (s.get Fld.CFL_BOOTINFO_STEP ≠ 9 → ∀ a ∈ [Reg.GLB_WINSEL, Reg.GOV_PCAP, Reg.GOV_WAKE_TMR, Reg.GLB_RSTCOUNT], t.reg a = s.reg a)) ∧
  (∀ (s : State), ∃ v : State, s.warmUp = v.bootRom ∧ v.pw.mrLow = false ∧ v.on Fld.TWN_STATUS_SIDE_A = s.mbus.sideA ∧
    (v.reg Reg.GLB_RSTCOUNT).toNat = min ((s.reg Reg.GLB_RSTCOUNT).toNat + 1) 0xFFFF ∧ v.regBit Reg.PWS_EVT 5 = true) ∧
  (∀ (s : State),
    (s.pw.shut = none → s.get Fld.PWS_STATUS_SEQ = 2 → s.pw.mrLow = false → exec .mrNAsserted s = .next (s.warmDown 2 true)) ∧
    (s.pw.shut ≠ none ∨ s.get Fld.PWS_STATUS_SEQ ≠ 2 ∨ s.pw.mrLow = true → exec .mrNAsserted s = .next s) ∧
    (s.pw.mrLow = true → ∀ b, Through (.mrNReleased b) s State.warmUp (fun v => v = { s with mbus := { s.mbus with sideA := b } })) ∧
    (s.pw.mrLow = false → ∀ b, exec (.mrNReleased b) s = .next s)) ∧
  (∀ (s : State), s.pw.shut = none → s.still = false → s.get Fld.PWS_STATUS_SEQ = 2 →
    exec (.supervisorFatalFault none) s = .next (s.warmDown 3 false).warmUp ∧
    (∀ a, Through (.supervisorFatalFault (some a)) s (fun v => (v.warmDown 4 false).warmUp) (fun v => v.regBit Reg.CFL_EVT 3 = true ∧
      (v.reg Reg.CFL_UNCORR).toNat = s.plusOne Reg.CFL_UNCORR)) ∧
    exec .warmResetRequest s = .next (s.warmDown 6 false).warmUp ∧
    (s.canHandAll = false → exec .warmResetHandover s = .next (s.put Fld.GLB_STATUS_RST_REFUSED 1)) ∧
    (s.canHandAll = true → s.active 0 = false → s.active 1 = false → (s.home 0).handing = false → (s.home 1).handing = false →
      exec .warmResetHandover s = exec .warmResetRequest s) ∧
    (s.canHandAll = true → (∀ h, h < 2 → (s.home h).handing = false) → ∀ g, g < 2 → s.active g = true → Leads .warmResetHandover s (fun t =>
      (∀ h, h < 2 → s.active h = true → (t.home h).handing = true ∧ (t.home h).handNext = .warmReset ∧ t.accepting h = false) ∧
      (∀ h, h < 2 → s.active h = false → t.home h = s.home h) ∧ t.pw = s.pw))) ∧
  (∀ (s : State), s.pw.shut ≠ none ∨ s.still = true ∨ s.get Fld.PWS_STATUS_SEQ ≠ 2 →
    (∀ a, exec (.supervisorFatalFault a) s = .next s) ∧ exec .warmResetRequest s = .next s ∧ exec .warmResetHandover s = .next s) ∧
  (∀ (s : State), (s.home 0).handing = false → (s.home 1).handing = false → s.pw.shut = none →
    s.afterHandover .warmReset = (s.warmDown 6 false).warmUp ∧
    s.afterHandover .activate = ((s.programSelect 1 s.stagedSlot).warmDown 5 false).warmUp ∧ s.afterHandover .serve = s)

/-- In every state in which the number of enabled rails with GROUP 7 is not one and in which no test is in progress, none of the
commands of the hold-up test (the PWS_CMD, the period, the settling of the module voltage at a cold start, the fit of the
dirty data, the samples, the recovery) starts one or moves a rail, and PWS_HU_E stays at 0 where it is 0. (R440) -/
def Obligations.HoldUpTestNeedsOneRail : Prop :=
  ∀ (s : State), ((List.range 24).filter (fun n => s.on (Fld.PWS_RAIL_EN n) && s.get (Fld.PWS_RAIL_GROUP n) = 7)).length ≠ 1 → s.pw.hu = none →
    ∀ (mv : Nat), ∀ i ∈ [Instr.huTest, .huTestPeriod, .huVoltageStable mv, .huBudgetFits mv, .huSampleTimer mv, .huRecovered mv],
      Leads i s (fun t => t.pw.hu = none ∧ t.pw.rails = s.pw.rails ∧ t.on Fld.PWS_STATUS_HU_TESTING = s.on Fld.PWS_STATUS_HU_TESTING ∧
        (s.reg Reg.PWS_HU_E = 0 → t.reg Reg.PWS_HU_E = 0))

/-- A test starts where exactly one rail can be switched, in service, with no other test or shutdown; PERIOD 0 means no periodic
test, and the first test of a cold start waits for the module voltage to settle. When the dirty data fits, the load is on;
V1, Va and Vb are taken in turn, and with Vb the load is off, ESR is (V0 - V1) / I_T and C is I_T x T_TEST / (Va - Vb). When
the voltage is back within 0.1% of V0, the results show, the test is counted and its budget takes force. Every sample of the
module voltage renews the budget in force, which never lies above that of the test. After the longest wait a cold start goes
on with a budget of 0. (R437, R438, R439, R441) -/
def Obligations.HoldUpTestMeasures : Prop :=
  (∀ (s : State) (n : Nat), s.testRail = some n → s.pw.hu = none → s.pw.shut = none → s.still = false → s.get Fld.PWS_STATUS_SEQ = 2 →
    (s.on Fld.PWS_STATUS_HU_VALID = false ∨ s.pw.huCold = true → Leads .huTest s (fun t => t.pw.hu = some {} ∧ t.on Fld.PWS_STATUS_HU_TESTING = true ∧
      t.pw.huBudget ≤ s.pw.huBudget ∧ t.reg Reg.PWS_BUDGET = s.reg Reg.PWS_BUDGET)) ∧
    (s.on Fld.PWS_STATUS_HU_VALID = true → s.pw.huCold = false → ∃ b, b ≤ (s.reg Reg.PWS_BUDGET).toNat ∧ Through .huTest s (fun v => v.setBudget b)
      (fun v => v.pw.hu = some {} ∧ v.on Fld.PWS_STATUS_HU_TESTING = true)) ∧
    (s.get Fld.PWS_HUCFG_PERIOD ≠ 0 → exec .huTestPeriod s = exec .huTest s) ∧
    (s.pw.huCold = true → ∀ mv, exec (.huVoltageStable mv) s = exec .huTest { s with pw := { s.pw with huNow := mv } })) ∧
  (∀ (s : State),
    (s.pw.hu ≠ none ∨ s.pw.shut ≠ none ∨ s.still = true ∨ s.get Fld.PWS_STATUS_SEQ ≠ 2 → exec .huTest s = .next s) ∧
    (s.get Fld.PWS_HUCFG_PERIOD = 0 → exec .huTestPeriod s = .next s) ∧
    (s.pw.huCold = false → ∀ mv, exec (.huVoltageStable mv) s = .next { s with pw := { s.pw with huNow := mv } })) ∧
  (∀ (s : State) (b : Nat), ∃ v : State, s.setBudget b = (v.placeLate (v.twin.late.length + 1)).settle ∧ v.reg Reg.PWS_BUDGET = BitVec.ofNat 32 b ∧
    v.regBit Reg.TWN_HEALTH 5 = decide (b < 65536) ∧ v.tier = s.tier ∧
    (b < s.get Fld.PWS_HUCFG_LOW_GIB * 1024 → s.get Fld.PWS_HUCFG_LOW_GIB * 1024 ≤ (s.reg Reg.PWS_BUDGET).toNat → v.regBit Reg.PWS_EVT 6 = true)) ∧
  (∀ (s : State), (s.on Fld.PWS_STATUS_HU_VALID = true → s.pw.huCold = false → ∃ (v : State) (b : Nat), s.budgetNow = v.setBudget b ∧
      b ≤ s.pw.huBudget ∧ b ≤ 65536 ∧ v.pw = s.pw) ∧
    (s.on Fld.PWS_STATUS_HU_VALID = false ∨ s.pw.huCold = true → s.budgetNow = s) ∧
    (∀ mv, exec (.enowTimer mv) s = .next ({ s with pw := { s.pw with huNow := mv } } : State).budgetNow)) ∧
  (∀ (s : State) (x : HuTest) (n : Nat), s.pw.hu = some x → s.testRail = some n →
    (x.step = 0 → s.budgetFits 0 = true → ∀ mv, Leads (.huBudgetFits mv) s (fun t => t.pw.hu = some { x with step := 1, v0 := mv } ∧ (t.rail n).on = true)) ∧
    (x.step ≠ 0 ∨ s.budgetFits 0 = false → ∀ mv, exec (.huBudgetFits mv) s = .next s) ∧
    (x.step = 1 → ∀ mv, exec (.huSampleTimer mv) s = .next { s with pw := { s.pw with hu := some { x with step := 2, v1 := mv } } }) ∧
    (x.step = 2 → ∀ mv, exec (.huSampleTimer mv) s = .next { s with pw := { s.pw with hu := some { x with step := 3, va := mv } } }) ∧
    (x.step = 3 → s.get Fld.PWS_HUMOD0_I_T ≠ 0 → ∀ mv, Leads (.huSampleTimer mv) s (fun t => t.pw.hu = some { x with step := 4 } ∧
      (t.rail n).on = false ∧ t.pw.huEsr = (x.v0 - x.v1) * 1000000 / s.get Fld.PWS_HUMOD0_I_T ∧
      t.pw.huC = (s.get Fld.PWS_HUMOD0_I_T * s.get Fld.PWS_HUMOD1_T_TEST, x.va - mv)))) ∧
  (∀ (s : State) (x : HuTest) (mv : Nat), s.pw.hu = some x →
    (x.step = 4 → x.v0 * 999 ≤ mv * 1000 → mv * 1000 ≤ x.v0 * 1001 → Through (.huRecovered mv) s (fun v => v.budgetNow.startup) (fun v =>
      v.pw.hu = none ∧ v.pw.huCold = false ∧ v.on Fld.PWS_STATUS_HU_VALID = true ∧ v.on Fld.PWS_STATUS_HU_TESTING = false ∧ v.pw.huNow = mv ∧
      (v.reg Reg.PWS_HU_TESTS).toNat = s.plusOne Reg.PWS_HU_TESTS ∧ v.regBit Reg.PWS_EVT 6 = true ∧
      (v.reg Reg.PWS_HU_E).toNat = min (frac (s.energy s.pw.huC s.pw.huEsr x.v0)) 0xFFFFF ∧
      (v.reg Reg.PWS_HU_ESR).toNat = min s.pw.huEsr 0xFFFFF ∧ (v.reg Reg.PWS_HU_C).toNat = min (frac s.pw.huC) 0xFFFFF)) ∧
    (x.step ≠ 4 ∨ mv * 1000 < x.v0 * 999 ∨ x.v0 * 1001 < mv * 1000 → exec (.huRecovered mv) s = .next s)) ∧
  (∀ (s : State),
    (s.pw.huCold = true → s.pw.huWaived = false → s.get Fld.CFL_BOOTINFO_STEP = 9 → Through .huWaitLimit s State.startup (fun v =>
      v.pw.huWaived = true ∧ v.regBit Reg.PWS_EVT 6 = true ∧ v.reg Reg.PWS_BUDGET = s.reg Reg.PWS_BUDGET)) ∧
    (s.pw.huCold = false ∨ s.pw.huWaived = true ∨ s.get Fld.CFL_BOOTINFO_STEP ≠ 9 → exec .huWaitLimit s = .next s))

/-- Class 6 is always forced, and GOV_ADMIT shows the state of every class; a refresh class refused holds the refresh of every
channel. In a period above the cap the governor takes its next step, and at the last one says so; after ten periods well
below the cap it undoes the newest. A sensor out of range is left out for good, and TJ is the hottest of the others. At or
above a step's entry temperature the step rises to it at once. Two samples of 125 degrees start the timed shutdown, and one
of 140 turns every rail off. After the cool-down a trip no longer holds the sequence. Out of P0 and P1 a period changes
nothing. (R448, R450, R451, R452, R453, R458, R459, R460) -/
def Obligations.GovernorDecidesEachPeriod : Prop :=
  (∀ (s : State), s.admission 6 = 3 ∧ (1 ≤ s.tstep → s.admission 2 = 2 ∧ s.admission 3 = 2) ∧ (∀ c, s.forced c = true → s.admission c = 3) ∧
    ∃ t : State, s.govApply = t ∧ (∀ c, c < 8 → (t.reg Reg.GOV_ADMIT).toNat / 4 ^ c % 4 = s.admission c) ∧ t.get Fld.GOV_STATUS_CORE_CLK = s.coreClock ∧
      t.tstep = s.tstep ∧ t.gov = s.gov ∧
      ∀ c, c < 16 → t.on (Fld.DMC_REFCTL_GOV_HOLD c) = (decide (s.admission 7 = 2) || s.gov.burst.contains c)) ∧
  (∀ (s : State) (pest : Nat) (loads : List (Fin 16 × Nat)),
    (s.governs = false → exec (.governorPeriod pest loads) s = .next s) ∧
    (s.governs = true → Through (.governorPeriod pest loads) s (fun v => v.heatPause.govApply) (fun v =>
      (v.reg Reg.GOV_PEST).toNat = min pest 1023 ∧ (s.on Fld.GOV_CTRL_BURST_HOLD = false → v.gov.burst = []) ∧
      (s.pcap < pest → (v.reg Reg.GOV_CAP_PERIODS).toNat = s.plusOne Reg.GOV_CAP_PERIODS)))) ∧
  (∀ (s : State) (pest : Nat),
    (s.pcap < pest → s.on Fld.GOV_CTRL_CAP_EN = true → ∃ t : State, s.capPeriod pest = t ∧ s.capNext ∈ t.gov.steps ∧ t.gov.calm = 0 ∧
      (∀ c ∈ s.gov.steps, c ∈ t.gov.steps) ∧ (s.capNext = 10 → t.regBit Reg.GOV_EVT 0 = true)) ∧
    (s.pcap < pest → s.on Fld.GOV_CTRL_CAP_EN = false → ∃ t : State, s.capPeriod pest = t ∧ t.gov = { s.gov with calm := 0 }) ∧
    (pest ≤ s.pcap → pest < s.pcap - 5 → ∃ t : State, s.capPeriod pest = t ∧ t.regs = s.regs ∧ t.gov.calm = min (s.gov.calm + 1) 10 ∧
      t.gov.steps = (if 9 ≤ s.gov.calm then s.gov.steps.drop 1 else s.gov.steps)) ∧
    (pest ≤ s.pcap → s.pcap - 5 ≤ pest → s.capPeriod pest = { s with gov := { s.gov with calm := 0 } })) ∧
  (∀ (s : State) (ts : List Int), ts.length = 24 → ∃ u : State, s.readTemps ts = u ∧ u.gov.temps = ts ∧
    (∀ i, i < 24 → (i ∈ u.gov.bad ↔ i ∈ s.gov.bad ∨ tempValid (median2 ts) (ts.getD i 0) = false)) ∧
    (∀ i, i < 24 → i ∉ u.gov.bad → ts.getD i 0 ≤ u.gov.tj) ∧
    ((∃ i, i < 24 ∧ i ∉ u.gov.bad) → ∃ i, i < 24 ∧ i ∉ u.gov.bad ∧ u.gov.tj = ts.getD i 0) ∧ u.pw = s.pw ∧ u.tstep = s.tstep) ∧
  (∀ (s : State) (ts : List Int) (u : State), ts.length = 24 → u = s.readTemps ts →
    (140 ≤ u.gov.tj → Through (.thermalSample ts) s State.meltdown (fun v => v.gov = u.gov ∧ v.pw.shut = u.pw.shut ∧ v.tier = u.tier)) ∧
    (u.gov.tj < 125 → u.governs = true → Through (.thermalSample ts) s State.raiseStep (fun v => v.gov = u.gov ∧ v.pw.hotBefore = false ∧ v.regs = u.regs)) ∧
    (u.gov.tj < 125 → u.governs = false → Leads (.thermalSample ts) s (fun t => t.gov = u.gov ∧ t.regs = u.regs)) ∧
    (125 ≤ u.gov.tj → u.gov.tj < 140 → s.pw.hotBefore = true → Through (.thermalSample ts) s State.trip (fun v => v.gov.tj = u.gov.tj ∧
      v.pw.hotBefore = true ∧ v.pw.shut = u.pw.shut ∧ v.pw.tripped = u.pw.tripped)) ∧
    (125 ≤ u.gov.tj → u.gov.tj < 140 → s.pw.hotBefore = false → Leads (.thermalSample ts) s (fun t => t.pw.hotBefore = true ∧ t.pw.shut = u.pw.shut))) ∧
  (∀ (s : State), ∃ t : State, s.raiseStep = t ∧ s.tstep ≤ t.tstep ∧ (∀ n, 1 ≤ n → n ≤ 4 → stepEntry n ≤ s.gov.tj → n ≤ t.tstep) ∧
    (s.gov.tj < stepEntry 1 → s.gov.bad.length ≤ 12 → t = s)) ∧
  (∀ (s : State),
    (s.pw.tripped = true → s.trip = s) ∧
    (s.pw.tripped = false → s.pw.shut = none → s.get Fld.PWS_STATUS_SEQ ≠ 0 → ∃ v : State, s.trip = v.shutdown 7 true ∧ v.pw.tripped = true ∧
      v.regBit Reg.GOV_EVT 3 = true ∧ v.net = s.net) ∧
    (s.get Fld.PWS_STATUS_SEQ ≠ 0 → ∃ v : State, s.meltdown = v.offEnd ∧ v.get Fld.PWS_STATUS_LAST_CAUSE = 7 ∧ v.pw.tripped = true ∧
      (∀ n, n < 24 → (v.rail n).on = false) ∧ (rangesOf s.dirtyUnits ≠ [] → v.on Fld.PWS_STATUS_INCOMPLETE = true)) ∧
    (s.gov.tj < 100 → exec .tripCooldown s = .next { s with pw := { s.pw with tripped := false } }) ∧
    (100 ≤ s.gov.tj → exec .tripCooldown s = .next s))

/-- A request for a deeper state that can be granted begins its entry, with every steering entry to slice 0 from P0, or the
shutdown to P3; one that cannot be granted sets REFUSED, and one that is no request for a deeper state changes nothing. When
nothing is left that keeps it, the chip is in P1 with its domains gated, in P2 also with T0 invalid, DRAM in self-refresh and
its ports listening, or in P3 with its rails down. GOV_CMD, WAKE_N, the wake timer and a host frame on a listening port wake
it, and the end of the exit brings P0 and its domains back. In P3 a wake starts the rail sequence. The idle timers act in
idle-timer mode alone. (R193, R276, R462, R463, R465, R466, R467, 14_power_governance.md) -/
def Obligations.PowerStatesAreEnteredAndLeft : Prop :=
  (∀ (s : State) (p : Nat) (i : Instr), (p = 1 ∧ i = .govP1) ∨ (p = 2 ∧ i = .govP2) ∨ (p = 3 ∧ i = .govP3) →
    (s.mayDeepen p = false → exec i s = .next s) ∧
    (s.mayDeepen p = true → s.grants p = false → exec i s = .next (s.put Fld.GOV_STATUS_REFUSED 1)) ∧
    (s.mayDeepen p = true → s.grants p = true → p ≠ 3 → s.get Fld.GOV_STATUS_PSTATE = 0 → Through i s State.steerNow (fun v =>
      v.on Fld.GOV_STATUS_ENTERING = true ∧ v.gov.target = p ∧ v.gov.wakeDue = false ∧ v.gov.steer = s.net.steer ∧
      v.net.steerWait = (List.range 8).map (fun k => (k, 0)))) ∧
    (s.mayDeepen p = true → s.grants p = true → p ≠ 3 → s.get Fld.GOV_STATUS_PSTATE ≠ 0 → Leads i s (fun t =>
      t.on Fld.GOV_STATUS_ENTERING = true ∧ t.gov.target = p ∧ t.net = s.net)) ∧
    (s.mayDeepen p = true → s.grants p = true → p = 3 → Through i s (fun v => v.shutdown 6 false) (fun v =>
      v.on Fld.GOV_STATUS_ENTERING = true ∧ v.gov.target = 3 ∧ v.net = s.net ∧ v.pw = s.pw))) ∧
  (∀ (s : State), s.grants 1 = true ∧
    (s.get Fld.CQI_CTRL_PWRMODE = 1 → s.get Fld.GOV_STATUS_PSTATE = 0 → s.get Fld.CQI_IDLE_P1_IDLE ≠ 0 → exec .p1IdleExpiry s = exec .govP1 s) ∧
    (s.get Fld.CQI_CTRL_PWRMODE = 1 → s.get Fld.GOV_STATUS_PSTATE = 1 → s.get Fld.CQI_IDLE_P2_IDLE ≠ 0 →
      (s.grants 2 = true → exec .p2IdleExpiry s = exec .govP2 s) ∧ (s.grants 2 = false → exec .p2IdleExpiry s = .next s)) ∧
    (s.get Fld.CQI_CTRL_PWRMODE ≠ 1 ∨ s.get Fld.CQI_IDLE_P1_IDLE = 0 → exec .p1IdleExpiry s = .next s) ∧
    (s.get Fld.CQI_CTRL_PWRMODE ≠ 1 ∨ s.get Fld.CQI_IDLE_P2_IDLE = 0 → exec .p2IdleExpiry s = .next s)) ∧
  (∀ (s : State) (src : Nat), s.get Fld.GOV_STATUS_PSTATE = 1 ∨ s.get Fld.GOV_STATUS_PSTATE = 2 → src ≤ 6 → s.on Fld.GOV_STATUS_EXITING = false →
    s.on Fld.GOV_STATUS_ENTERING = false → ∃ t : State, s.wake src = t ∧ t.on Fld.GOV_STATUS_EXITING = true ∧ (t.reg Reg.GOV_WAKESRC).toNat = src ∧
      (t.reg Reg.GOV_WAKES).toNat = s.plusOne Reg.GOV_WAKES ∧ t.gov.wake = src ∧ t.net = s.net) ∧
  (∀ (s : State) (src : Nat), s.get Fld.PWS_STATUS_SEQ = 4 → s.get Fld.GOV_STATUS_PSTATE = 3 → s.pw.shut = none → src ≤ 8 →
    ∃ v : State, s.wakeP3 src = v.beginPhase 0 ∧ v.get Fld.PWS_STATUS_SEQ = 1 ∧ v.on Fld.GOV_STATUS_EXITING = true ∧ v.pw.resetCause = 7 ∧
      (v.reg Reg.GOV_WAKESRC).toNat = src ∧ (v.reg Reg.GOV_WAKES).toNat = s.plusOne Reg.GOV_WAKES ∧ v.gov.wake = src) ∧
  (∀ (s : State), s.get Fld.PWS_STATUS_SEQ ≠ 0 →
    (s.get Fld.GOV_STATUS_PSTATE = 3 → exec .govP0 s = .next (s.wakeP3 6) ∧ exec .wakeN s = .next (s.wakeP3 5) ∧
      (s.reg Reg.GOV_WAKE_TMR ≠ 0 → exec .govWakeTimer s = .next (s.wakeP3 7))) ∧
    (s.get Fld.GOV_STATUS_PSTATE ≠ 3 → ¬(s.on Fld.GOV_STATUS_ENTERING = true ∧ s.gov.target = 3) →
      exec .govP0 s = .next (s.wake 6) ∧ exec .wakeN s = .next (s.wake 5) ∧
      (s.reg Reg.GOV_WAKE_TMR ≠ 0 → exec .govWakeTimer s = .next (s.wake 7))) ∧
    (s.reg Reg.GOV_WAKE_TMR = 0 → exec .govWakeTimer s = .next s)) ∧
  (∀ (s : State), s.mayStart = true →
    (s.pw.afterShut = true → Through .wakeN s (fun v => v.beginPhase 0) (fun v => v.get Fld.PWS_STATUS_SEQ = 1 ∧ v.pw.huCold = true)) ∧
    (s.pw.afterShut = false → exec .wakeN s = .next s)) ∧
  (∀ (s : State),
    (s.on Fld.GOV_STATUS_ENTERING = false → exec .pstateEntryDone s = .next s) ∧
    (s.on Fld.GOV_STATUS_ENTERING = true → s.gov.target ≠ 3 → s.settledFor s.gov.target = false ∨ s.pw.shut ≠ none ∨ s.still = true →
      exec .pstateEntryDone s = .next s) ∧
    (s.on Fld.GOV_STATUS_ENTERING = true → s.gov.target = 1 → s.get Fld.GOV_STATUS_PSTATE = 0 → s.settledFor 1 = true → s.pw.shut = none →
      s.still = false → s.gov.wakeDue = false → Leads .pstateEntryDone s (fun t => t.get Fld.GOV_STATUS_PSTATE = 1 ∧
        t.on Fld.GOV_STATUS_ENTERING = false ∧ (∀ d ∈ p1Domains, d ∈ t.gov.powerGated) ∧ t.get Fld.GOV_STATUS_CORE_CLK = 2 ∧
        t.regBit Reg.GOV_EVT 5 = true ∧ t.tier = s.tier)) ∧
    (s.on Fld.GOV_STATUS_ENTERING = true → s.gov.target = 2 → s.settledFor 2 = true → s.pw.shut = none → s.still = false →
      s.gov.wakeDue = false → Leads .pstateEntryDone s (fun t => t.get Fld.GOV_STATUS_PSTATE = 2 ∧ t.on Fld.GOV_STATUS_ENTERING = false ∧
        (∀ d ∈ p2Domains s, d ∈ t.gov.powerGated) ∧ t.get Fld.LC_STATUS_BANK_ON = 0 ∧
        (∀ c, c < 16 → s.dmcState c = 2 → t.dmcState c = 3) ∧ (∀ p, p < 8 → s.linkUp p = true → (t.port p).listening = true))) ∧
    (s.on Fld.GOV_STATUS_ENTERING = true → s.gov.target = 3 → s.get Fld.PWS_STATUS_SEQ = 4 → s.pw.shut = none → s.gov.wakeDue = false →
      Leads .pstateEntryDone s (fun t => t.get Fld.GOV_STATUS_PSTATE = 3 ∧ t.on Fld.GOV_STATUS_ENTERING = false)) ∧
    (s.on Fld.GOV_STATUS_EXITING = false → exec .pstateExitDone s = .next s) ∧
    (s.on Fld.GOV_STATUS_EXITING = true → s.get Fld.GOV_STATUS_PSTATE ≠ 3 → Through .pstateExitDone s State.steerNow (fun v =>
      v.get Fld.GOV_STATUS_PSTATE = 0 ∧ v.on Fld.GOV_STATUS_EXITING = false ∧ (∀ d ∈ p1Domains, d ∉ v.gov.powerGated) ∧
      v.net.steerWait = (List.range 8).map (fun k => (k, s.gov.steer.getD k k)) ∧
      (s.get Fld.GOV_STATUS_PSTATE = 2 → v.get Fld.LC_STATUS_BANK_ON = 65535 ∧ (∀ d ∈ p2Domains s, d ∉ v.gov.powerGated) ∧
        (∀ p, p < 8 → (v.port p).listening = false) ∧ ∀ c, c < 16 → s.dmcState c = 3 → v.dmcState c = 2))) ∧
    (s.on Fld.GOV_STATUS_EXITING = true → s.get Fld.GOV_STATUS_PSTATE = 3 → s.get Fld.PWS_STATUS_SEQ = 2 → 10 ≤ s.get Fld.CFL_BOOTINFO_STEP →
      Leads .pstateExitDone s (fun t => t.get Fld.GOV_STATUS_PSTATE = 0 ∧ t.on Fld.GOV_STATUS_EXITING = false ∧ t.gov.powerGated = []))) ∧
  (∀ (s : State) (p : Fin 8) (n : Nat),
    ((s.port p.val).listening = false ∨ s.still = true → exec (.listenFrame p n) s = .next s) ∧
    ((s.port p.val).listening = true → s.still = false → (s.port p.val).listen = 0 → n ≤ 32768 → Leads (.listenFrame p n) s (fun t =>
      (t.port p.val).listen = n ∧ ∀ c, c < 8 → s.lossless p.val c = true → (t.cls p.val c).xoffListen = true)) ∧
    ((s.port p.val).listening = true → s.still = false → (s.port p.val).listen ≠ 0 →
      ((s.port p.val).listen + n ≤ 32768 ∨ (s.get (Fld.PRT_LOSSLESS_LL_MASK p.val) ≠ 0 ∧ (s.port p.val).listen + n ≤ 262144) →
        Leads (.listenFrame p n) s (fun t => (t.port p.val).listen = (s.port p.val).listen + n)) ∧
      (s.get (Fld.PRT_LOSSLESS_LL_MASK p.val) = 0 → 32768 < (s.port p.val).listen + n → Leads (.listenFrame p n) s (fun t =>
        t.net = s.net ∧ (t.reg (Reg.PRT_LOSSY_DROP p.val)).toNat = s.plusOne (Reg.PRT_LOSSY_DROP p.val))) ∧
      (s.get (Fld.PRT_LOSSLESS_LL_MASK p.val) ≠ 0 → 262144 < (s.port p.val).listen + n → Leads (.listenFrame p n) s (fun t =>
        t.net = s.net ∧ (t.reg (Reg.PRT_RX_DROP p.val)).toNat = s.plusOne (Reg.PRT_RX_DROP p.val)))))

/-- A domain that holds work, or the always-on domain, is never gated. An idle one is clock-gated after its time, and power-gated
where its row allows it in the present power state. Work that arrives for a gated domain begins its wake, once, and at the
end of the wake the domain is gated no longer. No other state of the chip changes. (R71, R72, R461) -/
def Obligations.IdleDomainsAreGated : Prop :=
  (∀ (s : State) (d : Domain),
    (s.domainBusy d = true → exec (.clockGateIdle d) s = .next s ∧ exec (.powerGateIdle d) s = .next s) ∧
    (s.domainBusy d = false → d ∉ s.gov.powerGated → Leads (.clockGateIdle d) s (fun t => d ∈ t.gov.clockGated ∧
      (∀ e ∈ s.gov.clockGated, e ∈ t.gov.clockGated) ∧ t = { s with gov := { s.gov with clockGated := t.gov.clockGated } })) ∧
    (s.mayGate d = false → exec (.powerGateIdle d) s = .next s) ∧
    (s.domainBusy d = false → d ∉ s.gov.powerGated → s.mayGate d = true → Leads (.powerGateIdle d) s (fun t => d ∈ t.gov.powerGated ∧
      d ∉ t.gov.clockGated ∧ (∀ e, e ≠ d → (e ∈ t.gov.powerGated ↔ e ∈ s.gov.powerGated)) ∧ t.regs = s.regs ∧ t.net = s.net ∧ t.tier = s.tier)) ∧
    (d ∈ s.gov.powerGated ∨ d ∈ s.gov.clockGated → Leads (.domainWake d) s (fun t => d ∈ t.gov.waking ∧ t.gov.powerGated = s.gov.powerGated)) ∧
    (d ∉ s.gov.powerGated → d ∉ s.gov.clockGated → exec (.domainWake d) s = .next s) ∧
    (d ∈ s.gov.waking → Leads (.domainWakeDone d) s (fun t => d ∉ t.gov.powerGated ∧ d ∉ t.gov.clockGated ∧ d ∉ t.gov.waking ∧
      (∀ e, e ≠ d → (e ∈ t.gov.powerGated ↔ e ∈ s.gov.powerGated)) ∧ t.regs = s.regs ∧ t.net = s.net)) ∧
    (d ∉ s.gov.waking → exec (.domainWakeDone d) s = .next s)) ∧
  (∀ s : State, s.mayGate .alwaysOn = false ∧ s.domainBusy .alwaysOn = true)

/-- A claim takes a free lock for its path and leaves a held one. The owner's release, and the timeout, zero the buffer, IV, tag
and key input and abandon what runs. An operation starts for the owner alone and only while none runs; another path's attempt
is noted and does nothing. UNSEAL needs a root key, LOAD_PLAIN and PROVISION_ROOT its absence; a slot in use, a pair of equal
halves, a management slot that is none or empty, a length out of range are refused with their results; a tag or an unwrap
that does not match fails with the buffer zeroed, and one that matches gives its data. At the end RESULT, the slots, the
fuse, the buffer, the tag and the counters show what the operation gives. (R472, R473, R474, R476, R477, R483, R484, R485,
R486, R487) -/
def Obligations.SealingEngineActs : Prop :=
  (∀ (s : State) (p : Path), s.coreRuns = true →
    (s.get Fld.SEAL_LOCK_OWNER = 0 → Leads (.sealLockClaim p) s (fun t => t.sealOwns p = true ∧ t.sealing = s.sealing)) ∧
    (s.get Fld.SEAL_LOCK_OWNER ≠ 0 → exec (.sealLockClaim p) s = .next s) ∧
    (s.sealOwns p = false → exec (.sealLockRelease p) s = .next s) ∧
    (s.sealOwns p = true → exec (.sealLockRelease p) s = .next s.sealRelease ∧
      Through .sealLockTimeout s (fun v => v.record .sealLockTimeout) (fun v => v = s.sealRelease)) ∧
    (s.get Fld.SEAL_LOCK_OWNER = 0 → exec .sealLockTimeout s = .next s)) ∧
  (∀ (s : State), ∃ t : State, s.sealRelease = t ∧ t.get Fld.SEAL_LOCK_OWNER = 0 ∧ t.sealing.job = none ∧ t.sealing.keyIn = [] ∧
    (∀ i, i < 1024 → t.reg (Reg.SEAL_BUF i) = 0) ∧ (∀ i, i < 3 → t.reg (Reg.SEAL_IV i) = 0) ∧ (∀ i, i < 4 → t.reg (Reg.SEAL_TAG i) = 0) ∧
    (s.sealing.job ≠ none → t.get Fld.SEAL_STATUS_RESULT = 7 ∧ t.on Fld.SEAL_STATUS_BUSY = false) ∧ t.sealing.slots = s.sealing.slots ∧
    t.sealing.root = s.sealing.root ∧ t.sealing.blobs = s.sealing.blobs) ∧
  (∀ (s : State) (p : Path) (n : BitVec 16) (i : Instr) (j : SealJob), s.coreRuns = true →
    (i, j) ∈ [(Instr.unseal p, s.unsealJob), (.loadPlain p, s.loadPlainJob), (.sealClear p, s.clearJob), (.gcmEnc p n, s.gcmEncJob n.toNat),
      (.gcmDec p n, s.gcmDecJob n.toNat), (.kwWrap p n, s.kwWrapJob n.toNat), (.kwUnwrap p n, s.kwUnwrapJob n.toNat),
      (.kwpWrap p n, s.kwpWrapJob n.toNat), (.kwpUnwrap p n, s.kwpUnwrapJob n.toNat), (.cmacGen p n, s.cmacGenJob n.toNat),
      (.cmacVer p n, s.cmacVerJob n.toNat), (.provisionRoot p, s.provisionJob)] →
    (s.sealForeign p = true → Leads i s (fun t => t.on Fld.SEAL_STATUS_FOREIGN = true ∧ t.regBit Reg.SEAL_EVT 4 = true ∧ t.sealing = s.sealing)) ∧
    (s.sealForeign p = false → s.sealOwns p = false ∨ s.on Fld.SEAL_STATUS_BUSY = true → exec i s = .next s) ∧
    (s.sealOwns p = true → s.on Fld.SEAL_STATUS_BUSY = false → Leads i s (fun t => t.sealing = { s.sealing with job := some j } ∧
      t.on Fld.SEAL_STATUS_BUSY = true ∧ ∀ a, a ≠ Reg.SEAL_STATUS → t.reg a = s.reg a))) ∧
  (∀ (s : State),
    (s.sealing.root = none → s.provisionJob = { root := some (s.keyInBytes 32) } ∧ s.unsealJob = { result := 5 }) ∧
    (∀ root, s.sealing.root = some root → s.provisionJob = { result := 5 } ∧ s.loadPlainJob = { result := 5 } ∧
      s.unsealJob.result = (match (kwUnwrap root (s.sealBytes 80)).bind blobFields with
        | none => 1
        | some (n, k) => if n ≤ 4096 ∧ halvesEqual k = true then 3 else if (s.keySlot n).isSome then 4 else 0) ∧
      s.unsealJob.load = (if s.unsealJob.result = 0 then
        ((kwUnwrap root (s.sealBytes 80)).bind blobFields).map (fun e => (e.1, { key := e.2 })) else none)) ∧
    (∀ n, n = (s.reg Reg.SEAL_KEYDST).toNat % 8192 → s.sealing.root = none →
      (4112 < n → s.loadPlainJob = { result := 3 }) ∧
      (n ≤ 4112 → n ≤ 4096 → halvesEqual (s.keyInBytes 64) = true → s.loadPlainJob = { result := 3 }) ∧
      (n ≤ 4096 → halvesEqual (s.keyInBytes 64) = false → s.keySlot n = none →
        s.loadPlainJob = { load := some (n, { key := s.keyInBytes 64, plain := true }) }) ∧
      (4097 ≤ n → n ≤ 4112 → s.keySlot n = none → s.loadPlainJob = { load := some (n, { key := s.keyInBytes 32, plain := true }) })) ∧
    (∀ n, n = (s.reg Reg.SEAL_KEYDST).toNat % 8192 →
      (4112 < n → s.clearJob = { result := 3 }) ∧ (n < 4096 → s.domainRegions n ≠ 0 → s.clearJob = { result := 4 }) ∧
      (n = 4096 → s.flash.formatted = true → s.clearJob = { result := 4 }) ∧
      (n ≤ 4112 → (n < 4096 → s.domainRegions n = 0) → (n = 4096 → s.flash.formatted = false) → s.clearJob = { clear := some n })) ∧
    (∀ slot go, (isMgmt slot = false → s.withMgmt slot go = { result := 3 }) ∧
      (isMgmt slot = true → s.keySlot slot = none → s.withMgmt slot go = { result := 4 })) ∧
    (∀ slot k, isMgmt slot = true → s.keySlot slot = some k → s.sealLen ≤ 4096 → s.sealAad ≤ s.sealLen →
      ((s.gcmEncJob slot).result = 0 ∧
        (s.gcmEncJob slot).buf = some ((s.sealBytes s.sealLen).take s.sealAad ++ gcmCtr k.key s.sealIv ((s.sealBytes s.sealLen).drop s.sealAad))) ∧
      ((s.gcmDecJob slot).result = (if gcmTag k.key s.sealIv ((s.sealBytes s.sealLen).take s.sealAad)
          ((s.sealBytes s.sealLen).drop s.sealAad) = s.sealTag then 0 else 1) ∧
        (s.gcmDecJob slot).authFail = decide ((s.gcmDecJob slot).result = 1) ∧
        (s.gcmDecJob slot).buf = some (if (s.gcmDecJob slot).result = 1 then List.replicate 4096 0 else
          (s.sealBytes s.sealLen).take s.sealAad ++ gcmCtr k.key s.sealIv ((s.sealBytes s.sealLen).drop s.sealAad))) ∧
      (s.cmacVerJob slot).result = (if cmac k.key (s.sealBytes s.sealLen) = s.sealTag then 0 else 1) ∧
      ((s.kwUnwrapJob slot).buf = (if s.sealLen < 24 ∨ s.sealLen % 8 ≠ 0 then none else
        some ((kwUnwrap k.key (s.sealBytes s.sealLen)).getD (List.replicate 4096 0)))) ∧
      ((s.kwWrapJob slot).buf = (if s.sealLen < 16 ∨ 4088 < s.sealLen ∨ s.sealLen % 8 ≠ 0 then none else
        some (kwWrap k.key (s.sealBytes s.sealLen)))) ∧
      ((s.kwpWrapJob slot).buf = (if s.sealLen < 1 ∨ 4088 < s.sealLen then none else some (kwpWrap k.key (s.sealBytes s.sealLen)))) ∧
      ((s.kwpUnwrapJob slot).buf = (if s.sealLen < 16 ∨ s.sealLen % 8 ≠ 0 then none else
        some ((kwpUnwrap k.key (s.sealBytes s.sealLen)).getD (List.replicate 4096 0)))) ∧
      (s.cmacGenJob slot).tag = some (cmac k.key (s.sealBytes s.sealLen)))) ∧
  (∀ (s : State), s.coreRuns = true → (s.sealing.job = none → exec .sealOpDone s = .next s) ∧
    ∀ j, s.sealing.job = some j → Leads .sealOpDone s (fun t => t.sealing.job = none ∧ t.on Fld.SEAL_STATUS_BUSY = false ∧
      t.get Fld.SEAL_STATUS_RESULT = j.result % 8 ∧ (t.reg Reg.SEAL_OPS).toNat = s.plusOne Reg.SEAL_OPS ∧
      (∀ n k, j.load = some (n, k) → j.clear = none → t.keySlot n = some k ∧ t.regBit Reg.SEAL_EVT 2 = true) ∧
      (∀ n, j.clear = some n → t.keySlot n = none) ∧ (j.load = none → j.clear = none → t.sealing.slots = s.sealing.slots) ∧
      (∀ k, j.root = some k → s.sealing.root = none → t.sealing.root = some k) ∧ (j.root = none → t.sealing.root = s.sealing.root) ∧
      (∀ b, j.buf = some b → b.length ≤ 4096 → t.sealBytes b.length = b) ∧
      (∀ g, j.tag = some g → g.length = 16 → t.sealTag = g) ∧ (∀ n, j.outLen = some n → (t.reg Reg.SEAL_OUTLEN).toNat = n % 2 ^ 32) ∧
      (j.authFail = true → (t.reg Reg.SEAL_AUTH_FAIL).toNat = s.plusOne Reg.SEAL_AUTH_FAIL) ∧
      (j.unsealed = true → j.result = 1 → t.regBit Reg.SEAL_EVT 1 = true)))

/-- A command while one runs sets ERR 1, one from a path that may not ERR 2, one in a reserved area ERR 6, one in a brown-out ERR
4; a program of a word in an INCOMPLETE sector sets ERR 5, of a word that does not read erased ERR 3. A program that ends
well stores its eight bytes and no other; one that fails sets ERR 7. An erase leaves its sector INCOMPLETE until it ends, and
then all ones. It is suspended at most 16 times, and resumes by command or after idle reads. READ gives the word and says
whether its sector is INCOMPLETE or the word uncorrectable. A brown-out ends an erase, whose sector stays INCOMPLETE. A
capsule's command sets ERR 2. (R492, R493, R495, R498, R499, R500, R501, R502) -/
def Obligations.CodeFlashCommandsAct : Prop :=
  (∀ (s : State) (p : Path) (a : Nat) (i : Instr), s.coreRuns = true → a = s.cfAddr → i = .cflProgram p ∨ i = .cflErase p →
    (s.boot.op ≠ none → exec i s = .next (s.cfErr 1)) ∧
    (s.boot.op = none → s.cfPath p a = false → exec i s = .next (s.cfErr 2)) ∧
    (s.boot.op = none → s.cfPath p a = true → cfReserved a = true → exec i s = .next (s.cfErr 6)) ∧
    (s.boot.op = none → s.cfPath p a = true → cfReserved a = false → s.on Fld.CFL_STATUS_BROWNOUT = true → exec i s = .next (s.cfErr 4))) ∧
  (∀ (s : State) (p : Path) (a : Nat), s.coreRuns = true → a = s.cfAddr → s.boot.op = none → s.cfPath p a = true → cfReserved a = false →
    s.on Fld.CFL_STATUS_BROWNOUT = false →
    (a / 4096 ∈ s.boot.incomplete → exec (.cflProgram p) s = .next (s.cfErr 5)) ∧
    (a / 4096 ∉ s.boot.incomplete → s.cfWord a ≠ List.replicate 8 0xFF ∨ a / 8 ∈ s.boot.torn ∨ s.amberSlot a = some .bad → exec (.cflProgram p) s = .next (s.cfErr 3)) ∧
    (a / 4096 ∉ s.boot.incomplete → s.cfWord a = List.replicate 8 0xFF → a / 8 ∉ s.boot.torn → s.amberSlot a ≠ some .bad → Leads (.cflProgram p) s (fun t =>
      t.boot.op = some (.program a (s.reg Reg.CFL_DATA_HI ++ s.reg Reg.CFL_DATA_LO)) ∧ t.on Fld.CFL_STATUS_BUSY = true ∧
      t.get Fld.CFL_STATUS_ERR = 0 ∧ t.boot.cf = s.boot.cf)) ∧
    Leads (.cflErase p) s (fun t => t.boot.op = some (.erase (a / 4096) false 0) ∧ t.on Fld.CFL_STATUS_BUSY = true ∧
      t.get Fld.CFL_STATUS_ERR = 0 ∧ a / 4096 ∈ t.boot.incomplete ∧ t.boot.cf = s.boot.cf)) ∧
  (∀ (s : State) (q : BitVec 24), s.coreRuns = true → (∀ a, s.cfPath (.capsule q) a = false) ∧
    ∀ i ∈ [Instr.cflSuspend (.capsule q), .cflResume (.capsule q), .cflRead (.capsule q) 0, .cflRead (.capsule q) 1, .cflRead (.capsule q) 2],
      exec i s = .next (s.cfErr 2)) ∧
  (∀ (s : State), s.coreRuns = true → s.cfPath .firmware s.cfAddr = (slotOfAddr s.cfAddr != s.runningSlot || (slotOfAddr s.cfAddr).isNone) ∧
    (s.on Fld.CFL_CTRL_EXT_WR = false → s.cfPath .twoWire s.cfAddr = false)) ∧
  (∀ (s : State) (p : Path), s.coreRuns = true → cmdPath p = true →
    (∀ x n, s.boot.op = some (.erase x false n) →
      (n < 16 → Leads (.cflSuspend p) s (fun t => t.boot.op = some (.erase x true (n + 1)) ∧ t.on Fld.CFL_STATUS_SUSPENDED = true ∧
        t.get Fld.CFL_STATUS_ERR = 0 ∧ (t.reg Reg.CFL_SUSPENDS).toNat = s.plusOne Reg.CFL_SUSPENDS)) ∧
      (16 ≤ n → exec (.cflSuspend p) s = .next s) ∧ exec (.cflResume p) s = .next (s.cfErr 6) ∧
      Leads .cflEraseDone s (fun t => t.boot.op = none ∧ t.on Fld.CFL_STATUS_BUSY = false ∧ x ∉ t.boot.incomplete ∧
        (t.reg Reg.CFL_ERASES).toNat = s.plusOne Reg.CFL_ERASES ∧
        ∀ b, memByte 0xFF t.boot.cf b = (if b / 4096 = x then 0xFF else memByte 0xFF s.boot.cf b))) ∧
    (∀ x n, s.boot.op = some (.erase x true n) → Leads (.cflResume p) s (fun t => t.boot.op = some (.erase x false n) ∧
        t.on Fld.CFL_STATUS_SUSPENDED = false ∧ t.boot.cf = s.boot.cf) ∧
      exec .cflEraseIdleResume s = exec (.cflResume p) s ∧ exec (.cflSuspend p) s = .next (s.cfErr 6) ∧ exec .cflEraseDone s = .next s) ∧
    (s.boot.op = none → exec (.cflSuspend p) s = .next (s.cfErr 6) ∧ exec (.cflResume p) s = .next (s.cfErr 6) ∧
      exec .cflEraseIdleResume s = .next s ∧ exec .cflEraseDone s = .next s ∧ ∀ ok, exec (.cflProgramDone ok) s = .next s)) ∧
  (∀ (s : State) (a : Nat) (d : BitVec 64), s.coreRuns = true → s.boot.op = some (.program a d) →
    Leads (.cflProgramDone true) s (fun t => t.boot.op = none ∧ t.on Fld.CFL_STATUS_BUSY = false ∧ t.cfBytes a 8 = leBytes 8 d.toNat ∧
      (t.reg Reg.CFL_PROGRAMS).toNat = s.plusOne Reg.CFL_PROGRAMS ∧
      ∀ b, b < a ∨ a + 8 ≤ b → memByte 0xFF t.boot.cf b = memByte 0xFF s.boot.cf b) ∧
    Leads (.cflProgramDone false) s (fun t => t.boot.op = none ∧ t.get Fld.CFL_STATUS_ERR = 7 ∧ a / 8 ∈ t.boot.torn ∧ t.boot.cf = s.boot.cf)) ∧
  (∀ (s : State) (p : Path) (e : Fin 3) (a : Nat), s.coreRuns = true → cmdPath p = true → a = s.cfAddr →
    (s.boot.op ≠ none → exec (.cflRead p e) s = .next (s.cfErr 1)) ∧
    (s.boot.op = none → Leads (.cflRead p e) s (fun t => t.get Fld.CFL_STATUS_ERR = 0 ∧ t.boot = s.boot ∧
      (a / 4096 ∈ s.boot.incomplete → t.on Fld.CFL_STATUS_RD_INCOMPLETE = true) ∧
      (e = 1 → (t.reg Reg.CFL_CORR).toNat = s.plusOne Reg.CFL_CORR) ∧
      (e = 2 → (t.reg Reg.CFL_UNCORR).toNat = s.plusOne Reg.CFL_UNCORR ∧ t.regBit Reg.CFL_EVT 3 = true) ∧
      (cfReserved a = true → t.reg Reg.CFL_DATA_LO = 0xFFFFFFFF ∧ t.reg Reg.CFL_DATA_HI = 0xFFFFFFFF) ∧
      (cfReserved a = false → e ≠ 2 → s.cfUnknown a = false → t.reg64 Reg.CFL_DATA_LO Reg.CFL_DATA_HI = leNat (s.cfWord a) % 2 ^ 64) ∧
      (a < 0x1000000 → s.cfWord a = s.cfBytes a 8)))) ∧
  (∀ (s : State),
    Leads (.cflBrownout false) s (fun t => t.on Fld.CFL_STATUS_BROWNOUT = false ∧ t.boot = s.boot) ∧
    Leads (.cflBrownout true) s (fun t => t.on Fld.CFL_STATUS_BROWNOUT = true ∧ t.regBit Reg.CFL_EVT 3 = true ∧
      (t.reg Reg.CFL_BROWNOUTS).toNat = s.plusOne Reg.CFL_BROWNOUTS ∧ t.boot.incomplete = s.boot.incomplete ∧
      (∀ x b n, s.boot.op = some (.erase x b n) → t.boot.op = none) ∧ (∀ a d, s.boot.op = some (.program a d) → t.boot.op = s.boot.op)))

/-- The end of the survey, in start-up step 6 alone, moves start-up on; a channel without a DIMM is absent, one with a DIMM
outside the limits is excluded, and the hold-up module's constants are loaded from its memory unless the BMC has written
them. An image in service for its time is confirmed, and the rollback floor rises to its ROLLBACK. GO starts one transaction
where none runs, and is refused in a survey, for a write that is not enabled, and on a segment that is stuck or failed. Its
end gives its result and, for a read, its bytes. A stuck segment's rail is cycled once or the segment has failed; a bus clear
that frees it brings it back. (R258, R504, R508, R533, R534, R535, R536, R537, 17_management_bus.md) -/
def Obligations.SurveyAndIdentityBusAct : Prop :=
  (∀ (s : State) (ds : List Dimm) (cs : List (Fin 16 × Option (List Byte))) (m cable : Option (List Byte)), s.coreRuns = true →
    (s.mbus.survey = false ∨ s.get Fld.CFL_BOOTINFO_STEP ≠ 6 → exec (.identitySurveyDone ds cs m cable) s = .next s) ∧
    (s.mbus.survey = true → s.get Fld.CFL_BOOTINFO_STEP = 6 → Through (.identitySurveyDone ds cs m cable) s State.t1Check (fun v =>
      v.get Fld.CFL_BOOTINFO_STEP = 7 ∧ v.mbus.survey = false ∧
      (∀ c, c < 16 → s.dmcState c ≠ 3 → (∀ d ∈ ds, d.chan.val ≠ c) → v.dmcState c = 0) ∧
      (∀ c, c < 16 → s.dmcState c ≠ 3 → (∃ d ∈ ds, d.chan.val = c ∧ d.spdOk = true ∧ dimmOk d = false) → v.dmcState c = 7) ∧
      (∀ c, c < 16 → s.dmcState c ≠ 3 → (∃ d ∈ ds, d.chan.val = c ∧ d.slot = 0 ∧ d.spdOk = true) →
        (∀ d ∈ ds, d.chan.val = c → d.spdOk = true → dimmOk d = true) → s.railsBad 3 c = false → v.dmcState c = 1) ∧
      (∀ b, idBody 2 m = some b → s.pw.humodSet = false → (v.reg Reg.PWS_HUMOD0).toNat = leNat (b.take 4)) ∧
      (idBody 2 m = none → v.reg Reg.PWS_HUMOD0 = s.reg Reg.PWS_HUMOD0 ∧ v.regBit Reg.MBUS_EVT 3 = true) ∧
      (s.pw.humodSet = true → v.reg Reg.PWS_HUMOD0 = s.reg Reg.PWS_HUMOD0)))) ∧
  (∀ (s : State), s.coreRuns = true →
    (s.get Fld.CFL_BOOTINFO_STEP = 11 → s.on Fld.CFL_BOOTINFO_TRIAL = true → Leads .imageConfirmTimer s (fun t =>
      t.on Fld.CFL_BOOTINFO_TRIAL = false ∧ t.boot.cf = (s.programSelect 3 (s.get Fld.CFL_BOOTINFO_SLOT)).boot.cf ∧
      t.boot.floor = max s.boot.floor (s.imgField (s.get Fld.CFL_BOOTINFO_SLOT) 20 4) ∧ t.regBit Reg.CFL_EVT 2 = true)) ∧
    (s.get Fld.CFL_BOOTINFO_STEP ≠ 11 ∨ s.on Fld.CFL_BOOTINFO_TRIAL = false → exec .imageConfirmTimer s = .next s)) ∧
  (∀ (s : State) (seg : Nat), seg = s.get Fld.MBUS_ICTL_SEG →
    (s.on Fld.MBUS_ISTAT_BUSY = true → exec .identityGo s = .next s) ∧
    (s.on Fld.MBUS_ISTAT_BUSY = false → s.mbus.survey = true ∨ (s.on Fld.MBUS_ICTL_WRITE = true ∧ s.on Fld.MBUS_CTRL_ID_WR_EN = false) →
      exec .identityGo s = .next (s.put Fld.MBUS_ISTAT_RESULT 5)) ∧
    (s.on Fld.MBUS_ISTAT_BUSY = false → s.mbus.survey = false → s.on Fld.MBUS_ICTL_WRITE = false ∨ s.on Fld.MBUS_CTRL_ID_WR_EN = true →
      (2 ≤ s.get (Fld.MBUS_ISEG_STATE seg) → exec .identityGo s = .next (s.put Fld.MBUS_ISTAT_RESULT 3)) ∧
      (s.get (Fld.MBUS_ISEG_STATE seg) < 2 → Leads .identityGo s (fun t => t.on Fld.MBUS_ISTAT_BUSY = true ∧ t.get Fld.MBUS_ISTAT_RESULT = 0 ∧
        t.get (Fld.MBUS_ISEG_STATE seg) = 1 ∧ (∃ x, t.mbus.txn = some x ∧ x.seg = seg ∧ x.write = s.on Fld.MBUS_ICTL_WRITE ∧
          x.len = max 1 (min 32 (s.get Fld.MBUS_ICTL_LEN))) ∧
        (seg * 4 + s.get Fld.MBUS_ICTL_BRANCH ∈ s.mbus.used → t.reg Reg.MBUS_BUS_CLEARS = s.reg Reg.MBUS_BUS_CLEARS) ∧
        (seg * 4 + s.get Fld.MBUS_ICTL_BRANCH ∉ s.mbus.used → (t.reg Reg.MBUS_BUS_CLEARS).toNat = s.plusOne Reg.MBUS_BUS_CLEARS))))) ∧
  (∀ (s : State) (r : Fin 8) (bs : List Byte),
    (s.mbus.txn = none ∨ 5 ≤ r.val → exec (.identityTransactionDone r bs) s = .next s) ∧
    (∀ x, s.mbus.txn = some x → x.seg < 4 →
      (r.val < 3 ∨ r.val = 4 → Leads (.identityTransactionDone r bs) s (fun t => t.mbus.txn = none ∧ t.on Fld.MBUS_ISTAT_BUSY = false ∧
        t.get Fld.MBUS_ISTAT_RESULT = r.val ∧ t.get (Fld.MBUS_ISEG_STATE x.seg) = 0 ∧
        (r.val = 0 → x.write = false → bs.length ≤ 32 → t.ibuf.take (bs.take x.len).length = bs.take x.len) ∧
        (r.val ≠ 0 ∨ x.write = true → t.ibuf = s.ibuf) ∧
        (r.val = 4 → (t.reg Reg.MBUS_BUS_CLEARS).toNat = s.plusOne Reg.MBUS_BUS_CLEARS))) ∧
      (r.val = 3 → Through (.identityTransactionDone r bs) s (fun v => v.segStuck x.seg) (fun v => v.mbus.txn = none ∧
        v.on Fld.MBUS_ISTAT_BUSY = false ∧ v.get Fld.MBUS_ISTAT_RESULT = 3)))) ∧
  (∀ (s : State) (seg n : Nat), seg < 4 → n = s.get (Fld.MBUS_ISEG_SW_RAIL seg) →
    (n < 24 → seg ∉ s.mbus.cycled → s.mbus.cycling = none → s.get Fld.CFL_BOOTINFO_STEP ≤ 7 ∨ s.get (Fld.PWS_RAIL_GROUP n) = 0 →
      ∃ t : State, s.segStuck seg = t ∧ t.get (Fld.MBUS_ISEG_STATE seg) = 2 ∧ (t.rail n).on = false ∧ t.mbus.cycling = some (seg, n) ∧
        seg ∈ t.mbus.cycled ∧ t.regBit Reg.MBUS_EVT 2 = true) ∧
    (24 ≤ n ∨ seg ∈ s.mbus.cycled ∨ s.mbus.cycling ≠ none ∨ (7 < s.get Fld.CFL_BOOTINFO_STEP ∧ s.get (Fld.PWS_RAIL_GROUP n) ≠ 0) →
      ∃ t : State, s.segStuck seg = t ∧ t.get (Fld.MBUS_ISEG_STATE seg) = 3 ∧ t.pw = s.pw ∧ t.regBit Reg.MBUS_EVT 2 = true)) ∧
  (∀ (s : State) (b : Bool), (s.mbus.cycling = none → exec (.segmentRailCycle b) s = .next s) ∧
    (∀ seg n, s.mbus.cycling = some (seg, n) → seg < 4 → n < 24 → Leads (.segmentRailCycle b) s (fun t => t.mbus.cycling = none ∧
      (t.rail n).on = true ∧ (t.rail n).st = .qualifying ∧ t.get (Fld.MBUS_ISEG_STATE seg) = (if b then 0 else 3) ∧
      (t.reg Reg.MBUS_BUS_CLEARS).toNat = s.plusOne Reg.MBUS_BUS_CLEARS ∧ (b = true → t.regBit Reg.MBUS_EVT 2 = true)))) ∧
  (∀ (s : State) (seg : Fin 4), (s.get (Fld.MBUS_ISEG_STATE seg.val) ≠ 0 → ∀ b, exec (.sdaLowWhileIdle seg b) s = .next s) ∧
    (s.get (Fld.MBUS_ISEG_STATE seg.val) = 0 → exec (.sdaLowWhileIdle seg true) s = .next (s.count Reg.MBUS_BUS_CLEARS) ∧
      exec (.sdaLowWhileIdle seg false) s = .next ((s.count Reg.MBUS_BUS_CLEARS).segStuck seg.val)))

/-- A set-pointer message loads the pointer and writes nothing. A write of one whole aligned word writes that register, in the
window in force, and moves the pointer on; a message with part of a word writes nothing and sets PARTIAL. With PEC_EN a
message whose last byte is not its PEC is dropped, counted and answered with NACK, and one whose PEC matches acts as its
other bytes. A word of a block not served is not written, and NOT_READY shows. A read of four bytes of a word reads its
register once and returns it, low byte first; a current read goes on at the pointer. The chip with the lowest address answers
an alert response and releases ALERT_N. SCL held low resets the interface and shows. (R518, R520, R521, R522, R523, R525,
R527, R530) -/
def Obligations.TwoWireMessagesAct : Prop :=
  (∀ (s : State) (ptr : BitVec 16), s.on Fld.MBUS_CTRL_PEC_EN = false →
    exec (.setPointer ptr none) s = .next { s with mbus := { s.mbus with pointer := ptr }, out := .twoWire [] true :: s.out } ∧
    (∀ data, data ≠ [] → exec (.twoWireWrite ptr data none) s = .next (({ s with out := .twoWire [] true :: s.out } : State).wireApply ptr data))) ∧
  (∀ (s : State) (ptr : BitVec 16) (data : List Byte) (c : Byte), s.on Fld.MBUS_CTRL_PEC_EN = true →
    (c = pecOf (s.writeBytes ptr data) → data ≠ [] →
      exec (.twoWireWrite ptr data (some c)) s = .next (({ s with out := .twoWire [] true :: s.out } : State).wireApply ptr data)) ∧
    (c = pecOf (s.writeBytes ptr []) → exec (.setPointer ptr (some c)) s =
      .next { s with mbus := { s.mbus with pointer := ptr }, out := .twoWire [] true :: s.out }) ∧
    (c ≠ pecOf (s.writeBytes ptr data) → Leads (.twoWireWrite ptr data (some c)) s (fun t => t.on Fld.MBUS_STATUS_PEC_ERR = true ∧
      (t.reg Reg.MBUS_PEC_FAIL).toNat = s.plusOne Reg.MBUS_PEC_FAIL ∧ t.regBit Reg.MBUS_EVT 0 = true ∧ t.mbus.pointer = s.mbus.pointer ∧
      t.cfg = s.cfg ∧ t.out = .twoWire [] false :: s.out)) ∧
    (c ≠ pecOf (s.writeBytes ptr []) → Leads (.setPointer ptr (some c)) s (fun t => t.mbus.pointer = s.mbus.pointer ∧
      t.on Fld.MBUS_STATUS_PEC_ERR = true))) ∧
  (∀ (s : State) (ptr : BitVec 16) (data : List Byte),
    (data.length = 4 → ptr.toNat % 4 = 0 → ∃ v : State, v = (s.count Reg.MBUS_WRITES).wireWord (winAddr (s.get Fld.GLB_WINSEL_WIN) ptr)
        (BitVec.ofNat 32 (leNat data)) ∧
      s.wireApply ptr data = { v with mbus := { v.mbus with pointer := BitVec.ofNat 16 (ptr.toNat / 32 * 32 + (ptr.toNat + 4) % 32) } }) ∧
    (data.length < 4 → 0 < data.length → ∃ t : State, s.wireApply ptr data = t ∧ t.on Fld.MBUS_STATUS_PARTIAL = true ∧ t.cfg = s.cfg ∧
      (t.reg Reg.MBUS_WRITES).toNat = s.plusOne Reg.MBUS_WRITES ∧
      ∀ a, a ∉ [Reg.MBUS_STATUS, Reg.MBUS_WRITES] → t.reg a = s.reg a)) ∧
  (∀ (s : State) (a : Nat) (v : BitVec 32),
    (s.served a = false → s.wireWord a v = s.put Fld.MBUS_STATUS_NOT_READY 1 ∧ s.wireRead a = (s.put Fld.MBUS_STATUS_NOT_READY 1, 0)) ∧
    (s.served a = true → s.wireRead a = s.regRead .twoWire a ∧ (s.on Fld.DBG_STATUS_FROZEN = false → s.wireWord a v = (s.regWrite .twoWire a v).1)) ∧
    (a / 65536 ≤ 4 → s.served a = true)) ∧
  (∀ (s : State) (ptr : BitVec 16), s.on Fld.MBUS_CTRL_PEC_EN = false →
    (ptr.toNat % 4 = 0 → ∀ r : State × BitVec 32, r = (s.count Reg.MBUS_READS).wireRead (winAddr (s.get Fld.GLB_WINSEL_WIN) ptr) →
      exec (.twoWireRead ptr 4) s =
        .next { r.1 with mbus := { r.1.mbus with pointer := ptr + 4 }, out := .twoWire (leBytes 4 r.2.toNat) true :: r.1.out }) ∧
    (∀ len, exec (.currentRead len) s = exec (.twoWireRead s.mbus.pointer len) s)) ∧
  (∀ (s : State) (ms : List (BitVec 3)) (len : Nat),
    (s.mbus.alert = true → (∀ m ∈ ms, s.mbus.madr.toNat ≤ m.toNat) → Leads (.alertResponse ms len) s (fun t => t.mbus.alert = false ∧
      (t.reg Reg.MBUS_ARA_WON).toNat = s.plusOne Reg.MBUS_ARA_WON ∧
      (s.on Fld.MBUS_CTRL_PEC_EN = false → t.out = .twoWire [s.addrByte false] true :: s.out))) ∧
    (s.mbus.alert = true → (∃ m ∈ ms, m.toNat < s.mbus.madr.toNat) → exec (.alertResponse ms len) s = .next s) ∧
    (s.mbus.alert = false → exec (.alertResponse ms len) s = .next { s with out := .twoWire [] false :: s.out })) ∧
  (∀ (s : State), Leads .sclLowTimeout s (fun t => t.on Fld.MBUS_STATUS_TIMEOUT = true ∧ (t.reg Reg.MBUS_TIMEOUTS).toNat = s.plusOne Reg.MBUS_TIMEOUTS ∧
    t.regBit Reg.MBUS_EVT 1 = true ∧ t.mbus.pointer = s.mbus.pointer ∧ t.cfg = s.cfg))

/-- A flush takes what is staged then, record by record; a program that passes moves the record to the area, one that fails
leaves a bad slot, and a full area ends it. FIND gives the first record and the number of records in its window. A challenge
is drawn afresh. UNLOCK and CLEAR act on the right response, which is used up; a wrong one is counted, and after three no
more is tried; without a key they act by the two-wire target alone. CLEAR waits where PERSIST_INCOMPLETE stands, and at its
end the area is empty. FREEZE_N acts when unlocked: tokens, lock and roll go, T0 stays. Under FREEZE alone the read-out gives
words, and SEAL_BUF reads 0; without it the TAP is in BYPASS. TRST_N resets the TAP. (R542, R544, R546, R547, R549, R551,
R552, R553, R554, R556, R557, R491) -/
def Obligations.RecorderFreezeAndReadOutAct : Prop :=
  (∀ (s : State),
    (∀ r, s.amb.staging.getLast? = some r → s.amb.clearing = false → s.amb.full = false →
      exec .amberFlush s = .next { s with amb := { s.amb with flushTo := some r.seq } }) ∧
    (s.amb.staging = [] ∨ s.amb.clearing = true ∨ s.amb.full = true → exec .amberFlush s = .next s) ∧ exec .amberFlushAge s = exec .amberFlush s ∧
    (s.amb.staging.any (·.urgent) = true → exec .amberFlushTimer s = exec .amberFlush s) ∧
    (s.amb.staging.any (·.urgent) = false → exec .amberFlushTimer s = .next s) ∧
    Leads .hoursStoreTimer s (fun t => t.amb.stHours = s.stamp ∧ t.amb.staging = s.amb.staging ∧ t.amb.area = s.amb.area ∧ t.regs = s.regs)) ∧
  (∀ (s : State) (r : AmbRec) (rest : List AmbRec) (last : Nat), s.amb.staging = r :: rest → s.amb.flushTo = some last → r.seq ≤ last →
    s.amb.full = false → s.amb.clearing = false → s.amb.lost = false →
    (s.amb.area.length + 1 < areaSlots → Leads (.amberRecordProgrammed true) s (fun t => t.amb.staging = rest ∧ t.amb.area = s.amb.area ++ [.rec_ r] ∧
        t.amb.full = false ∧ t.regs = s.regs) ∧
      Leads (.amberRecordProgrammed false) s (fun t => t.amb.staging = r :: rest ∧ t.amb.area = s.amb.area ++ [.bad] ∧ t.amb.full = false)) ∧
    (areaSlots ≤ s.amb.area.length + 1 → Leads (.amberRecordProgrammed true) s (fun t => t.amb.area = s.amb.area ++ [.rec_ r] ∧ t.amb.full = true ∧
      t.amb.flushTo = none ∧ t.regBit Reg.AMB_EVT 0 = true))) ∧
  (∀ (s : State) (ok : Bool), s.amb.flushTo = none → exec (.amberRecordProgrammed ok) s = .next s) ∧
  (∀ (s : State) (lo hi : Nat) (w : List AmbRec), lo = (s.reg Reg.AMB_QSTART_LO).toNat + s.get Fld.AMB_QSTART_HI_STAMP * 2 ^ 32 →
    hi = (s.reg Reg.AMB_QEND_LO).toNat + s.get Fld.AMB_QEND_HI_STAMP * 2 ^ 32 →
    w = s.ambRecords.filter (fun r => decide (lo ≤ r.stamp) && decide (r.stamp < hi)) → Leads .amberFind s (fun t =>
      (t.reg Reg.AMB_QCOUNT).toNat = w.length % 2 ^ 16 ∧ (w = [] → t.reg Reg.AMB_QFIRST = 0) ∧
      (∀ r v, w = r :: v → (t.reg Reg.AMB_QFIRST).toNat = r.seq % 2 ^ 32) ∧ t.amb = s.amb)) ∧
  (∀ (s : State), Leads .dbgChallenge s (fun t => t.free = s.free + 1 ∧ ∃ c, t.dbg.challenge = some c ∧
    ∀ w, w < 4 → (t.reg (Reg.DBG_CHAL w)).toNat = c.toNat / 2 ^ (32 * w) % 2 ^ 32)) ∧
  (∀ (s : State) (p : Path), (∃ q, p = .capsule q) → exec (.dbgUnlock p) s = .next s ∧ exec (.dbgClear p) s = .next s) ∧
  (∀ (s : State), s.dbg.key = none →
    Leads (.dbgUnlock .twoWire) s (fun t => t.on Fld.DBG_STATUS_UNLOCKED = true ∧ t.get Fld.DBG_STATUS_RESULT = 0 ∧ t.regBit Reg.DBG_EVT 0 = true) ∧
    exec (.dbgUnlock .firmware) s = .next (s.put Fld.DBG_STATUS_RESULT 3) ∧
    (s.on Fld.PWS_STATUS_INCOMPLETE = false → Leads (.dbgClear .twoWire) s (fun t => t.amb.clearing = true ∧ t.amb.stClearing = true ∧
      t.get Fld.DBG_STATUS_RESULT = 0 ∧ t.regBit Reg.AMB_EVT 1 = true))) ∧
  (∀ (s : State) (p : Path) (key : List (BitVec 32)), p = .firmware ∨ p = .twoWire →
    (s.on Fld.PWS_STATUS_INCOMPLETE = true → exec (.dbgClear p) s = .next (s.put Fld.DBG_STATUS_RESULT 3)) ∧
    (s.dbg.key = some key → (3 ≤ s.get Fld.DBG_STATUS_FAILS → exec (.dbgUnlock p) s = .next (s.put Fld.DBG_STATUS_RESULT 2) ∧
        (s.on Fld.PWS_STATUS_INCOMPLETE = false → exec (.dbgClear p) s = .next (s.put Fld.DBG_STATUS_RESULT 2))) ∧
      (s.get Fld.DBG_STATUS_FAILS < 3 → ∀ c, s.dbg.challenge = some c →
        (wordBytes s.dbg.resp = cmac (wordBytes key) (leBytes 16 c.toNat ++ [1]) → Leads (.dbgUnlock p) s (fun t =>
          t.on Fld.DBG_STATUS_UNLOCKED = true ∧ t.get Fld.DBG_STATUS_RESULT = 0 ∧ t.dbg.challenge = none ∧ t.regBit Reg.DBG_EVT 0 = true)) ∧
        (wordBytes s.dbg.resp = cmac (wordBytes key) (leBytes 16 c.toNat ++ [2]) → s.on Fld.PWS_STATUS_INCOMPLETE = false →
          Leads (.dbgClear p) s (fun t => t.amb.clearing = true ∧ t.get Fld.DBG_STATUS_RESULT = 0 ∧ t.dbg.challenge = none)) ∧
        (wordBytes s.dbg.resp ≠ cmac (wordBytes key) (leBytes 16 c.toNat ++ [1]) → Leads (.dbgUnlock p) s (fun t =>
          t.on Fld.DBG_STATUS_UNLOCKED = s.on Fld.DBG_STATUS_UNLOCKED ∧ t.get Fld.DBG_STATUS_RESULT = 1 ∧ t.dbg.challenge = none ∧
          t.get Fld.DBG_STATUS_FAILS = s.get Fld.DBG_STATUS_FAILS + 1 ∧ t.regBit Reg.DBG_EVT 1 = true))))) ∧
  (∀ (s : State), (s.amb.clearing = false → exec .amberClearDone s = .next s) ∧
    (s.amb.clearing = true → Leads .amberClearDone s (fun t => t.amb.area = [] ∧ t.amb.clearing = false ∧ t.amb.full = false ∧
      t.amb.stClearing = false ∧ t.reg Reg.AMB_OVERFLOW = 0 ∧ t.amb.staging = s.amb.staging))) ∧
  (∀ (s : State),
    (s.still = true → exec .freezeNAsserted s = .next s) ∧
    (s.still = false → s.on Fld.DBG_STATUS_UNLOCKED = false → s.dbg.refusedSeen = true → exec .freezeNAsserted s = .next s) ∧
    (s.still = false → s.on Fld.DBG_STATUS_UNLOCKED = false → s.dbg.refusedSeen = false → Leads .freezeNAsserted s (fun t =>
      t.dbg.refusedSeen = true ∧ t.regBit Reg.DBG_EVT 2 = true ∧ t.on Fld.DBG_STATUS_FROZEN = s.on Fld.DBG_STATUS_FROZEN)) ∧
    (s.still = false → s.on Fld.DBG_STATUS_UNLOCKED = true → s.pw.shut = none → Leads .freezeNAsserted s (fun t =>
      t.on Fld.DBG_STATUS_FROZEN = true ∧ t.still = true ∧ t.regBit Reg.DBG_EVT 2 = true ∧ t.acts 0 = false ∧ t.acts 1 = false ∧
      t.get Fld.SEAL_LOCK_OWNER = 0 ∧ t.cfg.commit = none ∧ (s.get Fld.CFL_BOOTINFO_STEP ≠ 9 → t.tier.lines = s.tier.lines ∧ t.tier.t1 = s.tier.t1) ∧
      (∀ c, c < 16 → s.dmcState c = 2 ∨ s.dmcState c = 4 → t.dmcState c = 3)))) ∧
  (∀ (s : State), s.on Fld.DBG_STATUS_FROZEN = false →
    exec .dbgMemoryRead s = .next { s with dbg := { s.dbg with mdata := 0 } } ∧
    (∀ n a, exec (.tapMemread n a) s = .next { s with dbg := { s.dbg with tapIr := 0, tapOut := 0 } }) ∧
    (∀ a, exec (.tapRegread a) s = .next { s with dbg := { s.dbg with tapIr := 0, tapOut := 0 } })) ∧
  (∀ (s : State), s.on Fld.DBG_STATUS_FROZEN = true →
    (∀ a : BitVec 24, Leads (.tapRegread a) s (fun t => t.dbg.tapOut = (s.rawReg (a.toNat / 4 * 4)).setWidth 80 ∧ t.dbg.tapIr = 5 ∧
      .tap t.dbg.tapOut ∈ t.out ∧ t.regs = s.regs)) ∧
    (∀ (n : BitVec 3) (a : BitVec 32), Leads (.tapMemread n a) s (fun t => t.dbg.tapIr = 4 ∧ .tap t.dbg.tapOut ∈ t.out ∧
      (n = 0 ∨ 5 < n.toNat → t.dbg.tapOut = 0) ∧ (n = 5 → t.dbg.tapOut = (s.rawReg (a.toNat % 2 ^ 22 * 4)).setWidth 80) ∧
      (1 ≤ n.toNat → n.toNat ≤ 4 → t.free = s.free + 1))) ∧
    Leads .dbgMemoryRead s (fun t => t.regs = s.regs ∧ ((s.reg Reg.DBG_MSEL).toNat % 8 = 5 →
        t.dbg.mdata = (s.rawReg ((s.reg Reg.DBG_MADDR).toNat % 2 ^ 22 * 4)).setWidth 80) ∧
      ((s.reg Reg.DBG_MSEL).toNat % 8 = 0 → t.dbg.mdata = 0)) ∧
    (∀ i, i < 1024 → s.rawReg (Reg.SEAL_BUF i) = 0)) ∧
  (∀ (s : State), Leads .trstN s (fun t => t.dbg.tapIr = 1 ∧ t.dbg.tapOut = 0 ∧ t.dbg.key = s.dbg.key ∧ t.regs = s.regs))

/-- PROVISION by firmware or by the two-wire target, without a key, takes the eight words of DBG_KEYIN as the key, a key of 256
bits, answers RESULT 0, sets DBG_STATUS.KEY_PROV and leaves the root key as it is; the root key's provisioning leaves the
debug key. With a key, PROVISION is refused with RESULT 3 and changes no key, and no step of any kind changes it afterwards.
(R550) -/
def Obligations.DebugKeyIsProvisionedOnce : Prop :=
  (∀ (s : State) (p : Path), p = .firmware ∨ p = .twoWire →
    (s.dbg.key = none → s.dbg.keyIn.length = 8 → Leads (.dbgProvision p) s (fun t => t.dbg.key = some s.dbg.keyIn ∧
      (∀ k : List (BitVec 32), t.dbg.key = some k → k.length * 32 = 256) ∧ t.get Fld.DBG_STATUS_RESULT = 0 ∧
      fieldOf Fld.DBG_STATUS_KEY_PROV (t.regView Reg.DBG_STATUS) = 1 ∧ t.sealing.root = s.sealing.root)) ∧
    (∀ k, s.dbg.key = some k → exec (.dbgProvision p) s = .next (s.put Fld.DBG_STATUS_RESULT 3) ∧
      (s.put Fld.DBG_STATUS_RESULT 3).get Fld.DBG_STATUS_RESULT = 3 ∧ (s.put Fld.DBG_STATUS_RESULT 3).dbg.key = some k ∧
      fieldOf Fld.DBG_STATUS_KEY_PROV ((s.put Fld.DBG_STATUS_RESULT 3).regView Reg.DBG_STATUS) = 1)) ∧
  (∀ (s t : State), exec .sealOpDone s = .next t → t.dbg.key = s.dbg.key) ∧
  (∀ (s t : State) (k : List (BitVec 32)), step s = .next t → s.dbg.key = some k → t.dbg.key = some k)
end

