-- ==== Sys2Proof/Laws/Kept.lean ====
section
/-! SUPPORT. Sys2Proof/Laws/Kept.lean: what no command of the block moves. State.kept holds the queue, the model's clock and the
one-time values (the rollback floor, the root key, the debug key); every operation of the model has a lemma that says it keeps
them, or how it changes them. -/

namespace Sys2Proof.Machine

/-- The queue, the clock and the one-time values of a state (R473, R508, R550). -/
structure Kept where
  pending : List Instr
  now : Nat
  floor : Nat
  root : Option (List Byte)
  key : Option (List (BitVec 32))

/-- The kept part of a state. -/
def State.kept (s : State) : Kept := ⟨s.pending, s.now, s.boot.floor, s.sealing.root, s.dbg.key⟩

/-- If an outcome is a next state, that state keeps the kept part of s. -/
def Keeps (o : Host.Outcome State Fault Refusal) (s : State) : Prop := ∀ t, o = .next t → t.kept = s.kept

theorem kept_eta (s : State) : Kept.mk s.pending s.now s.boot.floor s.sealing.root s.dbg.key = s.kept := (rfl)

theorem kept_ite (c : Prop) [Decidable c] (a b : State) : (if c then a else b).kept = if c then a.kept else b.kept := by split <;> rfl

theorem ite_kept {c : Prop} [Decidable c] {a b k : Kept} (ha : a = k) (hb : b = k) : (if c then a else b) = k := by
  split
  · exact ha
  · exact hb

theorem kept_ite1 {β : Type} (c : Prop) [Decidable c] (a b : State × β) :
    (if c then a else b).1.kept = if c then a.1.kept else b.1.kept := by split <;> rfl

theorem foldl_kept {α : Type} (g : State → α → State) (l : List α) (s : State) (h : ∀ s a, (g s a).kept = s.kept) :
    (l.foldl g s).kept = s.kept := by
  induction l generalizing s with
  | nil => rfl
  | cons a l ih => exact (ih (g s a)).trans (h s a)

theorem foldl_kept1 {α β : Type} (g : State × β → α → State × β) (l : List α) (p : State × β)
    (h : ∀ p a, (g p a).1.kept = p.1.kept) : (l.foldl g p).1.kept = p.1.kept := by
  induction l generalizing p with
  | nil => rfl
  | cons a l ih => exact (ih (g p a)).trans (h p a)

theorem kept_of_pair {β : Type} {p : State × β} {t : State} {r : β} (h : p = (t, r)) : t.kept = p.1.kept := by rw [h]

theorem keeps_next (s t : State) : Keeps (.next t) s ↔ t.kept = s.kept :=
  ⟨fun h => h t rfl, fun h u e => by cases e; exact h⟩

theorem keeps_refused (s : State) (r : Refusal) : Keeps (.refused r) s ↔ True :=
  ⟨fun _ => trivial, fun _ _ e => by cases e⟩

theorem keeps_core (s t u : State) : Keeps (s.core t) u ↔ (if s.coreRuns then t else s).kept = u.kept := keeps_next u _

theorem keeps_ite (c : Prop) [Decidable c] (a b : Host.Outcome State Fault Refusal) (s : State) :
    Keeps (if c then a else b) s ↔ if c then Keeps a s else Keeps b s := by split <;> exact Iff.rfl

theorem kept_mk (pending : List Instr) (now free : Nat) (regs : List (Nat × BitVec 32)) (out : List Out) (amb : Amber) (dbg : Debug)
    (cfg : Config19) (prot : Protect) (net : Net) (cqi : Cqi) (tier : Tier) (flash : Flash) (twin : Twin) (dram : Dram)
    (col : Colony) (pw : Power) (gov : Gov) (sealing : Seal) (boot : Boot) (mbus : Mbus) :
    (State.mk pending now free regs out amb dbg cfg prot net cqi tier flash twin dram col pw gov sealing boot mbus).kept
      = ⟨pending, now, boot.floor, sealing.root, dbg.key⟩ := (rfl)

end Sys2Proof.Machine
end

