-- ==== Sys2Proof/Laws/KeptCore.lean ====
section
/-! SUPPORT. Sys2Proof/Laws/KeptCore.lean: the registers, the ports, the cache, the tiers, the keys, the transport and the queues keep the queue, the clock
and the one-time values: one lemma for each operation. -/

namespace Sys2Proof.Machine

/-! ### Ops.lean -/

theorem State.setReg_kept (s : State) (a : Nat) (v : BitVec 32) :
    (State.setReg s a v).kept = s.kept := by
  unfold State.setReg
  simp only [kept_eta, ↓kept_mk]

theorem State.put_kept (s : State) (f : Field) (v : Nat) :
    (State.put s f v).kept = s.kept := by
  unfold State.put
  simp only [↓State.setReg_kept]

theorem State.putB_kept (s : State) (f : Field) (b : Bool) :
    (State.putB s f b).kept = s.kept := by
  unfold State.putB
  simp only [↓State.put_kept]

theorem State.countBy_kept (s : State) (a : Nat) (n : Nat) :
    (State.countBy s a n).kept = s.kept := by
  unfold State.countBy
  simp only [↓State.setReg_kept]

theorem State.count_kept (s : State) (a : Nat) :
    (State.count s a).kept = s.kept := by
  unfold State.count
  simp only [↓State.countBy_kept]

theorem State.countMax_kept (s : State) (a : Nat) (n : Nat) :
    (State.countMax s a n).kept = s.kept := by
  unfold State.countMax
  simp only [↓State.setReg_kept]

theorem State.setReg64_kept (s : State) (lo : Nat) (hi : Nat) (v : Nat) :
    (State.setReg64 s lo hi v).kept = s.kept := by
  unfold State.setReg64
  simp only [↓State.setReg_kept]

theorem State.setRegBit_kept (s : State) (a : Nat) (n : Nat) (b : Bool) :
    (State.setRegBit s a n b).kept = s.kept := by
  unfold State.setRegBit
  simp only [↓State.put_kept]

theorem State.draw_kept (s : State) :
    (State.draw s).2.kept = s.kept := by
  unfold State.draw
  simp only [kept_eta, ↓kept_mk]

/-! ### Flags.lean -/

theorem State.setEvt_kept (s : State) (e : Event) (c : Nat) :
    (State.setEvt s e c).kept = s.kept := by
  unfold State.setEvt
  split <;> simp only [kept_eta, ↓kept_mk, ↓State.setRegBit_kept]

theorem State.ambFlush_kept (s : State) :
    (State.ambFlush s).kept = s.kept := by
  unfold State.ambFlush
  split <;> simp only [kept_eta, ↓kept_mk, ↓kept_ite, ite_self]

theorem State.ambStage_kept (s : State) (code : BitVec 16) (unit : BitVec 8) (payload : List Byte) (urgent : Bool) :
    (State.ambStage s code unit payload urgent).kept = s.kept := by
  unfold State.ambStage
  simp only [kept_eta, ↓kept_mk, ↓kept_ite, ite_self, ↓State.ambFlush_kept]

theorem State.ambLostDue_kept (s : State) :
    (State.ambLostDue s).kept = s.kept := by
  unfold State.ambLostDue
  simp only [kept_eta, ↓kept_mk, ↓kept_ite, ite_self, ↓State.ambStage_kept, ↓State.setEvt_kept]

theorem State.record_kept (s : State) (e : Event) (unit : Nat) (payload : List Byte) (c : Nat) (lim : Option (Nat × Nat)) :
    (State.record s e unit payload c lim).kept = s.kept := by
  unfold State.record
  split <;> simp only [kept_eta, ↓kept_mk, ↓kept_ite, ite_self, ↓State.ambLostDue_kept, ↓State.ambStage_kept, ↓State.count_kept, ↓State.setEvt_kept, ↓State.setReg_kept]

/-! ### Cache.lean -/

theorem State.touchWay_kept (s : State) (set : Nat) (w : Nat) :
    (State.touchWay s set w).kept = s.kept := by
  unfold State.touchWay
  simp only [kept_eta, ↓kept_mk]

theorem State.t1Write_kept (s : State) (a : Nat) (bs : List Byte) :
    (State.t1Write s a bs).kept = s.kept := by
  unfold State.t1Write
  simp only [kept_eta, ↓kept_mk]

theorem State.setLine_kept (s : State) (l : Nat) (x : Line) :
    (State.setLine s l x).kept = s.kept := by
  unfold State.setLine
  simp only [kept_eta, ↓kept_mk]

theorem State.dropLine_kept (s : State) (l : Nat) :
    (State.dropLine s l).kept = s.kept := by
  unfold State.dropLine
  simp only [kept_eta, ↓kept_mk]

theorem State.cleanLine_kept (s : State) (l : Nat) :
    (State.cleanLine s l).kept = s.kept := by
  unfold State.cleanLine
  split <;> simp only [↓kept_ite, ite_self, ↓State.count_kept, ↓State.setLine_kept, ↓State.t1Write_kept]

theorem State.cleanInvLine_kept (s : State) (l : Nat) :
    (State.cleanInvLine s l).kept = s.kept := by
  unfold State.cleanInvLine
  simp only [↓State.cleanLine_kept, ↓State.dropLine_kept]

theorem State.cleanInvUnit_kept (s : State) (unit : Nat) :
    (State.cleanInvUnit s unit).kept = s.kept := by
  unfold State.cleanInvUnit
  repeat' split
  all_goals simp only [↓foldl_kept, implies_true, ↓State.cleanInvLine_kept]

theorem State.cleanUnit_kept (s : State) (unit : Nat) :
    (State.cleanUnit s unit).kept = s.kept := by
  unfold State.cleanUnit
  repeat' split
  all_goals simp only [↓foldl_kept, implies_true, ↓State.cleanLine_kept]

theorem State.allocLine_kept (s : State) (l : Nat) (x : Line) :
    (State.allocLine s l x).kept = s.kept := by
  unfold State.allocLine
  repeat' split
  all_goals simp only [↓foldl_kept, implies_true, ↓State.cleanInvLine_kept, ↓State.setLine_kept, ↓State.touchWay_kept]

theorem State.writeLine_kept (s : State) (alloc : Bool) (l : Nat) (off : Nat) (bs : List Byte) :
    (State.writeLine s alloc l off bs).kept = s.kept := by
  unfold State.writeLine
  split <;> simp only [↓kept_ite, ite_self, ↓State.allocLine_kept, ↓State.setLine_kept, ↓State.t1Write_kept]

theorem State.poolWrite_kept (s : State) (a : Nat) (bs : List Byte) :
    (State.poolWrite s a bs).kept = s.kept := by
  unfold State.poolWrite
  repeat' split
  all_goals simp only [↓foldl_kept, implies_true, ↓State.writeLine_kept]

theorem State.hitLine_kept (s : State) (l : Nat) :
    (State.hitLine s l).kept = s.kept := by
  unfold State.hitLine
  split <;> simp only [↓State.count_kept, ↓State.touchWay_kept]

theorem State.startLineFill_kept (s : State) (l : Nat) :
    (State.startLineFill s l).1.kept = s.kept := by
  unfold State.startLineFill
  simp only [↓kept_ite1, ite_self, ↓State.allocLine_kept, ↓State.count_kept]

theorem State.endLineFill_kept (s : State) (l : Nat) :
    (State.endLineFill s l).kept = s.kept := by
  unfold State.endLineFill
  split <;> simp only [↓kept_ite, ite_self, ↓State.setLine_kept]

/-! ### Ports.lean -/

theorem State.emit_kept (s : State) (o : Out) :
    (State.emit s o).kept = s.kept := by
  unfold State.emit
  split <;> simp only [kept_eta, ↓kept_mk, ↓kept_ite, ite_self, ↓State.countBy_kept]

theorem State.updLink_kept (s : State) (bulk : Bool) (f : LinkStream → LinkStream) :
    (State.updLink s bulk f).kept = s.kept := by
  unfold State.updLink
  simp only [kept_eta, ↓kept_mk, ↓kept_ite, ite_self]

theorem State.linkPut_kept (s : State) (bulk : Bool) (len : Nat) (o : Out) :
    (State.linkPut s bulk len o).kept = s.kept := by
  unfold State.linkPut
  simp only [↓State.emit_kept, ↓State.updLink_kept]

theorem State.linkSend_kept (s : State) (bulk : Bool) (len : Nat) (o : Out) :
    (State.linkSend s bulk len o).kept = s.kept := by
  unfold State.linkSend
  simp only [↓kept_ite, ite_self, ↓State.linkPut_kept, ↓State.updLink_kept]

theorem State.linkPump_kept (s : State) (bulk : Bool) (x2 : Nat) :
    (State.linkPump s bulk x2).kept = s.kept := by
  induction x2 generalizing s with
  | zero => rfl
  | succ n ih =>
    unfold State.linkPump
    split
    · split
      · rfl
      · refine (ih _).trans ?_
        simp only [↓State.linkPut_kept, ↓State.updLink_kept]
    · rfl

theorem State.updHome_kept (s : State) (h : Nat) (f : HomeSt → HomeSt) :
    (State.updHome s h f).kept = s.kept := by
  unfold State.updHome
  simp only [kept_eta, ↓kept_mk]

theorem State.quiet_kept (s : State) (h : Nat) (f : State → State) (h_f : ∀ a0, (f a0).kept = a0.kept) :
    (State.quiet s h f).kept = s.kept := by
  unfold State.quiet
  split <;> simp only [kept_eta, ↓kept_mk, ↓foldl_kept, implies_true, ↓State.setReg_kept, ↓h_f]

theorem State.updPort_kept (s : State) (p : Nat) (f : Port → Port) :
    (State.updPort s p f).kept = s.kept := by
  unfold State.updPort
  simp only [kept_eta, ↓kept_mk]

theorem State.wake_kept (s : State) (src : Nat) :
    (State.wake s src).kept = s.kept := by
  unfold State.wake
  simp only [kept_eta, ↓kept_mk, ↓kept_ite, ite_self, ↓State.count_kept, ↓State.put_kept, ↓State.setReg_kept]

theorem State.setPause_kept (s : State) (p : Nat) (c : Nat) (f : ClassSt → ClassSt) :
    (State.setPause s p c f).kept = s.kept := by
  unfold State.setPause
  simp only [↓kept_ite, ite_self, ↓State.count_kept, ↓State.emit_kept, ↓State.putB_kept, ↓State.updPort_kept]

theorem State.setPauseAll_kept (s : State) (f : ClassSt → ClassSt) :
    (State.setPauseAll s f).kept = s.kept := by
  unfold State.setPauseAll
  repeat' split
  all_goals simp only [↓kept_ite, ↓foldl_kept, ite_self, implies_true, ↓State.setPause_kept]

theorem State.bufferPause_kept (s : State) (p : Nat) (c : Nat) :
    (State.bufferPause s p c).kept = s.kept := by
  unfold State.bufferPause
  simp only [↓kept_ite, ite_self, ↓State.setPause_kept]

theorem State.bufferPauseAll_kept (s : State) :
    (State.bufferPauseAll s).kept = s.kept := by
  unfold State.bufferPauseAll
  repeat' split
  all_goals simp only [↓foldl_kept, implies_true, ↓State.bufferPause_kept]

/-! ### Tier.lean -/

theorem State.updRegion_kept (s : State) (base : Nat) (f : Region → Region) :
    (State.updRegion s base f).kept = s.kept := by
  unfold State.updRegion
  simp only [kept_eta, ↓kept_mk]

theorem State.setFrame_kept (s : State) (u : Nat) (f : Frame) :
    (State.setFrame s u f).kept = s.kept := by
  unfold State.setFrame
  simp only [kept_eta, ↓kept_mk]

theorem State.updFrame_kept (s : State) (u : Nat) (f : Frame → Frame) :
    (State.updFrame s u f).kept = s.kept := by
  unfold State.updFrame
  simp only [kept_eta, ↓kept_mk]

theorem State.setGranule_kept (s : State) (g : Nat) (x : Granule) :
    (State.setGranule s g x).kept = s.kept := by
  unfold State.setGranule
  simp only [kept_eta, ↓kept_mk]

theorem State.dirtyPause_kept (s : State) :
    (State.dirtyPause s).kept = s.kept := by
  unfold State.dirtyPause
  simp only [↓kept_ite, ite_self, ↓State.count_kept, ↓State.put_kept, ↓State.record_kept, ↓State.setPauseAll_kept]

theorem State.dropClaim_kept (s : State) (t : Nat) (g : Nat) :
    (State.dropClaim s t g).kept = s.kept := by
  unfold State.dropClaim
  simp only [↓State.setGranule_kept]

theorem State.access_kept (s : State) (t : Nat) (g : Nat) :
    (State.access s t g).kept = s.kept := by
  unfold State.access
  simp only [↓kept_ite, ↓State.setGranule_kept]
  repeat' split
  all_goals simp only [↓State.count_kept, ↓State.dropClaim_kept, ↓State.setGranule_kept]

theorem State.releaseFrame_kept (s : State) (u : Nat) :
    (State.releaseFrame s u).kept = s.kept := by
  unfold State.releaseFrame
  simp only [kept_eta, ↓kept_mk, ↓State.cleanInvUnit_kept]

theorem State.evict_kept (s : State) (g : Nat) :
    (State.evict s g).kept = s.kept := by
  unfold State.evict
  repeat' split
  all_goals simp only [↓foldl_kept, implies_true, ↓State.count_kept, ↓State.releaseFrame_kept]

theorem State.transientRoom_kept (s : State) :
    (State.transientRoom s).1.kept = s.kept := by
  unfold State.transientRoom
  simp only [↓kept_ite1]
  repeat' split
  all_goals simp only [↓State.releaseFrame_kept]

theorem State.roomFor_kept (s : State) (g : Nat) (quota : Nat) :
    (State.roomFor s g quota).1.kept = s.kept := by
  unfold State.roomFor
  repeat' split
  all_goals simp only [↓kept_ite, ↓kept_ite1, ite_self, ↓State.evict_kept, ↓State.put_kept, ↓State.record_kept, ↓State.setGranule_kept, ↓State.transientRoom_kept]

theorem State.startFill_kept (s : State) (u : Nat) :
    (State.startFill s u).kept = s.kept := by
  unfold State.startFill
  split <;> simp only [↓kept_ite, ite_self, ↓State.count_kept, ↓State.setFrame_kept]

theorem State.newFrame_kept (s : State) (u : Nat) (transient : Bool) :
    (State.newFrame s u transient).kept = s.kept := by
  unfold State.newFrame
  simp only [↓State.setFrame_kept]

theorem State.obtain_kept (s : State) (u : Nat) (quota : Nat) :
    (State.obtain s u quota).1.kept = s.kept := by
  unfold State.obtain
  simp only []
  repeat' split
  all_goals simp only [↓State.newFrame_kept, ↓State.roomFor_kept, ↓State.setFrame_kept]

theorem State.readyLine_kept (s : State) (needs : Bool) (quota : Nat) (l : Nat) :
    (State.readyLine s needs quota l).1.kept = s.kept := by
  unfold State.readyLine
  simp only []
  repeat' split
  all_goals simp only [↓State.count_kept, ↓State.obtain_kept, ↓State.startFill_kept, ↓State.startLineFill_kept]

theorem State.readyRange_kept (s : State) (isRead : Bool) (quota : Nat) (addr : Nat) (len : Nat) :
    (State.readyRange s isRead quota addr len).1.kept = s.kept := by
  unfold State.readyRange
  split <;> simp only [↓foldl_kept1, implies_true, ↓State.readyLine_kept]

theorem State.markWritten_kept (s : State) (addr : Nat) (len : Nat) (persistent : Bool) :
    (State.markWritten s addr len persistent).kept = s.kept := by
  unfold State.markWritten
  repeat' first
    | simp only [kept_eta, ↓kept_mk, ↓kept_ite, ite_self, ↓State.setFrame_kept]
    | split
    | refine (foldl_kept _ _ _ (fun s a => ?_)).trans ?_

theorem State.writeWords_kept (s : State) (addr : Nat) (len : Nat) :
    (State.writeWords s addr len).kept = s.kept := by
  unfold State.writeWords
  repeat' split
  all_goals simp only [kept_eta, ↓kept_mk, ↓kept_ite, ↓foldl_kept, ite_self, implies_true, ↓State.poolWrite_kept]

theorem State.unwrite_kept (s : State) (addr : Nat) (len : Nat) :
    (State.unwrite s addr len).kept = s.kept := by
  unfold State.unwrite
  simp only [kept_eta, ↓kept_mk]

theorem State.clearUncorr_kept (s : State) (addr : Nat) (len : Nat) :
    (State.clearUncorr s addr len).kept = s.kept := by
  unfold State.clearUncorr
  simp only [kept_eta, ↓kept_mk]

theorem State.noteChange_kept (s : State) (h : Nat) (addr : Nat) (len : Nat) :
    (State.noteChange s h addr len).kept = s.kept := by
  unfold State.noteChange
  simp only [↓kept_ite, ite_self, ↓State.updHome_kept]

theorem State.noteDirty_kept (s : State) (h : Nat) (addr : Nat) (len : Nat) :
    (State.noteDirty s h addr len).kept = s.kept := by
  unfold State.noteDirty
  simp only [↓State.updHome_kept]

theorem State.placeBytes_kept (s : State) (r : Region) (addr : Nat) (bs : List Byte) (twin : Bool) :
    (State.placeBytes s r addr bs twin).kept = s.kept := by
  unfold State.placeBytes
  split <;> simp only [↓kept_ite, ↓foldl_kept, ite_self, implies_true, ↓State.clearUncorr_kept, ↓State.markWritten_kept, ↓State.noteChange_kept, ↓State.noteDirty_kept, ↓State.writeLine_kept, ↓State.writeWords_kept]

theorem State.journalAdd_kept (s : State) (e : JEntry) :
    (State.journalAdd s e).kept = s.kept := by
  unfold State.journalAdd
  simp only [kept_eta, ↓kept_mk]

theorem State.unmap_kept (s : State) (u : Nat) :
    (State.unmap s u).kept = s.kept := by
  unfold State.unmap
  simp only [kept_eta, ↓kept_mk, ↓State.journalAdd_kept]

theorem State.trimRange_kept (s : State) (r : Region) (addr : Nat) (len : Nat) :
    (State.trimRange s r addr len).kept = s.kept := by
  unfold State.trimRange
  split <;> simp only [kept_eta, ↓kept_mk, ↓foldl_kept, implies_true, ↓State.clearUncorr_kept, ↓State.noteChange_kept, ↓State.unmap_kept, ↓State.unwrite_kept, ↓State.updFrame_kept]

theorem State.askHeal_kept (s : State) (h : Nat) (u : Nat) :
    (State.askHeal s h u).kept = s.kept := by
  unfold State.askHeal
  simp only [kept_eta, ↓kept_mk, ↓kept_ite, ite_self, ↓State.linkSend_kept]

/-! ### Protect.lean -/

theorem State.setPd_kept (s : State) (n : Nat) (p : Pd) :
    (State.setPd s n p).kept = s.kept := by
  unfold State.setPd
  simp only [kept_eta, ↓kept_mk]

theorem State.setKey_kept (s : State) (i : Nat) (k : Key) :
    (State.setKey s i k).kept = s.kept := by
  unfold State.setKey
  simp only [kept_eta, ↓kept_mk]

theorem State.cacheTouch_kept (s : State) (i : Nat) :
    (State.cacheTouch s i).kept = s.kept := by
  unfold State.cacheTouch
  simp only [kept_eta, ↓kept_mk]

theorem State.violation_kept (s : State) (qpn : Nat) (k : BitVec 32) (cause : Nat) (capsule : Bool) :
    (State.violation s qpn k cause capsule).kept = s.kept := by
  unfold State.violation
  simp only [↓kept_ite, ite_self, ↓State.count_kept, ↓State.put_kept, ↓State.putB_kept, ↓State.record_kept, ↓State.setReg_kept]

theorem State.issueKey_kept (s : State) (region : Nat) (off : Nat) (len : Nat) (rights : Rights) (aperture : Option Nat) :
    ∀ x, State.issueKey s region off len rights aperture = some x → x.1.kept = s.kept := by
  unfold State.issueKey
  intro x h
  repeat' first
    | cases h
    | split at h
    | simp only [↓State.setKey_kept]

theorem State.fenceStatus_kept (s : State) :
    (State.fenceStatus s).kept = s.kept := by
  unfold State.fenceStatus
  simp only [↓State.put_kept, ↓State.putB_kept]

/-! ### Transport.lean -/

theorem State.setQp_kept (s : State) (n : Nat) (q : Qp) :
    (State.setQp s n q).kept = s.kept := by
  unfold State.setQp
  simp only [kept_eta, ↓kept_mk]

theorem State.updQp_kept (s : State) (n : Nat) (f : Qp → Qp) :
    (State.updQp s n f).kept = s.kept := by
  unfold State.updQp
  simp only [kept_eta, ↓kept_mk]

theorem State.touchQp_kept (s : State) (n : Nat) :
    (State.touchQp s n).kept = s.kept := by
  unfold State.touchQp
  split <;> simp only [↓State.updHome_kept]

theorem State.sendData_kept (s : State) (h : Nat) (kind : Nat) (qpn : Nat) (psn : Psn) (addr : Nat) (aux : Nat) (key : BitVec 32) (bs : List Byte) (region : Nat) (txn : Nat) :
    (State.sendData s h kind qpn psn addr aux key bs region txn).1.kept = s.kept := by
  unfold State.sendData
  simp only [kept_eta, ↓kept_mk, ↓kept_ite1, ite_self, ↓State.count_kept, ↓State.linkSend_kept, ↓State.updHome_kept]

theorem State.mirrorWrite_kept (s : State) (h : Nat) (qpn : Nat) (psn : Psn) (addr : Nat) (key : BitVec 32) (bs : List Byte) (region : Nat) (txn : Nat) (msn : Nat) :
    (State.mirrorWrite s h qpn psn addr key bs region txn msn).1.kept = s.kept := by
  unfold State.mirrorWrite
  split <;> simp only [↓foldl_kept1, implies_true, ↓State.sendData_kept]

theorem State.sendRec_kept (s : State) (h : Nat) (kind : Nat) (qpn : Nat) (addr : Nat) (aux : Nat) (bs : List Byte) (k : RecKind) :
    (State.sendRec s h kind qpn addr aux bs k).1.kept = s.kept := by
  unfold State.sendRec
  simp only [kept_eta, ↓kept_mk, ↓kept_ite1, ite_self, ↓State.sendData_kept]

theorem State.addResp_kept (s : State) (h : Nat) :
    (State.addResp s h).kept = s.kept := by
  unfold State.addResp
  simp only [↓kept_ite, ite_self, ↓State.draw_kept, ↓State.updHome_kept]

theorem State.sendAck_kept (s : State) (n : Nat) (psn : Psn) :
    (State.sendAck s n psn).kept = s.kept := by
  unfold State.sendAck
  split <;> simp only [↓State.addResp_kept, ↓State.emit_kept, ↓State.updQp_kept]

theorem State.sendNak_kept (s : State) (n : Nat) (psn : Psn) (syndrome : Nat) :
    (State.sendNak s n psn syndrome).kept = s.kept := by
  unfold State.sendNak
  split <;> simp only [↓State.addResp_kept, ↓State.count_kept, ↓State.emit_kept, ↓State.updQp_kept]

theorem State.sent_kept (s : State) (n : Nat) (bytes : Nat) :
    (State.sent s n bytes).kept = s.kept := by
  unfold State.sent
  simp only [↓State.updQp_kept]

theorem State.sendReq_kept (s : State) (n : Nat) (q : Qp) (r : DevReq) :
    (State.sendReq s n q r).kept = s.kept := by
  unfold State.sendReq
  simp only [↓kept_ite, ite_self, ↓State.emit_kept, ↓State.sent_kept]

theorem sendPrefix_kept (s : State) (n : Nat) (q : Qp) (x3 : List DevReq) :
    (sendPrefix s n q x3).1.kept = s.kept := by
  induction x3 generalizing s with
  | nil => rfl
  | cons r rs ih =>
    unfold sendPrefix
    split
    · exact ih s
    · split
      · rfl
      · exact (ih _).trans (State.sendReq_kept _ _ _ _)

theorem State.pumpReqs_kept (s : State) (n : Nat) :
    (State.pumpReqs s n).kept = s.kept := by
  unfold State.pumpReqs
  split <;> simp only [↓kept_ite, ite_self, ↓State.updQp_kept, ↓sendPrefix_kept]

theorem State.newReq_kept (s : State) (n : Nat) (kind : ReqKind) (addr : Nat) (key : BitVec 32) (rlen : Nat) (data : List Byte) (imm : Option (BitVec 32)) (wait : Option Nat) :
    (State.newReq s n kind addr key rlen data imm wait).kept = s.kept := by
  unfold State.newReq
  split <;> simp only [↓State.pumpReqs_kept, ↓State.setQp_kept, ↓State.touchQp_kept]

theorem State.updQueue_kept (s : State) (qpn : Nat) (q : Nat) (f : Queue → Queue) :
    (State.updQueue s qpn q f).kept = s.kept := by
  unfold State.updQueue
  simp only [kept_eta, ↓kept_mk]

theorem State.updSlot_kept (s : State) (c : CapRef) (f : Slot → Slot) :
    (State.updSlot s c f).kept = s.kept := by
  unfold State.updSlot
  simp only [↓State.updQueue_kept]

theorem State.touchQueue_kept (s : State) (qpn : Nat) (q : Nat) :
    (State.touchQueue s qpn q).kept = s.kept := by
  unfold State.touchQueue
  split <;> simp only [↓State.updHome_kept]

theorem State.enterError_kept (s : State) (n : Nat) (cause : Nat) :
    (State.enterError s n cause).kept = s.kept := by
  unfold State.enterError
  split <;> simp only [kept_eta, ↓kept_mk, ↓State.count_kept, ↓State.record_kept, ↓State.setQp_kept, ↓State.touchQp_kept]

theorem State.freeQp_kept (s : State) (n : Nat) :
    (State.freeQp s n).kept = s.kept := by
  unfold State.freeQp
  split <;> simp only [kept_eta, ↓kept_mk, ↓kept_ite, ite_self, ↓State.touchQp_kept]

/-! ### Queues.lean -/

theorem State.postEntry_kept (s : State) (n : Nat) (nq : Bool) (queue : Nat) (idx : Nat) (addr : Nat) (entry : List Byte) (imm : Bool) :
    (State.postEntry s n nq queue idx addr entry imm).kept = s.kept := by
  unfold State.postEntry
  split <;> simp only [↓State.newReq_kept, ↓State.sendRec_kept]

theorem State.notify_kept (s : State) (n : Nat) (ring : Nat) (type : Nat) (queue : Nat) (arg0 : Nat) (arg1 : Nat) (key : Nat) :
    (State.notify s n ring type queue arg0 arg1 key).kept = s.kept := by
  unfold State.notify
  simp only []
  repeat' split
  all_goals simp only [↓State.count_kept, ↓State.postEntry_kept, ↓State.updQp_kept, ↓State.updQueue_kept]

theorem State.notifyAll_kept (s : State) (h : Nat) (type : Nat) (arg0 : Nat) (arg1 : Nat) :
    (State.notifyAll s h type arg0 arg1).kept = s.kept := by
  unfold State.notifyAll
  repeat' split
  all_goals simp only [↓foldl_kept, implies_true, ↓State.notify_kept]

theorem State.reportLost_kept (s : State) (n : Nat) (ring : Nat) :
    (State.reportLost s n ring).kept = s.kept := by
  unfold State.reportLost
  split <;> simp only [↓kept_ite, ite_self, ↓State.notify_kept, ↓State.record_kept, ↓State.updQueue_kept]

theorem State.complete_kept (s : State) (c : CapRef) (status : Nat) (result : Nat) (poison : Bool) :
    (State.complete s c status result poison).kept = s.kept := by
  unfold State.complete
  split <;> simp only [↓kept_ite, ite_self, ↓State.count_kept, ↓State.postEntry_kept, ↓State.record_kept, ↓State.touchQueue_kept, ↓State.updQp_kept, ↓State.updQueue_kept]

theorem State.failCap_kept (s : State) (c : CapRef) (status : Nat) (key : Nat) (off : Nat) (det : Nat) :
    (State.failCap s c status key off det).kept = s.kept := by
  unfold State.failCap
  simp only [↓State.complete_kept, ↓State.updSlot_kept]

theorem State.logTest_kept (s : State) (t : SelfTest) (result : Nat) (fields : List Byte) :
    (State.logTest s t result fields).kept = s.kept := by
  unfold State.logTest
  simp only [kept_eta, ↓kept_mk]

theorem State.testSoFar_kept (s : State) :
    (State.testSoFar s).1.kept = s.kept := by
  unfold State.testSoFar
  simp only [↓State.draw_kept]

theorem State.interruptTests_kept (s : State) (sel : SelfTest → Bool) :
    (State.interruptTests s sel).kept = s.kept := by
  unfold State.interruptTests
  repeat' split
  all_goals simp only [↓foldl_kept, implies_true, ↓State.logTest_kept, ↓State.testSoFar_kept]

theorem State.okCap_kept (s : State) (c : CapRef) (result : Nat) :
    (State.okCap s c result).kept = s.kept := by
  unfold State.okCap
  simp only [↓State.complete_kept]

end Sys2Proof.Machine
end

