-- ==== Sys2Proof/Laws/KeptNet.lean ====
section
/-! SUPPORT. Sys2Proof/Laws/KeptNet.lean: the transactions, the packets that arrive, the fetch and the capsules as such keep the queue, the clock
and the one-time values: one lemma for each operation. -/

namespace Sys2Proof.Machine

/-! ### Place.lean -/

theorem State.updTxn_kept (s : State) (id : Nat) (f : Txn → Txn) :
    (State.updTxn s id f).kept = s.kept := by
  unfold State.updTxn
  simp only [kept_eta, ↓kept_mk]

theorem State.dropTxn_kept (s : State) (id : Nat) :
    (State.dropTxn s id).kept = s.kept := by
  unfold State.dropTxn
  simp only [kept_eta, ↓kept_mk]

theorem State.acceptTxn_kept (s : State) (t : Txn) :
    (State.acceptTxn s t).kept = s.kept := by
  unfold State.acceptTxn
  simp only [kept_eta, ↓kept_mk]

theorem State.addTxn_kept (s : State) (t : Txn) :
    (State.addTxn s t).1.kept = s.kept := by
  unfold State.addTxn
  simp only [kept_eta, ↓kept_mk, ↓kept_ite1, ite_self, ↓State.acceptTxn_kept]

theorem State.acceptWaiting_kept (s : State) :
    (State.acceptWaiting s).kept = s.kept := by
  unfold State.acceptWaiting
  repeat' split
  all_goals simp only [↓kept_ite1, ↓foldl_kept1, ite_self, implies_true, ↓State.acceptTxn_kept]

theorem State.touchRange_kept (s : State) (r : Region) (addr : Nat) (len : Nat) :
    (State.touchRange s r addr len).kept = s.kept := by
  unfold State.touchRange
  split <;> simp only [↓foldl_kept, implies_true, ↓State.access_kept]

theorem State.mirrorTxn_kept (s : State) (t : Txn) (r : Region) (kind : Nat) (aux : Nat) (bs : List Byte) :
    (State.mirrorTxn s t r kind aux bs).1.kept = s.kept := by
  unfold State.mirrorTxn
  simp only [↓kept_ite, ↓kept_ite1, ite_self, ↓State.mirrorWrite_kept, ↓State.sendData_kept, ↓State.sendRec_kept, ↓State.updRegion_kept]

theorem State.arm_kept (s : State) (t : Txn) (r : Region) :
    (State.arm s t r).1.kept = s.kept := by
  unfold State.arm
  repeat' split
  all_goals simp only [↓State.sendRec_kept, ↓State.updRegion_kept]

theorem State.noteDeep_kept (s : State) (t : Txn) (r : Region) :
    (State.noteDeep s t r).kept = s.kept := by
  unfold State.noteDeep
  simp only [kept_eta, ↓kept_mk, ↓kept_ite, ite_self]

theorem State.finishWrite_kept (s : State) (t : Txn) (r : Region) (kind : Nat) (aux : Nat) (bs : List Byte) (place : State → State) (h_place : ∀ a0, (place a0).kept = a0.kept) :
    (State.finishWrite s t r kind aux bs place).kept = s.kept := by
  unfold State.finishWrite
  simp only [↓State.arm_kept, ↓State.dirtyPause_kept, ↓State.mirrorTxn_kept, ↓State.noteDeep_kept, ↓State.updTxn_kept, ↓h_place]

theorem State.saveAtomic_kept (s : State) (n : Nat) (psn : Psn) (v : BitVec 64) :
    (State.saveAtomic s n psn v).kept = s.kept := by
  unfold State.saveAtomic
  simp only [↓State.updQp_kept]

theorem State.placeAtomic_kept (s : State) (t : Txn) (r : Region) (f : BitVec 64 → BitVec 64) (failed : Bool) :
    (State.placeAtomic s t r f failed).kept = s.kept := by
  unfold State.placeAtomic
  split <;> simp only [implies_true, ↓State.finishWrite_kept, ↓State.placeBytes_kept, ↓State.saveAtomic_kept, ↓State.updTxn_kept]

theorem State.placeRead_kept (s : State) (t : Txn) (r : Region) :
    (State.placeRead s t r).kept = s.kept := by
  unfold State.placeRead
  simp only [↓kept_ite, ite_self, ↓State.count_kept, ↓State.updTxn_kept]

theorem State.placeNow_kept (s : State) (t : Txn) (r : Region) :
    (State.placeNow s t r).kept = s.kept := by
  obtain ⟨id, ord, home, qpn, slice, cap, seg, op⟩ := t
  cases op
  case write d =>
    show (State.kept (if _ then _ else _)) = _
    simp only [↓kept_ite, ite_self, implies_true, ↓State.finishWrite_kept, ↓State.placeBytes_kept, ↓State.updTxn_kept]
  case zero =>
    show (State.kept (if _ then _ else _)) = _
    simp only [↓kept_ite, ite_self, implies_true, ↓State.finishWrite_kept, ↓State.placeBytes_kept, ↓State.updTxn_kept]
  case trim => exact State.finishWrite_kept _ _ _ _ _ _ _ (fun s => State.trimRange_kept s _ _ _)
  case atomicCas => exact State.placeAtomic_kept _ _ _ _ _
  case atomicAdd => exact State.placeAtomic_kept _ _ _ _ _
  case read => exact State.placeRead_kept _ _ _
  case copySrc => exact State.placeRead_kept _ _ _
  all_goals exact State.updTxn_kept _ _ _

theorem State.tryTxn_kept (s : State) (id : Nat) :
    (State.tryTxn s id).kept = s.kept := by
  unfold State.tryTxn
  repeat' first
    | simp only [↓kept_ite, ↓foldl_kept, ite_self, implies_true, ↓State.askHeal_kept, ↓State.hitLine_kept, ↓State.placeNow_kept, ↓State.readyRange_kept, ↓State.setReg_kept, ↓State.touchRange_kept, ↓State.updTxn_kept]
    | refine ite_kept ?_ ?_
    | split
    | refine (foldl_kept _ _ _ (fun s a => ?_)).trans ?_

theorem State.placeAll_kept (s : State) :
    (State.placeAll s).kept = s.kept := by
  unfold State.placeAll
  repeat' split
  all_goals simp only [↓foldl_kept, implies_true, ↓State.tryTxn_kept]

theorem State.advance_kept (s : State) (t : Txn) :
    (State.advance s t).kept = s.kept := by
  unfold State.advance
  simp only [↓kept_ite, ite_self, ↓State.touchQp_kept, ↓State.updQp_kept]

theorem State.notifyPoison_kept (s : State) (t : Txn) (ring : Nat) (queue : Nat) :
    (State.notifyPoison s t ring queue).kept = s.kept := by
  unfold State.notifyPoison
  split <;> simp only [↓State.notify_kept]

theorem State.fatalNak_kept (s : State) (n : Nat) (psn : Psn) (syndrome : Nat) :
    (State.fatalNak s n psn syndrome).kept = s.kept := by
  unfold State.fatalNak
  simp only [↓State.enterError_kept, ↓State.sendNak_kept]

theorem State.ackDue_kept (s : State) (t : Txn) :
    (State.ackDue s t).kept = s.kept := by
  unfold State.ackDue
  split <;> simp only [↓kept_ite, ite_self, ↓State.sendAck_kept, ↓State.updQp_kept]

theorem State.respond_kept (s : State) (t : Txn) :
    (State.respond s t).kept = s.kept := by
  unfold State.respond
  simp only []
  repeat' split
  all_goals simp only [↓State.ackDue_kept, ↓State.addResp_kept, ↓State.advance_kept, ↓State.count_kept, ↓State.dropTxn_kept, ↓State.emit_kept, ↓State.fatalNak_kept, ↓State.notifyPoison_kept, ↓State.sendNak_kept, ↓State.sent_kept, ↓State.updQp_kept, ↓State.updRegion_kept]

theorem State.pumpQp_kept (s : State) (n : Nat) (x2 : Nat) :
    (State.pumpQp s n x2).kept = s.kept := by
  induction x2 generalizing s with
  | zero => rfl
  | succ k ih =>
    unfold State.pumpQp
    dsimp only
    split
    · exact (ih _).trans (State.respond_kept _ _)
    · split
      · split
        · exact (ih _).trans (State.respond_kept _ _)
        · rfl
      · rfl

theorem State.pumpAll_kept (s : State) :
    (State.pumpAll s).kept = s.kept := by
  unfold State.pumpAll
  repeat' split
  all_goals simp only [↓foldl_kept, implies_true, ↓State.pumpQp_kept, ↓State.quiet_kept]

theorem State.failSeg_kept (s : State) (c : CapRef) (status : Nat) (key : Nat) (off : Nat) (det : Nat) :
    (State.failSeg s c status key off det).kept = s.kept := by
  unfold State.failSeg
  simp only [↓State.updSlot_kept]

theorem State.endCap_kept (s : State) (c : CapRef) :
    (State.endCap s c).kept = s.kept := by
  unfold State.endCap
  split <;> simp only [↓kept_ite, ite_self, ↓State.complete_kept]

theorem State.segTxn_kept (s : State) (c : CapRef) (seg : Nat) (key : BitVec 32) (off : Nat) (len : Nat) (right : Nat) (op : TxnOp) :
    (State.segTxn s c seg key off len right op).kept = s.kept := by
  unfold State.segTxn
  repeat' split
  all_goals simp only [↓State.addTxn_kept, ↓State.endCap_kept, ↓State.failSeg_kept, ↓State.updSlot_kept, ↓State.violation_kept]

theorem State.segPoison_kept (s : State) (c : CapRef) (t : Txn) (isRead : Bool) :
    (State.segPoison s c t isRead).kept = s.kept := by
  unfold State.segPoison
  split <;> simp only [↓kept_ite, ite_self, ↓State.count_kept, ↓State.failSeg_kept, ↓State.notifyPoison_kept, ↓State.updSlot_kept]

theorem State.copyWrite_kept (s : State) (c : CapRef) (seg : Nat) (dst : Nat) (dkey : BitVec 32) (data : List Byte) :
    (State.copyWrite s c seg dst dkey data).kept = s.kept := by
  unfold State.copyWrite
  simp only [↓State.segTxn_kept]

theorem State.copyRest_kept (s : State) (c : CapRef) (dkey : BitVec 32) :
    (State.copyRest s c dkey).kept = s.kept := by
  unfold State.copyRest
  split <;> simp only [↓kept_ite, ↓foldl_kept, ite_self, implies_true, ↓State.copyWrite_kept, ↓State.endCap_kept, ↓State.updSlot_kept]

theorem State.finishSeg_kept (s : State) (t : Txn) (c : CapRef) :
    (State.finishSeg s t c).kept = s.kept := by
  unfold State.finishSeg
  simp only []
  repeat' split
  all_goals simp only [↓foldl_kept, implies_true, ↓State.copyRest_kept, ↓State.copyWrite_kept, ↓State.dropTxn_kept, ↓State.endCap_kept, ↓State.failCap_kept, ↓State.newReq_kept, ↓State.okCap_kept, ↓State.segPoison_kept, ↓State.updRegion_kept, ↓State.updSlot_kept]

theorem State.finishCaps_kept (s : State) :
    (State.finishCaps s).kept = s.kept := by
  unfold State.finishCaps
  repeat' first
    | simp only [↓kept_ite, ite_self, implies_true, ↓State.finishSeg_kept, ↓State.quiet_kept]
    | split
    | refine (foldl_kept _ _ _ (fun s a => ?_)).trans ?_

theorem State.beginSegs_kept (s : State) (c : CapRef) (x2 : Nat) :
    (State.beginSegs s c x2).kept = s.kept := by
  induction x2 generalizing s with
  | zero => rfl
  | succ k ih =>
    unfold State.beginSegs
    dsimp only
    repeat' first
      | rfl
      | refine (ih _).trans ?_
      | simp only [↓State.newReq_kept, ↓State.segTxn_kept, ↓State.updSlot_kept]
      | split

theorem State.dropTransient_kept (s : State) :
    (State.dropTransient s).kept = s.kept := by
  unfold State.dropTransient
  repeat' split
  all_goals simp only [↓foldl_kept, implies_true, ↓State.releaseFrame_kept]

theorem State.settle1_kept (s : State) :
    (State.settle1 s).kept = s.kept := by
  unfold State.settle1
  repeat' split
  all_goals simp only [↓foldl_kept, implies_true, ↓State.acceptWaiting_kept, ↓State.beginSegs_kept, ↓State.finishCaps_kept, ↓State.placeAll_kept, ↓State.pumpAll_kept]

theorem State.settleRounds_kept (s : State) (x1 : Nat) :
    (State.settleRounds s x1).kept = s.kept := by
  induction x1 generalizing s with
  | zero => rfl
  | succ k ih =>
    unfold State.settleRounds
    split
    · exact State.settle1_kept s
    · exact (ih _).trans (State.settle1_kept s)

theorem State.settle_kept (s : State) :
    (State.settle s).kept = s.kept := by
  unfold State.settle
  simp only [↓State.dirtyPause_kept, ↓State.dropTransient_kept, ↓State.settleRounds_kept]

theorem State.retry_kept (s : State) (f : Txn → Txn) :
    (State.retry s f).kept = s.kept := by
  unfold State.retry
  simp only [kept_eta, ↓kept_mk, ↓State.settle_kept]

theorem State.retryFill_kept (s : State) (u : Nat) :
    (State.retryFill s u).kept = s.kept := by
  unfold State.retryFill
  simp only [↓State.retry_kept]

/-! ### Ingress.lean -/

theorem State.missPause_kept (s : State) (k : Nat) :
    (State.missPause s k).kept = s.kept := by
  unfold State.missPause
  repeat' split
  all_goals simp only [kept_eta, ↓kept_mk, ↓kept_ite, ↓foldl_kept, ite_self, implies_true, ↓State.countMax_kept, ↓State.record_kept, ↓State.setPause_kept, ↓State.setPauseAll_kept]

theorem State.hold_kept (s : State) (p : Pkt) (req : Req) (why : HoldWhy) :
    (State.hold s p req why).kept = s.kept := by
  unfold State.hold
  simp only [kept_eta, ↓kept_mk, ↓kept_ite, ite_self, ↓State.bufferPause_kept, ↓State.missPause_kept]

theorem State.queueNak_kept (s : State) (n : Nat) (psn : Psn) (syn : Nat) :
    (State.queueNak s n psn syn).kept = s.kept := by
  unfold State.queueNak
  split <;> simp only [↓kept_ite, ite_self, ↓State.addTxn_kept, ↓State.updQp_kept]

theorem State.toRts_kept (s : State) (n : Nat) :
    (State.toRts s n).kept = s.kept := by
  unfold State.toRts
  split <;> simp only [↓kept_ite, ite_self, ↓State.newReq_kept, ↓State.touchQp_kept, ↓State.updQp_kept]

theorem State.expect_kept (s : State) (n : Nat) (psn : Psn) (count : Nat) (kind : MsgKind) (ends : Bool) :
    (State.expect s n psn count kind ends).kept = s.kept := by
  unfold State.expect
  simp only [↓State.toRts_kept, ↓State.touchQp_kept, ↓State.updQp_kept]

theorem State.withKey_kept (s : State) (p : Pkt) (req : Req) (q : Qp) (key : BitVec 32) (off : Nat) (len : Nat) (right : Nat) (x : Extent) (go : Key → State → State) (h_go : ∀ a0 a1, (go a0 a1).kept = a1.kept) :
    (State.withKey s p req q key off len right x go).kept = s.kept := by
  unfold State.withKey
  simp only [↓kept_ite, ↓State.count_kept, ↓State.hold_kept]
  repeat' split
  all_goals simp only [↓State.cacheTouch_kept, ↓State.hold_kept, ↓State.queueNak_kept, ↓State.violation_kept, ↓h_go]

theorem State.hostTxn_kept (s : State) (p : Pkt) (q : Qp) (op : TxnOp) (region : Nat) (addr : Nat) (len : Nat) (key : BitVec 32) (count : Nat) (ackReq : Bool) (ends : Bool) :
    (State.hostTxn s p q op region addr len key count ackReq ends).kept = s.kept := by
  unfold State.hostTxn
  simp only [↓State.addTxn_kept]

theorem State.msgDone_kept (s : State) (n : Nat) :
    (State.msgDone s n).kept = s.kept := by
  unfold State.msgDone
  simp only [kept_eta, ↓kept_mk]

theorem State.sinkClose_kept (s : State) (p : Pkt) (q : Qp) (k : Sink) (hdr : Nat) (len : Nat) (imm : Option (BitVec 32)) (writeImm : Bool) :
    (State.sinkClose s p q k hdr len imm writeImm).kept = s.kept := by
  unfold State.sinkClose
  simp only [↓State.hostTxn_kept, ↓State.updQp_kept]

theorem State.sinkCheck_kept (s : State) (p : Pkt) (q : Qp) (go : Sink → State → State) (h_go : ∀ a0 a1, (go a0 a1).kept = a1.kept) :
    (State.sinkCheck s p q go).kept = s.kept := by
  unfold State.sinkCheck
  split <;> simp only [↓kept_ite, ite_self, ↓State.queueNak_kept, ↓h_go]

theorem State.applyDoorbell_kept (s : State) (n : Nat) (queue : Nat) (slot : Nat) (v : Nat) :
    (State.applyDoorbell s n queue slot v).kept = s.kept := by
  unfold State.applyDoorbell
  split <;> simp only [↓kept_ite, ite_self, ↓State.reportLost_kept, ↓State.touchQueue_kept, ↓State.updQueue_kept]

theorem State.doorbell_kept (s : State) (p : Pkt) (q : Qp) (off : Nat) (v : Nat) :
    (State.doorbell s p q off v).kept = s.kept := by
  unfold State.doorbell
  simp only []
  repeat' split
  all_goals simp only [↓State.addTxn_kept, ↓State.applyDoorbell_kept, ↓State.count_kept, ↓State.expect_kept, ↓State.notify_kept, ↓State.record_kept, ↓State.sendRec_kept]

theorem State.badHeader_kept (s : State) (p : Pkt) (req : Req) :
    (State.badHeader s p req).kept = s.kept := by
  unfold State.badHeader
  simp only [↓State.hold_kept]

theorem State.recheck_kept (s : State) (p : Pkt) (q : Qp) (m : OpenMsg) (len : Nat) (go : State → State) (h_go : ∀ a0, (go a0).kept = a0.kept) :
    (State.recheck s p q m len go).kept = s.kept := by
  unfold State.recheck
  repeat' split
  all_goals simp only [↓State.queueNak_kept, ↓State.violation_kept, ↓h_go]

theorem State.takeWrite_kept (s : State) (p : Pkt) (q : Qp) (pos : Pos) (reth : Option Reth) (imm : Option (BitVec 32)) (data : List Byte) :
    (State.takeWrite s p q pos reth imm data).kept = s.kept := by
  unfold State.takeWrite
  simp only []
  repeat' split
  all_goals simp only [↓kept_ite, ite_self, implies_true, ↓State.badHeader_kept, ↓State.doorbell_kept, ↓State.expect_kept, ↓State.hold_kept, ↓State.hostTxn_kept, ↓State.msgDone_kept, ↓State.queueNak_kept, ↓State.recheck_kept, ↓State.sinkCheck_kept, ↓State.sinkClose_kept, ↓State.updQp_kept, ↓State.violation_kept, ↓State.withKey_kept]

theorem State.takeSend_kept (s : State) (p : Pkt) (q : Qp) (pos : Pos) (imm : Option (BitVec 32)) (data : List Byte) :
    (State.takeSend s p q pos imm data).kept = s.kept := by
  unfold State.takeSend
  repeat' split
  all_goals simp only [↓kept_ite, ite_self, implies_true, ↓State.badHeader_kept, ↓State.expect_kept, ↓State.hold_kept, ↓State.hostTxn_kept, ↓State.msgDone_kept, ↓State.queueNak_kept, ↓State.recheck_kept, ↓State.sinkCheck_kept, ↓State.sinkClose_kept, ↓State.updQp_kept, ↓State.withKey_kept]

theorem State.takeOther_kept (s : State) (p : Pkt) (q : Qp) (req : Req) (dup : Bool) :
    (State.takeOther s p q req dup).kept = s.kept := by
  unfold State.takeOther
  repeat' split
  all_goals simp only [↓kept_ite, ite_self, implies_true, ↓State.addTxn_kept, ↓State.badHeader_kept, ↓State.count_kept, ↓State.expect_kept, ↓State.hostTxn_kept, ↓State.withKey_kept]

theorem State.takeExpected_kept (s : State) (p : Pkt) (q : Qp) (req : Req) :
    (State.takeExpected s p q req).kept = s.kept := by
  unfold State.takeExpected
  split <;> simp only [↓State.badHeader_kept, ↓State.takeOther_kept, ↓State.takeSend_kept, ↓State.takeWrite_kept]

theorem State.duplicate_kept (s : State) (p : Pkt) (q : Qp) (req : Req) :
    (State.duplicate s p q req).kept = s.kept := by
  unfold State.duplicate
  repeat' split
  all_goals simp only [↓State.addResp_kept, ↓State.badHeader_kept, ↓State.count_kept, ↓State.emit_kept, ↓State.queueNak_kept, ↓State.sendAck_kept, ↓State.takeOther_kept, ↓State.updQp_kept]

theorem State.ahead_kept (s : State) (p : Pkt) (q : Qp) :
    (State.ahead s p q).1.kept = s.kept := by
  unfold State.ahead
  simp only [↓kept_ite1, ite_self, ↓State.notify_kept, ↓State.queueNak_kept, ↓State.record_kept, ↓State.touchQp_kept, ↓State.updQp_kept]

theorem State.stage3_kept (s : State) (p : Pkt) (req : Req) :
    (State.stage3 s p req).kept = s.kept := by
  unfold State.stage3
  simp only []
  repeat' split
  all_goals simp only [↓State.ahead_kept, ↓State.duplicate_kept, ↓State.queueNak_kept, ↓State.takeExpected_kept]

theorem State.sendRewind_kept (s : State) (n : Nat) :
    (State.sendRewind s n).kept = s.kept := by
  unfold State.sendRewind
  split <;> simp only [↓kept_ite, ite_self, ↓State.count_kept, ↓State.sendNak_kept, ↓State.updQp_kept]

theorem State.stage2_kept (s : State) (p : Pkt) (req : Req) :
    (State.stage2 s p req).kept = s.kept := by
  unfold State.stage2
  simp only []
  repeat' split
  all_goals simp only [↓State.hold_kept, ↓State.stage3_kept, ↓State.updQp_kept]

theorem State.linkIn_kept (s : State) (p : Pkt) :
    (State.linkIn s p).1.kept = s.kept := by
  unfold State.linkIn
  simp only [↓kept_ite1, ite_self, ↓State.count_kept, ↓State.record_kept]

theorem State.cnpDue_kept (s : State) (p : Pkt) :
    (State.cnpDue s p).kept = s.kept := by
  unfold State.cnpDue
  simp only []
  repeat' split
  all_goals simp only [↓State.count_kept, ↓State.emit_kept, ↓State.updQp_kept]

theorem State.headerIn_kept (s : State) (p : Pkt) :
    (State.headerIn s p).1.kept = s.kept := by
  unfold State.headerIn
  simp only [↓kept_ite1, ↓State.count_kept]
  repeat' split
  all_goals simp only [↓State.cnpDue_kept, ↓State.count_kept, ↓State.touchQp_kept, ↓State.updQp_kept, ↓State.wake_kept]

theorem State.ingress_kept (s : State) (p : Pkt) (req : Req) :
    (State.ingress s p req).kept = s.kept := by
  unfold State.ingress
  simp only [↓kept_ite, ↓State.headerIn_kept, ↓State.linkIn_kept]
  repeat' split
  all_goals simp only [↓State.headerIn_kept, ↓State.linkIn_kept, ↓State.sendRewind_kept, ↓State.settle_kept, ↓State.stage2_kept]

theorem State.refeed_kept (s : State) (f : Held → Option (State → State))
    (h_f : ∀ h g, f h = some g → ∀ s, (g s).kept = s.kept) : (State.refeed s f).kept = s.kept := by
  unfold State.refeed
  simp only [↓State.settle_kept, ↓State.bufferPauseAll_kept, ↓foldl_kept, ↓State.missPause_kept, implies_true]
  refine (foldl_kept _ _ _ (fun s a => ?_)).trans rfl
  split
  · exact h_f _ _ (by assumption) s
  · simp only [kept_eta, ↓kept_mk, ↓kept_ite, ite_self, ↓State.stage2_kept]

theorem State.refeedWhere_kept (s : State) (f : Held → Bool) :
    (State.refeedWhere s f).kept = s.kept := by
  refine State.refeed_kept _ _ (fun h g hg s => ?_)
  split at hg
  · cases hg
    exact State.stage2_kept _ _ _
  · cases hg

/-! ### Fetch.lean -/

theorem State.activate_kept (s : State) (n : Nat) :
    (State.activate s n).kept = s.kept := by
  unfold State.activate
  repeat' split
  all_goals simp only [kept_eta, ↓kept_mk, ↓kept_ite, ↓foldl_kept, ite_self, implies_true, ↓State.notify_kept, ↓State.touchQueue_kept, ↓State.updQp_kept]

theorem State.bind_kept (s : State) (n : Nat) (bs : List Byte) :
    (State.bind s n bs).kept = s.kept := by
  unfold State.bind
  simp only []
  repeat' split
  all_goals simp only [kept_eta, ↓kept_mk, ↓foldl_kept, implies_true, ↓State.activate_kept, ↓State.emit_kept, ↓State.record_kept, ↓State.sendData_kept, ↓State.sendRec_kept, ↓State.updQp_kept]

theorem State.grant_kept (s : State) (key : Nat) :
    (State.grant s key).kept = s.kept := by
  unfold State.grant
  split <;> simp only [↓foldl_kept, implies_true, ↓State.newReq_kept, ↓State.touchQueue_kept, ↓State.updQueue_kept]

theorem State.fetchGrant_kept (s : State) (h : Nat) :
    (State.fetchGrant s h).kept = s.kept := by
  unfold State.fetchGrant
  simp only [↓kept_ite]
  repeat' split
  all_goals simp only [kept_eta, ↓kept_mk, ↓State.grant_kept]

theorem State.fetched_kept (s : State) (n : Nat) (k : Nat) (first : Nat) (count : Nat) (bs : List Byte) :
    (State.fetched s n k first count bs).kept = s.kept := by
  unfold State.fetched
  split <;> simp only [↓State.countBy_kept, ↓State.sendRec_kept, ↓State.updQueue_kept]

theorem State.setReqs_kept (s : State) (n : Nat) (reqs : List DevReq) :
    (State.setReqs s n reqs).kept = s.kept := by
  unfold State.setReqs
  split <;> simp only [↓kept_ite, ite_self, ↓State.setQp_kept, ↓State.touchQp_kept]

theorem State.resend_kept (s : State) (n : Nat) :
    (State.resend s n).kept = s.kept := by
  unfold State.resend
  split <;> simp only [↓kept_ite, ite_self, ↓State.count_kept, ↓State.enterError_kept, ↓State.pumpReqs_kept, ↓State.record_kept, ↓State.setQp_kept]

/-! ### ColonyOps.lean -/

theorem State.updCol_kept (s : State) (f : Colony → Colony) :
    (State.updCol s f).kept = s.kept := by
  unfold State.updCol
  simp only [kept_eta, ↓kept_mk]

theorem State.colSend_kept (s : State) (peer : Option Nat) (m : ColMsg) (why : ColWhy) :
    (State.colSend s peer m why).kept = s.kept := by
  unfold State.colSend
  simp only [↓State.emit_kept, ↓State.updCol_kept]

theorem State.colAnswer_kept (s : State) (peer : Option Nat) (txn : Nat) (m : ColMsg) :
    (State.colAnswer s peer txn m).kept = s.kept := by
  unfold State.colAnswer
  simp only [↓State.emit_kept]

theorem State.colCounts_kept (s : State) :
    (State.colCounts s).kept = s.kept := by
  unfold State.colCounts
  simp only [↓State.put_kept, ↓State.setReg_kept]

theorem State.blocksLow_kept (s : State) :
    (State.blocksLow s).kept = s.kept := by
  unfold State.blocksLow
  simp only [↓kept_ite, ite_self, ↓State.record_kept]

theorem State.askBlock_kept (s : State) :
    (State.askBlock s).kept = s.kept := by
  unfold State.askBlock
  simp only [↓kept_ite, ite_self, ↓State.colSend_kept]

theorem State.okCapKeys_kept (s : State) (c : CapRef) (result : Nat) (keys : List (Nat × Bool)) (destroyed : List Nat) :
    (State.okCapKeys s c result keys destroyed).kept = s.kept := by
  unfold State.okCapKeys
  simp only [↓kept_ite, ite_self, ↓State.askBlock_kept, ↓State.colSend_kept, ↓State.okCap_kept]

theorem State.redirect_kept (s : State) (n : Nat) (key : Nat) (ip : BitVec 128) :
    (State.redirect s n key ip).kept = s.kept := by
  unfold State.redirect
  simp only [↓State.notify_kept]

theorem State.redirectKey_kept (s : State) (n : Nat) (qp : Qp) (key : BitVec 32) (cause : Nat) :
    (State.redirectKey s n qp key cause).kept = s.kept := by
  unfold State.redirectKey
  repeat' split
  all_goals simp only [↓State.redirect_kept]

theorem State.createAt_kept (s : State) (r : ColCreate) (cap : Option CapRef) (up : Nat) (tried : List Nat) :
    (State.createAt s r cap up tried).kept = s.kept := by
  unfold State.createAt
  repeat' split
  all_goals simp only [↓State.colAnswer_kept, ↓State.colSend_kept, ↓State.failCap_kept]

/-! ### Capsule.lean -/

theorem State.startCap_kept (s : State) (c : CapRef) (row : CapRow) (go : Qp → List Byte → State → State) (h_go : ∀ a0 a1 a2, (go a0 a1 a2).kept = a2.kept) :
    (State.startCap s c row go).kept = s.kept := by
  unfold State.startCap
  split <;> simp only [↓kept_ite, ite_self, ↓State.failCap_kept, ↓State.settle_kept, ↓State.updSlot_kept, ↓h_go]

theorem State.capCheck_kept (s : State) (c : CapRef) (qp : Qp) (key : BitVec 32) (off : Nat) (len : Nat) (right : Nat) (isTrim : Bool) (go : Key → State → State) (h_go : ∀ a0 a1, (go a0 a1).kept = a1.kept) :
    (State.capCheck s c qp key off len right isTrim go).kept = s.kept := by
  unfold State.capCheck
  simp only []
  repeat' split
  all_goals simp only [↓State.failCap_kept, ↓State.redirectKey_kept, ↓State.violation_kept, ↓h_go]

theorem State.adminKey_kept (s : State) (c : CapRef) (qp : Qp) (key : BitVec 32) (go : Key → Region → State → State) (tell : Bool) (h_go : ∀ a0 a1 a2, (go a0 a1 a2).kept = a2.kept) :
    (State.adminKey s c qp key go tell).kept = s.kept := by
  unfold State.adminKey
  repeat' split
  all_goals simp only [↓State.failCap_kept, ↓State.redirectKey_kept, ↓State.violation_kept, ↓h_go]

theorem State.toHost_kept (s : State) (c : CapRef) (bs : List Byte) (data : List Byte) :
    (State.toHost s c bs data).kept = s.kept := by
  unfold State.toHost
  simp only [↓kept_ite, ite_self, ↓State.newReq_kept]

theorem State.setSegs_kept (s : State) (c : CapRef) (n : Nat) (begun : Nat) :
    (State.setSegs s c n begun).kept = s.kept := by
  unfold State.setSegs
  simp only [↓State.updSlot_kept]

theorem State.capRead_kept (s : State) (c : CapRef) (qp : Qp) (bs : List Byte) :
    (State.capRead s c qp bs).kept = s.kept := by
  unfold State.capRead
  split <;> simp only [↓foldl_kept, implies_true, ↓State.capCheck_kept, ↓State.okCap_kept, ↓State.segTxn_kept, ↓State.setSegs_kept]

theorem State.capWrite_kept (s : State) (c : CapRef) (qp : Qp) (bs : List Byte) :
    (State.capWrite s c qp bs).kept = s.kept := by
  unfold State.capWrite
  split <;> simp only [implies_true, ↓State.capCheck_kept, ↓State.okCap_kept, ↓State.setSegs_kept]

theorem State.capCopy_kept (s : State) (c : CapRef) (qp : Qp) (bs : List Byte) :
    (State.capCopy s c qp bs).kept = s.kept := by
  unfold State.capCopy
  split <;> simp only [implies_true, ↓State.capCheck_kept, ↓State.okCap_kept, ↓State.setSegs_kept]

theorem State.capOne_kept (s : State) (c : CapRef) (qp : Qp) (bs : List Byte) (align : Nat) (op : TxnOp) :
    (State.capOne s c qp bs align op).kept = s.kept := by
  unfold State.capOne
  split <;> simp only [↓kept_ite, ite_self, implies_true, ↓State.addTxn_kept, ↓State.capCheck_kept, ↓State.failCap_kept, ↓State.okCap_kept, ↓State.setSegs_kept]

theorem State.capFlushTxn_kept (s : State) (c : CapRef) (qp : Qp) (deep : Bool) :
    (State.capFlushTxn s c qp deep).kept = s.kept := by
  unfold State.capFlushTxn
  simp only [↓State.addTxn_kept, ↓State.setSegs_kept]

theorem State.capResume_kept (s : State) (c : CapRef) (bs : List Byte) (replay : Bool) :
    (State.capResume s c bs replay).kept = s.kept := by
  unfold State.capResume
  simp only [↓kept_ite, ↓State.failCap_kept]
  repeat' split
  all_goals simp only [↓State.failCap_kept, ↓State.okCap_kept, ↓State.touchQueue_kept, ↓State.updQueue_kept]

end Sys2Proof.Machine
end

