-- ==== Sys2Proof/Laws/KeptCaps.lean ====
section
/-! SUPPORT. Sys2Proof/Laws/KeptCaps.lean: the capsules on regions and objects, the connections, and the commands of ports, tiers and data capsules keep the queue, the clock
and the one-time values: one lemma for each operation. -/

namespace Sys2Proof.Machine

/-! ### RegionOps.lean -/

theorem State.noteKey_kept (s : State) (h : Nat) (i : Nat) :
    (State.noteKey s h i).kept = s.kept := by
  unfold State.noteKey
  simp only [↓State.updHome_kept]

theorem State.noteRegion_kept (s : State) (gone : Bool) (base : Nat) (r : Region) :
    (State.noteRegion s gone base r).kept = s.kept := by
  unfold State.noteRegion
  simp only [↓State.updHome_kept]

theorem State.changeKey_kept (s : State) (h : Nat) (i : Nat) (f : Key → Key) :
    (State.changeKey s h i f).kept = s.kept := by
  unfold State.changeKey
  simp only [kept_eta, ↓kept_mk, ↓State.noteKey_kept]

theorem State.fenceWrite_kept (s : State) (f : Fence) :
    (State.fenceWrite s f).kept = s.kept := by
  unfold State.fenceWrite
  simp only []
  repeat' split
  all_goals simp only [↓foldl_kept, implies_true, ↓State.changeKey_kept, ↓State.noteRegion_kept, ↓State.updRegion_kept]

theorem State.fenceBegin_kept (s : State) (id : Nat) :
    (State.fenceBegin s id).kept = s.kept := by
  unfold State.fenceBegin
  split <;> simp only [kept_eta, ↓kept_mk, ↓State.fenceStatus_kept, ↓State.fenceWrite_kept]

theorem State.fence_kept (s : State) (region : Nat) (home : Nat) (kind : FenceKind) (cap : Option CapRef) (result : Nat) :
    (State.fence s region home kind cap result).kept = s.kept := by
  unfold State.fence
  simp only [kept_eta, ↓kept_mk, ↓kept_ite, ite_self, ↓State.fenceBegin_kept]

theorem State.freeRegion_kept (s : State) (base : Nat) (r : Region) :
    (State.freeRegion s base r).kept = s.kept := by
  unfold State.freeRegion
  simp only [kept_eta, ↓kept_mk, ↓State.noteRegion_kept]

theorem State.fenceEnd_kept (s : State) (f : Fence) :
    (State.fenceEnd s f).kept = s.kept := by
  unfold State.fenceEnd
  simp only []
  repeat' split
  all_goals simp only [kept_eta, ↓kept_mk, ↓State.count_kept, ↓State.fenceBegin_kept, ↓State.fenceStatus_kept, ↓State.freeRegion_kept, ↓State.okCap_kept, ↓State.okCapKeys_kept, ↓State.record_kept]

theorem State.fenceTimeout_kept (s : State) (f : Fence) :
    (State.fenceTimeout s f).kept = s.kept := by
  unfold State.fenceTimeout
  repeat' split
  all_goals simp only [kept_eta, ↓kept_mk, ↓foldl_kept, implies_true, ↓State.record_kept, ↓State.updQp_kept]

theorem State.makeRegion_kept (s : State) (h : Nat) (r : ColCreate) :
    ∀ x, State.makeRegion s h r = some x → x.1.kept = s.kept := by
  unfold State.makeRegion
  intro x h
  dsimp only at h
  split at h
  · cases h
  · split at h
    · cases h
    · split at h
      · cases h
      · cases h
        simp only [kept_eta, ↓kept_mk, ↓State.noteKey_kept, ↓State.noteRegion_kept]
        exact State.issueKey_kept _ _ _ _ _ _ _ (by assumption)

theorem State.capRegionCreate_kept (s : State) (c : CapRef) (qp : Qp) (bs : List Byte) :
    (State.capRegionCreate s c qp bs).kept = s.kept := by
  unfold State.capRegionCreate
  repeat' first
    | simp only [↓kept_ite, ↓State.createAt_kept, ↓State.failCap_kept, ↓State.okCap_kept]
    | refine ite_kept ?_ ?_
    | split
    | refine (State.makeRegion_kept _ _ _ _ (by assumption)).trans ?_

theorem State.capRegionModify_kept (s : State) (c : CapRef) (qp : Qp) (bs : List Byte) :
    (State.capRegionModify s c qp bs).kept = s.kept := by
  unfold State.capRegionModify
  repeat' split
  all_goals simp only [↓kept_ite, ite_self, implies_true, ↓State.adminKey_kept, ↓State.failCap_kept, ↓State.fence_kept, ↓State.noteRegion_kept, ↓State.okCap_kept, ↓State.updRegion_kept]

theorem State.capRegionDestroy_kept (s : State) (c : CapRef) (qp : Qp) (bs : List Byte) :
    (State.capRegionDestroy s c qp bs).kept = s.kept := by
  unfold State.capRegionDestroy
  repeat' split
  all_goals simp only [implies_true, ↓State.adminKey_kept, ↓State.fence_kept]

theorem State.capKeyGrant_kept (s : State) (c : CapRef) (qp : Qp) (bs : List Byte) :
    (State.capKeyGrant s c qp bs).kept = s.kept := by
  unfold State.capKeyGrant
  repeat' first
    | simp only [↓kept_ite, implies_true, ↓State.blocksLow_kept, ↓State.failCap_kept, ↓State.noteKey_kept, ↓State.okCapKeys_kept]
    | refine ite_kept ?_ ?_
    | split
    | refine (State.issueKey_kept _ _ _ _ _ _ _ (by assumption)).trans ?_
    | refine (State.adminKey_kept _ _ _ _ _ _ ?_).trans ?_
    | intro _

theorem State.capKeyExisting_kept (s : State) (c : CapRef) (qp : Qp) (bs : List Byte) :
    (State.capKeyExisting s c qp bs).kept = s.kept := by
  unfold State.capKeyExisting
  repeat' split
  all_goals simp only [↓kept_ite, ite_self, implies_true, ↓State.adminKey_kept, ↓State.changeKey_kept, ↓State.failCap_kept, ↓State.fence_kept, ↓State.okCap_kept]

theorem State.capKeyRevoke_kept (s : State) (c : CapRef) (qp : Qp) (bs : List Byte) :
    (State.capKeyRevoke s c qp bs).kept = s.kept := by
  unfold State.capKeyRevoke
  simp only []
  repeat' split
  all_goals simp only [↓kept_ite, ite_self, implies_true, ↓State.adminKey_kept, ↓State.failCap_kept, ↓State.fence_kept]

/-! ### Objects.lean -/

theorem State.fillLines_kept (s : State) (u : Nat) (mask : BitVec 256) :
    (State.fillLines s u mask).kept = s.kept := by
  unfold State.fillLines
  split <;> simp only [↓kept_ite, ↓foldl_kept, ite_self, implies_true, ↓State.setFrame_kept, ↓State.t1Write_kept]

theorem State.loadUnit_kept (s : State) (u : Nat) (transient : Bool) :
    (State.loadUnit s u transient).kept = s.kept := by
  unfold State.loadUnit
  simp only []
  repeat' split
  all_goals simp only [↓State.count_kept, ↓State.fillLines_kept, ↓State.newFrame_kept]

theorem State.loadGranules_kept (s : State) (gs : List Nat) :
    (State.loadGranules s gs).kept = s.kept := by
  unfold State.loadGranules
  simp only [↓foldl_kept, implies_true, ↓State.countBy_kept, ↓State.loadUnit_kept]

theorem State.streamDamage_kept (s : State) (id : Nat) (stored : Nat) :
    (State.streamDamage s id stored).kept = s.kept := by
  unfold State.streamDamage
  split <;> simp only [kept_eta, ↓kept_mk, ↓kept_ite, ↓foldl_kept, ite_self, implies_true, ↓State.notify_kept, ↓State.record_kept]

theorem State.streamsDamage_kept (s : State) (u : Nat) :
    (State.streamsDamage s u).kept = s.kept := by
  unfold State.streamsDamage
  simp only [↓kept_ite, ↓foldl_kept, ite_self, implies_true, ↓State.streamDamage_kept]

theorem State.lostDone_kept (s : State) (u : Nat) :
    (State.lostDone s u).kept = s.kept := by
  unfold State.lostDone
  simp only [kept_eta, ↓kept_mk, ↓kept_ite, ite_self, ↓State.putB_kept]

theorem State.poisonUnit_kept (s : State) (u : Nat) :
    (State.poisonUnit s u).kept = s.kept := by
  unfold State.poisonUnit
  simp only []
  repeat' split
  all_goals simp only [kept_eta, ↓kept_mk, ↓State.count_kept, ↓State.lostDone_kept, ↓State.record_kept, ↓State.retryFill_kept, ↓State.setFrame_kept, ↓State.streamsDamage_kept]

theorem State.needHeal_kept (s : State) (u : Nat) :
    (State.needHeal s u).kept = s.kept := by
  unfold State.needHeal
  split <;> simp only [↓kept_ite, ite_self, ↓State.askHeal_kept, ↓State.poisonUnit_kept]

theorem State.placeGranule_kept (s : State) (g : Nat) (p : Placement) (tenant : Nat) :
    (State.placeGranule s g p tenant).kept = s.kept := by
  unfold State.placeGranule
  simp only [kept_eta, ↓kept_mk, ↓State.setGranule_kept]

theorem State.adminKeyRight_kept (s : State) (c : CapRef) (qp : Qp) (key : BitVec 32) (right : Nat) (go : Key → Region → State → State) (h_go : ∀ a0 a1 a2, (go a0 a1 a2).kept = a2.kept) :
    (State.adminKeyRight s c qp key right go).kept = s.kept := by
  unfold State.adminKeyRight
  simp only [↓kept_ite, ite_self, implies_true, ↓State.adminKey_kept, ↓State.failCap_kept, ↓State.violation_kept, ↓h_go]

theorem State.capObjectPlace_kept (s : State) (c : CapRef) (qp : Qp) (bs : List Byte) :
    (State.capObjectPlace s c qp bs).kept = s.kept := by
  unfold State.capObjectPlace
  repeat' first
    | simp only [kept_eta, ↓kept_mk, ↓kept_ite, ↓foldl_kept, ite_self, implies_true, ↓State.adminKeyRight_kept, ↓State.failCap_kept, ↓State.okCap_kept, ↓State.placeGranule_kept, ↓State.sendRec_kept]
    | refine ite_kept ?_ ?_
    | split
    | refine (State.adminKeyRight_kept _ _ _ _ _ _ ?_).trans ?_
    | intro _

theorem State.pinDone_kept (s : State) (c : CapRef) :
    (State.pinDone s c).kept = s.kept := by
  unfold State.pinDone
  split <;> simp only [kept_eta, ↓kept_mk, ↓kept_ite, ite_self, ↓State.okCap_kept]

theorem State.updStream_kept (s : State) (id : Nat) (f : Stream → Stream) :
    (State.updStream s id f).kept = s.kept := by
  unfold State.updStream
  simp only [kept_eta, ↓kept_mk]

theorem State.parisonNext_kept (s : State) (id : Nat) :
    (State.parisonNext s id).kept = s.kept := by
  unfold State.parisonNext
  split <;> simp only [↓State.updStream_kept]

theorem State.leaveWindow_kept (s : State) (gs : List Nat) :
    (State.leaveWindow s gs).kept = s.kept := by
  unfold State.leaveWindow
  simp only [kept_eta, ↓kept_mk]

theorem State.capStreamOpen_kept (s : State) (c : CapRef) (qp : Qp) (bs : List Byte) :
    (State.capStreamOpen s c qp bs).kept = s.kept := by
  unfold State.capStreamOpen
  simp only [kept_eta, ↓kept_mk, ↓kept_ite, ite_self, implies_true, ↓State.adminKey_kept, ↓State.failCap_kept, ↓State.parisonNext_kept, ↓State.sendRec_kept, ↓State.updStream_kept]

theorem State.openDone_kept (s : State) (id : Nat) :
    (State.openDone s id).kept = s.kept := by
  unfold State.openDone
  repeat' split
  all_goals simp only [↓State.okCap_kept, ↓State.updStream_kept]

theorem State.withStream_kept (s : State) (c : CapRef) (qp : Qp) (bs : List Byte) (go : Nat → Stream → State → State) (h_go : ∀ a0 a1 a2, (go a0 a1 a2).kept = a2.kept) :
    (State.withStream s c qp bs go).kept = s.kept := by
  unfold State.withStream
  simp only []
  repeat' split
  all_goals simp only [↓State.failCap_kept, ↓h_go]

theorem State.capStreamAdvance_kept (s : State) (c : CapRef) (qp : Qp) (bs : List Byte) :
    (State.capStreamAdvance s c qp bs).kept = s.kept := by
  unfold State.capStreamAdvance
  repeat' first
    | simp only [↓kept_ite, implies_true, ↓State.failCap_kept, ↓State.leaveWindow_kept, ↓State.okCap_kept, ↓State.parisonNext_kept, ↓State.sendRec_kept, ↓State.updStream_kept]
    | split
    | refine (State.withStream_kept _ _ _ _ _ ?_).trans ?_
    | intro _

theorem State.capStreamClose_kept (s : State) (c : CapRef) (qp : Qp) (bs : List Byte) :
    (State.capStreamClose s c qp bs).kept = s.kept := by
  unfold State.capStreamClose
  simp only [kept_eta, ↓kept_mk, implies_true, ↓State.leaveWindow_kept, ↓State.okCap_kept, ↓State.withStream_kept]

theorem State.layerLoaded_kept (s : State) (id : Nat) (layer : Nat) (healed : Bool) :
    (State.layerLoaded s id layer healed).kept = s.kept := by
  unfold State.layerLoaded
  repeat' first
    | simp only [↓kept_ite, ite_self, ↓State.loadGranules_kept, ↓State.newFrame_kept, ↓State.openDone_kept, ↓State.parisonNext_kept, ↓State.poisonUnit_kept, ↓State.streamDamage_kept, ↓State.updStream_kept]
    | refine ite_kept ?_ ?_
    | split
    | refine (foldl_kept _ _ _ (fun s a => ?_)).trans ?_

/-! ### Space.lean -/

theorem State.setBlk_kept (s : State) (n : Nat) (b : Blk) :
    (State.setBlk s n b).kept = s.kept := by
  unfold State.setBlk
  simp only [kept_eta, ↓kept_mk]

theorem State.updBlk_kept (s : State) (n : Nat) (f : Blk → Blk) :
    (State.updBlk s n f).kept = s.kept := by
  unfold State.updBlk
  simp only [↓State.setBlk_kept]

theorem State.tierHold_kept (s : State) (h : Nat) :
    (State.tierHold s h).kept = s.kept := by
  unfold State.tierHold
  repeat' first
    | simp only [↓kept_ite, ↓foldl_kept, ite_self, implies_true, ↓State.fence_kept, ↓State.notify_kept, ↓State.record_kept]
    | refine (foldl_kept _ _ _ (fun s a => ?_)).trans ?_

theorem State.tierRelease_kept (s : State) (h : Nat) :
    (State.tierRelease s h).kept = s.kept := by
  unfold State.tierRelease
  simp only [kept_eta, ↓kept_mk, ↓kept_ite, ite_self, ↓State.record_kept]

theorem State.holdsFollow_kept (s : State) :
    (State.holdsFollow s).kept = s.kept := by
  unfold State.holdsFollow
  simp only [↓kept_ite, ↓foldl_kept, ite_self, implies_true, ↓State.tierHold_kept, ↓State.tierRelease_kept]

theorem State.spaceWarn_kept (s : State) (pct : Nat) :
    (State.spaceWarn s pct).kept = s.kept := by
  unfold State.spaceWarn
  simp only [↓foldl_kept, implies_true, ↓State.notifyAll_kept, ↓State.record_kept]

theorem State.spaceCheck_kept (s : State) :
    (State.spaceCheck s).kept = s.kept := by
  unfold State.spaceCheck
  simp only [kept_eta, ↓kept_mk, ↓kept_ite, ite_self, ↓State.holdsFollow_kept, ↓State.put_kept, ↓State.setRegBit_kept, ↓State.spaceWarn_kept]

/-! ### Conn.lean -/

theorem State.cmIn_kept (s : State) (c : Cm) :
    (State.cmIn s c).1.kept = s.kept := by
  unfold State.cmIn
  simp only [↓kept_ite1, ↓State.count_kept, ↓State.linkIn_kept]
  repeat' split
  all_goals simp only [↓State.count_kept, ↓State.linkIn_kept, ↓State.wake_kept]

theorem State.sendRep_kept (s : State) (c : Cm) (n : Nat) (q : Qp) :
    (State.sendRep s c n q).kept = s.kept := by
  unfold State.sendRep
  simp only [↓State.emit_kept]

theorem State.sendRej_kept (s : State) (c : Cm) (reason : Nat) :
    (State.sendRej s c reason).kept = s.kept := by
  unfold State.sendRej
  simp only [↓State.emit_kept]

theorem State.newConn_kept (s : State) (c : Cm) (m : ReqMsg) (h : Nat) :
    (State.newConn s c m h).kept = s.kept := by
  unfold State.newConn
  repeat' first
    | simp only [↓kept_ite, ↓State.sendRej_kept, ↓State.sendRep_kept, ↓State.setQp_kept, ↓State.touchQp_kept, ↓State.updHome_kept]
    | refine ite_kept ?_ ?_
    | split
    | refine (State.issueKey_kept _ _ _ _ _ _ _ (by assumption)).trans ?_

theorem execReq_kept (c : Cm) (m : ReqMsg) (s : State) :
    Keeps (execReq c m s) s := by
  unfold execReq
  simp only []
  repeat' split
  all_goals simp only [↓State.cmIn_kept, ↓State.newConn_kept, ↓State.sendRep_kept, keeps_next]

theorem State.cmMsg_kept (s : State) (c : Cm) (go : Nat → Qp → State → State) (h_go : ∀ a0 a1 a2, (go a0 a1 a2).kept = a2.kept) :
    Keeps (State.cmMsg s c go) s := by
  unfold State.cmMsg
  simp only []
  repeat' split
  all_goals simp only [↓State.cmIn_kept, ↓h_go, keeps_next]

theorem execRtu_kept (c : Cm) (s : State) :
    Keeps (execRtu c s) s := by
  unfold execRtu
  simp only [implies_true, ↓State.cmMsg_kept, ↓State.toRts_kept]

theorem execRej_kept (c : Cm) (s : State) :
    Keeps (execRej c s) s := by
  unfold execRej
  simp only [↓kept_ite, ite_self, implies_true, ↓State.cmMsg_kept, ↓State.freeQp_kept]

theorem execMra_kept (c : Cm) (s : State) :
    Keeps (execMra c s) s := by
  unfold execMra
  simp only [implies_true, ↓State.cmMsg_kept]

theorem execDreq_kept (c : Cm) (s : State) :
    Keeps (execDreq c s) s := by
  unfold execDreq
  simp only [↓kept_ite, ite_self, implies_true, ↓State.cmMsg_kept, ↓State.emit_kept, ↓State.freeQp_kept, ↓State.msgDone_kept, ↓State.settle_kept]

theorem execDrep_kept (c : Cm) (s : State) :
    Keeps (execDrep c s) s := by
  unfold execDrep
  simp only [↓kept_ite, ite_self, implies_true, ↓State.cmMsg_kept, ↓State.freeQp_kept, ↓State.msgDone_kept, ↓State.settle_kept]

theorem State.cmRefuse_kept (s : State) (c : Cm) (o : Out) :
    Keeps (State.cmRefuse s c o) s := by
  unfold State.cmRefuse
  simp only [↓kept_ite, ite_self, ↓State.cmIn_kept, ↓State.emit_kept, keeps_next]

theorem execLap_kept (c : Cm) (s : State) :
    Keeps (execLap c s) s := by
  unfold execLap
  simp only [↓State.cmRefuse_kept]

theorem execApr_kept (c : Cm) (s : State) :
    Keeps (execApr c s) s := by
  unfold execApr
  simp only [↓State.cmRefuse_kept]

theorem execSidrReq_kept (c : Cm) (s : State) :
    Keeps (execSidrReq c s) s := by
  unfold execSidrReq
  simp only [↓State.cmRefuse_kept]

/-! ### HostReq.lean -/

theorem execSend_kept (p : Pkt) (pos : Pos) (imm : Option (BitVec 32)) (data : List Byte) (s : State) :
    Keeps (execSend p pos imm data s) s := by
  unfold execSend
  simp only [↓State.ingress_kept, ↓State.spaceCheck_kept, keeps_next]

theorem execRdmaWrite_kept (p : Pkt) (pos : Pos) (reth : Option Reth) (data : List Byte) (s : State) :
    Keeps (execRdmaWrite p pos reth data s) s := by
  unfold execRdmaWrite
  simp only [↓State.ingress_kept, ↓State.spaceCheck_kept, keeps_next]

theorem execRdmaWriteWithImmediate_kept (p : Pkt) (pos : Pos) (reth : Option Reth) (imm : BitVec 32) (data : List Byte) (s : State) :
    Keeps (execRdmaWriteWithImmediate p pos reth imm data s) s := by
  unfold execRdmaWriteWithImmediate
  simp only [↓State.ingress_kept, ↓State.spaceCheck_kept, keeps_next]

theorem execRdmaReadRequest_kept (p : Pkt) (reth : Reth) (s : State) :
    Keeps (execRdmaReadRequest p reth s) s := by
  unfold execRdmaReadRequest
  simp only [↓State.ingress_kept, keeps_next]

theorem execCompareAndSwap_kept (p : Pkt) (va : BitVec 64) (key : BitVec 32) (swap : BitVec 64) (cmp : BitVec 64) (s : State) :
    Keeps (execCompareAndSwap p va key swap cmp s) s := by
  unfold execCompareAndSwap
  simp only [↓State.ingress_kept, ↓State.spaceCheck_kept, keeps_next]

theorem execFetchAndAdd_kept (p : Pkt) (va : BitVec 64) (key : BitVec 32) (add : BitVec 64) (s : State) :
    Keeps (execFetchAndAdd p va key add s) s := by
  unfold execFetchAndAdd
  simp only [↓State.ingress_kept, ↓State.spaceCheck_kept, keeps_next]

theorem execAtomicWrite_kept (p : Pkt) (reth : Reth) (data : List Byte) (s : State) :
    Keeps (execAtomicWrite p reth data s) s := by
  unfold execAtomicWrite
  simp only [↓State.ingress_kept, ↓State.spaceCheck_kept, keeps_next]

theorem execRdmaFlush_kept (p : Pkt) (reth : Reth) (global : Bool) (persist : Bool) (rangeSel : Bool) (s : State) :
    Keeps (execRdmaFlush p reth global persist rangeSel s) s := by
  unfold execRdmaFlush
  simp only [↓State.ingress_kept, keeps_next]

theorem execUnsupportedRdmaOpcode_kept (p : Pkt) (opcode : BitVec 8) (s : State) :
    Keeps (execUnsupportedRdmaOpcode p opcode s) s := by
  unfold execUnsupportedRdmaOpcode
  simp only [↓State.ingress_kept, keeps_next]

theorem State.reqSide_kept (s : State) (p : Pkt) (go : Nat → Qp → State → State) (h_go : ∀ a0 a1 a2, (go a0 a1 a2).kept = a2.kept) :
    Keeps (State.reqSide s p go) s := by
  unfold State.reqSide
  simp only [↓State.headerIn_kept, ↓State.linkIn_kept, keeps_next, ↓keeps_ite]
  repeat' split
  all_goals simp only [↓State.headerIn_kept, ↓State.linkIn_kept, ↓h_go, keeps_next]

theorem execAcknowledge_kept (p : Pkt) (s : State) :
    Keeps (execAcknowledge p s) s := by
  unfold execAcknowledge
  simp only [implies_true, ↓State.pumpReqs_kept, ↓State.reqSide_kept, ↓State.setReqs_kept, ↓State.settle_kept]

theorem execSequenceNakReceived_kept (p : Pkt) (s : State) :
    Keeps (execSequenceNakReceived p s) s := by
  unfold execSequenceNakReceived
  simp only [↓kept_ite, ite_self, implies_true, ↓State.reqSide_kept, ↓State.resend_kept, ↓State.setReqs_kept, ↓State.settle_kept]

theorem execRnrNakReceived_kept (p : Pkt) (s : State) :
    Keeps (execRnrNakReceived p s) s := by
  unfold execRnrNakReceived
  simp only [implies_true, ↓State.enterError_kept, ↓State.reqSide_kept, ↓State.settle_kept]

theorem execErrorNakReceived_kept (p : Pkt) (kind : NakKind) (s : State) :
    Keeps (execErrorNakReceived p kind s) s := by
  unfold execErrorNakReceived
  simp only [implies_true, ↓State.enterError_kept, ↓State.reqSide_kept, ↓State.settle_kept]

theorem execCnp_kept (p : Pkt) (s : State) :
    Keeps (execCnp p s) s := by
  unfold execCnp
  simp only [↓kept_ite, ite_self, implies_true, ↓State.count_kept, ↓State.reqSide_kept, ↓State.updQp_kept]

/-! ### PortEvents.lean -/

theorem State.frameIn_kept (s : State) (p : Nat) (go : State → State) (h_go : ∀ a0, (go a0).kept = a0.kept) :
    (State.frameIn s p go).kept = s.kept := by
  unfold State.frameIn
  simp only [↓kept_ite, ite_self, ↓State.count_kept, ↓h_go]

theorem State.partnerPause_kept (s : State) (p : Nat) (k : Nat) (on : Bool) :
    (State.partnerPause s p k on).kept = s.kept := by
  unfold State.partnerPause
  simp only [↓State.setRegBit_kept, ↓State.updPort_kept]

theorem execPfcFrame_kept (port : Fin 8) (enable : BitVec 8) (quantaNonZero : BitVec 8) (s : State) :
    Keeps (execPfcFrame port enable quantaNonZero s) s := by
  unfold execPfcFrame
  simp only [↓kept_ite, ↓foldl_kept, ite_self, implies_true, ↓State.count_kept, ↓State.frameIn_kept, ↓State.partnerPause_kept, keeps_core]

theorem execLldpFrame_kept (port : Fin 8) (s : State) :
    Keeps (execLldpFrame port s) s := by
  unfold execLldpFrame
  simp only [↓kept_ite, ite_self, implies_true, ↓State.emit_kept, ↓State.frameIn_kept, keeps_core]

theorem execArpRequest_kept (port : Fin 8) (target : BitVec 32) (s : State) :
    Keeps (execArpRequest port target s) s := by
  unfold execArpRequest
  repeat' first
    | simp only [↓kept_ite, ite_self, ↓State.count_kept, ↓State.emit_kept, keeps_core]
    | refine ite_kept ?_ ?_
    | split
    | refine (State.frameIn_kept _ _ _ ?_).trans ?_
    | intro _

theorem execNeighbourSolicitation_kept (port : Fin 8) (target : BitVec 128) (s : State) :
    Keeps (execNeighbourSolicitation port target s) s := by
  unfold execNeighbourSolicitation
  repeat' first
    | simp only [↓kept_ite, ite_self, ↓State.count_kept, ↓State.emit_kept, keeps_core]
    | refine ite_kept ?_ ?_
    | split
    | refine (State.frameIn_kept _ _ _ ?_).trans ?_
    | intro _

theorem execEchoRequest_kept (port : Fin 8) (ipv6 : Bool) (dst : Nat) (s : State) :
    Keeps (execEchoRequest port ipv6 dst s) s := by
  unfold execEchoRequest
  repeat' first
    | simp only [↓kept_ite, ite_self, ↓State.count_kept, ↓State.emit_kept, ↓State.updPort_kept, keeps_core]
    | refine ite_kept ?_ ?_
    | split
    | refine (State.frameIn_kept _ _ _ ?_).trans ?_
    | intro _

theorem execOtherFrame_kept (port : Fin 8) (fcsOk : Bool) (s : State) :
    Keeps (execOtherFrame port fcsOk s) s := by
  unfold execOtherFrame
  simp only [↓kept_ite, ite_self, implies_true, ↓State.count_kept, ↓State.frameIn_kept, keeps_core]

theorem execPortFecLock_kept (port : Fin 8) (s : State) :
    Keeps (execPortFecLock port s) s := by
  unfold execPortFecLock
  simp only [↓kept_ite, ↓foldl_kept, ite_self, implies_true, ↓State.count_kept, ↓State.emit_kept, ↓State.put_kept, ↓State.putB_kept, ↓State.record_kept, ↓State.updPort_kept, keeps_core]

theorem execPortLinkLoss_kept (port : Fin 8) (s : State) :
    Keeps (execPortLinkLoss port s) s := by
  unfold execPortLinkLoss
  simp only [↓kept_ite, ↓foldl_kept, ite_self, implies_true, ↓State.partnerPause_kept, ↓State.putB_kept, ↓State.record_kept, ↓State.updPort_kept, keeps_core]

theorem execLinkTrainingTimeout_kept (port : Fin 8) (s : State) :
    Keeps (execLinkTrainingTimeout port s) s := by
  unfold execLinkTrainingTimeout
  simp only [↓kept_ite, ite_self, ↓State.putB_kept, ↓State.record_kept, ↓State.updPort_kept, keeps_core]

theorem execPfcXoffRepeat_kept (port : Fin 8) (cls : Fin 8) (s : State) :
    Keeps (execPfcXoffRepeat port cls s) s := by
  unfold execPfcXoffRepeat
  simp only [↓kept_ite, ite_self, ↓State.count_kept, ↓State.emit_kept, keeps_core]

theorem execPauseStormTimeout_kept (port : Fin 8) (cls : Fin 8) (s : State) :
    Keeps (execPauseStormTimeout port cls s) s := by
  unfold execPauseStormTimeout
  simp only [↓kept_ite, ite_self, ↓State.record_kept, ↓State.updPort_kept, keeps_core]

theorem execAckCoalesceTimeout_kept (qpn : BitVec 24) (s : State) :
    Keeps (execAckCoalesceTimeout qpn s) s := by
  unfold execAckCoalesceTimeout
  split <;> simp only [↓kept_ite, ite_self, ↓State.sendAck_kept, keeps_core]

theorem execLocalAckTimeout_kept (qpn : BitVec 24) (s : State) :
    Keeps (execLocalAckTimeout qpn s) s := by
  unfold execLocalAckTimeout
  split <;> simp only [↓kept_ite, ite_self, ↓State.resend_kept, ↓State.settle_kept, keeps_core]

theorem execErrorHoldExpiry_kept (qpn : BitVec 24) (s : State) :
    Keeps (execErrorHoldExpiry qpn s) s := by
  unfold execErrorHoldExpiry
  split <;> simp only [↓kept_ite, ite_self, ↓State.freeQp_kept, keeps_core]

theorem execRpTimerExpiry_kept (qpn : BitVec 24) (s : State) :
    Keeps (execRpTimerExpiry qpn s) s := by
  unfold execRpTimerExpiry
  simp only [↓kept_ite, keeps_core]
  repeat' split
  all_goals simp only [↓State.updQp_kept]

theorem execContextFetchDone_kept (qpn : BitVec 24) (s : State) :
    Keeps (execContextFetchDone qpn s) s := by
  unfold execContextFetchDone
  simp only [↓kept_ite, keeps_core]
  repeat' split
  all_goals simp only [↓State.refeedWhere_kept, ↓State.sendRewind_kept, ↓State.updQp_kept]

theorem execContextSpillDone_kept (qpn : BitVec 24) (s : State) :
    Keeps (execContextSpillDone qpn s) s := by
  unfold execContextSpillDone
  simp only [↓kept_ite, keeps_core]
  repeat' split
  all_goals simp only [↓State.refeedWhere_kept, ↓State.updQp_kept]

theorem execContextVictimSpill_kept (qpn : BitVec 24) (s : State) :
    Keeps (execContextVictimSpill qpn s) s := by
  unfold execContextVictimSpill
  simp only [↓kept_ite, keeps_core]
  repeat' split
  all_goals simp only [↓State.updQp_kept]

theorem execKeyCacheFill_kept (key : BitVec 32) (s : State) :
    Keeps (execKeyCacheFill key s) s := by
  unfold execKeyCacheFill
  simp only [↓kept_ite, ite_self, ↓State.cacheTouch_kept, ↓State.refeedWhere_kept, keeps_core, ↓keeps_ite]

theorem execRegionTransitionResolved_kept (region : Nat) (s : State) :
    Keeps (execRegionTransitionResolved region s) s := by
  unfold execRegionTransitionResolved
  simp only [kept_eta, ↓kept_mk, ↓kept_ite, ite_self, ↓State.fenceStatus_kept, ↓State.refeedWhere_kept, keeps_core]

theorem execExceptionNakBuilt_kept (qpn : BitVec 24) (s : State) :
    Keeps (execExceptionNakBuilt qpn s) s := by
  unfold execExceptionNakBuilt
  simp only [↓kept_ite, keeps_core]
  refine ite_kept (State.refeed_kept _ _ (fun h g hg s => ?_)) rfl
  split at hg
  · cases hg
    exact State.queueNak_kept _ _ _ _
  · cases hg

theorem execExceptionQueueRoom_kept (slice : Fin 8) (s : State) :
    Keeps (execExceptionQueueRoom slice s) s := by
  unfold execExceptionQueueRoom
  simp only [↓kept_ite, ite_self, ↓State.refeedWhere_kept, keeps_core]

theorem execSlotFreed_kept (slice : Fin 8) (s : State) :
    Keeps (execSlotFreed slice s) s := by
  unfold execSlotFreed
  simp only [↓kept_ite, ite_self, ↓State.refeedWhere_kept, keeps_core]

theorem State.steerNow_kept (s : State) :
    (State.steerNow s).kept = s.kept := by
  unfold State.steerNow
  simp only [kept_eta, ↓kept_mk, ↓kept_ite, ite_self, ↓State.refeedWhere_kept]

theorem execSteeringChange_kept (index : Fin 8) (slice : Fin 8) (s : State) :
    Keeps (execSteeringChange index slice s) s := by
  unfold execSteeringChange
  simp only [kept_eta, ↓kept_mk, ↓kept_ite, ite_self, ↓State.steerNow_kept, keeps_core]

/-! ### TierEvents.lean -/

theorem State.deliver_kept (s : State) (u : Nat) (k : Nat) :
    (State.deliver s u k).kept = s.kept := by
  unfold State.deliver
  simp only [↓State.count_kept, ↓State.fillLines_kept, ↓State.retryFill_kept, ↓State.spaceCheck_kept]

theorem execT2FillDone_kept (unit : Nat) (codeword : Fin 4) (decoded : Bool) (s : State) :
    Keeps (execT2FillDone unit codeword decoded s) s := by
  unfold execT2FillDone
  split <;> simp only [↓kept_ite, ite_self, ↓State.deliver_kept, ↓State.needHeal_kept, keeps_core]

theorem execT2Deadline_kept (txn : Nat) (s : State) :
    Keeps (execT2Deadline txn s) s := by
  unfold execT2Deadline
  repeat' split
  all_goals simp only [↓kept_ite, ite_self, ↓State.count_kept, ↓State.placeAtomic_kept, ↓State.record_kept, ↓State.settle_kept, ↓State.updTxn_kept, keeps_core]

theorem State.recConfirmed_kept (s : State) (k : RecKind) (m : Nat) :
    (State.recConfirmed s k m).kept = s.kept := by
  unfold State.recConfirmed
  repeat' split
  all_goals simp only [kept_eta, ↓kept_mk, ↓State.activate_kept, ↓State.applyDoorbell_kept, ↓State.okCap_kept, ↓State.openDone_kept, ↓State.pinDone_kept, ↓State.pumpReqs_kept, ↓State.updQp_kept, ↓State.updQueue_kept, ↓State.updRegion_kept, ↓State.updStream_kept]

theorem State.confirmOne_kept (s : State) (h : Nat) (m : Nat) :
    (State.confirmOne s h m).kept = s.kept := by
  unfold State.confirmOne
  simp only [kept_eta, ↓kept_mk, ↓foldl_kept, implies_true, ↓State.countMax_kept, ↓State.recConfirmed_kept]

theorem execConfirm_kept (home : Fin 2) (entries : List (BitVec 48 × BitVec 16)) (s : State) :
    Keeps (execConfirm home entries s) s := by
  unfold execConfirm
  simp only [↓kept_ite, ↓foldl_kept, ite_self, implies_true, ↓State.confirmOne_kept, ↓State.settle_kept, keeps_core]

theorem execHealReq_kept (home : Fin 2) (unit : Nat) (number : Nat) (s : State) :
    Keeps (execHealReq home unit number s) s := by
  unfold execHealReq
  simp only [↓kept_ite, ↓foldl_kept, ite_self, implies_true, ↓State.count_kept, ↓State.linkSend_kept, keeps_core]

theorem State.healPiece_kept (s : State) (u : Nat) (piece : Nat) (data : List Byte) (poison : BitVec 64) :
    (State.healPiece s u piece data poison).kept = s.kept := by
  unfold State.healPiece
  split <;> simp only [kept_eta, ↓kept_mk, ↓foldl_kept, implies_true, ↓State.setFrame_kept, ↓State.t1Write_kept]

theorem State.healDone_kept (s : State) (u : Nat) :
    (State.healDone s u).kept = s.kept := by
  unfold State.healDone
  split <;> simp only [kept_eta, ↓kept_mk, ↓kept_ite, ite_self, ↓State.count_kept, ↓State.lostDone_kept, ↓State.setFrame_kept, ↓State.streamsDamage_kept]

theorem execHealData_kept (home : Fin 2) (unit : Nat) (number : Nat) (piece : Fin 4) (data : List Byte) (poison : BitVec 64) (s : State) :
    Keeps (execHealData home unit number piece data poison s) s := by
  unfold execHealData
  repeat' split
  all_goals simp only [↓kept_ite, ite_self, ↓State.healDone_kept, ↓State.healPiece_kept, ↓State.newFrame_kept, ↓State.retryFill_kept, ↓State.spaceCheck_kept, keeps_refused, keeps_core]

theorem execHealFail_kept (home : Fin 2) (unit : Nat) (number : Nat) (s : State) :
    Keeps (execHealFail home unit number s) s := by
  unfold execHealFail
  simp only [↓kept_ite, ite_self, ↓State.poisonUnit_kept, keeps_core]

theorem execFloatGranuleFreed_kept (granule : Nat) (s : State) :
    Keeps (execFloatGranuleFreed granule s) s := by
  unfold execFloatGranuleFreed
  simp only [↓kept_ite, ite_self, ↓State.evict_kept, ↓State.put_kept, ↓State.retry_kept, ↓State.setGranule_kept, keeps_core]

theorem execTransientFrameCleaned_kept (unit : Nat) (s : State) :
    Keeps (execTransientFrameCleaned unit s) s := by
  unfold execTransientFrameCleaned
  split <;> simp only [↓kept_ite, ite_self, ↓State.retry_kept, keeps_core]

theorem execParisonLayerLoaded_kept (stream : Nat) (layer : Nat) (healed : Bool) (s : State) :
    Keeps (execParisonLayerLoaded stream layer healed s) s := by
  unfold execParisonLayerLoaded
  simp only [↓kept_ite, ite_self, ↓State.layerLoaded_kept, ↓State.settle_kept, keeps_core]

theorem execPinLoadDone_kept (c : CapRef) (s : State) :
    Keeps (execPinLoadDone c s) s := by
  unfold execPinLoadDone
  split <;> simp only [kept_eta, ↓kept_mk, ↓kept_ite, ite_self, ↓State.loadGranules_kept, ↓State.pinDone_kept, ↓State.settle_kept, keeps_core]

theorem execStreamStallTimeout_kept (stream : Nat) (s : State) :
    Keeps (execStreamStallTimeout stream s) s := by
  unfold execStreamStallTimeout
  split <;> simp only [↓kept_ite, ite_self, ↓State.record_kept, ↓State.updStream_kept, keeps_core]

theorem execFenceComplete_kept (fence : Nat) (s : State) :
    Keeps (execFenceComplete fence s) s := by
  unfold execFenceComplete
  split <;> simp only [↓kept_ite, ite_self, ↓State.fenceEnd_kept, ↓State.settle_kept, keeps_core]

theorem execFenceTimeout_kept (fence : Nat) (s : State) :
    Keeps (execFenceTimeout fence s) s := by
  unfold execFenceTimeout
  split <;> simp only [↓kept_ite, ite_self, ↓State.fenceTimeout_kept, keeps_core]

/-! ### CapData.lean -/

theorem execFetchGrant_kept (home : Fin 2) (s : State) :
    Keeps (execFetchGrant home s) s := by
  unfold execFetchGrant
  simp only [↓kept_ite, ite_self, ↓State.fetchGrant_kept, keeps_core]

theorem State.doorbellWrite_kept (s : State) (p : Pkt) (key : BitVec 32) (offset : BitVec 64) (value : BitVec 64) :
    (State.doorbellWrite s p key offset value).kept = s.kept := by
  unfold State.doorbellWrite
  simp only [↓State.ingress_kept]

theorem execSqDoorbell_kept (p : Pkt) (key : BitVec 32) (offset : BitVec 64) (value : BitVec 64) (s : State) :
    Keeps (execSqDoorbell p key offset value s) s := by
  unfold execSqDoorbell
  simp only [↓kept_ite, ite_self, ↓State.doorbellWrite_kept, keeps_core]

theorem execResumeDoorbell_kept (p : Pkt) (key : BitVec 32) (offset : BitVec 64) (sqTail : BitVec 16) (s : State) :
    Keeps (execResumeDoorbell p key offset sqTail s) s := by
  unfold execResumeDoorbell
  simp only [↓kept_ite, ite_self, ↓State.doorbellWrite_kept, keeps_core]

theorem execResumeReplayDoorbell_kept (p : Pkt) (key : BitVec 32) (offset : BitVec 64) (sqTail : BitVec 16) (s : State) :
    Keeps (execResumeReplayDoorbell p key offset sqTail s) s := by
  unfold execResumeReplayDoorbell
  simp only [↓kept_ite, ite_self, ↓State.doorbellWrite_kept, keeps_core]

theorem execCqDoorbell_kept (p : Pkt) (key : BitVec 32) (offset : BitVec 64) (value : BitVec 64) (s : State) :
    Keeps (execCqDoorbell p key offset value s) s := by
  unfold execCqDoorbell
  simp only [↓kept_ite, ite_self, ↓State.doorbellWrite_kept, keeps_core]

theorem execNqDoorbell_kept (p : Pkt) (key : BitVec 32) (offset : BitVec 64) (value : BitVec 64) (s : State) :
    Keeps (execNqDoorbell p key offset value s) s := by
  unfold execNqDoorbell
  simp only [↓kept_ite, ite_self, ↓State.doorbellWrite_kept, keeps_core]

theorem execCapsuleRead_kept (c : CapRef) (s : State) :
    Keeps (execCapsuleRead c s) s := by
  unfold execCapsuleRead
  simp only [↓kept_ite, ite_self, implies_true, ↓State.capRead_kept, ↓State.startCap_kept, keeps_core]

theorem execCapsuleWrite_kept (c : CapRef) (s : State) :
    Keeps (execCapsuleWrite c s) s := by
  unfold execCapsuleWrite
  simp only [↓kept_ite, ite_self, implies_true, ↓State.capWrite_kept, ↓State.spaceCheck_kept, ↓State.startCap_kept, keeps_core]

theorem execCapsuleFlush_kept (c : CapRef) (s : State) :
    Keeps (execCapsuleFlush c s) s := by
  unfold execCapsuleFlush
  simp only [↓kept_ite, ite_self, implies_true, ↓State.capFlushTxn_kept, ↓State.startCap_kept, keeps_core]

theorem execCapsuleFlushDeep_kept (c : CapRef) (s : State) :
    Keeps (execCapsuleFlushDeep c s) s := by
  unfold execCapsuleFlushDeep
  simp only [↓kept_ite, ite_self, implies_true, ↓State.capFlushTxn_kept, ↓State.startCap_kept, keeps_core]

theorem execZero_kept (c : CapRef) (s : State) :
    Keeps (execZero c s) s := by
  unfold execZero
  simp only [↓kept_ite, ite_self, implies_true, ↓State.capOne_kept, ↓State.spaceCheck_kept, ↓State.startCap_kept, keeps_core]

theorem execTrim_kept (c : CapRef) (s : State) :
    Keeps (execTrim c s) s := by
  unfold execTrim
  simp only [↓kept_ite, ite_self, implies_true, ↓State.capOne_kept, ↓State.spaceCheck_kept, ↓State.startCap_kept, keeps_core]

theorem execCopy_kept (c : CapRef) (s : State) :
    Keeps (execCopy c s) s := by
  unfold execCopy
  simp only [↓kept_ite, ite_self, implies_true, ↓State.capCopy_kept, ↓State.spaceCheck_kept, ↓State.startCap_kept, keeps_core]

theorem execRegionCreate_kept (c : CapRef) (s : State) :
    Keeps (execRegionCreate c s) s := by
  unfold execRegionCreate
  simp only [↓kept_ite, ite_self, implies_true, ↓State.capRegionCreate_kept, ↓State.startCap_kept, keeps_core]

theorem execRegionModify_kept (c : CapRef) (s : State) :
    Keeps (execRegionModify c s) s := by
  unfold execRegionModify
  simp only [↓kept_ite, ite_self, implies_true, ↓State.capRegionModify_kept, ↓State.startCap_kept, keeps_core]

theorem execRegionDestroy_kept (c : CapRef) (s : State) :
    Keeps (execRegionDestroy c s) s := by
  unfold execRegionDestroy
  simp only [↓kept_ite, ite_self, implies_true, ↓State.capRegionDestroy_kept, ↓State.startCap_kept, keeps_core]

theorem execKeyGrant_kept (c : CapRef) (s : State) :
    Keeps (execKeyGrant c s) s := by
  unfold execKeyGrant
  simp only [↓kept_ite, ite_self, implies_true, ↓State.capKeyGrant_kept, ↓State.startCap_kept, keeps_core]

theorem execKeyGrantExisting_kept (c : CapRef) (s : State) :
    Keeps (execKeyGrantExisting c s) s := by
  unfold execKeyGrantExisting
  simp only [↓kept_ite, ite_self, implies_true, ↓State.capKeyExisting_kept, ↓State.startCap_kept, keeps_core]

theorem execKeyRevoke_kept (c : CapRef) (s : State) :
    Keeps (execKeyRevoke c s) s := by
  unfold execKeyRevoke
  simp only [↓kept_ite, ite_self, implies_true, ↓State.capKeyRevoke_kept, ↓State.startCap_kept, keeps_core]

theorem execObjectPlace_kept (c : CapRef) (s : State) :
    Keeps (execObjectPlace c s) s := by
  unfold execObjectPlace
  simp only [↓kept_ite, ite_self, implies_true, ↓State.capObjectPlace_kept, ↓State.startCap_kept, keeps_core]

theorem execStreamOpen_kept (c : CapRef) (s : State) :
    Keeps (execStreamOpen c s) s := by
  unfold execStreamOpen
  simp only [↓kept_ite, ite_self, implies_true, ↓State.capStreamOpen_kept, ↓State.startCap_kept, keeps_core]

theorem execStreamAdvance_kept (c : CapRef) (s : State) :
    Keeps (execStreamAdvance c s) s := by
  unfold execStreamAdvance
  simp only [↓kept_ite, ite_self, implies_true, ↓State.capStreamAdvance_kept, ↓State.startCap_kept, keeps_core]

theorem execStreamClose_kept (c : CapRef) (s : State) :
    Keeps (execStreamClose c s) s := by
  unfold execStreamClose
  simp only [↓kept_ite, ite_self, implies_true, ↓State.capStreamClose_kept, ↓State.startCap_kept, keeps_core]

theorem execQresumeDiscard_kept (c : CapRef) (s : State) :
    Keeps (execQresumeDiscard c s) s := by
  unfold execQresumeDiscard
  simp only [↓kept_ite, ite_self, implies_true, ↓State.capResume_kept, ↓State.startCap_kept, keeps_core]

theorem execQresumeReplay_kept (c : CapRef) (s : State) :
    Keeps (execQresumeReplay c s) s := by
  unfold execQresumeReplay
  simp only [↓kept_ite, ite_self, implies_true, ↓State.capResume_kept, ↓State.startCap_kept, keeps_core]

theorem execUnknownCapsuleOpcode_kept (c : CapRef) (s : State) :
    Keeps (execUnknownCapsuleOpcode c s) s := by
  unfold execUnknownCapsuleOpcode
  simp only [↓kept_ite, ite_self, implies_true, ↓State.startCap_kept, keeps_core]

end Sys2Proof.Machine
end

