-- ==== Sys2Proof/Laws/KeptTwin.lean ====
section
/-! SUPPORT. Sys2Proof/Laws/KeptTwin.lean: the twin link keep the queue, the clock
and the one-time values: one lemma for each operation. -/

namespace Sys2Proof.Machine

/-! ### TwinRoles.lean -/

theorem State.emptyUnit_kept (s : State) (u : Nat) :
    (State.emptyUnit s u).kept = s.kept := by
  unfold State.emptyUnit
  simp only [↓State.setFrame_kept]

theorem State.healLost_kept (s : State) :
    (State.healLost s).kept = s.kept := by
  unfold State.healLost
  repeat' first
    | simp only [↓kept_ite, ite_self, ↓State.askHeal_kept, ↓State.emptyUnit_kept, ↓State.poisonUnit_kept]
    | split
    | refine (foldl_kept _ _ _ (fun s a => ?_)).trans ?_

theorem State.startup_kept (s : State) :
    (State.startup s).kept = s.kept := by
  unfold State.startup
  simp only [↓kept_ite, ↓foldl_kept, ite_self, implies_true, ↓State.healLost_kept, ↓State.put_kept, ↓State.updPort_kept]

theorem State.setRole_kept (s : State) (h : Nat) (r : Nat) :
    (State.setRole s h r).kept = s.kept := by
  unfold State.setRole
  simp only [↓State.put_kept, ↓State.startup_kept]

theorem State.setPair_kept (s : State) (h : Nat) (x : Nat) :
    (State.setPair s h x).kept = s.kept := by
  unfold State.setPair
  simp only [↓State.put_kept, ↓State.startup_kept]

theorem State.standWrite_kept (s : State) (h : Nat) (role : Nat) (complete : Bool) :
    (State.standWrite s h role complete).kept = s.kept := by
  unfold State.standWrite
  simp only [↓State.updHome_kept]

theorem State.driveOut_kept (s : State) (h : Nat) (b : Bool) :
    (State.driveOut s h b).kept = s.kept := by
  unfold State.driveOut
  simp only [↓kept_ite, ite_self, ↓State.emit_kept, ↓State.updHome_kept]

theorem State.dropToken_kept (s : State) (h : Nat) :
    (State.dropToken s h).kept = s.kept := by
  unfold State.dropToken
  simp only [↓kept_ite, ite_self, ↓State.driveOut_kept, ↓State.interruptTests_kept, ↓State.setPair_kept, ↓State.setRole_kept, ↓State.updHome_kept]

theorem State.dropTokens_kept (s : State) :
    (State.dropTokens s).kept = s.kept := by
  unfold State.dropTokens
  simp only [↓State.dropToken_kept]

theorem State.claimToken_kept (s : State) (h : Nat) (why : ClaimWhy) :
    (State.claimToken s h why).kept = s.kept := by
  unfold State.claimToken
  simp only [↓kept_ite, ite_self, ↓State.driveOut_kept, ↓State.updHome_kept]

theorem State.confirmAll_kept (s : State) (h : Nat) :
    (State.confirmAll s h).kept = s.kept := by
  unfold State.confirmAll
  simp only [↓foldl_kept, implies_true, ↓State.confirmOne_kept]

theorem State.goSolo_kept (s : State) (h : Nat) :
    (State.goSolo s h).kept = s.kept := by
  unfold State.goSolo
  simp only [kept_eta, ↓kept_mk, ↓State.confirmAll_kept, ↓State.notifyAll_kept, ↓State.record_kept, ↓State.setPair_kept, ↓State.settle_kept, ↓State.standWrite_kept, ↓State.updHome_kept]

theorem State.sendDelta_kept (s : State) (h : Nat) (final : Bool) :
    (State.sendDelta s h final).kept = s.kept := by
  unfold State.sendDelta
  simp only [kept_eta, ↓kept_mk, ↓State.count_kept, ↓State.linkSend_kept, ↓State.updHome_kept]

theorem State.sendState_kept (s : State) (h : Nat) :
    (State.sendState s h).kept = s.kept := by
  unfold State.sendState
  simp only [↓foldl_kept, implies_true, ↓State.linkSend_kept]

theorem State.startResync_kept (s : State) (h : Nat) (full : Bool) :
    (State.startResync s h full).kept = s.kept := by
  unfold State.startResync
  simp only [↓foldl_kept, implies_true, ↓State.linkSend_kept, ↓State.sendState_kept, ↓State.setPair_kept, ↓State.setReg_kept, ↓State.updHome_kept]

theorem State.volatileLost_kept (s : State) (h : Nat) (tell : Bool) :
    (State.volatileLost s h tell).kept = s.kept := by
  unfold State.volatileLost
  simp only [↓kept_ite, ↓foldl_kept, ite_self, implies_true, ↓State.notify_kept, ↓State.unwrite_kept]

theorem State.lossMarks_kept (s : State) (h : Nat) :
    (State.lossMarks s h).kept = s.kept := by
  unfold State.lossMarks
  simp only [↓foldl_kept, implies_true, ↓State.notify_kept, ↓State.updRegion_kept]

theorem State.abandonCaps_kept (s : State) (h : Nat) :
    (State.abandonCaps s h).kept = s.kept := by
  unfold State.abandonCaps
  simp only [↓kept_ite, ↓foldl_kept, ite_self, implies_true, ↓State.countBy_kept, ↓State.notify_kept, ↓State.record_kept, ↓State.updQueue_kept]

theorem State.reissue_kept (s : State) (h : Nat) :
    (State.reissue s h).kept = s.kept := by
  unfold State.reissue
  simp only [↓foldl_kept, implies_true, ↓State.pumpReqs_kept, ↓State.updQp_kept]

theorem State.rewindAll_kept (s : State) (h : Nat) :
    (State.rewindAll s h).kept = s.kept := by
  unfold State.rewindAll
  simp only [↓kept_ite, ↓foldl_kept, ite_self, implies_true, ↓State.record_kept, ↓State.sendRewind_kept, ↓State.updQp_kept]

theorem State.gratuitous_kept (s : State) (h : Nat) :
    (State.gratuitous s h).kept = s.kept := by
  unfold State.gratuitous
  simp only [↓kept_ite, ↓foldl_kept, ite_self, implies_true, ↓State.emit_kept]

theorem State.takeUp_kept (s : State) (h : Nat) (sudden : Bool) :
    (State.takeUp s h sudden).kept = s.kept := by
  unfold State.takeUp
  simp only [kept_eta, ↓kept_mk, ↓kept_ite, ↓foldl_kept, ite_self, implies_true, ↓State.abandonCaps_kept, ↓State.count_kept, ↓State.gratuitous_kept, ↓State.lossMarks_kept, ↓State.notifyAll_kept, ↓State.parisonNext_kept, ↓State.record_kept, ↓State.reissue_kept, ↓State.rewindAll_kept, ↓State.setPair_kept, ↓State.setReg_kept, ↓State.setRole_kept, ↓State.settle_kept, ↓State.standWrite_kept, ↓State.updHome_kept, ↓State.updStream_kept, ↓State.volatileLost_kept]

theorem State.tokenWon_kept (s : State) (h : Nat) :
    (State.tokenWon s h).kept = s.kept := by
  unfold State.tokenWon
  simp only []
  repeat' split
  all_goals simp only [kept_eta, ↓kept_mk, ↓State.gratuitous_kept, ↓State.record_kept, ↓State.setPair_kept, ↓State.setReg_kept, ↓State.setRole_kept, ↓State.standWrite_kept, ↓State.startResync_kept, ↓State.takeUp_kept, ↓State.updHome_kept]

theorem State.abandonReads_kept (s : State) (h : Nat) :
    (State.abandonReads s h).kept = s.kept := by
  unfold State.abandonReads
  simp only [kept_eta, ↓kept_mk]

theorem State.stopHome_kept (s : State) (h : Nat) :
    (State.stopHome s h).kept = s.kept := by
  unfold State.stopHome
  simp only [kept_eta, ↓kept_mk, ↓State.abandonReads_kept]

theorem State.beginHandover_kept (s : State) (h : Nat) (next : HandNext) :
    (State.beginHandover s h next).1.kept = s.kept := by
  unfold State.beginHandover
  simp only [↓kept_ite1, ite_self, ↓State.stopHome_kept, ↓State.updHome_kept]

theorem State.passToken_kept (s : State) (h : Nat) :
    (State.passToken s h).kept = s.kept := by
  unfold State.passToken
  simp only [kept_eta, ↓kept_mk, ↓State.count_kept, ↓State.driveOut_kept, ↓State.interruptTests_kept, ↓State.record_kept, ↓State.sendDelta_kept, ↓State.setRole_kept, ↓State.standWrite_kept, ↓State.updHome_kept, ↓State.volatileLost_kept]

theorem State.stopService_kept (s : State) (next : HandNext) :
    (State.stopService s next).kept = s.kept := by
  unfold State.stopService
  simp only [↓kept_ite, ↓foldl_kept, ite_self, implies_true, ↓State.beginHandover_kept, ↓State.stopHome_kept]

/-! ### TwinLink.lean -/

theorem execIntlkInReleased_kept (home : Fin 2) (s : State) :
    Keeps (execIntlkInReleased home s) s := by
  unfold execIntlkInReleased
  simp only [↓State.updHome_kept, keeps_next]

theorem execIntlkInAsserted_kept (home : Fin 2) (s : State) :
    Keeps (execIntlkInAsserted home s) s := by
  unfold execIntlkInAsserted
  simp only [kept_eta, ↓kept_mk, ↓kept_ite, ite_self, ↓State.dropToken_kept, ↓State.record_kept, ↓State.updHome_kept, keeps_next]

theorem execTokenClaimSample_kept (home : Fin 2) (released : Bool) (s : State) :
    Keeps (execTokenClaimSample home released s) s := by
  unfold execTokenClaimSample
  simp only [↓kept_ite, ite_self, ↓State.driveOut_kept, ↓State.record_kept, ↓State.tokenWon_kept, ↓State.updHome_kept, keeps_core]

theorem execClaimBackoffExpiry_kept (home : Fin 2) (s : State) :
    Keeps (execClaimBackoffExpiry home s) s := by
  unfold execClaimBackoffExpiry
  simp only [↓kept_ite, keeps_core]
  repeat' split
  all_goals simp only [↓State.claimToken_kept, ↓State.updHome_kept]

theorem execReleaseConfirmed_kept (home : Fin 2) (s : State) :
    Keeps (execReleaseConfirmed home s) s := by
  unfold execReleaseConfirmed
  simp only [↓kept_ite, keeps_core]
  repeat' split
  all_goals simp only [↓State.claimToken_kept, ↓State.record_kept, ↓State.setPair_kept, ↓State.setRole_kept]

theorem execHeartbeatSilence_kept (s : State) :
    Keeps (execHeartbeatSilence s) s := by
  unfold execHeartbeatSilence
  simp only [↓kept_ite, ite_self, ↓State.dropTokens_kept, keeps_core]

theorem State.laneStatus_kept (s : State) :
    (State.laneStatus s).kept = s.kept := by
  unfold State.laneStatus
  simp only [↓State.put_kept, ↓State.setRegBit_kept]

theorem State.linkReset_kept (s : State) :
    (State.linkReset s).kept = s.kept := by
  unfold State.linkReset
  simp only [kept_eta, ↓kept_mk]

theorem State.linkDown_kept (s : State) :
    (State.linkDown s).kept = s.kept := by
  unfold State.linkDown
  simp only [kept_eta, ↓kept_mk, ↓kept_ite, ↓foldl_kept, ite_self, implies_true, ↓State.goSolo_kept, ↓State.linkReset_kept, ↓State.put_kept, ↓State.record_kept, ↓State.setPair_kept, ↓State.setRole_kept, ↓State.updHome_kept]

theorem execElytraLaneLock_kept (lane : Fin 8) (s : State) :
    Keeps (execElytraLaneLock lane s) s := by
  unfold execElytraLaneLock
  simp only [↓kept_ite, ite_self, ↓State.laneStatus_kept, ↓State.linkReset_kept, ↓State.linkSend_kept, ↓State.put_kept, ↓State.record_kept, ↓State.setRegBit_kept, keeps_core]

theorem execElytraLaneDown_kept (lane : Fin 8) (s : State) :
    Keeps (execElytraLaneDown lane s) s := by
  unfold execElytraLaneDown
  simp only [↓kept_ite, ite_self, ↓State.laneStatus_kept, ↓State.linkDown_kept, ↓State.record_kept, ↓State.setRegBit_kept, keeps_core]

theorem execElytraLinkSilence_kept (s : State) :
    Keeps (execElytraLinkSilence s) s := by
  unfold execElytraLinkSilence
  simp only [↓kept_ite, ite_self, ↓State.linkDown_kept, keeps_core]

theorem execElytraFrameCrcFail_kept (bulk : Bool) (s : State) :
    Keeps (execElytraFrameCrcFail bulk s) s := by
  unfold execElytraFrameCrcFail
  simp only [kept_eta, ↓kept_mk, ↓kept_ite, ite_self, ↓State.count_kept, ↓State.updLink_kept, keeps_core]

theorem execSeqGapTimeout_kept (bulk : Bool) (s : State) :
    Keeps (execSeqGapTimeout bulk s) s := by
  unfold execSeqGapTimeout
  simp only [↓kept_ite, ite_self, ↓State.updLink_kept, keeps_core]

theorem execAckCarrierTimeout_kept (s : State) :
    Keeps (execAckCarrierTimeout s) s := by
  unfold execAckCarrierTimeout
  simp only [↓kept_ite, ite_self, ↓State.linkSend_kept, keeps_core]

theorem State.linkAck_kept (s : State) (bulk : Bool) (ack : Nat) (cred : Nat) (again : Bool) :
    (State.linkAck s bulk ack cred again).kept = s.kept := by
  unfold State.linkAck
  simp only [kept_eta, ↓kept_mk, ↓kept_ite, ↓foldl_kept, ite_self, implies_true, ↓State.countBy_kept, ↓State.linkPump_kept, ↓State.updHome_kept, ↓State.updLink_kept]

theorem State.twinIn_kept (s : State) (x : Ely) (bulk : Bool) (go : State → State) (h_go : ∀ a0, (go a0).kept = a0.kept) :
    (State.twinIn s x bulk go).kept = s.kept := by
  unfold State.twinIn
  simp only [↓kept_ite, ite_self, ↓State.linkAck_kept, ↓State.updLink_kept, ↓h_go]

theorem State.twinWakeIn_kept (s : State) (x : Ely) (go : State → State) (h_go : ∀ a0, (go a0).kept = a0.kept) :
    (State.twinWakeIn s x go).kept = s.kept := by
  unfold State.twinWakeIn
  simp only [implies_true, ↓State.twinIn_kept, ↓State.wake_kept, ↓h_go]

theorem State.leaseOn_kept (s : State) (h : Nat) :
    (State.leaseOn s h).kept = s.kept := by
  unfold State.leaseOn
  simp only [↓kept_ite, ite_self, ↓State.put_kept, ↓State.record_kept, ↓State.updHome_kept]

theorem State.leaseOff_kept (s : State) (h : Nat) :
    (State.leaseOff s h).kept = s.kept := by
  unfold State.leaseOff
  simp only [↓kept_ite, ite_self, ↓State.put_kept, ↓State.updHome_kept]

theorem State.intlkFault_kept (s : State) (h : Nat) :
    (State.intlkFault s h).kept = s.kept := by
  unfold State.intlkFault
  simp only [↓State.leaseOn_kept, ↓State.setRegBit_kept, ↓State.updHome_kept]

theorem State.intlkPass_kept (s : State) (h : Nat) :
    (State.intlkPass s h).kept = s.kept := by
  unfold State.intlkPass
  simp only [↓kept_ite, ite_self, ↓State.leaseOff_kept, ↓State.record_kept, ↓State.setRegBit_kept, ↓State.updHome_kept]

theorem State.intlkLevels_kept (s : State) (h : Nat) (theirOut : Bool) (theirRel : Bool) :
    (State.intlkLevels s h theirOut theirRel).kept = s.kept := by
  unfold State.intlkLevels
  simp only [↓kept_ite, ite_self, ↓State.intlkFault_kept, ↓State.intlkPass_kept, ↓State.updHome_kept]

theorem execLeaseRequest_kept (x : Ely) (home : Fin 2) (number : BitVec 32) (s : State) :
    Keeps (execLeaseRequest x home number s) s := by
  unfold execLeaseRequest
  simp only [↓kept_ite, ite_self, implies_true, ↓State.linkSend_kept, ↓State.twinIn_kept, ↓State.updHome_kept, keeps_core]

theorem execLeaseGrant_kept (x : Ely) (home : Fin 2) (number : BitVec 32) (expiry : BitVec 64) (s : State) :
    Keeps (execLeaseGrant x home number expiry s) s := by
  unfold execLeaseGrant
  simp only [↓kept_ite, ite_self, implies_true, ↓State.twinIn_kept, ↓State.updHome_kept, keeps_core]

theorem execLeaseRelease_kept (x : Ely) (home : Fin 2) (number : BitVec 32) (s : State) :
    Keeps (execLeaseRelease x home number s) s := by
  unfold execLeaseRelease
  simp only [↓kept_ite, ite_self, implies_true, ↓State.twinIn_kept, ↓State.updHome_kept, keeps_core]

theorem execLeaseRequestTimer_kept (s : State) :
    Keeps (execLeaseRequestTimer s) s := by
  unfold execLeaseRequestTimer
  simp only [↓kept_ite, ↓foldl_kept, ite_self, implies_true, ↓State.linkSend_kept, ↓State.updHome_kept, keeps_core]

theorem execLeaseEnd_kept (home : Fin 2) (s : State) :
    Keeps (execLeaseEnd home s) s := by
  unfold execLeaseEnd
  simp only [↓kept_ite, ite_self, ↓State.abandonReads_kept, ↓State.count_kept, ↓State.updHome_kept, keeps_core]

theorem execLeaseGuardExpiry_kept (home : Fin 2) (s : State) :
    Keeps (execLeaseGuardExpiry home s) s := by
  unfold execLeaseGuardExpiry
  simp only [↓kept_ite, ite_self, ↓State.driveOut_kept, ↓State.takeUp_kept, ↓State.updHome_kept, keeps_core]

theorem execHeartbeatTimer_kept (s : State) :
    Keeps (execHeartbeatTimer s) s := by
  unfold execHeartbeatTimer
  simp only [kept_eta, ↓kept_mk, ↓kept_ite, ite_self, ↓State.count_kept, ↓State.linkSend_kept, keeps_core]

theorem State.heartbeatIn_kept (s : State) (m : HbMsg) :
    (State.heartbeatIn s m).kept = s.kept := by
  unfold State.heartbeatIn
  simp only [kept_eta, ↓kept_mk, ↓kept_ite, ite_self, ↓State.intlkLevels_kept, ↓State.leaseOn_kept, ↓State.put_kept, ↓State.putB_kept, ↓State.record_kept, ↓State.setReg_kept]

theorem execHeartbeat_kept (x : Ely) (m : HbMsg) (s : State) :
    Keeps (execHeartbeat x m s) s := by
  unfold execHeartbeat
  simp only [↓kept_ite, ite_self, implies_true, ↓State.heartbeatIn_kept, ↓State.twinIn_kept, keeps_core]

theorem State.joinHome_kept (s : State) (h : Nat) (full : Bool) :
    (State.joinHome s h full).kept = s.kept := by
  unfold State.joinHome
  split <;> simp only [kept_eta, ↓kept_mk, ↓foldl_kept, implies_true, ↓State.setPair_kept, ↓State.setRole_kept, ↓State.standWrite_kept, ↓State.updHome_kept]

theorem State.settleHome_kept (s : State) (h : Nat) (mine : StandRec) (theirs : StandRec) :
    (State.settleHome s h mine theirs).kept = s.kept := by
  unfold State.settleHome
  simp only [↓kept_ite, ite_self, ↓State.claimToken_kept, ↓State.joinHome_kept, ↓State.record_kept, ↓State.startResync_kept, ↓State.updHome_kept]

theorem execBid_kept (x : Ely) (rec0 : StandRec) (rec1 : StandRec) (s : State) :
    Keeps (execBid x rec0 rec1 s) s := by
  unfold execBid
  simp only [kept_eta, ↓kept_mk, ↓kept_ite, ite_self, implies_true, ↓State.settleHome_kept, ↓State.twinWakeIn_kept, keeps_core]

theorem execPairWaitExpiry_kept (s : State) :
    Keeps (execPairWaitExpiry s) s := by
  unfold execPairWaitExpiry
  simp only [kept_eta, ↓kept_mk, ↓kept_ite, ↓foldl_kept, ite_self, implies_true, ↓State.claimToken_kept, ↓State.record_kept, ↓State.setPair_kept, keeps_core]

theorem State.cmdHandover_kept (s : State) (h : Nat) :
    (State.cmdHandover s h).kept = s.kept := by
  unfold State.cmdHandover
  simp only [↓State.beginHandover_kept]

theorem State.cmdForceSolo_kept (s : State) (h : Nat) :
    (State.cmdForceSolo s h).kept = s.kept := by
  unfold State.cmdForceSolo
  simp only [↓kept_ite, ite_self, ↓State.claimToken_kept]

theorem State.cmdAcceptResync_kept (s : State) (h : Nat) :
    (State.cmdAcceptResync s h).kept = s.kept := by
  unfold State.cmdAcceptResync
  simp only [↓kept_ite, ite_self, ↓State.joinHome_kept, ↓State.linkSend_kept, ↓State.setReg_kept, ↓State.updHome_kept]

theorem State.cmdRetryAdmit_kept (s : State) (h : Nat) :
    (State.cmdRetryAdmit s h).kept = s.kept := by
  unfold State.cmdRetryAdmit
  simp only [↓kept_ite, ite_self, ↓State.startResync_kept]

theorem State.cmdVerify_kept (s : State) (h : Nat) :
    (State.cmdVerify s h).kept = s.kept := by
  unfold State.cmdVerify
  simp only [↓kept_ite, ite_self, ↓State.goSolo_kept, ↓State.sendState_kept, ↓State.setPair_kept, ↓State.updHome_kept]

theorem State.twnCmd_kept (s : State) (op : Nat) (h : Nat) :
    (State.twnCmd s op h).kept = s.kept := by
  unfold State.twnCmd
  split <;> simp only [↓State.cmdAcceptResync_kept, ↓State.cmdForceSolo_kept, ↓State.cmdHandover_kept, ↓State.cmdRetryAdmit_kept, ↓State.cmdVerify_kept]

theorem execHandover_kept (home : Fin 2) (s : State) :
    Keeps (execHandover home s) s := by
  unfold execHandover
  simp only [↓kept_ite, ite_self, ↓State.cmdHandover_kept, keeps_core]

theorem execForceSolo_kept (home : Fin 2) (s : State) :
    Keeps (execForceSolo home s) s := by
  unfold execForceSolo
  simp only [↓kept_ite, ite_self, ↓State.cmdForceSolo_kept, keeps_core]

theorem execAcceptResync_kept (home : Fin 2) (s : State) :
    Keeps (execAcceptResync home s) s := by
  unfold execAcceptResync
  simp only [↓kept_ite, ite_self, ↓State.cmdAcceptResync_kept, keeps_core]

theorem execRetryAdmit_kept (home : Fin 2) (s : State) :
    Keeps (execRetryAdmit home s) s := by
  unfold execRetryAdmit
  simp only [↓kept_ite, ite_self, ↓State.cmdRetryAdmit_kept, keeps_core]

theorem execVerify_kept (home : Fin 2) (s : State) :
    Keeps (execVerify home s) s := by
  unfold execVerify
  simp only [↓kept_ite, ite_self, ↓State.cmdVerify_kept, keeps_core]

theorem execFailbackDelayExpiry_kept (home : Fin 2) (s : State) :
    Keeps (execFailbackDelayExpiry home s) s := by
  unfold execFailbackDelayExpiry
  simp only [↓kept_ite, ite_self, ↓State.cmdHandover_kept, keeps_core]

theorem execArpRepeatTimer_kept (home : Fin 2) (s : State) :
    Keeps (execArpRepeatTimer home s) s := by
  unfold execArpRepeatTimer
  simp only [↓kept_ite, ite_self, ↓State.gratuitous_kept, ↓State.updHome_kept, keeps_core]

theorem State.sendHealth_kept (s : State) :
    (State.sendHealth s).kept = s.kept := by
  unfold State.sendHealth
  simp only [kept_eta, ↓kept_mk, ↓State.linkSend_kept, ↓State.put_kept]

theorem execHealthTimer_kept (s : State) :
    Keeps (execHealthTimer s) s := by
  unfold execHealthTimer
  simp only [↓kept_ite, ite_self, ↓State.sendHealth_kept, keeps_core]

theorem State.lockstepMiss_kept (s : State) (h : Nat) :
    (State.lockstepMiss s h).kept = s.kept := by
  unfold State.lockstepMiss
  simp only [↓kept_ite, ite_self, ↓State.count_kept, ↓State.record_kept, ↓State.sendState_kept, ↓State.setPair_kept, ↓State.updHome_kept]

theorem State.healthIn_kept (s : State) (word : BitVec 32) (compared : Nat) :
    (State.healthIn s word compared).kept = s.kept := by
  unfold State.healthIn
  simp only [↓kept_ite, ↓foldl_kept, ite_self, implies_true, ↓State.goSolo_kept, ↓State.holdsFollow_kept, ↓State.leaseOn_kept, ↓State.lockstepMiss_kept, ↓State.record_kept, ↓State.setReg_kept, ↓State.updHome_kept]

theorem execHealth_kept (x : Ely) (word : BitVec 32) (compared : BitVec 64) (budget : BitVec 32) (mirrorFree : BitVec 32) (s : State) :
    Keeps (execHealth x word compared budget mirrorFree s) s := by
  unfold execHealth
  simp only [kept_eta, ↓kept_mk, ↓kept_ite, ite_self, implies_true, ↓State.healthIn_kept, ↓State.twinIn_kept, keeps_core]

theorem execInterlockTestPulse_kept (home : Fin 2) (followed : Bool) (s : State) :
    Keeps (execInterlockTestPulse home followed s) s := by
  unfold execInterlockTestPulse
  simp only [kept_eta, ↓kept_mk, ↓kept_ite, ite_self, ↓State.emit_kept, ↓State.intlkFault_kept, ↓State.intlkPass_kept, keeps_core]

theorem execEyeMonitorTimer_kept (margins : List (Fin 8 × Nat)) (s : State) :
    Keeps (execEyeMonitorTimer margins s) s := by
  unfold execEyeMonitorTimer
  simp only [↓kept_ite, ite_self, ↓State.setRegBit_kept, keeps_core]

theorem execBistTimer_kept (cluster : Fin 12) (s : State) :
    Keeps (execBistTimer cluster s) s := by
  unfold execBistTimer
  simp only [kept_eta, ↓kept_mk, ↓kept_ite, ite_self, keeps_core]

theorem State.retireCluster_kept (s : State) (k : Nat) :
    (State.retireCluster s k).kept = s.kept := by
  unfold State.retireCluster
  simp only [kept_eta, ↓kept_mk, ↓kept_ite, ite_self, ↓State.stopService_kept]

theorem execBistDone_kept (cluster : Fin 12) (passed : Bool) (s : State) :
    Keeps (execBistDone cluster passed s) s := by
  unfold execBistDone
  simp only [kept_eta, ↓kept_mk, ↓kept_ite, ite_self, ↓State.put_kept, ↓State.retireCluster_kept, ↓State.setRegBit_kept, keeps_core]

theorem execClusterFault_kept (cluster : Fin 12) (s : State) :
    Keeps (execClusterFault cluster s) s := by
  unfold execClusterFault
  simp only [↓kept_ite, ite_self, ↓State.retireCluster_kept, keeps_core]

/-! ### TwinData.lean -/

theorem State.confirmOut_kept (s : State) (h : Nat) (m : Nat) :
    (State.confirmOut s h m).kept = s.kept := by
  unfold State.confirmOut
  simp only [↓State.linkSend_kept]

theorem State.dataIn_kept (s : State) (x : Ely) (d : DataHdr) (go : State → State) (h_go : ∀ a0, (go a0).kept = a0.kept) :
    (State.dataIn s x d go).kept = s.kept := by
  unfold State.dataIn
  simp only [↓kept_ite, ite_self, implies_true, ↓State.count_kept, ↓State.twinWakeIn_kept, ↓State.updHome_kept, ↓h_go]

theorem State.recordIn_kept (s : State) (x : Ely) (d : DataHdr) (store : State → State) (h_store : ∀ a0, (store a0).kept = a0.kept) :
    (State.recordIn s x d store).kept = s.kept := by
  unfold State.recordIn
  simp only [implies_true, ↓State.confirmOut_kept, ↓State.dataIn_kept, ↓h_store]

theorem State.notePsn_kept (s : State) (d : DataHdr) (msn : Option Nat) :
    (State.notePsn s d msn).kept = s.kept := by
  unfold State.notePsn
  simp only [↓kept_ite, ite_self, ↓State.updQp_kept]

theorem State.mirrorFrames_kept (s : State) (addr : Nat) (len : Nat) :
    (State.mirrorFrames s addr len).kept = s.kept := by
  unfold State.mirrorFrames
  simp only [↓foldl_kept, implies_true, ↓State.loadUnit_kept]

theorem State.mirrorPlace_kept (s : State) (d : DataHdr) (op : MirrorOp) :
    (State.mirrorPlace s d op).kept = s.kept := by
  unfold State.mirrorPlace
  split <;> simp only [↓State.mirrorFrames_kept, ↓State.notePsn_kept, ↓State.placeBytes_kept, ↓State.saveAtomic_kept, ↓State.trimRange_kept, ↓State.updQp_kept]

theorem State.placeLate_kept (s : State) (x1 : Nat) :
    (State.placeLate s x1).kept = s.kept := by
  induction x1 generalizing s with
  | zero => rfl
  | succ n ih =>
    unfold State.placeLate
    split
    · split
      · refine (ih _).trans ?_
        simp only [↓State.confirmOut_kept, ↓State.mirrorPlace_kept, ↓kept_mk, kept_eta]
      · rfl
    · rfl

theorem State.mirrorIn_kept (s : State) (x : Ely) (d : DataHdr) (op : MirrorOp) :
    (State.mirrorIn s x d op).kept = s.kept := by
  unfold State.mirrorIn
  simp only [kept_eta, ↓kept_mk, implies_true, ↓State.dataIn_kept, ↓State.placeLate_kept, ↓State.settle_kept]

theorem execDataWrite_kept (x : Ely) (d : DataHdr) (addr : BitVec 64) (msn : BitVec 64) (data : List Byte) (s : State) :
    Keeps (execDataWrite x d addr msn data s) s := by
  unfold execDataWrite
  simp only [ite_self, ↓State.mirrorIn_kept, keeps_next, keeps_refused, ↓keeps_ite]

theorem execDataZero_kept (x : Ely) (d : DataHdr) (addr : BitVec 64) (len : BitVec 64) (s : State) :
    Keeps (execDataZero x d addr len s) s := by
  unfold execDataZero
  simp only [↓State.mirrorIn_kept, keeps_next]

theorem execDataTrim_kept (x : Ely) (d : DataHdr) (addr : BitVec 64) (len : BitVec 64) (s : State) :
    Keeps (execDataTrim x d addr len s) s := by
  unfold execDataTrim
  simp only [↓State.mirrorIn_kept, keeps_next]

theorem execDataAtomic_kept (x : Ely) (d : DataHdr) (addr : BitVec 64) (original : BitVec 64) (new : BitVec 64) (s : State) :
    Keeps (execDataAtomic x d addr original new s) s := by
  unfold execDataAtomic
  simp only [↓State.mirrorIn_kept, keeps_next]

theorem execDataArm_kept (x : Ely) (d : DataHdr) (region : BitVec 64) (s : State) :
    Keeps (execDataArm x d region s) s := by
  unfold execDataArm
  simp only [implies_true, ↓State.recordIn_kept, ↓State.updRegion_kept, keeps_next]

theorem State.holdRec_kept (s : State) (h : Nat) (r : HeldRec) :
    (State.holdRec s h r).kept = s.kept := by
  unfold State.holdRec
  simp only [↓State.updHome_kept]

theorem execDataDoorbell_kept (x : Ely) (d : DataHdr) (queue : Fin 64) (slot : Fin 32) (value : BitVec 64) (s : State) :
    Keeps (execDataDoorbell x d queue slot value s) s := by
  unfold execDataDoorbell
  simp only [implies_true, ↓State.holdRec_kept, ↓State.recordIn_kept, ↓State.updQueue_kept, keeps_next]

theorem execDataFetch_kept (x : Ely) (d : DataHdr) (queue : Fin 64) (first : BitVec 16) (count : BitVec 16) (s : State) :
    Keeps (execDataFetch x d queue first count s) s := by
  unfold execDataFetch
  simp only [implies_true, ↓State.holdRec_kept, ↓State.recordIn_kept, ↓State.updQueue_kept, keeps_next]

theorem execDataPost_kept (x : Ely) (d : DataHdr) (queue : Fin 64) (nq : Bool) (index : BitVec 16) (psn : Psn) (entry : List Byte) (slot : BitVec 16) (s : State) :
    Keeps (execDataPost x d queue nq index psn entry slot s) s := by
  unfold execDataPost
  simp only [↓kept_ite, ite_self, implies_true, ↓State.holdRec_kept, ↓State.recordIn_kept, ↓State.updQp_kept, ↓State.updQueue_kept, keeps_next, keeps_refused, ↓keeps_ite]

theorem execDataPlace_kept (x : Ely) (d : DataHdr) (granule : Nat) (count : Nat) (placement : Fin 4) (s : State) :
    Keeps (execDataPlace x d granule count placement s) s := by
  unfold execDataPlace
  simp only [↓foldl_kept, implies_true, ↓kept_ite, ite_self, ↓State.loadGranules_kept, ↓State.recordIn_kept, ↓State.setGranule_kept, keeps_next]

theorem State.streamRec_kept (s : State) (h : Nat) (r : StreamRec) :
    (State.streamRec s h r).kept = s.kept := by
  unfold State.streamRec
  split <;> simp only [kept_eta, ↓kept_mk, ↓State.updStream_kept]

theorem execDataStream_kept (x : Ely) (d : DataHdr) (r : StreamRec) (s : State) :
    Keeps (execDataStream x d r s) s := by
  unfold execDataStream
  simp only [implies_true, ↓State.recordIn_kept, ↓State.streamRec_kept, keeps_next]

theorem execDataOrder_kept (x : Ely) (d : DataHdr) (s : State) :
    Keeps (execDataOrder x d s) s := by
  unfold execDataOrder
  repeat' first
    | simp only [keeps_next]
    | refine (State.recordIn_kept _ _ _ _ ?_).trans ?_
    | rfl
    | intro _

theorem State.bindRec_kept (s : State) (n : Nat) (ringKey : BitVec 32) (entries : List Byte) :
    (State.bindRec s n ringKey entries).kept = s.kept := by
  unfold State.bindRec
  repeat' split
  all_goals simp only [kept_eta, ↓kept_mk, ↓foldl_kept, implies_true, ↓State.updQp_kept]

theorem execDataBind_kept (x : Ely) (d : DataHdr) (ringKey : BitVec 32) (entries : List Byte) (s : State) :
    Keeps (execDataBind x d ringKey entries s) s := by
  unfold execDataBind
  simp only [ite_self, implies_true, ↓State.bindRec_kept, ↓State.recordIn_kept, keeps_next, keeps_refused, ↓keeps_ite]

theorem State.applyQp_kept (s : State) (h : Nat) (e : QpEntry) :
    (State.applyQp s h e).kept = s.kept := by
  unfold State.applyQp
  simp only [↓kept_ite, ite_self, ↓State.freeQp_kept, ↓State.setQp_kept, ↓State.updHome_kept]

theorem State.applyEntry_kept (s : State) (h : Nat) (x2 : DeltaEntry) :
    (State.applyEntry s h x2).kept = s.kept := by
  unfold State.applyEntry
  repeat' split
  all_goals simp only [kept_eta, ↓kept_mk, ↓foldl_kept, implies_true, ↓State.applyQp_kept, ↓State.freeRegion_kept, ↓State.setKey_kept, ↓State.setRegBit_kept, ↓State.updQp_kept, ↓State.updQueue_kept, ↓State.updRegion_kept]

theorem execDelta_kept (x : Ely) (home : Fin 2) (epoch : BitVec 64) (term : BitVec 32) (final : Bool) (lockstep : Bool) (lastMseq : BitVec 64) (digest : BitVec 64) (entries : List DeltaEntry) (s : State) :
    Keeps (execDelta x home epoch term final lockstep lastMseq digest entries s) s := by
  unfold execDelta
  simp only [↓kept_ite, ↓foldl_kept, ite_self, implies_true, ↓State.applyEntry_kept, ↓State.claimToken_kept, ↓State.record_kept, ↓State.setPair_kept, ↓State.setReg_kept, ↓State.setRegBit_kept, ↓State.setRole_kept, ↓State.standWrite_kept, ↓State.twinIn_kept, ↓State.updHome_kept, ↓State.volatileLost_kept, keeps_next]

theorem execLockstepIngress_kept (x : Ely) (home : Fin 2) (inseq : Nat) (slice : Fin 8) (p : Pkt) (req : Req) (s : State) :
    Keeps (execLockstepIngress x home inseq slice p req s) s := by
  unfold execLockstepIngress
  repeat' first
    | simp only [↓kept_ite, ↓State.settle_kept, ↓State.stage2_kept, ↓State.updHome_kept, keeps_next]
    | refine ite_kept ?_ ?_
    | split
    | refine (State.quiet_kept _ _ _ ?_).trans ?_
    | refine (State.twinWakeIn_kept _ _ _ ?_).trans ?_
    | intro _

theorem State.loadEntry_kept (s : State) (h : Nat) (x2 : StateEntry) :
    (State.loadEntry s h x2).kept = s.kept := by
  unfold State.loadEntry
  split <;> simp only [↓State.applyEntry_kept, ↓State.bindRec_kept, ↓State.setGranule_kept, ↓State.setPd_kept, ↓State.streamRec_kept, ↓State.updQp_kept]

theorem execState_kept (x : Ely) (home : Fin 2) (table : Fin 6) (last : Bool) (entries : List StateEntry) (s : State) :
    Keeps (execState x home table last entries s) s := by
  unfold execState
  simp only [↓kept_ite, ↓foldl_kept, ite_self, implies_true, ↓State.loadEntry_kept, ↓State.twinWakeIn_kept, ↓State.updHome_kept, keeps_next]

theorem execPiece_kept (x : Ely) (home : Fin 2) (addr : Nat) (data : List Byte) (poison : BitVec 64) (s : State) :
    Keeps (execPiece x home addr data poison s) s := by
  unfold execPiece
  simp only [↓kept_ite, ite_self, implies_true, ↓State.loadUnit_kept, ↓State.placeBytes_kept, ↓State.twinWakeIn_kept, ↓State.updFrame_kept, keeps_next, keeps_refused, ↓keeps_ite]

theorem execResyncDone_kept (x : Ely) (home : Fin 2) (pieces : Nat) (s : State) :
    Keeps (execResyncDone x home pieces s) s := by
  unfold execResyncDone
  simp only [↓kept_ite, ite_self, implies_true, ↓State.twinWakeIn_kept, ↓State.updHome_kept, keeps_next]

end Sys2Proof.Machine
end

