-- ==== Sys2Proof/Laws/KeptMedia.lean ====
section
/-! SUPPORT. Sys2Proof/Laws/KeptMedia.lean: the line cache, flash, DRAM and its error correction keep the queue, the clock
and the one-time values: one lemma for each operation. -/

namespace Sys2Proof.Machine

/-! ### LineCache.lean -/

theorem State.lcEnable_kept (s : State) :
    (State.lcEnable s).1.kept = s.kept := by
  unfold State.lcEnable
  simp only [↓kept_ite1, ite_self, ↓State.put_kept, ↓State.record_kept]

theorem State.lcDisable_kept (s : State) :
    (State.lcDisable s).kept = s.kept := by
  unfold State.lcDisable
  simp only [↓kept_ite, ite_self, ↓State.put_kept]

theorem State.cleanInvWhole_kept (s : State) :
    (State.cleanInvWhole s).kept = s.kept := by
  unfold State.cleanInvWhole
  simp only [↓foldl_kept, implies_true, ↓State.cleanInvLine_kept]

theorem State.lcDisableDone_kept (s : State) :
    (State.lcDisableDone s).kept = s.kept := by
  unfold State.lcDisableDone
  simp only [↓kept_ite, ite_self, ↓State.cleanInvWhole_kept, ↓State.put_kept]

theorem State.lcLockWrite_kept (s : State) (v : Nat) :
    (State.lcLockWrite s v).kept = s.kept := by
  unfold State.lcLockWrite
  simp only [kept_eta, ↓kept_mk, ↓kept_ite, ite_self, ↓State.put_kept]

theorem State.lcLockDone_kept (s : State) :
    (State.lcLockDone s).kept = s.kept := by
  unfold State.lcLockDone
  split <;> simp only [kept_eta, ↓kept_mk, ↓foldl_kept, implies_true, ↓State.cleanInvLine_kept, ↓State.put_kept]

theorem State.invLine_kept (s : State) (l : Nat) :
    (State.invLine s l).kept = s.kept := by
  unfold State.invLine
  split <;> simp only [↓kept_ite, ite_self, ↓State.cleanInvLine_kept, ↓State.dropLine_kept]

theorem State.zeroT0Line_kept (s : State) (l : Nat) :
    (State.zeroT0Line s l).kept = s.kept := by
  unfold State.zeroT0Line
  split <;> simp only [↓State.allocLine_kept, ↓State.setLine_kept]

theorem State.lockFillLine_kept (s : State) (mask : Nat) (l : Nat) :
    (State.lockFillLine s mask l).1.kept = s.kept := by
  unfold State.lockFillLine
  repeat' split
  all_goals simp only [↓State.setLine_kept]

theorem State.mopRefuse_kept (s : State) (err : Nat) :
    (State.mopRefuse s err).kept = s.kept := by
  unfold State.mopRefuse
  simp only [↓State.put_kept]

theorem State.mopBegin_kept (s : State) (op : Nat) (done : Nat) (err : Nat) :
    (State.mopBegin s op done err).kept = s.kept := by
  unfold State.mopBegin
  simp only [kept_eta, ↓kept_mk, ↓State.put_kept, ↓State.setReg_kept]

theorem State.mopAtOnce_kept (s : State) (op : Nat) :
    (State.mopAtOnce s op).kept = s.kept := by
  unfold State.mopAtOnce
  simp only [↓State.put_kept, ↓State.setReg_kept]

theorem State.mopStart_kept (s : State) (op : Nat) (mask : Nat) :
    (State.mopStart s op mask).kept = s.kept := by
  unfold State.mopStart
  simp only [kept_eta, ↓kept_mk, ↓kept_ite, ↓foldl_kept, ↓foldl_kept1, ite_self, implies_true, ↓State.cleanInvLine_kept, ↓State.cleanInvWhole_kept, ↓State.cleanLine_kept, ↓State.invLine_kept, ↓State.lockFillLine_kept, ↓State.mopAtOnce_kept, ↓State.mopBegin_kept, ↓State.mopRefuse_kept, ↓State.zeroT0Line_kept]

theorem State.mopDone_kept (s : State) :
    (State.mopDone s).kept = s.kept := by
  unfold State.mopDone
  split <;> simp only [kept_eta, ↓kept_mk, ↓kept_ite, ite_self, ↓State.put_kept, ↓State.record_kept]

theorem execLcEnable_kept (s : State) :
    Keeps (execLcEnable s) s := by
  unfold execLcEnable
  simp only [↓kept_ite, ite_self, ↓State.lcEnable_kept, keeps_core]

theorem execLcDisable_kept (s : State) :
    Keeps (execLcDisable s) s := by
  unfold execLcDisable
  simp only [↓kept_ite, ite_self, ↓State.lcDisable_kept, keeps_core]

theorem execLcDisableDone_kept (s : State) :
    Keeps (execLcDisableDone s) s := by
  unfold execLcDisableDone
  simp only [↓kept_ite, ite_self, ↓State.lcDisableDone_kept, keeps_core]

theorem execLcLockSet_kept (way : Fin 8) (s : State) :
    Keeps (execLcLockSet way s) s := by
  unfold execLcLockSet
  simp only [↓kept_ite, ite_self, ↓State.lcLockWrite_kept, keeps_core]

theorem execLcLockSetDone_kept (s : State) :
    Keeps (execLcLockSetDone s) s := by
  unfold execLcLockSetDone
  simp only [↓kept_ite, ite_self, ↓State.lcLockDone_kept, keeps_core]

theorem execLcLockClear_kept (way : Fin 8) (s : State) :
    Keeps (execLcLockClear way s) s := by
  unfold execLcLockClear
  simp only [↓kept_ite, ite_self, ↓State.lcLockWrite_kept, keeps_core]

theorem execInvAll_kept (s : State) :
    Keeps (execInvAll s) s := by
  unfold execInvAll
  simp only [↓kept_ite, ite_self, ↓State.mopStart_kept, keeps_core]

theorem execInvRange_kept (s : State) :
    Keeps (execInvRange s) s := by
  unfold execInvRange
  simp only [↓kept_ite, ite_self, ↓State.mopStart_kept, keeps_core]

theorem execCleanRange_kept (s : State) :
    Keeps (execCleanRange s) s := by
  unfold execCleanRange
  simp only [↓kept_ite, ite_self, ↓State.mopStart_kept, keeps_core]

theorem execCleanInvRange_kept (s : State) :
    Keeps (execCleanInvRange s) s := by
  unfold execCleanInvRange
  simp only [↓kept_ite, ite_self, ↓State.mopStart_kept, keeps_core]

theorem execZeroLine_kept (s : State) :
    Keeps (execZeroLine s) s := by
  unfold execZeroLine
  simp only [↓kept_ite, ite_self, ↓State.mopStart_kept, keeps_core]

theorem execLockFill_kept (wayMask : BitVec 8) (s : State) :
    Keeps (execLockFill wayMask s) s := by
  unfold execLockFill
  simp only [↓kept_ite, ite_self, ↓State.mopStart_kept, keeps_core]

theorem execCleanAll_kept (s : State) :
    Keeps (execCleanAll s) s := by
  unfold execCleanAll
  simp only [↓kept_ite, ite_self, ↓State.mopStart_kept, keeps_core]

theorem execCleanInvAll_kept (s : State) :
    Keeps (execCleanInvAll s) s := by
  unfold execCleanInvAll
  simp only [↓kept_ite, ite_self, ↓State.mopStart_kept, keeps_core]

theorem execLcMopReservedOp_kept (op : BitVec 4) (s : State) :
    Keeps (execLcMopReservedOp op s) s := by
  unfold execLcMopReservedOp
  simp only [↓kept_ite, ite_self, ↓State.mopStart_kept, keeps_refused, keeps_core, ↓keeps_ite]

theorem execLcMopDone_kept (s : State) :
    Keeps (execLcMopDone s) s := by
  unfold execLcMopDone
  simp only [↓kept_ite, ite_self, ↓State.mopDone_kept, keeps_core]

theorem execLcFillDone_kept (line : Nat) (s : State) :
    Keeps (execLcFillDone line s) s := by
  unfold execLcFillDone
  split <;> simp only [↓kept_ite, ite_self, ↓State.endLineFill_kept, ↓State.retryFill_kept, keeps_core]

theorem execFillBufferFreed_kept (bank : Fin 16) (s : State) :
    Keeps (execFillBufferFreed bank s) s := by
  unfold execFillBufferFreed
  simp only [↓kept_ite, ite_self, ↓State.retry_kept, keeps_core]

theorem execLcBankInvalidateDone_kept (bank : Fin 16) (s : State) :
    Keeps (execLcBankInvalidateDone bank s) s := by
  unfold execLcBankInvalidateDone
  simp only [kept_eta, ↓kept_mk, ↓kept_ite, ite_self, ↓State.retry_kept, ↓State.setRegBit_kept, keeps_core]

/-! ### Flash.lean -/

theorem State.setSb_kept (s : State) (n : Nat) (x : Sb) :
    (State.setSb s n x).kept = s.kept := by
  unfold State.setSb
  simp only [kept_eta, ↓kept_mk]

theorem State.markBlocks_kept (s : State) (bs : List Nat) (st : BlkSt) :
    (State.markBlocks s bs st).kept = s.kept := by
  unfold State.markBlocks
  simp only [↓foldl_kept, implies_true, ↓State.updBlk_kept]

theorem State.openSb_kept (s : State) (stream : Nat) :
    ∀ x, State.openSb s stream = some x → x.1.kept = s.kept := by
  unfold State.openSb
  intro x h
  repeat' first
    | cases h
    | split at h
    | simp only [kept_eta, ↓kept_mk, ↓State.journalAdd_kept, ↓State.markBlocks_kept, ↓State.setSb_kept]
    | split

theorem State.handTo_kept (s : State) (n : Nat) (x : Sb) (p : Nat) (use : PageUse) :
    (State.handTo s n x p use).1.kept = s.kept := by
  unfold State.handTo
  simp only [kept_eta, ↓kept_mk, ↓State.countBy_kept, ↓State.setSb_kept]

theorem State.openNext_kept (s : State) (stream : Nat) :
    (State.openNext s stream).kept = s.kept := by
  unfold State.openNext
  repeat' first
    | simp only [↓kept_ite]
    | refine ite_kept ?_ ?_
    | split
    | refine (State.openSb_kept _ _ _ (by assumption)).trans ?_

theorem State.handPage_kept (s : State) (quench : Bool) (stream : Nat) (pos : Option Nat) (use : PageUse) :
    ∀ x, State.handPage s quench stream pos use = some x → x.1.kept = s.kept := by
  unfold State.handPage
  intro x h
  dsimp only at h
  split at h
  · cases h
  · split at h
    · cases h
      simp only [↓State.handTo_kept, ↓State.openNext_kept]
    · split at h
      · split at h
        · cases h
          simp only [↓State.handTo_kept]
          exact State.openSb_kept _ _ _ (by assumption)
        · cases h
      · cases h

theorem State.journalPump_kept (s : State) (all : Bool) :
    (State.journalPump s all).kept = s.kept := by
  unfold State.journalPump
  repeat' first
    | simp only [kept_eta, ↓kept_mk, ↓kept_ite]
    | refine ite_kept ?_ ?_
    | split
    | refine (State.handPage_kept _ _ _ _ _ _ (by assumption)).trans ?_

theorem State.deepDone_kept (s : State) (u : Nat) (stamp : Nat) :
    (State.deepDone s u stamp).kept = s.kept := by
  unfold State.deepDone
  simp only [kept_eta, ↓kept_mk]

theorem State.commitUnit_kept (s : State) (u : Nat) :
    (State.commitUnit s u).kept = s.kept := by
  unfold State.commitUnit
  split <;> simp only [kept_eta, ↓kept_mk, ↓State.deepDone_kept, ↓State.updFrame_kept]

theorem State.copyFrame_kept (s : State) (quench : Bool) (u : Nat) :
    (State.copyFrame s quench u).kept = s.kept := by
  unfold State.copyFrame
  repeat' first
    | simp only [kept_eta, ↓kept_mk, ↓State.cleanUnit_kept, ↓State.fillLines_kept, ↓State.setFrame_kept]
    | split
    | refine (State.handPage_kept _ _ _ _ _ _ (by assumption)).trans ?_

theorem execLehrDestageStart_kept (s : State) :
    Keeps (execLehrDestageStart s) s := by
  unfold execLehrDestageStart
  repeat' split
  all_goals simp only [↓kept_ite, ite_self, ↓State.copyFrame_kept, ↓State.dirtyPause_kept, ↓State.journalPump_kept, keeps_core]

theorem execDestageProgramVerified_kept (unit : Nat) (s : State) :
    Keeps (execDestageProgramVerified unit s) s := by
  unfold execDestageProgramVerified
  simp only [↓kept_ite, ite_self, ↓State.commitUnit_kept, ↓State.placeLate_kept, ↓State.settle_kept, ↓State.spaceCheck_kept, keeps_core]

theorem execDirtyBudgetRoom_kept (home : Fin 2) (s : State) :
    Keeps (execDirtyBudgetRoom home s) s := by
  unfold execDirtyBudgetRoom
  simp only [↓kept_ite, ite_self, ↓State.placeLate_kept, ↓State.settle_kept, keeps_core]

theorem State.relocate_kept (s : State) (u : Nat) :
    (State.relocate s u).kept = s.kept := by
  unfold State.relocate
  split
  · split
    · rfl
    · split
      · exact State.handPage_kept _ _ _ _ _ _ (by assumption)
      · rfl
  · rfl

theorem State.gcGoOn_kept (s : State) :
    (State.gcGoOn s).kept = s.kept := by
  unfold State.gcGoOn
  simp only [↓kept_ite, ↓foldl_kept, ite_self, implies_true, ↓State.journalAdd_kept, ↓State.relocate_kept, ↓State.setSb_kept]

theorem State.gcStatus_kept (s : State) :
    (State.gcStatus s).kept = s.kept := by
  unfold State.gcStatus
  simp only [kept_eta, ↓kept_mk, ↓State.putB_kept]

theorem State.replaceMember_kept (s : State) (n : Nat) (x : Sb) (p : Nat) (new : Nat) :
    (State.replaceMember s n x p new).kept = s.kept := by
  unfold State.replaceMember
  simp only [kept_eta, ↓kept_mk, ↓State.countBy_kept, ↓State.markBlocks_kept, ↓State.setSb_kept]

theorem State.retireBlock_kept (s : State) (b : Nat) :
    (State.retireBlock s b).kept = s.kept := by
  unfold State.retireBlock
  simp only [↓kept_ite, ite_self, ↓State.record_kept]
  repeat' split
  all_goals simp only [kept_eta, ↓kept_mk, ↓foldl_kept, implies_true, ↓State.count_kept, ↓State.gcGoOn_kept, ↓State.journalAdd_kept, ↓State.markBlocks_kept, ↓State.record_kept, ↓State.relocate_kept, ↓State.replaceMember_kept, ↓State.setSb_kept, ↓State.updBlk_kept]

theorem State.unitsLost_kept (s : State) (us : List Nat) :
    (State.unitsLost s us).kept = s.kept := by
  unfold State.unitsLost
  repeat' first
    | simp only [kept_eta, ↓kept_mk, ↓kept_ite, ite_self, ↓State.needHeal_kept, ↓State.setFrame_kept]
    | split
    | refine (foldl_kept _ _ _ (fun s a => ?_)).trans ?_

theorem State.movePosition_kept (s : State) (c : Nat) (p : Nat) :
    (State.movePosition s c p).kept = s.kept := by
  unfold State.movePosition
  repeat' first
    | simp only [↓State.journalAdd_kept, ↓State.put_kept, ↓State.replaceMember_kept, ↓State.setReg_kept, ↓State.unitsLost_kept]
    | split
    | refine (foldl_kept _ _ _ (fun s a => ?_)).trans ?_

theorem State.retireFch_kept (s : State) (c : Nat) :
    (State.retireFch s c).kept = s.kept := by
  unfold State.retireFch
  simp only [↓kept_ite, ↓foldl_kept, ite_self, implies_true, ↓State.movePosition_kept, ↓State.put_kept, ↓State.record_kept, ↓State.spaceCheck_kept]

theorem State.retireDie_kept (s : State) (c : Nat) (d : Nat) :
    (State.retireDie s c d).kept = s.kept := by
  unfold State.retireDie
  repeat' first
    | simp only [kept_eta, ↓kept_mk, ↓kept_ite, ite_self, ↓State.put_kept, ↓State.record_kept, ↓State.replaceMember_kept, ↓State.retireFch_kept, ↓State.spaceCheck_kept, ↓State.unitsLost_kept]
    | refine ite_kept ?_ ?_
    | split
    | refine (foldl_kept _ _ _ (fun s a => ?_)).trans ?_

theorem State.dieCheck_kept (s : State) (b : Nat) :
    (State.dieCheck s b).kept = s.kept := by
  unfold State.dieCheck
  simp only [↓kept_ite, ite_self, ↓State.retireDie_kept]

theorem State.commitEntry_kept (s : State) (e : JEntry) :
    (State.commitEntry s e).kept = s.kept := by
  unfold State.commitEntry
  repeat' split
  all_goals simp only [kept_eta, ↓kept_mk, ↓State.commitUnit_kept, ↓State.count_kept, ↓State.updBlk_kept]

theorem State.pagePassed_kept (s : State) (o : PageOp) (loc : Nat) :
    (State.pagePassed s o loc).kept = s.kept := by
  unfold State.pagePassed
  repeat' split
  all_goals simp only [kept_eta, ↓kept_mk, ↓foldl_kept, implies_true, ↓State.commitEntry_kept, ↓State.journalAdd_kept]

theorem State.closeSb_kept (s : State) (n : Nat) :
    (State.closeSb s n).kept = s.kept := by
  unfold State.closeSb
  split <;> simp only [↓kept_ite, ite_self, ↓State.journalAdd_kept, ↓State.markBlocks_kept, ↓State.setSb_kept]

theorem execNandProgramDone_kept (block : Nat) (page : Nat) (ok : Bool) (s : State) :
    Keeps (execNandProgramDone block page ok s) s := by
  unfold execNandProgramDone
  split <;> simp only [kept_eta, ↓kept_mk, ↓kept_ite, ite_self, ↓State.closeSb_kept, ↓State.count_kept, ↓State.dieCheck_kept, ↓State.gcGoOn_kept, ↓State.journalPump_kept, ↓State.pagePassed_kept, ↓State.placeLate_kept, ↓State.retireBlock_kept, ↓State.setSb_kept, ↓State.settle_kept, ↓State.spaceCheck_kept, ↓State.updBlk_kept, keeps_core]

theorem execStripeFillTimeout_kept (position : Nat) (s : State) :
    Keeps (execStripeFillTimeout position s) s := by
  unfold execStripeFillTimeout
  simp only [↓kept_ite, ↓foldl_kept, ite_self, implies_true, ↓State.handTo_kept, keeps_core]

theorem State.wearCheck_kept (s : State) (before : Nat) :
    (State.wearCheck s before).kept = s.kept := by
  unfold State.wearCheck
  simp only [↓kept_ite, ite_self, ↓State.record_kept]

theorem execNandEraseDone_kept (block : Nat) (ok : Bool) (s : State) :
    Keeps (execNandEraseDone block ok s) s := by
  unfold execNandEraseDone
  simp only [↓kept_ite, ite_self, ↓State.count_kept, ↓State.dieCheck_kept, ↓State.gcStatus_kept, ↓State.journalAdd_kept, ↓State.journalPump_kept, ↓State.retireBlock_kept, ↓State.setBlk_kept, ↓State.spaceCheck_kept, ↓State.wearCheck_kept, keeps_core]

theorem State.readFail_kept (s : State) (b : Nat) :
    (State.readFail s b).kept = s.kept := by
  unfold State.readFail
  simp only [↓kept_ite, ite_self, ↓State.dieCheck_kept, ↓State.retireBlock_kept, ↓State.updBlk_kept]

theorem State.suspendErase_kept (s : State) (u phys : Nat) :
    (State.suspendErase s u phys).kept = s.kept := by
  unfold State.suspendErase
  extract_lets c
  split <;> simp only [↓kept_ite, ite_self, ↓State.count_kept, ↓State.setBlk_kept]

theorem execNandReadDone_kept (unit : Nat) (codeword : Fin 4) (step : Fin 8) (decoded : Bool) (s : State) :
    Keeps (execNandReadDone unit codeword step decoded s) s := by
  unfold execNandReadDone
  split <;> simp only [kept_eta, ↓kept_mk, ↓kept_ite, ite_self, ↓State.count_kept, ↓State.deliver_kept, ↓State.needHeal_kept, ↓State.readFail_kept, ↓State.suspendErase_kept, ↓State.updBlk_kept, keeps_core]

theorem execSbVerifyDone_kept (sb : Nat) (relocated : List Nat) (s : State) :
    Keeps (execSbVerifyDone sb relocated s) s := by
  unfold execSbVerifyDone
  repeat' split
  all_goals simp only [↓kept_ite, ↓foldl_kept, ite_self, implies_true, ↓State.countBy_kept, ↓State.dieCheck_kept, ↓State.journalAdd_kept, ↓State.journalPump_kept, ↓State.markBlocks_kept, ↓State.relocate_kept, ↓State.retireBlock_kept, ↓State.setBlk_kept, ↓State.setSb_kept, ↓State.spaceCheck_kept, keeps_core]

theorem State.ckptStart_kept (s : State) :
    (State.ckptStart s).kept = s.kept := by
  unfold State.ckptStart
  repeat' first
    | simp only [kept_eta, ↓kept_mk, ↓kept_ite, ↓State.put_kept]
    | refine ite_kept ?_ ?_
    | split
    | refine (State.handPage_kept _ _ _ _ _ _ (by assumption)).trans ?_

theorem State.ckptDone_kept (s : State) :
    (State.ckptDone s).kept = s.kept := by
  unfold State.ckptDone
  simp only [kept_eta, ↓kept_mk, ↓State.count_kept, ↓State.put_kept]

theorem execCheckpointStart_kept (s : State) :
    Keeps (execCheckpointStart s) s := by
  unfold execCheckpointStart
  simp only [↓kept_ite, ite_self, ↓State.ckptStart_kept, keeps_core]

theorem execCheckpointDone_kept (s : State) :
    Keeps (execCheckpointDone s) s := by
  unfold execCheckpointDone
  simp only [↓kept_ite, ite_self, ↓State.ckptDone_kept, keeps_core]

theorem execGcStart_kept (s : State) :
    Keeps (execGcStart s) s := by
  unfold execGcStart
  simp only [↓kept_ite, keeps_core]
  repeat' split
  all_goals simp only [↓State.count_kept, ↓State.gcGoOn_kept, ↓State.gcStatus_kept, ↓State.journalPump_kept, ↓State.setSb_kept]

theorem execDieTempPoll_kept (temps : List (Fin 32 × Fin 128 × Int)) (s : State) :
    Keeps (execDieTempPoll temps s) s := by
  unfold execDieTempPoll
  repeat' first
    | simp only [kept_eta, ↓kept_mk, ↓kept_ite, ↓State.put_kept, keeps_core]
    | refine ite_kept ?_ ?_
    | split
    | refine (foldl_kept _ _ _ (fun s a => ?_)).trans ?_

theorem execFchRetire_kept (chan : Fin 32) (s : State) :
    Keeps (execFchRetire chan s) s := by
  unfold execFchRetire
  simp only [↓kept_ite, ite_self, ↓State.put_kept, ↓State.retireFch_kept, keeps_core]

theorem execFlashDieStopsAnswering_kept (chan : Fin 32) (die : Option (Fin 128)) (s : State) :
    Keeps (execFlashDieStopsAnswering chan die s) s := by
  unfold execFlashDieStopsAnswering
  repeat' split
  all_goals simp only [↓kept_ite, ite_self, ↓State.retireDie_kept, ↓State.retireFch_kept, keeps_core]

theorem execFlashChannelInitDone_kept (chan : Fin 32) (ok : Bool) (g : FlashGeom) (s : State) :
    Keeps (execFlashChannelInitDone chan ok g s) s := by
  unfold execFlashChannelInitDone
  simp only [kept_eta, ↓kept_mk, ↓kept_ite, ite_self, ↓State.put_kept, ↓State.putB_kept, ↓State.record_kept, ↓State.setReg_kept, keeps_core]

theorem execT2SampleTimer_kept (bad : List Nat) (s : State) :
    Keeps (execT2SampleTimer bad s) s := by
  unfold execT2SampleTimer
  simp only [↓kept_ite, ↓foldl_kept, ite_self, implies_true, ↓State.relocate_kept, ↓State.setRegBit_kept, keeps_core]

/-! ### Dram.lean -/

theorem State.updChan_kept (s : State) (c : Nat) (f : DramChan → DramChan) :
    (State.updChan s c f).kept = s.kept := by
  unfold State.updChan
  simp only [kept_eta, ↓kept_mk]

theorem State.t1Shrink_kept (s : State) :
    (State.t1Shrink s).kept = s.kept := by
  unfold State.t1Shrink
  simp only [↓kept_ite, ite_self, ↓State.record_kept, ↓State.setReg_kept, ↓State.stopService_kept]

theorem State.retireDram_kept (s : State) (c : Nat) :
    (State.retireDram s c).kept = s.kept := by
  unfold State.retireDram
  simp only [↓kept_ite, ite_self, ↓State.put_kept]

theorem execDmcRetire_kept (chan : Fin 16) (s : State) :
    Keeps (execDmcRetire chan s) s := by
  unfold execDmcRetire
  simp only [↓kept_ite, ite_self, ↓State.put_kept, ↓State.retireDram_kept, keeps_core]

theorem State.markUncorr_kept (s : State) (line : Nat) (ks : List Nat) :
    (State.markUncorr s line ks).kept = s.kept := by
  unfold State.markUncorr
  simp only [kept_eta, ↓kept_mk]

theorem State.recoverLine_kept (s : State) (line : Nat) (ks : List Nat) :
    (State.recoverLine s line ks).1.kept = s.kept := by
  unfold State.recoverLine
  repeat' split
  all_goals simp only [↓kept_ite1, ite_self, ↓State.askHeal_kept, ↓State.markUncorr_kept, ↓State.poisonUnit_kept, ↓State.setFrame_kept, ↓State.startFill_kept]

theorem State.t0Word_kept (s : State) (line : Nat) (k : Nat) (r : WordRes) :
    (State.t0Word s line k r).1.kept = s.kept := by
  unfold State.t0Word
  simp only []
  repeat' split
  all_goals simp only [↓State.askHeal_kept, ↓State.count_kept, ↓State.dropLine_kept, ↓State.markUncorr_kept, ↓State.poisonUnit_kept, ↓State.record_kept]

theorem State.remapSet_kept (s : State) (c : Nat) (entry : Nat) (sub : Nat) (la : BitVec 32) (k : Nat) :
    (State.remapSet s c entry sub la k).kept = s.kept := by
  unfold State.remapSet
  simp only [↓State.count_kept, ↓State.record_kept, ↓State.updChan_kept]

theorem State.askRetire_kept (s : State) (c : Nat) :
    (State.askRetire s c).kept = s.kept := by
  unfold State.askRetire
  simp only [↓kept_ite, ite_self, ↓State.record_kept, ↓State.retireDram_kept]

theorem State.noteCorr_kept (s : State) (c : Nat) (sub : Nat) (la : BitVec 32) (k : Nat) (double : Bool) (scrub : Bool) :
    (State.noteCorr s c sub la k double scrub).kept = s.kept := by
  unfold State.noteCorr
  simp only [kept_eta, ↓kept_mk, ↓kept_ite, ite_self, ↓State.askRetire_kept, ↓State.count_kept, ↓State.record_kept, ↓State.updChan_kept]
  repeat' split
  all_goals simp only [kept_eta, ↓kept_mk, ↓State.askRetire_kept, ↓State.count_kept, ↓State.record_kept, ↓State.remapSet_kept, ↓State.updChan_kept]

theorem State.noteCorrs_kept (s : State) (c : Nat) (sub : Nat) (la : BitVec 32) (rs : List (WordRes × BitVec 64)) (scrub : Bool) :
    (State.noteCorrs s c sub la rs scrub).kept = s.kept := by
  unfold State.noteCorrs
  simp only [↓foldl_kept, implies_true, ↓State.noteCorr_kept]

theorem State.lineBad_kept (s : State) (c : Nat) (sub : Nat) (la : BitVec 32) (line : Nat) (rs : List (WordRes × BitVec 64)) :
    (State.lineBad s c sub la line rs).kept = s.kept := by
  unfold State.lineBad
  simp only [↓kept_ite, ite_self, ↓State.count_kept, ↓State.put_kept, ↓State.putB_kept, ↓State.record_kept, ↓State.retireDram_kept, ↓State.setReg_kept, ↓State.updChan_kept]

theorem State.readLine_kept (s : State) (c : Nat) (sub : Nat) (la : BitVec 32) (line : Nat) (first : List (BitVec 80)) (again : List (BitVec 80)) (scrub : Bool) :
    (State.readLine s c sub la line first again scrub).1.kept = s.kept := by
  unfold State.readLine
  simp only [↓kept_ite1, ite_self, ↓State.lineBad_kept, ↓State.noteCorrs_kept, ↓State.recoverLine_kept]

theorem State.activate1_kept (s : State) (c : Nat) (a : DramAddr) :
    (State.activate1 s c a).kept = s.kept := by
  unfold State.activate1
  simp only [↓kept_ite, ite_self, ↓State.count_kept, ↓State.draw_kept, ↓State.updChan_kept]

theorem State.issue_kept (s : State) (c : Nat) (sub : Nat) :
    (State.issue s c sub).kept = s.kept := by
  unfold State.issue
  simp only [↓kept_ite]
  repeat' split
  all_goals simp only [↓State.activate1_kept, ↓State.updChan_kept]

theorem State.drainCheck_kept (s : State) (c : Nat) (sub : Nat) :
    (State.drainCheck s c sub).kept = s.kept := by
  unfold State.drainCheck
  simp only [↓State.updChan_kept]

theorem State.enqueue_kept (s : State) (c : Nat) (a : DramAddr) (write : Bool) :
    (State.enqueue s c a write).kept = s.kept := by
  unfold State.enqueue
  simp only [↓kept_ite, ite_self, ↓State.count_kept, ↓State.drainCheck_kept, ↓State.issue_kept, ↓State.updChan_kept]

theorem execDmcRequestEnqueued_kept (a : DramAddr) (write : Bool) (s : State) :
    Keeps (execDmcRequestEnqueued a write s) s := by
  unfold execDmcRequestEnqueued
  simp only [↓kept_ite, ite_self, ↓State.enqueue_kept, keeps_core]

theorem State.entryFreed_kept (s : State) (c : Nat) (sub : Nat) (write : Bool) :
    (State.entryFreed s c sub write).kept = s.kept := by
  unfold State.entryFreed
  simp only [↓kept_ite]
  repeat' split
  all_goals simp only [↓State.enqueue_kept, ↓State.updChan_kept]

theorem execDmcQueueEntryFreed_kept (chan : Fin 16) (sub : Fin 2) (write : Bool) (s : State) :
    Keeps (execDmcQueueEntryFreed chan sub write s) s := by
  unfold execDmcQueueEntryFreed
  simp only [↓kept_ite, ite_self, ↓State.entryFreed_kept, keeps_core]

theorem State.burstDone_kept (s : State) (c : Nat) (a : DramAddr) (write : Bool) :
    (State.burstDone s c a write).kept = s.kept := by
  unfold State.burstDone
  split <;> simp only [↓State.drainCheck_kept, ↓State.entryFreed_kept, ↓State.issue_kept, ↓State.updChan_kept]

theorem execDramReadDone_kept (a : DramAddr) (line : Nat) (first : List (BitVec 80)) (again : List (BitVec 80)) (s : State) :
    Keeps (execDramReadDone a line first again s) s := by
  unfold execDramReadDone
  simp only [↓kept_ite, ite_self, ↓State.burstDone_kept, ↓State.count_kept, ↓State.readLine_kept, ↓State.retryFill_kept, ↓State.settle_kept, keeps_refused, keeps_core, ↓keeps_ite]

theorem execDramWriteRetired_kept (a : DramAddr) (s : State) :
    Keeps (execDramWriteRetired a s) s := by
  unfold execDramWriteRetired
  simp only [↓kept_ite, ite_self, ↓State.burstDone_kept, ↓State.count_kept, keeps_core]

theorem execRowIdleClose_kept (chan : Fin 16) (sub : Fin 2) (bank : Nat) (s : State) :
    Keeps (execRowIdleClose chan sub bank s) s := by
  unfold execRowIdleClose
  simp only [↓kept_ite, ite_self, ↓State.updChan_kept, keeps_core]

theorem execDmcAgeMax_kept (chan : Fin 16) (sub : Fin 2) (seq : Nat) (s : State) :
    Keeps (execDmcAgeMax chan sub seq s) s := by
  unfold execDmcAgeMax
  simp only [↓kept_ite, ite_self, ↓State.issue_kept, ↓State.updChan_kept, keeps_core]

theorem execRankPowerDown_kept (chan : Fin 16) (rank : Fin 16) (s : State) :
    Keeps (execRankPowerDown chan rank s) s := by
  unfold execRankPowerDown
  simp only [↓kept_ite, ite_self, ↓State.updChan_kept, keeps_core]

theorem State.setDebt_kept (s : State) (c : Nat) (rank : Nat) (debt : Nat) (closes : Bool) :
    (State.setDebt s c rank debt closes).kept = s.kept := by
  unfold State.setDebt
  simp only [↓State.put_kept, ↓State.updChan_kept]

theorem execRefreshDue_kept (chan : Fin 16) (rank : Fin 16) (s : State) :
    Keeps (execRefreshDue chan rank s) s := by
  unfold execRefreshDue
  simp only [↓kept_ite, ite_self, ↓State.count_kept, ↓State.setDebt_kept, keeps_core]

theorem execRefreshCatchup_kept (chan : Fin 16) (rank : Fin 16) (s : State) :
    Keeps (execRefreshCatchup chan rank s) s := by
  unfold execRefreshCatchup
  simp only [↓kept_ite, ite_self, ↓State.setDebt_kept, keeps_core]

theorem execMr4Poll_kept (chan : Fin 16) (hot : BitVec 16) (s : State) :
    Keeps (execMr4Poll chan hot s) s := by
  unfold execMr4Poll
  simp only [↓kept_ite, ite_self, ↓State.putB_kept, ↓State.updChan_kept, keeps_core]

theorem State.payDebt_kept (s : State) (c : Nat) :
    (State.payDebt s c).kept = s.kept := by
  unfold State.payDebt
  simp only [↓foldl_kept, implies_true, ↓State.setDebt_kept]

theorem execCaparAlert_kept (chan : Fin 16) (sub : Fin 2) (s : State) :
    Keeps (execCaparAlert chan sub s) s := by
  unfold execCaparAlert
  simp only [↓kept_ite, ite_self, ↓State.count_kept, ↓State.retireDram_kept, ↓State.updChan_kept, keeps_core]

theorem execCaparAlertCleared_kept (chan : Fin 16) (sub : Fin 2) (window : List Nat) (ranks : List (Fin 16)) (s : State) :
    Keeps (execCaparAlertCleared chan sub window ranks s) s := by
  unfold execCaparAlertCleared
  simp only [↓kept_ite, ↓foldl_kept, ite_self, implies_true, ↓State.issue_kept, ↓State.record_kept, ↓State.setDebt_kept, ↓State.updChan_kept, keeps_core]

theorem State.t1Check_kept (s : State) :
    (State.t1Check s).kept = s.kept := by
  unfold State.t1Check
  simp only [↓kept_ite, ite_self, ↓State.put_kept, ↓State.record_kept, ↓State.setReg_kept]

theorem execDramTrainingDone_kept (chan : Fin 16) (ok : Bool) (drfm : Bool) (s : State) :
    Keeps (execDramTrainingDone chan ok drfm s) s := by
  unfold execDramTrainingDone
  simp only [↓kept_ite, ite_self, ↓State.put_kept, ↓State.putB_kept, ↓State.record_kept, ↓State.t1Check_kept, keeps_core]

theorem State.chanLost_kept (s : State) (c : Nat) :
    (State.chanLost s c).kept = s.kept := by
  unfold State.chanLost
  repeat' first
    | simp only [↓kept_ite, ↓foldl_kept, ite_self, implies_true, ↓State.recoverLine_kept, ↓State.releaseFrame_kept, ↓State.unwrite_kept, ↓State.updFrame_kept]
    | split
    | refine (foldl_kept _ _ _ (fun s a => ?_)).trans ?_

theorem execWarmRestoreDone_kept (failed : BitVec 16) (s : State) :
    Keeps (execWarmRestoreDone failed s) s := by
  unfold execWarmRestoreDone
  simp only [↓kept_ite, ↓foldl_kept, ite_self, implies_true, ↓State.chanLost_kept, ↓State.payDebt_kept, ↓State.put_kept, ↓State.record_kept, ↓State.settle_kept, ↓State.t1Check_kept, keeps_core]

theorem execDmcChannelEmptied_kept (chan : Fin 16) (s : State) :
    Keeps (execDmcChannelEmptied chan s) s := by
  unfold execDmcChannelEmptied
  repeat' first
    | simp only [kept_eta, ↓kept_mk, ↓kept_ite, ↓foldl_kept, ite_self, implies_true, ↓State.put_kept, ↓State.record_kept, ↓State.releaseFrame_kept, ↓State.settle_kept, ↓State.t1Shrink_kept, ↓State.unwrite_kept, ↓State.updChan_kept, ↓State.updFrame_kept, keeps_core]
    | refine ite_kept ?_ ?_
    | split
    | refine (foldl_kept _ _ _ (fun s a => ?_)).trans ?_

/-! ### Ecc.lean -/

theorem State.scrubLine_kept (s : State) (writeback : Bool) (errs : List (Nat × BitVec 80)) (t : Tally) (line : Nat) :
    (State.scrubLine s writeback errs t line).1.kept = s.kept := by
  unfold State.scrubLine
  simp only [↓kept_ite, ↓kept_ite1, ↓foldl_kept, ite_self, implies_true, ↓State.readLine_kept, ↓State.t1Write_kept]

theorem State.scrubT1_kept (s : State) (writeback : Bool) (errs : List (Nat × BitVec 80)) (lines : List Nat) :
    (State.scrubT1 s writeback errs lines).1.kept = s.kept := by
  unfold State.scrubT1
  simp only [↓foldl_kept1, implies_true, ↓State.scrubLine_kept]

theorem State.scrubT0_kept (s : State) (errs : List (Nat × BitVec 80)) (stop : Option Nat) :
    (State.scrubT0 s errs stop).1.kept = s.kept := by
  unfold State.scrubT0
  repeat' first
    | simp only [↓kept_ite1, ite_self, ↓State.t0Word_kept]
    | split
    | refine (foldl_kept1 _ _ _ (fun s a => ?_)).trans ?_

theorem State.contextBad_kept (s : State) (n : Nat) :
    (State.contextBad s n).kept = s.kept := by
  unfold State.contextBad
  simp only [↓State.count_kept, ↓State.enterError_kept, ↓State.record_kept]

theorem State.scrubCtx_kept (s : State) (errs : List (Nat × BitVec 80)) (stop : Option Nat) :
    (State.scrubCtx s errs stop).1.kept = s.kept := by
  unfold State.scrubCtx
  simp only [↓kept_ite1, ↓foldl_kept1, ite_self, implies_true, ↓State.contextBad_kept, ↓State.count_kept]

theorem State.summary_kept (s : State) (t : Tally) :
    (State.summary s t).kept = s.kept := by
  unfold State.summary
  simp only [↓State.setReg_kept, ↓State.setReg64_kept]

theorem State.scrubStart_kept (s : State) (target : Nat) (writeback : Bool) :
    (State.scrubStart s target writeback).kept = s.kept := by
  unfold State.scrubStart
  simp only [kept_eta, ↓kept_mk, ↓kept_ite, ite_self, ↓State.put_kept, ↓State.setReg_kept, ↓State.summary_kept]

theorem State.scrubRun_kept (s : State) (errs : List (Nat × BitVec 80)) (stop : Option Nat) :
    (State.scrubRun s errs stop).kept = s.kept := by
  unfold State.scrubRun
  split <;> simp only [kept_eta, ↓kept_mk, ↓kept_ite1, ite_self, ↓State.put_kept, ↓State.record_kept, ↓State.scrubCtx_kept, ↓State.scrubT0_kept, ↓State.scrubT1_kept, ↓State.settle_kept, ↓State.summary_kept]

theorem execScrubStart_kept (target : Fin 4) (writeback : Bool) (s : State) :
    Keeps (execScrubStart target writeback s) s := by
  unfold execScrubStart
  simp only [↓kept_ite, ite_self, ↓State.scrubStart_kept, keeps_core]

theorem execScrubAbort_kept (at_ : Nat) (errs : List (Nat × BitVec 80)) (s : State) :
    Keeps (execScrubAbort at_ errs s) s := by
  unfold execScrubAbort
  simp only [↓kept_ite, ite_self, ↓State.put_kept, ↓State.scrubRun_kept, keeps_core]

theorem execScrubPassDone_kept (errs : List (Nat × BitVec 80)) (s : State) :
    Keeps (execScrubPassDone errs s) s := by
  unfold execScrubPassDone
  simp only [↓kept_ite, ite_self, ↓State.put_kept, ↓State.scrubRun_kept, keeps_core]

theorem execPatrolPassDone_kept (home : Fin 2) (errs : List (Nat × BitVec 80)) (s : State) :
    Keeps (execPatrolPassDone home errs s) s := by
  unfold execPatrolPassDone
  simp only [↓kept_ite, ite_self, ↓State.put_kept, ↓State.record_kept, ↓State.scrubT1_kept, ↓State.setRegBit_kept, ↓State.settle_kept, keeps_core]

theorem State.remapLoad_kept (s : State) (c : Nat) (entry : Nat) (sub : Nat) (la : BitVec 32) (word : Nat) :
    (State.remapLoad s c entry sub la word).kept = s.kept := by
  unfold State.remapLoad
  simp only [↓kept_ite, ite_self, ↓State.remapSet_kept]

theorem execRemapLoad_kept (chan : Fin 16) (entry : Fin 16) (sub : Fin 2) (line : BitVec 32) (word : Fin 8) (s : State) :
    Keeps (execRemapLoad chan entry sub line word s) s := by
  unfold execRemapLoad
  simp only [↓kept_ite, ite_self, ↓State.remapLoad_kept, keeps_core]

theorem State.remapClear_kept (s : State) (c : Nat) (entry : Nat) :
    (State.remapClear s c entry).kept = s.kept := by
  unfold State.remapClear
  simp only [↓State.updChan_kept]

theorem execRemapClear_kept (chan : Fin 16) (entry : Fin 16) (s : State) :
    Keeps (execRemapClear chan entry s) s := by
  unfold execRemapClear
  simp only [↓kept_ite, ite_self, ↓State.remapClear_kept, keeps_core]

theorem State.clogPop_kept (s : State) :
    (State.clogPop s).kept = s.kept := by
  unfold State.clogPop
  split <;> simp only [kept_eta, ↓kept_mk]

theorem execClogRead_kept (s : State) :
    Keeps (execClogRead s) s := by
  unfold execClogRead
  simp only [↓kept_ite, ite_self, ↓State.clogPop_kept, keeps_core]

end Sys2Proof.Machine
end

