-- ==== Sys2Proof/Laws/KeptUnits.lean ====
section
/-! SUPPORT. Sys2Proof/Laws/KeptUnits.lean: the colony, Amber and the debug unit, SEAL and the code flash keep the queue, the clock
and the one-time values: one lemma for each operation. -/

namespace Sys2Proof.Machine

/-! ### Colony.lean -/

theorem State.fromMember_kept (s : State) (x : ColHdr) (go : Nat → ColMember → State → State) (h_go : ∀ a0 a1 a2, (go a0 a1 a2).kept = a2.kept) :
    (State.fromMember s x go).kept = s.kept := by
  unfold State.fromMember
  simp only [↓kept_ite]
  repeat' split
  all_goals simp only [↓State.wake_kept, ↓h_go]

theorem State.fromParent_kept (s : State) (x : ColHdr) (go : State → State) (h_go : ∀ a0, (go a0).kept = a0.kept) :
    (State.fromParent s x go).kept = s.kept := by
  unfold State.fromParent
  simp only [↓kept_ite, ite_self, ↓State.updCol_kept, ↓State.wake_kept, ↓h_go]

theorem State.colTake_kept (s : State) (txn : Nat) :
    (State.colTake s txn).2.kept = s.kept := by
  unfold State.colTake
  simp only [↓State.updCol_kept]

theorem State.answered_kept (s : State) (txn : Nat) (go : ColReq → State → State) (h_go : ∀ a0 a1, (go a0 a1).kept = a1.kept) :
    (State.answered s txn go).kept = s.kept := by
  unfold State.answered
  split
  · next h =>
      rw [h_go]
      exact (congrArg (fun p => p.2.kept) h.symm).trans (State.colTake_kept s txn)
  · rfl

theorem State.joinIn_kept (s : State) (x : ColHdr) (j : ColJoin) :
    (State.joinIn s x j).kept = s.kept := by
  unfold State.joinIn
  simp only [↓kept_ite]
  repeat' split
  all_goals simp only [↓State.colAnswer_kept, ↓State.colCounts_kept, ↓State.record_kept, ↓State.updCol_kept, ↓State.wake_kept]

theorem execJoin_kept (x : ColHdr) (j : ColJoin) (s : State) :
    Keeps (execJoin x j s) s := by
  unfold execJoin
  simp only [↓kept_ite, ite_self, ↓State.joinIn_kept, keeps_core]

theorem execJoinAck_kept (x : ColHdr) (accepted : Bool) (index : Fin 64) (path : BitVec 48) (depth : Fin 9) (s : State) :
    Keeps (execJoinAck x accepted index path depth s) s := by
  unfold execJoinAck
  repeat' split
  all_goals simp only [↓kept_ite, ite_self, implies_true, ↓State.answered_kept, ↓State.askBlock_kept, ↓State.fromParent_kept, ↓State.put_kept, ↓State.record_kept, ↓State.setReg_kept, keeps_core]

theorem execColonyHealth_kept (x : ColHdr) (m : ColHealth) (s : State) :
    Keeps (execColonyHealth x m s) s := by
  unfold execColonyHealth
  simp only [↓kept_ite, ite_self, implies_true, ↓State.colAnswer_kept, ↓State.colCounts_kept, ↓State.fromMember_kept, ↓State.updCol_kept, keeps_core]

theorem execCreate_kept (x : ColHdr) (r : ColCreate) (s : State) :
    Keeps (execCreate x r s) s := by
  unfold execCreate
  repeat' first
    | simp only [↓kept_ite, ↓State.askBlock_kept, ↓State.blocksLow_kept, ↓State.colAnswer_kept, ↓State.createAt_kept, keeps_core]
    | refine ite_kept ?_ ?_
    | split
    | refine (State.makeRegion_kept _ _ _ _ (by assumption)).trans ?_
    | refine (State.fromParent_kept _ _ _ ?_).trans ?_
    | intro _

theorem execCreateAck_kept (x : ColHdr) (made : Option (BitVec 32 × Fin 2 × BitVec 128)) (s : State) :
    Keeps (execCreateAck x made s) s := by
  unfold execCreateAck
  repeat' first
    | simp only [↓kept_ite, implies_true, ↓State.colAnswer_kept, ↓State.createAt_kept, ↓State.okCap_kept, ↓State.redirect_kept, ↓State.settle_kept, ↓State.updCol_kept, keeps_core]
    | refine ite_kept ?_ ?_
    | split
    | refine (State.answered_kept _ _ _ ?_).trans ?_
    | refine (State.fromMember_kept _ _ _ ?_).trans ?_
    | intro _

theorem State.noteBlocks_kept (s : State) (m : ColMember) (bs : List Nat) :
    (State.noteBlocks s m bs).kept = s.kept := by
  unfold State.noteBlocks
  simp only [↓State.updCol_kept]

theorem execBlockReq_kept (x : ColHdr) (n : Nat) (s : State) :
    Keeps (execBlockReq x n s) s := by
  unfold execBlockReq
  simp only [↓kept_ite, ite_self, implies_true, ↓State.colAnswer_kept, ↓State.colSend_kept, ↓State.fromMember_kept, ↓State.noteBlocks_kept, keeps_core]

theorem execBlockGrant_kept (x : ColHdr) (blocks : List (Fin 1024)) (s : State) :
    Keeps (execBlockGrant x blocks s) s := by
  unfold execBlockGrant
  repeat' first
    | simp only [↓kept_ite, implies_true, ↓State.colAnswer_kept, ↓State.noteBlocks_kept, ↓State.updCol_kept, keeps_core]
    | refine ite_kept ?_ ?_
    | split
    | refine (State.answered_kept _ _ _ ?_).trans ?_
    | refine (State.fromParent_kept _ _ _ ?_).trans ?_
    | intro _

theorem execKeyReport_kept (x : ColHdr) (keys : List (Nat × Bool)) (destroyed : List Nat) (s : State) :
    Keeps (execKeyReport x keys destroyed s) s := by
  unfold execKeyReport
  simp only [↓kept_ite, ite_self, implies_true, ↓State.colAnswer_kept, ↓State.colSend_kept, ↓State.fromMember_kept, ↓State.updCol_kept, keeps_core]

theorem execPdSync_kept (x : ColHdr) (entries : List (Fin 65536 × Bool × Bool × Fin 256 × BitVec 64)) (s : State) :
    Keeps (execPdSync x entries s) s := by
  unfold execPdSync
  simp only [↓kept_ite, ↓foldl_kept, ite_self, implies_true, ↓State.colAnswer_kept, ↓State.colSend_kept, ↓State.fromParent_kept, ↓State.setPd_kept, keeps_core]

theorem execColonyAck_kept (x : ColHdr) (s : State) :
    Keeps (execColonyAck x s) s := by
  unfold execColonyAck
  repeat' first
    | simp only [↓kept_ite, ite_self, implies_true, ↓State.okCap_kept, ↓State.put_kept, ↓State.settle_kept, ↓State.updCol_kept, keeps_core]
    | refine ite_kept ?_ ?_
    | split
    | refine (State.answered_kept _ _ _ ?_).trans ?_
    | intro _

theorem execColonyResendTimeout_kept (txn : Nat) (s : State) :
    Keeps (execColonyResendTimeout txn s) s := by
  unfold execColonyResendTimeout
  repeat' split
  all_goals simp only [↓kept_ite, ite_self, ↓State.createAt_kept, ↓State.emit_kept, ↓State.put_kept, ↓State.record_kept, ↓State.settle_kept, ↓State.updCol_kept, keeps_core]

theorem execColonyHealthTimer_kept (s : State) :
    Keeps (execColonyHealthTimer s) s := by
  unfold execColonyHealthTimer
  simp only [↓kept_ite, ite_self, ↓State.colSend_kept, keeps_core]

theorem execMemberLostTimeout_kept (index : Fin 64) (s : State) :
    Keeps (execMemberLostTimeout index s) s := by
  unfold execMemberLostTimeout
  repeat' first
    | simp only [↓kept_ite, ↓State.colCounts_kept, ↓State.colTake_kept, ↓State.createAt_kept, ↓State.record_kept, ↓State.settle_kept, ↓State.updCol_kept, keeps_core]
    | refine ite_kept ?_ ?_
    | split
    | refine (foldl_kept _ _ _ (fun s a => ?_)).trans ?_

/-! ### Amber.lean -/

theorem State.ambFill_kept (s : State) (x : AmbSlot) :
    (State.ambFill s x).kept = s.kept := by
  unfold State.ambFill
  simp only [kept_eta, ↓kept_mk, ↓kept_ite, ite_self, ↓State.record_kept]

theorem State.ambProgram_kept (s : State) (ok : Bool) :
    (State.ambProgram s ok).kept = s.kept := by
  unfold State.ambProgram
  split <;> simp only [kept_eta, ↓kept_mk, ↓kept_ite, ite_self, ↓State.ambFill_kept, ↓State.ambLostDue_kept]

theorem State.ambFlushAll_kept (s : State) :
    (State.ambFlushAll s).kept = s.kept := by
  unfold State.ambFlushAll
  simp only [↓foldl_kept, implies_true, ↓State.ambFlush_kept, ↓State.ambProgram_kept]

theorem execAmberFlushTimer_kept (s : State) :
    Keeps (execAmberFlushTimer s) s := by
  unfold execAmberFlushTimer
  simp only [↓kept_ite, ite_self, ↓State.ambFlush_kept, keeps_next]

theorem execAmberFlushAge_kept (s : State) :
    Keeps (execAmberFlushAge s) s := by
  unfold execAmberFlushAge
  simp only [↓State.ambFlush_kept, keeps_next]

theorem execAmberFlush_kept (s : State) :
    Keeps (execAmberFlush s) s := by
  unfold execAmberFlush
  simp only [↓State.ambFlush_kept, keeps_next]

theorem execAmberRecordProgrammed_kept (ok : Bool) (s : State) :
    Keeps (execAmberRecordProgrammed ok s) s := by
  unfold execAmberRecordProgrammed
  simp only [↓State.ambProgram_kept, keeps_next]

theorem execHoursStoreTimer_kept (s : State) :
    Keeps (execHoursStoreTimer s) s := by
  unfold execHoursStoreTimer
  simp only [kept_eta, ↓kept_mk, keeps_next]

theorem State.ambFind_kept (s : State) :
    (State.ambFind s).kept = s.kept := by
  unfold State.ambFind
  simp only [↓State.setReg_kept]

theorem execAmberFind_kept (s : State) :
    Keeps (execAmberFind s) s := by
  unfold execAmberFind
  simp only [↓State.ambFind_kept, keeps_next]

theorem State.dbgChallenge_kept (s : State) :
    (State.dbgChallenge s).kept = s.kept := by
  unfold State.dbgChallenge
  simp only [kept_eta, ↓kept_mk, ↓foldl_kept, implies_true, ↓State.draw_kept, ↓State.setReg_kept]

theorem execDbgChallenge_kept (s : State) :
    Keeps (execDbgChallenge s) s := by
  unfold execDbgChallenge
  simp only [↓State.dbgChallenge_kept, keeps_next]

theorem State.dbgResult_kept (s : State) (r : Nat) :
    (State.dbgResult s r).kept = s.kept := by
  unfold State.dbgResult
  simp only [↓State.put_kept]

theorem State.dbgAuth_kept (s : State) (path : Path) (purpose : Byte) (go : Bool → State → State) (h_go : ∀ a0 a1, (go a0 a1).kept = a1.kept) :
    (State.dbgAuth s path purpose go).kept = s.kept := by
  unfold State.dbgAuth
  split <;> simp only [kept_eta, ↓kept_mk, ↓kept_ite, ite_self, ↓State.dbgResult_kept, ↓State.put_kept, ↓State.record_kept, ↓h_go]

theorem State.dbgUnlock_kept (s : State) (path : Path) :
    (State.dbgUnlock s path).kept = s.kept := by
  unfold State.dbgUnlock
  simp only [implies_true, ↓State.dbgAuth_kept, ↓State.putB_kept, ↓State.record_kept]

theorem execDbgUnlock_kept (path : Path) (s : State) :
    Keeps (execDbgUnlock path s) s := by
  unfold execDbgUnlock
  simp only [↓State.dbgUnlock_kept, keeps_next]

theorem State.dbgClear_kept (s : State) (path : Path) :
    (State.dbgClear s path).kept = s.kept := by
  unfold State.dbgClear
  repeat' split
  all_goals simp only [kept_eta, ↓kept_mk, implies_true, ↓State.ambFlushAll_kept, ↓State.ambStage_kept, ↓State.dbgAuth_kept, ↓State.dbgResult_kept, ↓State.setEvt_kept]

theorem execDbgClear_kept (path : Path) (s : State) :
    Keeps (execDbgClear path s) s := by
  unfold execDbgClear
  simp only [↓State.dbgClear_kept, keeps_next]

theorem State.ambCleared_kept (s : State) :
    (State.ambCleared s).kept = s.kept := by
  unfold State.ambCleared
  simp only [kept_eta, ↓kept_mk, ↓State.ambFlush_kept, ↓State.setReg_kept]

theorem execAmberClearDone_kept (s : State) :
    Keeps (execAmberClearDone s) s := by
  unfold execAmberClearDone
  simp only [↓kept_ite, ite_self, ↓State.ambCleared_kept, keeps_next]

theorem execTrstN_kept (s : State) :
    Keeps (execTrstN s) s := by
  unfold execTrstN
  simp only [kept_eta, ↓kept_mk, keeps_next]

/-! ### Seal.lean -/

theorem State.loadSlot_kept (s : State) (n : Nat) (k : KeySlot) :
    (State.loadSlot s n k).kept = s.kept := by
  unfold State.loadSlot
  simp only [kept_eta, ↓kept_mk, ↓State.record_kept]

theorem State.clearSlot_kept (s : State) (n : Nat) :
    (State.clearSlot s n).kept = s.kept := by
  unfold State.clearSlot
  simp only [kept_eta, ↓kept_mk, ↓State.record_kept]

theorem State.noteForeign_kept (s : State) :
    (State.noteForeign s).kept = s.kept := by
  unfold State.noteForeign
  simp only [↓State.put_kept, ↓State.record_kept]

theorem State.sealClaim_kept (s : State) (p : Path) :
    (State.sealClaim s p).kept = s.kept := by
  unfold State.sealClaim
  simp only [↓kept_ite, ite_self, ↓State.put_kept]

theorem State.zeroRegs_kept (s : State) (a : Nat) (n : Nat) :
    (State.zeroRegs s a n).kept = s.kept := by
  unfold State.zeroRegs
  simp only [↓foldl_kept, implies_true, ↓State.setReg_kept]

theorem State.zeroBuf_kept (s : State) :
    (State.zeroBuf s).kept = s.kept := by
  unfold State.zeroBuf
  simp only [kept_eta, ↓kept_mk]

theorem State.sealRelease_kept (s : State) :
    (State.sealRelease s).kept = s.kept := by
  unfold State.sealRelease
  simp only [kept_eta, ↓kept_mk, ↓kept_ite, ite_self, ↓State.put_kept, ↓State.setReg_kept, ↓State.zeroBuf_kept, ↓State.zeroRegs_kept]

theorem execSealLockClaim_kept (path : Path) (s : State) :
    Keeps (execSealLockClaim path s) s := by
  unfold execSealLockClaim
  simp only [↓kept_ite, ite_self, ↓State.sealClaim_kept, keeps_core]

theorem State.sealGiveUp_kept (s : State) (p : Path) :
    (State.sealGiveUp s p).kept = s.kept := by
  unfold State.sealGiveUp
  simp only [↓kept_ite, ite_self, ↓State.sealRelease_kept]

theorem execSealLockRelease_kept (path : Path) (s : State) :
    Keeps (execSealLockRelease path s) s := by
  unfold execSealLockRelease
  simp only [↓kept_ite, ite_self, ↓State.sealGiveUp_kept, keeps_core]

theorem execSealLockTimeout_kept (s : State) :
    Keeps (execSealLockTimeout s) s := by
  unfold execSealLockTimeout
  simp only [↓kept_ite, ite_self, ↓State.record_kept, ↓State.sealRelease_kept, keeps_core]

theorem State.setSealBytes_kept (s : State) (bs : List Byte) :
    (State.setSealBytes s bs).kept = s.kept := by
  unfold State.setSealBytes
  simp only [↓foldl_kept, implies_true, ↓State.setReg_kept]

theorem State.sealStart_kept (s : State) (p : Path) (job : SealJob) :
    (State.sealStart s p job).kept = s.kept := by
  unfold State.sealStart
  simp only [kept_eta, ↓kept_mk, ↓kept_ite, ite_self, ↓State.noteForeign_kept, ↓State.put_kept]

theorem State.sealOp_kept (s : State) (p : Path) (op : Nat) (slot : Nat) :
    (State.sealOp s p op slot).kept = s.kept := by
  unfold State.sealOp
  simp only [↓State.sealStart_kept]

theorem execUnseal_kept (path : Path) (s : State) :
    Keeps (execUnseal path s) s := by
  unfold execUnseal
  simp only [↓kept_ite, ite_self, ↓State.sealStart_kept, keeps_core]

theorem execLoadPlain_kept (path : Path) (s : State) :
    Keeps (execLoadPlain path s) s := by
  unfold execLoadPlain
  simp only [↓kept_ite, ite_self, ↓State.sealStart_kept, keeps_core]

theorem execSealClear_kept (path : Path) (s : State) :
    Keeps (execSealClear path s) s := by
  unfold execSealClear
  simp only [↓kept_ite, ite_self, ↓State.sealStart_kept, keeps_core]

theorem execGcmEnc_kept (path : Path) (slot : BitVec 16) (s : State) :
    Keeps (execGcmEnc path slot s) s := by
  unfold execGcmEnc
  simp only [↓kept_ite, ite_self, ↓State.sealStart_kept, keeps_core]

theorem execGcmDec_kept (path : Path) (slot : BitVec 16) (s : State) :
    Keeps (execGcmDec path slot s) s := by
  unfold execGcmDec
  simp only [↓kept_ite, ite_self, ↓State.sealStart_kept, keeps_core]

theorem execKwWrap_kept (path : Path) (slot : BitVec 16) (s : State) :
    Keeps (execKwWrap path slot s) s := by
  unfold execKwWrap
  simp only [↓kept_ite, ite_self, ↓State.sealStart_kept, keeps_core]

theorem execKwUnwrap_kept (path : Path) (slot : BitVec 16) (s : State) :
    Keeps (execKwUnwrap path slot s) s := by
  unfold execKwUnwrap
  simp only [↓kept_ite, ite_self, ↓State.sealStart_kept, keeps_core]

theorem execKwpWrap_kept (path : Path) (slot : BitVec 16) (s : State) :
    Keeps (execKwpWrap path slot s) s := by
  unfold execKwpWrap
  simp only [↓kept_ite, ite_self, ↓State.sealStart_kept, keeps_core]

theorem execKwpUnwrap_kept (path : Path) (slot : BitVec 16) (s : State) :
    Keeps (execKwpUnwrap path slot s) s := by
  unfold execKwpUnwrap
  simp only [↓kept_ite, ite_self, ↓State.sealStart_kept, keeps_core]

theorem execCmacGen_kept (path : Path) (slot : BitVec 16) (s : State) :
    Keeps (execCmacGen path slot s) s := by
  unfold execCmacGen
  simp only [↓kept_ite, ite_self, ↓State.sealStart_kept, keeps_core]

theorem execCmacVer_kept (path : Path) (slot : BitVec 16) (s : State) :
    Keeps (execCmacVer path slot s) s := by
  unfold execCmacVer
  simp only [↓kept_ite, ite_self, ↓State.sealStart_kept, keeps_core]

theorem execProvisionRoot_kept (path : Path) (s : State) :
    Keeps (execProvisionRoot path s) s := by
  unfold execProvisionRoot
  simp only [↓kept_ite, ite_self, ↓State.sealStart_kept, keeps_core]

theorem State.unsealStored_kept (s : State) :
    (State.unsealStored s).kept = s.kept := by
  unfold State.unsealStored
  simp only [↓kept_ite, ↓foldl_kept, ite_self, implies_true, ↓State.loadSlot_kept]

/-! ### CodeFlash.lean -/

theorem State.cfStore_kept (s : State) (a : Nat) (bs : List Byte) :
    (State.cfStore s a bs).kept = s.kept := by
  unfold State.cfStore
  simp only [kept_eta, ↓kept_mk]

theorem State.cfErased_kept (s : State) (sec : Nat) :
    (State.cfErased s sec).kept = s.kept := by
  unfold State.cfErased
  simp only [kept_eta, ↓kept_mk, ↓State.count_kept]

theorem State.cfErr_kept (s : State) (e : Nat) :
    (State.cfErr s e).kept = s.kept := by
  unfold State.cfErr
  simp only [↓State.put_kept]

theorem State.cfGate_kept (s : State) (p : Path) (go : Nat → State) (h_go : ∀ a0, (go a0).kept = s.kept) :
    (State.cfGate s p go).kept = s.kept := by
  unfold State.cfGate
  simp only [↓kept_ite, ite_self, ↓State.cfErr_kept, ↓h_go]

theorem State.cfBegin_kept (s : State) (o : CfOp) :
    (State.cfBegin s o).kept = s.kept := by
  unfold State.cfBegin
  simp only [kept_eta, ↓kept_mk, ↓State.cfErr_kept, ↓State.put_kept]

theorem State.cfProgram_kept (s : State) (p : Path) :
    (State.cfProgram s p).kept = s.kept := by
  unfold State.cfProgram
  simp only [↓kept_ite, ite_self, implies_true, ↓State.cfBegin_kept, ↓State.cfErr_kept, ↓State.cfGate_kept]

theorem State.cfErase_kept (s : State) (p : Path) :
    (State.cfErase s p).kept = s.kept := by
  unfold State.cfErase
  simp only [kept_eta, ↓kept_mk, implies_true, ↓State.cfBegin_kept, ↓State.cfGate_kept]

theorem State.cfSuspend_kept (s : State) :
    (State.cfSuspend s).kept = s.kept := by
  unfold State.cfSuspend
  split <;> simp only [kept_eta, ↓kept_mk, ↓kept_ite, ite_self, ↓State.cfErr_kept, ↓State.count_kept, ↓State.put_kept]

theorem State.cfResume_kept (s : State) :
    (State.cfResume s).kept = s.kept := by
  unfold State.cfResume
  split <;> simp only [kept_eta, ↓kept_mk, ↓State.cfErr_kept, ↓State.put_kept]

theorem State.cfRead_kept (s : State) (ecc : Nat) :
    (State.cfRead s ecc).kept = s.kept := by
  unfold State.cfRead
  simp only [↓kept_ite, ↓kept_ite1, ite_self, ↓State.cfErr_kept, ↓State.count_kept, ↓State.draw_kept, ↓State.put_kept, ↓State.record_kept, ↓State.setReg_kept]

theorem State.cfCmd_kept (s : State) (p : Path) (op : Nat) :
    (State.cfCmd s p op).kept = s.kept := by
  unfold State.cfCmd
  repeat' split
  all_goals simp only [↓State.cfErase_kept, ↓State.cfErr_kept, ↓State.cfProgram_kept, ↓State.cfRead_kept, ↓State.cfResume_kept, ↓State.cfSuspend_kept]

theorem execCflProgram_kept (path : Path) (s : State) :
    Keeps (execCflProgram path s) s := by
  unfold execCflProgram
  simp only [↓kept_ite, ite_self, ↓State.cfProgram_kept, keeps_core]

theorem execCflErase_kept (path : Path) (s : State) :
    Keeps (execCflErase path s) s := by
  unfold execCflErase
  simp only [↓kept_ite, ite_self, ↓State.cfErase_kept, keeps_core]

theorem execCflSuspend_kept (path : Path) (s : State) :
    Keeps (execCflSuspend path s) s := by
  unfold execCflSuspend
  simp only [↓kept_ite, ite_self, ↓State.cfErr_kept, ↓State.cfSuspend_kept, keeps_core]

theorem execCflResume_kept (path : Path) (s : State) :
    Keeps (execCflResume path s) s := by
  unfold execCflResume
  simp only [↓kept_ite, ite_self, ↓State.cfErr_kept, ↓State.cfResume_kept, keeps_core]

theorem execCflRead_kept (path : Path) (ecc : Fin 3) (s : State) :
    Keeps (execCflRead path ecc s) s := by
  unfold execCflRead
  simp only [↓kept_ite, ite_self, ↓State.cfErr_kept, ↓State.cfRead_kept, keeps_core]

theorem State.cfIdle_kept (s : State) :
    (State.cfIdle s).kept = s.kept := by
  unfold State.cfIdle
  simp only [kept_eta, ↓kept_mk, ↓State.put_kept]

theorem execCflProgramDone_kept (ok : Bool) (s : State) :
    Keeps (execCflProgramDone ok s) s := by
  unfold execCflProgramDone
  split <;> simp only [kept_eta, ↓kept_mk, ↓kept_ite, ite_self, ↓State.cfErr_kept, ↓State.cfIdle_kept, ↓State.cfStore_kept, ↓State.count_kept, keeps_core]

theorem execCflEraseDone_kept (s : State) :
    Keeps (execCflEraseDone s) s := by
  unfold execCflEraseDone
  split <;> simp only [↓kept_ite, ite_self, ↓State.cfErased_kept, ↓State.cfIdle_kept, keeps_core]

theorem execCflEraseIdleResume_kept (s : State) :
    Keeps (execCflEraseIdleResume s) s := by
  unfold execCflEraseIdleResume
  split <;> simp only [↓kept_ite, ite_self, ↓State.cfResume_kept, keeps_core]

theorem execCflBrownout_kept (low : Bool) (s : State) :
    Keeps (execCflBrownout low s) s := by
  unfold execCflBrownout
  simp only [↓kept_ite, ↓State.put_kept, keeps_next]
  repeat' split
  all_goals simp only [↓State.cfIdle_kept, ↓State.count_kept, ↓State.put_kept, ↓State.record_kept]

theorem State.programSelect_kept (s : State) (typ : Nat) (slot : Nat) :
    (State.programSelect s typ slot).kept = s.kept := by
  unfold State.programSelect
  simp only [↓State.cfStore_kept, ↓State.count_kept]
  repeat' split
  all_goals simp only [↓State.cfErased_kept]

end Sys2Proof.Machine
end

