-- ==== Sys2Proof/Laws/KeptPower.lean ====
section
/-! SUPPORT. Sys2Proof/Laws/KeptPower.lean: start-up, power, identity, hold-up and the governor keep the queue, the clock
and the one-time values: one lemma for each operation. -/

namespace Sys2Proof.Machine

/-! ### Apply.lean -/

theorem State.pdToMembers_kept (s : State) (n : Nat) :
    (State.pdToMembers s n).kept = s.kept := by
  unfold State.pdToMembers
  simp only [↓kept_ite, ↓foldl_kept, ite_self, implies_true, ↓State.colSend_kept]

theorem State.pdHalves_kept (s : State) (n : Nat) (p : Pd) :
    (State.pdHalves s n p).kept = s.kept := by
  unfold State.pdHalves
  split <;> simp only [↓State.pdToMembers_kept, ↓State.setPd_kept]

theorem State.quotaRefused_kept (s : State) :
    (State.quotaRefused s).kept = s.kept := by
  unfold State.quotaRefused
  simp only [↓State.put_kept, ↓State.record_kept]

theorem State.applyQuota_kept (s : State) (t : Nat) (v : Nat) :
    (State.applyQuota s t v).kept = s.kept := by
  unfold State.applyQuota
  simp only [kept_eta, ↓kept_mk, ↓kept_ite, ite_self, ↓State.quotaRefused_kept]

theorem State.applyTransient_kept (s : State) (v : BitVec 32) :
    (State.applyTransient s v).kept = s.kept := by
  unfold State.applyTransient
  simp only [↓kept_ite, ite_self, ↓State.quotaRefused_kept, ↓State.setReg_kept]

theorem State.applyPortMode_kept (s : State) (p : Nat) (v : BitVec 32) :
    (State.applyPortMode s p v).kept = s.kept := by
  unfold State.applyPortMode
  simp only [↓kept_ite, ite_self, ↓State.putB_kept, ↓State.record_kept, ↓State.setReg_kept, ↓State.updPort_kept]

theorem State.makeDirectory_kept (s : State) :
    (State.makeDirectory s).kept = s.kept := by
  unfold State.makeDirectory
  simp only [kept_eta, ↓kept_mk, ↓kept_ite, ite_self, ↓State.noteRegion_kept]

theorem State.applyColCtrl_kept (s : State) (v : BitVec 32) :
    (State.applyColCtrl s v).kept = s.kept := by
  unfold State.applyColCtrl
  simp only [↓kept_ite, ite_self, ↓State.emit_kept, ↓State.makeDirectory_kept, ↓State.put_kept, ↓State.setReg_kept]

theorem State.applyTwnCtrl_kept (s : State) (v : BitVec 32) :
    (State.applyTwnCtrl s v).kept = s.kept := by
  unfold State.applyTwnCtrl
  simp only [↓kept_ite, ↓foldl_kept, ite_self, implies_true, ↓State.leaseOff_kept, ↓State.leaseOn_kept, ↓State.setReg_kept]

theorem State.loadStandbyPins_kept (s : State) : (State.loadStandbyPins s).kept = s.kept := by
  unfold State.loadStandbyPins
  simp only [↓State.loadGranules_kept]

theorem State.applyTierCtrl_kept (s : State) (v : BitVec 32) :
    (State.applyTierCtrl s v).kept = s.kept := by
  unfold State.applyTierCtrl
  simp only [↓foldl_kept, implies_true, ↓kept_ite, ite_self, ↓State.loadStandbyPins_kept, ↓State.parisonNext_kept, ↓State.setReg_kept]

theorem State.setData_kept (s : State) (a : Nat) (v : BitVec 32) :
    (State.setData s a v).kept = s.kept := by
  unfold State.setData
  split <;> simp only [↓State.setReg_kept]

theorem State.applyReg_kept (s : State) (x : Staged) :
    (State.applyReg s x).kept = s.kept := by
  unfold State.applyReg
  repeat' first
    | simp only [kept_eta, ↓kept_mk, ↓kept_ite, ite_self, ↓State.applyColCtrl_kept, ↓State.applyPortMode_kept, ↓State.applyQuota_kept, ↓State.applyTierCtrl_kept, ↓State.applyTransient_kept, ↓State.applyTwnCtrl_kept, ↓State.pdHalves_kept, ↓State.pdToMembers_kept, ↓State.put_kept, ↓State.setData_kept, ↓State.setPd_kept, ↓State.setReg_kept]
    | refine ite_kept ?_ ?_
    | split

theorem State.applyAll_kept (s : State) (set : List Staged) :
    (State.applyAll s set).kept = s.kept := by
  unfold State.applyAll
  simp only [↓foldl_kept, implies_true, ↓State.applyReg_kept]

theorem State.storeSet_kept (s : State) (set : List Staged) :
    (State.storeSet s set).kept = s.kept := by
  unfold State.storeSet
  simp only [kept_eta, ↓kept_mk]

/-! ### Boot.lean -/

theorem State.alertSettle_kept (s : State) :
    (State.alertSettle s).kept = s.kept := by
  unfold State.alertSettle
  simp only [kept_eta, ↓kept_mk, ↓kept_ite, ite_self]

theorem State.coreReset_kept (s : State) (warm : Bool) :
    (State.coreReset s warm).kept = s.kept := by
  unfold State.coreReset
  simp only [kept_eta, ↓kept_mk, ↓kept_ite, ↓foldl_kept, ite_self, implies_true, ↓State.alertSettle_kept, ↓State.interruptTests_kept, ↓State.put_kept, ↓State.putB_kept, ↓State.setReg_kept, ↓State.setRegBit_kept]

theorem State.bootSelect_kept (s : State) :
    (State.bootSelect s).1.kept = s.kept := by
  unfold State.bootSelect
  simp only [↓kept_ite, ↓kept_ite1, ite_self, ↓State.programSelect_kept, ↓State.put_kept, ↓State.putB_kept, ↓State.record_kept, ↓State.setReg_kept]

theorem State.coreRelease_kept (s : State) :
    (State.coreRelease s).kept = s.kept := by
  unfold State.coreRelease
  simp only [kept_eta, ↓kept_mk, ↓kept_ite, ite_self, ↓State.draw_kept, ↓State.lcEnable_kept, ↓State.mopDone_kept, ↓State.mopStart_kept, ↓State.put_kept, ↓State.putB_kept, ↓State.record_kept, ↓State.unsealStored_kept]

theorem State.bootRom_kept (s : State) :
    (State.bootRom s).kept = s.kept := by
  unfold State.bootRom
  simp only [↓kept_ite]
  repeat' split
  all_goals simp only [↓foldl_kept, implies_true, ↓State.bootSelect_kept, ↓State.coreRelease_kept, ↓State.put_kept, ↓State.putB_kept, ↓State.record_kept, ↓State.setReg64_kept]

theorem State.surveyChan_kept (s : State) (dimms : List Dimm) (c : Nat) :
    (State.surveyChan s dimms c).kept = s.kept := by
  unfold State.surveyChan
  simp only [↓kept_ite, ↓foldl_kept, ite_self, implies_true, ↓State.put_kept, ↓State.record_kept, ↓State.setReg_kept]

theorem State.busFirst_kept (s : State) (seg : Nat) (branch : Nat) :
    (State.busFirst s seg branch).kept = s.kept := by
  unfold State.busFirst
  simp only [kept_eta, ↓kept_mk, ↓kept_ite, ite_self, ↓State.count_kept]

theorem State.surveyClears_kept (s : State) :
    (State.surveyClears s).kept = s.kept := by
  unfold State.surveyClears
  simp only [↓kept_ite, ↓foldl_kept, ite_self, implies_true, ↓State.busFirst_kept]

theorem State.survey_kept (s : State) (dimms : List Dimm) (carriers : List (Fin 16 × Option (List Byte))) (module_ : Option (List Byte)) (cable : Option (List Byte)) :
    (State.survey s dimms carriers module_ cable).kept = s.kept := by
  unfold State.survey
  repeat' split
  all_goals simp only [kept_eta, ↓kept_mk, ↓kept_ite, ↓foldl_kept, ite_self, implies_true, ↓State.put_kept, ↓State.record_kept, ↓State.setReg_kept, ↓State.surveyChan_kept, ↓State.surveyClears_kept, ↓State.t1Check_kept]

theorem execIdentitySurveyDone_kept (dimms : List Dimm) (carriers : List (Fin 16 × Option (List Byte))) (module_ : Option (List Byte)) (cable : Option (List Byte)) (s : State) :
    Keeps (execIdentitySurveyDone dimms carriers module_ cable s) s := by
  unfold execIdentitySurveyDone
  simp only [↓kept_ite, ite_self, ↓State.survey_kept, keeps_core]

theorem State.format_kept (s : State) :
    (State.format s).kept = s.kept := by
  unfold State.format
  simp only [kept_eta, ↓kept_mk, ↓kept_ite, ↓foldl_kept, ite_self, implies_true, ↓State.markBlocks_kept, ↓State.setReg_kept]

theorem State.makeMetaKey_kept (s : State) :
    (State.makeMetaKey s).kept = s.kept := by
  unfold State.makeMetaKey
  simp only [kept_eta, ↓kept_mk, ↓State.loadSlot_kept]

theorem State.replay_kept (s : State) :
    (State.replay s).kept = s.kept := by
  unfold State.replay
  simp only [kept_eta, ↓kept_mk, ↓foldl_kept, implies_true, ↓State.commitEntry_kept]

theorem State.closeOpen_kept (s : State) :
    (State.closeOpen s).kept = s.kept := by
  unfold State.closeOpen
  simp only [↓foldl_kept, implies_true, ↓State.markBlocks_kept, ↓State.setSb_kept]

theorem State.eraseIncomplete_kept (s : State) :
    (State.eraseIncomplete s).kept = s.kept := by
  unfold State.eraseIncomplete
  simp only [↓kept_ite, ite_self, ↓State.countBy_kept, ↓State.markBlocks_kept, ↓State.record_kept]

theorem State.applyStored_kept (s : State) :
    (State.applyStored s).kept = s.kept := by
  unfold State.applyStored
  split <;> simp only [kept_eta, ↓kept_mk, ↓State.applyAll_kept]

theorem State.mounted_kept (s : State) (torn : Nat) (ms : Nat) :
    (State.mounted s torn ms).kept = s.kept := by
  unfold State.mounted
  simp only [kept_eta, ↓kept_mk, ↓kept_ite, ↓foldl_kept, ite_self, implies_true, ↓State.applyStored_kept, ↓State.ckptDone_kept, ↓State.ckptStart_kept, ↓State.claimToken_kept, ↓State.closeOpen_kept, ↓State.countBy_kept, ↓State.eraseIncomplete_kept, ↓State.format_kept, ↓State.put_kept, ↓State.putB_kept, ↓State.record_kept, ↓State.replay_kept, ↓State.setReg_kept, ↓State.spaceCheck_kept, ↓State.startup_kept]

theorem execMountDone_kept (torn : Nat) (durationMs : Nat) (s : State) :
    Keeps (execMountDone torn durationMs s) s := by
  unfold execMountDone
  simp only [↓kept_ite, ite_self, ↓State.makeMetaKey_kept, ↓State.mounted_kept, keeps_core]

theorem execKeysMissingTimer_kept (s : State) :
    Keeps (execKeysMissingTimer s) s := by
  unfold execKeysMissingTimer
  simp only [↓kept_ite, ite_self, ↓State.record_kept, keeps_core]

/-! ### Power.lean -/

theorem State.updRail_kept (s : State) (n : Nat) (f : Rail → Rail) :
    (State.updRail s n f).kept = s.kept := by
  unfold State.updRail
  simp only [kept_eta, ↓kept_mk]

theorem State.railEn_kept (s : State) (n : Nat) (on : Bool) :
    (State.railEn s n on).kept = s.kept := by
  unfold State.railEn
  simp only [↓kept_ite, ite_self, ↓State.emit_kept, ↓State.updRail_kept]

theorem State.railOff_kept (s : State) (n : Nat) :
    (State.railOff s n).kept = s.kept := by
  unfold State.railOff
  simp only [↓State.railEn_kept, ↓State.setRegBit_kept, ↓State.updRail_kept]

theorem State.railQualify_kept (s : State) (n : Nat) :
    (State.railQualify s n).kept = s.kept := by
  unfold State.railQualify
  simp only [↓kept_ite, ite_self, ↓State.setRegBit_kept, ↓State.updRail_kept]

theorem State.railFail_kept (s : State) (n : Nat) :
    (State.railFail s n).kept = s.kept := by
  unfold State.railFail
  simp only [↓kept_ite, ite_self, ↓State.railEn_kept, ↓State.record_kept, ↓State.setRegBit_kept, ↓State.updRail_kept]

theorem State.storeTable_kept (s : State) :
    (State.storeTable s).kept = s.kept := by
  unfold State.storeTable
  simp only [kept_eta, ↓kept_mk, ↓kept_ite, ite_self]

theorem State.loadTable_kept (s : State) :
    (State.loadTable s).kept = s.kept := by
  unfold State.loadTable
  split <;> simp only [↓foldl_kept, implies_true, ↓State.putB_kept, ↓State.record_kept, ↓State.setReg_kept]

theorem State.seqDone_kept (s : State) :
    (State.seqDone s).kept = s.kept := by
  unfold State.seqDone
  simp only [↓State.bootRom_kept, ↓State.put_kept, ↓State.record_kept, ↓State.storeTable_kept]

theorem State.phaseCheck_kept (s : State) :
    (State.phaseCheck s).kept = s.kept := by
  unfold State.phaseCheck
  simp only [kept_eta, ↓kept_mk, ↓kept_ite, ite_self, ↓State.seqDone_kept]

theorem State.beginPhase_kept (s : State) (k : Nat) :
    (State.beginPhase s k).kept = s.kept := by
  unfold State.beginPhase
  simp only [kept_eta, ↓kept_mk, ↓kept_ite, ↓foldl_kept, ite_self, implies_true, ↓State.phaseCheck_kept, ↓State.put_kept, ↓State.railEn_kept, ↓State.railQualify_kept, ↓State.updRail_kept]

theorem State.startSeq_kept (s : State) :
    (State.startSeq s).kept = s.kept := by
  unfold State.startSeq
  simp only [kept_eta, ↓kept_mk, ↓foldl_kept, implies_true, ↓State.beginPhase_kept, ↓State.put_kept, ↓State.setReg_kept]

theorem State.powerOn_kept (s : State) :
    (State.powerOn s).kept = s.kept := by
  unfold State.powerOn
  simp only [kept_eta, ↓kept_mk, ↓kept_ite, ite_self, ↓State.setReg_kept, ↓State.startSeq_kept]

theorem State.quenchT0_kept (s : State) :
    (State.quenchT0 s).kept = s.kept := by
  unfold State.quenchT0
  simp only [↓kept_ite, ↓foldl_kept, ite_self, implies_true, ↓State.cleanLine_kept]

theorem State.quenchFrame_kept (s : State) (u : Nat) :
    (State.quenchFrame s u).kept = s.kept := by
  unfold State.quenchFrame
  split <;> simp only [↓kept_ite, ite_self, ↓State.commitUnit_kept, ↓State.copyFrame_kept]

theorem State.quenchT1_kept (s : State) :
    (State.quenchT1 s).kept = s.kept := by
  unfold State.quenchT1
  simp only [kept_eta, ↓kept_mk, ↓foldl_kept, implies_true, ↓State.quenchFrame_kept]

theorem State.quenchJournal_kept (s : State) :
    (State.quenchJournal s).kept = s.kept := by
  unfold State.quenchJournal
  simp only [kept_eta, ↓kept_mk, ↓kept_ite, ↓foldl_kept, ite_self, implies_true, ↓State.journalPump_kept]

theorem State.incomplete_kept (s : State) (rs : List (Nat × Nat)) :
    (State.incomplete s rs).kept = s.kept := by
  unfold State.incomplete
  simp only [kept_eta, ↓kept_mk, ↓kept_ite, ↓foldl_kept, ite_self, implies_true, ↓State.put_kept, ↓State.record_kept]

theorem State.standAll_kept (s : State) (complete : Bool) :
    (State.standAll s complete).kept = s.kept := by
  unfold State.standAll
  simp only [↓kept_ite, ↓foldl_kept, ite_self, implies_true, ↓State.standWrite_kept]

theorem State.quenchAmber_kept (s : State) :
    (State.quenchAmber s).kept = s.kept := by
  unfold State.quenchAmber
  simp only [kept_eta, ↓kept_mk, ↓kept_ite, ite_self, ↓State.ambFlushAll_kept, ↓State.standAll_kept]
  repeat' split
  all_goals simp only [↓State.incomplete_kept, ↓State.record_kept]

theorem State.phaseOff_kept (s : State) (k : Nat) :
    (State.phaseOff s k).kept = s.kept := by
  unfold State.phaseOff
  simp only [↓foldl_kept, implies_true, ↓State.railOff_kept]

theorem State.offEnd_kept (s : State) :
    (State.offEnd s).kept = s.kept := by
  unfold State.offEnd
  split <;> simp only [kept_eta, ↓kept_mk, ↓kept_ite, ite_self, ↓State.coreReset_kept, ↓State.put_kept]

theorem State.railsStep_kept (s : State) (top : Nat) :
    (State.railsStep s top).kept = s.kept := by
  unfold State.railsStep
  simp only [kept_eta, ↓kept_mk, ↓kept_ite, ite_self, ↓State.offEnd_kept, ↓State.phaseOff_kept, ↓State.put_kept]

theorem State.quenchBegin_kept (s : State) :
    (State.quenchBegin s).kept = s.kept := by
  unfold State.quenchBegin
  simp only [kept_eta, ↓kept_mk]

theorem State.huAbort_kept (s : State) :
    (State.huAbort s).kept = s.kept := by
  unfold State.huAbort
  simp only [kept_eta, ↓kept_mk, ↓kept_ite, ↓foldl_kept, ite_self, implies_true, ↓State.put_kept, ↓State.railEn_kept]

theorem State.leaveIdle_kept (s : State) :
    (State.leaveIdle s).kept = s.kept := by
  unfold State.leaveIdle
  simp only [↓kept_ite, ↓foldl_kept, ite_self, implies_true, ↓State.put_kept, ↓State.record_kept]

theorem State.dropRoll_kept (s : State) :
    (State.dropRoll s).kept = s.kept := by
  unfold State.dropRoll
  simp only [kept_eta, ↓kept_mk]

theorem State.shutdown_kept (s : State) (cause : Nat) (timed : Bool) :
    (State.shutdown s cause timed).kept = s.kept := by
  unfold State.shutdown
  simp only [kept_eta, ↓kept_mk, ↓kept_ite, ↓foldl_kept, ite_self, implies_true, ↓State.ambFlushAll_kept, ↓State.beginHandover_kept, ↓State.dropRoll_kept, ↓State.huAbort_kept, ↓State.incomplete_kept, ↓State.leaveIdle_kept, ↓State.put_kept, ↓State.quenchBegin_kept, ↓State.railsStep_kept, ↓State.sealRelease_kept, ↓State.stopHome_kept]

theorem State.pfTrigger_kept (s : State) (cause : Nat) :
    (State.pfTrigger s cause).kept = s.kept := by
  unfold State.pfTrigger
  simp only []
  repeat' split
  all_goals simp only [kept_eta, ↓kept_mk, ↓State.count_kept, ↓State.put_kept, ↓State.record_kept, ↓State.shutdown_kept]

theorem State.quenchStep_kept (s : State) :
    (State.quenchStep s).kept = s.kept := by
  unfold State.quenchStep
  repeat' split
  all_goals simp only [kept_eta, ↓kept_mk, ↓State.ckptDone_kept, ↓State.ckptStart_kept, ↓State.quenchAmber_kept, ↓State.quenchJournal_kept, ↓State.quenchT0_kept, ↓State.quenchT1_kept, ↓State.railsStep_kept]

theorem execQuenchStepDone_kept (s : State) :
    Keeps (execQuenchStepDone s) s := by
  unfold execQuenchStepDone
  simp only [↓State.quenchStep_kept, keeps_next]

theorem execQuenchCutoff_kept (s : State) :
    Keeps (execQuenchCutoff s) s := by
  unfold execQuenchCutoff
  split <;> simp only [kept_eta, ↓kept_mk, ↓kept_ite, ↓foldl_kept, ite_self, implies_true, ↓State.updHome_kept, keeps_next]

theorem execRailOffDelay_kept (s : State) :
    Keeps (execRailOffDelay s) s := by
  unfold execRailOffDelay
  split <;> simp only [↓kept_ite, ite_self, ↓State.offEnd_kept, ↓State.phaseOff_kept, ↓State.put_kept, keeps_next]

theorem State.allOff_kept (s : State) :
    (State.allOff s).kept = s.kept := by
  unfold State.allOff
  simp only [↓foldl_kept, implies_true, ↓State.railOff_kept]

theorem execShutdownDeadline_kept (s : State) :
    Keeps (execShutdownDeadline s) s := by
  unfold execShutdownDeadline
  split <;> simp only [↓kept_ite, ite_self, ↓State.allOff_kept, ↓State.incomplete_kept, ↓State.offEnd_kept, keeps_next]

theorem execPfwNAsserted_kept (s : State) :
    Keeps (execPfwNAsserted s) s := by
  unfold execPfwNAsserted
  simp only [↓State.pfTrigger_kept, ↓State.put_kept, keeps_next]

theorem State.railFault_kept (s : State) (n : Nat) (cause : Nat) :
    (State.railFault s n cause).kept = s.kept := by
  unfold State.railFault
  simp only [↓kept_ite, ↓foldl_kept, ite_self, implies_true, ↓State.pfTrigger_kept, ↓State.railEn_kept, ↓State.record_kept, ↓State.retireFch_kept, ↓State.setRegBit_kept, ↓State.updRail_kept]

theorem execRailpgLow_kept (rail : Fin 24) (s : State) :
    Keeps (execRailpgLow rail s) s := by
  unfold execRailpgLow
  simp only [↓kept_ite, ite_self, ↓State.railFault_kept, ↓State.setRegBit_kept, keeps_next]

theorem execVsenseOutOfWindow_kept (input : Fin 8) (code : BitVec 12) (s : State) :
    Keeps (execVsenseOutOfWindow input code s) s := by
  unfold execVsenseOutOfWindow
  simp only [↓kept_ite, ite_self, ↓State.railFault_kept, ↓State.record_kept, ↓State.setReg_kept, keeps_next]

theorem execPhaseBegin_kept (s : State) :
    Keeps (execPhaseBegin s) s := by
  unfold execPhaseBegin
  simp only [↓kept_ite, ite_self, ↓State.beginPhase_kept, keeps_next]

theorem execRailTqualMet_kept (rail : Fin 24) (s : State) :
    Keeps (execRailTqualMet rail s) s := by
  unfold execRailTqualMet
  simp only [↓kept_ite, ite_self, ↓State.phaseCheck_kept, ↓State.railQualify_kept, keeps_next]

theorem execRailPhaseTimeout_kept (s : State) :
    Keeps (execRailPhaseTimeout s) s := by
  unfold execRailPhaseTimeout
  simp only [↓kept_ite, ↓foldl_kept, ite_self, implies_true, ↓State.phaseCheck_kept, ↓State.railFail_kept, ↓State.railQualify_kept, keeps_next]

theorem execQualificationRestart_kept (rail : Fin 24) (s : State) :
    Keeps (execQualificationRestart rail s) s := by
  unfold execQualificationRestart
  simp only [↓kept_ite, ite_self, ↓State.count_kept, ↓State.phaseCheck_kept, ↓State.railFail_kept, ↓State.updRail_kept, keeps_next]

theorem execPgGlitch_kept (rail : Fin 24) (s : State) :
    Keeps (execPgGlitch rail s) s := by
  unfold execPgGlitch
  simp only [↓kept_ite, ite_self, ↓State.count_kept, keeps_next]

theorem State.cmdPowerOn_kept (s : State) :
    (State.cmdPowerOn s).kept = s.kept := by
  unfold State.cmdPowerOn
  simp only [kept_eta, ↓kept_mk, ↓kept_ite, ite_self, ↓State.powerOn_kept]

theorem execPowerOn_kept (s : State) :
    Keeps (execPowerOn s) s := by
  unfold execPowerOn
  simp only [↓State.cmdPowerOn_kept, keeps_next]

theorem State.orderlyOff_kept (s : State) :
    (State.orderlyOff s).kept = s.kept := by
  unfold State.orderlyOff
  simp only [↓kept_ite, ite_self, ↓State.shutdown_kept]

theorem execOrderlyOff_kept (s : State) :
    Keeps (execOrderlyOff s) s := by
  unfold execOrderlyOff
  simp only [↓State.orderlyOff_kept, keeps_next]

theorem execPfwRestartTimer_kept (s : State) :
    Keeps (execPfwRestartTimer s) s := by
  unfold execPfwRestartTimer
  simp only [↓kept_ite, ite_self, ↓State.powerOn_kept, ↓State.put_kept, keeps_next]

theorem State.warmDown_kept (s : State) (cause : Nat) (hold : Bool) :
    (State.warmDown s cause hold).kept = s.kept := by
  unfold State.warmDown
  simp only [kept_eta, ↓kept_mk, ↓kept_ite, ↓foldl_kept, ite_self, implies_true, ↓State.cleanLine_kept, ↓State.coreReset_kept, ↓State.dropTokens_kept, ↓State.huAbort_kept, ↓State.payDebt_kept, ↓State.stopHome_kept]

theorem State.warmUp_kept (s : State) :
    (State.warmUp s).kept = s.kept := by
  unfold State.warmUp
  simp only [kept_eta, ↓kept_mk, ↓State.bootRom_kept, ↓State.putB_kept, ↓State.record_kept, ↓State.setReg_kept]

theorem State.warmReset_kept (s : State) (cause : Nat) :
    (State.warmReset s cause).kept = s.kept := by
  unfold State.warmReset
  simp only [↓State.warmDown_kept, ↓State.warmUp_kept]

theorem execMrNAsserted_kept (s : State) :
    Keeps (execMrNAsserted s) s := by
  unfold execMrNAsserted
  simp only [↓kept_ite, ite_self, ↓State.warmDown_kept, keeps_next]

theorem execMrNReleased_kept (sideA : Bool) (s : State) :
    Keeps (execMrNReleased sideA s) s := by
  unfold execMrNReleased
  simp only [kept_eta, ↓kept_mk, ↓kept_ite, ite_self, ↓State.warmUp_kept, keeps_next]

theorem execSupervisorFatalFault_kept (fetch : Option (BitVec 25)) (s : State) :
    Keeps (execSupervisorFatalFault fetch s) s := by
  unfold execSupervisorFatalFault
  repeat' split
  all_goals simp only [↓State.count_kept, ↓State.record_kept, ↓State.warmReset_kept, keeps_next]

theorem State.vaonLost_kept (s : State) :
    (State.vaonLost s).kept = s.kept := by
  unfold State.vaonLost
  simp only [kept_eta, ↓kept_mk, ↓State.coreReset_kept]

theorem execVaonLoss_kept (s : State) :
    Keeps (execVaonLoss s) s := by
  unfold execVaonLoss
  simp only [↓State.allOff_kept, ↓State.vaonLost_kept, keeps_next]

theorem State.ambResume_kept (s : State) :
    (State.ambResume s).kept = s.kept := by
  unfold State.ambResume
  simp only [kept_eta, ↓kept_mk, ↓kept_ite, ite_self, ↓State.ambCleared_kept, ↓State.setReg_kept]

theorem execVaonApplied_kept (sideA : Bool) (madr : BitVec 3) (s : State) :
    Keeps (execVaonApplied sideA madr s) s := by
  unfold execVaonApplied
  simp only [kept_eta, ↓kept_mk, ↓State.allOff_kept, ↓State.ambResume_kept, ↓State.loadTable_kept, ↓State.putB_kept, ↓State.vaonLost_kept, keeps_next]

theorem execXaonSettled_kept (s : State) :
    Keeps (execXaonSettled s) s := by
  unfold execXaonSettled
  simp only [kept_eta, ↓kept_mk, ↓kept_ite, ite_self, ↓State.powerOn_kept, keeps_next]

theorem State.wakeP3_kept (s : State) (src : Nat) :
    (State.wakeP3 s src).kept = s.kept := by
  unfold State.wakeP3
  simp only [kept_eta, ↓kept_mk, ↓kept_ite, ite_self, ↓State.count_kept, ↓State.put_kept, ↓State.setReg_kept, ↓State.startSeq_kept]

theorem execPwrbtnShort_kept (s : State) :
    Keeps (execPwrbtnShort s) s := by
  unfold execPwrbtnShort
  simp only [↓kept_ite, ite_self, ↓State.orderlyOff_kept, ↓State.powerOn_kept, ↓State.record_kept, ↓State.wakeP3_kept, keeps_next]

theorem execPwrbtnLong_kept (s : State) :
    Keeps (execPwrbtnLong s) s := by
  unfold execPwrbtnLong
  simp only [kept_eta, ↓kept_mk, ↓kept_ite, ite_self, ↓State.put_kept, ↓State.record_kept, ↓State.shutdown_kept, keeps_next]

/-! ### Identity.lean -/

theorem State.ibufPut_kept (s : State) (bs : List Byte) :
    (State.ibufPut s bs).kept = s.kept := by
  unfold State.ibufPut
  simp only [↓foldl_kept, implies_true, ↓State.setReg_kept]

theorem State.idResult_kept (s : State) (r : Nat) :
    (State.idResult s r).kept = s.kept := by
  unfold State.idResult
  simp only [↓State.put_kept]

theorem State.identityGo_kept (s : State) :
    (State.identityGo s).kept = s.kept := by
  unfold State.identityGo
  simp only [kept_eta, ↓kept_mk, ↓kept_ite, ite_self, ↓State.busFirst_kept, ↓State.emit_kept, ↓State.put_kept]

theorem execIdentityGo_kept (s : State) :
    Keeps (execIdentityGo s) s := by
  unfold execIdentityGo
  simp only [↓State.identityGo_kept, keeps_next]

theorem State.segStuck_kept (s : State) (seg : Nat) :
    (State.segStuck s seg).kept = s.kept := by
  unfold State.segStuck
  simp only [kept_eta, ↓kept_mk, ↓kept_ite, ite_self, ↓State.put_kept, ↓State.railOff_kept, ↓State.record_kept]

theorem execIdentityTransactionDone_kept (result : Fin 8) (data : List Byte) (s : State) :
    Keeps (execIdentityTransactionDone result data s) s := by
  unfold execIdentityTransactionDone
  split <;> simp only [kept_eta, ↓kept_mk, ↓kept_ite, ite_self, ↓State.count_kept, ↓State.ibufPut_kept, ↓State.idResult_kept, ↓State.put_kept, ↓State.segStuck_kept, keeps_next]

theorem State.segCleared_kept (s : State) (seg : Nat) :
    (State.segCleared s seg).kept = s.kept := by
  unfold State.segCleared
  simp only [↓State.put_kept, ↓State.record_kept]

theorem execSegmentRailCycle_kept (cleared : Bool) (s : State) :
    Keeps (execSegmentRailCycle cleared s) s := by
  unfold execSegmentRailCycle
  split <;> simp only [kept_eta, ↓kept_mk, ↓kept_ite, ite_self, ↓State.count_kept, ↓State.put_kept, ↓State.railEn_kept, ↓State.segCleared_kept, ↓State.updRail_kept, keeps_next]

theorem execSdaLowWhileIdle_kept (segment : Fin 4) (cleared : Bool) (s : State) :
    Keeps (execSdaLowWhileIdle segment cleared s) s := by
  unfold execSdaLowWhileIdle
  simp only [↓kept_ite, ite_self, ↓State.count_kept, ↓State.segStuck_kept, keeps_next]

/-! ### HoldUp.lean -/

theorem State.put20_kept (s : State) (a : Nat) (v : Nat) :
    (State.put20 s a v).kept = s.kept := by
  unfold State.put20
  simp only [↓State.setReg_kept]

theorem State.setBudget_kept (s : State) (b : Nat) :
    (State.setBudget s b).kept = s.kept := by
  unfold State.setBudget
  simp only [↓kept_ite, ite_self, ↓State.placeLate_kept, ↓State.record_kept, ↓State.setReg_kept, ↓State.setRegBit_kept, ↓State.settle_kept]

theorem State.budgetNow_kept (s : State) :
    (State.budgetNow s).kept = s.kept := by
  unfold State.budgetNow
  simp only [↓kept_ite, ite_self, ↓State.put20_kept, ↓State.setBudget_kept]

theorem execEnowTimer_kept (mv : Nat) (s : State) :
    Keeps (execEnowTimer mv s) s := by
  unfold execEnowTimer
  simp only [kept_eta, ↓kept_mk, ↓State.budgetNow_kept, keeps_next]

theorem State.huStart_kept (s : State) :
    (State.huStart s).kept = s.kept := by
  unfold State.huStart
  simp only [kept_eta, ↓kept_mk, ↓kept_ite, ite_self, ↓State.put_kept, ↓State.setBudget_kept]

theorem execHuTest_kept (s : State) :
    Keeps (execHuTest s) s := by
  unfold execHuTest
  simp only [↓State.huStart_kept, keeps_next]

theorem execHuTestPeriod_kept (s : State) :
    Keeps (execHuTestPeriod s) s := by
  unfold execHuTestPeriod
  simp only [↓kept_ite, ite_self, ↓State.huStart_kept, keeps_next]

theorem execHuVoltageStable_kept (mv : Nat) (s : State) :
    Keeps (execHuVoltageStable mv s) s := by
  unfold execHuVoltageStable
  simp only [kept_eta, ↓kept_mk, ↓kept_ite, ite_self, ↓State.huStart_kept, keeps_next]

theorem execHuBudgetFits_kept (v0 : Nat) (s : State) :
    Keeps (execHuBudgetFits v0 s) s := by
  unfold execHuBudgetFits
  split <;> simp only [kept_eta, ↓kept_mk, ↓kept_ite, ite_self, ↓State.railEn_kept, keeps_next]

theorem execHuSampleTimer_kept (mv : Nat) (s : State) :
    Keeps (execHuSampleTimer mv s) s := by
  unfold execHuSampleTimer
  split <;> simp only [kept_eta, ↓kept_mk, ↓kept_ite, ite_self, ↓State.railEn_kept, keeps_next]

theorem execHuRecovered_kept (mv : Nat) (s : State) :
    Keeps (execHuRecovered mv s) s := by
  unfold execHuRecovered
  split <;> simp only [kept_eta, ↓kept_mk, ↓kept_ite, ite_self, ↓State.budgetNow_kept, ↓State.count_kept, ↓State.put_kept, ↓State.put20_kept, ↓State.record_kept, ↓State.startup_kept, keeps_next]

theorem execHuWaitLimit_kept (s : State) :
    Keeps (execHuWaitLimit s) s := by
  unfold execHuWaitLimit
  simp only [kept_eta, ↓kept_mk, ↓kept_ite, ite_self, ↓State.record_kept, ↓State.startup_kept, keeps_next]

/-! ### Governor.lean -/

theorem State.govApply_kept (s : State) :
    (State.govApply s).kept = s.kept := by
  unfold State.govApply
  simp only [↓foldl_kept, implies_true, ↓State.put_kept, ↓State.putB_kept, ↓State.setReg_kept]

theorem State.capPeriod_kept (s : State) (pest : Nat) :
    (State.capPeriod s pest).kept = s.kept := by
  unfold State.capPeriod
  simp only [kept_eta, ↓kept_mk, ↓kept_ite, ite_self, ↓State.count_kept, ↓State.record_kept]

theorem State.setStep_kept (s : State) (n : Nat) :
    (State.setStep s n).kept = s.kept := by
  unfold State.setStep
  simp only [kept_eta, ↓kept_mk, ↓kept_ite, ite_self, ↓State.countBy_kept, ↓State.govApply_kept, ↓State.put_kept, ↓State.record_kept]

theorem State.raiseStep_kept (s : State) :
    (State.raiseStep s).kept = s.kept := by
  unfold State.raiseStep
  simp only [↓kept_ite, ite_self, ↓State.setStep_kept]

theorem State.coolPeriod_kept (s : State) :
    (State.coolPeriod s).kept = s.kept := by
  unfold State.coolPeriod
  simp only [kept_eta, ↓kept_mk, ↓kept_ite, ite_self, ↓State.setStep_kept]

theorem State.heatPause_kept (s : State) :
    (State.heatPause s).kept = s.kept := by
  unfold State.heatPause
  simp only [↓kept_ite, ite_self, ↓State.setPauseAll_kept]

theorem State.govPeriod_kept (s : State) (pest : Nat) (loads : List (Fin 16 × Nat)) :
    (State.govPeriod s pest loads).kept = s.kept := by
  unfold State.govPeriod
  simp only [kept_eta, ↓kept_mk, ↓kept_ite, ite_self, ↓State.capPeriod_kept, ↓State.coolPeriod_kept, ↓State.countBy_kept, ↓State.dirtyPause_kept, ↓State.govApply_kept, ↓State.heatPause_kept, ↓State.setReg_kept]

theorem execGovernorPeriod_kept (pest : Nat) (loads : List (Fin 16 × Nat)) (s : State) :
    Keeps (execGovernorPeriod pest loads s) s := by
  unfold execGovernorPeriod
  simp only [↓kept_ite, ite_self, ↓State.govPeriod_kept, keeps_next]

theorem State.readTemps_kept (s : State) (ts : List Int) :
    (State.readTemps s ts).kept = s.kept := by
  unfold State.readTemps
  simp only []
  repeat' split
  all_goals simp only [kept_eta, ↓kept_mk, ↓foldl_kept, implies_true, ↓State.draw_kept, ↓State.record_kept]

theorem State.meltdown_kept (s : State) :
    (State.meltdown s).kept = s.kept := by
  unfold State.meltdown
  simp only [kept_eta, ↓kept_mk, ↓kept_ite, ite_self, ↓State.allOff_kept, ↓State.incomplete_kept, ↓State.offEnd_kept, ↓State.put_kept]

theorem State.trip_kept (s : State) :
    (State.trip s).kept = s.kept := by
  unfold State.trip
  simp only [↓kept_ite]
  repeat' split
  all_goals simp only [kept_eta, ↓kept_mk, ↓State.put_kept, ↓State.record_kept, ↓State.shutdown_kept]

theorem execThermalSample_kept (temps : List Int) (s : State) :
    Keeps (execThermalSample temps s) s := by
  unfold execThermalSample
  simp only [kept_eta, ↓kept_mk, ↓kept_ite, ite_self, ↓State.meltdown_kept, ↓State.raiseStep_kept, ↓State.readTemps_kept, ↓State.trip_kept, keeps_next, keeps_refused, ↓keeps_ite]

theorem execTripCooldown_kept (s : State) :
    Keeps (execTripCooldown s) s := by
  unfold execTripCooldown
  simp only [kept_eta, ↓kept_mk, ↓kept_ite, ite_self, keeps_next]

theorem State.deepen_kept (s : State) (p : Nat) :
    (State.deepen s p).kept = s.kept := by
  unfold State.deepen
  simp only [kept_eta, ↓kept_mk, ↓kept_ite, ite_self, ↓State.put_kept, ↓State.shutdown_kept, ↓State.steerNow_kept]

theorem State.requestP_kept (s : State) (p : Nat) :
    (State.requestP s p).1.kept = s.kept := by
  unfold State.requestP
  simp only [↓kept_ite1, ite_self, ↓State.deepen_kept]

theorem State.govCmd_kept (s : State) (p : Nat) :
    (State.govCmd s p).kept = s.kept := by
  unfold State.govCmd
  simp only [↓kept_ite, ite_self, ↓State.put_kept, ↓State.requestP_kept]

theorem State.govP0_kept (s : State) :
    (State.govP0 s).kept = s.kept := by
  unfold State.govP0
  simp only [↓kept_ite, ite_self, ↓State.wake_kept, ↓State.wakeP3_kept]

theorem execGovP0_kept (s : State) :
    Keeps (execGovP0 s) s := by
  unfold execGovP0
  simp only [↓State.govP0_kept, keeps_next]

theorem execGovP1_kept (s : State) :
    Keeps (execGovP1 s) s := by
  unfold execGovP1
  simp only [↓State.govCmd_kept, keeps_next]

theorem execGovP2_kept (s : State) :
    Keeps (execGovP2 s) s := by
  unfold execGovP2
  simp only [↓State.govCmd_kept, keeps_next]

theorem execGovP3_kept (s : State) :
    Keeps (execGovP3 s) s := by
  unfold execGovP3
  simp only [↓State.govCmd_kept, keeps_next]

theorem execP1IdleExpiry_kept (s : State) :
    Keeps (execP1IdleExpiry s) s := by
  unfold execP1IdleExpiry
  simp only [↓kept_ite, ite_self, ↓State.requestP_kept, keeps_next]

theorem execP2IdleExpiry_kept (s : State) :
    Keeps (execP2IdleExpiry s) s := by
  unfold execP2IdleExpiry
  simp only [↓kept_ite, ite_self, ↓State.requestP_kept, keeps_next]

theorem State.gate_kept (s : State) (ds : List Domain) :
    (State.gate s ds).kept = s.kept := by
  unfold State.gate
  simp only [kept_eta, ↓kept_mk]

theorem State.ungate_kept (s : State) (ds : List Domain) :
    (State.ungate s ds).kept = s.kept := by
  unfold State.ungate
  simp only [kept_eta, ↓kept_mk]

theorem State.enterP2_kept (s : State) :
    (State.enterP2 s).kept = s.kept := by
  unfold State.enterP2
  simp only [kept_eta, ↓kept_mk, ↓kept_ite, ↓foldl_kept, ite_self, implies_true, ↓State.cleanInvWhole_kept, ↓State.gate_kept, ↓State.payDebt_kept, ↓State.put_kept, ↓State.setReg_kept, ↓State.updPort_kept]

theorem State.exitP2_kept (s : State) :
    (State.exitP2 s).kept = s.kept := by
  unfold State.exitP2
  simp only [↓kept_ite, ↓foldl_kept, ite_self, implies_true, ↓State.put_kept, ↓State.setPauseAll_kept, ↓State.setReg_kept, ↓State.ungate_kept, ↓State.updPort_kept]

theorem State.entryDone_kept (s : State) :
    (State.entryDone s).kept = s.kept := by
  unfold State.entryDone
  simp only [kept_eta, ↓kept_mk, ↓kept_ite, ite_self, ↓State.enterP2_kept, ↓State.gate_kept, ↓State.put_kept, ↓State.record_kept, ↓State.wake_kept, ↓State.wakeP3_kept]

theorem execPstateEntryDone_kept (s : State) :
    Keeps (execPstateEntryDone s) s := by
  unfold execPstateEntryDone
  simp only [↓State.entryDone_kept, keeps_next]

theorem State.exitDone_kept (s : State) :
    (State.exitDone s).kept = s.kept := by
  unfold State.exitDone
  simp only [kept_eta, ↓kept_mk, ↓kept_ite, ite_self, ↓State.exitP2_kept, ↓State.put_kept, ↓State.record_kept, ↓State.steerNow_kept, ↓State.ungate_kept]

theorem execPstateExitDone_kept (s : State) :
    Keeps (execPstateExitDone s) s := by
  unfold execPstateExitDone
  simp only [↓State.exitDone_kept, keeps_next]

theorem execGovWakeTimer_kept (s : State) :
    Keeps (execGovWakeTimer s) s := by
  unfold execGovWakeTimer
  simp only [↓kept_ite, ite_self, ↓State.wake_kept, ↓State.wakeP3_kept, keeps_next]

theorem execWakeN_kept (s : State) :
    Keeps (execWakeN s) s := by
  unfold execWakeN
  simp only [↓kept_ite, ite_self, ↓State.powerOn_kept, ↓State.wake_kept, ↓State.wakeP3_kept, keeps_next]

theorem execListenFrame_kept (port : Fin 8) (flen : Nat) (s : State) :
    Keeps (execListenFrame port flen s) s := by
  unfold execListenFrame
  simp only [↓kept_ite, ↓foldl_kept, ite_self, implies_true, ↓State.count_kept, ↓State.setPause_kept, ↓State.updPort_kept, ↓State.wake_kept, keeps_next]

theorem execClockGateIdle_kept (d : Domain) (s : State) :
    Keeps (execClockGateIdle d s) s := by
  unfold execClockGateIdle
  simp only [kept_eta, ↓kept_mk, ↓kept_ite, ite_self, keeps_next]

theorem execPowerGateIdle_kept (d : Domain) (s : State) :
    Keeps (execPowerGateIdle d s) s := by
  unfold execPowerGateIdle
  simp only [↓kept_ite, ite_self, ↓State.gate_kept, keeps_next]

theorem execDomainWake_kept (d : Domain) (s : State) :
    Keeps (execDomainWake d s) s := by
  unfold execDomainWake
  simp only [kept_eta, ↓kept_mk, ↓kept_ite, ite_self, keeps_next]

theorem execDomainWakeDone_kept (d : Domain) (s : State) :
    Keeps (execDomainWakeDone d s) s := by
  unfold execDomainWakeDone
  simp only [↓kept_ite, ite_self, ↓State.ungate_kept, keeps_next]

end Sys2Proof.Machine
end

