-- ==== Sys2Proof/Laws/KeptConfig.lean ====
section
/-! SUPPORT. Sys2Proof/Laws/KeptConfig.lean: commits, register accesses, the two-wire bus and the admin capsules keep the queue, the clock
and the one-time values: one lemma for each operation. -/

namespace Sys2Proof.Machine

/-! ### Commit.lean -/

theorem State.commitReport_kept (s : State) (last : Nat) (via : CommitVia) :
    (State.commitReport s last via).kept = s.kept := by
  unfold State.commitReport
  simp only [↓State.put_kept]

theorem State.commitNow_kept (s : State) (via : CommitVia) :
    (State.commitNow s via).kept = s.kept := by
  unfold State.commitNow
  simp only [kept_eta, ↓kept_mk, ↓State.applyAll_kept, ↓State.commitReport_kept, ↓State.setReg64_kept, ↓State.startup_kept, ↓State.storeSet_kept]

theorem State.commitAccept_kept (s : State) (via : CommitVia) :
    (State.commitAccept s via).1.kept = s.kept := by
  unfold State.commitAccept
  simp only [kept_eta, ↓kept_mk, ↓kept_ite, ite_self, ↓State.commitReport_kept, ↓State.put_kept, ↓State.setReg64_kept, ↓State.updHome_kept, ↓State.wake_kept]

theorem State.commit_kept (s : State) (via : CommitVia) :
    (State.commit s via).1.kept = s.kept := by
  unfold State.commit
  simp only [↓kept_ite1, ite_self, ↓State.commitAccept_kept, ↓State.commitNow_kept, ↓State.commitReport_kept]

theorem State.discard_kept (s : State) (via : CommitVia) :
    (State.discard s via).kept = s.kept := by
  unfold State.discard
  simp only [kept_eta, ↓kept_mk, ↓State.commitReport_kept]

theorem State.glbCmt_kept (s : State) (op : Nat) (via : CommitVia) :
    (State.glbCmt s op via).1.kept = s.kept := by
  unfold State.glbCmt
  simp only [↓kept_ite1, ite_self, ↓State.commit_kept, ↓State.discard_kept, ↓State.put_kept]

theorem State.switchUnits_kept (s : State) (c : Commit) (j : Nat) :
    (State.switchUnits s c j).kept = s.kept := by
  unfold State.switchUnits
  simp only [kept_eta, ↓kept_mk, ↓State.applyAll_kept]

theorem State.beginRoll_kept (s : State) (c : Commit) :
    (State.beginRoll s c).kept = s.kept := by
  unfold State.beginRoll
  simp only [↓State.applyAll_kept, ↓State.putB_kept, ↓State.switchUnits_kept]

theorem State.commitEnd_kept (s : State) (c : Commit) :
    (State.commitEnd s c).kept = s.kept := by
  unfold State.commitEnd
  split <;> simp only [kept_eta, ↓kept_mk, ↓State.okCap_kept, ↓State.put_kept, ↓State.settle_kept, ↓State.storeSet_kept]

theorem State.commitCheck_kept (s : State) :
    (State.commitCheck s).kept = s.kept := by
  unfold State.commitCheck
  split <;> simp only [↓kept_ite, ite_self, ↓State.commitEnd_kept]

theorem State.deferredHandovers_kept (s : State) :
    (State.deferredHandovers s).kept = s.kept := by
  unfold State.deferredHandovers
  simp only [↓kept_ite, ↓foldl_kept, ite_self, implies_true, ↓State.beginHandover_kept]

theorem State.rollDrained_kept (s : State) :
    (State.rollDrained s).kept = s.kept := by
  unfold State.rollDrained
  split <;> simp only [kept_eta, ↓kept_mk, ↓kept_ite, ite_self, ↓State.commitCheck_kept, ↓State.deferredHandovers_kept, ↓State.put_kept]

theorem execRollDrained_kept (s : State) :
    Keeps (execRollDrained s) s := by
  unfold execRollDrained
  simp only [↓kept_ite, ite_self, ↓State.rollDrained_kept, keeps_core]

theorem State.commitBoundary_kept (s : State) (h : Nat) :
    (State.commitBoundary s h).kept = s.kept := by
  unfold State.commitBoundary
  split <;> simp only [↓kept_ite, ite_self, ↓State.beginRoll_kept, ↓State.commitCheck_kept, ↓State.switchUnits_kept]

theorem State.jointBoundary_kept (s : State) (h : Nat) :
    (State.jointBoundary s h).kept = s.kept := by
  unfold State.jointBoundary
  simp only [kept_eta, ↓kept_mk, ↓State.applyAll_kept]

theorem State.admitJoiner_kept (s : State) (h : Nat) :
    (State.admitJoiner s h).kept = s.kept := by
  unfold State.admitJoiner
  simp only [↓State.notifyAll_kept, ↓State.record_kept, ↓State.setPair_kept, ↓State.standWrite_kept, ↓State.updHome_kept]

theorem State.joinStep_kept (s : State) (h : Nat) :
    (State.joinStep s h).kept = s.kept := by
  unfold State.joinStep
  simp only [↓kept_ite, ite_self, ↓State.admitJoiner_kept, ↓State.setPair_kept, ↓State.updHome_kept]

theorem State.epochBoundary_kept (s : State) (h : Nat) :
    (State.epochBoundary s h).kept = s.kept := by
  unfold State.epochBoundary
  simp only [↓kept_ite, ite_self, ↓State.commitBoundary_kept, ↓State.joinStep_kept, ↓State.jointBoundary_kept, ↓State.sendDelta_kept, ↓State.sendHealth_kept, ↓State.steerNow_kept, ↓State.updHome_kept]

theorem execEpochBoundary_kept (home : Fin 2) (s : State) :
    Keeps (execEpochBoundary home s) s := by
  unfold execEpochBoundary
  simp only [↓State.epochBoundary_kept, keeps_next]

theorem State.activateEnd_kept (s : State) :
    (State.activateEnd s).kept = s.kept := by
  unfold State.activateEnd
  simp only [↓State.programSelect_kept, ↓State.warmReset_kept]

theorem State.afterHandover_kept (s : State) (next : HandNext) :
    (State.afterHandover s next).kept = s.kept := by
  unfold State.afterHandover
  repeat' split
  all_goals simp only [↓State.activateEnd_kept, ↓State.quenchBegin_kept, ↓State.warmReset_kept]

theorem execHandoverDrained_kept (home : Fin 2) (s : State) :
    Keeps (execHandoverDrained home s) s := by
  unfold execHandoverDrained
  simp only [↓kept_ite, ite_self, ↓State.afterHandover_kept, ↓State.passToken_kept, keeps_core]

theorem State.handAll_kept (s : State) (next : HandNext) :
    (State.handAll s next).kept = s.kept := by
  unfold State.handAll
  simp only [↓kept_ite, ↓foldl_kept, ite_self, implies_true, ↓State.afterHandover_kept, ↓State.beginHandover_kept]

theorem State.rstCtl_kept (s : State) (handover : Bool) :
    (State.rstCtl s handover).kept = s.kept := by
  unfold State.rstCtl
  simp only [↓kept_ite, ite_self, ↓State.handAll_kept, ↓State.put_kept, ↓State.warmReset_kept]

theorem execWarmResetRequest_kept (s : State) :
    Keeps (execWarmResetRequest s) s := by
  unfold execWarmResetRequest
  simp only [↓State.rstCtl_kept, keeps_next]

theorem execWarmResetHandover_kept (s : State) :
    Keeps (execWarmResetHandover s) s := by
  unfold execWarmResetHandover
  simp only [↓State.rstCtl_kept, keeps_next]

theorem State.fwActivate_kept (s : State) :
    (State.fwActivate s).1.kept = s.kept := by
  unfold State.fwActivate
  simp only [kept_eta, ↓kept_mk, ↓kept_ite1, ite_self, ↓State.record_kept]

/-! ### RegRead.lean -/

theorem State.rawRead_kept (s : State) (store : Nat) (addr : Nat) :
    (State.rawRead s store addr).1.kept = s.kept := by
  unfold State.rawRead
  simp only [↓kept_ite1, ite_self, ↓State.draw_kept]

theorem State.dbgRead_kept (s : State) :
    (State.dbgRead s).kept = s.kept := by
  unfold State.dbgRead
  simp only [kept_eta, ↓kept_mk, ↓kept_ite, ite_self, ↓State.rawRead_kept]

theorem execDbgMemoryRead_kept (s : State) :
    Keeps (execDbgMemoryRead s) s := by
  unfold execDbgMemoryRead
  simp only [↓State.dbgRead_kept, keeps_next]

theorem State.tapRead_kept (s : State) (ir : Nat) (store : Nat) (addr : Nat) :
    (State.tapRead s ir store addr).kept = s.kept := by
  unfold State.tapRead
  simp only [kept_eta, ↓kept_mk, ↓kept_ite, ite_self, ↓State.emit_kept, ↓State.rawRead_kept]

theorem execTapMemread_kept (store : BitVec 3) (addr : BitVec 32) (s : State) :
    Keeps (execTapMemread store addr s) s := by
  unfold execTapMemread
  simp only [↓State.tapRead_kept, keeps_next]

theorem execTapRegread_kept (addr : BitVec 24) (s : State) :
    Keeps (execTapRegread addr s) s := by
  unfold execTapRegread
  simp only [↓State.tapRead_kept, keeps_next]

theorem State.readBefore_kept (s : State) (a : Nat) :
    (State.readBefore s a).kept = s.kept := by
  unfold State.readBefore
  simp only [↓kept_ite, ite_self, ↓State.dbgChallenge_kept, ↓State.dbgRead_kept]

theorem State.readAfter_kept (s : State) (a : Nat) :
    (State.readAfter s a).kept = s.kept := by
  unfold State.readAfter
  repeat' split
  all_goals simp only [↓State.clogPop_kept, ↓State.setReg_kept]

theorem State.regRead_kept (s : State) (p : Path) (a : Nat) :
    (State.regRead s p a).1.kept = s.kept := by
  unfold State.regRead
  simp only [↓kept_ite1, ite_self, ↓State.noteForeign_kept, ↓State.readAfter_kept, ↓State.readBefore_kept]

/-! ### RegWrite.lean -/

theorem State.alertAfter_kept (old : State) (s : State) (a : Nat) :
    (State.alertAfter old s a).kept = s.kept := by
  unfold State.alertAfter
  simp only [kept_eta, ↓kept_mk, ↓kept_ite, ite_self, ↓State.alertSettle_kept]

theorem State.writeShadowed_kept (s : State) (p : Path) (d : RegDef) (a : Nat) (v : BitVec 32) :
    (State.writeShadowed s p d a v).1.kept = s.kept := by
  unfold State.writeShadowed
  simp only [kept_eta, ↓kept_mk, ↓kept_ite, ↓kept_ite1, ite_self, ↓State.applyReg_kept, ↓State.put_kept, ↓State.setReg_kept, ↓State.setRegBit_kept]

theorem State.pwsCmd_kept (s : State) (op : Nat) :
    (State.pwsCmd s op).kept = s.kept := by
  unfold State.pwsCmd
  simp only [↓kept_ite, ite_self, ↓State.cmdPowerOn_kept, ↓State.huStart_kept, ↓State.orderlyOff_kept]

theorem State.govOp_kept (s : State) (op : Nat) :
    (State.govOp s op).kept = s.kept := by
  unfold State.govOp
  simp only [↓kept_ite, ite_self, ↓State.govCmd_kept, ↓State.govP0_kept]

theorem State.scrubCmd_kept (s : State) (v : BitVec 32) :
    (State.scrubCmd s v).kept = s.kept := by
  unfold State.scrubCmd
  simp only [kept_eta, ↓kept_mk, ↓kept_ite, ite_self, ↓State.scrubStart_kept]

theorem State.remapCmd_kept (s : State) (v : BitVec 32) :
    (State.remapCmd s v).kept = s.kept := by
  unfold State.remapCmd
  simp only [↓kept_ite, ite_self, ↓State.remapClear_kept, ↓State.remapLoad_kept]

theorem State.colCred_kept (s : State) (high : Bool) (n : Nat) :
    (State.colCred s high n).kept = s.kept := by
  unfold State.colCred
  extract_lets c
  split <;> simp only [kept_mk, kept_eta]

theorem State.actHigh_kept (s : State) (a : Nat) (v : BitVec 32) :
    (State.actHigh s a v).1.kept = s.kept := by
  unfold State.actHigh
  generalize (List.range 4).find? _ = ow, (List.range 16).find? _ = oc, (List.range 32).find? _ = of
  repeat' split
  all_goals simp only [kept_eta, ↓kept_mk, ↓State.colCred_kept, ↓State.lcDisable_kept, ↓State.lcEnable_kept, ↓State.lcLockWrite_kept, ↓State.mopStart_kept, ↓State.remapCmd_kept, ↓State.retireDram_kept, ↓State.retireFch_kept, ↓State.scrubCmd_kept, ↓State.twnCmd_kept]

theorem execGlbCommit_kept (path : Path) (s : State) :
    Keeps (execGlbCommit path s) s := by
  unfold execGlbCommit
  simp only [↓kept_ite, ite_self, ↓State.glbCmt_kept, keeps_core]

theorem execGlbDiscard_kept (path : Path) (s : State) :
    Keeps (execGlbDiscard path s) s := by
  unfold execGlbDiscard
  simp only [↓State.glbCmt_kept, keeps_next]

/-! ### TwoWire.lean -/

theorem State.pecBad_kept (s : State) :
    (State.pecBad s).kept = s.kept := by
  unfold State.pecBad
  simp only [↓State.count_kept, ↓State.emit_kept, ↓State.put_kept, ↓State.record_kept]

theorem State.wireRead_kept (s : State) (a : Nat) :
    (State.wireRead s a).1.kept = s.kept := by
  unfold State.wireRead
  simp only [↓kept_ite1, ite_self, ↓State.put_kept, ↓State.regRead_kept]

theorem WireRead.byte_kept (win : Nat) (r : WireRead) : (WireRead.byte win r).st.kept = r.st.kept := by
  unfold WireRead.byte
  simp only
  split
  · split
    · rfl
    · exact State.wireRead_kept _ _
  · exact State.wireRead_kept _ _

theorem WireRead.foldl_kept (win : Nat) (l : List Nat) (r : WireRead) :
    (l.foldl (fun r _ => WireRead.byte win r) r).st.kept = r.st.kept := by
  induction l generalizing r with
  | nil => rfl
  | cons a l ih => exact (ih _).trans (WireRead.byte_kept win r)

theorem State.wireReadout_kept (s : State) (ptr : BitVec 16) (len : Nat) (head : List Byte) :
    (State.wireReadout s ptr len head).kept = s.kept := by
  unfold State.wireReadout
  simp only [kept_eta, ↓kept_mk, ↓State.emit_kept, WireRead.foldl_kept, ↓State.count_kept]

theorem execTwoWireRead_kept (ptr : BitVec 16) (len : Nat) (s : State) :
    Keeps (execTwoWireRead ptr len s) s := by
  unfold execTwoWireRead
  simp only [↓State.wireReadout_kept, keeps_next]

theorem execCurrentRead_kept (len : Nat) (s : State) :
    Keeps (execCurrentRead len s) s := by
  unfold execCurrentRead
  simp only [↓State.wireReadout_kept, keeps_next]

theorem execAlertResponse_kept (others : List (BitVec 3)) (len : Nat) (s : State) :
    Keeps (execAlertResponse others len s) s := by
  unfold execAlertResponse
  simp only [kept_eta, ↓kept_mk, ↓kept_ite, ite_self, ↓State.count_kept, ↓State.emit_kept, keeps_next]

theorem execSclLowTimeout_kept (s : State) :
    Keeps (execSclLowTimeout s) s := by
  unfold execSclLowTimeout
  simp only [↓State.count_kept, ↓State.put_kept, ↓State.record_kept, keeps_next]

/-! ### Freeze.lean -/

theorem State.freeze_kept (s : State) :
    (State.freeze s).kept = s.kept := by
  unfold State.freeze
  simp only [↓kept_ite, ↓foldl_kept, ite_self, implies_true, ↓State.dropRoll_kept, ↓State.dropTokens_kept, ↓State.huAbort_kept, ↓State.payDebt_kept, ↓State.put_kept, ↓State.record_kept, ↓State.sealRelease_kept, ↓State.stopHome_kept]

theorem execFreezeNAsserted_kept (s : State) :
    Keeps (execFreezeNAsserted s) s := by
  unfold execFreezeNAsserted
  simp only [kept_eta, ↓kept_mk, ↓kept_ite, ite_self, ↓State.freeze_kept, ↓State.record_kept, keeps_next]

/-! ### Admin.lean -/

theorem execIdentify_kept (c : CapRef) (s : State) :
    Keeps (execIdentify c s) s := by
  unfold execIdentify
  simp only [↓kept_ite, ite_self, implies_true, ↓State.okCap_kept, ↓State.startCap_kept, ↓State.toHost_kept, keeps_core]

theorem State.pageTests_kept (s : State) (qp : Qp) :
    (State.pageTests s qp).1.kept = s.kept := by
  unfold State.pageTests
  simp only [↓kept_ite, ite_self, ↓State.testSoFar_kept]

theorem State.logPage_kept (s : State) (qp : Qp) (n : Nat) :
    ∀ x, State.logPage s qp n = some x → x.1.kept = s.kept := by
  unfold State.logPage
  intro x h
  repeat' first
    | cases h
    | split at h
    | simp only [↓State.pageTests_kept]

theorem State.capLog_kept (s : State) (c : CapRef) (qp : Qp) (bs : List Byte) :
    (State.capLog s c qp bs).kept = s.kept := by
  unfold State.capLog
  repeat' first
    | simp only [↓kept_ite, ↓State.failCap_kept, ↓State.okCap_kept, ↓State.toHost_kept]
    | refine ite_kept ?_ ?_
    | split
    | refine (State.logPage_kept _ _ _ _ (by assumption)).trans ?_

theorem execLogRead_kept (c : CapRef) (s : State) :
    Keeps (execLogRead c s) s := by
  unfold execLogRead
  simp only [↓kept_ite, ite_self, implies_true, ↓State.capLog_kept, ↓State.startCap_kept, keeps_core]

theorem State.capTest_kept (s : State) (c : CapRef) (qp : Qp) (typ : Nat) :
    (State.capTest s c qp typ).kept = s.kept := by
  unfold State.capTest
  simp only [kept_eta, ↓kept_mk, ↓kept_ite, ite_self, ↓State.failCap_kept, ↓State.okCap_kept]

theorem execSelftestShort_kept (c : CapRef) (s : State) :
    Keeps (execSelftestShort c s) s := by
  unfold execSelftestShort
  simp only [↓kept_ite, ite_self, implies_true, ↓State.capTest_kept, ↓State.startCap_kept, keeps_core]

theorem execSelftestExtended_kept (c : CapRef) (s : State) :
    Keeps (execSelftestExtended c s) s := by
  unfold execSelftestExtended
  simp only [↓kept_ite, ite_self, implies_true, ↓State.capTest_kept, ↓State.startCap_kept, keeps_core]

theorem State.endTest_kept (s : State) (t : SelfTest) (result : Nat) (units : Nat) (fields : List Byte) :
    (State.endTest s t result units fields).kept = s.kept := by
  unfold State.endTest
  simp only [↓kept_ite, ite_self, ↓State.logTest_kept, ↓State.notify_kept, ↓State.record_kept]

theorem State.capTestAbort_kept (s : State) (c : CapRef) (qp : Qp) :
    (State.capTestAbort s c qp).kept = s.kept := by
  unfold State.capTestAbort
  split <;> simp only [↓State.endTest_kept, ↓State.okCap_kept, ↓State.testSoFar_kept]

theorem execSelftestAbort_kept (c : CapRef) (s : State) :
    Keeps (execSelftestAbort c s) s := by
  unfold execSelftestAbort
  simp only [↓kept_ite, ite_self, implies_true, ↓State.capTestAbort_kept, ↓State.startCap_kept, keeps_core]

theorem execSelftestResume_kept (home : Fin 2) (pd : BitVec 16) (s : State) :
    Keeps (execSelftestResume home pd s) s := by
  unfold execSelftestResume
  simp only [kept_eta, ↓kept_mk, ↓kept_ite, ite_self, keeps_core]

theorem execSelftestEnd_kept (home : Fin 2) (pd : BitVec 16) (result : Fin 5) (failKey : BitVec 32) (failOffset : BitVec 64) (units : BitVec 32) (healed : BitVec 32) (notHealed : BitVec 32) (s : State) :
    Keeps (execSelftestEnd home pd result failKey failOffset units healed notHealed s) s := by
  unfold execSelftestEnd
  split <;> simp only [↓kept_ite, ite_self, ↓State.endTest_kept, ↓State.settle_kept, keeps_core]

theorem execPowerStateReport_kept (c : CapRef) (s : State) :
    Keeps (execPowerStateReport c s) s := by
  unfold execPowerStateReport
  simp only [↓kept_ite, ite_self, implies_true, ↓State.failCap_kept, ↓State.okCap_kept, ↓State.startCap_kept, keeps_core]

theorem State.capPstate_kept (s : State) (c : CapRef) (p : Nat) :
    (State.capPstate s c p).kept = s.kept := by
  unfold State.capPstate
  simp only [↓kept_ite, ite_self, ↓State.failCap_kept, ↓State.okCap_kept, ↓State.requestP_kept]

theorem execPowerStateP0_kept (c : CapRef) (s : State) :
    Keeps (execPowerStateP0 c s) s := by
  unfold execPowerStateP0
  simp only [↓kept_ite, ite_self, implies_true, ↓State.okCap_kept, ↓State.startCap_kept, ↓State.wake_kept, keeps_core]

theorem execPowerStateP1_kept (c : CapRef) (s : State) :
    Keeps (execPowerStateP1 c s) s := by
  unfold execPowerStateP1
  simp only [↓kept_ite, ite_self, implies_true, ↓State.capPstate_kept, ↓State.startCap_kept, keeps_core]

theorem execPowerStateP2_kept (c : CapRef) (s : State) :
    Keeps (execPowerStateP2 c s) s := by
  unfold execPowerStateP2
  simp only [↓kept_ite, ite_self, implies_true, ↓State.capPstate_kept, ↓State.startCap_kept, keeps_core]

theorem execPowerStateP3_kept (c : CapRef) (s : State) :
    Keeps (execPowerStateP3 c s) s := by
  unfold execPowerStateP3
  simp only [↓kept_ite, ite_self, implies_true, ↓State.failCap_kept, ↓State.okCap_kept, ↓State.requestP_kept, ↓State.startCap_kept, keeps_core]

/-! ### RegCaps.lean -/

theorem State.capRegRead_kept (s : State) (c : CapRef) (bs : List Byte) :
    (State.capRegRead s c bs).kept = s.kept := by
  unfold State.capRegRead
  simp only [↓kept_ite, ite_self, ↓State.failCap_kept, ↓State.okCap_kept, ↓State.regRead_kept]

theorem execRegRead_kept (c : CapRef) (s : State) :
    Keeps (execRegRead c s) s := by
  unfold execRegRead
  simp only [↓kept_ite, ite_self, implies_true, ↓State.capRegRead_kept, ↓State.startCap_kept, keeps_core]

theorem State.fetchBuffer_kept (s : State) (c : CapRef) (bs : List Byte) :
    (State.fetchBuffer s c bs).kept = s.kept := by
  unfold State.fetchBuffer
  simp only [↓State.newReq_kept, ↓State.setSegs_kept]

theorem execConfigStage_kept (c : CapRef) (s : State) :
    Keeps (execConfigStage c s) s := by
  unfold execConfigStage
  simp only [↓kept_ite, ite_self, implies_true, ↓State.failCap_kept, ↓State.fetchBuffer_kept, ↓State.okCap_kept, ↓State.startCap_kept, keeps_core]

theorem execConfigCommit_kept (c : CapRef) (s : State) :
    Keeps (execConfigCommit c s) s := by
  unfold execConfigCommit
  repeat' first
    | simp only [↓kept_ite, ↓State.commit_kept, ↓State.failCap_kept, ↓State.okCap_kept, ↓State.updSlot_kept, keeps_core]
    | refine ite_kept ?_ ?_
    | split
    | refine (State.startCap_kept _ _ _ _ ?_).trans ?_
    | intro _

theorem execConfigDiscard_kept (c : CapRef) (s : State) :
    Keeps (execConfigDiscard c s) s := by
  unfold execConfigDiscard
  simp only [↓kept_ite, ite_self, implies_true, ↓State.discard_kept, ↓State.okCap_kept, ↓State.startCap_kept, keeps_core]

theorem execFwStage_kept (c : CapRef) (s : State) :
    Keeps (execFwStage c s) s := by
  unfold execFwStage
  simp only [↓kept_ite, ite_self, implies_true, ↓State.failCap_kept, ↓State.fetchBuffer_kept, ↓State.okCap_kept, ↓State.startCap_kept, keeps_core]

theorem State.stagePage_kept (s : State) (page : Nat) (data : List Byte) :
    (State.stagePage s page data).kept = s.kept := by
  unfold State.stagePage
  simp only [kept_eta, ↓kept_mk, ↓State.cfErased_kept, ↓State.cfStore_kept, ↓State.countBy_kept]

theorem State.stageImage_kept (s : State) (c : CapRef) (off : Nat) (data : List Byte) :
    (State.stageImage s c off data).kept = s.kept := by
  unfold State.stageImage
  simp only [kept_eta, ↓kept_mk, ↓kept_ite, ↓foldl_kept, ite_self, implies_true, ↓State.cfErased_kept, ↓State.failCap_kept, ↓State.okCap_kept, ↓State.stagePage_kept]

theorem execFwActivate_kept (c : CapRef) (s : State) :
    Keeps (execFwActivate c s) s := by
  unfold execFwActivate
  repeat' first
    | simp only [↓kept_ite, ↓State.failCap_kept, ↓State.fwActivate_kept, ↓State.handAll_kept, ↓State.okCap_kept, keeps_core]
    | refine ite_kept ?_ ?_
    | split
    | refine (State.startCap_kept _ _ _ _ ?_).trans ?_
    | intro _

end Sys2Proof.Machine
end

