-- ==== Sys2Proof/Laws/KeptFuse.lean ====
section
/-! SUPPORT. Sys2Proof/Laws/KeptFuse.lean: the operations that program a one-time value, and those that may reach one. The
kept part only advances: the queue and the clock stay, the rollback floor does not fall, a root key or a debug key once
present stays (R473, R508, R550). -/

namespace Sys2Proof.Machine

/-- The kept part has advanced: the queue and the clock as before, and no fuse undone. -/
def Kept.le (a b : Kept) : Prop :=
  b.pending = a.pending ∧ b.now = a.now ∧ a.floor ≤ b.floor ∧ (a.root.isSome = true → b.root = a.root) ∧
    (a.key.isSome = true → b.key = a.key)

theorem Kept.le_of_eq {a b : Kept} (h : b = a) : a.le b := by
  subst h
  exact ⟨rfl, rfl, Nat.le_refl _, fun _ => rfl, fun _ => rfl⟩

theorem Kept.le_refl (a : Kept) : a.le a := Kept.le_of_eq rfl

theorem Kept.le_trans {a b c : Kept} (h : a.le b) (g : b.le c) : a.le c := by
  obtain ⟨h1, h2, h3, h4, h5⟩ := h
  obtain ⟨g1, g2, g3, g4, g5⟩ := g
  refine ⟨g1.trans h1, g2.trans h2, Nat.le_trans h3 g3, fun k => ?_, fun k => ?_⟩
  · rw [g4 (by rw [h4 k]; exact k), h4 k]
  · rw [g5 (by rw [h5 k]; exact k), h5 k]

/-- What follows an advance keeps the rest. -/
theorem Kept.le_eq {a b c : Kept} (h : a.le b) (g : c = b) : a.le c := g ▸ h

theorem foldl_le {α : Type} (g : State → α → State) (l : List α) (s : State) (h : ∀ (s : State) (a : α), s.kept.le (g s a).kept) :
    s.kept.le (l.foldl g s).kept := by
  induction l generalizing s with
  | nil => exact Kept.le_refl _
  | cons a l ih => exact Kept.le_trans (h s a) (ih (g s a))

/-- If an outcome is a next state, its kept part has advanced from that of s. -/
def Advances (o : Host.Outcome State Fault Refusal) (s : State) : Prop := ∀ t, o = .next t → s.kept.le t.kept

theorem Keeps.advances {o : Host.Outcome State Fault Refusal} {s : State} (h : Keeps o s) : Advances o s :=
  fun t e => Kept.le_of_eq (h t e)

theorem advances_next {s t : State} (h : s.kept.le t.kept) : Advances (.next t) s := fun u e => by cases e; exact h

theorem advances_core {s t : State} (h : s.kept.le t.kept) : Advances (s.core t) s := by
  refine advances_next ?_
  split
  · exact h
  · exact Kept.le_refl _

/-- A debug key is programmed once (R550). -/
theorem State.dbgProvision_le (s : State) (p : Path) : s.kept.le (s.dbgProvision p).kept := by
  unfold State.dbgProvision
  split
  · exact Kept.le_refl _
  · split
    · exact Kept.le_of_eq (State.dbgResult_kept _ _)
    · next h =>
      refine Kept.le_eq ?_ (State.dbgResult_kept _ _)
      rw [kept_mk]
      exact ⟨rfl, rfl, Nat.le_refl _, fun _ => rfl, fun k => absurd k h⟩

theorem execDbgProvision_le (p : Path) (s : State) : Advances (execDbgProvision p s) s :=
  advances_next (State.dbgProvision_le s p)

/-- The root key is programmed once (R473). -/
theorem State.sealApply_le (s : State) (j : SealJob) : s.kept.le (s.sealApply j).kept := by
  unfold State.sealApply
  extract_lets s1 s2 s3 s4 s5 s0 s6 s7 s8
  have h1 : s1.kept = s.kept := by
    simp only [s1]
    split
    · exact State.setSealBytes_kept _ _
    · rfl
  have h2 : s2.kept = s1.kept := by
    simp only [s2]
    split
    · simp only [↓foldl_kept, ↓State.setReg_kept, implies_true]
    · rfl
  have h3 : s3.kept = s2.kept := by
    simp only [s3]
    split
    · exact State.setReg_kept _ _ _
    · rfl
  have h4 : s4.kept = s3.kept := by
    simp only [s4]
    split
    · simp only [↓kept_ite, ↓kept_mk, kept_eta, ↓State.loadSlot_kept, ite_self]
    · rfl
  have h5 : s5.kept = s4.kept := by
    simp only [s5]
    split
    · simp only [↓kept_ite, ↓State.clearSlot_kept, ite_self]
    · rfl
  have h6 : s5.kept.le s6.kept := by
    simp only [s6]
    split
    · split
      · exact Kept.le_refl _
      · next h =>
        refine Kept.le_eq ?_ (State.record_kept _ _ _ _ _ _)
        rw [kept_mk]
        exact ⟨rfl, rfl, Nat.le_refl _, fun k => absurd k h, fun _ => rfl⟩
    · exact Kept.le_refl _
  have h7 : s7.kept = s6.kept := by
    simp only [s7, ↓kept_ite, ↓State.count_kept, ite_self]
  have h8 : s8.kept = s7.kept := by
    simp only [s8, ↓kept_ite, ↓State.record_kept, ite_self]
  have h9 : s5.kept = s.kept := h5.trans (h4.trans (h3.trans (h2.trans h1)))
  simp only [↓kept_ite, ↓State.record_kept, ite_self]
  exact Kept.le_eq (h9 ▸ h6) (h8.trans h7)

theorem execSealOpDone_le (s : State) : Advances (execSealOpDone s) s := by
  refine advances_core ?_
  split
  · next j _ =>
    refine Kept.le_eq (State.sealApply_le s j) ?_
    simp only [↓kept_mk, kept_eta, ↓State.count_kept, ↓State.put_kept]
  · exact Kept.le_refl _

/-- The rollback floor only rises (R508). -/
theorem execImageConfirmTimer_le (s : State) : Advances (execImageConfirmTimer s) s := by
  have up (u : State) (n : Nat) : u.kept.le ({ u with boot := { u.boot with floor := max u.boot.floor n } } : State).kept := by
    rw [kept_mk]
    exact ⟨rfl, rfl, Nat.le_max_left _ _, fun _ => rfl, fun _ => rfl⟩
  refine advances_core ?_
  split
  · refine Kept.le_trans (Kept.le_of_eq ?_) (up _ _)
    simp only [↓State.record_kept, ↓State.put_kept, ↓State.programSelect_kept]
  · exact Kept.le_refl _

/-! ### Register writes, which may reach DBG_CMD -/

theorem State.actLow_le (s : State) (p : Path) (a : Nat) (v : BitVec 32) : s.kept.le (s.actLow p a v).1.kept := by
  by_cases hd : a = Reg.DBG_CMD
  · unfold State.actLow
    extract_lets n r
    rw [if_neg (fun h => absurd (hd.symm.trans h) (by decide)),
      if_neg (fun h => absurd (hd.symm.trans h) (by decide)),
      if_neg (fun h => absurd (hd.symm.trans h) (by decide)),
      if_neg (fun h => absurd (hd.symm.trans h) (by decide)),
      if_neg (fun h => absurd (hd.symm.trans h) (by decide)),
      if_neg (fun h => absurd (hd.symm.trans h) (by decide)),
      if_neg (fun h => absurd (hd.symm.trans h) (by decide)),
      if_neg (fun h => absurd (hd.symm.trans h) (by decide)),
      if_neg (fun h => absurd (hd.symm.trans h) (by decide)), if_pos hd]
    split
    · exact Kept.le_of_eq (State.dbgUnlock_kept _ _)
    · split
      · exact Kept.le_of_eq (State.dbgClear_kept _ _)
      · split
        · exact State.dbgProvision_le _ _
        · exact Kept.le_refl _
  · refine Kept.le_of_eq ?_
    unfold State.actLow
    simp only [hd, if_false]
    repeat' first
      | simp only [kept_eta, ↓kept_mk, ↓kept_ite, ↓kept_ite1, ite_self, ↓State.rstCtl_kept, ↓State.glbCmt_kept, ↓State.pwsCmd_kept, ↓State.govOp_kept,
          ↓State.identityGo_kept, ↓State.ambFlush_kept, ↓State.ambFind_kept, ↓State.cfCmd_kept, ↓State.sealClaim_kept, ↓State.sealGiveUp_kept, ↓State.sealOp_kept]
      | refine ite_kept ?_ ?_
      | split

theorem State.writeNow_le (s : State) (p : Path) (d : RegDef) (a : Nat) (v : BitVec 32) : s.kept.le (s.writeNow p d a v).1.kept := by
  unfold State.writeNow
  split
  · exact Kept.le_of_eq (State.put_kept _ _ _)
  · split
    · exact Kept.le_refl _
    · extract_lets t r
      have ht : t.kept = s.kept := by simp only [t, ↓kept_ite, ↓State.setReg_kept, ite_self]
      have hr : s.kept.le r.1.kept := by
        simp only [r]
        split
        · exact ht ▸ State.actLow_le t p a v
        · exact Kept.le_of_eq ((State.actHigh_kept t a v).trans ht)
      split
      · exact Kept.le_eq hr (State.alertAfter_kept _ _ _)
      · exact hr

theorem State.regWrite_le (s : State) (p : Path) (a : Nat) (v : BitVec 32) : s.kept.le (s.regWrite p a v).1.kept := by
  unfold State.regWrite
  split
  · exact Kept.le_refl _
  · repeat' first
      | exact Kept.le_refl _
      | exact Kept.le_of_eq (State.noteForeign_kept _)
      | exact Kept.le_of_eq (State.put_kept _ _ _)
      | exact Kept.le_of_eq (State.writeShadowed_kept _ _ _ _ _)
      | exact State.writeNow_le _ _ _ _ _
      | split

theorem execRegisterWrite_le (path : Path) (addr : BitVec 24) (value : BitVec 32) (s : State) :
    Advances (execRegisterWrite path addr value s) s := advances_next (State.regWrite_le s _ _ _)

/-! ### Two-wire writes -/

theorem State.wireWord_le (s : State) (a : Nat) (v : BitVec 32) : s.kept.le (s.wireWord a v).kept := by
  unfold State.wireWord
  split
  · exact Kept.le_of_eq (State.put_kept _ _ _)
  · split
    · exact Kept.le_refl _
    · exact State.regWrite_le _ _ _ _

theorem State.wireApply_le (s : State) (ptr : BitVec 16) (data : List Byte) : s.kept.le (s.wireApply ptr data).kept := by
  unfold State.wireApply
  simp only [↓kept_mk, kept_eta]
  refine Kept.le_trans (Kept.le_of_eq ?_) (foldl_le _ _ _ (fun s e => State.wireWord_le s _ _))
  simp only [↓State.count_kept, ↓kept_ite, ↓State.put_kept, ite_self]

theorem State.wireWrite_le (s : State) (ptr : BitVec 16) (data : List Byte) (pec : Option Byte) :
    s.kept.le (s.wireWrite ptr data pec).kept := by
  have go (bs : List Byte) : s.kept.le (if bs.isEmpty then { s.emit (.twoWire [] true) with mbus := { (s.emit (.twoWire [] true)).mbus with pointer := ptr } }
      else (s.emit (.twoWire [] true)).wireApply ptr bs : State).kept := by
    split
    · exact Kept.le_of_eq (by simp only [↓kept_mk, kept_eta, ↓State.emit_kept])
    · exact Kept.le_trans (Kept.le_of_eq (State.emit_kept _ _)) (State.wireApply_le _ _ _)
  unfold State.wireWrite
  split
  · dsimp only
    split
    · split
      · exact go _
      · exact Kept.le_of_eq (State.pecBad_kept _)
    · exact Kept.le_of_eq (State.pecBad_kept _)
  · exact go _

theorem execTwoWireWrite_le (ptr : BitVec 16) (data : List Byte) (pec : Option Byte) (s : State) :
    Advances (execTwoWireWrite ptr data pec s) s := advances_next (State.wireWrite_le _ _ _ _)

theorem execSetPointer_le (ptr : BitVec 16) (pec : Option Byte) (s : State) : Advances (execSetPointer ptr pec s) s :=
  advances_next (State.wireWrite_le _ _ _ _)

/-! ### Register writes by capsules -/

theorem State.capRegWrite_le (s : State) (c : CapRef) (bs : List Byte) : s.kept.le (s.capRegWrite c bs).kept := by
  unfold State.capRegWrite
  extract_lets a r
  split
  · exact Kept.le_of_eq (State.failCap_kept _ _ _ _ _ _)
  · have hr : s.kept.le r.1.kept := State.regWrite_le _ _ _ _
    split
    · exact Kept.le_eq hr (State.okCap_kept _ _ _)
    all_goals exact Kept.le_eq hr (State.failCap_kept _ _ _ _ _ _)

theorem State.startCap_le (s : State) (c : CapRef) (row : CapRow) (go : Qp → List Byte → State → State)
    (h : ∀ (q : Qp) (bs : List Byte) (s : State), s.kept.le (go q bs s).kept) : s.kept.le (s.startCap c row go).kept := by
  unfold State.startCap
  repeat' first
    | exact Kept.le_refl _
    | exact h _ _ _
    | exact Kept.le_of_eq (State.failCap_kept _ _ _ _ _ _)
    | (refine Kept.le_eq ?_ (State.settle_kept _))
    | (refine Kept.le_eq ?_ (State.finishCaps_kept _))
    | split

theorem execRegWrite_le (c : CapRef) (s : State) : Advances (execRegWrite c s) s :=
  advances_core (State.startCap_le _ _ _ _ (fun _ _ _ => State.capRegWrite_le _ _ _))

theorem State.stageOne_le (s : State) (p : Path) (e : Nat × BitVec 32) : s.kept.le (s.stageOne p e).1.kept := by
  unfold State.stageOne
  split
  · split
    · exact State.writeNow_le _ _ _ _ _
    · exact Kept.le_of_eq (State.writeShadowed_kept _ _ _ _ _)
  · exact Kept.le_refl _

theorem State.stageBuffer_le (s : State) (c : CapRef) (data : List Byte) : s.kept.le (s.stageBuffer c data).kept := by
  have go (p : Path) (l : List (Nat × BitVec 32)) (x : State × Bool) : x.1.kept.le
      (l.foldl (fun (x : State × Bool) e => ((x.1.stageOne p e).1, x.2 && (x.1.stageOne p e).2 == .ok)) x).1.kept := by
    induction l generalizing x with
    | nil => exact Kept.le_refl _
    | cons e l ih => exact Kept.le_trans (State.stageOne_le x.1 p e) (ih _)
  unfold State.stageBuffer
  extract_lets p es r
  split
  · exact Kept.le_eq (go p es (s, true)) (State.okCap_kept _ _ _)
  · exact Kept.le_of_eq (State.failCap_kept _ _ _ _ _ _)

theorem State.bufferArrived_le (s : State) (c : CapRef) (seg : Nat) (data : List Byte) : s.kept.le (s.bufferArrived c seg data).kept := by
  unfold State.bufferArrived
  repeat' first
    | exact Kept.le_refl _
    | exact Kept.le_of_eq (State.segTxn_kept _ _ _ _ _ _ _ _)
    | exact State.stageBuffer_le _ _ _
    | exact Kept.le_of_eq (State.stageImage_kept _ _ _ _)
    | split

theorem State.readAnswered_le (s : State) (n : Nat) (kind : ReqKind) (data : List Byte) : s.kept.le (s.readAnswered n kind data).kept := by
  unfold State.readAnswered
  split
  · exact Kept.le_of_eq (State.bind_kept _ _ _)
  · exact Kept.le_of_eq (State.fetched_kept _ _ _ _ _ _)
  · exact State.bufferArrived_le _ _ _ _
  · exact Kept.le_refl _

theorem State.readResponse_le (s : State) (n : Nat) (q : Qp) (p : Pkt) (pos : Pos) (data : List Byte) :
    s.kept.le (s.readResponse n q p pos data).kept := by
  unfold State.readResponse
  split
  · extract_lets i due place got s1
    split
    · split
      · exact Kept.le_of_eq (by simp only [s1, ↓State.updQp_kept, ↓State.setReqs_kept])
      · refine Kept.le_eq (Kept.le_trans (Kept.le_of_eq ?_) (State.readAnswered_le (s.setReqs n _) n _ got)) (Eq.trans (State.settle_kept _) (State.pumpReqs_kept _ _))
        exact State.setReqs_kept _ _ _
    · exact Kept.le_refl _
  · exact Kept.le_refl _

theorem execRdmaReadResponse_le (p : Pkt) (pos : Pos) (data : List Byte) (s : State) : Advances (execRdmaReadResponse p pos data s) s := by
  unfold execRdmaReadResponse State.reqSide
  extract_lets a b
  have ha : a.1.kept = s.kept := State.linkIn_kept _ _
  have hb : b.1.kept = s.kept := (State.headerIn_kept _ _).trans ha
  split
  · exact advances_next (Kept.le_of_eq ha)
  · split
    · exact advances_next (Kept.le_of_eq hb)
    · split
      · refine advances_next ?_
        split
        · exact hb ▸ State.readResponse_le _ _ _ _ _ _
        · exact Kept.le_of_eq hb
      · exact advances_next (Kept.le_of_eq hb)

end Sys2Proof.Machine
end

