-- ==== Sys2Proof/Laws/Maps.lean ====
section
/-! SUPPORT. Sys2Proof/Laws/Maps.lean: the laws of the sparse maps and of the byte memories: a read after a write, and the
canonical form, which every operation keeps. -/

namespace Sys2Proof.Machine

section Maps
variable {α : Type} [DecidableEq α] (d : Nat → α)

/-- A key below every listed key reads as unlisted. -/
theorem sget_below (m : List (Nat × α)) (b k : Nat) (h : swfFrom d b m = true) (hk : k < b) : sget d m k = d k := by
  induction m generalizing b with
  | nil => rfl
  | cons e m ih =>
    obtain ⟨k', v⟩ := e
    simp only [swfFrom, Bool.and_eq_true, decide_eq_true_eq] at h
    have hne : k ≠ k' := by omega
    simp only [sget, hne, if_false]
    exact ih (k' + 1) h.2 (by omega)

/-- An unlisted key of what is left reads as unlisted. -/
theorem sget_kdel_same (m : List (Nat × α)) (k : Nat) : sget d (kdel m k) k = d k := by
  induction m with
  | nil => rfl
  | cons e m ih =>
    obtain ⟨k', v'⟩ := e
    by_cases heq : k' = k
    · simp only [kdel, List.filter, heq, bne_self_eq_false]; exact ih
    · have hb : (k' != k) = true := by simpa using heq
      have hne : ¬ k = k' := fun h => heq h.symm
      simp only [kdel, List.filter, hb, sget, hne, if_false]; exact ih

/-- Another key reads as before. -/
theorem sget_kdel_other (m : List (Nat × α)) (k j : Nat) (hj : j ≠ k) : sget d (kdel m k) j = sget d m j := by
  induction m with
  | nil => rfl
  | cons e m ih =>
    obtain ⟨k', v'⟩ := e
    by_cases heq : k' = k
    · subst heq
      have : sget d ((k', v') :: m) j = sget d m j := by simp [sget, hj]
      rw [this, ← ih]
      simp [kdel, List.filter]
    · have hb : (k' != k) = true := by simpa using heq
      have hd : kdel ((k', v') :: m) k = (k', v') :: kdel m k := by simp [kdel, List.filter, hb]
      rw [hd]
      simp only [sget, ih]

/-- The entry put in is the one read. -/
theorem sget_kput_same (m : List (Nat × α)) (k : Nat) (v : α) : sget d (kput m k v) k = v := by
  induction m with
  | nil => simp [kput, sget]
  | cons e m ih =>
    obtain ⟨k', v'⟩ := e
    unfold kput
    by_cases hlt : k < k'
    · simp [hlt, sget]
    · by_cases heq : k = k'
      · simp [heq, sget]
      · simp [hlt, heq, sget, ih]

/-- Every other key reads as before. -/
theorem sget_kput_other (m : List (Nat × α)) (k j : Nat) (v : α) (hj : j ≠ k) : sget d (kput m k v) j = sget d m j := by
  induction m with
  | nil => simp [kput, sget, hj]
  | cons e m ih =>
    obtain ⟨k', v'⟩ := e
    unfold kput
    by_cases hlt : k < k'
    · simp [hlt, sget, hj]
    · by_cases heq : k = k'
      · subst heq; simp [sget, hj]
      · simp only [hlt, heq, if_false, sget, ih]

/-- The key that was set reads as the value set. -/
@[simp] theorem sget_sput_same (m : List (Nat × α)) (k : Nat) (v : α) : sget d (sput d m k v) k = v := by
  unfold sput
  split
  · next h => rw [sget_kdel_same, h]
  · exact sget_kput_same d m k v

/-- Every other key reads as before. -/
theorem sget_sput_other (m : List (Nat × α)) (k j : Nat) (v : α) (hj : j ≠ k) : sget d (sput d m k v) j = sget d m j := by
  unfold sput
  split
  · exact sget_kdel_other d m k j hj
  · exact sget_kput_other d m k j v hj

/-- A lower bound may take the place of a higher one. -/
theorem swfFrom_mono (m : List (Nat × α)) (b b' : Nat) (h : swfFrom d b m = true) (hb : b' ≤ b) : swfFrom d b' m = true := by
  cases m with
  | nil => rfl
  | cons e m =>
    obtain ⟨k, v⟩ := e
    simp only [swfFrom, Bool.and_eq_true, decide_eq_true_eq] at h ⊢
    exact ⟨⟨by omega, h.1.2⟩, h.2⟩

/-- Entries taken out keep the canonical form. -/
theorem swfFrom_filter (m : List (Nat × α)) (b : Nat) (p : Nat × α → Bool) (h : swfFrom d b m = true) :
    swfFrom d b (m.filter p) = true := by
  induction m generalizing b with
  | nil => rfl
  | cons e m ih =>
    obtain ⟨k, v⟩ := e
    simp only [swfFrom, Bool.and_eq_true, decide_eq_true_eq] at h
    by_cases hp : p (k, v) = true
    · simp only [List.filter, hp, swfFrom, Bool.and_eq_true, decide_eq_true_eq]
      exact ⟨h.1, ih (k + 1) h.2⟩
    · simp only [List.filter, hp]
      exact swfFrom_mono d _ (k + 1) b (ih (k + 1) h.2) (by omega)

/-- Entries taken out keep the canonical form. -/
theorem swf_filter (m : List (Nat × α)) (p : Nat × α → Bool) (h : swf d m = true) : swf d (m.filter p) = true :=
  swfFrom_filter d m 0 p h

/-- An entry that differs from the unlisted value keeps the canonical form from a bound. -/
theorem swfFrom_kput (m : List (Nat × α)) (b k : Nat) (v : α) (h : swfFrom d b m = true) (hb : b ≤ k) (hv : v ≠ d k) :
    swfFrom d b (kput m k v) = true := by
  induction m generalizing b with
  | nil => simp [kput, swfFrom, hv, hb]
  | cons e m ih =>
    obtain ⟨k', v'⟩ := e
    simp only [swfFrom, Bool.and_eq_true, decide_eq_true_eq] at h
    obtain ⟨⟨h1, h2⟩, h3⟩ := h
    unfold kput
    by_cases hlt : k < k'
    · simp only [hlt, if_true, swfFrom, Bool.and_eq_true, decide_eq_true_eq]
      exact ⟨⟨hb, hv⟩, ⟨by omega, h2⟩, h3⟩
    · by_cases heq : k = k'
      · subst heq
        simp [hv, swfFrom, hb, h3]
      · simp only [hlt, heq, if_false, swfFrom, Bool.and_eq_true, decide_eq_true_eq]
        exact ⟨⟨h1, h2⟩, ih (k' + 1) h3 (by omega)⟩

/-- Setting a key keeps the canonical form. -/
theorem swf_sput (m : List (Nat × α)) (k : Nat) (v : α) (h : swf d m = true) : swf d (sput d m k v) = true := by
  unfold sput
  split
  · exact swf_filter d m _ h
  · next hv => exact swfFrom_kput d m 0 k v h (Nat.zero_le k) hv

/-- Two canonical maps that read alike are the same map. -/
theorem swfFrom_ext (m m' : List (Nat × α)) (b : Nat) (h : swfFrom d b m = true) (h' : swfFrom d b m' = true)
    (heq : ∀ k, sget d m k = sget d m' k) : m = m' := by
  induction m generalizing m' b with
  | nil =>
    cases m' with
    | nil => rfl
    | cons e m' =>
      obtain ⟨k, v⟩ := e
      simp only [swfFrom, Bool.and_eq_true, decide_eq_true_eq] at h'
      have := heq k
      simp only [sget, if_true] at this
      exact absurd this.symm h'.1.2
  | cons e m ih =>
    obtain ⟨k, v⟩ := e
    have hc := h
    simp only [swfFrom, Bool.and_eq_true, decide_eq_true_eq] at h
    cases m' with
    | nil =>
      have := heq k
      simp only [sget, if_true] at this
      exact absurd this h.1.2
    | cons e' m' =>
      obtain ⟨k', v'⟩ := e'
      have hc' := h'
      simp only [swfFrom, Bool.and_eq_true, decide_eq_true_eq] at h'
      have hk : k = k' := by
        rcases Nat.lt_trichotomy k k' with hlt | heq' | hgt
        · exfalso
          have hk := heq k
          have hn : k ≠ k' := by omega
          simp only [sget, if_true, hn, if_false] at hk
          rw [sget_below d m' (k' + 1) k h'.2 (by omega)] at hk
          exact h.1.2 hk
        · exact heq'
        · exfalso
          have hk := heq k'
          have hn : k' ≠ k := by omega
          simp only [sget, if_true, hn, if_false] at hk
          rw [sget_below d m (k + 1) k' h.2 (by omega)] at hk
          exact h'.1.2 hk.symm
      subst hk
      have hv : v = v' := by
        have := heq k
        simpa [sget] using this
      subst hv
      have hm : m = m' := by
        apply ih m' (k + 1) h.2 h'.2
        intro j
        by_cases hj : j = k
        · subst hj
          rw [sget_below d m (j + 1) j h.2 (by omega), sget_below d m' (j + 1) j h'.2 (by omega)]
        · have := heq j
          simpa [sget, hj] using this
      rw [hm]

end Maps

/-! ### Keyed tables -/

section Tables
variable {α : Type}

/-- The entry set is the entry found. -/
@[simp] theorem kget_kput_same (m : List (Nat × α)) (k : Nat) (v : α) : kget (kput m k v) k = some v := by
  induction m with
  | nil => simp [kput, kget]
  | cons e m ih =>
    obtain ⟨k', v'⟩ := e
    unfold kput
    by_cases hlt : k < k'
    · simp [hlt, kget]
    · by_cases heq : k = k'
      · simp [heq, kget]
      · simp [hlt, heq, kget, ih]

/-- Every other entry stays. -/
theorem kget_kput_other (m : List (Nat × α)) (k j : Nat) (v : α) (hj : j ≠ k) : kget (kput m k v) j = kget m j := by
  induction m with
  | nil => simp [kput, kget, hj]
  | cons e m ih =>
    obtain ⟨k', v'⟩ := e
    unfold kput
    by_cases hlt : k < k'
    · simp [hlt, kget, hj]
    · by_cases heq : k = k'
      · subst heq; simp [kget, hj]
      · simp only [hlt, heq, if_false, kget, ih]

/-- An entry taken out is not found. -/
@[simp] theorem kget_kdel_same (m : List (Nat × α)) (k : Nat) : kget (kdel m k) k = none := by
  induction m with
  | nil => rfl
  | cons e m ih =>
    obtain ⟨k', v'⟩ := e
    by_cases heq : k' = k
    · simp only [kdel, List.filter, heq, bne_self_eq_false]; exact ih
    · have hb : (k' != k) = true := by simpa using heq
      have hne : ¬ k = k' := fun h => heq h.symm
      simp only [kdel, List.filter, hb, kget, hne, if_false]; exact ih

/-- Every other entry stays when one is taken out. -/
theorem kget_kdel_other (m : List (Nat × α)) (k j : Nat) (hj : j ≠ k) : kget (kdel m k) j = kget m j := by
  induction m with
  | nil => rfl
  | cons e m ih =>
    obtain ⟨k', v'⟩ := e
    by_cases heq : k' = k
    · subst heq
      have : kget ((k', v') :: m) j = kget m j := by simp [kget, hj]
      rw [this, ← ih]
      simp [kdel, List.filter]
    · have hb : (k' != k) = true := by simpa using heq
      have hd : kdel ((k', v') :: m) k = (k', v') :: kdel m k := by simp [kdel, List.filter, hb]
      rw [hd]
      simp only [kget, ih]

/-- An entry changed in place. -/
theorem kget_kupd (m : List (Nat × α)) (k j : Nat) (f : α → α) :
    kget (kupd m k f) j = if j = k then (kget m j).map f else kget m j := by
  induction m with
  | nil => by_cases h : j = k <;> simp [kupd, kget, h]
  | cons e m ih =>
    obtain ⟨k', v'⟩ := e
    have ih' : kget (m.map (fun e => if e.1 = k then (e.1, f e.2) else e)) j = if j = k then (kget m j).map f else kget m j := ih
    by_cases hk : k' = k
    · subst hk
      by_cases hj : j = k'
      · subst hj; simp [kupd, kget]
      · simp only [kupd, List.map, if_true, kget, hj, if_false]; simpa [hj] using ih'
    · by_cases hj : j = k'
      · subst hj; simp [kupd, kget, hk]
      · simp only [kupd, List.map, hk, if_false, kget, hj]; exact ih'

end Tables

/-! ### Byte memories -/

/-- A byte stored is the byte read (a read after a write to the same place). -/
theorem memByte_write_first (d : Byte) (m : List Host.Cell) (a : Nat) (b : Byte) :
    memByte d (memWrite d m a [b]) a = b := sget_sput_same _ m a b

/-- Stores keep the canonical form. -/
theorem Memory.wf_memWrite (d : Byte) (bs : List Byte) (m : List Host.Cell) (a : Nat) (h : Memory.wf d m = true) :
    Memory.wf d (memWrite d m a bs) = true := by
  induction bs generalizing m a with
  | nil => exact h
  | cons b bs ih => exact ih _ _ (swf_sput _ m a b h)

/-- Clearing a span keeps the canonical form. -/
theorem Memory.wf_memClear (d : Byte) (m : List Host.Cell) (a n : Nat) (h : Memory.wf d m = true) :
    Memory.wf d (memClear m a n) = true := swf_filter _ m _ h

/-- Bytes outside the span stored to read as before. -/
theorem memByte_memWrite_other (d : Byte) (bs : List Byte) (m : List Host.Cell) (a j : Nat) (h : j < a ∨ a + bs.length ≤ j) :
    memByte d (memWrite d m a bs) j = memByte d m j := by
  induction bs generalizing m a with
  | nil => rfl
  | cons b bs ih =>
    simp only [List.length_cons] at h
    unfold memWrite
    rw [ih _ _ (by omega)]
    exact sget_sput_other _ m a j b (by omega)

/-- The bytes stored are the bytes read. -/
theorem memByte_memWrite_same (d : Byte) (bs : List Byte) (m : List Host.Cell) (a i : Nat) (hi : i < bs.length) :
    memByte d (memWrite d m a bs) (a + i) = bs[i] := by
  induction bs generalizing m a i with
  | nil => simp at hi
  | cons b bs ih =>
    unfold memWrite
    cases i with
    | zero =>
      have := memByte_memWrite_other d bs (sput (fun _ => d) m a b) (a + 1) a (by omega)
      simp only [Nat.add_zero, this]
      exact sget_sput_same _ m a b
    | succ i =>
      simp only [List.length_cons] at hi
      have := ih (sput (fun _ => d) m a b) (a + 1) i (by omega)
      rw [show a + (i + 1) = a + 1 + i by omega, this]
      simp

end Sys2Proof.Machine
end

