-- ==== Sys2Proof/Laws/Registers.lean ====
section
/-! SUPPORT. Sys2Proof/Laws/Registers.lean: reads of registers and of their fields after the operations that set them. -/

namespace Sys2Proof.Machine

@[simp] theorem State.reg_setReg_same (s : State) (a : Nat) (v : BitVec 32) : (s.setReg a v).reg a = v :=
  sget_sput_same regReset s.regs a v

theorem State.reg_setReg_other (s : State) (a b : Nat) (v : BitVec 32) (h : b ≠ a) : (s.setReg a v).reg b = s.reg b :=
  sget_sput_other regReset s.regs a b v h

/-- A bit of a word whose field is replaced. -/
theorem getLsbD_withField (f : Field) (w : BitVec 32) (v i : Nat) (h : i < 32) :
    (withField f w v).getLsbD i = if f.lo ≤ i ∧ i < f.lo + f.width then v.testBit (i - f.lo) else w.getLsbD i := by
  unfold withField
  simp only [BitVec.getLsbD_or, BitVec.getLsbD_and, BitVec.getLsbD_not, BitVec.getLsbD_ofNat, h, decide_true, Bool.true_and,
    Nat.testBit_shiftLeft, Nat.testBit_mod_two_pow, Nat.testBit_two_pow_sub_one]
  by_cases h1 : f.lo ≤ i
  · by_cases h2 : i < f.lo + f.width
    · have h3 : i - f.lo < f.width := by omega
      simp [h1, h2, h3]
    · have h3 : ¬ i - f.lo < f.width := by omega
      simp [h1, h2, h3]
  · simp [h1]

/-- A bit of a field's value. -/
theorem testBit_fieldOf (f : Field) (w : BitVec 32) (i : Nat) : (fieldOf f w).testBit i = (decide (i < f.width) && w.getLsbD (f.lo + i)) := by
  unfold fieldOf
  rw [Nat.testBit_mod_two_pow, Nat.testBit_shiftRight]
  rfl

/-- The field that was replaced reads as the value, cut to the field. -/
theorem fieldOf_withField_same (f : Field) (w : BitVec 32) (v : Nat) (h : f.lo + f.width ≤ 32) :
    fieldOf f (withField f w v) = v % 2 ^ f.width := by
  apply Nat.eq_of_testBit_eq
  intro i
  rw [testBit_fieldOf, Nat.testBit_mod_two_pow]
  by_cases hi : i < f.width
  · rw [getLsbD_withField _ _ _ _ (by omega)]
    have h1 : f.lo ≤ f.lo + i ∧ f.lo + i < f.lo + f.width := ⟨by omega, by omega⟩
    rw [if_pos h1, Nat.add_sub_cancel_left]
  · simp [hi]

/-- A field that shares no bit with the one replaced reads as before. -/
theorem fieldOf_withField_other (f g : Field) (w : BitVec 32) (v : Nat) (hg : g.lo + g.width ≤ 32)
    (h : g.lo + g.width ≤ f.lo ∨ f.lo + f.width ≤ g.lo) : fieldOf g (withField f w v) = fieldOf g w := by
  apply Nat.eq_of_testBit_eq
  intro i
  rw [testBit_fieldOf, testBit_fieldOf]
  by_cases hi : i < g.width
  · rw [getLsbD_withField _ _ _ _ (by omega), if_neg (by omega)]
  · simp [hi]

@[simp] theorem State.reg_put_same (s : State) (f : Field) (v : Nat) : (s.put f v).reg f.addr = withField f (s.reg f.addr) v :=
  State.reg_setReg_same _ _ _

theorem State.reg_put_other (s : State) (f : Field) (v a : Nat) (h : a ≠ f.addr) : (s.put f v).reg a = s.reg a :=
  State.reg_setReg_other _ _ _ _ h

/-- The field that was set reads as the value, cut to the field. -/
theorem State.get_put_same (s : State) (f : Field) (v : Nat) (h : f.lo + f.width ≤ 32) : (s.put f v).get f = v % 2 ^ f.width := by
  unfold State.get
  rw [State.reg_put_same, fieldOf_withField_same _ _ _ h]

/-- A field of another register reads as before. -/
theorem State.get_put_reg (s : State) (f g : Field) (v : Nat) (h : g.addr ≠ f.addr) : (s.put f v).get g = s.get g := by
  unfold State.get
  rw [State.reg_put_other _ _ _ _ h]

/-- Another field of the same register reads as before. -/
theorem State.get_put_field (s : State) (f g : Field) (v : Nat) (ha : g.addr = f.addr) (hg : g.lo + g.width ≤ 32)
    (h : g.lo + g.width ≤ f.lo ∨ f.lo + f.width ≤ g.lo) : (s.put f v).get g = s.get g := by
  unfold State.get
  rw [ha, State.reg_put_same, fieldOf_withField_other _ _ _ _ hg h]

/-- A field of a register other than the one set reads as before. -/
theorem State.get_setReg_other (s : State) (a : Nat) (v : BitVec 32) (g : Field) (h : g.addr ≠ a) : (s.setReg a v).get g = s.get g := by
  unfold State.get
  rw [State.reg_setReg_other _ _ _ _ h]

/-- A counter after it counted. -/
@[simp] theorem State.reg_countBy_same (s : State) (a n : Nat) :
    (s.countBy a n).reg a = BitVec.ofNat 32 (min ((s.reg a).toNat + n) 0xFFFFFFFF) := State.reg_setReg_same _ _ _

theorem State.reg_countBy_other (s : State) (a n b : Nat) (h : b ≠ a) : (s.countBy a n).reg b = s.reg b :=
  State.reg_setReg_other _ _ _ _ h

theorem State.get_countBy_other (s : State) (a n : Nat) (g : Field) (h : g.addr ≠ a) : (s.countBy a n).get g = s.get g :=
  State.get_setReg_other _ _ _ _ h

theorem State.get_count_other (s : State) (a : Nat) (g : Field) (h : g.addr ≠ a) : (s.count a).get g = s.get g :=
  State.get_setReg_other _ _ _ _ h

theorem State.reg_count_other (s : State) (a b : Nat) (h : b ≠ a) : (s.count a).reg b = s.reg b :=
  State.reg_setReg_other _ _ _ _ h

theorem State.reg_of_regs {s t : State} (h : t.regs = s.regs) (a : Nat) : t.reg a = s.reg a := by
  unfold State.reg
  rw [h]

/-! ### Events (R616): what recording one may change -/

/-- The registers that recording an event may write: its EVT register, AMB_EVT for a loss noted later, and the two counters
of records that found no place. -/
def recordRegs (e : Event) (c : Nat) : List Nat :=
  ((e.evtBit c).map (·.1)).toList ++ [Reg.AMB_EVT, Reg.AMB_OVERFLOW, Reg.AMB_LOST]

theorem State.reg_setEvt (s : State) (e : Event) (c b : Nat) (h : b ∉ ((e.evtBit c).map (·.1)).toList) :
    (s.setEvt e c).reg b = s.reg b := by
  unfold State.setEvt
  generalize e.evtBit c = x at h
  cases x with
  | none => rfl
  | some ab =>
    obtain ⟨a, n⟩ := ab
    have hb : b ≠ a := fun hb => h (by rw [hb]; exact List.mem_singleton_self _)
    exact (State.reg_of_regs (s := s.setRegBit a n true) rfl b).trans (State.reg_put_other s ⟨a, n, 1⟩ _ b hb)

theorem State.ambFlush_regs (s : State) : s.ambFlush.regs = s.regs := by
  unfold State.ambFlush
  split
  · split <;> rfl
  · rfl

theorem State.ambStage_regs (s : State) (code : BitVec 16) (unit : BitVec 8) (payload : List Byte) (urgent : Bool) :
    (s.ambStage code unit payload urgent).regs = s.regs := by
  have go (x : State) : (if 96 ≤ x.amb.staging.length then x.ambFlush else x).regs = x.regs := by
    split
    · exact State.ambFlush_regs x
    · rfl
  exact go _

theorem State.reg_ambLostDue (s : State) (b : Nat) (h : b ≠ Reg.AMB_EVT) : s.ambLostDue.reg b = s.reg b := by
  unfold State.ambLostDue
  split
  · refine (State.reg_of_regs (State.ambStage_regs _ _ _ _ _) b).trans (State.reg_setEvt _ _ _ _ ?_)
    simpa [Event.evtBit] using h
  · rfl

/-- Recording an event leaves every register but those of recordRegs. -/
theorem State.reg_record (s : State) (e : Event) (u : Nat) (pl : List Byte) (c : Nat) (lim : Option (Nat × Nat)) (b : Nat)
    (h : b ∉ recordRegs e c) : (s.record e u pl c lim).reg b = s.reg b := by
  simp only [recordRegs, List.mem_append, List.mem_cons, List.not_mem_nil, or_false, not_or] at h
  obtain ⟨h0, h1, h2, h3⟩ := h
  have e0 : (s.setEvt e c).reg b = s.reg b := State.reg_setEvt s e c b h0
  unfold State.record
  extract_lets s1 key held s2 s3 a0 a1 s4
  have g1 : s1.reg b = s.reg b := e0
  have g2 : s2.reg b = s.reg b := (State.reg_ambLostDue _ _ h1).trans g1
  have g4 : s4.reg b = s2.reg b := by
    simp only [s4]
    split <;> rfl
  split
  · exact g1
  · split
    · exact (State.reg_setReg_other _ _ _ _ h2).trans g1
    · split
      · exact (State.reg_of_regs (s := s3) rfl b).trans ((State.reg_count_other _ _ _ h3).trans g2)
      · exact (State.reg_of_regs (State.ambStage_regs _ _ _ _ _) b).trans (g4.trans g2)

/-- A field of another register reads as before an event was recorded. -/
theorem State.get_record (s : State) (e : Event) (u : Nat) (pl : List Byte) (c : Nat) (lim : Option (Nat × Nat)) (g : Field)
    (h : g.addr ∉ recordRegs e c) : (s.record e u pl c lim).get g = s.get g := by
  unfold State.get
  rw [State.reg_record _ _ _ _ _ _ _ h]

end Sys2Proof.Machine
end

