-- ==== Sys2Proof/Laws/State.lean ====
section
/-! SUPPORT. Sys2Proof/Laws/State.lean: what each named update of the state leaves as it was, one lemma for each field, and the
same for recording an event and for sending a frame or a signal. -/

namespace Sys2Proof.Machine

/-! ### setReg -/

@[simp] theorem State.setReg_pending (s : State) (a : Nat) (v : BitVec 32) : (s.setReg a v).pending = s.pending := rfl
@[simp] theorem State.setReg_now (s : State) (a : Nat) (v : BitVec 32) : (s.setReg a v).now = s.now := rfl
@[simp] theorem State.setReg_free (s : State) (a : Nat) (v : BitVec 32) : (s.setReg a v).free = s.free := rfl
@[simp] theorem State.setReg_out (s : State) (a : Nat) (v : BitVec 32) : (s.setReg a v).out = s.out := rfl
@[simp] theorem State.setReg_amb (s : State) (a : Nat) (v : BitVec 32) : (s.setReg a v).amb = s.amb := rfl
@[simp] theorem State.setReg_dbg (s : State) (a : Nat) (v : BitVec 32) : (s.setReg a v).dbg = s.dbg := rfl
@[simp] theorem State.setReg_cfg (s : State) (a : Nat) (v : BitVec 32) : (s.setReg a v).cfg = s.cfg := rfl
@[simp] theorem State.setReg_prot (s : State) (a : Nat) (v : BitVec 32) : (s.setReg a v).prot = s.prot := rfl
@[simp] theorem State.setReg_net (s : State) (a : Nat) (v : BitVec 32) : (s.setReg a v).net = s.net := rfl
@[simp] theorem State.setReg_cqi (s : State) (a : Nat) (v : BitVec 32) : (s.setReg a v).cqi = s.cqi := rfl
@[simp] theorem State.setReg_tier (s : State) (a : Nat) (v : BitVec 32) : (s.setReg a v).tier = s.tier := rfl
@[simp] theorem State.setReg_flash (s : State) (a : Nat) (v : BitVec 32) : (s.setReg a v).flash = s.flash := rfl
@[simp] theorem State.setReg_twin (s : State) (a : Nat) (v : BitVec 32) : (s.setReg a v).twin = s.twin := rfl
@[simp] theorem State.setReg_dram (s : State) (a : Nat) (v : BitVec 32) : (s.setReg a v).dram = s.dram := rfl
@[simp] theorem State.setReg_col (s : State) (a : Nat) (v : BitVec 32) : (s.setReg a v).col = s.col := rfl
@[simp] theorem State.setReg_pw (s : State) (a : Nat) (v : BitVec 32) : (s.setReg a v).pw = s.pw := rfl
@[simp] theorem State.setReg_gov (s : State) (a : Nat) (v : BitVec 32) : (s.setReg a v).gov = s.gov := rfl
@[simp] theorem State.setReg_sealing (s : State) (a : Nat) (v : BitVec 32) : (s.setReg a v).sealing = s.sealing := rfl
@[simp] theorem State.setReg_boot (s : State) (a : Nat) (v : BitVec 32) : (s.setReg a v).boot = s.boot := rfl
@[simp] theorem State.setReg_mbus (s : State) (a : Nat) (v : BitVec 32) : (s.setReg a v).mbus = s.mbus := rfl

/-! ### put -/

@[simp] theorem State.put_pending (s : State) (f : Field) (v : Nat) : (s.put f v).pending = s.pending := rfl
@[simp] theorem State.put_now (s : State) (f : Field) (v : Nat) : (s.put f v).now = s.now := rfl
@[simp] theorem State.put_free (s : State) (f : Field) (v : Nat) : (s.put f v).free = s.free := rfl
@[simp] theorem State.put_out (s : State) (f : Field) (v : Nat) : (s.put f v).out = s.out := rfl
@[simp] theorem State.put_amb (s : State) (f : Field) (v : Nat) : (s.put f v).amb = s.amb := rfl
@[simp] theorem State.put_dbg (s : State) (f : Field) (v : Nat) : (s.put f v).dbg = s.dbg := rfl
@[simp] theorem State.put_cfg (s : State) (f : Field) (v : Nat) : (s.put f v).cfg = s.cfg := rfl
@[simp] theorem State.put_prot (s : State) (f : Field) (v : Nat) : (s.put f v).prot = s.prot := rfl
@[simp] theorem State.put_net (s : State) (f : Field) (v : Nat) : (s.put f v).net = s.net := rfl
@[simp] theorem State.put_cqi (s : State) (f : Field) (v : Nat) : (s.put f v).cqi = s.cqi := rfl
@[simp] theorem State.put_tier (s : State) (f : Field) (v : Nat) : (s.put f v).tier = s.tier := rfl
@[simp] theorem State.put_flash (s : State) (f : Field) (v : Nat) : (s.put f v).flash = s.flash := rfl
@[simp] theorem State.put_twin (s : State) (f : Field) (v : Nat) : (s.put f v).twin = s.twin := rfl
@[simp] theorem State.put_dram (s : State) (f : Field) (v : Nat) : (s.put f v).dram = s.dram := rfl
@[simp] theorem State.put_col (s : State) (f : Field) (v : Nat) : (s.put f v).col = s.col := rfl
@[simp] theorem State.put_pw (s : State) (f : Field) (v : Nat) : (s.put f v).pw = s.pw := rfl
@[simp] theorem State.put_gov (s : State) (f : Field) (v : Nat) : (s.put f v).gov = s.gov := rfl
@[simp] theorem State.put_sealing (s : State) (f : Field) (v : Nat) : (s.put f v).sealing = s.sealing := rfl
@[simp] theorem State.put_boot (s : State) (f : Field) (v : Nat) : (s.put f v).boot = s.boot := rfl
@[simp] theorem State.put_mbus (s : State) (f : Field) (v : Nat) : (s.put f v).mbus = s.mbus := rfl

/-! ### putB -/

@[simp] theorem State.putB_pending (s : State) (f : Field) (b : Bool) : (s.putB f b).pending = s.pending := rfl
@[simp] theorem State.putB_now (s : State) (f : Field) (b : Bool) : (s.putB f b).now = s.now := rfl
@[simp] theorem State.putB_free (s : State) (f : Field) (b : Bool) : (s.putB f b).free = s.free := rfl
@[simp] theorem State.putB_out (s : State) (f : Field) (b : Bool) : (s.putB f b).out = s.out := rfl
@[simp] theorem State.putB_amb (s : State) (f : Field) (b : Bool) : (s.putB f b).amb = s.amb := rfl
@[simp] theorem State.putB_dbg (s : State) (f : Field) (b : Bool) : (s.putB f b).dbg = s.dbg := rfl
@[simp] theorem State.putB_cfg (s : State) (f : Field) (b : Bool) : (s.putB f b).cfg = s.cfg := rfl
@[simp] theorem State.putB_prot (s : State) (f : Field) (b : Bool) : (s.putB f b).prot = s.prot := rfl
@[simp] theorem State.putB_net (s : State) (f : Field) (b : Bool) : (s.putB f b).net = s.net := rfl
@[simp] theorem State.putB_cqi (s : State) (f : Field) (b : Bool) : (s.putB f b).cqi = s.cqi := rfl
@[simp] theorem State.putB_tier (s : State) (f : Field) (b : Bool) : (s.putB f b).tier = s.tier := rfl
@[simp] theorem State.putB_flash (s : State) (f : Field) (b : Bool) : (s.putB f b).flash = s.flash := rfl
@[simp] theorem State.putB_twin (s : State) (f : Field) (b : Bool) : (s.putB f b).twin = s.twin := rfl
@[simp] theorem State.putB_dram (s : State) (f : Field) (b : Bool) : (s.putB f b).dram = s.dram := rfl
@[simp] theorem State.putB_col (s : State) (f : Field) (b : Bool) : (s.putB f b).col = s.col := rfl
@[simp] theorem State.putB_pw (s : State) (f : Field) (b : Bool) : (s.putB f b).pw = s.pw := rfl
@[simp] theorem State.putB_gov (s : State) (f : Field) (b : Bool) : (s.putB f b).gov = s.gov := rfl
@[simp] theorem State.putB_sealing (s : State) (f : Field) (b : Bool) : (s.putB f b).sealing = s.sealing := rfl
@[simp] theorem State.putB_boot (s : State) (f : Field) (b : Bool) : (s.putB f b).boot = s.boot := rfl
@[simp] theorem State.putB_mbus (s : State) (f : Field) (b : Bool) : (s.putB f b).mbus = s.mbus := rfl

/-! ### countBy -/

@[simp] theorem State.countBy_pending (s : State) (a n : Nat) : (s.countBy a n).pending = s.pending := rfl
@[simp] theorem State.countBy_now (s : State) (a n : Nat) : (s.countBy a n).now = s.now := rfl
@[simp] theorem State.countBy_free (s : State) (a n : Nat) : (s.countBy a n).free = s.free := rfl
@[simp] theorem State.countBy_out (s : State) (a n : Nat) : (s.countBy a n).out = s.out := rfl
@[simp] theorem State.countBy_amb (s : State) (a n : Nat) : (s.countBy a n).amb = s.amb := rfl
@[simp] theorem State.countBy_dbg (s : State) (a n : Nat) : (s.countBy a n).dbg = s.dbg := rfl
@[simp] theorem State.countBy_cfg (s : State) (a n : Nat) : (s.countBy a n).cfg = s.cfg := rfl
@[simp] theorem State.countBy_prot (s : State) (a n : Nat) : (s.countBy a n).prot = s.prot := rfl
@[simp] theorem State.countBy_net (s : State) (a n : Nat) : (s.countBy a n).net = s.net := rfl
@[simp] theorem State.countBy_cqi (s : State) (a n : Nat) : (s.countBy a n).cqi = s.cqi := rfl
@[simp] theorem State.countBy_tier (s : State) (a n : Nat) : (s.countBy a n).tier = s.tier := rfl
@[simp] theorem State.countBy_flash (s : State) (a n : Nat) : (s.countBy a n).flash = s.flash := rfl
@[simp] theorem State.countBy_twin (s : State) (a n : Nat) : (s.countBy a n).twin = s.twin := rfl
@[simp] theorem State.countBy_dram (s : State) (a n : Nat) : (s.countBy a n).dram = s.dram := rfl
@[simp] theorem State.countBy_col (s : State) (a n : Nat) : (s.countBy a n).col = s.col := rfl
@[simp] theorem State.countBy_pw (s : State) (a n : Nat) : (s.countBy a n).pw = s.pw := rfl
@[simp] theorem State.countBy_gov (s : State) (a n : Nat) : (s.countBy a n).gov = s.gov := rfl
@[simp] theorem State.countBy_sealing (s : State) (a n : Nat) : (s.countBy a n).sealing = s.sealing := rfl
@[simp] theorem State.countBy_boot (s : State) (a n : Nat) : (s.countBy a n).boot = s.boot := rfl
@[simp] theorem State.countBy_mbus (s : State) (a n : Nat) : (s.countBy a n).mbus = s.mbus := rfl

/-! ### count -/

@[simp] theorem State.count_pending (s : State) (a : Nat) : (s.count a).pending = s.pending := rfl
@[simp] theorem State.count_now (s : State) (a : Nat) : (s.count a).now = s.now := rfl
@[simp] theorem State.count_free (s : State) (a : Nat) : (s.count a).free = s.free := rfl
@[simp] theorem State.count_out (s : State) (a : Nat) : (s.count a).out = s.out := rfl
@[simp] theorem State.count_amb (s : State) (a : Nat) : (s.count a).amb = s.amb := rfl
@[simp] theorem State.count_dbg (s : State) (a : Nat) : (s.count a).dbg = s.dbg := rfl
@[simp] theorem State.count_cfg (s : State) (a : Nat) : (s.count a).cfg = s.cfg := rfl
@[simp] theorem State.count_prot (s : State) (a : Nat) : (s.count a).prot = s.prot := rfl
@[simp] theorem State.count_net (s : State) (a : Nat) : (s.count a).net = s.net := rfl
@[simp] theorem State.count_cqi (s : State) (a : Nat) : (s.count a).cqi = s.cqi := rfl
@[simp] theorem State.count_tier (s : State) (a : Nat) : (s.count a).tier = s.tier := rfl
@[simp] theorem State.count_flash (s : State) (a : Nat) : (s.count a).flash = s.flash := rfl
@[simp] theorem State.count_twin (s : State) (a : Nat) : (s.count a).twin = s.twin := rfl
@[simp] theorem State.count_dram (s : State) (a : Nat) : (s.count a).dram = s.dram := rfl
@[simp] theorem State.count_col (s : State) (a : Nat) : (s.count a).col = s.col := rfl
@[simp] theorem State.count_pw (s : State) (a : Nat) : (s.count a).pw = s.pw := rfl
@[simp] theorem State.count_gov (s : State) (a : Nat) : (s.count a).gov = s.gov := rfl
@[simp] theorem State.count_sealing (s : State) (a : Nat) : (s.count a).sealing = s.sealing := rfl
@[simp] theorem State.count_boot (s : State) (a : Nat) : (s.count a).boot = s.boot := rfl
@[simp] theorem State.count_mbus (s : State) (a : Nat) : (s.count a).mbus = s.mbus := rfl

/-! ### countMax -/

@[simp] theorem State.countMax_pending (s : State) (a n : Nat) : (s.countMax a n).pending = s.pending := rfl
@[simp] theorem State.countMax_now (s : State) (a n : Nat) : (s.countMax a n).now = s.now := rfl
@[simp] theorem State.countMax_free (s : State) (a n : Nat) : (s.countMax a n).free = s.free := rfl
@[simp] theorem State.countMax_out (s : State) (a n : Nat) : (s.countMax a n).out = s.out := rfl
@[simp] theorem State.countMax_amb (s : State) (a n : Nat) : (s.countMax a n).amb = s.amb := rfl
@[simp] theorem State.countMax_dbg (s : State) (a n : Nat) : (s.countMax a n).dbg = s.dbg := rfl
@[simp] theorem State.countMax_cfg (s : State) (a n : Nat) : (s.countMax a n).cfg = s.cfg := rfl
@[simp] theorem State.countMax_prot (s : State) (a n : Nat) : (s.countMax a n).prot = s.prot := rfl
@[simp] theorem State.countMax_net (s : State) (a n : Nat) : (s.countMax a n).net = s.net := rfl
@[simp] theorem State.countMax_cqi (s : State) (a n : Nat) : (s.countMax a n).cqi = s.cqi := rfl
@[simp] theorem State.countMax_tier (s : State) (a n : Nat) : (s.countMax a n).tier = s.tier := rfl
@[simp] theorem State.countMax_flash (s : State) (a n : Nat) : (s.countMax a n).flash = s.flash := rfl
@[simp] theorem State.countMax_twin (s : State) (a n : Nat) : (s.countMax a n).twin = s.twin := rfl
@[simp] theorem State.countMax_dram (s : State) (a n : Nat) : (s.countMax a n).dram = s.dram := rfl
@[simp] theorem State.countMax_col (s : State) (a n : Nat) : (s.countMax a n).col = s.col := rfl
@[simp] theorem State.countMax_pw (s : State) (a n : Nat) : (s.countMax a n).pw = s.pw := rfl
@[simp] theorem State.countMax_gov (s : State) (a n : Nat) : (s.countMax a n).gov = s.gov := rfl
@[simp] theorem State.countMax_sealing (s : State) (a n : Nat) : (s.countMax a n).sealing = s.sealing := rfl
@[simp] theorem State.countMax_boot (s : State) (a n : Nat) : (s.countMax a n).boot = s.boot := rfl
@[simp] theorem State.countMax_mbus (s : State) (a n : Nat) : (s.countMax a n).mbus = s.mbus := rfl

/-! ### setRegBit -/

@[simp] theorem State.setRegBit_pending (s : State) (a n : Nat) (b : Bool) : (s.setRegBit a n b).pending = s.pending := rfl
@[simp] theorem State.setRegBit_now (s : State) (a n : Nat) (b : Bool) : (s.setRegBit a n b).now = s.now := rfl
@[simp] theorem State.setRegBit_free (s : State) (a n : Nat) (b : Bool) : (s.setRegBit a n b).free = s.free := rfl
@[simp] theorem State.setRegBit_out (s : State) (a n : Nat) (b : Bool) : (s.setRegBit a n b).out = s.out := rfl
@[simp] theorem State.setRegBit_amb (s : State) (a n : Nat) (b : Bool) : (s.setRegBit a n b).amb = s.amb := rfl
@[simp] theorem State.setRegBit_dbg (s : State) (a n : Nat) (b : Bool) : (s.setRegBit a n b).dbg = s.dbg := rfl
@[simp] theorem State.setRegBit_cfg (s : State) (a n : Nat) (b : Bool) : (s.setRegBit a n b).cfg = s.cfg := rfl
@[simp] theorem State.setRegBit_prot (s : State) (a n : Nat) (b : Bool) : (s.setRegBit a n b).prot = s.prot := rfl
@[simp] theorem State.setRegBit_net (s : State) (a n : Nat) (b : Bool) : (s.setRegBit a n b).net = s.net := rfl
@[simp] theorem State.setRegBit_cqi (s : State) (a n : Nat) (b : Bool) : (s.setRegBit a n b).cqi = s.cqi := rfl
@[simp] theorem State.setRegBit_tier (s : State) (a n : Nat) (b : Bool) : (s.setRegBit a n b).tier = s.tier := rfl
@[simp] theorem State.setRegBit_flash (s : State) (a n : Nat) (b : Bool) : (s.setRegBit a n b).flash = s.flash := rfl
@[simp] theorem State.setRegBit_twin (s : State) (a n : Nat) (b : Bool) : (s.setRegBit a n b).twin = s.twin := rfl
@[simp] theorem State.setRegBit_dram (s : State) (a n : Nat) (b : Bool) : (s.setRegBit a n b).dram = s.dram := rfl
@[simp] theorem State.setRegBit_col (s : State) (a n : Nat) (b : Bool) : (s.setRegBit a n b).col = s.col := rfl
@[simp] theorem State.setRegBit_pw (s : State) (a n : Nat) (b : Bool) : (s.setRegBit a n b).pw = s.pw := rfl
@[simp] theorem State.setRegBit_gov (s : State) (a n : Nat) (b : Bool) : (s.setRegBit a n b).gov = s.gov := rfl
@[simp] theorem State.setRegBit_sealing (s : State) (a n : Nat) (b : Bool) : (s.setRegBit a n b).sealing = s.sealing := rfl
@[simp] theorem State.setRegBit_boot (s : State) (a n : Nat) (b : Bool) : (s.setRegBit a n b).boot = s.boot := rfl
@[simp] theorem State.setRegBit_mbus (s : State) (a n : Nat) (b : Bool) : (s.setRegBit a n b).mbus = s.mbus := rfl

/-! ### setReg64 -/

@[simp] theorem State.setReg64_pending (s : State) (lo hi v : Nat) : (s.setReg64 lo hi v).pending = s.pending := rfl
@[simp] theorem State.setReg64_now (s : State) (lo hi v : Nat) : (s.setReg64 lo hi v).now = s.now := rfl
@[simp] theorem State.setReg64_free (s : State) (lo hi v : Nat) : (s.setReg64 lo hi v).free = s.free := rfl
@[simp] theorem State.setReg64_out (s : State) (lo hi v : Nat) : (s.setReg64 lo hi v).out = s.out := rfl
@[simp] theorem State.setReg64_amb (s : State) (lo hi v : Nat) : (s.setReg64 lo hi v).amb = s.amb := rfl
@[simp] theorem State.setReg64_dbg (s : State) (lo hi v : Nat) : (s.setReg64 lo hi v).dbg = s.dbg := rfl
@[simp] theorem State.setReg64_cfg (s : State) (lo hi v : Nat) : (s.setReg64 lo hi v).cfg = s.cfg := rfl
@[simp] theorem State.setReg64_prot (s : State) (lo hi v : Nat) : (s.setReg64 lo hi v).prot = s.prot := rfl
@[simp] theorem State.setReg64_net (s : State) (lo hi v : Nat) : (s.setReg64 lo hi v).net = s.net := rfl
@[simp] theorem State.setReg64_cqi (s : State) (lo hi v : Nat) : (s.setReg64 lo hi v).cqi = s.cqi := rfl
@[simp] theorem State.setReg64_tier (s : State) (lo hi v : Nat) : (s.setReg64 lo hi v).tier = s.tier := rfl
@[simp] theorem State.setReg64_flash (s : State) (lo hi v : Nat) : (s.setReg64 lo hi v).flash = s.flash := rfl
@[simp] theorem State.setReg64_twin (s : State) (lo hi v : Nat) : (s.setReg64 lo hi v).twin = s.twin := rfl
@[simp] theorem State.setReg64_dram (s : State) (lo hi v : Nat) : (s.setReg64 lo hi v).dram = s.dram := rfl
@[simp] theorem State.setReg64_col (s : State) (lo hi v : Nat) : (s.setReg64 lo hi v).col = s.col := rfl
@[simp] theorem State.setReg64_pw (s : State) (lo hi v : Nat) : (s.setReg64 lo hi v).pw = s.pw := rfl
@[simp] theorem State.setReg64_gov (s : State) (lo hi v : Nat) : (s.setReg64 lo hi v).gov = s.gov := rfl
@[simp] theorem State.setReg64_sealing (s : State) (lo hi v : Nat) : (s.setReg64 lo hi v).sealing = s.sealing := rfl
@[simp] theorem State.setReg64_boot (s : State) (lo hi v : Nat) : (s.setReg64 lo hi v).boot = s.boot := rfl
@[simp] theorem State.setReg64_mbus (s : State) (lo hi v : Nat) : (s.setReg64 lo hi v).mbus = s.mbus := rfl

/-! ### updPort -/

@[simp] theorem State.updPort_pending (s : State) (p : Nat) (f : Port → Port) : (s.updPort p f).pending = s.pending := rfl
@[simp] theorem State.updPort_now (s : State) (p : Nat) (f : Port → Port) : (s.updPort p f).now = s.now := rfl
@[simp] theorem State.updPort_free (s : State) (p : Nat) (f : Port → Port) : (s.updPort p f).free = s.free := rfl
@[simp] theorem State.updPort_regs (s : State) (p : Nat) (f : Port → Port) : (s.updPort p f).regs = s.regs := rfl
@[simp] theorem State.updPort_out (s : State) (p : Nat) (f : Port → Port) : (s.updPort p f).out = s.out := rfl
@[simp] theorem State.updPort_amb (s : State) (p : Nat) (f : Port → Port) : (s.updPort p f).amb = s.amb := rfl
@[simp] theorem State.updPort_dbg (s : State) (p : Nat) (f : Port → Port) : (s.updPort p f).dbg = s.dbg := rfl
@[simp] theorem State.updPort_cfg (s : State) (p : Nat) (f : Port → Port) : (s.updPort p f).cfg = s.cfg := rfl
@[simp] theorem State.updPort_prot (s : State) (p : Nat) (f : Port → Port) : (s.updPort p f).prot = s.prot := rfl
@[simp] theorem State.updPort_cqi (s : State) (p : Nat) (f : Port → Port) : (s.updPort p f).cqi = s.cqi := rfl
@[simp] theorem State.updPort_tier (s : State) (p : Nat) (f : Port → Port) : (s.updPort p f).tier = s.tier := rfl
@[simp] theorem State.updPort_flash (s : State) (p : Nat) (f : Port → Port) : (s.updPort p f).flash = s.flash := rfl
@[simp] theorem State.updPort_twin (s : State) (p : Nat) (f : Port → Port) : (s.updPort p f).twin = s.twin := rfl
@[simp] theorem State.updPort_dram (s : State) (p : Nat) (f : Port → Port) : (s.updPort p f).dram = s.dram := rfl
@[simp] theorem State.updPort_col (s : State) (p : Nat) (f : Port → Port) : (s.updPort p f).col = s.col := rfl
@[simp] theorem State.updPort_pw (s : State) (p : Nat) (f : Port → Port) : (s.updPort p f).pw = s.pw := rfl
@[simp] theorem State.updPort_gov (s : State) (p : Nat) (f : Port → Port) : (s.updPort p f).gov = s.gov := rfl
@[simp] theorem State.updPort_sealing (s : State) (p : Nat) (f : Port → Port) : (s.updPort p f).sealing = s.sealing := rfl
@[simp] theorem State.updPort_boot (s : State) (p : Nat) (f : Port → Port) : (s.updPort p f).boot = s.boot := rfl
@[simp] theorem State.updPort_mbus (s : State) (p : Nat) (f : Port → Port) : (s.updPort p f).mbus = s.mbus := rfl

/-! ### setQp -/

@[simp] theorem State.setQp_pending (s : State) (n : Nat) (q : Qp) : (s.setQp n q).pending = s.pending := rfl
@[simp] theorem State.setQp_now (s : State) (n : Nat) (q : Qp) : (s.setQp n q).now = s.now := rfl
@[simp] theorem State.setQp_free (s : State) (n : Nat) (q : Qp) : (s.setQp n q).free = s.free := rfl
@[simp] theorem State.setQp_regs (s : State) (n : Nat) (q : Qp) : (s.setQp n q).regs = s.regs := rfl
@[simp] theorem State.setQp_out (s : State) (n : Nat) (q : Qp) : (s.setQp n q).out = s.out := rfl
@[simp] theorem State.setQp_amb (s : State) (n : Nat) (q : Qp) : (s.setQp n q).amb = s.amb := rfl
@[simp] theorem State.setQp_dbg (s : State) (n : Nat) (q : Qp) : (s.setQp n q).dbg = s.dbg := rfl
@[simp] theorem State.setQp_cfg (s : State) (n : Nat) (q : Qp) : (s.setQp n q).cfg = s.cfg := rfl
@[simp] theorem State.setQp_prot (s : State) (n : Nat) (q : Qp) : (s.setQp n q).prot = s.prot := rfl
@[simp] theorem State.setQp_cqi (s : State) (n : Nat) (q : Qp) : (s.setQp n q).cqi = s.cqi := rfl
@[simp] theorem State.setQp_tier (s : State) (n : Nat) (q : Qp) : (s.setQp n q).tier = s.tier := rfl
@[simp] theorem State.setQp_flash (s : State) (n : Nat) (q : Qp) : (s.setQp n q).flash = s.flash := rfl
@[simp] theorem State.setQp_twin (s : State) (n : Nat) (q : Qp) : (s.setQp n q).twin = s.twin := rfl
@[simp] theorem State.setQp_dram (s : State) (n : Nat) (q : Qp) : (s.setQp n q).dram = s.dram := rfl
@[simp] theorem State.setQp_col (s : State) (n : Nat) (q : Qp) : (s.setQp n q).col = s.col := rfl
@[simp] theorem State.setQp_pw (s : State) (n : Nat) (q : Qp) : (s.setQp n q).pw = s.pw := rfl
@[simp] theorem State.setQp_gov (s : State) (n : Nat) (q : Qp) : (s.setQp n q).gov = s.gov := rfl
@[simp] theorem State.setQp_sealing (s : State) (n : Nat) (q : Qp) : (s.setQp n q).sealing = s.sealing := rfl
@[simp] theorem State.setQp_boot (s : State) (n : Nat) (q : Qp) : (s.setQp n q).boot = s.boot := rfl
@[simp] theorem State.setQp_mbus (s : State) (n : Nat) (q : Qp) : (s.setQp n q).mbus = s.mbus := rfl

/-! ### updQp -/

@[simp] theorem State.updQp_pending (s : State) (n : Nat) (f : Qp → Qp) : (s.updQp n f).pending = s.pending := rfl
@[simp] theorem State.updQp_now (s : State) (n : Nat) (f : Qp → Qp) : (s.updQp n f).now = s.now := rfl
@[simp] theorem State.updQp_free (s : State) (n : Nat) (f : Qp → Qp) : (s.updQp n f).free = s.free := rfl
@[simp] theorem State.updQp_regs (s : State) (n : Nat) (f : Qp → Qp) : (s.updQp n f).regs = s.regs := rfl
@[simp] theorem State.updQp_out (s : State) (n : Nat) (f : Qp → Qp) : (s.updQp n f).out = s.out := rfl
@[simp] theorem State.updQp_amb (s : State) (n : Nat) (f : Qp → Qp) : (s.updQp n f).amb = s.amb := rfl
@[simp] theorem State.updQp_dbg (s : State) (n : Nat) (f : Qp → Qp) : (s.updQp n f).dbg = s.dbg := rfl
@[simp] theorem State.updQp_cfg (s : State) (n : Nat) (f : Qp → Qp) : (s.updQp n f).cfg = s.cfg := rfl
@[simp] theorem State.updQp_prot (s : State) (n : Nat) (f : Qp → Qp) : (s.updQp n f).prot = s.prot := rfl
@[simp] theorem State.updQp_cqi (s : State) (n : Nat) (f : Qp → Qp) : (s.updQp n f).cqi = s.cqi := rfl
@[simp] theorem State.updQp_tier (s : State) (n : Nat) (f : Qp → Qp) : (s.updQp n f).tier = s.tier := rfl
@[simp] theorem State.updQp_flash (s : State) (n : Nat) (f : Qp → Qp) : (s.updQp n f).flash = s.flash := rfl
@[simp] theorem State.updQp_twin (s : State) (n : Nat) (f : Qp → Qp) : (s.updQp n f).twin = s.twin := rfl
@[simp] theorem State.updQp_dram (s : State) (n : Nat) (f : Qp → Qp) : (s.updQp n f).dram = s.dram := rfl
@[simp] theorem State.updQp_col (s : State) (n : Nat) (f : Qp → Qp) : (s.updQp n f).col = s.col := rfl
@[simp] theorem State.updQp_pw (s : State) (n : Nat) (f : Qp → Qp) : (s.updQp n f).pw = s.pw := rfl
@[simp] theorem State.updQp_gov (s : State) (n : Nat) (f : Qp → Qp) : (s.updQp n f).gov = s.gov := rfl
@[simp] theorem State.updQp_sealing (s : State) (n : Nat) (f : Qp → Qp) : (s.updQp n f).sealing = s.sealing := rfl
@[simp] theorem State.updQp_boot (s : State) (n : Nat) (f : Qp → Qp) : (s.updQp n f).boot = s.boot := rfl
@[simp] theorem State.updQp_mbus (s : State) (n : Nat) (f : Qp → Qp) : (s.updQp n f).mbus = s.mbus := rfl

/-! ### updTxn -/

@[simp] theorem State.updTxn_pending (s : State) (id : Nat) (f : Txn → Txn) : (s.updTxn id f).pending = s.pending := rfl
@[simp] theorem State.updTxn_now (s : State) (id : Nat) (f : Txn → Txn) : (s.updTxn id f).now = s.now := rfl
@[simp] theorem State.updTxn_free (s : State) (id : Nat) (f : Txn → Txn) : (s.updTxn id f).free = s.free := rfl
@[simp] theorem State.updTxn_regs (s : State) (id : Nat) (f : Txn → Txn) : (s.updTxn id f).regs = s.regs := rfl
@[simp] theorem State.updTxn_out (s : State) (id : Nat) (f : Txn → Txn) : (s.updTxn id f).out = s.out := rfl
@[simp] theorem State.updTxn_amb (s : State) (id : Nat) (f : Txn → Txn) : (s.updTxn id f).amb = s.amb := rfl
@[simp] theorem State.updTxn_dbg (s : State) (id : Nat) (f : Txn → Txn) : (s.updTxn id f).dbg = s.dbg := rfl
@[simp] theorem State.updTxn_cfg (s : State) (id : Nat) (f : Txn → Txn) : (s.updTxn id f).cfg = s.cfg := rfl
@[simp] theorem State.updTxn_prot (s : State) (id : Nat) (f : Txn → Txn) : (s.updTxn id f).prot = s.prot := rfl
@[simp] theorem State.updTxn_cqi (s : State) (id : Nat) (f : Txn → Txn) : (s.updTxn id f).cqi = s.cqi := rfl
@[simp] theorem State.updTxn_tier (s : State) (id : Nat) (f : Txn → Txn) : (s.updTxn id f).tier = s.tier := rfl
@[simp] theorem State.updTxn_flash (s : State) (id : Nat) (f : Txn → Txn) : (s.updTxn id f).flash = s.flash := rfl
@[simp] theorem State.updTxn_twin (s : State) (id : Nat) (f : Txn → Txn) : (s.updTxn id f).twin = s.twin := rfl
@[simp] theorem State.updTxn_dram (s : State) (id : Nat) (f : Txn → Txn) : (s.updTxn id f).dram = s.dram := rfl
@[simp] theorem State.updTxn_col (s : State) (id : Nat) (f : Txn → Txn) : (s.updTxn id f).col = s.col := rfl
@[simp] theorem State.updTxn_pw (s : State) (id : Nat) (f : Txn → Txn) : (s.updTxn id f).pw = s.pw := rfl
@[simp] theorem State.updTxn_gov (s : State) (id : Nat) (f : Txn → Txn) : (s.updTxn id f).gov = s.gov := rfl
@[simp] theorem State.updTxn_sealing (s : State) (id : Nat) (f : Txn → Txn) : (s.updTxn id f).sealing = s.sealing := rfl
@[simp] theorem State.updTxn_boot (s : State) (id : Nat) (f : Txn → Txn) : (s.updTxn id f).boot = s.boot := rfl
@[simp] theorem State.updTxn_mbus (s : State) (id : Nat) (f : Txn → Txn) : (s.updTxn id f).mbus = s.mbus := rfl

/-! ### updQueue -/

@[simp] theorem State.updQueue_pending (s : State) (qpn q : Nat) (f : Queue → Queue) : (s.updQueue qpn q f).pending = s.pending := rfl
@[simp] theorem State.updQueue_now (s : State) (qpn q : Nat) (f : Queue → Queue) : (s.updQueue qpn q f).now = s.now := rfl
@[simp] theorem State.updQueue_free (s : State) (qpn q : Nat) (f : Queue → Queue) : (s.updQueue qpn q f).free = s.free := rfl
@[simp] theorem State.updQueue_regs (s : State) (qpn q : Nat) (f : Queue → Queue) : (s.updQueue qpn q f).regs = s.regs := rfl
@[simp] theorem State.updQueue_out (s : State) (qpn q : Nat) (f : Queue → Queue) : (s.updQueue qpn q f).out = s.out := rfl
@[simp] theorem State.updQueue_amb (s : State) (qpn q : Nat) (f : Queue → Queue) : (s.updQueue qpn q f).amb = s.amb := rfl
@[simp] theorem State.updQueue_dbg (s : State) (qpn q : Nat) (f : Queue → Queue) : (s.updQueue qpn q f).dbg = s.dbg := rfl
@[simp] theorem State.updQueue_cfg (s : State) (qpn q : Nat) (f : Queue → Queue) : (s.updQueue qpn q f).cfg = s.cfg := rfl
@[simp] theorem State.updQueue_prot (s : State) (qpn q : Nat) (f : Queue → Queue) : (s.updQueue qpn q f).prot = s.prot := rfl
@[simp] theorem State.updQueue_net (s : State) (qpn q : Nat) (f : Queue → Queue) : (s.updQueue qpn q f).net = s.net := rfl
@[simp] theorem State.updQueue_tier (s : State) (qpn q : Nat) (f : Queue → Queue) : (s.updQueue qpn q f).tier = s.tier := rfl
@[simp] theorem State.updQueue_flash (s : State) (qpn q : Nat) (f : Queue → Queue) : (s.updQueue qpn q f).flash = s.flash := rfl
@[simp] theorem State.updQueue_twin (s : State) (qpn q : Nat) (f : Queue → Queue) : (s.updQueue qpn q f).twin = s.twin := rfl
@[simp] theorem State.updQueue_dram (s : State) (qpn q : Nat) (f : Queue → Queue) : (s.updQueue qpn q f).dram = s.dram := rfl
@[simp] theorem State.updQueue_col (s : State) (qpn q : Nat) (f : Queue → Queue) : (s.updQueue qpn q f).col = s.col := rfl
@[simp] theorem State.updQueue_pw (s : State) (qpn q : Nat) (f : Queue → Queue) : (s.updQueue qpn q f).pw = s.pw := rfl
@[simp] theorem State.updQueue_gov (s : State) (qpn q : Nat) (f : Queue → Queue) : (s.updQueue qpn q f).gov = s.gov := rfl
@[simp] theorem State.updQueue_sealing (s : State) (qpn q : Nat) (f : Queue → Queue) : (s.updQueue qpn q f).sealing = s.sealing := rfl
@[simp] theorem State.updQueue_boot (s : State) (qpn q : Nat) (f : Queue → Queue) : (s.updQueue qpn q f).boot = s.boot := rfl
@[simp] theorem State.updQueue_mbus (s : State) (qpn q : Nat) (f : Queue → Queue) : (s.updQueue qpn q f).mbus = s.mbus := rfl

/-! ### updSlot -/

@[simp] theorem State.updSlot_pending (s : State) (c : CapRef) (f : Slot → Slot) : (s.updSlot c f).pending = s.pending := rfl
@[simp] theorem State.updSlot_now (s : State) (c : CapRef) (f : Slot → Slot) : (s.updSlot c f).now = s.now := rfl
@[simp] theorem State.updSlot_free (s : State) (c : CapRef) (f : Slot → Slot) : (s.updSlot c f).free = s.free := rfl
@[simp] theorem State.updSlot_regs (s : State) (c : CapRef) (f : Slot → Slot) : (s.updSlot c f).regs = s.regs := rfl
@[simp] theorem State.updSlot_out (s : State) (c : CapRef) (f : Slot → Slot) : (s.updSlot c f).out = s.out := rfl
@[simp] theorem State.updSlot_amb (s : State) (c : CapRef) (f : Slot → Slot) : (s.updSlot c f).amb = s.amb := rfl
@[simp] theorem State.updSlot_dbg (s : State) (c : CapRef) (f : Slot → Slot) : (s.updSlot c f).dbg = s.dbg := rfl
@[simp] theorem State.updSlot_cfg (s : State) (c : CapRef) (f : Slot → Slot) : (s.updSlot c f).cfg = s.cfg := rfl
@[simp] theorem State.updSlot_prot (s : State) (c : CapRef) (f : Slot → Slot) : (s.updSlot c f).prot = s.prot := rfl
@[simp] theorem State.updSlot_net (s : State) (c : CapRef) (f : Slot → Slot) : (s.updSlot c f).net = s.net := rfl
@[simp] theorem State.updSlot_tier (s : State) (c : CapRef) (f : Slot → Slot) : (s.updSlot c f).tier = s.tier := rfl
@[simp] theorem State.updSlot_flash (s : State) (c : CapRef) (f : Slot → Slot) : (s.updSlot c f).flash = s.flash := rfl
@[simp] theorem State.updSlot_twin (s : State) (c : CapRef) (f : Slot → Slot) : (s.updSlot c f).twin = s.twin := rfl
@[simp] theorem State.updSlot_dram (s : State) (c : CapRef) (f : Slot → Slot) : (s.updSlot c f).dram = s.dram := rfl
@[simp] theorem State.updSlot_col (s : State) (c : CapRef) (f : Slot → Slot) : (s.updSlot c f).col = s.col := rfl
@[simp] theorem State.updSlot_pw (s : State) (c : CapRef) (f : Slot → Slot) : (s.updSlot c f).pw = s.pw := rfl
@[simp] theorem State.updSlot_gov (s : State) (c : CapRef) (f : Slot → Slot) : (s.updSlot c f).gov = s.gov := rfl
@[simp] theorem State.updSlot_sealing (s : State) (c : CapRef) (f : Slot → Slot) : (s.updSlot c f).sealing = s.sealing := rfl
@[simp] theorem State.updSlot_boot (s : State) (c : CapRef) (f : Slot → Slot) : (s.updSlot c f).boot = s.boot := rfl
@[simp] theorem State.updSlot_mbus (s : State) (c : CapRef) (f : Slot → Slot) : (s.updSlot c f).mbus = s.mbus := rfl

/-! ### updHome -/

@[simp] theorem State.updHome_pending (s : State) (h : Nat) (f : HomeSt → HomeSt) : (s.updHome h f).pending = s.pending := rfl
@[simp] theorem State.updHome_now (s : State) (h : Nat) (f : HomeSt → HomeSt) : (s.updHome h f).now = s.now := rfl
@[simp] theorem State.updHome_free (s : State) (h : Nat) (f : HomeSt → HomeSt) : (s.updHome h f).free = s.free := rfl
@[simp] theorem State.updHome_regs (s : State) (h : Nat) (f : HomeSt → HomeSt) : (s.updHome h f).regs = s.regs := rfl
@[simp] theorem State.updHome_out (s : State) (h : Nat) (f : HomeSt → HomeSt) : (s.updHome h f).out = s.out := rfl
@[simp] theorem State.updHome_amb (s : State) (h : Nat) (f : HomeSt → HomeSt) : (s.updHome h f).amb = s.amb := rfl
@[simp] theorem State.updHome_dbg (s : State) (h : Nat) (f : HomeSt → HomeSt) : (s.updHome h f).dbg = s.dbg := rfl
@[simp] theorem State.updHome_cfg (s : State) (h : Nat) (f : HomeSt → HomeSt) : (s.updHome h f).cfg = s.cfg := rfl
@[simp] theorem State.updHome_prot (s : State) (h : Nat) (f : HomeSt → HomeSt) : (s.updHome h f).prot = s.prot := rfl
@[simp] theorem State.updHome_net (s : State) (h : Nat) (f : HomeSt → HomeSt) : (s.updHome h f).net = s.net := rfl
@[simp] theorem State.updHome_cqi (s : State) (h : Nat) (f : HomeSt → HomeSt) : (s.updHome h f).cqi = s.cqi := rfl
@[simp] theorem State.updHome_tier (s : State) (h : Nat) (f : HomeSt → HomeSt) : (s.updHome h f).tier = s.tier := rfl
@[simp] theorem State.updHome_flash (s : State) (h : Nat) (f : HomeSt → HomeSt) : (s.updHome h f).flash = s.flash := rfl
@[simp] theorem State.updHome_dram (s : State) (h : Nat) (f : HomeSt → HomeSt) : (s.updHome h f).dram = s.dram := rfl
@[simp] theorem State.updHome_col (s : State) (h : Nat) (f : HomeSt → HomeSt) : (s.updHome h f).col = s.col := rfl
@[simp] theorem State.updHome_pw (s : State) (h : Nat) (f : HomeSt → HomeSt) : (s.updHome h f).pw = s.pw := rfl
@[simp] theorem State.updHome_gov (s : State) (h : Nat) (f : HomeSt → HomeSt) : (s.updHome h f).gov = s.gov := rfl
@[simp] theorem State.updHome_sealing (s : State) (h : Nat) (f : HomeSt → HomeSt) : (s.updHome h f).sealing = s.sealing := rfl
@[simp] theorem State.updHome_boot (s : State) (h : Nat) (f : HomeSt → HomeSt) : (s.updHome h f).boot = s.boot := rfl
@[simp] theorem State.updHome_mbus (s : State) (h : Nat) (f : HomeSt → HomeSt) : (s.updHome h f).mbus = s.mbus := rfl

/-! ### updRegion -/

@[simp] theorem State.updRegion_pending (s : State) (b : Nat) (f : Region → Region) : (s.updRegion b f).pending = s.pending := rfl
@[simp] theorem State.updRegion_now (s : State) (b : Nat) (f : Region → Region) : (s.updRegion b f).now = s.now := rfl
@[simp] theorem State.updRegion_free (s : State) (b : Nat) (f : Region → Region) : (s.updRegion b f).free = s.free := rfl
@[simp] theorem State.updRegion_regs (s : State) (b : Nat) (f : Region → Region) : (s.updRegion b f).regs = s.regs := rfl
@[simp] theorem State.updRegion_out (s : State) (b : Nat) (f : Region → Region) : (s.updRegion b f).out = s.out := rfl
@[simp] theorem State.updRegion_amb (s : State) (b : Nat) (f : Region → Region) : (s.updRegion b f).amb = s.amb := rfl
@[simp] theorem State.updRegion_dbg (s : State) (b : Nat) (f : Region → Region) : (s.updRegion b f).dbg = s.dbg := rfl
@[simp] theorem State.updRegion_cfg (s : State) (b : Nat) (f : Region → Region) : (s.updRegion b f).cfg = s.cfg := rfl
@[simp] theorem State.updRegion_net (s : State) (b : Nat) (f : Region → Region) : (s.updRegion b f).net = s.net := rfl
@[simp] theorem State.updRegion_cqi (s : State) (b : Nat) (f : Region → Region) : (s.updRegion b f).cqi = s.cqi := rfl
@[simp] theorem State.updRegion_tier (s : State) (b : Nat) (f : Region → Region) : (s.updRegion b f).tier = s.tier := rfl
@[simp] theorem State.updRegion_flash (s : State) (b : Nat) (f : Region → Region) : (s.updRegion b f).flash = s.flash := rfl
@[simp] theorem State.updRegion_twin (s : State) (b : Nat) (f : Region → Region) : (s.updRegion b f).twin = s.twin := rfl
@[simp] theorem State.updRegion_dram (s : State) (b : Nat) (f : Region → Region) : (s.updRegion b f).dram = s.dram := rfl
@[simp] theorem State.updRegion_col (s : State) (b : Nat) (f : Region → Region) : (s.updRegion b f).col = s.col := rfl
@[simp] theorem State.updRegion_pw (s : State) (b : Nat) (f : Region → Region) : (s.updRegion b f).pw = s.pw := rfl
@[simp] theorem State.updRegion_gov (s : State) (b : Nat) (f : Region → Region) : (s.updRegion b f).gov = s.gov := rfl
@[simp] theorem State.updRegion_sealing (s : State) (b : Nat) (f : Region → Region) : (s.updRegion b f).sealing = s.sealing := rfl
@[simp] theorem State.updRegion_boot (s : State) (b : Nat) (f : Region → Region) : (s.updRegion b f).boot = s.boot := rfl
@[simp] theorem State.updRegion_mbus (s : State) (b : Nat) (f : Region → Region) : (s.updRegion b f).mbus = s.mbus := rfl

/-! ### setKey -/

@[simp] theorem State.setKey_pending (s : State) (i : Nat) (k : Key) : (s.setKey i k).pending = s.pending := rfl
@[simp] theorem State.setKey_now (s : State) (i : Nat) (k : Key) : (s.setKey i k).now = s.now := rfl
@[simp] theorem State.setKey_free (s : State) (i : Nat) (k : Key) : (s.setKey i k).free = s.free := rfl
@[simp] theorem State.setKey_regs (s : State) (i : Nat) (k : Key) : (s.setKey i k).regs = s.regs := rfl
@[simp] theorem State.setKey_out (s : State) (i : Nat) (k : Key) : (s.setKey i k).out = s.out := rfl
@[simp] theorem State.setKey_amb (s : State) (i : Nat) (k : Key) : (s.setKey i k).amb = s.amb := rfl
@[simp] theorem State.setKey_dbg (s : State) (i : Nat) (k : Key) : (s.setKey i k).dbg = s.dbg := rfl
@[simp] theorem State.setKey_cfg (s : State) (i : Nat) (k : Key) : (s.setKey i k).cfg = s.cfg := rfl
@[simp] theorem State.setKey_net (s : State) (i : Nat) (k : Key) : (s.setKey i k).net = s.net := rfl
@[simp] theorem State.setKey_cqi (s : State) (i : Nat) (k : Key) : (s.setKey i k).cqi = s.cqi := rfl
@[simp] theorem State.setKey_tier (s : State) (i : Nat) (k : Key) : (s.setKey i k).tier = s.tier := rfl
@[simp] theorem State.setKey_flash (s : State) (i : Nat) (k : Key) : (s.setKey i k).flash = s.flash := rfl
@[simp] theorem State.setKey_twin (s : State) (i : Nat) (k : Key) : (s.setKey i k).twin = s.twin := rfl
@[simp] theorem State.setKey_dram (s : State) (i : Nat) (k : Key) : (s.setKey i k).dram = s.dram := rfl
@[simp] theorem State.setKey_col (s : State) (i : Nat) (k : Key) : (s.setKey i k).col = s.col := rfl
@[simp] theorem State.setKey_pw (s : State) (i : Nat) (k : Key) : (s.setKey i k).pw = s.pw := rfl
@[simp] theorem State.setKey_gov (s : State) (i : Nat) (k : Key) : (s.setKey i k).gov = s.gov := rfl
@[simp] theorem State.setKey_sealing (s : State) (i : Nat) (k : Key) : (s.setKey i k).sealing = s.sealing := rfl
@[simp] theorem State.setKey_boot (s : State) (i : Nat) (k : Key) : (s.setKey i k).boot = s.boot := rfl
@[simp] theorem State.setKey_mbus (s : State) (i : Nat) (k : Key) : (s.setKey i k).mbus = s.mbus := rfl

/-! ### setPd -/

@[simp] theorem State.setPd_pending (s : State) (n : Nat) (p : Pd) : (s.setPd n p).pending = s.pending := rfl
@[simp] theorem State.setPd_now (s : State) (n : Nat) (p : Pd) : (s.setPd n p).now = s.now := rfl
@[simp] theorem State.setPd_free (s : State) (n : Nat) (p : Pd) : (s.setPd n p).free = s.free := rfl
@[simp] theorem State.setPd_regs (s : State) (n : Nat) (p : Pd) : (s.setPd n p).regs = s.regs := rfl
@[simp] theorem State.setPd_out (s : State) (n : Nat) (p : Pd) : (s.setPd n p).out = s.out := rfl
@[simp] theorem State.setPd_amb (s : State) (n : Nat) (p : Pd) : (s.setPd n p).amb = s.amb := rfl
@[simp] theorem State.setPd_dbg (s : State) (n : Nat) (p : Pd) : (s.setPd n p).dbg = s.dbg := rfl
@[simp] theorem State.setPd_cfg (s : State) (n : Nat) (p : Pd) : (s.setPd n p).cfg = s.cfg := rfl
@[simp] theorem State.setPd_net (s : State) (n : Nat) (p : Pd) : (s.setPd n p).net = s.net := rfl
@[simp] theorem State.setPd_cqi (s : State) (n : Nat) (p : Pd) : (s.setPd n p).cqi = s.cqi := rfl
@[simp] theorem State.setPd_tier (s : State) (n : Nat) (p : Pd) : (s.setPd n p).tier = s.tier := rfl
@[simp] theorem State.setPd_flash (s : State) (n : Nat) (p : Pd) : (s.setPd n p).flash = s.flash := rfl
@[simp] theorem State.setPd_twin (s : State) (n : Nat) (p : Pd) : (s.setPd n p).twin = s.twin := rfl
@[simp] theorem State.setPd_dram (s : State) (n : Nat) (p : Pd) : (s.setPd n p).dram = s.dram := rfl
@[simp] theorem State.setPd_col (s : State) (n : Nat) (p : Pd) : (s.setPd n p).col = s.col := rfl
@[simp] theorem State.setPd_pw (s : State) (n : Nat) (p : Pd) : (s.setPd n p).pw = s.pw := rfl
@[simp] theorem State.setPd_gov (s : State) (n : Nat) (p : Pd) : (s.setPd n p).gov = s.gov := rfl
@[simp] theorem State.setPd_sealing (s : State) (n : Nat) (p : Pd) : (s.setPd n p).sealing = s.sealing := rfl
@[simp] theorem State.setPd_boot (s : State) (n : Nat) (p : Pd) : (s.setPd n p).boot = s.boot := rfl
@[simp] theorem State.setPd_mbus (s : State) (n : Nat) (p : Pd) : (s.setPd n p).mbus = s.mbus := rfl

/-! ### setFrame -/

@[simp] theorem State.setFrame_pending (s : State) (u : Nat) (f : Frame) : (s.setFrame u f).pending = s.pending := rfl
@[simp] theorem State.setFrame_now (s : State) (u : Nat) (f : Frame) : (s.setFrame u f).now = s.now := rfl
@[simp] theorem State.setFrame_free (s : State) (u : Nat) (f : Frame) : (s.setFrame u f).free = s.free := rfl
@[simp] theorem State.setFrame_regs (s : State) (u : Nat) (f : Frame) : (s.setFrame u f).regs = s.regs := rfl
@[simp] theorem State.setFrame_out (s : State) (u : Nat) (f : Frame) : (s.setFrame u f).out = s.out := rfl
@[simp] theorem State.setFrame_amb (s : State) (u : Nat) (f : Frame) : (s.setFrame u f).amb = s.amb := rfl
@[simp] theorem State.setFrame_dbg (s : State) (u : Nat) (f : Frame) : (s.setFrame u f).dbg = s.dbg := rfl
@[simp] theorem State.setFrame_cfg (s : State) (u : Nat) (f : Frame) : (s.setFrame u f).cfg = s.cfg := rfl
@[simp] theorem State.setFrame_prot (s : State) (u : Nat) (f : Frame) : (s.setFrame u f).prot = s.prot := rfl
@[simp] theorem State.setFrame_net (s : State) (u : Nat) (f : Frame) : (s.setFrame u f).net = s.net := rfl
@[simp] theorem State.setFrame_cqi (s : State) (u : Nat) (f : Frame) : (s.setFrame u f).cqi = s.cqi := rfl
@[simp] theorem State.setFrame_flash (s : State) (u : Nat) (f : Frame) : (s.setFrame u f).flash = s.flash := rfl
@[simp] theorem State.setFrame_twin (s : State) (u : Nat) (f : Frame) : (s.setFrame u f).twin = s.twin := rfl
@[simp] theorem State.setFrame_dram (s : State) (u : Nat) (f : Frame) : (s.setFrame u f).dram = s.dram := rfl
@[simp] theorem State.setFrame_col (s : State) (u : Nat) (f : Frame) : (s.setFrame u f).col = s.col := rfl
@[simp] theorem State.setFrame_pw (s : State) (u : Nat) (f : Frame) : (s.setFrame u f).pw = s.pw := rfl
@[simp] theorem State.setFrame_gov (s : State) (u : Nat) (f : Frame) : (s.setFrame u f).gov = s.gov := rfl
@[simp] theorem State.setFrame_sealing (s : State) (u : Nat) (f : Frame) : (s.setFrame u f).sealing = s.sealing := rfl
@[simp] theorem State.setFrame_boot (s : State) (u : Nat) (f : Frame) : (s.setFrame u f).boot = s.boot := rfl
@[simp] theorem State.setFrame_mbus (s : State) (u : Nat) (f : Frame) : (s.setFrame u f).mbus = s.mbus := rfl

/-! ### updFrame -/

@[simp] theorem State.updFrame_pending (s : State) (u : Nat) (f : Frame → Frame) : (s.updFrame u f).pending = s.pending := rfl
@[simp] theorem State.updFrame_now (s : State) (u : Nat) (f : Frame → Frame) : (s.updFrame u f).now = s.now := rfl
@[simp] theorem State.updFrame_free (s : State) (u : Nat) (f : Frame → Frame) : (s.updFrame u f).free = s.free := rfl
@[simp] theorem State.updFrame_regs (s : State) (u : Nat) (f : Frame → Frame) : (s.updFrame u f).regs = s.regs := rfl
@[simp] theorem State.updFrame_out (s : State) (u : Nat) (f : Frame → Frame) : (s.updFrame u f).out = s.out := rfl
@[simp] theorem State.updFrame_amb (s : State) (u : Nat) (f : Frame → Frame) : (s.updFrame u f).amb = s.amb := rfl
@[simp] theorem State.updFrame_dbg (s : State) (u : Nat) (f : Frame → Frame) : (s.updFrame u f).dbg = s.dbg := rfl
@[simp] theorem State.updFrame_cfg (s : State) (u : Nat) (f : Frame → Frame) : (s.updFrame u f).cfg = s.cfg := rfl
@[simp] theorem State.updFrame_prot (s : State) (u : Nat) (f : Frame → Frame) : (s.updFrame u f).prot = s.prot := rfl
@[simp] theorem State.updFrame_net (s : State) (u : Nat) (f : Frame → Frame) : (s.updFrame u f).net = s.net := rfl
@[simp] theorem State.updFrame_cqi (s : State) (u : Nat) (f : Frame → Frame) : (s.updFrame u f).cqi = s.cqi := rfl
@[simp] theorem State.updFrame_flash (s : State) (u : Nat) (f : Frame → Frame) : (s.updFrame u f).flash = s.flash := rfl
@[simp] theorem State.updFrame_twin (s : State) (u : Nat) (f : Frame → Frame) : (s.updFrame u f).twin = s.twin := rfl
@[simp] theorem State.updFrame_dram (s : State) (u : Nat) (f : Frame → Frame) : (s.updFrame u f).dram = s.dram := rfl
@[simp] theorem State.updFrame_col (s : State) (u : Nat) (f : Frame → Frame) : (s.updFrame u f).col = s.col := rfl
@[simp] theorem State.updFrame_pw (s : State) (u : Nat) (f : Frame → Frame) : (s.updFrame u f).pw = s.pw := rfl
@[simp] theorem State.updFrame_gov (s : State) (u : Nat) (f : Frame → Frame) : (s.updFrame u f).gov = s.gov := rfl
@[simp] theorem State.updFrame_sealing (s : State) (u : Nat) (f : Frame → Frame) : (s.updFrame u f).sealing = s.sealing := rfl
@[simp] theorem State.updFrame_boot (s : State) (u : Nat) (f : Frame → Frame) : (s.updFrame u f).boot = s.boot := rfl
@[simp] theorem State.updFrame_mbus (s : State) (u : Nat) (f : Frame → Frame) : (s.updFrame u f).mbus = s.mbus := rfl

/-! ### setLine -/

@[simp] theorem State.setLine_pending (s : State) (l : Nat) (x : Line) : (s.setLine l x).pending = s.pending := rfl
@[simp] theorem State.setLine_now (s : State) (l : Nat) (x : Line) : (s.setLine l x).now = s.now := rfl
@[simp] theorem State.setLine_free (s : State) (l : Nat) (x : Line) : (s.setLine l x).free = s.free := rfl
@[simp] theorem State.setLine_regs (s : State) (l : Nat) (x : Line) : (s.setLine l x).regs = s.regs := rfl
@[simp] theorem State.setLine_out (s : State) (l : Nat) (x : Line) : (s.setLine l x).out = s.out := rfl
@[simp] theorem State.setLine_amb (s : State) (l : Nat) (x : Line) : (s.setLine l x).amb = s.amb := rfl
@[simp] theorem State.setLine_dbg (s : State) (l : Nat) (x : Line) : (s.setLine l x).dbg = s.dbg := rfl
@[simp] theorem State.setLine_cfg (s : State) (l : Nat) (x : Line) : (s.setLine l x).cfg = s.cfg := rfl
@[simp] theorem State.setLine_prot (s : State) (l : Nat) (x : Line) : (s.setLine l x).prot = s.prot := rfl
@[simp] theorem State.setLine_net (s : State) (l : Nat) (x : Line) : (s.setLine l x).net = s.net := rfl
@[simp] theorem State.setLine_cqi (s : State) (l : Nat) (x : Line) : (s.setLine l x).cqi = s.cqi := rfl
@[simp] theorem State.setLine_flash (s : State) (l : Nat) (x : Line) : (s.setLine l x).flash = s.flash := rfl
@[simp] theorem State.setLine_twin (s : State) (l : Nat) (x : Line) : (s.setLine l x).twin = s.twin := rfl
@[simp] theorem State.setLine_dram (s : State) (l : Nat) (x : Line) : (s.setLine l x).dram = s.dram := rfl
@[simp] theorem State.setLine_col (s : State) (l : Nat) (x : Line) : (s.setLine l x).col = s.col := rfl
@[simp] theorem State.setLine_pw (s : State) (l : Nat) (x : Line) : (s.setLine l x).pw = s.pw := rfl
@[simp] theorem State.setLine_gov (s : State) (l : Nat) (x : Line) : (s.setLine l x).gov = s.gov := rfl
@[simp] theorem State.setLine_sealing (s : State) (l : Nat) (x : Line) : (s.setLine l x).sealing = s.sealing := rfl
@[simp] theorem State.setLine_boot (s : State) (l : Nat) (x : Line) : (s.setLine l x).boot = s.boot := rfl
@[simp] theorem State.setLine_mbus (s : State) (l : Nat) (x : Line) : (s.setLine l x).mbus = s.mbus := rfl

/-! ### setGranule -/

@[simp] theorem State.setGranule_pending (s : State) (g : Nat) (x : Granule) : (s.setGranule g x).pending = s.pending := rfl
@[simp] theorem State.setGranule_now (s : State) (g : Nat) (x : Granule) : (s.setGranule g x).now = s.now := rfl
@[simp] theorem State.setGranule_free (s : State) (g : Nat) (x : Granule) : (s.setGranule g x).free = s.free := rfl
@[simp] theorem State.setGranule_regs (s : State) (g : Nat) (x : Granule) : (s.setGranule g x).regs = s.regs := rfl
@[simp] theorem State.setGranule_out (s : State) (g : Nat) (x : Granule) : (s.setGranule g x).out = s.out := rfl
@[simp] theorem State.setGranule_amb (s : State) (g : Nat) (x : Granule) : (s.setGranule g x).amb = s.amb := rfl
@[simp] theorem State.setGranule_dbg (s : State) (g : Nat) (x : Granule) : (s.setGranule g x).dbg = s.dbg := rfl
@[simp] theorem State.setGranule_cfg (s : State) (g : Nat) (x : Granule) : (s.setGranule g x).cfg = s.cfg := rfl
@[simp] theorem State.setGranule_prot (s : State) (g : Nat) (x : Granule) : (s.setGranule g x).prot = s.prot := rfl
@[simp] theorem State.setGranule_net (s : State) (g : Nat) (x : Granule) : (s.setGranule g x).net = s.net := rfl
@[simp] theorem State.setGranule_cqi (s : State) (g : Nat) (x : Granule) : (s.setGranule g x).cqi = s.cqi := rfl
@[simp] theorem State.setGranule_flash (s : State) (g : Nat) (x : Granule) : (s.setGranule g x).flash = s.flash := rfl
@[simp] theorem State.setGranule_twin (s : State) (g : Nat) (x : Granule) : (s.setGranule g x).twin = s.twin := rfl
@[simp] theorem State.setGranule_dram (s : State) (g : Nat) (x : Granule) : (s.setGranule g x).dram = s.dram := rfl
@[simp] theorem State.setGranule_col (s : State) (g : Nat) (x : Granule) : (s.setGranule g x).col = s.col := rfl
@[simp] theorem State.setGranule_pw (s : State) (g : Nat) (x : Granule) : (s.setGranule g x).pw = s.pw := rfl
@[simp] theorem State.setGranule_gov (s : State) (g : Nat) (x : Granule) : (s.setGranule g x).gov = s.gov := rfl
@[simp] theorem State.setGranule_sealing (s : State) (g : Nat) (x : Granule) : (s.setGranule g x).sealing = s.sealing := rfl
@[simp] theorem State.setGranule_boot (s : State) (g : Nat) (x : Granule) : (s.setGranule g x).boot = s.boot := rfl
@[simp] theorem State.setGranule_mbus (s : State) (g : Nat) (x : Granule) : (s.setGranule g x).mbus = s.mbus := rfl

/-! ### updStream -/

@[simp] theorem State.updStream_pending (s : State) (i : Nat) (f : Stream → Stream) : (s.updStream i f).pending = s.pending := rfl
@[simp] theorem State.updStream_now (s : State) (i : Nat) (f : Stream → Stream) : (s.updStream i f).now = s.now := rfl
@[simp] theorem State.updStream_free (s : State) (i : Nat) (f : Stream → Stream) : (s.updStream i f).free = s.free := rfl
@[simp] theorem State.updStream_regs (s : State) (i : Nat) (f : Stream → Stream) : (s.updStream i f).regs = s.regs := rfl
@[simp] theorem State.updStream_out (s : State) (i : Nat) (f : Stream → Stream) : (s.updStream i f).out = s.out := rfl
@[simp] theorem State.updStream_amb (s : State) (i : Nat) (f : Stream → Stream) : (s.updStream i f).amb = s.amb := rfl
@[simp] theorem State.updStream_dbg (s : State) (i : Nat) (f : Stream → Stream) : (s.updStream i f).dbg = s.dbg := rfl
@[simp] theorem State.updStream_cfg (s : State) (i : Nat) (f : Stream → Stream) : (s.updStream i f).cfg = s.cfg := rfl
@[simp] theorem State.updStream_prot (s : State) (i : Nat) (f : Stream → Stream) : (s.updStream i f).prot = s.prot := rfl
@[simp] theorem State.updStream_net (s : State) (i : Nat) (f : Stream → Stream) : (s.updStream i f).net = s.net := rfl
@[simp] theorem State.updStream_cqi (s : State) (i : Nat) (f : Stream → Stream) : (s.updStream i f).cqi = s.cqi := rfl
@[simp] theorem State.updStream_flash (s : State) (i : Nat) (f : Stream → Stream) : (s.updStream i f).flash = s.flash := rfl
@[simp] theorem State.updStream_twin (s : State) (i : Nat) (f : Stream → Stream) : (s.updStream i f).twin = s.twin := rfl
@[simp] theorem State.updStream_dram (s : State) (i : Nat) (f : Stream → Stream) : (s.updStream i f).dram = s.dram := rfl
@[simp] theorem State.updStream_col (s : State) (i : Nat) (f : Stream → Stream) : (s.updStream i f).col = s.col := rfl
@[simp] theorem State.updStream_pw (s : State) (i : Nat) (f : Stream → Stream) : (s.updStream i f).pw = s.pw := rfl
@[simp] theorem State.updStream_gov (s : State) (i : Nat) (f : Stream → Stream) : (s.updStream i f).gov = s.gov := rfl
@[simp] theorem State.updStream_sealing (s : State) (i : Nat) (f : Stream → Stream) : (s.updStream i f).sealing = s.sealing := rfl
@[simp] theorem State.updStream_boot (s : State) (i : Nat) (f : Stream → Stream) : (s.updStream i f).boot = s.boot := rfl
@[simp] theorem State.updStream_mbus (s : State) (i : Nat) (f : Stream → Stream) : (s.updStream i f).mbus = s.mbus := rfl

/-! ### updChan -/

@[simp] theorem State.updChan_pending (s : State) (c : Nat) (f : DramChan → DramChan) : (s.updChan c f).pending = s.pending := rfl
@[simp] theorem State.updChan_now (s : State) (c : Nat) (f : DramChan → DramChan) : (s.updChan c f).now = s.now := rfl
@[simp] theorem State.updChan_free (s : State) (c : Nat) (f : DramChan → DramChan) : (s.updChan c f).free = s.free := rfl
@[simp] theorem State.updChan_regs (s : State) (c : Nat) (f : DramChan → DramChan) : (s.updChan c f).regs = s.regs := rfl
@[simp] theorem State.updChan_out (s : State) (c : Nat) (f : DramChan → DramChan) : (s.updChan c f).out = s.out := rfl
@[simp] theorem State.updChan_amb (s : State) (c : Nat) (f : DramChan → DramChan) : (s.updChan c f).amb = s.amb := rfl
@[simp] theorem State.updChan_dbg (s : State) (c : Nat) (f : DramChan → DramChan) : (s.updChan c f).dbg = s.dbg := rfl
@[simp] theorem State.updChan_cfg (s : State) (c : Nat) (f : DramChan → DramChan) : (s.updChan c f).cfg = s.cfg := rfl
@[simp] theorem State.updChan_prot (s : State) (c : Nat) (f : DramChan → DramChan) : (s.updChan c f).prot = s.prot := rfl
@[simp] theorem State.updChan_net (s : State) (c : Nat) (f : DramChan → DramChan) : (s.updChan c f).net = s.net := rfl
@[simp] theorem State.updChan_cqi (s : State) (c : Nat) (f : DramChan → DramChan) : (s.updChan c f).cqi = s.cqi := rfl
@[simp] theorem State.updChan_tier (s : State) (c : Nat) (f : DramChan → DramChan) : (s.updChan c f).tier = s.tier := rfl
@[simp] theorem State.updChan_flash (s : State) (c : Nat) (f : DramChan → DramChan) : (s.updChan c f).flash = s.flash := rfl
@[simp] theorem State.updChan_twin (s : State) (c : Nat) (f : DramChan → DramChan) : (s.updChan c f).twin = s.twin := rfl
@[simp] theorem State.updChan_col (s : State) (c : Nat) (f : DramChan → DramChan) : (s.updChan c f).col = s.col := rfl
@[simp] theorem State.updChan_pw (s : State) (c : Nat) (f : DramChan → DramChan) : (s.updChan c f).pw = s.pw := rfl
@[simp] theorem State.updChan_gov (s : State) (c : Nat) (f : DramChan → DramChan) : (s.updChan c f).gov = s.gov := rfl
@[simp] theorem State.updChan_sealing (s : State) (c : Nat) (f : DramChan → DramChan) : (s.updChan c f).sealing = s.sealing := rfl
@[simp] theorem State.updChan_boot (s : State) (c : Nat) (f : DramChan → DramChan) : (s.updChan c f).boot = s.boot := rfl
@[simp] theorem State.updChan_mbus (s : State) (c : Nat) (f : DramChan → DramChan) : (s.updChan c f).mbus = s.mbus := rfl

/-! ### setSb -/

@[simp] theorem State.setSb_pending (s : State) (n : Nat) (x : Sb) : (s.setSb n x).pending = s.pending := rfl
@[simp] theorem State.setSb_now (s : State) (n : Nat) (x : Sb) : (s.setSb n x).now = s.now := rfl
@[simp] theorem State.setSb_free (s : State) (n : Nat) (x : Sb) : (s.setSb n x).free = s.free := rfl
@[simp] theorem State.setSb_regs (s : State) (n : Nat) (x : Sb) : (s.setSb n x).regs = s.regs := rfl
@[simp] theorem State.setSb_out (s : State) (n : Nat) (x : Sb) : (s.setSb n x).out = s.out := rfl
@[simp] theorem State.setSb_amb (s : State) (n : Nat) (x : Sb) : (s.setSb n x).amb = s.amb := rfl
@[simp] theorem State.setSb_dbg (s : State) (n : Nat) (x : Sb) : (s.setSb n x).dbg = s.dbg := rfl
@[simp] theorem State.setSb_cfg (s : State) (n : Nat) (x : Sb) : (s.setSb n x).cfg = s.cfg := rfl
@[simp] theorem State.setSb_prot (s : State) (n : Nat) (x : Sb) : (s.setSb n x).prot = s.prot := rfl
@[simp] theorem State.setSb_net (s : State) (n : Nat) (x : Sb) : (s.setSb n x).net = s.net := rfl
@[simp] theorem State.setSb_cqi (s : State) (n : Nat) (x : Sb) : (s.setSb n x).cqi = s.cqi := rfl
@[simp] theorem State.setSb_tier (s : State) (n : Nat) (x : Sb) : (s.setSb n x).tier = s.tier := rfl
@[simp] theorem State.setSb_twin (s : State) (n : Nat) (x : Sb) : (s.setSb n x).twin = s.twin := rfl
@[simp] theorem State.setSb_dram (s : State) (n : Nat) (x : Sb) : (s.setSb n x).dram = s.dram := rfl
@[simp] theorem State.setSb_col (s : State) (n : Nat) (x : Sb) : (s.setSb n x).col = s.col := rfl
@[simp] theorem State.setSb_pw (s : State) (n : Nat) (x : Sb) : (s.setSb n x).pw = s.pw := rfl
@[simp] theorem State.setSb_gov (s : State) (n : Nat) (x : Sb) : (s.setSb n x).gov = s.gov := rfl
@[simp] theorem State.setSb_sealing (s : State) (n : Nat) (x : Sb) : (s.setSb n x).sealing = s.sealing := rfl
@[simp] theorem State.setSb_boot (s : State) (n : Nat) (x : Sb) : (s.setSb n x).boot = s.boot := rfl
@[simp] theorem State.setSb_mbus (s : State) (n : Nat) (x : Sb) : (s.setSb n x).mbus = s.mbus := rfl

/-! ### setBlk -/

@[simp] theorem State.setBlk_pending (s : State) (n : Nat) (b : Blk) : (s.setBlk n b).pending = s.pending := rfl
@[simp] theorem State.setBlk_now (s : State) (n : Nat) (b : Blk) : (s.setBlk n b).now = s.now := rfl
@[simp] theorem State.setBlk_free (s : State) (n : Nat) (b : Blk) : (s.setBlk n b).free = s.free := rfl
@[simp] theorem State.setBlk_regs (s : State) (n : Nat) (b : Blk) : (s.setBlk n b).regs = s.regs := rfl
@[simp] theorem State.setBlk_out (s : State) (n : Nat) (b : Blk) : (s.setBlk n b).out = s.out := rfl
@[simp] theorem State.setBlk_amb (s : State) (n : Nat) (b : Blk) : (s.setBlk n b).amb = s.amb := rfl
@[simp] theorem State.setBlk_dbg (s : State) (n : Nat) (b : Blk) : (s.setBlk n b).dbg = s.dbg := rfl
@[simp] theorem State.setBlk_cfg (s : State) (n : Nat) (b : Blk) : (s.setBlk n b).cfg = s.cfg := rfl
@[simp] theorem State.setBlk_prot (s : State) (n : Nat) (b : Blk) : (s.setBlk n b).prot = s.prot := rfl
@[simp] theorem State.setBlk_net (s : State) (n : Nat) (b : Blk) : (s.setBlk n b).net = s.net := rfl
@[simp] theorem State.setBlk_cqi (s : State) (n : Nat) (b : Blk) : (s.setBlk n b).cqi = s.cqi := rfl
@[simp] theorem State.setBlk_tier (s : State) (n : Nat) (b : Blk) : (s.setBlk n b).tier = s.tier := rfl
@[simp] theorem State.setBlk_twin (s : State) (n : Nat) (b : Blk) : (s.setBlk n b).twin = s.twin := rfl
@[simp] theorem State.setBlk_dram (s : State) (n : Nat) (b : Blk) : (s.setBlk n b).dram = s.dram := rfl
@[simp] theorem State.setBlk_col (s : State) (n : Nat) (b : Blk) : (s.setBlk n b).col = s.col := rfl
@[simp] theorem State.setBlk_pw (s : State) (n : Nat) (b : Blk) : (s.setBlk n b).pw = s.pw := rfl
@[simp] theorem State.setBlk_gov (s : State) (n : Nat) (b : Blk) : (s.setBlk n b).gov = s.gov := rfl
@[simp] theorem State.setBlk_sealing (s : State) (n : Nat) (b : Blk) : (s.setBlk n b).sealing = s.sealing := rfl
@[simp] theorem State.setBlk_boot (s : State) (n : Nat) (b : Blk) : (s.setBlk n b).boot = s.boot := rfl
@[simp] theorem State.setBlk_mbus (s : State) (n : Nat) (b : Blk) : (s.setBlk n b).mbus = s.mbus := rfl

/-! ### updBlk -/

@[simp] theorem State.updBlk_pending (s : State) (n : Nat) (f : Blk → Blk) : (s.updBlk n f).pending = s.pending := rfl
@[simp] theorem State.updBlk_now (s : State) (n : Nat) (f : Blk → Blk) : (s.updBlk n f).now = s.now := rfl
@[simp] theorem State.updBlk_free (s : State) (n : Nat) (f : Blk → Blk) : (s.updBlk n f).free = s.free := rfl
@[simp] theorem State.updBlk_regs (s : State) (n : Nat) (f : Blk → Blk) : (s.updBlk n f).regs = s.regs := rfl
@[simp] theorem State.updBlk_out (s : State) (n : Nat) (f : Blk → Blk) : (s.updBlk n f).out = s.out := rfl
@[simp] theorem State.updBlk_amb (s : State) (n : Nat) (f : Blk → Blk) : (s.updBlk n f).amb = s.amb := rfl
@[simp] theorem State.updBlk_dbg (s : State) (n : Nat) (f : Blk → Blk) : (s.updBlk n f).dbg = s.dbg := rfl
@[simp] theorem State.updBlk_cfg (s : State) (n : Nat) (f : Blk → Blk) : (s.updBlk n f).cfg = s.cfg := rfl
@[simp] theorem State.updBlk_prot (s : State) (n : Nat) (f : Blk → Blk) : (s.updBlk n f).prot = s.prot := rfl
@[simp] theorem State.updBlk_net (s : State) (n : Nat) (f : Blk → Blk) : (s.updBlk n f).net = s.net := rfl
@[simp] theorem State.updBlk_cqi (s : State) (n : Nat) (f : Blk → Blk) : (s.updBlk n f).cqi = s.cqi := rfl
@[simp] theorem State.updBlk_tier (s : State) (n : Nat) (f : Blk → Blk) : (s.updBlk n f).tier = s.tier := rfl
@[simp] theorem State.updBlk_twin (s : State) (n : Nat) (f : Blk → Blk) : (s.updBlk n f).twin = s.twin := rfl
@[simp] theorem State.updBlk_dram (s : State) (n : Nat) (f : Blk → Blk) : (s.updBlk n f).dram = s.dram := rfl
@[simp] theorem State.updBlk_col (s : State) (n : Nat) (f : Blk → Blk) : (s.updBlk n f).col = s.col := rfl
@[simp] theorem State.updBlk_pw (s : State) (n : Nat) (f : Blk → Blk) : (s.updBlk n f).pw = s.pw := rfl
@[simp] theorem State.updBlk_gov (s : State) (n : Nat) (f : Blk → Blk) : (s.updBlk n f).gov = s.gov := rfl
@[simp] theorem State.updBlk_sealing (s : State) (n : Nat) (f : Blk → Blk) : (s.updBlk n f).sealing = s.sealing := rfl
@[simp] theorem State.updBlk_boot (s : State) (n : Nat) (f : Blk → Blk) : (s.updBlk n f).boot = s.boot := rfl
@[simp] theorem State.updBlk_mbus (s : State) (n : Nat) (f : Blk → Blk) : (s.updBlk n f).mbus = s.mbus := rfl

/-! ### updRail -/

@[simp] theorem State.updRail_pending (s : State) (n : Nat) (f : Rail → Rail) : (s.updRail n f).pending = s.pending := rfl
@[simp] theorem State.updRail_now (s : State) (n : Nat) (f : Rail → Rail) : (s.updRail n f).now = s.now := rfl
@[simp] theorem State.updRail_free (s : State) (n : Nat) (f : Rail → Rail) : (s.updRail n f).free = s.free := rfl
@[simp] theorem State.updRail_regs (s : State) (n : Nat) (f : Rail → Rail) : (s.updRail n f).regs = s.regs := rfl
@[simp] theorem State.updRail_out (s : State) (n : Nat) (f : Rail → Rail) : (s.updRail n f).out = s.out := rfl
@[simp] theorem State.updRail_amb (s : State) (n : Nat) (f : Rail → Rail) : (s.updRail n f).amb = s.amb := rfl
@[simp] theorem State.updRail_dbg (s : State) (n : Nat) (f : Rail → Rail) : (s.updRail n f).dbg = s.dbg := rfl
@[simp] theorem State.updRail_cfg (s : State) (n : Nat) (f : Rail → Rail) : (s.updRail n f).cfg = s.cfg := rfl
@[simp] theorem State.updRail_prot (s : State) (n : Nat) (f : Rail → Rail) : (s.updRail n f).prot = s.prot := rfl
@[simp] theorem State.updRail_net (s : State) (n : Nat) (f : Rail → Rail) : (s.updRail n f).net = s.net := rfl
@[simp] theorem State.updRail_cqi (s : State) (n : Nat) (f : Rail → Rail) : (s.updRail n f).cqi = s.cqi := rfl
@[simp] theorem State.updRail_tier (s : State) (n : Nat) (f : Rail → Rail) : (s.updRail n f).tier = s.tier := rfl
@[simp] theorem State.updRail_flash (s : State) (n : Nat) (f : Rail → Rail) : (s.updRail n f).flash = s.flash := rfl
@[simp] theorem State.updRail_twin (s : State) (n : Nat) (f : Rail → Rail) : (s.updRail n f).twin = s.twin := rfl
@[simp] theorem State.updRail_dram (s : State) (n : Nat) (f : Rail → Rail) : (s.updRail n f).dram = s.dram := rfl
@[simp] theorem State.updRail_col (s : State) (n : Nat) (f : Rail → Rail) : (s.updRail n f).col = s.col := rfl
@[simp] theorem State.updRail_gov (s : State) (n : Nat) (f : Rail → Rail) : (s.updRail n f).gov = s.gov := rfl
@[simp] theorem State.updRail_sealing (s : State) (n : Nat) (f : Rail → Rail) : (s.updRail n f).sealing = s.sealing := rfl
@[simp] theorem State.updRail_boot (s : State) (n : Nat) (f : Rail → Rail) : (s.updRail n f).boot = s.boot := rfl
@[simp] theorem State.updRail_mbus (s : State) (n : Nat) (f : Rail → Rail) : (s.updRail n f).mbus = s.mbus := rfl

/-! ### updCol -/

@[simp] theorem State.updCol_pending (s : State) (f : Colony → Colony) : (s.updCol f).pending = s.pending := rfl
@[simp] theorem State.updCol_now (s : State) (f : Colony → Colony) : (s.updCol f).now = s.now := rfl
@[simp] theorem State.updCol_free (s : State) (f : Colony → Colony) : (s.updCol f).free = s.free := rfl
@[simp] theorem State.updCol_regs (s : State) (f : Colony → Colony) : (s.updCol f).regs = s.regs := rfl
@[simp] theorem State.updCol_out (s : State) (f : Colony → Colony) : (s.updCol f).out = s.out := rfl
@[simp] theorem State.updCol_amb (s : State) (f : Colony → Colony) : (s.updCol f).amb = s.amb := rfl
@[simp] theorem State.updCol_dbg (s : State) (f : Colony → Colony) : (s.updCol f).dbg = s.dbg := rfl
@[simp] theorem State.updCol_cfg (s : State) (f : Colony → Colony) : (s.updCol f).cfg = s.cfg := rfl
@[simp] theorem State.updCol_prot (s : State) (f : Colony → Colony) : (s.updCol f).prot = s.prot := rfl
@[simp] theorem State.updCol_net (s : State) (f : Colony → Colony) : (s.updCol f).net = s.net := rfl
@[simp] theorem State.updCol_cqi (s : State) (f : Colony → Colony) : (s.updCol f).cqi = s.cqi := rfl
@[simp] theorem State.updCol_tier (s : State) (f : Colony → Colony) : (s.updCol f).tier = s.tier := rfl
@[simp] theorem State.updCol_flash (s : State) (f : Colony → Colony) : (s.updCol f).flash = s.flash := rfl
@[simp] theorem State.updCol_twin (s : State) (f : Colony → Colony) : (s.updCol f).twin = s.twin := rfl
@[simp] theorem State.updCol_dram (s : State) (f : Colony → Colony) : (s.updCol f).dram = s.dram := rfl
@[simp] theorem State.updCol_pw (s : State) (f : Colony → Colony) : (s.updCol f).pw = s.pw := rfl
@[simp] theorem State.updCol_gov (s : State) (f : Colony → Colony) : (s.updCol f).gov = s.gov := rfl
@[simp] theorem State.updCol_sealing (s : State) (f : Colony → Colony) : (s.updCol f).sealing = s.sealing := rfl
@[simp] theorem State.updCol_boot (s : State) (f : Colony → Colony) : (s.updCol f).boot = s.boot := rfl
@[simp] theorem State.updCol_mbus (s : State) (f : Colony → Colony) : (s.updCol f).mbus = s.mbus := rfl

/-! ### record -/

@[simp] theorem State.setEvt_pending (s : State) (e : Event) (c : Nat) : (s.setEvt e c).pending = s.pending := by
  unfold State.setEvt
  cases e.evtBit c <;> rfl
@[simp] theorem State.setEvt_now (s : State) (e : Event) (c : Nat) : (s.setEvt e c).now = s.now := by
  unfold State.setEvt
  cases e.evtBit c <;> rfl
@[simp] theorem State.setEvt_free (s : State) (e : Event) (c : Nat) : (s.setEvt e c).free = s.free := by
  unfold State.setEvt
  cases e.evtBit c <;> rfl
@[simp] theorem State.setEvt_out (s : State) (e : Event) (c : Nat) : (s.setEvt e c).out = s.out := by
  unfold State.setEvt
  cases e.evtBit c <;> rfl
@[simp] theorem State.setEvt_dbg (s : State) (e : Event) (c : Nat) : (s.setEvt e c).dbg = s.dbg := by
  unfold State.setEvt
  cases e.evtBit c <;> rfl
@[simp] theorem State.setEvt_cfg (s : State) (e : Event) (c : Nat) : (s.setEvt e c).cfg = s.cfg := by
  unfold State.setEvt
  cases e.evtBit c <;> rfl
@[simp] theorem State.setEvt_prot (s : State) (e : Event) (c : Nat) : (s.setEvt e c).prot = s.prot := by
  unfold State.setEvt
  cases e.evtBit c <;> rfl
@[simp] theorem State.setEvt_net (s : State) (e : Event) (c : Nat) : (s.setEvt e c).net = s.net := by
  unfold State.setEvt
  cases e.evtBit c <;> rfl
@[simp] theorem State.setEvt_cqi (s : State) (e : Event) (c : Nat) : (s.setEvt e c).cqi = s.cqi := by
  unfold State.setEvt
  cases e.evtBit c <;> rfl
@[simp] theorem State.setEvt_tier (s : State) (e : Event) (c : Nat) : (s.setEvt e c).tier = s.tier := by
  unfold State.setEvt
  cases e.evtBit c <;> rfl
@[simp] theorem State.setEvt_flash (s : State) (e : Event) (c : Nat) : (s.setEvt e c).flash = s.flash := by
  unfold State.setEvt
  cases e.evtBit c <;> rfl
@[simp] theorem State.setEvt_twin (s : State) (e : Event) (c : Nat) : (s.setEvt e c).twin = s.twin := by
  unfold State.setEvt
  cases e.evtBit c <;> rfl
@[simp] theorem State.setEvt_dram (s : State) (e : Event) (c : Nat) : (s.setEvt e c).dram = s.dram := by
  unfold State.setEvt
  cases e.evtBit c <;> rfl
@[simp] theorem State.setEvt_col (s : State) (e : Event) (c : Nat) : (s.setEvt e c).col = s.col := by
  unfold State.setEvt
  cases e.evtBit c <;> rfl
@[simp] theorem State.setEvt_pw (s : State) (e : Event) (c : Nat) : (s.setEvt e c).pw = s.pw := by
  unfold State.setEvt
  cases e.evtBit c <;> rfl
@[simp] theorem State.setEvt_gov (s : State) (e : Event) (c : Nat) : (s.setEvt e c).gov = s.gov := by
  unfold State.setEvt
  cases e.evtBit c <;> rfl
@[simp] theorem State.setEvt_sealing (s : State) (e : Event) (c : Nat) : (s.setEvt e c).sealing = s.sealing := by
  unfold State.setEvt
  cases e.evtBit c <;> rfl
@[simp] theorem State.setEvt_boot (s : State) (e : Event) (c : Nat) : (s.setEvt e c).boot = s.boot := by
  unfold State.setEvt
  cases e.evtBit c <;> rfl

@[simp] theorem State.ambFlush_pending (s : State) : (s.ambFlush).pending = s.pending := by
  unfold State.ambFlush
  repeat' split
  all_goals rfl
@[simp] theorem State.ambFlush_now (s : State) : (s.ambFlush).now = s.now := by
  unfold State.ambFlush
  repeat' split
  all_goals rfl
@[simp] theorem State.ambFlush_free (s : State) : (s.ambFlush).free = s.free := by
  unfold State.ambFlush
  repeat' split
  all_goals rfl
@[simp] theorem State.ambFlush_out (s : State) : (s.ambFlush).out = s.out := by
  unfold State.ambFlush
  repeat' split
  all_goals rfl
@[simp] theorem State.ambFlush_dbg (s : State) : (s.ambFlush).dbg = s.dbg := by
  unfold State.ambFlush
  repeat' split
  all_goals rfl
@[simp] theorem State.ambFlush_cfg (s : State) : (s.ambFlush).cfg = s.cfg := by
  unfold State.ambFlush
  repeat' split
  all_goals rfl
@[simp] theorem State.ambFlush_prot (s : State) : (s.ambFlush).prot = s.prot := by
  unfold State.ambFlush
  repeat' split
  all_goals rfl
@[simp] theorem State.ambFlush_net (s : State) : (s.ambFlush).net = s.net := by
  unfold State.ambFlush
  repeat' split
  all_goals rfl
@[simp] theorem State.ambFlush_cqi (s : State) : (s.ambFlush).cqi = s.cqi := by
  unfold State.ambFlush
  repeat' split
  all_goals rfl
@[simp] theorem State.ambFlush_tier (s : State) : (s.ambFlush).tier = s.tier := by
  unfold State.ambFlush
  repeat' split
  all_goals rfl
@[simp] theorem State.ambFlush_flash (s : State) : (s.ambFlush).flash = s.flash := by
  unfold State.ambFlush
  repeat' split
  all_goals rfl
@[simp] theorem State.ambFlush_twin (s : State) : (s.ambFlush).twin = s.twin := by
  unfold State.ambFlush
  repeat' split
  all_goals rfl
@[simp] theorem State.ambFlush_dram (s : State) : (s.ambFlush).dram = s.dram := by
  unfold State.ambFlush
  repeat' split
  all_goals rfl
@[simp] theorem State.ambFlush_col (s : State) : (s.ambFlush).col = s.col := by
  unfold State.ambFlush
  repeat' split
  all_goals rfl
@[simp] theorem State.ambFlush_pw (s : State) : (s.ambFlush).pw = s.pw := by
  unfold State.ambFlush
  repeat' split
  all_goals rfl
@[simp] theorem State.ambFlush_gov (s : State) : (s.ambFlush).gov = s.gov := by
  unfold State.ambFlush
  repeat' split
  all_goals rfl
@[simp] theorem State.ambFlush_sealing (s : State) : (s.ambFlush).sealing = s.sealing := by
  unfold State.ambFlush
  repeat' split
  all_goals rfl
@[simp] theorem State.ambFlush_boot (s : State) : (s.ambFlush).boot = s.boot := by
  unfold State.ambFlush
  repeat' split
  all_goals rfl

@[simp] theorem State.ambStage_pending (s : State) (k : BitVec 16) (u : BitVec 8) (p : List Byte) (g : Bool) : (s.ambStage k u p g).pending = s.pending := by
  have go (x : State) : (if 96 ≤ x.amb.staging.length then x.ambFlush else x).pending = x.pending := by
    split
    · exact State.ambFlush_pending x
    · rfl
  exact go _
@[simp] theorem State.ambStage_now (s : State) (k : BitVec 16) (u : BitVec 8) (p : List Byte) (g : Bool) : (s.ambStage k u p g).now = s.now := by
  have go (x : State) : (if 96 ≤ x.amb.staging.length then x.ambFlush else x).now = x.now := by
    split
    · exact State.ambFlush_now x
    · rfl
  exact go _
@[simp] theorem State.ambStage_free (s : State) (k : BitVec 16) (u : BitVec 8) (p : List Byte) (g : Bool) : (s.ambStage k u p g).free = s.free := by
  have go (x : State) : (if 96 ≤ x.amb.staging.length then x.ambFlush else x).free = x.free := by
    split
    · exact State.ambFlush_free x
    · rfl
  exact go _
@[simp] theorem State.ambStage_out (s : State) (k : BitVec 16) (u : BitVec 8) (p : List Byte) (g : Bool) : (s.ambStage k u p g).out = s.out := by
  have go (x : State) : (if 96 ≤ x.amb.staging.length then x.ambFlush else x).out = x.out := by
    split
    · exact State.ambFlush_out x
    · rfl
  exact go _
@[simp] theorem State.ambStage_dbg (s : State) (k : BitVec 16) (u : BitVec 8) (p : List Byte) (g : Bool) : (s.ambStage k u p g).dbg = s.dbg := by
  have go (x : State) : (if 96 ≤ x.amb.staging.length then x.ambFlush else x).dbg = x.dbg := by
    split
    · exact State.ambFlush_dbg x
    · rfl
  exact go _
@[simp] theorem State.ambStage_cfg (s : State) (k : BitVec 16) (u : BitVec 8) (p : List Byte) (g : Bool) : (s.ambStage k u p g).cfg = s.cfg := by
  have go (x : State) : (if 96 ≤ x.amb.staging.length then x.ambFlush else x).cfg = x.cfg := by
    split
    · exact State.ambFlush_cfg x
    · rfl
  exact go _
@[simp] theorem State.ambStage_prot (s : State) (k : BitVec 16) (u : BitVec 8) (p : List Byte) (g : Bool) : (s.ambStage k u p g).prot = s.prot := by
  have go (x : State) : (if 96 ≤ x.amb.staging.length then x.ambFlush else x).prot = x.prot := by
    split
    · exact State.ambFlush_prot x
    · rfl
  exact go _
@[simp] theorem State.ambStage_net (s : State) (k : BitVec 16) (u : BitVec 8) (p : List Byte) (g : Bool) : (s.ambStage k u p g).net = s.net := by
  have go (x : State) : (if 96 ≤ x.amb.staging.length then x.ambFlush else x).net = x.net := by
    split
    · exact State.ambFlush_net x
    · rfl
  exact go _
@[simp] theorem State.ambStage_cqi (s : State) (k : BitVec 16) (u : BitVec 8) (p : List Byte) (g : Bool) : (s.ambStage k u p g).cqi = s.cqi := by
  have go (x : State) : (if 96 ≤ x.amb.staging.length then x.ambFlush else x).cqi = x.cqi := by
    split
    · exact State.ambFlush_cqi x
    · rfl
  exact go _
@[simp] theorem State.ambStage_tier (s : State) (k : BitVec 16) (u : BitVec 8) (p : List Byte) (g : Bool) : (s.ambStage k u p g).tier = s.tier := by
  have go (x : State) : (if 96 ≤ x.amb.staging.length then x.ambFlush else x).tier = x.tier := by
    split
    · exact State.ambFlush_tier x
    · rfl
  exact go _
@[simp] theorem State.ambStage_flash (s : State) (k : BitVec 16) (u : BitVec 8) (p : List Byte) (g : Bool) : (s.ambStage k u p g).flash = s.flash := by
  have go (x : State) : (if 96 ≤ x.amb.staging.length then x.ambFlush else x).flash = x.flash := by
    split
    · exact State.ambFlush_flash x
    · rfl
  exact go _
@[simp] theorem State.ambStage_twin (s : State) (k : BitVec 16) (u : BitVec 8) (p : List Byte) (g : Bool) : (s.ambStage k u p g).twin = s.twin := by
  have go (x : State) : (if 96 ≤ x.amb.staging.length then x.ambFlush else x).twin = x.twin := by
    split
    · exact State.ambFlush_twin x
    · rfl
  exact go _
@[simp] theorem State.ambStage_dram (s : State) (k : BitVec 16) (u : BitVec 8) (p : List Byte) (g : Bool) : (s.ambStage k u p g).dram = s.dram := by
  have go (x : State) : (if 96 ≤ x.amb.staging.length then x.ambFlush else x).dram = x.dram := by
    split
    · exact State.ambFlush_dram x
    · rfl
  exact go _
@[simp] theorem State.ambStage_col (s : State) (k : BitVec 16) (u : BitVec 8) (p : List Byte) (g : Bool) : (s.ambStage k u p g).col = s.col := by
  have go (x : State) : (if 96 ≤ x.amb.staging.length then x.ambFlush else x).col = x.col := by
    split
    · exact State.ambFlush_col x
    · rfl
  exact go _
@[simp] theorem State.ambStage_pw (s : State) (k : BitVec 16) (u : BitVec 8) (p : List Byte) (g : Bool) : (s.ambStage k u p g).pw = s.pw := by
  have go (x : State) : (if 96 ≤ x.amb.staging.length then x.ambFlush else x).pw = x.pw := by
    split
    · exact State.ambFlush_pw x
    · rfl
  exact go _
@[simp] theorem State.ambStage_gov (s : State) (k : BitVec 16) (u : BitVec 8) (p : List Byte) (g : Bool) : (s.ambStage k u p g).gov = s.gov := by
  have go (x : State) : (if 96 ≤ x.amb.staging.length then x.ambFlush else x).gov = x.gov := by
    split
    · exact State.ambFlush_gov x
    · rfl
  exact go _
@[simp] theorem State.ambStage_sealing (s : State) (k : BitVec 16) (u : BitVec 8) (p : List Byte) (g : Bool) : (s.ambStage k u p g).sealing = s.sealing := by
  have go (x : State) : (if 96 ≤ x.amb.staging.length then x.ambFlush else x).sealing = x.sealing := by
    split
    · exact State.ambFlush_sealing x
    · rfl
  exact go _
@[simp] theorem State.ambStage_boot (s : State) (k : BitVec 16) (u : BitVec 8) (p : List Byte) (g : Bool) : (s.ambStage k u p g).boot = s.boot := by
  have go (x : State) : (if 96 ≤ x.amb.staging.length then x.ambFlush else x).boot = x.boot := by
    split
    · exact State.ambFlush_boot x
    · rfl
  exact go _

@[simp] theorem State.ambLostDue_pending (s : State) : (s.ambLostDue).pending = s.pending := by
  unfold State.ambLostDue
  split
  · exact (State.ambStage_pending _ _ _ _ _).trans (State.setEvt_pending _ _ _)
  · rfl
@[simp] theorem State.ambLostDue_now (s : State) : (s.ambLostDue).now = s.now := by
  unfold State.ambLostDue
  split
  · exact (State.ambStage_now _ _ _ _ _).trans (State.setEvt_now _ _ _)
  · rfl
@[simp] theorem State.ambLostDue_free (s : State) : (s.ambLostDue).free = s.free := by
  unfold State.ambLostDue
  split
  · exact (State.ambStage_free _ _ _ _ _).trans (State.setEvt_free _ _ _)
  · rfl
@[simp] theorem State.ambLostDue_out (s : State) : (s.ambLostDue).out = s.out := by
  unfold State.ambLostDue
  split
  · exact (State.ambStage_out _ _ _ _ _).trans (State.setEvt_out _ _ _)
  · rfl
@[simp] theorem State.ambLostDue_dbg (s : State) : (s.ambLostDue).dbg = s.dbg := by
  unfold State.ambLostDue
  split
  · exact (State.ambStage_dbg _ _ _ _ _).trans (State.setEvt_dbg _ _ _)
  · rfl
@[simp] theorem State.ambLostDue_cfg (s : State) : (s.ambLostDue).cfg = s.cfg := by
  unfold State.ambLostDue
  split
  · exact (State.ambStage_cfg _ _ _ _ _).trans (State.setEvt_cfg _ _ _)
  · rfl
@[simp] theorem State.ambLostDue_prot (s : State) : (s.ambLostDue).prot = s.prot := by
  unfold State.ambLostDue
  split
  · exact (State.ambStage_prot _ _ _ _ _).trans (State.setEvt_prot _ _ _)
  · rfl
@[simp] theorem State.ambLostDue_net (s : State) : (s.ambLostDue).net = s.net := by
  unfold State.ambLostDue
  split
  · exact (State.ambStage_net _ _ _ _ _).trans (State.setEvt_net _ _ _)
  · rfl
@[simp] theorem State.ambLostDue_cqi (s : State) : (s.ambLostDue).cqi = s.cqi := by
  unfold State.ambLostDue
  split
  · exact (State.ambStage_cqi _ _ _ _ _).trans (State.setEvt_cqi _ _ _)
  · rfl
@[simp] theorem State.ambLostDue_tier (s : State) : (s.ambLostDue).tier = s.tier := by
  unfold State.ambLostDue
  split
  · exact (State.ambStage_tier _ _ _ _ _).trans (State.setEvt_tier _ _ _)
  · rfl
@[simp] theorem State.ambLostDue_flash (s : State) : (s.ambLostDue).flash = s.flash := by
  unfold State.ambLostDue
  split
  · exact (State.ambStage_flash _ _ _ _ _).trans (State.setEvt_flash _ _ _)
  · rfl
@[simp] theorem State.ambLostDue_twin (s : State) : (s.ambLostDue).twin = s.twin := by
  unfold State.ambLostDue
  split
  · exact (State.ambStage_twin _ _ _ _ _).trans (State.setEvt_twin _ _ _)
  · rfl
@[simp] theorem State.ambLostDue_dram (s : State) : (s.ambLostDue).dram = s.dram := by
  unfold State.ambLostDue
  split
  · exact (State.ambStage_dram _ _ _ _ _).trans (State.setEvt_dram _ _ _)
  · rfl
@[simp] theorem State.ambLostDue_col (s : State) : (s.ambLostDue).col = s.col := by
  unfold State.ambLostDue
  split
  · exact (State.ambStage_col _ _ _ _ _).trans (State.setEvt_col _ _ _)
  · rfl
@[simp] theorem State.ambLostDue_pw (s : State) : (s.ambLostDue).pw = s.pw := by
  unfold State.ambLostDue
  split
  · exact (State.ambStage_pw _ _ _ _ _).trans (State.setEvt_pw _ _ _)
  · rfl
@[simp] theorem State.ambLostDue_gov (s : State) : (s.ambLostDue).gov = s.gov := by
  unfold State.ambLostDue
  split
  · exact (State.ambStage_gov _ _ _ _ _).trans (State.setEvt_gov _ _ _)
  · rfl
@[simp] theorem State.ambLostDue_sealing (s : State) : (s.ambLostDue).sealing = s.sealing := by
  unfold State.ambLostDue
  split
  · exact (State.ambStage_sealing _ _ _ _ _).trans (State.setEvt_sealing _ _ _)
  · rfl
@[simp] theorem State.ambLostDue_boot (s : State) : (s.ambLostDue).boot = s.boot := by
  unfold State.ambLostDue
  split
  · exact (State.ambStage_boot _ _ _ _ _).trans (State.setEvt_boot _ _ _)
  · rfl

@[simp] theorem State.record_pending (s : State) (e : Event) (u : Nat) (p : List Byte) (c : Nat) (lim : Option (Nat × Nat)) :
    (s.record e u p c lim).pending = s.pending := by
  unfold State.record
  extract_lets s1 key held s2 s3 a0 a1 s4
  have h1 : s1.pending = s.pending := State.setEvt_pending _ _ _
  have h2 : s2.pending = s.pending := (State.ambLostDue_pending _).trans h1
  have h4 : s4.pending = s2.pending := by
    simp only [s4]
    split <;> rfl
  split
  · exact h1
  · split
    · exact h1
    · split
      · exact h2
      · exact (State.ambStage_pending _ _ _ _ _).trans (h4.trans h2)

@[simp] theorem State.record_now (s : State) (e : Event) (u : Nat) (p : List Byte) (c : Nat) (lim : Option (Nat × Nat)) :
    (s.record e u p c lim).now = s.now := by
  unfold State.record
  extract_lets s1 key held s2 s3 a0 a1 s4
  have h1 : s1.now = s.now := State.setEvt_now _ _ _
  have h2 : s2.now = s.now := (State.ambLostDue_now _).trans h1
  have h4 : s4.now = s2.now := by
    simp only [s4]
    split <;> rfl
  split
  · exact h1
  · split
    · exact h1
    · split
      · exact h2
      · exact (State.ambStage_now _ _ _ _ _).trans (h4.trans h2)

@[simp] theorem State.record_free (s : State) (e : Event) (u : Nat) (p : List Byte) (c : Nat) (lim : Option (Nat × Nat)) :
    (s.record e u p c lim).free = s.free := by
  unfold State.record
  extract_lets s1 key held s2 s3 a0 a1 s4
  have h1 : s1.free = s.free := State.setEvt_free _ _ _
  have h2 : s2.free = s.free := (State.ambLostDue_free _).trans h1
  have h4 : s4.free = s2.free := by
    simp only [s4]
    split <;> rfl
  split
  · exact h1
  · split
    · exact h1
    · split
      · exact h2
      · exact (State.ambStage_free _ _ _ _ _).trans (h4.trans h2)

@[simp] theorem State.record_out (s : State) (e : Event) (u : Nat) (p : List Byte) (c : Nat) (lim : Option (Nat × Nat)) :
    (s.record e u p c lim).out = s.out := by
  unfold State.record
  extract_lets s1 key held s2 s3 a0 a1 s4
  have h1 : s1.out = s.out := State.setEvt_out _ _ _
  have h2 : s2.out = s.out := (State.ambLostDue_out _).trans h1
  have h4 : s4.out = s2.out := by
    simp only [s4]
    split <;> rfl
  split
  · exact h1
  · split
    · exact h1
    · split
      · exact h2
      · exact (State.ambStage_out _ _ _ _ _).trans (h4.trans h2)

@[simp] theorem State.record_dbg (s : State) (e : Event) (u : Nat) (p : List Byte) (c : Nat) (lim : Option (Nat × Nat)) :
    (s.record e u p c lim).dbg = s.dbg := by
  unfold State.record
  extract_lets s1 key held s2 s3 a0 a1 s4
  have h1 : s1.dbg = s.dbg := State.setEvt_dbg _ _ _
  have h2 : s2.dbg = s.dbg := (State.ambLostDue_dbg _).trans h1
  have h4 : s4.dbg = s2.dbg := by
    simp only [s4]
    split <;> rfl
  split
  · exact h1
  · split
    · exact h1
    · split
      · exact h2
      · exact (State.ambStage_dbg _ _ _ _ _).trans (h4.trans h2)

@[simp] theorem State.record_cfg (s : State) (e : Event) (u : Nat) (p : List Byte) (c : Nat) (lim : Option (Nat × Nat)) :
    (s.record e u p c lim).cfg = s.cfg := by
  unfold State.record
  extract_lets s1 key held s2 s3 a0 a1 s4
  have h1 : s1.cfg = s.cfg := State.setEvt_cfg _ _ _
  have h2 : s2.cfg = s.cfg := (State.ambLostDue_cfg _).trans h1
  have h4 : s4.cfg = s2.cfg := by
    simp only [s4]
    split <;> rfl
  split
  · exact h1
  · split
    · exact h1
    · split
      · exact h2
      · exact (State.ambStage_cfg _ _ _ _ _).trans (h4.trans h2)

@[simp] theorem State.record_prot (s : State) (e : Event) (u : Nat) (p : List Byte) (c : Nat) (lim : Option (Nat × Nat)) :
    (s.record e u p c lim).prot = s.prot := by
  unfold State.record
  extract_lets s1 key held s2 s3 a0 a1 s4
  have h1 : s1.prot = s.prot := State.setEvt_prot _ _ _
  have h2 : s2.prot = s.prot := (State.ambLostDue_prot _).trans h1
  have h4 : s4.prot = s2.prot := by
    simp only [s4]
    split <;> rfl
  split
  · exact h1
  · split
    · exact h1
    · split
      · exact h2
      · exact (State.ambStage_prot _ _ _ _ _).trans (h4.trans h2)

@[simp] theorem State.record_net (s : State) (e : Event) (u : Nat) (p : List Byte) (c : Nat) (lim : Option (Nat × Nat)) :
    (s.record e u p c lim).net = s.net := by
  unfold State.record
  extract_lets s1 key held s2 s3 a0 a1 s4
  have h1 : s1.net = s.net := State.setEvt_net _ _ _
  have h2 : s2.net = s.net := (State.ambLostDue_net _).trans h1
  have h4 : s4.net = s2.net := by
    simp only [s4]
    split <;> rfl
  split
  · exact h1
  · split
    · exact h1
    · split
      · exact h2
      · exact (State.ambStage_net _ _ _ _ _).trans (h4.trans h2)

@[simp] theorem State.record_cqi (s : State) (e : Event) (u : Nat) (p : List Byte) (c : Nat) (lim : Option (Nat × Nat)) :
    (s.record e u p c lim).cqi = s.cqi := by
  unfold State.record
  extract_lets s1 key held s2 s3 a0 a1 s4
  have h1 : s1.cqi = s.cqi := State.setEvt_cqi _ _ _
  have h2 : s2.cqi = s.cqi := (State.ambLostDue_cqi _).trans h1
  have h4 : s4.cqi = s2.cqi := by
    simp only [s4]
    split <;> rfl
  split
  · exact h1
  · split
    · exact h1
    · split
      · exact h2
      · exact (State.ambStage_cqi _ _ _ _ _).trans (h4.trans h2)

@[simp] theorem State.record_tier (s : State) (e : Event) (u : Nat) (p : List Byte) (c : Nat) (lim : Option (Nat × Nat)) :
    (s.record e u p c lim).tier = s.tier := by
  unfold State.record
  extract_lets s1 key held s2 s3 a0 a1 s4
  have h1 : s1.tier = s.tier := State.setEvt_tier _ _ _
  have h2 : s2.tier = s.tier := (State.ambLostDue_tier _).trans h1
  have h4 : s4.tier = s2.tier := by
    simp only [s4]
    split <;> rfl
  split
  · exact h1
  · split
    · exact h1
    · split
      · exact h2
      · exact (State.ambStage_tier _ _ _ _ _).trans (h4.trans h2)

@[simp] theorem State.record_flash (s : State) (e : Event) (u : Nat) (p : List Byte) (c : Nat) (lim : Option (Nat × Nat)) :
    (s.record e u p c lim).flash = s.flash := by
  unfold State.record
  extract_lets s1 key held s2 s3 a0 a1 s4
  have h1 : s1.flash = s.flash := State.setEvt_flash _ _ _
  have h2 : s2.flash = s.flash := (State.ambLostDue_flash _).trans h1
  have h4 : s4.flash = s2.flash := by
    simp only [s4]
    split <;> rfl
  split
  · exact h1
  · split
    · exact h1
    · split
      · exact h2
      · exact (State.ambStage_flash _ _ _ _ _).trans (h4.trans h2)

@[simp] theorem State.record_twin (s : State) (e : Event) (u : Nat) (p : List Byte) (c : Nat) (lim : Option (Nat × Nat)) :
    (s.record e u p c lim).twin = s.twin := by
  unfold State.record
  extract_lets s1 key held s2 s3 a0 a1 s4
  have h1 : s1.twin = s.twin := State.setEvt_twin _ _ _
  have h2 : s2.twin = s.twin := (State.ambLostDue_twin _).trans h1
  have h4 : s4.twin = s2.twin := by
    simp only [s4]
    split <;> rfl
  split
  · exact h1
  · split
    · exact h1
    · split
      · exact h2
      · exact (State.ambStage_twin _ _ _ _ _).trans (h4.trans h2)

@[simp] theorem State.record_dram (s : State) (e : Event) (u : Nat) (p : List Byte) (c : Nat) (lim : Option (Nat × Nat)) :
    (s.record e u p c lim).dram = s.dram := by
  unfold State.record
  extract_lets s1 key held s2 s3 a0 a1 s4
  have h1 : s1.dram = s.dram := State.setEvt_dram _ _ _
  have h2 : s2.dram = s.dram := (State.ambLostDue_dram _).trans h1
  have h4 : s4.dram = s2.dram := by
    simp only [s4]
    split <;> rfl
  split
  · exact h1
  · split
    · exact h1
    · split
      · exact h2
      · exact (State.ambStage_dram _ _ _ _ _).trans (h4.trans h2)

@[simp] theorem State.record_col (s : State) (e : Event) (u : Nat) (p : List Byte) (c : Nat) (lim : Option (Nat × Nat)) :
    (s.record e u p c lim).col = s.col := by
  unfold State.record
  extract_lets s1 key held s2 s3 a0 a1 s4
  have h1 : s1.col = s.col := State.setEvt_col _ _ _
  have h2 : s2.col = s.col := (State.ambLostDue_col _).trans h1
  have h4 : s4.col = s2.col := by
    simp only [s4]
    split <;> rfl
  split
  · exact h1
  · split
    · exact h1
    · split
      · exact h2
      · exact (State.ambStage_col _ _ _ _ _).trans (h4.trans h2)

@[simp] theorem State.record_pw (s : State) (e : Event) (u : Nat) (p : List Byte) (c : Nat) (lim : Option (Nat × Nat)) :
    (s.record e u p c lim).pw = s.pw := by
  unfold State.record
  extract_lets s1 key held s2 s3 a0 a1 s4
  have h1 : s1.pw = s.pw := State.setEvt_pw _ _ _
  have h2 : s2.pw = s.pw := (State.ambLostDue_pw _).trans h1
  have h4 : s4.pw = s2.pw := by
    simp only [s4]
    split <;> rfl
  split
  · exact h1
  · split
    · exact h1
    · split
      · exact h2
      · exact (State.ambStage_pw _ _ _ _ _).trans (h4.trans h2)

@[simp] theorem State.record_gov (s : State) (e : Event) (u : Nat) (p : List Byte) (c : Nat) (lim : Option (Nat × Nat)) :
    (s.record e u p c lim).gov = s.gov := by
  unfold State.record
  extract_lets s1 key held s2 s3 a0 a1 s4
  have h1 : s1.gov = s.gov := State.setEvt_gov _ _ _
  have h2 : s2.gov = s.gov := (State.ambLostDue_gov _).trans h1
  have h4 : s4.gov = s2.gov := by
    simp only [s4]
    split <;> rfl
  split
  · exact h1
  · split
    · exact h1
    · split
      · exact h2
      · exact (State.ambStage_gov _ _ _ _ _).trans (h4.trans h2)

@[simp] theorem State.record_sealing (s : State) (e : Event) (u : Nat) (p : List Byte) (c : Nat) (lim : Option (Nat × Nat)) :
    (s.record e u p c lim).sealing = s.sealing := by
  unfold State.record
  extract_lets s1 key held s2 s3 a0 a1 s4
  have h1 : s1.sealing = s.sealing := State.setEvt_sealing _ _ _
  have h2 : s2.sealing = s.sealing := (State.ambLostDue_sealing _).trans h1
  have h4 : s4.sealing = s2.sealing := by
    simp only [s4]
    split <;> rfl
  split
  · exact h1
  · split
    · exact h1
    · split
      · exact h2
      · exact (State.ambStage_sealing _ _ _ _ _).trans (h4.trans h2)

@[simp] theorem State.record_boot (s : State) (e : Event) (u : Nat) (p : List Byte) (c : Nat) (lim : Option (Nat × Nat)) :
    (s.record e u p c lim).boot = s.boot := by
  unfold State.record
  extract_lets s1 key held s2 s3 a0 a1 s4
  have h1 : s1.boot = s.boot := State.setEvt_boot _ _ _
  have h2 : s2.boot = s.boot := (State.ambLostDue_boot _).trans h1
  have h4 : s4.boot = s2.boot := by
    simp only [s4]
    split <;> rfl
  split
  · exact h1
  · split
    · exact h1
    · split
      · exact h2
      · exact (State.ambStage_boot _ _ _ _ _).trans (h4.trans h2)

/-! ### emit -/

@[simp] theorem State.emit_pending (s : State) (o : Out) : (s.emit o).pending = s.pending := by
  unfold State.emit
  repeat' split
  all_goals rfl

@[simp] theorem State.emit_now (s : State) (o : Out) : (s.emit o).now = s.now := by
  unfold State.emit
  repeat' split
  all_goals rfl

@[simp] theorem State.emit_free (s : State) (o : Out) : (s.emit o).free = s.free := by
  unfold State.emit
  repeat' split
  all_goals rfl

@[simp] theorem State.emit_amb (s : State) (o : Out) : (s.emit o).amb = s.amb := by
  unfold State.emit
  repeat' split
  all_goals rfl

@[simp] theorem State.emit_dbg (s : State) (o : Out) : (s.emit o).dbg = s.dbg := by
  unfold State.emit
  repeat' split
  all_goals rfl

@[simp] theorem State.emit_cfg (s : State) (o : Out) : (s.emit o).cfg = s.cfg := by
  unfold State.emit
  repeat' split
  all_goals rfl

@[simp] theorem State.emit_prot (s : State) (o : Out) : (s.emit o).prot = s.prot := by
  unfold State.emit
  repeat' split
  all_goals rfl

@[simp] theorem State.emit_net (s : State) (o : Out) : (s.emit o).net = s.net := by
  unfold State.emit
  repeat' split
  all_goals rfl

@[simp] theorem State.emit_cqi (s : State) (o : Out) : (s.emit o).cqi = s.cqi := by
  unfold State.emit
  repeat' split
  all_goals rfl

@[simp] theorem State.emit_tier (s : State) (o : Out) : (s.emit o).tier = s.tier := by
  unfold State.emit
  repeat' split
  all_goals rfl

@[simp] theorem State.emit_flash (s : State) (o : Out) : (s.emit o).flash = s.flash := by
  unfold State.emit
  repeat' split
  all_goals rfl

@[simp] theorem State.emit_twin (s : State) (o : Out) : (s.emit o).twin = s.twin := by
  unfold State.emit
  repeat' split
  all_goals rfl

@[simp] theorem State.emit_dram (s : State) (o : Out) : (s.emit o).dram = s.dram := by
  unfold State.emit
  repeat' split
  all_goals rfl

@[simp] theorem State.emit_col (s : State) (o : Out) : (s.emit o).col = s.col := by
  unfold State.emit
  repeat' split
  all_goals rfl

@[simp] theorem State.emit_pw (s : State) (o : Out) : (s.emit o).pw = s.pw := by
  unfold State.emit
  repeat' split
  all_goals rfl

@[simp] theorem State.emit_gov (s : State) (o : Out) : (s.emit o).gov = s.gov := by
  unfold State.emit
  repeat' split
  all_goals rfl

@[simp] theorem State.emit_sealing (s : State) (o : Out) : (s.emit o).sealing = s.sealing := by
  unfold State.emit
  repeat' split
  all_goals rfl

@[simp] theorem State.emit_boot (s : State) (o : Out) : (s.emit o).boot = s.boot := by
  unfold State.emit
  repeat' split
  all_goals rfl

@[simp] theorem State.emit_mbus (s : State) (o : Out) : (s.emit o).mbus = s.mbus := by
  unfold State.emit
  repeat' split
  all_goals rfl

/-- What has no frame leaves in any case. -/
theorem State.emit_out_signal (s : State) (o : Out) (h : o.frame = none) : (s.emit o).out = o :: s.out := by
  unfold State.emit
  rw [h]

/-- A frame leaves a port whose link is up (R80). -/
theorem State.emit_out_up (s : State) (o : Out) {p : Nat} {q : Option Nat} {len : Nat} (h : o.frame = some (p, q, len)) (u : s.linkUp p = true) :
    (s.emit o).out = o :: s.out := by
  unfold State.emit
  rw [h]
  simp only [u, if_true]
  rfl

end Sys2Proof.Machine
end

