-- ==== Sys2Proof/Laws/Tidy.lean ====
section
/-! SUPPORT. Sys2Proof/Laws/Tidy.lean: the canonical forms. State.Tidy says that the register bank and the three byte memories
are in canonical form; every operation of the model has a lemma that says it keeps them so. -/

namespace Sys2Proof.Machine

/-- The register bank and the byte memories are in canonical form. -/
structure Tidy (s : State) : Prop where
  regs : swf regReset s.regs = true
  t1 : Memory.wf 0 s.tier.t1 = true
  t2 : Memory.wf 0 s.flash.t2 = true
  cf : Memory.wf 0xFF s.boot.cf = true

/-- If an outcome is a next state, that state is tidy. -/
def Tidies (o : Host.Outcome State Fault Refusal) : Prop := ∀ t, o = .next t → Tidy t

theorem tidy_mk {pending : List Instr} {now free : Nat} {regs : List (Nat × BitVec 32)} {out : List Out} {amb : Amber} {dbg : Debug}
    {cfg : Config19} {prot : Protect} {net : Net} {cqi : Cqi} {tier : Tier} {flash : Flash} {twin : Twin} {dram : Dram}
    {col : Colony} {pw : Power} {gov : Gov} {sealing : Seal} {boot : Boot} {mbus : Mbus}
    (h1 : swf regReset regs = true) (h2 : Memory.wf 0 tier.t1 = true) (h3 : Memory.wf 0 flash.t2 = true) (h4 : Memory.wf 0xFF boot.cf = true) :
    Tidy (State.mk pending now free regs out amb dbg cfg prot net cqi tier flash twin dram col pw gov sealing boot mbus) :=
  ⟨h1, h2, h3, h4⟩

theorem tidy_regs {s : State} (h : Tidy s) : swf regReset s.regs = true := h.regs
theorem tidy_t1 {s : State} (h : Tidy s) : Memory.wf 0 s.tier.t1 = true := h.t1
theorem tidy_t2 {s : State} (h : Tidy s) : Memory.wf 0 s.flash.t2 = true := h.t2
theorem tidy_cf {s : State} (h : Tidy s) : Memory.wf 0xFF s.boot.cf = true := h.cf

theorem swf_nil {α : Type} [DecidableEq α] (d : Nat → α) : swf d [] = true := rfl
theorem wf_nil (d : Byte) : Memory.wf d [] = true := rfl

theorem wf_sput (d : Byte) (m : List Host.Cell) (a : Nat) (b : Byte) (h : Memory.wf d m = true) :
    Memory.wf d (sput (fun _ => d) m a b) = true := swf_sput _ m a b h

theorem wf_cells (d : Byte) (l m : List Host.Cell) (h : Memory.wf d m = true) :
    Memory.wf d (l.foldr (fun c m => sput (fun _ => d) m c.1 c.2) m) = true := by
  induction l with
  | nil => exact h
  | cons c l ih => exact wf_sput d _ c.1 c.2 ih

theorem tidy_ite {c : Prop} [Decidable c] {a b : State} (ha : Tidy a) (hb : Tidy b) : Tidy (if c then a else b) := by
  split
  · exact ha
  · exact hb

theorem tidy_ite1 {β : Type} {c : Prop} [Decidable c] {a b : State × β} (ha : Tidy a.1) (hb : Tidy b.1) : Tidy (if c then a else b).1 := by
  split
  · exact ha
  · exact hb

theorem foldl_tidy {α : Type} (g : State → α → State) (l : List α) (s : State) (hs : Tidy s) (h : ∀ s a, Tidy s → Tidy (g s a)) :
    Tidy (l.foldl g s) := by
  induction l generalizing s with
  | nil => exact hs
  | cons a l ih => exact ih (g s a) (h s a hs)

theorem foldl_tidy1 {α β : Type} (g : State × β → α → State × β) (l : List α) (p : State × β) (hp : Tidy p.1)
    (h : ∀ p a, Tidy p.1 → Tidy (g p a).1) : Tidy (l.foldl g p).1 := by
  induction l generalizing p with
  | nil => exact hp
  | cons a l ih => exact ih (g p a) (h p a hp)

theorem tidy_of_pair {β : Type} {p : State × β} {t : State} {r : β} (h : p = (t, r)) (hp : Tidy p.1) : Tidy t := by rw [h] at hp; exact hp

theorem tidy_of_some {β : Type} {o : Option (State × β)} {t : State} {r : β} (h : o = some (t, r)) (ho : ∀ x, o = some x → Tidy x.1) :
    Tidy t := ho _ h

theorem tidies_next {t : State} (h : Tidy t) : Tidies (.next t) := fun _ e => by cases e; exact h

theorem tidies_refused (r : Refusal) : Tidies (.refused r) := fun _ e => by cases e

theorem tidies_core {s t : State} (hs : Tidy s) (ht : Tidy t) : Tidies (s.core t) := tidies_next (tidy_ite ht hs)

theorem tidies_ite {c : Prop} [Decidable c] {a b : Host.Outcome State Fault Refusal} (ha : Tidies a) (hb : Tidies b) :
    Tidies (if c then a else b) := by
  split
  · exact ha
  · exact hb

end Sys2Proof.Machine
end

