-- ==== Sys2Proof/Laws/TidyCore.lean ====
section
/-! SUPPORT. Sys2Proof/Laws/TidyCore.lean: the registers, the ports, the cache, the tiers, the keys, the transport and the queues keep the
canonical forms: one lemma for each operation. -/

namespace Sys2Proof.Machine

/-! ### Ops.lean -/

theorem State.setReg_tidy (s : State) (a : Nat) (v : BitVec 32) (hs0 : Tidy s) :
    Tidy (State.setReg s a v) := by
  unfold State.setReg
  exact tidy_mk (swf_sput _ _ _ _ hs0.regs) hs0.t1 hs0.t2 hs0.cf

theorem State.put_tidy (s : State) (f : Field) (v : Nat) (hs0 : Tidy s) :
    Tidy (State.put s f v) := by
  unfold State.put
  simp +contextual (maxDischargeDepth := 100) only [hs0, ↓State.setReg_tidy]

theorem State.putB_tidy (s : State) (f : Field) (b : Bool) (hs0 : Tidy s) :
    Tidy (State.putB s f b) := by
  unfold State.putB
  simp +contextual (maxDischargeDepth := 100) only [hs0, ↓State.put_tidy]

theorem State.countBy_tidy (s : State) (a : Nat) (n : Nat) (hs0 : Tidy s) :
    Tidy (State.countBy s a n) := by
  unfold State.countBy
  simp +contextual (maxDischargeDepth := 100) only [hs0, ↓State.setReg_tidy]

theorem State.count_tidy (s : State) (a : Nat) (hs0 : Tidy s) :
    Tidy (State.count s a) := by
  unfold State.count
  simp +contextual (maxDischargeDepth := 100) only [hs0, ↓State.countBy_tidy]

theorem State.countMax_tidy (s : State) (a : Nat) (n : Nat) (hs0 : Tidy s) :
    Tidy (State.countMax s a n) := by
  unfold State.countMax
  simp +contextual (maxDischargeDepth := 100) only [hs0, ↓State.setReg_tidy]

theorem State.setReg64_tidy (s : State) (lo : Nat) (hi : Nat) (v : Nat) (hs0 : Tidy s) :
    Tidy (State.setReg64 s lo hi v) := by
  unfold State.setReg64
  simp +contextual (maxDischargeDepth := 100) only [hs0, ↓State.setReg_tidy]

theorem State.setRegBit_tidy (s : State) (a : Nat) (n : Nat) (b : Bool) (hs0 : Tidy s) :
    Tidy (State.setRegBit s a n b) := by
  unfold State.setRegBit
  simp +contextual (maxDischargeDepth := 100) only [hs0, ↓State.put_tidy]

theorem State.draw_tidy (s : State) (hs0 : Tidy s) :
    Tidy (State.draw s).2 := by
  unfold State.draw
  simp +contextual (maxDischargeDepth := 100) only [hs0, ↓tidy_mk, tidy_regs, tidy_t1, tidy_t2, tidy_cf]

/-! ### Flags.lean -/

theorem State.setEvt_tidy (s : State) (e : Event) (c : Nat) (hs0 : Tidy s) :
    Tidy (State.setEvt s e c) := by
  unfold State.setEvt
  split <;> simp +contextual (maxDischargeDepth := 100) only [hs0, ↓tidy_mk, tidy_regs, tidy_t1, tidy_t2, tidy_cf, ↓State.setRegBit_tidy]

theorem State.ambFlush_tidy (s : State) (hs0 : Tidy s) :
    Tidy (State.ambFlush s) := by
  unfold State.ambFlush
  split <;> simp +contextual (maxDischargeDepth := 100) only [hs0, ↓tidy_mk, tidy_regs, tidy_t1, tidy_t2, tidy_cf, ↓tidy_ite]

theorem State.ambStage_tidy (s : State) (code : BitVec 16) (unit : BitVec 8) (payload : List Byte) (urgent : Bool) (hs0 : Tidy s) :
    Tidy (State.ambStage s code unit payload urgent) := by
  unfold State.ambStage
  simp +contextual (maxDischargeDepth := 100) only [hs0, ↓tidy_mk, tidy_regs, tidy_t1, tidy_t2, tidy_cf, ↓tidy_ite, ↓State.ambFlush_tidy]

theorem State.ambLostDue_tidy (s : State) (hs0 : Tidy s) :
    Tidy (State.ambLostDue s) := by
  unfold State.ambLostDue
  simp +contextual (maxDischargeDepth := 100) only [hs0, ↓tidy_mk, tidy_regs, tidy_t1, tidy_t2, tidy_cf, ↓tidy_ite, ↓State.ambStage_tidy, ↓State.setEvt_tidy]

theorem State.record_tidy (s : State) (e : Event) (unit : Nat) (payload : List Byte) (c : Nat) (lim : Option (Nat × Nat)) (hs0 : Tidy s) :
    Tidy (State.record s e unit payload c lim) := by
  unfold State.record
  simp +contextual (maxDischargeDepth := 100) only [hs0, ↓tidy_mk, tidy_regs, tidy_t1, tidy_t2, tidy_cf, ↓tidy_ite, ↓State.ambLostDue_tidy, ↓State.ambStage_tidy, ↓State.count_tidy, ↓State.setEvt_tidy, ↓State.setReg_tidy]

/-! ### Cache.lean -/

theorem State.touchWay_tidy (s : State) (set : Nat) (w : Nat) (hs0 : Tidy s) :
    Tidy (State.touchWay s set w) := by
  unfold State.touchWay
  simp +contextual (maxDischargeDepth := 100) only [hs0, ↓tidy_mk, tidy_regs, tidy_t1, tidy_t2, tidy_cf]

theorem State.t1Write_tidy (s : State) (a : Nat) (bs : List Byte) (hs0 : Tidy s) :
    Tidy (State.t1Write s a bs) := by
  unfold State.t1Write
  simp +contextual (maxDischargeDepth := 100) only [hs0, ↓tidy_mk, tidy_regs, tidy_t1, tidy_t2, tidy_cf, Memory.wf_memWrite]

theorem State.setLine_tidy (s : State) (l : Nat) (x : Line) (hs0 : Tidy s) :
    Tidy (State.setLine s l x) := by
  unfold State.setLine
  simp +contextual (maxDischargeDepth := 100) only [hs0, ↓tidy_mk, tidy_regs, tidy_t1, tidy_t2, tidy_cf]

theorem State.dropLine_tidy (s : State) (l : Nat) (hs0 : Tidy s) :
    Tidy (State.dropLine s l) := by
  unfold State.dropLine
  simp +contextual (maxDischargeDepth := 100) only [hs0, ↓tidy_mk, tidy_regs, tidy_t1, tidy_t2, tidy_cf]

theorem State.cleanLine_tidy (s : State) (l : Nat) (hs0 : Tidy s) :
    Tidy (State.cleanLine s l) := by
  unfold State.cleanLine
  split <;> simp +contextual (maxDischargeDepth := 100) only [hs0, ↓tidy_ite, ↓State.count_tidy, ↓State.setLine_tidy, ↓State.t1Write_tidy]

theorem State.cleanInvLine_tidy (s : State) (l : Nat) (hs0 : Tidy s) :
    Tidy (State.cleanInvLine s l) := by
  unfold State.cleanInvLine
  simp +contextual (maxDischargeDepth := 100) only [hs0, ↓State.cleanLine_tidy, ↓State.dropLine_tidy]

theorem State.cleanInvUnit_tidy (s : State) (unit : Nat) (hs0 : Tidy s) :
    Tidy (State.cleanInvUnit s unit) := by
  unfold State.cleanInvUnit
  simp +contextual (maxDischargeDepth := 100) only [hs0, ↓foldl_tidy, implies_true, ↓State.cleanInvLine_tidy]

theorem State.cleanUnit_tidy (s : State) (unit : Nat) (hs0 : Tidy s) :
    Tidy (State.cleanUnit s unit) := by
  unfold State.cleanUnit
  simp +contextual (maxDischargeDepth := 100) only [hs0, ↓foldl_tidy, implies_true, ↓State.cleanLine_tidy]

theorem State.allocLine_tidy (s : State) (l : Nat) (x : Line) (hs0 : Tidy s) :
    Tidy (State.allocLine s l x) := by
  unfold State.allocLine
  simp +contextual (maxDischargeDepth := 100) only [hs0, ↓foldl_tidy, implies_true, ↓State.cleanInvLine_tidy, ↓State.setLine_tidy, ↓State.touchWay_tidy]

theorem State.writeLine_tidy (s : State) (alloc : Bool) (l : Nat) (off : Nat) (bs : List Byte) (hs0 : Tidy s) :
    Tidy (State.writeLine s alloc l off bs) := by
  unfold State.writeLine
  split <;> simp +contextual (maxDischargeDepth := 100) only [hs0, ↓tidy_ite, ↓State.allocLine_tidy, ↓State.setLine_tidy, ↓State.t1Write_tidy]

theorem State.poolWrite_tidy (s : State) (a : Nat) (bs : List Byte) (hs0 : Tidy s) :
    Tidy (State.poolWrite s a bs) := by
  unfold State.poolWrite
  simp +contextual (maxDischargeDepth := 100) only [hs0, ↓foldl_tidy, implies_true, ↓State.writeLine_tidy]

theorem State.hitLine_tidy (s : State) (l : Nat) (hs0 : Tidy s) :
    Tidy (State.hitLine s l) := by
  unfold State.hitLine
  split <;> simp +contextual (maxDischargeDepth := 100) only [hs0, ↓State.count_tidy, ↓State.touchWay_tidy]

theorem State.startLineFill_tidy (s : State) (l : Nat) (hs0 : Tidy s) :
    Tidy (State.startLineFill s l).1 := by
  unfold State.startLineFill
  simp +contextual (maxDischargeDepth := 100) only [hs0, ↓tidy_ite1, ↓State.allocLine_tidy, ↓State.count_tidy]

theorem State.endLineFill_tidy (s : State) (l : Nat) (hs0 : Tidy s) :
    Tidy (State.endLineFill s l) := by
  unfold State.endLineFill
  split <;> simp +contextual (maxDischargeDepth := 100) only [hs0, ↓tidy_ite, ↓State.setLine_tidy]

/-! ### Ports.lean -/

theorem State.emit_tidy (s : State) (o : Out) (hs0 : Tidy s) :
    Tidy (State.emit s o) := by
  unfold State.emit
  split <;> simp +contextual (maxDischargeDepth := 100) only [hs0, ↓tidy_mk, tidy_regs, tidy_t1, tidy_t2, tidy_cf, ↓tidy_ite, ↓State.countBy_tidy]

theorem State.updLink_tidy (s : State) (bulk : Bool) (f : LinkStream → LinkStream) (hs0 : Tidy s) :
    Tidy (State.updLink s bulk f) := by
  unfold State.updLink
  simp +contextual (maxDischargeDepth := 100) only [hs0, ↓tidy_mk, tidy_regs, tidy_t1, tidy_t2, tidy_cf, ↓tidy_ite]

theorem State.linkPut_tidy (s : State) (bulk : Bool) (len : Nat) (o : Out) (hs0 : Tidy s) :
    Tidy (State.linkPut s bulk len o) := by
  unfold State.linkPut
  simp +contextual (maxDischargeDepth := 100) only [hs0, ↓State.emit_tidy, ↓State.updLink_tidy]

theorem State.linkSend_tidy (s : State) (bulk : Bool) (len : Nat) (o : Out) (hs0 : Tidy s) :
    Tidy (State.linkSend s bulk len o) := by
  unfold State.linkSend
  simp +contextual (maxDischargeDepth := 100) only [hs0, ↓tidy_ite, ↓State.linkPut_tidy, ↓State.updLink_tidy]

theorem State.linkPump_tidy (s : State) (bulk : Bool) (x2 : Nat) (hs0 : Tidy s) :
    Tidy (State.linkPump s bulk x2) := by
  induction x2 generalizing s with
  | zero => exact hs0
  | succ n ih =>
    unfold State.linkPump
    split
    · exact tidy_ite hs0 (ih _ (State.linkPut_tidy _ _ _ _ (State.updLink_tidy _ _ _ hs0)))
    · exact hs0

theorem State.updHome_tidy (s : State) (h : Nat) (f : HomeSt → HomeSt) (hs0 : Tidy s) :
    Tidy (State.updHome s h f) := by
  unfold State.updHome
  simp +contextual (maxDischargeDepth := 100) only [hs0, ↓tidy_mk, tidy_regs, tidy_t1, tidy_t2, tidy_cf]

theorem State.quiet_tidy (s : State) (h : Nat) (f : State → State) (hs0 : Tidy s) (h_f : ∀ a0, Tidy a0 → Tidy (f a0)) :
    Tidy (State.quiet s h f) := by
  unfold State.quiet
  simp +contextual (maxDischargeDepth := 100) only [hs0, ↓tidy_mk, tidy_regs, tidy_t1, tidy_t2, tidy_cf, ↓tidy_ite, ↓foldl_tidy, implies_true, ↓State.setReg_tidy, ↓h_f]

theorem State.updPort_tidy (s : State) (p : Nat) (f : Port → Port) (hs0 : Tidy s) :
    Tidy (State.updPort s p f) := by
  unfold State.updPort
  simp +contextual (maxDischargeDepth := 100) only [hs0, ↓tidy_mk, tidy_regs, tidy_t1, tidy_t2, tidy_cf]

theorem State.wake_tidy (s : State) (src : Nat) (hs0 : Tidy s) :
    Tidy (State.wake s src) := by
  unfold State.wake
  simp +contextual (maxDischargeDepth := 100) only [hs0, ↓tidy_mk, tidy_regs, tidy_t1, tidy_t2, tidy_cf, ↓tidy_ite, ↓State.count_tidy, ↓State.put_tidy, ↓State.setReg_tidy]

theorem State.setPause_tidy (s : State) (p : Nat) (c : Nat) (f : ClassSt → ClassSt) (hs0 : Tidy s) :
    Tidy (State.setPause s p c f) := by
  unfold State.setPause
  simp +contextual (maxDischargeDepth := 100) only [hs0, ↓tidy_ite, ↓State.count_tidy, ↓State.emit_tidy, ↓State.putB_tidy, ↓State.updPort_tidy]

theorem State.setPauseAll_tidy (s : State) (f : ClassSt → ClassSt) (hs0 : Tidy s) :
    Tidy (State.setPauseAll s f) := by
  unfold State.setPauseAll
  simp +contextual (maxDischargeDepth := 100) only [hs0, ↓tidy_ite, ↓foldl_tidy, implies_true, ↓State.setPause_tidy]

theorem State.bufferPause_tidy (s : State) (p : Nat) (c : Nat) (hs0 : Tidy s) :
    Tidy (State.bufferPause s p c) := by
  unfold State.bufferPause
  simp +contextual (maxDischargeDepth := 100) only [hs0, ↓tidy_ite, ↓State.setPause_tidy]

theorem State.bufferPauseAll_tidy (s : State) (hs0 : Tidy s) :
    Tidy (State.bufferPauseAll s) := by
  unfold State.bufferPauseAll
  simp +contextual (maxDischargeDepth := 100) only [hs0, ↓foldl_tidy, implies_true, ↓State.bufferPause_tidy]

/-! ### Tier.lean -/

theorem State.updRegion_tidy (s : State) (base : Nat) (f : Region → Region) (hs0 : Tidy s) :
    Tidy (State.updRegion s base f) := by
  unfold State.updRegion
  simp +contextual (maxDischargeDepth := 100) only [hs0, ↓tidy_mk, tidy_regs, tidy_t1, tidy_t2, tidy_cf]

theorem State.setFrame_tidy (s : State) (u : Nat) (f : Frame) (hs0 : Tidy s) :
    Tidy (State.setFrame s u f) := by
  unfold State.setFrame
  simp +contextual (maxDischargeDepth := 100) only [hs0, ↓tidy_mk, tidy_regs, tidy_t1, tidy_t2, tidy_cf]

theorem State.updFrame_tidy (s : State) (u : Nat) (f : Frame → Frame) (hs0 : Tidy s) :
    Tidy (State.updFrame s u f) := by
  unfold State.updFrame
  simp +contextual (maxDischargeDepth := 100) only [hs0, ↓tidy_mk, tidy_regs, tidy_t1, tidy_t2, tidy_cf]

theorem State.setGranule_tidy (s : State) (g : Nat) (x : Granule) (hs0 : Tidy s) :
    Tidy (State.setGranule s g x) := by
  unfold State.setGranule
  simp +contextual (maxDischargeDepth := 100) only [hs0, ↓tidy_mk, tidy_regs, tidy_t1, tidy_t2, tidy_cf]

theorem State.dirtyPause_tidy (s : State) (hs0 : Tidy s) :
    Tidy (State.dirtyPause s) := by
  unfold State.dirtyPause
  simp +contextual (maxDischargeDepth := 100) only [hs0, ↓tidy_ite, ↓State.count_tidy, ↓State.put_tidy, ↓State.record_tidy, ↓State.setPauseAll_tidy]

theorem State.dropClaim_tidy (s : State) (t : Nat) (g : Nat) (hs0 : Tidy s) :
    Tidy (State.dropClaim s t g) := by
  unfold State.dropClaim
  simp +contextual (maxDischargeDepth := 100) only [hs0, ↓State.setGranule_tidy]

theorem State.access_tidy (s : State) (t : Nat) (g : Nat) (hs0 : Tidy s) :
    Tidy (State.access s t g) := by
  unfold State.access
  repeat' first
    | simp +contextual (maxDischargeDepth := 100) only [hs0, ↓State.count_tidy, ↓State.dropClaim_tidy, ↓State.setGranule_tidy]
    | refine tidy_ite ?_ ?_
    | split

theorem State.releaseFrame_tidy (s : State) (u : Nat) (hs0 : Tidy s) :
    Tidy (State.releaseFrame s u) := by
  unfold State.releaseFrame
  simp +contextual (maxDischargeDepth := 100) only [hs0, ↓tidy_mk, tidy_regs, tidy_t1, tidy_t2, tidy_cf, ↓State.cleanInvUnit_tidy, Memory.wf_memClear]

theorem State.evict_tidy (s : State) (g : Nat) (hs0 : Tidy s) :
    Tidy (State.evict s g) := by
  unfold State.evict
  simp +contextual (maxDischargeDepth := 100) only [hs0, ↓foldl_tidy, implies_true, ↓State.count_tidy, ↓State.releaseFrame_tidy]

theorem State.transientRoom_tidy (s : State) (hs0 : Tidy s) :
    Tidy (State.transientRoom s).1 := by
  unfold State.transientRoom
  repeat' first
    | assumption
    | simp +contextual (maxDischargeDepth := 100) only [hs0, ↓State.releaseFrame_tidy]
    | refine tidy_ite1 ?_ ?_
    | split

theorem State.roomFor_tidy (s : State) (g : Nat) (quota : Nat) (hs0 : Tidy s) :
    Tidy (State.roomFor s g quota).1 := by
  unfold State.roomFor
  repeat' split
  all_goals simp +contextual (maxDischargeDepth := 100) only [hs0, ↓tidy_ite, ↓tidy_ite1, ↓State.evict_tidy, ↓State.put_tidy, ↓State.record_tidy, ↓State.setGranule_tidy, ↓State.transientRoom_tidy]

theorem State.startFill_tidy (s : State) (u : Nat) (hs0 : Tidy s) :
    Tidy (State.startFill s u) := by
  unfold State.startFill
  split <;> simp +contextual (maxDischargeDepth := 100) only [hs0, ↓tidy_ite, ↓State.count_tidy, ↓State.setFrame_tidy]

theorem State.newFrame_tidy (s : State) (u : Nat) (transient : Bool) (hs0 : Tidy s) :
    Tidy (State.newFrame s u transient) := by
  unfold State.newFrame
  simp +contextual (maxDischargeDepth := 100) only [hs0, ↓State.setFrame_tidy]

theorem State.obtain_tidy (s : State) (u : Nat) (quota : Nat) (hs0 : Tidy s) :
    Tidy (State.obtain s u quota).1 := by
  unfold State.obtain
  repeat' first
    | simp +contextual (maxDischargeDepth := 100) only [hs0, ↓State.newFrame_tidy, ↓State.roomFor_tidy, ↓State.setFrame_tidy]
    | split

theorem State.readyLine_tidy (s : State) (needs : Bool) (quota : Nat) (l : Nat) (hs0 : Tidy s) :
    Tidy (State.readyLine s needs quota l).1 := by
  unfold State.readyLine
  repeat' first
    | simp +contextual (maxDischargeDepth := 100) only [hs0, ↓tidy_ite1, ↓State.count_tidy, ↓State.obtain_tidy, ↓State.startFill_tidy, ↓State.startLineFill_tidy]
    | split

theorem State.readyRange_tidy (s : State) (isRead : Bool) (quota : Nat) (addr : Nat) (len : Nat) (hs0 : Tidy s) :
    Tidy (State.readyRange s isRead quota addr len).1 := by
  unfold State.readyRange
  simp +contextual (maxDischargeDepth := 100) only [hs0, ↓tidy_ite1, ↓foldl_tidy1, implies_true, ↓State.readyLine_tidy]

theorem State.markWritten_tidy (s : State) (addr : Nat) (len : Nat) (persistent : Bool) (hs0 : Tidy s) :
    Tidy (State.markWritten s addr len persistent) := by
  unfold State.markWritten
  try dsimp only
  repeat' first
    | with_reducible assumption
    | with_reducible refine State.setFrame_tidy _ _ _ ?_
    | with_reducible refine tidy_regs ?_
    | with_reducible refine tidy_t1 ?_
    | with_reducible refine tidy_t2 ?_
    | with_reducible refine tidy_cf ?_
    | refine tidy_ite ?_ ?_
    | split
    | with_reducible refine foldl_tidy _ _ _ ?_ (fun s a h => ?_)
    | with_reducible refine tidy_mk ?_ ?_ ?_ ?_

theorem State.writeWords_tidy (s : State) (addr : Nat) (len : Nat) (hs0 : Tidy s) :
    Tidy (State.writeWords s addr len) := by
  unfold State.writeWords
  simp +contextual (maxDischargeDepth := 100) only [hs0, ↓tidy_mk, tidy_regs, tidy_t1, tidy_t2, tidy_cf, ↓tidy_ite, ↓foldl_tidy, implies_true, ↓State.poolWrite_tidy]

theorem State.unwrite_tidy (s : State) (addr : Nat) (len : Nat) (hs0 : Tidy s) :
    Tidy (State.unwrite s addr len) := by
  unfold State.unwrite
  simp +contextual (maxDischargeDepth := 100) only [hs0, ↓tidy_mk, tidy_regs, tidy_t1, tidy_t2, tidy_cf]

theorem State.clearUncorr_tidy (s : State) (addr : Nat) (len : Nat) (hs0 : Tidy s) :
    Tidy (State.clearUncorr s addr len) := by
  unfold State.clearUncorr
  simp +contextual (maxDischargeDepth := 100) only [hs0, ↓tidy_mk, tidy_regs, tidy_t1, tidy_t2, tidy_cf]

theorem State.noteChange_tidy (s : State) (h : Nat) (addr : Nat) (len : Nat) (hs0 : Tidy s) :
    Tidy (State.noteChange s h addr len) := by
  unfold State.noteChange
  simp +contextual (maxDischargeDepth := 100) only [hs0, ↓tidy_ite, ↓State.updHome_tidy]

theorem State.noteDirty_tidy (s : State) (h : Nat) (addr : Nat) (len : Nat) (hs0 : Tidy s) :
    Tidy (State.noteDirty s h addr len) := by
  unfold State.noteDirty
  simp +contextual (maxDischargeDepth := 100) only [hs0, ↓State.updHome_tidy]

theorem State.placeBytes_tidy (s : State) (r : Region) (addr : Nat) (bs : List Byte) (twin : Bool) (hs0 : Tidy s) :
    Tidy (State.placeBytes s r addr bs twin) := by
  unfold State.placeBytes
  simp +contextual (maxDischargeDepth := 100) only [hs0, ↓tidy_ite, ↓foldl_tidy, implies_true, ↓State.clearUncorr_tidy, ↓State.markWritten_tidy, ↓State.noteChange_tidy, ↓State.noteDirty_tidy, ↓State.writeLine_tidy, ↓State.writeWords_tidy]

theorem State.journalAdd_tidy (s : State) (e : JEntry) (hs0 : Tidy s) :
    Tidy (State.journalAdd s e) := by
  unfold State.journalAdd
  simp +contextual (maxDischargeDepth := 100) only [hs0, ↓tidy_mk, tidy_regs, tidy_t1, tidy_t2, tidy_cf]

theorem State.unmap_tidy (s : State) (u : Nat) (hs0 : Tidy s) :
    Tidy (State.unmap s u) := by
  unfold State.unmap
  simp +contextual (maxDischargeDepth := 100) only [hs0, ↓tidy_mk, tidy_regs, tidy_t1, tidy_t2, tidy_cf, ↓State.journalAdd_tidy, Memory.wf_memClear]

theorem State.trimRange_tidy (s : State) (r : Region) (addr : Nat) (len : Nat) (hs0 : Tidy s) :
    Tidy (State.trimRange s r addr len) := by
  unfold State.trimRange
  simp +contextual (maxDischargeDepth := 100) only [hs0, ↓tidy_mk, tidy_regs, tidy_t1, tidy_t2, tidy_cf, ↓tidy_ite, ↓foldl_tidy, implies_true, ↓State.clearUncorr_tidy, ↓State.noteChange_tidy, ↓State.unmap_tidy, ↓State.unwrite_tidy, ↓State.updFrame_tidy, Memory.wf_memClear]

theorem State.askHeal_tidy (s : State) (h : Nat) (u : Nat) (hs0 : Tidy s) :
    Tidy (State.askHeal s h u) := by
  unfold State.askHeal
  simp +contextual (maxDischargeDepth := 100) only [hs0, ↓tidy_mk, tidy_regs, tidy_t1, tidy_t2, tidy_cf, ↓tidy_ite, ↓State.linkSend_tidy]

/-! ### Protect.lean -/

theorem State.setPd_tidy (s : State) (n : Nat) (p : Pd) (hs0 : Tidy s) :
    Tidy (State.setPd s n p) := by
  unfold State.setPd
  simp +contextual (maxDischargeDepth := 100) only [hs0, ↓tidy_mk, tidy_regs, tidy_t1, tidy_t2, tidy_cf]

theorem State.setKey_tidy (s : State) (i : Nat) (k : Key) (hs0 : Tidy s) :
    Tidy (State.setKey s i k) := by
  unfold State.setKey
  simp +contextual (maxDischargeDepth := 100) only [hs0, ↓tidy_mk, tidy_regs, tidy_t1, tidy_t2, tidy_cf]

theorem State.cacheTouch_tidy (s : State) (i : Nat) (hs0 : Tidy s) :
    Tidy (State.cacheTouch s i) := by
  unfold State.cacheTouch
  simp +contextual (maxDischargeDepth := 100) only [hs0, ↓tidy_mk, tidy_regs, tidy_t1, tidy_t2, tidy_cf]

theorem State.violation_tidy (s : State) (qpn : Nat) (k : BitVec 32) (cause : Nat) (capsule : Bool) (hs0 : Tidy s) :
    Tidy (State.violation s qpn k cause capsule) := by
  unfold State.violation
  simp +contextual (maxDischargeDepth := 100) only [hs0, ↓tidy_ite, ↓State.count_tidy, ↓State.put_tidy, ↓State.putB_tidy, ↓State.record_tidy, ↓State.setReg_tidy]

theorem State.issueKey_tidy (s : State) (region : Nat) (off : Nat) (len : Nat) (rights : Rights) (aperture : Option Nat) (hs0 : Tidy s) :
    ∀ x, State.issueKey s region off len rights aperture = some x → Tidy x.1 := by
  unfold State.issueKey
  intro x e
  repeat' first
    | cases e
    | split at e
    | simp +contextual (maxDischargeDepth := 100) only [hs0, ↓State.setKey_tidy]

theorem State.fenceStatus_tidy (s : State) (hs0 : Tidy s) :
    Tidy (State.fenceStatus s) := by
  unfold State.fenceStatus
  simp +contextual (maxDischargeDepth := 100) only [hs0, ↓State.put_tidy, ↓State.putB_tidy]

/-! ### Transport.lean -/

theorem State.setQp_tidy (s : State) (n : Nat) (q : Qp) (hs0 : Tidy s) :
    Tidy (State.setQp s n q) := by
  unfold State.setQp
  simp +contextual (maxDischargeDepth := 100) only [hs0, ↓tidy_mk, tidy_regs, tidy_t1, tidy_t2, tidy_cf]

theorem State.updQp_tidy (s : State) (n : Nat) (f : Qp → Qp) (hs0 : Tidy s) :
    Tidy (State.updQp s n f) := by
  unfold State.updQp
  simp +contextual (maxDischargeDepth := 100) only [hs0, ↓tidy_mk, tidy_regs, tidy_t1, tidy_t2, tidy_cf]

theorem State.touchQp_tidy (s : State) (n : Nat) (hs0 : Tidy s) :
    Tidy (State.touchQp s n) := by
  unfold State.touchQp
  split <;> simp +contextual (maxDischargeDepth := 100) only [hs0, ↓State.updHome_tidy]

theorem State.sendData_tidy (s : State) (h : Nat) (kind : Nat) (qpn : Nat) (psn : Psn) (addr : Nat) (aux : Nat) (key : BitVec 32) (bs : List Byte) (region : Nat) (txn : Nat) (hs0 : Tidy s) :
    Tidy (State.sendData s h kind qpn psn addr aux key bs region txn).1 := by
  unfold State.sendData
  simp +contextual (maxDischargeDepth := 100) only [hs0, ↓tidy_mk, tidy_regs, tidy_t1, tidy_t2, tidy_cf, ↓tidy_ite1, ↓State.count_tidy, ↓State.linkSend_tidy, ↓State.updHome_tidy]

theorem State.mirrorWrite_tidy (s : State) (h : Nat) (qpn : Nat) (psn : Psn) (addr : Nat) (key : BitVec 32) (bs : List Byte) (region : Nat) (txn : Nat) (msn : Nat) (hs0 : Tidy s) :
    Tidy (State.mirrorWrite s h qpn psn addr key bs region txn msn).1 := by
  unfold State.mirrorWrite
  simp +contextual (maxDischargeDepth := 100) only [hs0, ↓tidy_ite1, ↓foldl_tidy1, implies_true, ↓State.sendData_tidy]

theorem State.sendRec_tidy (s : State) (h : Nat) (kind : Nat) (qpn : Nat) (addr : Nat) (aux : Nat) (bs : List Byte) (k : RecKind) (hs0 : Tidy s) :
    Tidy (State.sendRec s h kind qpn addr aux bs k).1 := by
  unfold State.sendRec
  simp +contextual (maxDischargeDepth := 100) only [hs0, ↓tidy_mk, tidy_regs, tidy_t1, tidy_t2, tidy_cf, ↓tidy_ite1, ↓State.sendData_tidy]

theorem State.addResp_tidy (s : State) (h : Nat) (hs0 : Tidy s) :
    Tidy (State.addResp s h) := by
  unfold State.addResp
  simp +contextual (maxDischargeDepth := 100) only [hs0, ↓tidy_ite, ↓State.draw_tidy, ↓State.updHome_tidy]

theorem State.sendAck_tidy (s : State) (n : Nat) (psn : Psn) (hs0 : Tidy s) :
    Tidy (State.sendAck s n psn) := by
  unfold State.sendAck
  split <;> simp +contextual (maxDischargeDepth := 100) only [hs0, ↓State.addResp_tidy, ↓State.emit_tidy, ↓State.updQp_tidy]

theorem State.sendNak_tidy (s : State) (n : Nat) (psn : Psn) (syndrome : Nat) (hs0 : Tidy s) :
    Tidy (State.sendNak s n psn syndrome) := by
  unfold State.sendNak
  split <;> simp +contextual (maxDischargeDepth := 100) only [hs0, ↓State.addResp_tidy, ↓State.count_tidy, ↓State.emit_tidy, ↓State.updQp_tidy]

theorem State.sent_tidy (s : State) (n : Nat) (bytes : Nat) (hs0 : Tidy s) :
    Tidy (State.sent s n bytes) := by
  unfold State.sent
  simp +contextual (maxDischargeDepth := 100) only [hs0, ↓State.updQp_tidy]

theorem State.sendReq_tidy (s : State) (n : Nat) (q : Qp) (r : DevReq) (hs0 : Tidy s) :
    Tidy (State.sendReq s n q r) := by
  unfold State.sendReq
  simp +contextual (maxDischargeDepth := 100) only [hs0, ↓tidy_ite, ↓State.emit_tidy, ↓State.sent_tidy]

theorem sendPrefix_tidy (s : State) (n : Nat) (q : Qp) (x3 : List DevReq) (hs0 : Tidy s) :
    Tidy (sendPrefix s n q x3).1 := by
  induction x3 generalizing s with
  | nil => exact hs0
  | cons r rs ih =>
    unfold sendPrefix
    split
    · exact ih s hs0
    · split
      · exact hs0
      · exact ih _ (State.sendReq_tidy _ _ _ _ hs0)

theorem State.pumpReqs_tidy (s : State) (n : Nat) (hs0 : Tidy s) :
    Tidy (State.pumpReqs s n) := by
  unfold State.pumpReqs
  split <;> simp +contextual (maxDischargeDepth := 100) only [hs0, ↓tidy_ite, ↓State.updQp_tidy, ↓sendPrefix_tidy]

theorem State.newReq_tidy (s : State) (n : Nat) (kind : ReqKind) (addr : Nat) (key : BitVec 32) (rlen : Nat) (data : List Byte) (imm : Option (BitVec 32)) (wait : Option Nat) (hs0 : Tidy s) :
    Tidy (State.newReq s n kind addr key rlen data imm wait) := by
  unfold State.newReq
  split <;> simp +contextual (maxDischargeDepth := 100) only [hs0, ↓State.pumpReqs_tidy, ↓State.setQp_tidy, ↓State.touchQp_tidy]

theorem State.updQueue_tidy (s : State) (qpn : Nat) (q : Nat) (f : Queue → Queue) (hs0 : Tidy s) :
    Tidy (State.updQueue s qpn q f) := by
  unfold State.updQueue
  simp +contextual (maxDischargeDepth := 100) only [hs0, ↓tidy_mk, tidy_regs, tidy_t1, tidy_t2, tidy_cf]

theorem State.updSlot_tidy (s : State) (c : CapRef) (f : Slot → Slot) (hs0 : Tidy s) :
    Tidy (State.updSlot s c f) := by
  unfold State.updSlot
  simp +contextual (maxDischargeDepth := 100) only [hs0, ↓State.updQueue_tidy]

theorem State.touchQueue_tidy (s : State) (qpn : Nat) (q : Nat) (hs0 : Tidy s) :
    Tidy (State.touchQueue s qpn q) := by
  unfold State.touchQueue
  split <;> simp +contextual (maxDischargeDepth := 100) only [hs0, ↓State.updHome_tidy]

theorem State.enterError_tidy (s : State) (n : Nat) (cause : Nat) (hs0 : Tidy s) :
    Tidy (State.enterError s n cause) := by
  unfold State.enterError
  split <;> simp +contextual (maxDischargeDepth := 100) only [hs0, ↓tidy_mk, tidy_regs, tidy_t1, tidy_t2, tidy_cf, ↓State.count_tidy, ↓State.record_tidy, ↓State.setQp_tidy, ↓State.touchQp_tidy]

theorem State.freeQp_tidy (s : State) (n : Nat) (hs0 : Tidy s) :
    Tidy (State.freeQp s n) := by
  unfold State.freeQp
  split <;> simp +contextual (maxDischargeDepth := 100) only [hs0, ↓tidy_mk, tidy_regs, tidy_t1, tidy_t2, tidy_cf, ↓tidy_ite, ↓State.touchQp_tidy]

/-! ### Queues.lean -/

theorem State.postEntry_tidy (s : State) (n : Nat) (nq : Bool) (queue : Nat) (idx : Nat) (addr : Nat) (entry : List Byte) (imm : Bool) (hs0 : Tidy s) :
    Tidy (State.postEntry s n nq queue idx addr entry imm) := by
  unfold State.postEntry
  split <;> simp +contextual (maxDischargeDepth := 100) only [hs0, ↓State.newReq_tidy, ↓State.sendRec_tidy]

theorem State.notify_tidy (s : State) (n : Nat) (ring : Nat) (type : Nat) (queue : Nat) (arg0 : Nat) (arg1 : Nat) (key : Nat) (hs0 : Tidy s) :
    Tidy (State.notify s n ring type queue arg0 arg1 key) := by
  unfold State.notify
  repeat' first
    | assumption
    | simp +contextual (maxDischargeDepth := 100) only [hs0, ↓tidy_ite, ↓State.count_tidy, ↓State.postEntry_tidy, ↓State.updQp_tidy, ↓State.updQueue_tidy]
    | split

theorem State.notifyAll_tidy (s : State) (h : Nat) (type : Nat) (arg0 : Nat) (arg1 : Nat) (hs0 : Tidy s) :
    Tidy (State.notifyAll s h type arg0 arg1) := by
  unfold State.notifyAll
  simp +contextual (maxDischargeDepth := 100) only [hs0, ↓foldl_tidy, implies_true, ↓State.notify_tidy]

theorem State.reportLost_tidy (s : State) (n : Nat) (ring : Nat) (hs0 : Tidy s) :
    Tidy (State.reportLost s n ring) := by
  unfold State.reportLost
  split <;> simp +contextual (maxDischargeDepth := 100) only [hs0, ↓tidy_ite, ↓State.notify_tidy, ↓State.record_tidy, ↓State.updQueue_tidy]

theorem State.complete_tidy (s : State) (c : CapRef) (status : Nat) (result : Nat) (poison : Bool) (hs0 : Tidy s) :
    Tidy (State.complete s c status result poison) := by
  unfold State.complete
  split <;> simp +contextual (maxDischargeDepth := 100) only [hs0, ↓tidy_ite, ↓State.count_tidy, ↓State.postEntry_tidy, ↓State.record_tidy, ↓State.touchQueue_tidy, ↓State.updQp_tidy, ↓State.updQueue_tidy]

theorem State.failCap_tidy (s : State) (c : CapRef) (status : Nat) (key : Nat) (off : Nat) (det : Nat) (hs0 : Tidy s) :
    Tidy (State.failCap s c status key off det) := by
  unfold State.failCap
  simp +contextual (maxDischargeDepth := 100) only [hs0, ↓State.complete_tidy, ↓State.updSlot_tidy]

theorem State.logTest_tidy (s : State) (t : SelfTest) (result : Nat) (fields : List Byte) (hs0 : Tidy s) :
    Tidy (State.logTest s t result fields) := by
  unfold State.logTest
  simp +contextual (maxDischargeDepth := 100) only [hs0, ↓tidy_mk, tidy_regs, tidy_t1, tidy_t2, tidy_cf]

theorem State.testSoFar_tidy (s : State) (hs0 : Tidy s) :
    Tidy (State.testSoFar s).1 := by
  unfold State.testSoFar
  simp +contextual (maxDischargeDepth := 100) only [hs0, ↓State.draw_tidy]

theorem State.interruptTests_tidy (s : State) (sel : SelfTest → Bool) (hs0 : Tidy s) :
    Tidy (State.interruptTests s sel) := by
  unfold State.interruptTests
  simp +contextual (maxDischargeDepth := 100) only [hs0, ↓foldl_tidy, implies_true, ↓State.logTest_tidy, ↓State.testSoFar_tidy]

theorem State.okCap_tidy (s : State) (c : CapRef) (result : Nat) (hs0 : Tidy s) :
    Tidy (State.okCap s c result) := by
  unfold State.okCap
  simp +contextual (maxDischargeDepth := 100) only [hs0, ↓State.complete_tidy]

end Sys2Proof.Machine
end

