-- ==== Sys2Proof/Laws/TidyNet.lean ====
section
/-! SUPPORT. Sys2Proof/Laws/TidyNet.lean: the transactions, the packets that arrive, the fetch and the capsules as such keep the
canonical forms: one lemma for each operation. -/

namespace Sys2Proof.Machine

/-! ### Place.lean -/

theorem State.updTxn_tidy (s : State) (id : Nat) (f : Txn → Txn) (hs0 : Tidy s) :
    Tidy (State.updTxn s id f) := by
  unfold State.updTxn
  simp +contextual (maxDischargeDepth := 100) only [hs0, ↓tidy_mk, tidy_regs, tidy_t1, tidy_t2, tidy_cf]

theorem State.dropTxn_tidy (s : State) (id : Nat) (hs0 : Tidy s) :
    Tidy (State.dropTxn s id) := by
  unfold State.dropTxn
  simp +contextual (maxDischargeDepth := 100) only [hs0, ↓tidy_mk, tidy_regs, tidy_t1, tidy_t2, tidy_cf]

theorem State.acceptTxn_tidy (s : State) (t : Txn) (hs0 : Tidy s) :
    Tidy (State.acceptTxn s t) := by
  unfold State.acceptTxn
  simp +contextual (maxDischargeDepth := 100) only [hs0, ↓tidy_mk, tidy_regs, tidy_t1, tidy_t2, tidy_cf]

theorem State.addTxn_tidy (s : State) (t : Txn) (hs0 : Tidy s) :
    Tidy (State.addTxn s t).1 := by
  unfold State.addTxn
  simp +contextual (maxDischargeDepth := 100) only [hs0, ↓tidy_mk, tidy_regs, tidy_t1, tidy_t2, tidy_cf, ↓tidy_ite1, ↓State.acceptTxn_tidy]

theorem State.acceptWaiting_tidy (s : State) (hs0 : Tidy s) :
    Tidy (State.acceptWaiting s) := by
  unfold State.acceptWaiting
  simp +contextual (maxDischargeDepth := 100) only [hs0, ↓tidy_ite1, ↓foldl_tidy1, implies_true, ↓State.acceptTxn_tidy]

theorem State.touchRange_tidy (s : State) (r : Region) (addr : Nat) (len : Nat) (hs0 : Tidy s) :
    Tidy (State.touchRange s r addr len) := by
  unfold State.touchRange
  simp +contextual (maxDischargeDepth := 100) only [hs0, ↓tidy_ite, ↓foldl_tidy, implies_true, ↓State.access_tidy]

theorem State.mirrorTxn_tidy (s : State) (t : Txn) (r : Region) (kind : Nat) (aux : Nat) (bs : List Byte) (hs0 : Tidy s) :
    Tidy (State.mirrorTxn s t r kind aux bs).1 := by
  unfold State.mirrorTxn
  simp +contextual (maxDischargeDepth := 100) only [hs0, ↓tidy_ite, ↓tidy_ite1, ↓State.mirrorWrite_tidy, ↓State.sendData_tidy, ↓State.sendRec_tidy, ↓State.updRegion_tidy]

theorem State.arm_tidy (s : State) (t : Txn) (r : Region) (hs0 : Tidy s) :
    Tidy (State.arm s t r).1 := by
  unfold State.arm
  repeat' split
  all_goals simp +contextual (maxDischargeDepth := 100) only [hs0, ↓State.sendRec_tidy, ↓State.updRegion_tidy]

theorem State.noteDeep_tidy (s : State) (t : Txn) (r : Region) (hs0 : Tidy s) :
    Tidy (State.noteDeep s t r) := by
  unfold State.noteDeep
  simp +contextual (maxDischargeDepth := 100) only [hs0, ↓tidy_mk, tidy_regs, tidy_t1, tidy_t2, tidy_cf, ↓tidy_ite]

theorem State.finishWrite_tidy (s : State) (t : Txn) (r : Region) (kind : Nat) (aux : Nat) (bs : List Byte) (place : State → State) (hs0 : Tidy s) (h_place : ∀ a0, Tidy a0 → Tidy (place a0)) :
    Tidy (State.finishWrite s t r kind aux bs place) := by
  unfold State.finishWrite
  simp +contextual (maxDischargeDepth := 100) only [hs0, ↓State.arm_tidy, ↓State.dirtyPause_tidy, ↓State.mirrorTxn_tidy, ↓State.noteDeep_tidy, ↓State.updTxn_tidy, ↓h_place]

theorem State.saveAtomic_tidy (s : State) (n : Nat) (psn : Psn) (v : BitVec 64) (hs0 : Tidy s) :
    Tidy (State.saveAtomic s n psn v) := by
  unfold State.saveAtomic
  simp +contextual (maxDischargeDepth := 100) only [hs0, ↓State.updQp_tidy]

theorem State.placeAtomic_tidy (s : State) (t : Txn) (r : Region) (f : BitVec 64 → BitVec 64) (failed : Bool) (hs0 : Tidy s) :
    Tidy (State.placeAtomic s t r f failed) := by
  unfold State.placeAtomic
  simp +contextual (maxDischargeDepth := 100) only [hs0, ↓tidy_ite, implies_true, ↓State.finishWrite_tidy, ↓State.placeBytes_tidy, ↓State.saveAtomic_tidy, ↓State.updTxn_tidy]

theorem State.placeRead_tidy (s : State) (t : Txn) (r : Region) (hs0 : Tidy s) :
    Tidy (State.placeRead s t r) := by
  unfold State.placeRead
  simp +contextual (maxDischargeDepth := 100) only [hs0, ↓tidy_ite, ↓State.count_tidy, ↓State.updTxn_tidy]

theorem State.placeNow_tidy (s : State) (t : Txn) (r : Region) (hs0 : Tidy s) :
    Tidy (State.placeNow s t r) := by
  obtain ⟨id, ord, home, qpn, slice, cap, seg, op⟩ := t
  unfold State.placeNow
  cases op
  case write d =>
    dsimp only
    refine tidy_ite ?_ ?_
    · exact State.updTxn_tidy _ _ _ (State.finishWrite_tidy _ _ _ _ _ _ _ hs0 (fun s h => State.placeBytes_tidy s _ _ _ _ h))
    · exact State.finishWrite_tidy _ _ _ _ _ _ _ hs0 (fun s h => State.placeBytes_tidy s _ _ _ _ h)
  case zero =>
    dsimp only
    refine tidy_ite ?_ ?_
    · exact State.updTxn_tidy _ _ _ (State.finishWrite_tidy _ _ _ _ _ _ _ hs0 (fun s h => State.placeBytes_tidy s _ _ _ _ h))
    · exact State.finishWrite_tidy _ _ _ _ _ _ _ hs0 (fun s h => State.placeBytes_tidy s _ _ _ _ h)
  case trim =>
    dsimp only
    exact State.finishWrite_tidy _ _ _ _ _ _ _ hs0 (fun s h => State.trimRange_tidy s _ _ _ h)
  case atomicCas =>
    dsimp only
    exact State.placeAtomic_tidy _ _ _ _ _ hs0
  case atomicAdd =>
    dsimp only
    exact State.placeAtomic_tidy _ _ _ _ _ hs0
  case read =>
    dsimp only
    exact State.placeRead_tidy _ _ _ hs0
  case copySrc =>
    dsimp only
    exact State.placeRead_tidy _ _ _ hs0
  all_goals
    dsimp only
    exact State.updTxn_tidy _ _ _ hs0

theorem State.tryTxn_tidy (s : State) (id : Nat) (hs0 : Tidy s) :
    Tidy (State.tryTxn s id) := by
  unfold State.tryTxn
  split
  · split
    · exact hs0
    · split
      · split
        · exact State.placeNow_tidy _ _ _ hs0
        · next t _ _ r _ _ =>
          extract_lets first s1 s2 s3 joins x s4 hs
          have h1 : Tidy s1 := State.updTxn_tidy _ _ _ hs0
          have h2 : Tidy s2 := tidy_ite (State.touchRange_tidy _ _ _ _ h1) h1
          have h3 : Tidy s3 := by
            refine tidy_ite (foldl_tidy _ _ _ h2 (fun s l h => ?_)) h2
            split
            · exact tidy_ite h (State.hitLine_tidy _ _ h)
            · exact h
          have hx : Tidy x.1 := State.readyRange_tidy _ _ _ _ _ h3
          have h4 : Tidy s4 := tidy_ite hx (State.setReg_tidy _ _ _ hx)
          clear_value s4
          split
          · exact State.updTxn_tidy _ _ _ h4
          · refine tidy_ite (State.placeNow_tidy _ _ _ h4) (State.updTxn_tidy _ _ _ (foldl_tidy _ _ _ h4 (fun s u h => ?_)))
            exact State.askHeal_tidy _ _ _ h
      · exact State.updTxn_tidy _ _ _ hs0
  · exact hs0

theorem State.placeAll_tidy (s : State) (hs0 : Tidy s) :
    Tidy (State.placeAll s) := by
  unfold State.placeAll
  repeat' first
    | simp +contextual (maxDischargeDepth := 100) only [hs0, ↓foldl_tidy, implies_true, ↓State.tryTxn_tidy]

theorem State.advance_tidy (s : State) (t : Txn) (hs0 : Tidy s) :
    Tidy (State.advance s t) := by
  unfold State.advance
  simp +contextual (maxDischargeDepth := 100) only [hs0, ↓tidy_ite, ↓State.touchQp_tidy, ↓State.updQp_tidy]

theorem State.notifyPoison_tidy (s : State) (t : Txn) (ring : Nat) (queue : Nat) (hs0 : Tidy s) :
    Tidy (State.notifyPoison s t ring queue) := by
  unfold State.notifyPoison
  split <;> simp +contextual (maxDischargeDepth := 100) only [hs0, ↓State.notify_tidy]

theorem State.fatalNak_tidy (s : State) (n : Nat) (psn : Psn) (syndrome : Nat) (hs0 : Tidy s) :
    Tidy (State.fatalNak s n psn syndrome) := by
  unfold State.fatalNak
  simp +contextual (maxDischargeDepth := 100) only [hs0, ↓State.enterError_tidy, ↓State.sendNak_tidy]

theorem State.ackDue_tidy (s : State) (t : Txn) (hs0 : Tidy s) :
    Tidy (State.ackDue s t) := by
  unfold State.ackDue
  split <;> simp +contextual (maxDischargeDepth := 100) only [hs0, ↓tidy_ite, ↓State.sendAck_tidy, ↓State.updQp_tidy]

theorem State.respond_tidy (s : State) (t : Txn) (hs0 : Tidy s) :
    Tidy (State.respond s t) := by
  unfold State.respond
  repeat' first
    | simp +contextual (maxDischargeDepth := 100) only [hs0, ↓tidy_ite, ↓State.ackDue_tidy, ↓State.addResp_tidy, ↓State.advance_tidy, ↓State.count_tidy, ↓State.dropTxn_tidy, ↓State.emit_tidy, ↓State.fatalNak_tidy, ↓State.notifyPoison_tidy, ↓State.sendNak_tidy, ↓State.sent_tidy, ↓State.updQp_tidy, ↓State.updRegion_tidy]
    | refine tidy_ite ?_ ?_
    | split

theorem State.pumpQp_tidy (s : State) (n : Nat) (x2 : Nat) (hs0 : Tidy s) :
    Tidy (State.pumpQp s n x2) := by
  induction x2 generalizing s with
  | zero => exact hs0
  | succ k ih =>
    unfold State.pumpQp
    dsimp only
    split
    · exact ih _ (State.respond_tidy _ _ hs0)
    · split
      · exact tidy_ite (ih _ (State.respond_tidy _ _ hs0)) hs0
      · exact hs0

theorem State.pumpAll_tidy (s : State) (hs0 : Tidy s) :
    Tidy (State.pumpAll s) := by
  unfold State.pumpAll
  simp +contextual (maxDischargeDepth := 100) only [hs0, ↓foldl_tidy, implies_true, ↓State.pumpQp_tidy, ↓State.quiet_tidy]

theorem State.failSeg_tidy (s : State) (c : CapRef) (status : Nat) (key : Nat) (off : Nat) (det : Nat) (hs0 : Tidy s) :
    Tidy (State.failSeg s c status key off det) := by
  unfold State.failSeg
  simp +contextual (maxDischargeDepth := 100) only [hs0, ↓State.updSlot_tidy]

theorem State.endCap_tidy (s : State) (c : CapRef) (hs0 : Tidy s) :
    Tidy (State.endCap s c) := by
  unfold State.endCap
  split <;> simp +contextual (maxDischargeDepth := 100) only [hs0, ↓tidy_ite, ↓State.complete_tidy]

theorem State.segTxn_tidy (s : State) (c : CapRef) (seg : Nat) (key : BitVec 32) (off : Nat) (len : Nat) (right : Nat) (op : TxnOp) (hs0 : Tidy s) :
    Tidy (State.segTxn s c seg key off len right op) := by
  unfold State.segTxn
  repeat' split
  all_goals simp +contextual (maxDischargeDepth := 100) only [hs0, ↓State.addTxn_tidy, ↓State.endCap_tidy, ↓State.failSeg_tidy, ↓State.updSlot_tidy, ↓State.violation_tidy]

theorem State.segPoison_tidy (s : State) (c : CapRef) (t : Txn) (isRead : Bool) (hs0 : Tidy s) :
    Tidy (State.segPoison s c t isRead) := by
  unfold State.segPoison
  split <;> simp +contextual (maxDischargeDepth := 100) only [hs0, ↓tidy_ite, ↓State.count_tidy, ↓State.failSeg_tidy, ↓State.notifyPoison_tidy, ↓State.updSlot_tidy]

theorem State.copyWrite_tidy (s : State) (c : CapRef) (seg : Nat) (dst : Nat) (dkey : BitVec 32) (data : List Byte) (hs0 : Tidy s) :
    Tidy (State.copyWrite s c seg dst dkey data) := by
  unfold State.copyWrite
  simp +contextual (maxDischargeDepth := 100) only [hs0, ↓State.segTxn_tidy]

theorem State.copyRest_tidy (s : State) (c : CapRef) (dkey : BitVec 32) (hs0 : Tidy s) :
    Tidy (State.copyRest s c dkey) := by
  unfold State.copyRest
  split <;> simp +contextual (maxDischargeDepth := 100) only [hs0, ↓tidy_ite, ↓foldl_tidy, implies_true, ↓State.copyWrite_tidy, ↓State.endCap_tidy, ↓State.updSlot_tidy]

theorem State.finishSeg_tidy (s : State) (t : Txn) (c : CapRef) (hs0 : Tidy s) :
    Tidy (State.finishSeg s t c) := by
  unfold State.finishSeg
  repeat' first
    | simp +contextual (maxDischargeDepth := 100) only [hs0, ↓tidy_ite, ↓foldl_tidy, implies_true, ↓State.copyRest_tidy, ↓State.copyWrite_tidy, ↓State.dropTxn_tidy, ↓State.endCap_tidy, ↓State.failCap_tidy, ↓State.newReq_tidy, ↓State.okCap_tidy, ↓State.segPoison_tidy, ↓State.updRegion_tidy, ↓State.updSlot_tidy]
    | split

theorem State.finishCaps_tidy (s : State) (hs0 : Tidy s) :
    Tidy (State.finishCaps s) := by
  unfold State.finishCaps
  try dsimp only
  repeat' first
    | with_reducible assumption
    | with_reducible refine State.finishSeg_tidy _ _ _ ?_
    | with_reducible refine State.quiet_tidy _ _ _ ?_ ?_
    | refine tidy_ite ?_ ?_
    | split
    | with_reducible refine foldl_tidy _ _ _ ?_ (fun s a h => ?_)
    | with_reducible intro _

theorem State.beginSegs_tidy (s : State) (c : CapRef) (x2 : Nat) (hs0 : Tidy s) :
    Tidy (State.beginSegs s c x2) := by
  induction x2 generalizing s with
  | zero => exact hs0
  | succ k ih =>
    unfold State.beginSegs
    dsimp only
    repeat' first
      | exact hs0
      | refine tidy_ite ?_ ?_
      | exact ih _ (State.newReq_tidy _ _ _ _ _ _ _ _ _ (State.updSlot_tidy _ _ _ hs0))
      | exact ih _ (State.segTxn_tidy _ _ _ _ _ _ _ _ (State.updSlot_tidy _ _ _ hs0))
      | split

theorem State.dropTransient_tidy (s : State) (hs0 : Tidy s) :
    Tidy (State.dropTransient s) := by
  unfold State.dropTransient
  simp +contextual (maxDischargeDepth := 100) only [hs0, ↓foldl_tidy, implies_true, ↓State.releaseFrame_tidy]

theorem State.settle1_tidy (s : State) (hs0 : Tidy s) :
    Tidy (State.settle1 s) := by
  unfold State.settle1
  simp +contextual (maxDischargeDepth := 100) only [hs0, ↓foldl_tidy, implies_true, ↓State.acceptWaiting_tidy, ↓State.beginSegs_tidy, ↓State.finishCaps_tidy, ↓State.placeAll_tidy, ↓State.pumpAll_tidy]

theorem State.settleRounds_tidy (s : State) (x1 : Nat) (hs0 : Tidy s) :
    Tidy (State.settleRounds s x1) := by
  induction x1 generalizing s with
  | zero => exact hs0
  | succ k ih =>
    unfold State.settleRounds
    exact tidy_ite (State.settle1_tidy s hs0) (ih _ (State.settle1_tidy s hs0))

theorem State.settle_tidy (s : State) (hs0 : Tidy s) :
    Tidy (State.settle s) := by
  unfold State.settle
  simp +contextual (maxDischargeDepth := 100) only [hs0, ↓State.dirtyPause_tidy, ↓State.dropTransient_tidy, ↓State.settleRounds_tidy]

theorem State.retry_tidy (s : State) (f : Txn → Txn) (hs0 : Tidy s) :
    Tidy (State.retry s f) := by
  unfold State.retry
  simp +contextual (maxDischargeDepth := 100) only [hs0, ↓tidy_mk, tidy_regs, tidy_t1, tidy_t2, tidy_cf, ↓State.settle_tidy]

theorem State.retryFill_tidy (s : State) (u : Nat) (hs0 : Tidy s) :
    Tidy (State.retryFill s u) := by
  unfold State.retryFill
  simp +contextual (maxDischargeDepth := 100) only [hs0, ↓State.retry_tidy]

/-! ### Ingress.lean -/

theorem State.missPause_tidy (s : State) (k : Nat) (hs0 : Tidy s) :
    Tidy (State.missPause s k) := by
  unfold State.missPause
  simp +contextual (maxDischargeDepth := 100) only [hs0, ↓tidy_mk, tidy_regs, tidy_t1, tidy_t2, tidy_cf, ↓tidy_ite, ↓foldl_tidy, implies_true, ↓State.countMax_tidy, ↓State.record_tidy, ↓State.setPause_tidy, ↓State.setPauseAll_tidy]

theorem State.hold_tidy (s : State) (p : Pkt) (req : Req) (why : HoldWhy) (hs0 : Tidy s) :
    Tidy (State.hold s p req why) := by
  unfold State.hold
  simp +contextual (maxDischargeDepth := 100) only [hs0, ↓tidy_mk, tidy_regs, tidy_t1, tidy_t2, tidy_cf, ↓tidy_ite, ↓State.bufferPause_tidy, ↓State.missPause_tidy]

theorem State.queueNak_tidy (s : State) (n : Nat) (psn : Psn) (syn : Nat) (hs0 : Tidy s) :
    Tidy (State.queueNak s n psn syn) := by
  unfold State.queueNak
  split <;> simp +contextual (maxDischargeDepth := 100) only [hs0, ↓tidy_ite, ↓State.addTxn_tidy, ↓State.updQp_tidy]

theorem State.toRts_tidy (s : State) (n : Nat) (hs0 : Tidy s) :
    Tidy (State.toRts s n) := by
  unfold State.toRts
  split <;> simp +contextual (maxDischargeDepth := 100) only [hs0, ↓tidy_ite, ↓State.newReq_tidy, ↓State.touchQp_tidy, ↓State.updQp_tidy]

theorem State.expect_tidy (s : State) (n : Nat) (psn : Psn) (count : Nat) (kind : MsgKind) (ends : Bool) (hs0 : Tidy s) :
    Tidy (State.expect s n psn count kind ends) := by
  unfold State.expect
  simp +contextual (maxDischargeDepth := 100) only [hs0, ↓State.toRts_tidy, ↓State.touchQp_tidy, ↓State.updQp_tidy]

theorem State.withKey_tidy (s : State) (p : Pkt) (req : Req) (q : Qp) (key : BitVec 32) (off : Nat) (len : Nat) (right : Nat) (x : Extent) (go : Key → State → State) (hs0 : Tidy s) (h_go : ∀ a0 a1, Tidy a1 → Tidy (go a0 a1)) :
    Tidy (State.withKey s p req q key off len right x go) := by
  unfold State.withKey
  repeat' first
    | simp +contextual (maxDischargeDepth := 100) only [hs0, ↓tidy_ite, ↓State.cacheTouch_tidy, ↓State.count_tidy, ↓State.hold_tidy, ↓State.queueNak_tidy, ↓State.violation_tidy, ↓h_go]
    | refine tidy_ite ?_ ?_
    | split

theorem State.hostTxn_tidy (s : State) (p : Pkt) (q : Qp) (op : TxnOp) (region : Nat) (addr : Nat) (len : Nat) (key : BitVec 32) (count : Nat) (ackReq : Bool) (ends : Bool) (hs0 : Tidy s) :
    Tidy (State.hostTxn s p q op region addr len key count ackReq ends) := by
  unfold State.hostTxn
  simp +contextual (maxDischargeDepth := 100) only [hs0, ↓State.addTxn_tidy]

theorem State.msgDone_tidy (s : State) (n : Nat) (hs0 : Tidy s) :
    Tidy (State.msgDone s n) := by
  unfold State.msgDone
  simp +contextual (maxDischargeDepth := 100) only [hs0, ↓tidy_mk, tidy_regs, tidy_t1, tidy_t2, tidy_cf]

theorem State.sinkClose_tidy (s : State) (p : Pkt) (q : Qp) (k : Sink) (hdr : Nat) (len : Nat) (imm : Option (BitVec 32)) (writeImm : Bool) (hs0 : Tidy s) :
    Tidy (State.sinkClose s p q k hdr len imm writeImm) := by
  unfold State.sinkClose
  simp +contextual (maxDischargeDepth := 100) only [hs0, ↓State.hostTxn_tidy, ↓State.updQp_tidy]

theorem State.sinkCheck_tidy (s : State) (p : Pkt) (q : Qp) (go : Sink → State → State) (hs0 : Tidy s) (h_go : ∀ a0 a1, Tidy a1 → Tidy (go a0 a1)) :
    Tidy (State.sinkCheck s p q go) := by
  unfold State.sinkCheck
  split <;> simp +contextual (maxDischargeDepth := 100) only [hs0, ↓tidy_ite, ↓State.queueNak_tidy, ↓h_go]

theorem State.applyDoorbell_tidy (s : State) (n : Nat) (queue : Nat) (slot : Nat) (v : Nat) (hs0 : Tidy s) :
    Tidy (State.applyDoorbell s n queue slot v) := by
  unfold State.applyDoorbell
  split <;> simp +contextual (maxDischargeDepth := 100) only [hs0, ↓tidy_ite, ↓State.reportLost_tidy, ↓State.touchQueue_tidy, ↓State.updQueue_tidy]

theorem State.doorbell_tidy (s : State) (p : Pkt) (q : Qp) (off : Nat) (v : Nat) (hs0 : Tidy s) :
    Tidy (State.doorbell s p q off v) := by
  unfold State.doorbell
  repeat' first
    | simp +contextual (maxDischargeDepth := 100) only [hs0, ↓State.addTxn_tidy, ↓State.applyDoorbell_tidy, ↓State.count_tidy, ↓State.expect_tidy, ↓State.notify_tidy, ↓State.record_tidy, ↓State.sendRec_tidy]
    | refine tidy_ite ?_ ?_
    | split

theorem State.badHeader_tidy (s : State) (p : Pkt) (req : Req) (hs0 : Tidy s) :
    Tidy (State.badHeader s p req) := by
  unfold State.badHeader
  simp +contextual (maxDischargeDepth := 100) only [hs0, ↓State.hold_tidy]

theorem State.recheck_tidy (s : State) (p : Pkt) (q : Qp) (m : OpenMsg) (len : Nat) (go : State → State) (hs0 : Tidy s) (h_go : ∀ a0, Tidy a0 → Tidy (go a0)) :
    Tidy (State.recheck s p q m len go) := by
  unfold State.recheck
  repeat' split
  all_goals simp +contextual (maxDischargeDepth := 100) only [hs0, ↓State.queueNak_tidy, ↓State.violation_tidy, ↓h_go]

theorem State.takeWrite_tidy (s : State) (p : Pkt) (q : Qp) (pos : Pos) (reth : Option Reth) (imm : Option (BitVec 32)) (data : List Byte) (hs0 : Tidy s) :
    Tidy (State.takeWrite s p q pos reth imm data) := by
  unfold State.takeWrite
  repeat' first
    | split
    | simp +contextual (maxDischargeDepth := 100) only [hs0, ↓tidy_ite, implies_true, ↓State.badHeader_tidy, ↓State.doorbell_tidy, ↓State.expect_tidy, ↓State.hold_tidy, ↓State.hostTxn_tidy, ↓State.msgDone_tidy, ↓State.queueNak_tidy, ↓State.recheck_tidy, ↓State.sinkCheck_tidy, ↓State.sinkClose_tidy, ↓State.updQp_tidy, ↓State.violation_tidy, ↓State.withKey_tidy]

theorem State.takeSend_tidy (s : State) (p : Pkt) (q : Qp) (pos : Pos) (imm : Option (BitVec 32)) (data : List Byte) (hs0 : Tidy s) :
    Tidy (State.takeSend s p q pos imm data) := by
  unfold State.takeSend
  repeat' split
  all_goals simp +contextual (maxDischargeDepth := 100) only [hs0, ↓tidy_ite, implies_true, ↓State.badHeader_tidy, ↓State.expect_tidy, ↓State.hold_tidy, ↓State.hostTxn_tidy, ↓State.msgDone_tidy, ↓State.queueNak_tidy, ↓State.recheck_tidy, ↓State.sinkCheck_tidy, ↓State.sinkClose_tidy, ↓State.updQp_tidy, ↓State.withKey_tidy]

theorem State.takeOther_tidy (s : State) (p : Pkt) (q : Qp) (req : Req) (dup : Bool) (hs0 : Tidy s) :
    Tidy (State.takeOther s p q req dup) := by
  unfold State.takeOther
  repeat' split
  all_goals simp +contextual (maxDischargeDepth := 100) only [hs0, ↓tidy_ite, implies_true, ↓State.addTxn_tidy, ↓State.badHeader_tidy, ↓State.count_tidy, ↓State.expect_tidy, ↓State.hostTxn_tidy, ↓State.withKey_tidy]

theorem State.takeExpected_tidy (s : State) (p : Pkt) (q : Qp) (req : Req) (hs0 : Tidy s) :
    Tidy (State.takeExpected s p q req) := by
  unfold State.takeExpected
  repeat' split
  all_goals simp +contextual (maxDischargeDepth := 100) only [hs0, ↓State.badHeader_tidy, ↓State.takeOther_tidy, ↓State.takeSend_tidy, ↓State.takeWrite_tidy]

theorem State.duplicate_tidy (s : State) (p : Pkt) (q : Qp) (req : Req) (hs0 : Tidy s) :
    Tidy (State.duplicate s p q req) := by
  unfold State.duplicate
  repeat' split
  all_goals simp +contextual (maxDischargeDepth := 100) only [hs0, ↓State.addResp_tidy, ↓State.badHeader_tidy, ↓State.count_tidy, ↓State.emit_tidy, ↓State.queueNak_tidy, ↓State.sendAck_tidy, ↓State.takeOther_tidy, ↓State.updQp_tidy]

theorem State.ahead_tidy (s : State) (p : Pkt) (q : Qp) (hs0 : Tidy s) :
    Tidy (State.ahead s p q).1 := by
  unfold State.ahead
  simp +contextual (maxDischargeDepth := 100) only [hs0, ↓tidy_ite1, ↓State.notify_tidy, ↓State.queueNak_tidy, ↓State.record_tidy, ↓State.touchQp_tidy, ↓State.updQp_tidy]

theorem State.stage3_tidy (s : State) (p : Pkt) (req : Req) (hs0 : Tidy s) :
    Tidy (State.stage3 s p req) := by
  unfold State.stage3
  repeat' first
    | assumption
    | simp +contextual (maxDischargeDepth := 100) only [hs0, ↓State.ahead_tidy, ↓State.duplicate_tidy, ↓State.queueNak_tidy, ↓State.takeExpected_tidy]
    | refine tidy_ite ?_ ?_
    | split

theorem State.sendRewind_tidy (s : State) (n : Nat) (hs0 : Tidy s) :
    Tidy (State.sendRewind s n) := by
  unfold State.sendRewind
  split <;> simp +contextual (maxDischargeDepth := 100) only [hs0, ↓tidy_ite, ↓State.count_tidy, ↓State.sendNak_tidy, ↓State.updQp_tidy]

theorem State.stage2_tidy (s : State) (p : Pkt) (req : Req) (hs0 : Tidy s) :
    Tidy (State.stage2 s p req) := by
  unfold State.stage2
  repeat' first
    | assumption
    | simp +contextual (maxDischargeDepth := 100) only [hs0, ↓tidy_ite, ↓State.hold_tidy, ↓State.stage3_tidy, ↓State.updQp_tidy]
    | refine tidy_ite ?_ ?_
    | split

theorem State.linkIn_tidy (s : State) (p : Pkt) (hs0 : Tidy s) :
    Tidy (State.linkIn s p).1 := by
  unfold State.linkIn
  simp +contextual (maxDischargeDepth := 100) only [hs0, ↓tidy_ite1, ↓State.count_tidy, ↓State.record_tidy]

theorem State.cnpDue_tidy (s : State) (p : Pkt) (hs0 : Tidy s) :
    Tidy (State.cnpDue s p) := by
  unfold State.cnpDue
  repeat' first
    | assumption
    | simp +contextual (maxDischargeDepth := 100) only [hs0, ↓tidy_ite, ↓State.count_tidy, ↓State.emit_tidy, ↓State.updQp_tidy]
    | split

theorem State.headerIn_tidy (s : State) (p : Pkt) (hs0 : Tidy s) :
    Tidy (State.headerIn s p).1 := by
  unfold State.headerIn
  repeat' first
    | simp +contextual (maxDischargeDepth := 100) only [hs0, ↓tidy_ite, ↓tidy_ite1, ↓State.cnpDue_tidy, ↓State.count_tidy, ↓State.touchQp_tidy, ↓State.updQp_tidy, ↓State.wake_tidy]
    | refine tidy_ite1 ?_ ?_
    | split

theorem State.ingress_tidy (s : State) (p : Pkt) (req : Req) (hs0 : Tidy s) :
    Tidy (State.ingress s p req) := by
  unfold State.ingress
  repeat' first
    | simp +contextual (maxDischargeDepth := 100) only [hs0, ↓tidy_ite, ↓State.headerIn_tidy, ↓State.linkIn_tidy, ↓State.sendRewind_tidy, ↓State.settle_tidy, ↓State.stage2_tidy]
    | refine tidy_ite ?_ ?_
    | split

theorem State.refeed_tidy (s : State) (f : Held → Option (State → State)) (hs0 : Tidy s)
    (h_f : ∀ h g, f h = some g → ∀ s, Tidy s → Tidy (g s)) : Tidy (State.refeed s f) := by
  unfold State.refeed
  refine State.settle_tidy _ (foldl_tidy _ _ _ (State.bufferPauseAll_tidy _ (foldl_tidy _ _ _ ?_ (fun s a h => ?_))) (fun s a h => State.missPause_tidy _ _ h))
  · exact tidy_mk hs0.regs hs0.t1 hs0.t2 hs0.cf
  · split
    · exact h_f _ _ (by assumption) s h
    · refine tidy_ite (State.stage2_tidy _ _ _ h) (tidy_mk h.regs h.t1 h.t2 h.cf)

theorem State.refeedWhere_tidy (s : State) (f : Held → Bool) (hs0 : Tidy s) :
    Tidy (State.refeedWhere s f) := by
  refine State.refeed_tidy _ _ hs0 (fun h g hg s ht => ?_)
  split at hg
  · cases hg
    exact State.stage2_tidy _ _ _ ht
  · cases hg

/-! ### Fetch.lean -/

theorem State.activate_tidy (s : State) (n : Nat) (hs0 : Tidy s) :
    Tidy (State.activate s n) := by
  unfold State.activate
  simp +contextual (maxDischargeDepth := 100) only [hs0, ↓tidy_mk, tidy_regs, tidy_t1, tidy_t2, tidy_cf, ↓tidy_ite, ↓foldl_tidy, implies_true, ↓State.notify_tidy, ↓State.touchQueue_tidy, ↓State.updQp_tidy]

theorem State.bind_tidy (s : State) (n : Nat) (bs : List Byte) (hs0 : Tidy s) :
    Tidy (State.bind s n bs) := by
  unfold State.bind
  repeat' first
    | assumption
    | simp +contextual (maxDischargeDepth := 100) only [hs0, ↓tidy_mk, tidy_regs, tidy_t1, tidy_t2, tidy_cf, ↓tidy_ite, ↓foldl_tidy, implies_true, ↓State.activate_tidy, ↓State.emit_tidy, ↓State.record_tidy, ↓State.sendData_tidy, ↓State.sendRec_tidy, ↓State.updQp_tidy]
    | refine tidy_ite ?_ ?_
    | split

theorem State.grant_tidy (s : State) (key : Nat) (hs0 : Tidy s) :
    Tidy (State.grant s key) := by
  unfold State.grant
  split <;> simp +contextual (maxDischargeDepth := 100) only [hs0, ↓foldl_tidy, implies_true, ↓State.newReq_tidy, ↓State.touchQueue_tidy, ↓State.updQueue_tidy]

theorem State.fetchGrant_tidy (s : State) (h : Nat) (hs0 : Tidy s) :
    Tidy (State.fetchGrant s h) := by
  unfold State.fetchGrant
  repeat' first
    | assumption
    | simp +contextual (maxDischargeDepth := 100) only [hs0, ↓tidy_mk, tidy_regs, tidy_t1, tidy_t2, tidy_cf, ↓State.grant_tidy]
    | refine tidy_ite ?_ ?_
    | split

theorem State.fetched_tidy (s : State) (n : Nat) (k : Nat) (first : Nat) (count : Nat) (bs : List Byte) (hs0 : Tidy s) :
    Tidy (State.fetched s n k first count bs) := by
  unfold State.fetched
  split <;> simp +contextual (maxDischargeDepth := 100) only [hs0, ↓State.countBy_tidy, ↓State.sendRec_tidy, ↓State.updQueue_tidy]

theorem State.setReqs_tidy (s : State) (n : Nat) (reqs : List DevReq) (hs0 : Tidy s) :
    Tidy (State.setReqs s n reqs) := by
  unfold State.setReqs
  split <;> simp +contextual (maxDischargeDepth := 100) only [hs0, ↓tidy_ite, ↓State.setQp_tidy, ↓State.touchQp_tidy]

theorem State.resend_tidy (s : State) (n : Nat) (hs0 : Tidy s) :
    Tidy (State.resend s n) := by
  unfold State.resend
  split <;> simp +contextual (maxDischargeDepth := 100) only [hs0, ↓tidy_ite, ↓State.count_tidy, ↓State.enterError_tidy, ↓State.pumpReqs_tidy, ↓State.record_tidy, ↓State.setQp_tidy]

/-! ### ColonyOps.lean -/

theorem State.updCol_tidy (s : State) (f : Colony → Colony) (hs0 : Tidy s) :
    Tidy (State.updCol s f) := by
  unfold State.updCol
  simp +contextual (maxDischargeDepth := 100) only [hs0, ↓tidy_mk, tidy_regs, tidy_t1, tidy_t2, tidy_cf]

theorem State.colSend_tidy (s : State) (peer : Option Nat) (m : ColMsg) (why : ColWhy) (hs0 : Tidy s) :
    Tidy (State.colSend s peer m why) := by
  unfold State.colSend
  simp +contextual (maxDischargeDepth := 100) only [hs0, ↓State.emit_tidy, ↓State.updCol_tidy]

theorem State.colAnswer_tidy (s : State) (peer : Option Nat) (txn : Nat) (m : ColMsg) (hs0 : Tidy s) :
    Tidy (State.colAnswer s peer txn m) := by
  unfold State.colAnswer
  simp +contextual (maxDischargeDepth := 100) only [hs0, ↓State.emit_tidy]

theorem State.colCounts_tidy (s : State) (hs0 : Tidy s) :
    Tidy (State.colCounts s) := by
  unfold State.colCounts
  simp +contextual (maxDischargeDepth := 100) only [hs0, ↓State.put_tidy, ↓State.setReg_tidy]

theorem State.blocksLow_tidy (s : State) (hs0 : Tidy s) :
    Tidy (State.blocksLow s) := by
  unfold State.blocksLow
  simp +contextual (maxDischargeDepth := 100) only [hs0, ↓tidy_ite, ↓State.record_tidy]

theorem State.askBlock_tidy (s : State) (hs0 : Tidy s) :
    Tidy (State.askBlock s) := by
  unfold State.askBlock
  simp +contextual (maxDischargeDepth := 100) only [hs0, ↓tidy_ite, ↓State.colSend_tidy]

theorem State.okCapKeys_tidy (s : State) (c : CapRef) (result : Nat) (keys : List (Nat × Bool)) (destroyed : List Nat) (hs0 : Tidy s) :
    Tidy (State.okCapKeys s c result keys destroyed) := by
  unfold State.okCapKeys
  simp +contextual (maxDischargeDepth := 100) only [hs0, ↓tidy_ite, ↓State.askBlock_tidy, ↓State.colSend_tidy, ↓State.okCap_tidy]

theorem State.redirect_tidy (s : State) (n : Nat) (key : Nat) (ip : BitVec 128) (hs0 : Tidy s) :
    Tidy (State.redirect s n key ip) := by
  unfold State.redirect
  simp +contextual (maxDischargeDepth := 100) only [hs0, ↓State.notify_tidy]

theorem State.redirectKey_tidy (s : State) (n : Nat) (qp : Qp) (key : BitVec 32) (cause : Nat) (hs0 : Tidy s) :
    Tidy (State.redirectKey s n qp key cause) := by
  unfold State.redirectKey
  repeat' split
  all_goals simp +contextual (maxDischargeDepth := 100) only [hs0, ↓State.redirect_tidy]

theorem State.createAt_tidy (s : State) (r : ColCreate) (cap : Option CapRef) (up : Nat) (tried : List Nat) (hs0 : Tidy s) :
    Tidy (State.createAt s r cap up tried) := by
  unfold State.createAt
  repeat' split
  all_goals simp +contextual (maxDischargeDepth := 100) only [hs0, ↓State.colAnswer_tidy, ↓State.colSend_tidy, ↓State.failCap_tidy]

/-! ### Capsule.lean -/

theorem State.startCap_tidy (s : State) (c : CapRef) (row : CapRow) (go : Qp → List Byte → State → State) (hs0 : Tidy s) (h_go : ∀ a0 a1 a2, Tidy a2 → Tidy (go a0 a1 a2)) :
    Tidy (State.startCap s c row go) := by
  unfold State.startCap
  split <;> simp +contextual (maxDischargeDepth := 100) only [hs0, ↓tidy_ite, ↓State.failCap_tidy, ↓State.settle_tidy, ↓State.updSlot_tidy, ↓h_go]

theorem State.capCheck_tidy (s : State) (c : CapRef) (qp : Qp) (key : BitVec 32) (off : Nat) (len : Nat) (right : Nat) (isTrim : Bool) (go : Key → State → State) (hs0 : Tidy s) (h_go : ∀ a0 a1, Tidy a1 → Tidy (go a0 a1)) :
    Tidy (State.capCheck s c qp key off len right isTrim go) := by
  unfold State.capCheck
  repeat' first
    | simp +contextual (maxDischargeDepth := 100) only [hs0, ↓tidy_ite, ↓State.failCap_tidy, ↓State.redirectKey_tidy, ↓State.violation_tidy, ↓h_go]
    | split

theorem State.adminKey_tidy (s : State) (c : CapRef) (qp : Qp) (key : BitVec 32) (go : Key → Region → State → State) (tell : Bool) (hs0 : Tidy s) (h_go : ∀ a0 a1 a2, Tidy a2 → Tidy (go a0 a1 a2)) :
    Tidy (State.adminKey s c qp key go tell) := by
  unfold State.adminKey
  repeat' split
  all_goals simp +contextual (maxDischargeDepth := 100) only [hs0, ↓State.failCap_tidy, ↓State.redirectKey_tidy, ↓State.violation_tidy, ↓h_go]

theorem State.toHost_tidy (s : State) (c : CapRef) (bs : List Byte) (data : List Byte) (hs0 : Tidy s) :
    Tidy (State.toHost s c bs data) := by
  unfold State.toHost
  simp +contextual (maxDischargeDepth := 100) only [hs0, ↓tidy_ite, ↓State.newReq_tidy]

theorem State.setSegs_tidy (s : State) (c : CapRef) (n : Nat) (begun : Nat) (hs0 : Tidy s) :
    Tidy (State.setSegs s c n begun) := by
  unfold State.setSegs
  simp +contextual (maxDischargeDepth := 100) only [hs0, ↓State.updSlot_tidy]

theorem State.capRead_tidy (s : State) (c : CapRef) (qp : Qp) (bs : List Byte) (hs0 : Tidy s) :
    Tidy (State.capRead s c qp bs) := by
  unfold State.capRead
  simp +contextual (maxDischargeDepth := 100) only [hs0, ↓tidy_ite, ↓foldl_tidy, implies_true, ↓State.capCheck_tidy, ↓State.okCap_tidy, ↓State.segTxn_tidy, ↓State.setSegs_tidy]

theorem State.capWrite_tidy (s : State) (c : CapRef) (qp : Qp) (bs : List Byte) (hs0 : Tidy s) :
    Tidy (State.capWrite s c qp bs) := by
  unfold State.capWrite
  simp +contextual (maxDischargeDepth := 100) only [hs0, ↓tidy_ite, implies_true, ↓State.capCheck_tidy, ↓State.okCap_tidy, ↓State.setSegs_tidy]

theorem State.capCopy_tidy (s : State) (c : CapRef) (qp : Qp) (bs : List Byte) (hs0 : Tidy s) :
    Tidy (State.capCopy s c qp bs) := by
  unfold State.capCopy
  simp +contextual (maxDischargeDepth := 100) only [hs0, ↓tidy_ite, implies_true, ↓State.capCheck_tidy, ↓State.okCap_tidy, ↓State.setSegs_tidy]

theorem State.capOne_tidy (s : State) (c : CapRef) (qp : Qp) (bs : List Byte) (align : Nat) (op : TxnOp) (hs0 : Tidy s) :
    Tidy (State.capOne s c qp bs align op) := by
  unfold State.capOne
  simp +contextual (maxDischargeDepth := 100) only [hs0, ↓tidy_ite, implies_true, ↓State.addTxn_tidy, ↓State.capCheck_tidy, ↓State.failCap_tidy, ↓State.okCap_tidy, ↓State.setSegs_tidy]

theorem State.capFlushTxn_tidy (s : State) (c : CapRef) (qp : Qp) (deep : Bool) (hs0 : Tidy s) :
    Tidy (State.capFlushTxn s c qp deep) := by
  unfold State.capFlushTxn
  simp +contextual (maxDischargeDepth := 100) only [hs0, ↓State.addTxn_tidy, ↓State.setSegs_tidy]

theorem State.capResume_tidy (s : State) (c : CapRef) (bs : List Byte) (replay : Bool) (hs0 : Tidy s) :
    Tidy (State.capResume s c bs replay) := by
  unfold State.capResume
  repeat' first
    | simp +contextual (maxDischargeDepth := 100) only [hs0, ↓tidy_ite, ↓State.failCap_tidy, ↓State.okCap_tidy, ↓State.touchQueue_tidy, ↓State.updQueue_tidy]
    | refine tidy_ite ?_ ?_
    | split

end Sys2Proof.Machine
end

