-- ==== Sys2Proof/Laws/TidyCaps.lean ====
section
/-! SUPPORT. Sys2Proof/Laws/TidyCaps.lean: the capsules on regions and objects, the connections, and the commands of ports, tiers and data capsules keep the
canonical forms: one lemma for each operation. -/

namespace Sys2Proof.Machine

/-! ### RegionOps.lean -/

theorem State.noteKey_tidy (s : State) (h : Nat) (i : Nat) (hs0 : Tidy s) :
    Tidy (State.noteKey s h i) := by
  unfold State.noteKey
  simp +contextual (maxDischargeDepth := 100) only [hs0, ↓State.updHome_tidy]

theorem State.noteRegion_tidy (s : State) (gone : Bool) (base : Nat) (r : Region) (hs0 : Tidy s) :
    Tidy (State.noteRegion s gone base r) := by
  unfold State.noteRegion
  simp +contextual (maxDischargeDepth := 100) only [hs0, ↓State.updHome_tidy]

theorem State.changeKey_tidy (s : State) (h : Nat) (i : Nat) (f : Key → Key) (hs0 : Tidy s) :
    Tidy (State.changeKey s h i f) := by
  unfold State.changeKey
  simp +contextual (maxDischargeDepth := 100) only [hs0, ↓tidy_mk, tidy_regs, tidy_t1, tidy_t2, tidy_cf, ↓State.noteKey_tidy]

theorem State.fenceWrite_tidy (s : State) (f : Fence) (hs0 : Tidy s) :
    Tidy (State.fenceWrite s f) := by
  unfold State.fenceWrite
  repeat' first
    | simp +contextual (maxDischargeDepth := 100) only [hs0, ↓foldl_tidy, implies_true, ↓State.changeKey_tidy, ↓State.noteRegion_tidy, ↓State.updRegion_tidy]
    | split

theorem State.fenceBegin_tidy (s : State) (id : Nat) (hs0 : Tidy s) :
    Tidy (State.fenceBegin s id) := by
  unfold State.fenceBegin
  split <;> simp +contextual (maxDischargeDepth := 100) only [hs0, ↓tidy_mk, tidy_regs, tidy_t1, tidy_t2, tidy_cf, ↓State.fenceStatus_tidy, ↓State.fenceWrite_tidy]

theorem State.fence_tidy (s : State) (region : Nat) (home : Nat) (kind : FenceKind) (cap : Option CapRef) (result : Nat) (hs0 : Tidy s) :
    Tidy (State.fence s region home kind cap result) := by
  unfold State.fence
  simp +contextual (maxDischargeDepth := 100) only [hs0, ↓tidy_mk, tidy_regs, tidy_t1, tidy_t2, tidy_cf, ↓tidy_ite, ↓State.fenceBegin_tidy]

theorem State.freeRegion_tidy (s : State) (base : Nat) (r : Region) (hs0 : Tidy s) :
    Tidy (State.freeRegion s base r) := by
  unfold State.freeRegion
  simp +contextual (maxDischargeDepth := 100) only [hs0, ↓tidy_mk, tidy_regs, tidy_t1, tidy_t2, tidy_cf, ↓State.noteRegion_tidy, Memory.wf_memClear]

theorem State.fenceEnd_tidy (s : State) (f : Fence) (hs0 : Tidy s) :
    Tidy (State.fenceEnd s f) := by
  unfold State.fenceEnd
  repeat' first
    | split
    | simp +contextual (maxDischargeDepth := 100) only [hs0, ↓tidy_mk, tidy_regs, tidy_t1, tidy_t2, tidy_cf, ↓State.count_tidy, ↓State.fenceBegin_tidy, ↓State.fenceStatus_tidy, ↓State.freeRegion_tidy, ↓State.okCap_tidy, ↓State.okCapKeys_tidy, ↓State.record_tidy]

theorem State.fenceTimeout_tidy (s : State) (f : Fence) (hs0 : Tidy s) :
    Tidy (State.fenceTimeout s f) := by
  unfold State.fenceTimeout
  simp +contextual (maxDischargeDepth := 100) only [hs0, ↓tidy_mk, tidy_regs, tidy_t1, tidy_t2, tidy_cf, ↓foldl_tidy, implies_true, ↓State.record_tidy, ↓State.updQp_tidy]

theorem State.makeRegion_tidy (s : State) (h : Nat) (r : ColCreate) (hs0 : Tidy s) :
    ∀ x, State.makeRegion s h r = some x → Tidy x.1 := by
  unfold State.makeRegion
  intro x e
  extract_lets base at e
  split at e
  · cases e
  · split at e
    · cases e
    · split at e
      · cases e
      · next s1 i h1 =>
        cases e
        have ht := State.issueKey_tidy s base 0 r.len r.rights none hs0 _ h1
        refine State.noteKey_tidy _ _ _ (State.noteRegion_tidy _ _ _ _ (tidy_mk ?_ ?_ ?_ ?_))
        · exact ht.regs
        · exact ht.t1
        · exact ht.t2
        · exact ht.cf

theorem State.capRegionCreate_tidy (s : State) (c : CapRef) (qp : Qp) (bs : List Byte) (hs0 : Tidy s) :
    Tidy (State.capRegionCreate s c qp bs) := by
  unfold State.capRegionCreate
  repeat' first
    | split
    | assumption
    | simp +contextual (maxDischargeDepth := 100) only [hs0, ↓tidy_ite, ↓State.createAt_tidy, ↓State.failCap_tidy]
    | refine State.makeRegion_tidy _ _ _ ?_ _ (by assumption)
    | with_reducible refine State.okCap_tidy _ _ _ ?_

theorem State.capRegionModify_tidy (s : State) (c : CapRef) (qp : Qp) (bs : List Byte) (hs0 : Tidy s) :
    Tidy (State.capRegionModify s c qp bs) := by
  unfold State.capRegionModify
  simp +contextual (maxDischargeDepth := 100) only [hs0, ↓tidy_ite, implies_true, ↓State.adminKey_tidy, ↓State.failCap_tidy, ↓State.fence_tidy, ↓State.noteRegion_tidy, ↓State.okCap_tidy, ↓State.updRegion_tidy]

theorem State.capRegionDestroy_tidy (s : State) (c : CapRef) (qp : Qp) (bs : List Byte) (hs0 : Tidy s) :
    Tidy (State.capRegionDestroy s c qp bs) := by
  unfold State.capRegionDestroy
  simp +contextual (maxDischargeDepth := 100) only [hs0, implies_true, ↓State.adminKey_tidy, ↓State.fence_tidy]

theorem State.capKeyGrant_tidy (s : State) (c : CapRef) (qp : Qp) (bs : List Byte) (hs0 : Tidy s) :
    Tidy (State.capKeyGrant s c qp bs) := by
  unfold State.capKeyGrant
  try dsimp only
  repeat' first
    | with_reducible assumption
    | with_reducible refine State.adminKey_tidy _ _ _ _ _ _ ?_ ?_
    | with_reducible refine State.blocksLow_tidy _ ?_
    | with_reducible refine State.failCap_tidy _ _ _ _ _ _ ?_
    | with_reducible refine State.noteKey_tidy _ _ _ ?_
    | with_reducible refine State.okCapKeys_tidy _ _ _ _ _ ?_
    | split
    | with_reducible refine tidy_of_some (by assumption) (State.issueKey_tidy _ _ _ _ _ _ ?_)
    | with_reducible intro _

theorem State.capKeyExisting_tidy (s : State) (c : CapRef) (qp : Qp) (bs : List Byte) (hs0 : Tidy s) :
    Tidy (State.capKeyExisting s c qp bs) := by
  unfold State.capKeyExisting
  simp +contextual (maxDischargeDepth := 100) only [hs0, ↓tidy_ite, implies_true, ↓State.adminKey_tidy, ↓State.changeKey_tidy, ↓State.failCap_tidy, ↓State.fence_tidy, ↓State.okCap_tidy]

theorem State.capKeyRevoke_tidy (s : State) (c : CapRef) (qp : Qp) (bs : List Byte) (hs0 : Tidy s) :
    Tidy (State.capKeyRevoke s c qp bs) := by
  unfold State.capKeyRevoke
  repeat' first
    | simp +contextual (maxDischargeDepth := 100) only [hs0, ↓tidy_ite, implies_true, ↓State.adminKey_tidy, ↓State.failCap_tidy, ↓State.fence_tidy]
    | split

/-! ### Objects.lean -/

theorem State.fillLines_tidy (s : State) (u : Nat) (mask : BitVec 256) (hs0 : Tidy s) :
    Tidy (State.fillLines s u mask) := by
  unfold State.fillLines
  split <;> simp +contextual (maxDischargeDepth := 100) only [hs0, ↓tidy_ite, ↓foldl_tidy, implies_true, ↓State.setFrame_tidy, ↓State.t1Write_tidy]

theorem State.loadUnit_tidy (s : State) (u : Nat) (transient : Bool) (hs0 : Tidy s) :
    Tidy (State.loadUnit s u transient) := by
  unfold State.loadUnit
  repeat' first
    | assumption
    | simp +contextual (maxDischargeDepth := 100) only [hs0, ↓State.count_tidy, ↓State.fillLines_tidy, ↓State.newFrame_tidy]
    | refine tidy_ite ?_ ?_
    | split

theorem State.loadGranules_tidy (s : State) (gs : List Nat) (hs0 : Tidy s) :
    Tidy (State.loadGranules s gs) := by
  unfold State.loadGranules
  simp +contextual (maxDischargeDepth := 100) only [hs0, ↓foldl_tidy, implies_true, ↓State.countBy_tidy, ↓State.loadUnit_tidy]

theorem State.streamDamage_tidy (s : State) (id : Nat) (stored : Nat) (hs0 : Tidy s) :
    Tidy (State.streamDamage s id stored) := by
  unfold State.streamDamage
  split <;> simp +contextual (maxDischargeDepth := 100) only [hs0, ↓tidy_mk, tidy_regs, tidy_t1, tidy_t2, tidy_cf, ↓tidy_ite, ↓foldl_tidy, implies_true, ↓State.notify_tidy, ↓State.record_tidy]

theorem State.streamsDamage_tidy (s : State) (u : Nat) (hs0 : Tidy s) :
    Tidy (State.streamsDamage s u) := by
  unfold State.streamsDamage
  simp +contextual (maxDischargeDepth := 100) only [hs0, ↓tidy_ite, ↓foldl_tidy, implies_true, ↓State.streamDamage_tidy]

theorem State.lostDone_tidy (s : State) (u : Nat) (hs0 : Tidy s) :
    Tidy (State.lostDone s u) := by
  unfold State.lostDone
  simp +contextual (maxDischargeDepth := 100) only [hs0, ↓tidy_mk, tidy_regs, tidy_t1, tidy_t2, tidy_cf, ↓tidy_ite, ↓State.putB_tidy]

theorem State.poisonUnit_tidy (s : State) (u : Nat) (hs0 : Tidy s) :
    Tidy (State.poisonUnit s u) := by
  unfold State.poisonUnit
  repeat' first
    | simp +contextual (maxDischargeDepth := 100) only [hs0, ↓tidy_mk, tidy_regs, tidy_t1, tidy_t2, tidy_cf, ↓tidy_ite, ↓State.count_tidy, ↓State.lostDone_tidy, ↓State.record_tidy, ↓State.retryFill_tidy, ↓State.setFrame_tidy, ↓State.streamsDamage_tidy]
    | split

theorem State.needHeal_tidy (s : State) (u : Nat) (hs0 : Tidy s) :
    Tidy (State.needHeal s u) := by
  unfold State.needHeal
  split <;> simp +contextual (maxDischargeDepth := 100) only [hs0, ↓tidy_ite, ↓State.askHeal_tidy, ↓State.poisonUnit_tidy]

theorem State.placeGranule_tidy (s : State) (g : Nat) (p : Placement) (tenant : Nat) (hs0 : Tidy s) :
    Tidy (State.placeGranule s g p tenant) := by
  unfold State.placeGranule
  simp +contextual (maxDischargeDepth := 100) only [hs0, ↓tidy_mk, tidy_regs, tidy_t1, tidy_t2, tidy_cf, ↓State.setGranule_tidy]

theorem State.adminKeyRight_tidy (s : State) (c : CapRef) (qp : Qp) (key : BitVec 32) (right : Nat) (go : Key → Region → State → State) (hs0 : Tidy s) (h_go : ∀ a0 a1 a2, Tidy a2 → Tidy (go a0 a1 a2)) :
    Tidy (State.adminKeyRight s c qp key right go) := by
  unfold State.adminKeyRight
  simp +contextual (maxDischargeDepth := 100) only [hs0, ↓tidy_ite, implies_true, ↓State.adminKey_tidy, ↓State.failCap_tidy, ↓State.violation_tidy, ↓h_go]

theorem State.capObjectPlace_tidy (s : State) (c : CapRef) (qp : Qp) (bs : List Byte) (hs0 : Tidy s) :
    Tidy (State.capObjectPlace s c qp bs) := by
  unfold State.capObjectPlace
  repeat' first
    | assumption
    | simp +contextual (maxDischargeDepth := 100) only [↓tidy_mk, tidy_regs, tidy_t1, tidy_t2, tidy_cf, ↓tidy_ite, ↓foldl_tidy, implies_true, ↓State.failCap_tidy, ↓State.okCap_tidy, ↓State.placeGranule_tidy, ↓State.sendRec_tidy]
    | split
    | with_reducible refine State.adminKeyRight_tidy _ _ _ _ _ _ ?_ ?_
    | intro _

theorem State.pinDone_tidy (s : State) (c : CapRef) (hs0 : Tidy s) :
    Tidy (State.pinDone s c) := by
  unfold State.pinDone
  split <;> simp +contextual (maxDischargeDepth := 100) only [hs0, ↓tidy_mk, tidy_regs, tidy_t1, tidy_t2, tidy_cf, ↓tidy_ite, ↓State.okCap_tidy]

theorem State.updStream_tidy (s : State) (id : Nat) (f : Stream → Stream) (hs0 : Tidy s) :
    Tidy (State.updStream s id f) := by
  unfold State.updStream
  simp +contextual (maxDischargeDepth := 100) only [hs0, ↓tidy_mk, tidy_regs, tidy_t1, tidy_t2, tidy_cf]

theorem State.parisonNext_tidy (s : State) (id : Nat) (hs0 : Tidy s) :
    Tidy (State.parisonNext s id) := by
  unfold State.parisonNext
  split <;> simp +contextual (maxDischargeDepth := 100) only [hs0, ↓State.updStream_tidy]

theorem State.leaveWindow_tidy (s : State) (gs : List Nat) (hs0 : Tidy s) :
    Tidy (State.leaveWindow s gs) := by
  unfold State.leaveWindow
  simp +contextual (maxDischargeDepth := 100) only [hs0, ↓tidy_mk, tidy_regs, tidy_t1, tidy_t2, tidy_cf]

theorem State.capStreamOpen_tidy (s : State) (c : CapRef) (qp : Qp) (bs : List Byte) (hs0 : Tidy s) :
    Tidy (State.capStreamOpen s c qp bs) := by
  unfold State.capStreamOpen
  simp +contextual (maxDischargeDepth := 100) only [hs0, ↓tidy_mk, tidy_regs, tidy_t1, tidy_t2, tidy_cf, ↓tidy_ite, implies_true, ↓State.adminKey_tidy, ↓State.failCap_tidy, ↓State.parisonNext_tidy, ↓State.sendRec_tidy, ↓State.updStream_tidy]

theorem State.openDone_tidy (s : State) (id : Nat) (hs0 : Tidy s) :
    Tidy (State.openDone s id) := by
  unfold State.openDone
  repeat' split
  all_goals simp +contextual (maxDischargeDepth := 100) only [hs0, ↓State.okCap_tidy, ↓State.updStream_tidy]

theorem State.withStream_tidy (s : State) (c : CapRef) (qp : Qp) (bs : List Byte) (go : Nat → Stream → State → State) (hs0 : Tidy s) (h_go : ∀ a0 a1 a2, Tidy a2 → Tidy (go a0 a1 a2)) :
    Tidy (State.withStream s c qp bs go) := by
  unfold State.withStream
  repeat' first
    | simp +contextual (maxDischargeDepth := 100) only [hs0, ↓tidy_ite, ↓State.failCap_tidy, ↓h_go]
    | split

theorem State.capStreamAdvance_tidy (s : State) (c : CapRef) (qp : Qp) (bs : List Byte) (hs0 : Tidy s) :
    Tidy (State.capStreamAdvance s c qp bs) := by
  unfold State.capStreamAdvance
  repeat' first
    | assumption
    | simp +contextual (maxDischargeDepth := 100) only [hs0, implies_true, ↓State.failCap_tidy, ↓State.leaveWindow_tidy, ↓State.okCap_tidy, ↓State.parisonNext_tidy, ↓State.sendRec_tidy, ↓State.updStream_tidy]
    | split
    | with_reducible refine State.withStream_tidy _ _ _ _ _ ?_ ?_
    | intro _

theorem State.capStreamClose_tidy (s : State) (c : CapRef) (qp : Qp) (bs : List Byte) (hs0 : Tidy s) :
    Tidy (State.capStreamClose s c qp bs) := by
  unfold State.capStreamClose
  simp +contextual (maxDischargeDepth := 100) only [hs0, ↓tidy_mk, tidy_regs, tidy_t1, tidy_t2, tidy_cf, implies_true, ↓State.leaveWindow_tidy, ↓State.okCap_tidy, ↓State.withStream_tidy]

theorem State.layerLoaded_tidy (s : State) (id : Nat) (layer : Nat) (healed : Bool) (hs0 : Tidy s) :
    Tidy (State.layerLoaded s id layer healed) := by
  unfold State.layerLoaded
  repeat' first
    | assumption
    | simp +contextual (maxDischargeDepth := 100) only [hs0, ↓State.loadGranules_tidy, ↓State.openDone_tidy, ↓State.parisonNext_tidy, ↓State.streamDamage_tidy, ↓State.updStream_tidy]
    | refine tidy_ite ?_ ?_
    | split
    | with_reducible refine State.newFrame_tidy _ _ _ ?_
    | with_reducible refine State.openDone_tidy _ _ ?_
    | with_reducible refine State.parisonNext_tidy _ _ ?_
    | with_reducible refine State.poisonUnit_tidy _ _ ?_
    | with_reducible refine State.streamDamage_tidy _ _ _ ?_
    | with_reducible refine State.updStream_tidy _ _ _ ?_
    | refine foldl_tidy _ _ _ ?_ (fun s a h => ?_)

/-! ### Space.lean -/

theorem State.setBlk_tidy (s : State) (n : Nat) (b : Blk) (hs0 : Tidy s) :
    Tidy (State.setBlk s n b) := by
  unfold State.setBlk
  simp +contextual (maxDischargeDepth := 100) only [hs0, ↓tidy_mk, tidy_regs, tidy_t1, tidy_t2, tidy_cf]

theorem State.updBlk_tidy (s : State) (n : Nat) (f : Blk → Blk) (hs0 : Tidy s) :
    Tidy (State.updBlk s n f) := by
  unfold State.updBlk
  simp +contextual (maxDischargeDepth := 100) only [hs0, ↓State.setBlk_tidy]

theorem State.tierHold_tidy (s : State) (h : Nat) (hs0 : Tidy s) :
    Tidy (State.tierHold s h) := by
  unfold State.tierHold
  simp +contextual (maxDischargeDepth := 100) only [hs0, ↓tidy_ite, ↓foldl_tidy, implies_true, ↓State.fence_tidy, ↓State.notify_tidy, ↓State.record_tidy]

theorem State.tierRelease_tidy (s : State) (h : Nat) (hs0 : Tidy s) :
    Tidy (State.tierRelease s h) := by
  unfold State.tierRelease
  simp +contextual (maxDischargeDepth := 100) only [hs0, ↓tidy_mk, tidy_regs, tidy_t1, tidy_t2, tidy_cf, ↓tidy_ite, ↓State.record_tidy]

theorem State.holdsFollow_tidy (s : State) (hs0 : Tidy s) :
    Tidy (State.holdsFollow s) := by
  unfold State.holdsFollow
  simp +contextual (maxDischargeDepth := 100) only [hs0, ↓tidy_ite, ↓foldl_tidy, implies_true, ↓State.tierHold_tidy, ↓State.tierRelease_tidy]

theorem State.spaceWarn_tidy (s : State) (pct : Nat) (hs0 : Tidy s) :
    Tidy (State.spaceWarn s pct) := by
  unfold State.spaceWarn
  simp +contextual (maxDischargeDepth := 100) only [hs0, ↓foldl_tidy, implies_true, ↓State.notifyAll_tidy, ↓State.record_tidy]

theorem State.spaceCheck_tidy (s : State) (hs0 : Tidy s) :
    Tidy (State.spaceCheck s) := by
  unfold State.spaceCheck
  simp +contextual (maxDischargeDepth := 100) only [hs0, ↓tidy_mk, tidy_regs, tidy_t1, tidy_t2, tidy_cf, ↓tidy_ite, ↓State.holdsFollow_tidy, ↓State.put_tidy, ↓State.setRegBit_tidy, ↓State.spaceWarn_tidy]

/-! ### Conn.lean -/

theorem State.cmIn_tidy (s : State) (c : Cm) (hs0 : Tidy s) :
    Tidy (State.cmIn s c).1 := by
  unfold State.cmIn
  repeat' first
    | simp +contextual (maxDischargeDepth := 100) only [hs0, ↓tidy_ite1, ↓State.count_tidy, ↓State.linkIn_tidy, ↓State.wake_tidy]
    | refine tidy_ite1 ?_ ?_
    | split

theorem State.sendRep_tidy (s : State) (c : Cm) (n : Nat) (q : Qp) (hs0 : Tidy s) :
    Tidy (State.sendRep s c n q) := by
  unfold State.sendRep
  simp +contextual (maxDischargeDepth := 100) only [hs0, ↓State.emit_tidy]

theorem State.sendRej_tidy (s : State) (c : Cm) (reason : Nat) (hs0 : Tidy s) :
    Tidy (State.sendRej s c reason) := by
  unfold State.sendRej
  simp +contextual (maxDischargeDepth := 100) only [hs0, ↓State.emit_tidy]

theorem State.newConn_tidy (s : State) (c : Cm) (m : ReqMsg) (h : Nat) (hs0 : Tidy s) :
    Tidy (State.newConn s c m h) := by
  unfold State.newConn
  try dsimp only
  repeat' first
    | with_reducible assumption
    | with_reducible refine State.sendRej_tidy _ _ _ ?_
    | with_reducible refine State.sendRep_tidy _ _ _ _ ?_
    | with_reducible refine State.setQp_tidy _ _ _ ?_
    | with_reducible refine State.touchQp_tidy _ _ ?_
    | with_reducible refine State.updHome_tidy _ _ _ ?_
    | refine tidy_ite ?_ ?_
    | split
    | with_reducible refine tidy_of_some (by assumption) (State.issueKey_tidy _ _ _ _ _ _ ?_)

theorem execReq_tidy (c : Cm) (m : ReqMsg) (s : State) (hs0 : Tidy s) :
    Tidies (execReq c m s) := by
  unfold execReq
  repeat' first
    | simp +contextual (maxDischargeDepth := 100) only [hs0, ↓tidy_ite, ↓State.cmIn_tidy, ↓State.newConn_tidy, ↓State.sendRep_tidy, ↓tidies_next]
    | split

theorem State.cmMsg_tidy (s : State) (c : Cm) (go : Nat → Qp → State → State) (hs0 : Tidy s) (h_go : ∀ a0 a1 a2, Tidy a2 → Tidy (go a0 a1 a2)) :
    Tidies (State.cmMsg s c go) := by
  unfold State.cmMsg
  repeat' first
    | simp +contextual (maxDischargeDepth := 100) only [hs0, ↓tidy_ite, ↓State.cmIn_tidy, ↓h_go, ↓tidies_next]
    | split

theorem execRtu_tidy (c : Cm) (s : State) (hs0 : Tidy s) :
    Tidies (execRtu c s) := by
  unfold execRtu
  simp +contextual (maxDischargeDepth := 100) only [hs0, implies_true, ↓State.cmMsg_tidy, ↓State.toRts_tidy]

theorem execRej_tidy (c : Cm) (s : State) (hs0 : Tidy s) :
    Tidies (execRej c s) := by
  unfold execRej
  simp +contextual (maxDischargeDepth := 100) only [hs0, ↓tidy_ite, implies_true, ↓State.cmMsg_tidy, ↓State.freeQp_tidy]

theorem execMra_tidy (c : Cm) (s : State) (hs0 : Tidy s) :
    Tidies (execMra c s) := by
  unfold execMra
  simp +contextual (maxDischargeDepth := 100) only [hs0, implies_true, ↓State.cmMsg_tidy]

theorem execDreq_tidy (c : Cm) (s : State) (hs0 : Tidy s) :
    Tidies (execDreq c s) := by
  unfold execDreq
  simp +contextual (maxDischargeDepth := 100) only [hs0, ↓tidy_ite, implies_true, ↓State.cmMsg_tidy, ↓State.emit_tidy, ↓State.freeQp_tidy, ↓State.msgDone_tidy, ↓State.settle_tidy]

theorem execDrep_tidy (c : Cm) (s : State) (hs0 : Tidy s) :
    Tidies (execDrep c s) := by
  unfold execDrep
  simp +contextual (maxDischargeDepth := 100) only [hs0, ↓tidy_ite, implies_true, ↓State.cmMsg_tidy, ↓State.freeQp_tidy, ↓State.msgDone_tidy, ↓State.settle_tidy]

theorem State.cmRefuse_tidy (s : State) (c : Cm) (o : Out) (hs0 : Tidy s) :
    Tidies (State.cmRefuse s c o) := by
  unfold State.cmRefuse
  simp +contextual (maxDischargeDepth := 100) only [hs0, ↓tidy_ite, ↓State.cmIn_tidy, ↓State.emit_tidy, ↓tidies_next]

theorem execLap_tidy (c : Cm) (s : State) (hs0 : Tidy s) :
    Tidies (execLap c s) := by
  unfold execLap
  simp +contextual (maxDischargeDepth := 100) only [hs0, ↓State.cmRefuse_tidy]

theorem execApr_tidy (c : Cm) (s : State) (hs0 : Tidy s) :
    Tidies (execApr c s) := by
  unfold execApr
  simp +contextual (maxDischargeDepth := 100) only [hs0, ↓State.cmRefuse_tidy]

theorem execSidrReq_tidy (c : Cm) (s : State) (hs0 : Tidy s) :
    Tidies (execSidrReq c s) := by
  unfold execSidrReq
  simp +contextual (maxDischargeDepth := 100) only [hs0, ↓State.cmRefuse_tidy]

/-! ### HostReq.lean -/

theorem execSend_tidy (p : Pkt) (pos : Pos) (imm : Option (BitVec 32)) (data : List Byte) (s : State) (hs0 : Tidy s) :
    Tidies (execSend p pos imm data s) := by
  unfold execSend
  simp +contextual (maxDischargeDepth := 100) only [hs0, ↓State.ingress_tidy, ↓State.spaceCheck_tidy, ↓tidies_next]

theorem execRdmaWrite_tidy (p : Pkt) (pos : Pos) (reth : Option Reth) (data : List Byte) (s : State) (hs0 : Tidy s) :
    Tidies (execRdmaWrite p pos reth data s) := by
  unfold execRdmaWrite
  simp +contextual (maxDischargeDepth := 100) only [hs0, ↓State.ingress_tidy, ↓State.spaceCheck_tidy, ↓tidies_next]

theorem execRdmaWriteWithImmediate_tidy (p : Pkt) (pos : Pos) (reth : Option Reth) (imm : BitVec 32) (data : List Byte) (s : State) (hs0 : Tidy s) :
    Tidies (execRdmaWriteWithImmediate p pos reth imm data s) := by
  unfold execRdmaWriteWithImmediate
  simp +contextual (maxDischargeDepth := 100) only [hs0, ↓State.ingress_tidy, ↓State.spaceCheck_tidy, ↓tidies_next]

theorem execRdmaReadRequest_tidy (p : Pkt) (reth : Reth) (s : State) (hs0 : Tidy s) :
    Tidies (execRdmaReadRequest p reth s) := by
  unfold execRdmaReadRequest
  simp +contextual (maxDischargeDepth := 100) only [hs0, ↓State.ingress_tidy, ↓tidies_next]

theorem execCompareAndSwap_tidy (p : Pkt) (va : BitVec 64) (key : BitVec 32) (swap : BitVec 64) (cmp : BitVec 64) (s : State) (hs0 : Tidy s) :
    Tidies (execCompareAndSwap p va key swap cmp s) := by
  unfold execCompareAndSwap
  simp +contextual (maxDischargeDepth := 100) only [hs0, ↓State.ingress_tidy, ↓State.spaceCheck_tidy, ↓tidies_next]

theorem execFetchAndAdd_tidy (p : Pkt) (va : BitVec 64) (key : BitVec 32) (add : BitVec 64) (s : State) (hs0 : Tidy s) :
    Tidies (execFetchAndAdd p va key add s) := by
  unfold execFetchAndAdd
  simp +contextual (maxDischargeDepth := 100) only [hs0, ↓State.ingress_tidy, ↓State.spaceCheck_tidy, ↓tidies_next]

theorem execAtomicWrite_tidy (p : Pkt) (reth : Reth) (data : List Byte) (s : State) (hs0 : Tidy s) :
    Tidies (execAtomicWrite p reth data s) := by
  unfold execAtomicWrite
  simp +contextual (maxDischargeDepth := 100) only [hs0, ↓State.ingress_tidy, ↓State.spaceCheck_tidy, ↓tidies_next]

theorem execRdmaFlush_tidy (p : Pkt) (reth : Reth) (global : Bool) (persist : Bool) (rangeSel : Bool) (s : State) (hs0 : Tidy s) :
    Tidies (execRdmaFlush p reth global persist rangeSel s) := by
  unfold execRdmaFlush
  simp +contextual (maxDischargeDepth := 100) only [hs0, ↓State.ingress_tidy, ↓tidies_next]

theorem execUnsupportedRdmaOpcode_tidy (p : Pkt) (opcode : BitVec 8) (s : State) (hs0 : Tidy s) :
    Tidies (execUnsupportedRdmaOpcode p opcode s) := by
  unfold execUnsupportedRdmaOpcode
  simp +contextual (maxDischargeDepth := 100) only [hs0, ↓State.ingress_tidy, ↓tidies_next]

theorem State.reqSide_tidy (s : State) (p : Pkt) (go : Nat → Qp → State → State) (hs0 : Tidy s) (h_go : ∀ a0 a1 a2, Tidy a2 → Tidy (go a0 a1 a2)) :
    Tidies (State.reqSide s p go) := by
  unfold State.reqSide
  repeat' first
    | simp +contextual (maxDischargeDepth := 100) only [hs0, ↓tidy_ite, ↓State.headerIn_tidy, ↓State.linkIn_tidy, ↓h_go, ↓tidies_next]
    | split

theorem execAcknowledge_tidy (p : Pkt) (s : State) (hs0 : Tidy s) :
    Tidies (execAcknowledge p s) := by
  unfold execAcknowledge
  simp +contextual (maxDischargeDepth := 100) only [hs0, implies_true, ↓State.pumpReqs_tidy, ↓State.reqSide_tidy, ↓State.setReqs_tidy, ↓State.settle_tidy]

theorem execSequenceNakReceived_tidy (p : Pkt) (s : State) (hs0 : Tidy s) :
    Tidies (execSequenceNakReceived p s) := by
  unfold execSequenceNakReceived
  simp +contextual (maxDischargeDepth := 100) only [hs0, ↓tidy_ite, implies_true, ↓State.reqSide_tidy, ↓State.resend_tidy, ↓State.setReqs_tidy, ↓State.settle_tidy]

theorem execRnrNakReceived_tidy (p : Pkt) (s : State) (hs0 : Tidy s) :
    Tidies (execRnrNakReceived p s) := by
  unfold execRnrNakReceived
  simp +contextual (maxDischargeDepth := 100) only [hs0, implies_true, ↓State.enterError_tidy, ↓State.reqSide_tidy, ↓State.settle_tidy]

theorem execErrorNakReceived_tidy (p : Pkt) (kind : NakKind) (s : State) (hs0 : Tidy s) :
    Tidies (execErrorNakReceived p kind s) := by
  unfold execErrorNakReceived
  simp +contextual (maxDischargeDepth := 100) only [hs0, implies_true, ↓State.enterError_tidy, ↓State.reqSide_tidy, ↓State.settle_tidy]

theorem execCnp_tidy (p : Pkt) (s : State) (hs0 : Tidy s) :
    Tidies (execCnp p s) := by
  unfold execCnp
  simp +contextual (maxDischargeDepth := 100) only [hs0, ↓tidy_ite, implies_true, ↓State.count_tidy, ↓State.reqSide_tidy, ↓State.updQp_tidy]

/-! ### PortEvents.lean -/

theorem State.frameIn_tidy (s : State) (p : Nat) (go : State → State) (hs0 : Tidy s) (h_go : ∀ a0, Tidy a0 → Tidy (go a0)) :
    Tidy (State.frameIn s p go) := by
  unfold State.frameIn
  simp +contextual (maxDischargeDepth := 100) only [hs0, ↓tidy_ite, ↓State.count_tidy, ↓h_go]

theorem State.partnerPause_tidy (s : State) (p : Nat) (k : Nat) (on : Bool) (hs0 : Tidy s) :
    Tidy (State.partnerPause s p k on) := by
  unfold State.partnerPause
  simp +contextual (maxDischargeDepth := 100) only [hs0, ↓State.setRegBit_tidy, ↓State.updPort_tidy]

theorem execPfcFrame_tidy (port : Fin 8) (enable : BitVec 8) (quantaNonZero : BitVec 8) (s : State) (hs0 : Tidy s) :
    Tidies (execPfcFrame port enable quantaNonZero s) := by
  unfold execPfcFrame
  simp +contextual (maxDischargeDepth := 100) only [hs0, ↓tidy_ite, ↓foldl_tidy, implies_true, ↓State.count_tidy, ↓State.frameIn_tidy, ↓State.partnerPause_tidy, ↓tidies_core]

theorem execLldpFrame_tidy (port : Fin 8) (s : State) (hs0 : Tidy s) :
    Tidies (execLldpFrame port s) := by
  unfold execLldpFrame
  simp +contextual (maxDischargeDepth := 100) only [hs0, implies_true, ↓State.emit_tidy, ↓State.frameIn_tidy, ↓tidies_core]

theorem execArpRequest_tidy (port : Fin 8) (target : BitVec 32) (s : State) (hs0 : Tidy s) :
    Tidies (execArpRequest port target s) := by
  unfold execArpRequest
  repeat' first
    | assumption
    | simp +contextual (maxDischargeDepth := 100) only [hs0, ↓tidy_ite, ↓State.count_tidy, ↓State.emit_tidy]
    | refine tidy_ite ?_ ?_
    | split
    | refine tidies_next ?_

theorem execNeighbourSolicitation_tidy (port : Fin 8) (target : BitVec 128) (s : State) (hs0 : Tidy s) :
    Tidies (execNeighbourSolicitation port target s) := by
  unfold execNeighbourSolicitation
  repeat' first
    | assumption
    | simp +contextual (maxDischargeDepth := 100) only [hs0, ↓tidy_ite, ↓State.count_tidy, ↓State.emit_tidy]
    | refine tidy_ite ?_ ?_
    | split
    | refine tidies_next ?_

theorem execEchoRequest_tidy (port : Fin 8) (ipv6 : Bool) (dst : Nat) (s : State) (hs0 : Tidy s) :
    Tidies (execEchoRequest port ipv6 dst s) := by
  unfold execEchoRequest
  repeat' first
    | assumption
    | simp +contextual (maxDischargeDepth := 100) only [hs0, ↓tidy_ite, ↓State.count_tidy, ↓State.emit_tidy, ↓State.updPort_tidy]
    | refine tidy_ite ?_ ?_
    | split
    | refine tidies_next ?_

theorem execOtherFrame_tidy (port : Fin 8) (fcsOk : Bool) (s : State) (hs0 : Tidy s) :
    Tidies (execOtherFrame port fcsOk s) := by
  unfold execOtherFrame
  simp +contextual (maxDischargeDepth := 100) only [hs0, implies_true, ↓State.count_tidy, ↓State.frameIn_tidy, ↓tidies_core]

theorem execPortFecLock_tidy (port : Fin 8) (s : State) (hs0 : Tidy s) :
    Tidies (execPortFecLock port s) := by
  unfold execPortFecLock
  simp +contextual (maxDischargeDepth := 100) only [hs0, ↓tidy_ite, ↓foldl_tidy, implies_true, ↓State.count_tidy, ↓State.emit_tidy, ↓State.put_tidy, ↓State.putB_tidy, ↓State.record_tidy, ↓State.updPort_tidy, ↓tidies_core]

theorem execPortLinkLoss_tidy (port : Fin 8) (s : State) (hs0 : Tidy s) :
    Tidies (execPortLinkLoss port s) := by
  unfold execPortLinkLoss
  simp +contextual (maxDischargeDepth := 100) only [hs0, ↓tidy_ite, ↓foldl_tidy, implies_true, ↓State.partnerPause_tidy, ↓State.putB_tidy, ↓State.record_tidy, ↓State.updPort_tidy, ↓tidies_core]

theorem execLinkTrainingTimeout_tidy (port : Fin 8) (s : State) (hs0 : Tidy s) :
    Tidies (execLinkTrainingTimeout port s) := by
  unfold execLinkTrainingTimeout
  simp +contextual (maxDischargeDepth := 100) only [hs0, ↓tidy_ite, ↓State.putB_tidy, ↓State.record_tidy, ↓State.updPort_tidy, ↓tidies_core]

theorem execPfcXoffRepeat_tidy (port : Fin 8) (cls : Fin 8) (s : State) (hs0 : Tidy s) :
    Tidies (execPfcXoffRepeat port cls s) := by
  unfold execPfcXoffRepeat
  simp +contextual (maxDischargeDepth := 100) only [hs0, ↓tidy_ite, ↓State.count_tidy, ↓State.emit_tidy, ↓tidies_core]

theorem execPauseStormTimeout_tidy (port : Fin 8) (cls : Fin 8) (s : State) (hs0 : Tidy s) :
    Tidies (execPauseStormTimeout port cls s) := by
  unfold execPauseStormTimeout
  simp +contextual (maxDischargeDepth := 100) only [hs0, ↓tidy_ite, ↓State.record_tidy, ↓State.updPort_tidy, ↓tidies_core]

theorem execAckCoalesceTimeout_tidy (qpn : BitVec 24) (s : State) (hs0 : Tidy s) :
    Tidies (execAckCoalesceTimeout qpn s) := by
  unfold execAckCoalesceTimeout
  split <;> simp +contextual (maxDischargeDepth := 100) only [hs0, ↓tidy_ite, ↓State.sendAck_tidy, ↓tidies_core]

theorem execLocalAckTimeout_tidy (qpn : BitVec 24) (s : State) (hs0 : Tidy s) :
    Tidies (execLocalAckTimeout qpn s) := by
  unfold execLocalAckTimeout
  split <;> simp +contextual (maxDischargeDepth := 100) only [hs0, ↓tidy_ite, ↓State.resend_tidy, ↓State.settle_tidy, ↓tidies_core]

theorem execErrorHoldExpiry_tidy (qpn : BitVec 24) (s : State) (hs0 : Tidy s) :
    Tidies (execErrorHoldExpiry qpn s) := by
  unfold execErrorHoldExpiry
  split <;> simp +contextual (maxDischargeDepth := 100) only [hs0, ↓tidy_ite, ↓State.freeQp_tidy, ↓tidies_core]

theorem execRpTimerExpiry_tidy (qpn : BitVec 24) (s : State) (hs0 : Tidy s) :
    Tidies (execRpTimerExpiry qpn s) := by
  unfold execRpTimerExpiry
  repeat' first
    | simp +contextual (maxDischargeDepth := 100) only [hs0, ↓tidy_ite, ↓State.updQp_tidy, ↓tidies_core]
    | split

theorem execContextFetchDone_tidy (qpn : BitVec 24) (s : State) (hs0 : Tidy s) :
    Tidies (execContextFetchDone qpn s) := by
  unfold execContextFetchDone
  repeat' first
    | simp +contextual (maxDischargeDepth := 100) only [hs0, ↓tidy_ite, ↓State.refeedWhere_tidy, ↓State.sendRewind_tidy, ↓State.updQp_tidy, ↓tidies_core]
    | split

theorem execContextSpillDone_tidy (qpn : BitVec 24) (s : State) (hs0 : Tidy s) :
    Tidies (execContextSpillDone qpn s) := by
  unfold execContextSpillDone
  repeat' first
    | simp +contextual (maxDischargeDepth := 100) only [hs0, ↓tidy_ite, ↓State.refeedWhere_tidy, ↓State.updQp_tidy, ↓tidies_core]
    | split

theorem execContextVictimSpill_tidy (qpn : BitVec 24) (s : State) (hs0 : Tidy s) :
    Tidies (execContextVictimSpill qpn s) := by
  unfold execContextVictimSpill
  repeat' first
    | simp +contextual (maxDischargeDepth := 100) only [hs0, ↓State.updQp_tidy, ↓tidies_core]
    | split

theorem execKeyCacheFill_tidy (key : BitVec 32) (s : State) (hs0 : Tidy s) :
    Tidies (execKeyCacheFill key s) := by
  unfold execKeyCacheFill
  simp +contextual (maxDischargeDepth := 100) only [hs0, ↓State.cacheTouch_tidy, ↓State.refeedWhere_tidy, ↓tidies_core, ↓tidies_ite]

theorem execRegionTransitionResolved_tidy (region : Nat) (s : State) (hs0 : Tidy s) :
    Tidies (execRegionTransitionResolved region s) := by
  unfold execRegionTransitionResolved
  simp +contextual (maxDischargeDepth := 100) only [hs0, ↓tidy_mk, tidy_regs, tidy_t1, tidy_t2, tidy_cf, ↓State.fenceStatus_tidy, ↓State.refeedWhere_tidy, ↓tidies_core]

theorem execExceptionNakBuilt_tidy (qpn : BitVec 24) (s : State) (hs0 : Tidy s) :
    Tidies (execExceptionNakBuilt qpn s) := by
  unfold execExceptionNakBuilt
  refine tidies_core hs0 (State.refeed_tidy _ _ hs0 (fun h g hg s ht => ?_))
  split at hg
  · cases hg
    exact State.queueNak_tidy _ _ _ _ ht
  · cases hg

theorem execExceptionQueueRoom_tidy (slice : Fin 8) (s : State) (hs0 : Tidy s) :
    Tidies (execExceptionQueueRoom slice s) := by
  unfold execExceptionQueueRoom
  simp +contextual (maxDischargeDepth := 100) only [hs0, ↓tidy_ite, ↓State.refeedWhere_tidy, ↓tidies_core]

theorem execSlotFreed_tidy (slice : Fin 8) (s : State) (hs0 : Tidy s) :
    Tidies (execSlotFreed slice s) := by
  unfold execSlotFreed
  simp +contextual (maxDischargeDepth := 100) only [hs0, ↓tidy_ite, ↓State.refeedWhere_tidy, ↓tidies_core]

theorem State.steerNow_tidy (s : State) (hs0 : Tidy s) :
    Tidy (State.steerNow s) := by
  unfold State.steerNow
  simp +contextual (maxDischargeDepth := 100) only [hs0, ↓tidy_mk, tidy_regs, tidy_t1, tidy_t2, tidy_cf, ↓tidy_ite, ↓State.refeedWhere_tidy]

theorem execSteeringChange_tidy (index : Fin 8) (slice : Fin 8) (s : State) (hs0 : Tidy s) :
    Tidies (execSteeringChange index slice s) := by
  unfold execSteeringChange
  simp +contextual (maxDischargeDepth := 100) only [hs0, ↓tidy_mk, tidy_regs, tidy_t1, tidy_t2, tidy_cf, ↓tidy_ite, ↓State.steerNow_tidy, ↓tidies_core]

/-! ### TierEvents.lean -/

theorem State.deliver_tidy (s : State) (u : Nat) (k : Nat) (hs0 : Tidy s) :
    Tidy (State.deliver s u k) := by
  unfold State.deliver
  simp +contextual (maxDischargeDepth := 100) only [hs0, ↓State.count_tidy, ↓State.fillLines_tidy, ↓State.retryFill_tidy, ↓State.spaceCheck_tidy]

theorem execT2FillDone_tidy (unit : Nat) (codeword : Fin 4) (decoded : Bool) (s : State) (hs0 : Tidy s) :
    Tidies (execT2FillDone unit codeword decoded s) := by
  unfold execT2FillDone
  split <;> simp +contextual (maxDischargeDepth := 100) only [hs0, ↓tidy_ite, ↓State.deliver_tidy, ↓State.needHeal_tidy, ↓tidies_core]

theorem execT2Deadline_tidy (txn : Nat) (s : State) (hs0 : Tidy s) :
    Tidies (execT2Deadline txn s) := by
  unfold execT2Deadline
  repeat' split
  all_goals simp +contextual (maxDischargeDepth := 100) only [hs0, ↓State.count_tidy, ↓State.placeAtomic_tidy, ↓State.record_tidy, ↓State.settle_tidy, ↓State.updTxn_tidy, ↓tidies_core]

theorem State.recConfirmed_tidy (s : State) (k : RecKind) (m : Nat) (hs0 : Tidy s) :
    Tidy (State.recConfirmed s k m) := by
  unfold State.recConfirmed
  repeat' split
  all_goals simp +contextual (maxDischargeDepth := 100) only [hs0, ↓tidy_mk, tidy_regs, tidy_t1, tidy_t2, tidy_cf, ↓State.activate_tidy, ↓State.applyDoorbell_tidy, ↓State.okCap_tidy, ↓State.openDone_tidy, ↓State.pinDone_tidy, ↓State.pumpReqs_tidy, ↓State.updQp_tidy, ↓State.updQueue_tidy, ↓State.updRegion_tidy, ↓State.updStream_tidy]

theorem State.confirmOne_tidy (s : State) (h : Nat) (m : Nat) (hs0 : Tidy s) :
    Tidy (State.confirmOne s h m) := by
  unfold State.confirmOne
  simp +contextual (maxDischargeDepth := 100) only [hs0, ↓tidy_mk, tidy_regs, tidy_t1, tidy_t2, tidy_cf, ↓foldl_tidy, implies_true, ↓State.countMax_tidy, ↓State.recConfirmed_tidy]

theorem execConfirm_tidy (home : Fin 2) (entries : List (BitVec 48 × BitVec 16)) (s : State) (hs0 : Tidy s) :
    Tidies (execConfirm home entries s) := by
  unfold execConfirm
  simp +contextual (maxDischargeDepth := 100) only [hs0, ↓tidy_ite, ↓foldl_tidy, implies_true, ↓State.confirmOne_tidy, ↓State.settle_tidy, ↓tidies_core]

theorem execHealReq_tidy (home : Fin 2) (unit : Nat) (number : Nat) (s : State) (hs0 : Tidy s) :
    Tidies (execHealReq home unit number s) := by
  unfold execHealReq
  simp +contextual (maxDischargeDepth := 100) only [hs0, ↓tidy_ite, ↓foldl_tidy, implies_true, ↓State.count_tidy, ↓State.linkSend_tidy, ↓tidies_core]

theorem State.healPiece_tidy (s : State) (u : Nat) (piece : Nat) (data : List Byte) (poison : BitVec 64) (hs0 : Tidy s) :
    Tidy (State.healPiece s u piece data poison) := by
  unfold State.healPiece
  split <;> simp +contextual (maxDischargeDepth := 100) only [hs0, ↓tidy_mk, tidy_regs, tidy_t1, tidy_t2, tidy_cf, ↓foldl_tidy, implies_true, ↓State.setFrame_tidy, ↓State.t1Write_tidy]

theorem State.healDone_tidy (s : State) (u : Nat) (hs0 : Tidy s) :
    Tidy (State.healDone s u) := by
  unfold State.healDone
  split <;> simp +contextual (maxDischargeDepth := 100) only [hs0, ↓tidy_mk, tidy_regs, tidy_t1, tidy_t2, tidy_cf, ↓tidy_ite, ↓State.count_tidy, ↓State.lostDone_tidy, ↓State.setFrame_tidy, ↓State.streamsDamage_tidy]

theorem execHealData_tidy (home : Fin 2) (unit : Nat) (number : Nat) (piece : Fin 4) (data : List Byte) (poison : BitVec 64) (s : State) (hs0 : Tidy s) :
    Tidies (execHealData home unit number piece data poison s) := by
  unfold execHealData
  repeat' split
  all_goals simp +contextual (maxDischargeDepth := 100) only [hs0, ↓State.healDone_tidy, ↓State.healPiece_tidy, ↓State.newFrame_tidy, ↓State.retryFill_tidy, ↓State.spaceCheck_tidy, ↓tidies_refused, ↓tidies_core]

theorem execHealFail_tidy (home : Fin 2) (unit : Nat) (number : Nat) (s : State) (hs0 : Tidy s) :
    Tidies (execHealFail home unit number s) := by
  unfold execHealFail
  simp +contextual (maxDischargeDepth := 100) only [hs0, ↓tidy_ite, ↓State.poisonUnit_tidy, ↓tidies_core]

theorem execFloatGranuleFreed_tidy (granule : Nat) (s : State) (hs0 : Tidy s) :
    Tidies (execFloatGranuleFreed granule s) := by
  unfold execFloatGranuleFreed
  simp +contextual (maxDischargeDepth := 100) only [hs0, ↓tidy_ite, ↓State.evict_tidy, ↓State.put_tidy, ↓State.retry_tidy, ↓State.setGranule_tidy, ↓tidies_core]

theorem execTransientFrameCleaned_tidy (unit : Nat) (s : State) (hs0 : Tidy s) :
    Tidies (execTransientFrameCleaned unit s) := by
  unfold execTransientFrameCleaned
  split <;> simp +contextual (maxDischargeDepth := 100) only [hs0, ↓tidy_ite, ↓State.retry_tidy, ↓tidies_core]

theorem execParisonLayerLoaded_tidy (stream : Nat) (layer : Nat) (healed : Bool) (s : State) (hs0 : Tidy s) :
    Tidies (execParisonLayerLoaded stream layer healed s) := by
  unfold execParisonLayerLoaded
  simp +contextual (maxDischargeDepth := 100) only [hs0, ↓State.layerLoaded_tidy, ↓State.settle_tidy, ↓tidies_core]

theorem execPinLoadDone_tidy (c : CapRef) (s : State) (hs0 : Tidy s) :
    Tidies (execPinLoadDone c s) := by
  unfold execPinLoadDone
  split <;> simp +contextual (maxDischargeDepth := 100) only [hs0, ↓tidy_mk, tidy_regs, tidy_t1, tidy_t2, tidy_cf, ↓State.loadGranules_tidy, ↓State.pinDone_tidy, ↓State.settle_tidy, ↓tidies_core]

theorem execStreamStallTimeout_tidy (stream : Nat) (s : State) (hs0 : Tidy s) :
    Tidies (execStreamStallTimeout stream s) := by
  unfold execStreamStallTimeout
  split <;> simp +contextual (maxDischargeDepth := 100) only [hs0, ↓tidy_ite, ↓State.record_tidy, ↓State.updStream_tidy, ↓tidies_core]

theorem execFenceComplete_tidy (fence : Nat) (s : State) (hs0 : Tidy s) :
    Tidies (execFenceComplete fence s) := by
  unfold execFenceComplete
  split <;> simp +contextual (maxDischargeDepth := 100) only [hs0, ↓tidy_ite, ↓State.fenceEnd_tidy, ↓State.settle_tidy, ↓tidies_core]

theorem execFenceTimeout_tidy (fence : Nat) (s : State) (hs0 : Tidy s) :
    Tidies (execFenceTimeout fence s) := by
  unfold execFenceTimeout
  split <;> simp +contextual (maxDischargeDepth := 100) only [hs0, ↓tidy_ite, ↓State.fenceTimeout_tidy, ↓tidies_core]

/-! ### CapData.lean -/

theorem execFetchGrant_tidy (home : Fin 2) (s : State) (hs0 : Tidy s) :
    Tidies (execFetchGrant home s) := by
  unfold execFetchGrant
  simp +contextual (maxDischargeDepth := 100) only [hs0, ↓State.fetchGrant_tidy, ↓tidies_core]

theorem State.doorbellWrite_tidy (s : State) (p : Pkt) (key : BitVec 32) (offset : BitVec 64) (value : BitVec 64) (hs0 : Tidy s) :
    Tidy (State.doorbellWrite s p key offset value) := by
  unfold State.doorbellWrite
  simp +contextual (maxDischargeDepth := 100) only [hs0, ↓State.ingress_tidy]

theorem execSqDoorbell_tidy (p : Pkt) (key : BitVec 32) (offset : BitVec 64) (value : BitVec 64) (s : State) (hs0 : Tidy s) :
    Tidies (execSqDoorbell p key offset value s) := by
  unfold execSqDoorbell
  simp +contextual (maxDischargeDepth := 100) only [hs0, ↓State.doorbellWrite_tidy, ↓tidies_core]

theorem execResumeDoorbell_tidy (p : Pkt) (key : BitVec 32) (offset : BitVec 64) (sqTail : BitVec 16) (s : State) (hs0 : Tidy s) :
    Tidies (execResumeDoorbell p key offset sqTail s) := by
  unfold execResumeDoorbell
  simp +contextual (maxDischargeDepth := 100) only [hs0, ↓State.doorbellWrite_tidy, ↓tidies_core]

theorem execResumeReplayDoorbell_tidy (p : Pkt) (key : BitVec 32) (offset : BitVec 64) (sqTail : BitVec 16) (s : State) (hs0 : Tidy s) :
    Tidies (execResumeReplayDoorbell p key offset sqTail s) := by
  unfold execResumeReplayDoorbell
  simp +contextual (maxDischargeDepth := 100) only [hs0, ↓State.doorbellWrite_tidy, ↓tidies_core]

theorem execCqDoorbell_tidy (p : Pkt) (key : BitVec 32) (offset : BitVec 64) (value : BitVec 64) (s : State) (hs0 : Tidy s) :
    Tidies (execCqDoorbell p key offset value s) := by
  unfold execCqDoorbell
  simp +contextual (maxDischargeDepth := 100) only [hs0, ↓State.doorbellWrite_tidy, ↓tidies_core]

theorem execNqDoorbell_tidy (p : Pkt) (key : BitVec 32) (offset : BitVec 64) (value : BitVec 64) (s : State) (hs0 : Tidy s) :
    Tidies (execNqDoorbell p key offset value s) := by
  unfold execNqDoorbell
  simp +contextual (maxDischargeDepth := 100) only [hs0, ↓State.doorbellWrite_tidy, ↓tidies_core]

theorem execCapsuleRead_tidy (c : CapRef) (s : State) (hs0 : Tidy s) :
    Tidies (execCapsuleRead c s) := by
  unfold execCapsuleRead
  simp +contextual (maxDischargeDepth := 100) only [hs0, implies_true, ↓State.capRead_tidy, ↓State.startCap_tidy, ↓tidies_core]

theorem execCapsuleWrite_tidy (c : CapRef) (s : State) (hs0 : Tidy s) :
    Tidies (execCapsuleWrite c s) := by
  unfold execCapsuleWrite
  simp +contextual (maxDischargeDepth := 100) only [hs0, implies_true, ↓State.capWrite_tidy, ↓State.spaceCheck_tidy, ↓State.startCap_tidy, ↓tidies_core]

theorem execCapsuleFlush_tidy (c : CapRef) (s : State) (hs0 : Tidy s) :
    Tidies (execCapsuleFlush c s) := by
  unfold execCapsuleFlush
  simp +contextual (maxDischargeDepth := 100) only [hs0, implies_true, ↓State.capFlushTxn_tidy, ↓State.startCap_tidy, ↓tidies_core]

theorem execCapsuleFlushDeep_tidy (c : CapRef) (s : State) (hs0 : Tidy s) :
    Tidies (execCapsuleFlushDeep c s) := by
  unfold execCapsuleFlushDeep
  simp +contextual (maxDischargeDepth := 100) only [hs0, implies_true, ↓State.capFlushTxn_tidy, ↓State.startCap_tidy, ↓tidies_core]

theorem execZero_tidy (c : CapRef) (s : State) (hs0 : Tidy s) :
    Tidies (execZero c s) := by
  unfold execZero
  simp +contextual (maxDischargeDepth := 100) only [hs0, implies_true, ↓State.capOne_tidy, ↓State.spaceCheck_tidy, ↓State.startCap_tidy, ↓tidies_core]

theorem execTrim_tidy (c : CapRef) (s : State) (hs0 : Tidy s) :
    Tidies (execTrim c s) := by
  unfold execTrim
  simp +contextual (maxDischargeDepth := 100) only [hs0, implies_true, ↓State.capOne_tidy, ↓State.spaceCheck_tidy, ↓State.startCap_tidy, ↓tidies_core]

theorem execCopy_tidy (c : CapRef) (s : State) (hs0 : Tidy s) :
    Tidies (execCopy c s) := by
  unfold execCopy
  simp +contextual (maxDischargeDepth := 100) only [hs0, implies_true, ↓State.capCopy_tidy, ↓State.spaceCheck_tidy, ↓State.startCap_tidy, ↓tidies_core]

theorem execRegionCreate_tidy (c : CapRef) (s : State) (hs0 : Tidy s) :
    Tidies (execRegionCreate c s) := by
  unfold execRegionCreate
  simp +contextual (maxDischargeDepth := 100) only [hs0, implies_true, ↓State.capRegionCreate_tidy, ↓State.startCap_tidy, ↓tidies_core]

theorem execRegionModify_tidy (c : CapRef) (s : State) (hs0 : Tidy s) :
    Tidies (execRegionModify c s) := by
  unfold execRegionModify
  simp +contextual (maxDischargeDepth := 100) only [hs0, implies_true, ↓State.capRegionModify_tidy, ↓State.startCap_tidy, ↓tidies_core]

theorem execRegionDestroy_tidy (c : CapRef) (s : State) (hs0 : Tidy s) :
    Tidies (execRegionDestroy c s) := by
  unfold execRegionDestroy
  simp +contextual (maxDischargeDepth := 100) only [hs0, implies_true, ↓State.capRegionDestroy_tidy, ↓State.startCap_tidy, ↓tidies_core]

theorem execKeyGrant_tidy (c : CapRef) (s : State) (hs0 : Tidy s) :
    Tidies (execKeyGrant c s) := by
  unfold execKeyGrant
  simp +contextual (maxDischargeDepth := 100) only [hs0, implies_true, ↓State.capKeyGrant_tidy, ↓State.startCap_tidy, ↓tidies_core]

theorem execKeyGrantExisting_tidy (c : CapRef) (s : State) (hs0 : Tidy s) :
    Tidies (execKeyGrantExisting c s) := by
  unfold execKeyGrantExisting
  simp +contextual (maxDischargeDepth := 100) only [hs0, implies_true, ↓State.capKeyExisting_tidy, ↓State.startCap_tidy, ↓tidies_core]

theorem execKeyRevoke_tidy (c : CapRef) (s : State) (hs0 : Tidy s) :
    Tidies (execKeyRevoke c s) := by
  unfold execKeyRevoke
  simp +contextual (maxDischargeDepth := 100) only [hs0, implies_true, ↓State.capKeyRevoke_tidy, ↓State.startCap_tidy, ↓tidies_core]

theorem execObjectPlace_tidy (c : CapRef) (s : State) (hs0 : Tidy s) :
    Tidies (execObjectPlace c s) := by
  unfold execObjectPlace
  simp +contextual (maxDischargeDepth := 100) only [hs0, implies_true, ↓State.capObjectPlace_tidy, ↓State.startCap_tidy, ↓tidies_core]

theorem execStreamOpen_tidy (c : CapRef) (s : State) (hs0 : Tidy s) :
    Tidies (execStreamOpen c s) := by
  unfold execStreamOpen
  simp +contextual (maxDischargeDepth := 100) only [hs0, implies_true, ↓State.capStreamOpen_tidy, ↓State.startCap_tidy, ↓tidies_core]

theorem execStreamAdvance_tidy (c : CapRef) (s : State) (hs0 : Tidy s) :
    Tidies (execStreamAdvance c s) := by
  unfold execStreamAdvance
  simp +contextual (maxDischargeDepth := 100) only [hs0, implies_true, ↓State.capStreamAdvance_tidy, ↓State.startCap_tidy, ↓tidies_core]

theorem execStreamClose_tidy (c : CapRef) (s : State) (hs0 : Tidy s) :
    Tidies (execStreamClose c s) := by
  unfold execStreamClose
  simp +contextual (maxDischargeDepth := 100) only [hs0, implies_true, ↓State.capStreamClose_tidy, ↓State.startCap_tidy, ↓tidies_core]

theorem execQresumeDiscard_tidy (c : CapRef) (s : State) (hs0 : Tidy s) :
    Tidies (execQresumeDiscard c s) := by
  unfold execQresumeDiscard
  simp +contextual (maxDischargeDepth := 100) only [hs0, implies_true, ↓State.capResume_tidy, ↓State.startCap_tidy, ↓tidies_core]

theorem execQresumeReplay_tidy (c : CapRef) (s : State) (hs0 : Tidy s) :
    Tidies (execQresumeReplay c s) := by
  unfold execQresumeReplay
  simp +contextual (maxDischargeDepth := 100) only [hs0, implies_true, ↓State.capResume_tidy, ↓State.startCap_tidy, ↓tidies_core]

theorem execUnknownCapsuleOpcode_tidy (c : CapRef) (s : State) (hs0 : Tidy s) :
    Tidies (execUnknownCapsuleOpcode c s) := by
  unfold execUnknownCapsuleOpcode
  simp +contextual (maxDischargeDepth := 100) only [hs0, implies_true, ↓State.startCap_tidy, ↓tidies_core]

end Sys2Proof.Machine
end

