-- ==== Sys2Proof/Laws/TidyTwin.lean ====
section
/-! SUPPORT. Sys2Proof/Laws/TidyTwin.lean: the twin link keep the
canonical forms: one lemma for each operation. -/

namespace Sys2Proof.Machine

/-! ### TwinRoles.lean -/

theorem State.emptyUnit_tidy (s : State) (u : Nat) (hs0 : Tidy s) :
    Tidy (State.emptyUnit s u) := by
  unfold State.emptyUnit
  simp +contextual (maxDischargeDepth := 100) only [hs0, ↓State.setFrame_tidy]

theorem State.healLost_tidy (s : State) (hs0 : Tidy s) :
    Tidy (State.healLost s) := by
  unfold State.healLost
  try dsimp only
  repeat' first
    | with_reducible assumption
    | with_reducible refine State.askHeal_tidy _ _ _ ?_
    | with_reducible refine State.emptyUnit_tidy _ _ ?_
    | with_reducible refine State.poisonUnit_tidy _ _ ?_
    | refine tidy_ite ?_ ?_
    | split
    | with_reducible refine foldl_tidy _ _ _ ?_ (fun s a h => ?_)

theorem State.startup_tidy (s : State) (hs0 : Tidy s) :
    Tidy (State.startup s) := by
  unfold State.startup
  simp +contextual (maxDischargeDepth := 100) only [hs0, ↓tidy_ite, ↓foldl_tidy, implies_true, ↓State.healLost_tidy, ↓State.put_tidy, ↓State.updPort_tidy]

theorem State.setRole_tidy (s : State) (h : Nat) (r : Nat) (hs0 : Tidy s) :
    Tidy (State.setRole s h r) := by
  unfold State.setRole
  simp +contextual (maxDischargeDepth := 100) only [hs0, ↓State.put_tidy, ↓State.startup_tidy]

theorem State.setPair_tidy (s : State) (h : Nat) (x : Nat) (hs0 : Tidy s) :
    Tidy (State.setPair s h x) := by
  unfold State.setPair
  simp +contextual (maxDischargeDepth := 100) only [hs0, ↓State.put_tidy, ↓State.startup_tidy]

theorem State.standWrite_tidy (s : State) (h : Nat) (role : Nat) (complete : Bool) (hs0 : Tidy s) :
    Tidy (State.standWrite s h role complete) := by
  unfold State.standWrite
  simp +contextual (maxDischargeDepth := 100) only [hs0, ↓State.updHome_tidy]

theorem State.driveOut_tidy (s : State) (h : Nat) (b : Bool) (hs0 : Tidy s) :
    Tidy (State.driveOut s h b) := by
  unfold State.driveOut
  simp +contextual (maxDischargeDepth := 100) only [hs0, ↓tidy_ite, ↓State.emit_tidy, ↓State.updHome_tidy]

theorem State.dropToken_tidy (s : State) (h : Nat) (hs0 : Tidy s) :
    Tidy (State.dropToken s h) := by
  unfold State.dropToken
  simp +contextual (maxDischargeDepth := 100) only [hs0, ↓tidy_ite, ↓State.driveOut_tidy, ↓State.interruptTests_tidy, ↓State.setPair_tidy, ↓State.setRole_tidy, ↓State.updHome_tidy]

theorem State.dropTokens_tidy (s : State) (hs0 : Tidy s) :
    Tidy (State.dropTokens s) := by
  unfold State.dropTokens
  simp +contextual (maxDischargeDepth := 100) only [hs0, ↓State.dropToken_tidy]

theorem State.claimToken_tidy (s : State) (h : Nat) (why : ClaimWhy) (hs0 : Tidy s) :
    Tidy (State.claimToken s h why) := by
  unfold State.claimToken
  simp +contextual (maxDischargeDepth := 100) only [hs0, ↓tidy_ite, ↓State.driveOut_tidy, ↓State.updHome_tidy]

theorem State.confirmAll_tidy (s : State) (h : Nat) (hs0 : Tidy s) :
    Tidy (State.confirmAll s h) := by
  unfold State.confirmAll
  simp +contextual (maxDischargeDepth := 100) only [hs0, ↓foldl_tidy, implies_true, ↓State.confirmOne_tidy]

theorem State.goSolo_tidy (s : State) (h : Nat) (hs0 : Tidy s) :
    Tidy (State.goSolo s h) := by
  unfold State.goSolo
  simp +contextual (maxDischargeDepth := 100) only [hs0, ↓tidy_mk, tidy_regs, tidy_t1, tidy_t2, tidy_cf, ↓State.confirmAll_tidy, ↓State.notifyAll_tidy, ↓State.record_tidy, ↓State.setPair_tidy, ↓State.settle_tidy, ↓State.standWrite_tidy, ↓State.updHome_tidy]

theorem State.sendDelta_tidy (s : State) (h : Nat) (final : Bool) (hs0 : Tidy s) :
    Tidy (State.sendDelta s h final) := by
  unfold State.sendDelta
  simp +contextual (maxDischargeDepth := 100) only [hs0, ↓tidy_mk, tidy_regs, tidy_t1, tidy_t2, tidy_cf, ↓State.count_tidy, ↓State.linkSend_tidy, ↓State.updHome_tidy]

theorem State.sendState_tidy (s : State) (h : Nat) (hs0 : Tidy s) :
    Tidy (State.sendState s h) := by
  unfold State.sendState
  simp +contextual (maxDischargeDepth := 100) only [hs0, ↓foldl_tidy, implies_true, ↓State.linkSend_tidy]

theorem State.startResync_tidy (s : State) (h : Nat) (full : Bool) (hs0 : Tidy s) :
    Tidy (State.startResync s h full) := by
  unfold State.startResync
  simp +contextual (maxDischargeDepth := 100) only [hs0, ↓foldl_tidy, implies_true, ↓State.linkSend_tidy, ↓State.sendState_tidy, ↓State.setPair_tidy, ↓State.setReg_tidy, ↓State.updHome_tidy]

theorem State.volatileLost_tidy (s : State) (h : Nat) (tell : Bool) (hs0 : Tidy s) :
    Tidy (State.volatileLost s h tell) := by
  unfold State.volatileLost
  simp +contextual (maxDischargeDepth := 100) only [hs0, ↓tidy_ite, ↓foldl_tidy, implies_true, ↓State.notify_tidy, ↓State.unwrite_tidy]

theorem State.lossMarks_tidy (s : State) (h : Nat) (hs0 : Tidy s) :
    Tidy (State.lossMarks s h) := by
  unfold State.lossMarks
  simp +contextual (maxDischargeDepth := 100) only [hs0, ↓foldl_tidy, implies_true, ↓State.notify_tidy, ↓State.updRegion_tidy]

theorem State.abandonCaps_tidy (s : State) (h : Nat) (hs0 : Tidy s) :
    Tidy (State.abandonCaps s h) := by
  unfold State.abandonCaps
  simp +contextual (maxDischargeDepth := 100) only [hs0, ↓tidy_ite, ↓foldl_tidy, implies_true, ↓State.countBy_tidy, ↓State.notify_tidy, ↓State.record_tidy, ↓State.updQueue_tidy]

theorem State.reissue_tidy (s : State) (h : Nat) (hs0 : Tidy s) :
    Tidy (State.reissue s h) := by
  unfold State.reissue
  simp +contextual (maxDischargeDepth := 100) only [hs0, ↓foldl_tidy, implies_true, ↓State.pumpReqs_tidy, ↓State.updQp_tidy]

theorem State.rewindAll_tidy (s : State) (h : Nat) (hs0 : Tidy s) :
    Tidy (State.rewindAll s h) := by
  unfold State.rewindAll
  simp +contextual (maxDischargeDepth := 100) only [hs0, ↓tidy_ite, ↓foldl_tidy, implies_true, ↓State.record_tidy, ↓State.sendRewind_tidy, ↓State.updQp_tidy]

theorem State.gratuitous_tidy (s : State) (h : Nat) (hs0 : Tidy s) :
    Tidy (State.gratuitous s h) := by
  unfold State.gratuitous
  simp +contextual (maxDischargeDepth := 100) only [hs0, ↓tidy_ite, ↓foldl_tidy, implies_true, ↓State.emit_tidy]

theorem State.takeUp_tidy (s : State) (h : Nat) (sudden : Bool) (hs0 : Tidy s) :
    Tidy (State.takeUp s h sudden) := by
  unfold State.takeUp
  simp +contextual (maxDischargeDepth := 100) only [hs0, ↓tidy_mk, tidy_regs, tidy_t1, tidy_t2, tidy_cf, ↓tidy_ite, ↓foldl_tidy, implies_true, ↓State.abandonCaps_tidy, ↓State.count_tidy, ↓State.gratuitous_tidy, ↓State.lossMarks_tidy, ↓State.notifyAll_tidy, ↓State.parisonNext_tidy, ↓State.record_tidy, ↓State.reissue_tidy, ↓State.rewindAll_tidy, ↓State.setPair_tidy, ↓State.setReg_tidy, ↓State.setRole_tidy, ↓State.settle_tidy, ↓State.standWrite_tidy, ↓State.updHome_tidy, ↓State.updStream_tidy, ↓State.volatileLost_tidy]

theorem State.tokenWon_tidy (s : State) (h : Nat) (hs0 : Tidy s) :
    Tidy (State.tokenWon s h) := by
  unfold State.tokenWon
  extract_lets why s1 known s2 s3 s4 n0 s6
  have h1 : Tidy s1 := State.updHome_tidy _ _ _ hs0
  have h2 : Tidy s2 := State.setReg_tidy _ _ _ h1
  have h3 : Tidy s3 := State.updHome_tidy _ _ _ (State.setPair_tidy _ _ _ (State.setRole_tidy _ _ _ h2))
  have h4 : Tidy s4 := State.standWrite_tidy _ _ _ _ h3
  have h6 : Tidy s6 := tidy_mk h4.regs h4.t1 h4.t2 h4.cf
  clear_value why s6
  cases why
  case takeover => exact State.takeUp_tidy _ _ _ h1
  case handover => exact State.takeUp_tidy _ _ _ h1
  all_goals
    dsimp only
    have h8 (w : ClaimWhy) : Tidy ((if w = .forced then s6.record .twnForcedSolo (unitHome h) else s6).gratuitous h) :=
      State.gratuitous_tidy _ _ (tidy_ite (State.record_tidy _ _ _ _ _ _ h6) h6)
    split
    · exact tidy_ite (State.startResync_tidy _ _ _ (h8 _)) (h8 _)
    · exact h8 _

theorem State.abandonReads_tidy (s : State) (h : Nat) (hs0 : Tidy s) :
    Tidy (State.abandonReads s h) := by
  unfold State.abandonReads
  simp +contextual (maxDischargeDepth := 100) only [hs0, ↓tidy_mk, tidy_regs, tidy_t1, tidy_t2, tidy_cf]

theorem State.stopHome_tidy (s : State) (h : Nat) (hs0 : Tidy s) :
    Tidy (State.stopHome s h) := by
  unfold State.stopHome
  simp +contextual (maxDischargeDepth := 100) only [hs0, ↓tidy_mk, tidy_regs, tidy_t1, tidy_t2, tidy_cf, ↓State.abandonReads_tidy]

theorem State.beginHandover_tidy (s : State) (h : Nat) (next : HandNext) (hs0 : Tidy s) :
    Tidy (State.beginHandover s h next).1 := by
  unfold State.beginHandover
  simp +contextual (maxDischargeDepth := 100) only [hs0, ↓tidy_ite1, ↓State.stopHome_tidy, ↓State.updHome_tidy]

theorem State.passToken_tidy (s : State) (h : Nat) (hs0 : Tidy s) :
    Tidy (State.passToken s h) := by
  unfold State.passToken
  simp +contextual (maxDischargeDepth := 100) only [hs0, ↓tidy_mk, tidy_regs, tidy_t1, tidy_t2, tidy_cf, ↓State.count_tidy, ↓State.driveOut_tidy, ↓State.interruptTests_tidy, ↓State.record_tidy, ↓State.sendDelta_tidy, ↓State.setRole_tidy, ↓State.standWrite_tidy, ↓State.updHome_tidy, ↓State.volatileLost_tidy]

theorem State.stopService_tidy (s : State) (next : HandNext) (hs0 : Tidy s) :
    Tidy (State.stopService s next) := by
  unfold State.stopService
  simp +contextual (maxDischargeDepth := 100) only [hs0, ↓tidy_ite, ↓foldl_tidy, implies_true, ↓State.beginHandover_tidy, ↓State.stopHome_tidy]

/-! ### TwinLink.lean -/

theorem execIntlkInReleased_tidy (home : Fin 2) (s : State) (hs0 : Tidy s) :
    Tidies (execIntlkInReleased home s) := by
  unfold execIntlkInReleased
  simp +contextual (maxDischargeDepth := 100) only [hs0, ↓State.updHome_tidy, ↓tidies_next]

theorem execIntlkInAsserted_tidy (home : Fin 2) (s : State) (hs0 : Tidy s) :
    Tidies (execIntlkInAsserted home s) := by
  unfold execIntlkInAsserted
  simp +contextual (maxDischargeDepth := 100) only [hs0, ↓tidy_mk, tidy_regs, tidy_t1, tidy_t2, tidy_cf, ↓tidy_ite, ↓State.dropToken_tidy, ↓State.record_tidy, ↓State.updHome_tidy, ↓tidies_next]

theorem execTokenClaimSample_tidy (home : Fin 2) (released : Bool) (s : State) (hs0 : Tidy s) :
    Tidies (execTokenClaimSample home released s) := by
  unfold execTokenClaimSample
  simp +contextual (maxDischargeDepth := 100) only [hs0, ↓tidy_ite, ↓State.driveOut_tidy, ↓State.record_tidy, ↓State.tokenWon_tidy, ↓State.updHome_tidy, ↓tidies_core]

theorem execClaimBackoffExpiry_tidy (home : Fin 2) (s : State) (hs0 : Tidy s) :
    Tidies (execClaimBackoffExpiry home s) := by
  unfold execClaimBackoffExpiry
  repeat' first
    | simp +contextual (maxDischargeDepth := 100) only [hs0, ↓State.claimToken_tidy, ↓State.updHome_tidy, ↓tidies_core]
    | split

theorem execReleaseConfirmed_tidy (home : Fin 2) (s : State) (hs0 : Tidy s) :
    Tidies (execReleaseConfirmed home s) := by
  unfold execReleaseConfirmed
  repeat' first
    | simp +contextual (maxDischargeDepth := 100) only [hs0, ↓tidy_ite, ↓State.claimToken_tidy, ↓State.record_tidy, ↓State.setPair_tidy, ↓State.setRole_tidy, ↓tidies_core]
    | split

theorem execHeartbeatSilence_tidy (s : State) (hs0 : Tidy s) :
    Tidies (execHeartbeatSilence s) := by
  unfold execHeartbeatSilence
  simp +contextual (maxDischargeDepth := 100) only [hs0, ↓State.dropTokens_tidy, ↓tidies_core]

theorem State.laneStatus_tidy (s : State) (hs0 : Tidy s) :
    Tidy (State.laneStatus s) := by
  unfold State.laneStatus
  simp +contextual (maxDischargeDepth := 100) only [hs0, ↓State.put_tidy, ↓State.setRegBit_tidy]

theorem State.linkReset_tidy (s : State) (hs0 : Tidy s) :
    Tidy (State.linkReset s) := by
  unfold State.linkReset
  simp +contextual (maxDischargeDepth := 100) only [hs0, ↓tidy_mk, tidy_regs, tidy_t1, tidy_t2, tidy_cf]

theorem State.linkDown_tidy (s : State) (hs0 : Tidy s) :
    Tidy (State.linkDown s) := by
  unfold State.linkDown
  simp +contextual (maxDischargeDepth := 100) only [hs0, ↓tidy_mk, tidy_regs, tidy_t1, tidy_t2, tidy_cf, ↓tidy_ite, ↓foldl_tidy, implies_true, ↓State.goSolo_tidy, ↓State.linkReset_tidy, ↓State.put_tidy, ↓State.record_tidy, ↓State.setPair_tidy, ↓State.setRole_tidy, ↓State.updHome_tidy]

theorem execElytraLaneLock_tidy (lane : Fin 8) (s : State) (hs0 : Tidy s) :
    Tidies (execElytraLaneLock lane s) := by
  unfold execElytraLaneLock
  simp +contextual (maxDischargeDepth := 100) only [hs0, ↓tidy_ite, ↓State.laneStatus_tidy, ↓State.linkReset_tidy, ↓State.linkSend_tidy, ↓State.put_tidy, ↓State.record_tidy, ↓State.setRegBit_tidy, ↓tidies_core]

theorem execElytraLaneDown_tidy (lane : Fin 8) (s : State) (hs0 : Tidy s) :
    Tidies (execElytraLaneDown lane s) := by
  unfold execElytraLaneDown
  simp +contextual (maxDischargeDepth := 100) only [hs0, ↓tidy_ite, ↓State.laneStatus_tidy, ↓State.linkDown_tidy, ↓State.record_tidy, ↓State.setRegBit_tidy, ↓tidies_core]

theorem execElytraLinkSilence_tidy (s : State) (hs0 : Tidy s) :
    Tidies (execElytraLinkSilence s) := by
  unfold execElytraLinkSilence
  simp +contextual (maxDischargeDepth := 100) only [hs0, ↓State.linkDown_tidy, ↓tidies_core]

theorem execElytraFrameCrcFail_tidy (bulk : Bool) (s : State) (hs0 : Tidy s) :
    Tidies (execElytraFrameCrcFail bulk s) := by
  unfold execElytraFrameCrcFail
  simp +contextual (maxDischargeDepth := 100) only [hs0, ↓tidy_mk, tidy_regs, tidy_t1, tidy_t2, tidy_cf, ↓tidy_ite, ↓State.count_tidy, ↓State.updLink_tidy, ↓tidies_core]

theorem execSeqGapTimeout_tidy (bulk : Bool) (s : State) (hs0 : Tidy s) :
    Tidies (execSeqGapTimeout bulk s) := by
  unfold execSeqGapTimeout
  simp +contextual (maxDischargeDepth := 100) only [hs0, ↓tidy_ite, ↓State.updLink_tidy, ↓tidies_core]

theorem execAckCarrierTimeout_tidy (s : State) (hs0 : Tidy s) :
    Tidies (execAckCarrierTimeout s) := by
  unfold execAckCarrierTimeout
  simp +contextual (maxDischargeDepth := 100) only [hs0, ↓tidy_ite, ↓State.linkSend_tidy, ↓tidies_core]

theorem State.linkAck_tidy (s : State) (bulk : Bool) (ack : Nat) (cred : Nat) (again : Bool) (hs0 : Tidy s) :
    Tidy (State.linkAck s bulk ack cred again) := by
  unfold State.linkAck
  simp +contextual (maxDischargeDepth := 100) only [hs0, ↓tidy_mk, tidy_regs, tidy_t1, tidy_t2, tidy_cf, ↓tidy_ite, ↓foldl_tidy, implies_true, ↓State.countBy_tidy, ↓State.linkPump_tidy, ↓State.updHome_tidy, ↓State.updLink_tidy]

theorem State.twinIn_tidy (s : State) (x : Ely) (bulk : Bool) (go : State → State) (hs0 : Tidy s) (h_go : ∀ a0, Tidy a0 → Tidy (go a0)) :
    Tidy (State.twinIn s x bulk go) := by
  unfold State.twinIn
  simp +contextual (maxDischargeDepth := 100) only [hs0, ↓tidy_ite, ↓State.linkAck_tidy, ↓State.updLink_tidy, ↓h_go]

theorem State.twinWakeIn_tidy (s : State) (x : Ely) (go : State → State) (hs0 : Tidy s) (h_go : ∀ a0, Tidy a0 → Tidy (go a0)) :
    Tidy (State.twinWakeIn s x go) := by
  unfold State.twinWakeIn
  simp +contextual (maxDischargeDepth := 100) only [hs0, implies_true, ↓State.twinIn_tidy, ↓State.wake_tidy, ↓h_go]

theorem State.leaseOn_tidy (s : State) (h : Nat) (hs0 : Tidy s) :
    Tidy (State.leaseOn s h) := by
  unfold State.leaseOn
  simp +contextual (maxDischargeDepth := 100) only [hs0, ↓tidy_ite, ↓State.put_tidy, ↓State.record_tidy, ↓State.updHome_tidy]

theorem State.leaseOff_tidy (s : State) (h : Nat) (hs0 : Tidy s) :
    Tidy (State.leaseOff s h) := by
  unfold State.leaseOff
  simp +contextual (maxDischargeDepth := 100) only [hs0, ↓tidy_ite, ↓State.put_tidy, ↓State.updHome_tidy]

theorem State.intlkFault_tidy (s : State) (h : Nat) (hs0 : Tidy s) :
    Tidy (State.intlkFault s h) := by
  unfold State.intlkFault
  simp +contextual (maxDischargeDepth := 100) only [hs0, ↓State.leaseOn_tidy, ↓State.setRegBit_tidy, ↓State.updHome_tidy]

theorem State.intlkPass_tidy (s : State) (h : Nat) (hs0 : Tidy s) :
    Tidy (State.intlkPass s h) := by
  unfold State.intlkPass
  simp +contextual (maxDischargeDepth := 100) only [hs0, ↓tidy_ite, ↓State.leaseOff_tidy, ↓State.record_tidy, ↓State.setRegBit_tidy, ↓State.updHome_tidy]

theorem State.intlkLevels_tidy (s : State) (h : Nat) (theirOut : Bool) (theirRel : Bool) (hs0 : Tidy s) :
    Tidy (State.intlkLevels s h theirOut theirRel) := by
  unfold State.intlkLevels
  simp +contextual (maxDischargeDepth := 100) only [hs0, ↓tidy_ite, ↓State.intlkFault_tidy, ↓State.intlkPass_tidy, ↓State.updHome_tidy]

theorem execLeaseRequest_tidy (x : Ely) (home : Fin 2) (number : BitVec 32) (s : State) (hs0 : Tidy s) :
    Tidies (execLeaseRequest x home number s) := by
  unfold execLeaseRequest
  simp +contextual (maxDischargeDepth := 100) only [hs0, ↓tidy_ite, implies_true, ↓State.linkSend_tidy, ↓State.twinIn_tidy, ↓State.updHome_tidy, ↓tidies_core]

theorem execLeaseGrant_tidy (x : Ely) (home : Fin 2) (number : BitVec 32) (expiry : BitVec 64) (s : State) (hs0 : Tidy s) :
    Tidies (execLeaseGrant x home number expiry s) := by
  unfold execLeaseGrant
  simp +contextual (maxDischargeDepth := 100) only [hs0, ↓tidy_ite, implies_true, ↓State.twinIn_tidy, ↓State.updHome_tidy, ↓tidies_core]

theorem execLeaseRelease_tidy (x : Ely) (home : Fin 2) (number : BitVec 32) (s : State) (hs0 : Tidy s) :
    Tidies (execLeaseRelease x home number s) := by
  unfold execLeaseRelease
  simp +contextual (maxDischargeDepth := 100) only [hs0, implies_true, ↓State.twinIn_tidy, ↓State.updHome_tidy, ↓tidies_core]

theorem execLeaseRequestTimer_tidy (s : State) (hs0 : Tidy s) :
    Tidies (execLeaseRequestTimer s) := by
  unfold execLeaseRequestTimer
  simp +contextual (maxDischargeDepth := 100) only [hs0, ↓tidy_ite, ↓foldl_tidy, implies_true, ↓State.linkSend_tidy, ↓State.updHome_tidy, ↓tidies_core]

theorem execLeaseEnd_tidy (home : Fin 2) (s : State) (hs0 : Tidy s) :
    Tidies (execLeaseEnd home s) := by
  unfold execLeaseEnd
  simp +contextual (maxDischargeDepth := 100) only [hs0, ↓tidy_ite, ↓State.abandonReads_tidy, ↓State.count_tidy, ↓State.updHome_tidy, ↓tidies_core]

theorem execLeaseGuardExpiry_tidy (home : Fin 2) (s : State) (hs0 : Tidy s) :
    Tidies (execLeaseGuardExpiry home s) := by
  unfold execLeaseGuardExpiry
  simp +contextual (maxDischargeDepth := 100) only [hs0, ↓tidy_ite, ↓State.driveOut_tidy, ↓State.takeUp_tidy, ↓State.updHome_tidy, ↓tidies_core]

theorem execHeartbeatTimer_tidy (s : State) (hs0 : Tidy s) :
    Tidies (execHeartbeatTimer s) := by
  unfold execHeartbeatTimer
  simp +contextual (maxDischargeDepth := 100) only [hs0, ↓tidy_mk, tidy_regs, tidy_t1, tidy_t2, tidy_cf, ↓tidy_ite, ↓State.count_tidy, ↓State.linkSend_tidy, ↓tidies_core]

theorem State.heartbeatIn_tidy (s : State) (m : HbMsg) (hs0 : Tidy s) :
    Tidy (State.heartbeatIn s m) := by
  unfold State.heartbeatIn
  simp +contextual (maxDischargeDepth := 100) only [hs0, ↓tidy_mk, tidy_regs, tidy_t1, tidy_t2, tidy_cf, ↓tidy_ite, ↓State.intlkLevels_tidy, ↓State.leaseOn_tidy, ↓State.put_tidy, ↓State.putB_tidy, ↓State.record_tidy, ↓State.setReg_tidy]

theorem execHeartbeat_tidy (x : Ely) (m : HbMsg) (s : State) (hs0 : Tidy s) :
    Tidies (execHeartbeat x m s) := by
  unfold execHeartbeat
  simp +contextual (maxDischargeDepth := 100) only [hs0, implies_true, ↓State.heartbeatIn_tidy, ↓State.twinIn_tidy, ↓tidies_core]

theorem State.joinHome_tidy (s : State) (h : Nat) (full : Bool) (hs0 : Tidy s) :
    Tidy (State.joinHome s h full) := by
  unfold State.joinHome
  simp +contextual (maxDischargeDepth := 100) only [hs0, ↓tidy_mk, tidy_regs, tidy_t1, tidy_t2, tidy_cf, ↓tidy_ite, ↓foldl_tidy, implies_true, ↓State.setPair_tidy, ↓State.setRole_tidy, ↓State.standWrite_tidy, ↓State.updHome_tidy, Memory.wf_memClear]

theorem State.settleHome_tidy (s : State) (h : Nat) (mine : StandRec) (theirs : StandRec) (hs0 : Tidy s) :
    Tidy (State.settleHome s h mine theirs) := by
  unfold State.settleHome
  simp +contextual (maxDischargeDepth := 100) only [hs0, ↓tidy_ite, ↓State.claimToken_tidy, ↓State.joinHome_tidy, ↓State.record_tidy, ↓State.startResync_tidy, ↓State.updHome_tidy]

theorem execBid_tidy (x : Ely) (rec0 : StandRec) (rec1 : StandRec) (s : State) (hs0 : Tidy s) :
    Tidies (execBid x rec0 rec1 s) := by
  unfold execBid
  simp +contextual (maxDischargeDepth := 100) only [hs0, ↓tidy_mk, tidy_regs, tidy_t1, tidy_t2, tidy_cf, ↓tidy_ite, implies_true, ↓State.settleHome_tidy, ↓State.twinWakeIn_tidy, ↓tidies_core]

theorem execPairWaitExpiry_tidy (s : State) (hs0 : Tidy s) :
    Tidies (execPairWaitExpiry s) := by
  unfold execPairWaitExpiry
  simp +contextual (maxDischargeDepth := 100) only [hs0, ↓tidy_mk, tidy_regs, tidy_t1, tidy_t2, tidy_cf, ↓tidy_ite, ↓foldl_tidy, implies_true, ↓State.claimToken_tidy, ↓State.record_tidy, ↓State.setPair_tidy, ↓tidies_core]

theorem State.cmdHandover_tidy (s : State) (h : Nat) (hs0 : Tidy s) :
    Tidy (State.cmdHandover s h) := by
  unfold State.cmdHandover
  simp +contextual (maxDischargeDepth := 100) only [hs0, ↓State.beginHandover_tidy]

theorem State.cmdForceSolo_tidy (s : State) (h : Nat) (hs0 : Tidy s) :
    Tidy (State.cmdForceSolo s h) := by
  unfold State.cmdForceSolo
  simp +contextual (maxDischargeDepth := 100) only [hs0, ↓tidy_ite, ↓State.claimToken_tidy]

theorem State.cmdAcceptResync_tidy (s : State) (h : Nat) (hs0 : Tidy s) :
    Tidy (State.cmdAcceptResync s h) := by
  unfold State.cmdAcceptResync
  simp +contextual (maxDischargeDepth := 100) only [hs0, ↓tidy_ite, ↓State.joinHome_tidy, ↓State.linkSend_tidy, ↓State.setReg_tidy, ↓State.updHome_tidy]

theorem State.cmdRetryAdmit_tidy (s : State) (h : Nat) (hs0 : Tidy s) :
    Tidy (State.cmdRetryAdmit s h) := by
  unfold State.cmdRetryAdmit
  simp +contextual (maxDischargeDepth := 100) only [hs0, ↓tidy_ite, ↓State.startResync_tidy]

theorem State.cmdVerify_tidy (s : State) (h : Nat) (hs0 : Tidy s) :
    Tidy (State.cmdVerify s h) := by
  unfold State.cmdVerify
  simp +contextual (maxDischargeDepth := 100) only [hs0, ↓tidy_ite, ↓State.goSolo_tidy, ↓State.sendState_tidy, ↓State.setPair_tidy, ↓State.updHome_tidy]

theorem State.twnCmd_tidy (s : State) (op : Nat) (h : Nat) (hs0 : Tidy s) :
    Tidy (State.twnCmd s op h) := by
  unfold State.twnCmd
  split <;> simp +contextual (maxDischargeDepth := 100) only [hs0, ↓State.cmdAcceptResync_tidy, ↓State.cmdForceSolo_tidy, ↓State.cmdHandover_tidy, ↓State.cmdRetryAdmit_tidy, ↓State.cmdVerify_tidy]

theorem execHandover_tidy (home : Fin 2) (s : State) (hs0 : Tidy s) :
    Tidies (execHandover home s) := by
  unfold execHandover
  simp +contextual (maxDischargeDepth := 100) only [hs0, ↓State.cmdHandover_tidy, ↓tidies_core]

theorem execForceSolo_tidy (home : Fin 2) (s : State) (hs0 : Tidy s) :
    Tidies (execForceSolo home s) := by
  unfold execForceSolo
  simp +contextual (maxDischargeDepth := 100) only [hs0, ↓State.cmdForceSolo_tidy, ↓tidies_core]

theorem execAcceptResync_tidy (home : Fin 2) (s : State) (hs0 : Tidy s) :
    Tidies (execAcceptResync home s) := by
  unfold execAcceptResync
  simp +contextual (maxDischargeDepth := 100) only [hs0, ↓State.cmdAcceptResync_tidy, ↓tidies_core]

theorem execRetryAdmit_tidy (home : Fin 2) (s : State) (hs0 : Tidy s) :
    Tidies (execRetryAdmit home s) := by
  unfold execRetryAdmit
  simp +contextual (maxDischargeDepth := 100) only [hs0, ↓State.cmdRetryAdmit_tidy, ↓tidies_core]

theorem execVerify_tidy (home : Fin 2) (s : State) (hs0 : Tidy s) :
    Tidies (execVerify home s) := by
  unfold execVerify
  simp +contextual (maxDischargeDepth := 100) only [hs0, ↓State.cmdVerify_tidy, ↓tidies_core]

theorem execFailbackDelayExpiry_tidy (home : Fin 2) (s : State) (hs0 : Tidy s) :
    Tidies (execFailbackDelayExpiry home s) := by
  unfold execFailbackDelayExpiry
  simp +contextual (maxDischargeDepth := 100) only [hs0, ↓tidy_ite, ↓State.cmdHandover_tidy, ↓tidies_core]

theorem execArpRepeatTimer_tidy (home : Fin 2) (s : State) (hs0 : Tidy s) :
    Tidies (execArpRepeatTimer home s) := by
  unfold execArpRepeatTimer
  simp +contextual (maxDischargeDepth := 100) only [hs0, ↓tidy_ite, ↓State.gratuitous_tidy, ↓State.updHome_tidy, ↓tidies_core]

theorem State.sendHealth_tidy (s : State) (hs0 : Tidy s) :
    Tidy (State.sendHealth s) := by
  unfold State.sendHealth
  simp +contextual (maxDischargeDepth := 100) only [hs0, ↓tidy_mk, tidy_regs, tidy_t1, tidy_t2, tidy_cf, ↓State.linkSend_tidy, ↓State.put_tidy]

theorem execHealthTimer_tidy (s : State) (hs0 : Tidy s) :
    Tidies (execHealthTimer s) := by
  unfold execHealthTimer
  simp +contextual (maxDischargeDepth := 100) only [hs0, ↓tidy_ite, ↓State.sendHealth_tidy, ↓tidies_core]

theorem State.lockstepMiss_tidy (s : State) (h : Nat) (hs0 : Tidy s) :
    Tidy (State.lockstepMiss s h) := by
  unfold State.lockstepMiss
  simp +contextual (maxDischargeDepth := 100) only [hs0, ↓tidy_ite, ↓State.count_tidy, ↓State.record_tidy, ↓State.sendState_tidy, ↓State.setPair_tidy, ↓State.updHome_tidy]

theorem State.healthIn_tidy (s : State) (word : BitVec 32) (compared : Nat) (hs0 : Tidy s) :
    Tidy (State.healthIn s word compared) := by
  unfold State.healthIn
  simp +contextual (maxDischargeDepth := 100) only [hs0, ↓tidy_ite, ↓foldl_tidy, implies_true, ↓State.goSolo_tidy, ↓State.holdsFollow_tidy, ↓State.leaseOn_tidy, ↓State.lockstepMiss_tidy, ↓State.record_tidy, ↓State.setReg_tidy, ↓State.updHome_tidy]

theorem execHealth_tidy (x : Ely) (word : BitVec 32) (compared : BitVec 64) (budget : BitVec 32) (mirrorFree : BitVec 32) (s : State) (hs0 : Tidy s) :
    Tidies (execHealth x word compared budget mirrorFree s) := by
  unfold execHealth
  simp +contextual (maxDischargeDepth := 100) only [hs0, ↓tidy_mk, tidy_regs, tidy_t1, tidy_t2, tidy_cf, implies_true, ↓State.healthIn_tidy, ↓State.twinIn_tidy, ↓tidies_core]

theorem execInterlockTestPulse_tidy (home : Fin 2) (followed : Bool) (s : State) (hs0 : Tidy s) :
    Tidies (execInterlockTestPulse home followed s) := by
  unfold execInterlockTestPulse
  simp +contextual (maxDischargeDepth := 100) only [hs0, ↓tidy_mk, tidy_regs, tidy_t1, tidy_t2, tidy_cf, ↓tidy_ite, ↓State.emit_tidy, ↓State.intlkFault_tidy, ↓State.intlkPass_tidy, ↓tidies_core]

theorem execEyeMonitorTimer_tidy (margins : List (Fin 8 × Nat)) (s : State) (hs0 : Tidy s) :
    Tidies (execEyeMonitorTimer margins s) := by
  unfold execEyeMonitorTimer
  simp +contextual (maxDischargeDepth := 100) only [hs0, ↓State.setRegBit_tidy, ↓tidies_core]

theorem execBistTimer_tidy (cluster : Fin 12) (s : State) (hs0 : Tidy s) :
    Tidies (execBistTimer cluster s) := by
  unfold execBistTimer
  simp +contextual (maxDischargeDepth := 100) only [hs0, ↓tidy_mk, tidy_regs, tidy_t1, tidy_t2, tidy_cf, ↓tidy_ite, ↓tidies_core]

theorem State.retireCluster_tidy (s : State) (k : Nat) (hs0 : Tidy s) :
    Tidy (State.retireCluster s k) := by
  unfold State.retireCluster
  simp +contextual (maxDischargeDepth := 100) only [hs0, ↓tidy_mk, tidy_regs, tidy_t1, tidy_t2, tidy_cf, ↓tidy_ite, ↓State.stopService_tidy]

theorem execBistDone_tidy (cluster : Fin 12) (passed : Bool) (s : State) (hs0 : Tidy s) :
    Tidies (execBistDone cluster passed s) := by
  unfold execBistDone
  simp +contextual (maxDischargeDepth := 100) only [hs0, ↓tidy_mk, tidy_regs, tidy_t1, tidy_t2, tidy_cf, ↓tidy_ite, ↓State.put_tidy, ↓State.retireCluster_tidy, ↓State.setRegBit_tidy, ↓tidies_core]

theorem execClusterFault_tidy (cluster : Fin 12) (s : State) (hs0 : Tidy s) :
    Tidies (execClusterFault cluster s) := by
  unfold execClusterFault
  simp +contextual (maxDischargeDepth := 100) only [hs0, ↓tidy_ite, ↓State.retireCluster_tidy, ↓tidies_core]

/-! ### TwinData.lean -/

theorem State.confirmOut_tidy (s : State) (h : Nat) (m : Nat) (hs0 : Tidy s) :
    Tidy (State.confirmOut s h m) := by
  unfold State.confirmOut
  simp +contextual (maxDischargeDepth := 100) only [hs0, ↓State.linkSend_tidy]

theorem State.dataIn_tidy (s : State) (x : Ely) (d : DataHdr) (go : State → State) (hs0 : Tidy s) (h_go : ∀ a0, Tidy a0 → Tidy (go a0)) :
    Tidy (State.dataIn s x d go) := by
  unfold State.dataIn
  simp +contextual (maxDischargeDepth := 100) only [hs0, ↓tidy_ite, implies_true, ↓State.count_tidy, ↓State.twinWakeIn_tidy, ↓State.updHome_tidy, ↓h_go]

theorem State.recordIn_tidy (s : State) (x : Ely) (d : DataHdr) (store : State → State) (hs0 : Tidy s) (h_store : ∀ a0, Tidy a0 → Tidy (store a0)) :
    Tidy (State.recordIn s x d store) := by
  unfold State.recordIn
  simp +contextual (maxDischargeDepth := 100) only [hs0, implies_true, ↓State.confirmOut_tidy, ↓State.dataIn_tidy, ↓h_store]

theorem State.notePsn_tidy (s : State) (d : DataHdr) (msn : Option Nat) (hs0 : Tidy s) :
    Tidy (State.notePsn s d msn) := by
  unfold State.notePsn
  simp +contextual (maxDischargeDepth := 100) only [hs0, ↓tidy_ite, ↓State.updQp_tidy]

theorem State.mirrorFrames_tidy (s : State) (addr : Nat) (len : Nat) (hs0 : Tidy s) :
    Tidy (State.mirrorFrames s addr len) := by
  unfold State.mirrorFrames
  simp +contextual (maxDischargeDepth := 100) only [hs0, ↓foldl_tidy, implies_true, ↓State.loadUnit_tidy]

theorem State.mirrorPlace_tidy (s : State) (d : DataHdr) (op : MirrorOp) (hs0 : Tidy s) :
    Tidy (State.mirrorPlace s d op) := by
  unfold State.mirrorPlace
  split <;> simp +contextual (maxDischargeDepth := 100) only [hs0, ↓State.mirrorFrames_tidy, ↓State.notePsn_tidy, ↓State.placeBytes_tidy, ↓State.saveAtomic_tidy, ↓State.trimRange_tidy, ↓State.updQp_tidy]

theorem State.placeLate_tidy (s : State) (x1 : Nat) (hs0 : Tidy s) :
    Tidy (State.placeLate s x1) := by
  induction x1 generalizing s with
  | zero => exact hs0
  | succ n ih =>
    unfold State.placeLate
    split
    · refine tidy_ite (ih _ (State.confirmOut_tidy _ _ _ (State.mirrorPlace_tidy _ _ _ ?_))) hs0
      exact tidy_mk hs0.regs hs0.t1 hs0.t2 hs0.cf
    · exact hs0

theorem State.mirrorIn_tidy (s : State) (x : Ely) (d : DataHdr) (op : MirrorOp) (hs0 : Tidy s) :
    Tidy (State.mirrorIn s x d op) := by
  unfold State.mirrorIn
  simp +contextual (maxDischargeDepth := 100) only [hs0, ↓tidy_mk, tidy_regs, tidy_t1, tidy_t2, tidy_cf, implies_true, ↓State.dataIn_tidy, ↓State.placeLate_tidy, ↓State.settle_tidy]

theorem execDataWrite_tidy (x : Ely) (d : DataHdr) (addr : BitVec 64) (msn : BitVec 64) (data : List Byte) (s : State) (hs0 : Tidy s) :
    Tidies (execDataWrite x d addr msn data s) := by
  unfold execDataWrite
  simp +contextual (maxDischargeDepth := 100) only [hs0, ↓State.mirrorIn_tidy, ↓tidies_next, ↓tidies_refused, ↓tidies_ite]

theorem execDataZero_tidy (x : Ely) (d : DataHdr) (addr : BitVec 64) (len : BitVec 64) (s : State) (hs0 : Tidy s) :
    Tidies (execDataZero x d addr len s) := by
  unfold execDataZero
  simp +contextual (maxDischargeDepth := 100) only [hs0, ↓State.mirrorIn_tidy, ↓tidies_next]

theorem execDataTrim_tidy (x : Ely) (d : DataHdr) (addr : BitVec 64) (len : BitVec 64) (s : State) (hs0 : Tidy s) :
    Tidies (execDataTrim x d addr len s) := by
  unfold execDataTrim
  simp +contextual (maxDischargeDepth := 100) only [hs0, ↓State.mirrorIn_tidy, ↓tidies_next]

theorem execDataAtomic_tidy (x : Ely) (d : DataHdr) (addr : BitVec 64) (original : BitVec 64) (new : BitVec 64) (s : State) (hs0 : Tidy s) :
    Tidies (execDataAtomic x d addr original new s) := by
  unfold execDataAtomic
  simp +contextual (maxDischargeDepth := 100) only [hs0, ↓State.mirrorIn_tidy, ↓tidies_next]

theorem execDataArm_tidy (x : Ely) (d : DataHdr) (region : BitVec 64) (s : State) (hs0 : Tidy s) :
    Tidies (execDataArm x d region s) := by
  unfold execDataArm
  simp +contextual (maxDischargeDepth := 100) only [hs0, implies_true, ↓State.recordIn_tidy, ↓State.updRegion_tidy, ↓tidies_next]

theorem State.holdRec_tidy (s : State) (h : Nat) (r : HeldRec) (hs0 : Tidy s) :
    Tidy (State.holdRec s h r) := by
  unfold State.holdRec
  simp +contextual (maxDischargeDepth := 100) only [hs0, ↓State.updHome_tidy]

theorem execDataDoorbell_tidy (x : Ely) (d : DataHdr) (queue : Fin 64) (slot : Fin 32) (value : BitVec 64) (s : State) (hs0 : Tidy s) :
    Tidies (execDataDoorbell x d queue slot value s) := by
  unfold execDataDoorbell
  simp +contextual (maxDischargeDepth := 100) only [hs0, implies_true, ↓State.holdRec_tidy, ↓State.recordIn_tidy, ↓State.updQueue_tidy, ↓tidies_next]

theorem execDataFetch_tidy (x : Ely) (d : DataHdr) (queue : Fin 64) (first : BitVec 16) (count : BitVec 16) (s : State) (hs0 : Tidy s) :
    Tidies (execDataFetch x d queue first count s) := by
  unfold execDataFetch
  simp +contextual (maxDischargeDepth := 100) only [hs0, implies_true, ↓State.holdRec_tidy, ↓State.recordIn_tidy, ↓State.updQueue_tidy, ↓tidies_next]

theorem execDataPost_tidy (x : Ely) (d : DataHdr) (queue : Fin 64) (nq : Bool) (index : BitVec 16) (psn : Psn) (entry : List Byte) (slot : BitVec 16) (s : State) (hs0 : Tidy s) :
    Tidies (execDataPost x d queue nq index psn entry slot s) := by
  unfold execDataPost
  simp +contextual (maxDischargeDepth := 100) only [hs0, ↓tidy_ite, implies_true, ↓State.holdRec_tidy, ↓State.recordIn_tidy, ↓State.updQp_tidy, ↓State.updQueue_tidy, ↓tidies_next, ↓tidies_refused, ↓tidies_ite]

theorem execDataPlace_tidy (x : Ely) (d : DataHdr) (granule : Nat) (count : Nat) (placement : Fin 4) (s : State) (hs0 : Tidy s) :
    Tidies (execDataPlace x d granule count placement s) := by
  unfold execDataPlace
  simp +contextual (maxDischargeDepth := 100) only [hs0, ↓foldl_tidy, implies_true, ↓tidy_ite, ↓State.loadGranules_tidy, ↓State.recordIn_tidy, ↓State.setGranule_tidy, ↓tidies_next]

theorem State.streamRec_tidy (s : State) (h : Nat) (r : StreamRec) (hs0 : Tidy s) :
    Tidy (State.streamRec s h r) := by
  unfold State.streamRec
  split <;> simp +contextual (maxDischargeDepth := 100) only [hs0, ↓tidy_mk, tidy_regs, tidy_t1, tidy_t2, tidy_cf, ↓State.updStream_tidy]

theorem execDataStream_tidy (x : Ely) (d : DataHdr) (r : StreamRec) (s : State) (hs0 : Tidy s) :
    Tidies (execDataStream x d r s) := by
  unfold execDataStream
  simp +contextual (maxDischargeDepth := 100) only [hs0, implies_true, ↓State.recordIn_tidy, ↓State.streamRec_tidy, ↓tidies_next]

theorem execDataOrder_tidy (x : Ely) (d : DataHdr) (s : State) (hs0 : Tidy s) :
    Tidies (execDataOrder x d s) := by
  exact tidies_next (State.recordIn_tidy _ _ _ _ hs0 (fun _ h => h))

theorem State.bindRec_tidy (s : State) (n : Nat) (ringKey : BitVec 32) (entries : List Byte) (hs0 : Tidy s) :
    Tidy (State.bindRec s n ringKey entries) := by
  unfold State.bindRec
  simp +contextual (maxDischargeDepth := 100) only [hs0, ↓tidy_mk, tidy_regs, tidy_t1, tidy_t2, tidy_cf, ↓foldl_tidy, implies_true, ↓State.updQp_tidy]

theorem execDataBind_tidy (x : Ely) (d : DataHdr) (ringKey : BitVec 32) (entries : List Byte) (s : State) (hs0 : Tidy s) :
    Tidies (execDataBind x d ringKey entries s) := by
  unfold execDataBind
  simp +contextual (maxDischargeDepth := 100) only [hs0, implies_true, ↓State.bindRec_tidy, ↓State.recordIn_tidy, ↓tidies_next, ↓tidies_refused, ↓tidies_ite]

theorem State.applyQp_tidy (s : State) (h : Nat) (e : QpEntry) (hs0 : Tidy s) :
    Tidy (State.applyQp s h e) := by
  unfold State.applyQp
  simp +contextual (maxDischargeDepth := 100) only [hs0, ↓tidy_ite, ↓State.freeQp_tidy, ↓State.setQp_tidy, ↓State.updHome_tidy]

theorem State.applyEntry_tidy (s : State) (h : Nat) (x2 : DeltaEntry) (hs0 : Tidy s) :
    Tidy (State.applyEntry s h x2) := by
  unfold State.applyEntry
  repeat' split
  all_goals simp +contextual (maxDischargeDepth := 100) only [hs0, ↓tidy_mk, tidy_regs, tidy_t1, tidy_t2, tidy_cf, ↓foldl_tidy, implies_true, ↓State.applyQp_tidy, ↓State.freeRegion_tidy, ↓State.setKey_tidy, ↓State.setRegBit_tidy, ↓State.updQp_tidy, ↓State.updQueue_tidy, ↓State.updRegion_tidy]

theorem execDelta_tidy (x : Ely) (home : Fin 2) (epoch : BitVec 64) (term : BitVec 32) (final : Bool) (lockstep : Bool) (lastMseq : BitVec 64) (digest : BitVec 64) (entries : List DeltaEntry) (s : State) (hs0 : Tidy s) :
    Tidies (execDelta x home epoch term final lockstep lastMseq digest entries s) := by
  unfold execDelta
  simp +contextual (maxDischargeDepth := 100) only [hs0, ↓tidy_ite, ↓foldl_tidy, implies_true, ↓State.applyEntry_tidy, ↓State.claimToken_tidy, ↓State.record_tidy, ↓State.setPair_tidy, ↓State.setReg_tidy, ↓State.setRegBit_tidy, ↓State.setRole_tidy, ↓State.standWrite_tidy, ↓State.twinIn_tidy, ↓State.updHome_tidy, ↓State.volatileLost_tidy, ↓tidies_next]

theorem execLockstepIngress_tidy (x : Ely) (home : Fin 2) (inseq : Nat) (slice : Fin 8) (p : Pkt) (req : Req) (s : State) (hs0 : Tidy s) :
    Tidies (execLockstepIngress x home inseq slice p req s) := by
  unfold execLockstepIngress
  try dsimp only
  repeat' first
    | with_reducible assumption
    | with_reducible refine State.quiet_tidy _ _ _ ?_ ?_
    | with_reducible refine State.settle_tidy _ ?_
    | with_reducible refine State.stage2_tidy _ _ _ ?_
    | with_reducible refine State.twinWakeIn_tidy _ _ _ ?_ ?_
    | with_reducible refine State.updHome_tidy _ _ _ ?_
    | split
    | with_reducible refine tidies_next ?_
    | with_reducible intro _

theorem State.loadEntry_tidy (s : State) (h : Nat) (x2 : StateEntry) (hs0 : Tidy s) :
    Tidy (State.loadEntry s h x2) := by
  unfold State.loadEntry
  split <;> simp +contextual (maxDischargeDepth := 100) only [hs0, ↓State.applyEntry_tidy, ↓State.bindRec_tidy, ↓State.setGranule_tidy, ↓State.setPd_tidy, ↓State.streamRec_tidy, ↓State.updQp_tidy]

theorem execState_tidy (x : Ely) (home : Fin 2) (table : Fin 6) (last : Bool) (entries : List StateEntry) (s : State) (hs0 : Tidy s) :
    Tidies (execState x home table last entries s) := by
  unfold execState
  simp +contextual (maxDischargeDepth := 100) only [hs0, ↓tidy_ite, ↓foldl_tidy, implies_true, ↓State.loadEntry_tidy, ↓State.twinWakeIn_tidy, ↓State.updHome_tidy, ↓tidies_next]

theorem execPiece_tidy (x : Ely) (home : Fin 2) (addr : Nat) (data : List Byte) (poison : BitVec 64) (s : State) (hs0 : Tidy s) :
    Tidies (execPiece x home addr data poison s) := by
  unfold execPiece
  simp +contextual (maxDischargeDepth := 100) only [hs0, ↓tidy_ite, implies_true, ↓State.loadUnit_tidy, ↓State.placeBytes_tidy, ↓State.twinWakeIn_tidy, ↓State.updFrame_tidy, ↓tidies_next, ↓tidies_refused, ↓tidies_ite]

theorem execResyncDone_tidy (x : Ely) (home : Fin 2) (pieces : Nat) (s : State) (hs0 : Tidy s) :
    Tidies (execResyncDone x home pieces s) := by
  unfold execResyncDone
  simp +contextual (maxDischargeDepth := 100) only [hs0, ↓tidy_ite, implies_true, ↓State.twinWakeIn_tidy, ↓State.updHome_tidy, ↓tidies_next]

end Sys2Proof.Machine
end

