-- ==== Sys2Proof/Laws/TidyMedia.lean ====
section
/-! SUPPORT. Sys2Proof/Laws/TidyMedia.lean: the line cache, flash, DRAM and its error correction keep the
canonical forms: one lemma for each operation. -/

namespace Sys2Proof.Machine

/-! ### LineCache.lean -/

theorem State.lcEnable_tidy (s : State) (hs0 : Tidy s) :
    Tidy (State.lcEnable s).1 := by
  unfold State.lcEnable
  simp +contextual (maxDischargeDepth := 100) only [hs0, ↓tidy_ite1, ↓State.put_tidy, ↓State.record_tidy]

theorem State.lcDisable_tidy (s : State) (hs0 : Tidy s) :
    Tidy (State.lcDisable s) := by
  unfold State.lcDisable
  simp +contextual (maxDischargeDepth := 100) only [hs0, ↓tidy_ite, ↓State.put_tidy]

theorem State.cleanInvWhole_tidy (s : State) (hs0 : Tidy s) :
    Tidy (State.cleanInvWhole s) := by
  unfold State.cleanInvWhole
  simp +contextual (maxDischargeDepth := 100) only [hs0, ↓foldl_tidy, implies_true, ↓State.cleanInvLine_tidy]

theorem State.lcDisableDone_tidy (s : State) (hs0 : Tidy s) :
    Tidy (State.lcDisableDone s) := by
  unfold State.lcDisableDone
  simp +contextual (maxDischargeDepth := 100) only [hs0, ↓tidy_ite, ↓State.cleanInvWhole_tidy, ↓State.put_tidy]

theorem State.lcLockWrite_tidy (s : State) (v : Nat) (hs0 : Tidy s) :
    Tidy (State.lcLockWrite s v) := by
  unfold State.lcLockWrite
  simp +contextual (maxDischargeDepth := 100) only [hs0, ↓tidy_mk, tidy_regs, tidy_t1, tidy_t2, tidy_cf, ↓tidy_ite, ↓State.put_tidy]

theorem State.lcLockDone_tidy (s : State) (hs0 : Tidy s) :
    Tidy (State.lcLockDone s) := by
  unfold State.lcLockDone
  split <;> simp +contextual (maxDischargeDepth := 100) only [hs0, ↓tidy_mk, tidy_regs, tidy_t1, tidy_t2, tidy_cf, ↓foldl_tidy, implies_true, ↓State.cleanInvLine_tidy, ↓State.put_tidy]

theorem State.invLine_tidy (s : State) (l : Nat) (hs0 : Tidy s) :
    Tidy (State.invLine s l) := by
  unfold State.invLine
  split <;> simp +contextual (maxDischargeDepth := 100) only [hs0, ↓tidy_ite, ↓State.cleanInvLine_tidy, ↓State.dropLine_tidy]

theorem State.zeroT0Line_tidy (s : State) (l : Nat) (hs0 : Tidy s) :
    Tidy (State.zeroT0Line s l) := by
  unfold State.zeroT0Line
  split <;> simp +contextual (maxDischargeDepth := 100) only [hs0, ↓State.allocLine_tidy, ↓State.setLine_tidy]

theorem State.lockFillLine_tidy (s : State) (mask : Nat) (l : Nat) (hs0 : Tidy s) :
    Tidy (State.lockFillLine s mask l).1 := by
  unfold State.lockFillLine
  repeat' split
  all_goals simp +contextual (maxDischargeDepth := 100) only [hs0, ↓State.setLine_tidy]

theorem State.mopRefuse_tidy (s : State) (err : Nat) (hs0 : Tidy s) :
    Tidy (State.mopRefuse s err) := by
  unfold State.mopRefuse
  simp +contextual (maxDischargeDepth := 100) only [hs0, ↓State.put_tidy]

theorem State.mopBegin_tidy (s : State) (op : Nat) (done : Nat) (err : Nat) (hs0 : Tidy s) :
    Tidy (State.mopBegin s op done err) := by
  unfold State.mopBegin
  simp +contextual (maxDischargeDepth := 100) only [hs0, ↓tidy_mk, tidy_regs, tidy_t1, tidy_t2, tidy_cf, ↓State.put_tidy, ↓State.setReg_tidy]

theorem State.mopAtOnce_tidy (s : State) (op : Nat) (hs0 : Tidy s) :
    Tidy (State.mopAtOnce s op) := by
  unfold State.mopAtOnce
  simp +contextual (maxDischargeDepth := 100) only [hs0, ↓State.put_tidy, ↓State.setReg_tidy]

theorem State.mopStart_tidy (s : State) (op : Nat) (mask : Nat) (hs0 : Tidy s) :
    Tidy (State.mopStart s op mask) := by
  unfold State.mopStart
  simp +contextual (maxDischargeDepth := 100) only [hs0, ↓tidy_mk, tidy_regs, tidy_t1, tidy_t2, tidy_cf, ↓tidy_ite, ↓foldl_tidy, ↓foldl_tidy1, implies_true, ↓State.cleanInvLine_tidy, ↓State.cleanInvWhole_tidy, ↓State.cleanLine_tidy, ↓State.invLine_tidy, ↓State.lockFillLine_tidy, ↓State.mopAtOnce_tidy, ↓State.mopBegin_tidy, ↓State.mopRefuse_tidy, ↓State.zeroT0Line_tidy]

theorem State.mopDone_tidy (s : State) (hs0 : Tidy s) :
    Tidy (State.mopDone s) := by
  unfold State.mopDone
  split <;> simp +contextual (maxDischargeDepth := 100) only [hs0, ↓tidy_mk, tidy_regs, tidy_t1, tidy_t2, tidy_cf, ↓tidy_ite, ↓State.put_tidy, ↓State.record_tidy]

theorem execLcEnable_tidy (s : State) (hs0 : Tidy s) :
    Tidies (execLcEnable s) := by
  unfold execLcEnable
  simp +contextual (maxDischargeDepth := 100) only [hs0, ↓State.lcEnable_tidy, ↓tidies_core]

theorem execLcDisable_tidy (s : State) (hs0 : Tidy s) :
    Tidies (execLcDisable s) := by
  unfold execLcDisable
  simp +contextual (maxDischargeDepth := 100) only [hs0, ↓State.lcDisable_tidy, ↓tidies_core]

theorem execLcDisableDone_tidy (s : State) (hs0 : Tidy s) :
    Tidies (execLcDisableDone s) := by
  unfold execLcDisableDone
  simp +contextual (maxDischargeDepth := 100) only [hs0, ↓State.lcDisableDone_tidy, ↓tidies_core]

theorem execLcLockSet_tidy (way : Fin 8) (s : State) (hs0 : Tidy s) :
    Tidies (execLcLockSet way s) := by
  unfold execLcLockSet
  simp +contextual (maxDischargeDepth := 100) only [hs0, ↓State.lcLockWrite_tidy, ↓tidies_core]

theorem execLcLockSetDone_tidy (s : State) (hs0 : Tidy s) :
    Tidies (execLcLockSetDone s) := by
  unfold execLcLockSetDone
  simp +contextual (maxDischargeDepth := 100) only [hs0, ↓State.lcLockDone_tidy, ↓tidies_core]

theorem execLcLockClear_tidy (way : Fin 8) (s : State) (hs0 : Tidy s) :
    Tidies (execLcLockClear way s) := by
  unfold execLcLockClear
  simp +contextual (maxDischargeDepth := 100) only [hs0, ↓State.lcLockWrite_tidy, ↓tidies_core]

theorem execInvAll_tidy (s : State) (hs0 : Tidy s) :
    Tidies (execInvAll s) := by
  unfold execInvAll
  simp +contextual (maxDischargeDepth := 100) only [hs0, ↓State.mopStart_tidy, ↓tidies_core]

theorem execInvRange_tidy (s : State) (hs0 : Tidy s) :
    Tidies (execInvRange s) := by
  unfold execInvRange
  simp +contextual (maxDischargeDepth := 100) only [hs0, ↓State.mopStart_tidy, ↓tidies_core]

theorem execCleanRange_tidy (s : State) (hs0 : Tidy s) :
    Tidies (execCleanRange s) := by
  unfold execCleanRange
  simp +contextual (maxDischargeDepth := 100) only [hs0, ↓State.mopStart_tidy, ↓tidies_core]

theorem execCleanInvRange_tidy (s : State) (hs0 : Tidy s) :
    Tidies (execCleanInvRange s) := by
  unfold execCleanInvRange
  simp +contextual (maxDischargeDepth := 100) only [hs0, ↓State.mopStart_tidy, ↓tidies_core]

theorem execZeroLine_tidy (s : State) (hs0 : Tidy s) :
    Tidies (execZeroLine s) := by
  unfold execZeroLine
  simp +contextual (maxDischargeDepth := 100) only [hs0, ↓State.mopStart_tidy, ↓tidies_core]

theorem execLockFill_tidy (wayMask : BitVec 8) (s : State) (hs0 : Tidy s) :
    Tidies (execLockFill wayMask s) := by
  unfold execLockFill
  simp +contextual (maxDischargeDepth := 100) only [hs0, ↓State.mopStart_tidy, ↓tidies_core]

theorem execCleanAll_tidy (s : State) (hs0 : Tidy s) :
    Tidies (execCleanAll s) := by
  unfold execCleanAll
  simp +contextual (maxDischargeDepth := 100) only [hs0, ↓State.mopStart_tidy, ↓tidies_core]

theorem execCleanInvAll_tidy (s : State) (hs0 : Tidy s) :
    Tidies (execCleanInvAll s) := by
  unfold execCleanInvAll
  simp +contextual (maxDischargeDepth := 100) only [hs0, ↓State.mopStart_tidy, ↓tidies_core]

theorem execLcMopReservedOp_tidy (op : BitVec 4) (s : State) (hs0 : Tidy s) :
    Tidies (execLcMopReservedOp op s) := by
  unfold execLcMopReservedOp
  simp +contextual (maxDischargeDepth := 100) only [hs0, ↓State.mopStart_tidy, ↓tidies_refused, ↓tidies_core, ↓tidies_ite]

theorem execLcMopDone_tidy (s : State) (hs0 : Tidy s) :
    Tidies (execLcMopDone s) := by
  unfold execLcMopDone
  simp +contextual (maxDischargeDepth := 100) only [hs0, ↓State.mopDone_tidy, ↓tidies_core]

theorem execLcFillDone_tidy (line : Nat) (s : State) (hs0 : Tidy s) :
    Tidies (execLcFillDone line s) := by
  unfold execLcFillDone
  split <;> simp +contextual (maxDischargeDepth := 100) only [hs0, ↓tidy_ite, ↓State.endLineFill_tidy, ↓State.retryFill_tidy, ↓tidies_core]

theorem execFillBufferFreed_tidy (bank : Fin 16) (s : State) (hs0 : Tidy s) :
    Tidies (execFillBufferFreed bank s) := by
  unfold execFillBufferFreed
  simp +contextual (maxDischargeDepth := 100) only [hs0, ↓tidy_ite, ↓State.retry_tidy, ↓tidies_core]

theorem execLcBankInvalidateDone_tidy (bank : Fin 16) (s : State) (hs0 : Tidy s) :
    Tidies (execLcBankInvalidateDone bank s) := by
  unfold execLcBankInvalidateDone
  simp +contextual (maxDischargeDepth := 100) only [hs0, ↓tidy_mk, tidy_regs, tidy_t1, tidy_t2, tidy_cf, ↓tidy_ite, ↓State.retry_tidy, ↓State.setRegBit_tidy, ↓tidies_core]

/-! ### Flash.lean -/

theorem State.setSb_tidy (s : State) (n : Nat) (x : Sb) (hs0 : Tidy s) :
    Tidy (State.setSb s n x) := by
  unfold State.setSb
  simp +contextual (maxDischargeDepth := 100) only [hs0, ↓tidy_mk, tidy_regs, tidy_t1, tidy_t2, tidy_cf]

theorem State.markBlocks_tidy (s : State) (bs : List Nat) (st : BlkSt) (hs0 : Tidy s) :
    Tidy (State.markBlocks s bs st) := by
  unfold State.markBlocks
  simp +contextual (maxDischargeDepth := 100) only [hs0, ↓foldl_tidy, implies_true, ↓State.updBlk_tidy]

theorem State.openSb_tidy (s : State) (stream : Nat) (hs0 : Tidy s) :
    ∀ x, State.openSb s stream = some x → Tidy x.1 := by
  unfold State.openSb
  intro x e
  repeat' first
    | cases e
    | split at e
    | simp +contextual (maxDischargeDepth := 100) only [hs0, ↓tidy_mk, tidy_regs, tidy_t1, tidy_t2, tidy_cf, ↓State.journalAdd_tidy, ↓State.markBlocks_tidy, ↓State.setSb_tidy]
    | split

theorem State.handTo_tidy (s : State) (n : Nat) (x : Sb) (p : Nat) (use : PageUse) (hs0 : Tidy s) :
    Tidy (State.handTo s n x p use).1 := by
  unfold State.handTo
  simp +contextual (maxDischargeDepth := 100) only [hs0, ↓tidy_mk, tidy_regs, tidy_t1, tidy_t2, tidy_cf, ↓State.countBy_tidy, ↓State.setSb_tidy]

theorem State.openNext_tidy (s : State) (stream : Nat) (hs0 : Tidy s) :
    Tidy (State.openNext s stream) := by
  unfold State.openNext
  repeat' first
    | assumption
    | refine tidy_ite ?_ ?_
    | split
    | refine State.openSb_tidy _ _ ?_ _ (by assumption)

theorem State.handPage_tidy (s : State) (quench : Bool) (stream : Nat) (pos : Option Nat) (use : PageUse) (hs0 : Tidy s) :
    ∀ x, State.handPage s quench stream pos use = some x → Tidy x.1 := by
  unfold State.handPage
  intro x e
  extract_lets room at e
  split at e
  · cases e
  · split at e
    · cases e
      exact State.openNext_tidy _ _ (State.handTo_tidy _ _ _ _ _ hs0)
    · split at e
      · next o ho =>
        split at e
        · cases e
          exact State.handTo_tidy _ _ _ _ _ (State.openSb_tidy s stream hs0 _ ho)
        · cases e
      · cases e

theorem State.journalPump_tidy (s : State) (all : Bool) (hs0 : Tidy s) :
    Tidy (State.journalPump s all) := by
  unfold State.journalPump
  try dsimp only
  repeat' first
    | with_reducible assumption
    | with_reducible refine tidy_regs ?_
    | with_reducible refine tidy_t1 ?_
    | with_reducible refine tidy_t2 ?_
    | with_reducible refine tidy_cf ?_
    | refine tidy_ite ?_ ?_
    | split
    | with_reducible refine tidy_of_some (by assumption) (State.handPage_tidy _ _ _ _ _ ?_)
    | with_reducible refine tidy_mk ?_ ?_ ?_ ?_

theorem State.deepDone_tidy (s : State) (u : Nat) (stamp : Nat) (hs0 : Tidy s) :
    Tidy (State.deepDone s u stamp) := by
  unfold State.deepDone
  simp +contextual (maxDischargeDepth := 100) only [hs0, ↓tidy_mk, tidy_regs, tidy_t1, tidy_t2, tidy_cf]

theorem State.commitUnit_tidy (s : State) (u : Nat) (hs0 : Tidy s) :
    Tidy (State.commitUnit s u) := by
  unfold State.commitUnit
  split <;> simp +contextual (maxDischargeDepth := 100) only [hs0, ↓tidy_mk, tidy_regs, tidy_t1, tidy_t2, tidy_cf, ↓State.deepDone_tidy, ↓State.updFrame_tidy, Memory.wf_memClear, wf_cells]

theorem State.copyFrame_tidy (s : State) (quench : Bool) (u : Nat) (hs0 : Tidy s) :
    Tidy (State.copyFrame s quench u) := by
  unfold State.copyFrame
  try dsimp only
  repeat' first
    | with_reducible assumption
    | with_reducible refine State.cleanUnit_tidy _ _ ?_
    | with_reducible refine State.fillLines_tidy _ _ _ ?_
    | with_reducible refine State.setFrame_tidy _ _ _ ?_
    | with_reducible refine tidy_regs ?_
    | with_reducible refine tidy_t1 ?_
    | with_reducible refine tidy_t2 ?_
    | with_reducible refine tidy_cf ?_
    | split
    | with_reducible refine tidy_of_some (by assumption) (State.handPage_tidy _ _ _ _ _ ?_)
    | with_reducible refine tidy_mk ?_ ?_ ?_ ?_

theorem execLehrDestageStart_tidy (s : State) (hs0 : Tidy s) :
    Tidies (execLehrDestageStart s) := by
  unfold execLehrDestageStart
  repeat' split
  all_goals simp +contextual (maxDischargeDepth := 100) only [hs0, ↓State.copyFrame_tidy, ↓State.dirtyPause_tidy, ↓State.journalPump_tidy, ↓tidies_core]

theorem execDestageProgramVerified_tidy (unit : Nat) (s : State) (hs0 : Tidy s) :
    Tidies (execDestageProgramVerified unit s) := by
  unfold execDestageProgramVerified
  simp +contextual (maxDischargeDepth := 100) only [hs0, ↓State.commitUnit_tidy, ↓State.placeLate_tidy, ↓State.settle_tidy, ↓State.spaceCheck_tidy, ↓tidies_core]

theorem execDirtyBudgetRoom_tidy (home : Fin 2) (s : State) (hs0 : Tidy s) :
    Tidies (execDirtyBudgetRoom home s) := by
  unfold execDirtyBudgetRoom
  simp +contextual (maxDischargeDepth := 100) only [hs0, ↓tidy_ite, ↓State.placeLate_tidy, ↓State.settle_tidy, ↓tidies_core]

theorem State.relocate_tidy (s : State) (u : Nat) (hs0 : Tidy s) :
    Tidy (State.relocate s u) := by
  unfold State.relocate
  split
  · split
    · exact hs0
    · split
      · next r hr => exact State.handPage_tidy _ _ _ _ _ hs0 _ hr
      · exact hs0
  · exact hs0

theorem State.gcGoOn_tidy (s : State) (hs0 : Tidy s) :
    Tidy (State.gcGoOn s) := by
  unfold State.gcGoOn
  simp +contextual (maxDischargeDepth := 100) only [hs0, ↓tidy_ite, ↓foldl_tidy, implies_true, ↓State.journalAdd_tidy, ↓State.relocate_tidy, ↓State.setSb_tidy]

theorem State.gcStatus_tidy (s : State) (hs0 : Tidy s) :
    Tidy (State.gcStatus s) := by
  unfold State.gcStatus
  simp +contextual (maxDischargeDepth := 100) only [hs0, ↓tidy_mk, tidy_regs, tidy_t1, tidy_t2, tidy_cf, ↓State.putB_tidy]

theorem State.replaceMember_tidy (s : State) (n : Nat) (x : Sb) (p : Nat) (new : Nat) (hs0 : Tidy s) :
    Tidy (State.replaceMember s n x p new) := by
  unfold State.replaceMember
  simp +contextual (maxDischargeDepth := 100) only [hs0, ↓tidy_mk, tidy_regs, tidy_t1, tidy_t2, tidy_cf, ↓State.countBy_tidy, ↓State.markBlocks_tidy, ↓State.setSb_tidy]

theorem State.retireBlock_tidy (s : State) (b : Nat) (hs0 : Tidy s) :
    Tidy (State.retireBlock s b) := by
  unfold State.retireBlock
  repeat' first
    | split
    | simp +contextual (maxDischargeDepth := 100) only [hs0, ↓tidy_mk, tidy_regs, tidy_t1, tidy_t2, tidy_cf, ↓foldl_tidy, implies_true, ↓State.count_tidy, ↓State.gcGoOn_tidy, ↓State.journalAdd_tidy, ↓State.markBlocks_tidy, ↓State.record_tidy, ↓State.relocate_tidy, ↓State.replaceMember_tidy, ↓State.setSb_tidy, ↓State.updBlk_tidy]

theorem State.unitsLost_tidy (s : State) (us : List Nat) (hs0 : Tidy s) :
    Tidy (State.unitsLost s us) := by
  unfold State.unitsLost
  try dsimp only
  repeat' first
    | with_reducible assumption
    | with_reducible refine State.needHeal_tidy _ _ ?_
    | with_reducible refine State.setFrame_tidy _ _ _ ?_
    | with_reducible refine tidy_regs ?_
    | with_reducible refine tidy_t1 ?_
    | with_reducible refine tidy_t2 ?_
    | with_reducible refine tidy_cf ?_
    | refine tidy_ite ?_ ?_
    | split
    | with_reducible refine foldl_tidy _ _ _ ?_ (fun s a h => ?_)
    | with_reducible refine tidy_mk ?_ ?_ ?_ ?_

theorem State.movePosition_tidy (s : State) (c : Nat) (p : Nat) (hs0 : Tidy s) :
    Tidy (State.movePosition s c p) := by
  unfold State.movePosition
  repeat' first
    | assumption
    | simp +contextual (maxDischargeDepth := 100) only [hs0, ↓State.journalAdd_tidy, ↓State.put_tidy, ↓State.setReg_tidy]
    | split
    | with_reducible refine State.replaceMember_tidy _ _ _ _ _ ?_
    | with_reducible refine State.unitsLost_tidy _ _ ?_
    | refine foldl_tidy _ _ _ ?_ (fun s a h => ?_)

theorem State.retireFch_tidy (s : State) (c : Nat) (hs0 : Tidy s) :
    Tidy (State.retireFch s c) := by
  unfold State.retireFch
  simp +contextual (maxDischargeDepth := 100) only [hs0, ↓tidy_ite, ↓foldl_tidy, implies_true, ↓State.movePosition_tidy, ↓State.put_tidy, ↓State.record_tidy, ↓State.spaceCheck_tidy]

theorem State.retireDie_tidy (s : State) (c : Nat) (d : Nat) (hs0 : Tidy s) :
    Tidy (State.retireDie s c d) := by
  unfold State.retireDie
  try dsimp only
  repeat' first
    | with_reducible assumption
    | with_reducible refine State.put_tidy _ _ _ ?_
    | with_reducible refine State.record_tidy _ _ _ _ _ _ ?_
    | with_reducible refine State.replaceMember_tidy _ _ _ _ _ ?_
    | with_reducible refine State.retireFch_tidy _ _ ?_
    | with_reducible refine State.spaceCheck_tidy _ ?_
    | with_reducible refine State.unitsLost_tidy _ _ ?_
    | with_reducible refine tidy_regs ?_
    | with_reducible refine tidy_t1 ?_
    | with_reducible refine tidy_t2 ?_
    | with_reducible refine tidy_cf ?_
    | refine tidy_ite ?_ ?_
    | split
    | with_reducible refine foldl_tidy _ _ _ ?_ (fun s a h => ?_)
    | with_reducible refine tidy_mk ?_ ?_ ?_ ?_

theorem State.dieCheck_tidy (s : State) (b : Nat) (hs0 : Tidy s) :
    Tidy (State.dieCheck s b) := by
  unfold State.dieCheck
  repeat' split
  all_goals simp +contextual (maxDischargeDepth := 100) only [hs0, ↓tidy_ite, ↓State.retireDie_tidy]

theorem State.commitEntry_tidy (s : State) (e : JEntry) (hs0 : Tidy s) :
    Tidy (State.commitEntry s e) := by
  unfold State.commitEntry
  repeat' split
  all_goals simp +contextual (maxDischargeDepth := 100) only [hs0, ↓tidy_mk, tidy_regs, tidy_t1, tidy_t2, tidy_cf, ↓State.commitUnit_tidy, ↓State.count_tidy, ↓State.updBlk_tidy]

theorem State.pagePassed_tidy (s : State) (o : PageOp) (loc : Nat) (hs0 : Tidy s) :
    Tidy (State.pagePassed s o loc) := by
  unfold State.pagePassed
  repeat' split
  all_goals simp +contextual (maxDischargeDepth := 100) only [hs0, ↓tidy_mk, tidy_regs, tidy_t1, tidy_t2, tidy_cf, ↓foldl_tidy, implies_true, ↓State.commitEntry_tidy, ↓State.journalAdd_tidy]

theorem State.closeSb_tidy (s : State) (n : Nat) (hs0 : Tidy s) :
    Tidy (State.closeSb s n) := by
  unfold State.closeSb
  split <;> simp +contextual (maxDischargeDepth := 100) only [hs0, ↓tidy_ite, ↓State.journalAdd_tidy, ↓State.markBlocks_tidy, ↓State.setSb_tidy]

theorem execNandProgramDone_tidy (block : Nat) (page : Nat) (ok : Bool) (s : State) (hs0 : Tidy s) :
    Tidies (execNandProgramDone block page ok s) := by
  unfold execNandProgramDone
  repeat' split
  all_goals simp +contextual (maxDischargeDepth := 100) only [hs0, ↓tidy_mk, tidy_regs, tidy_t1, tidy_t2, tidy_cf, ↓State.closeSb_tidy, ↓State.count_tidy, ↓State.dieCheck_tidy, ↓State.gcGoOn_tidy, ↓State.journalPump_tidy, ↓State.pagePassed_tidy, ↓State.placeLate_tidy, ↓State.retireBlock_tidy, ↓State.setSb_tidy, ↓State.settle_tidy, ↓State.spaceCheck_tidy, ↓State.updBlk_tidy, ↓tidies_core]

theorem execStripeFillTimeout_tidy (position : Nat) (s : State) (hs0 : Tidy s) :
    Tidies (execStripeFillTimeout position s) := by
  unfold execStripeFillTimeout
  simp +contextual (maxDischargeDepth := 100) only [hs0, ↓tidy_ite, ↓foldl_tidy, implies_true, ↓State.handTo_tidy, ↓tidies_core]

theorem State.wearCheck_tidy (s : State) (before : Nat) (hs0 : Tidy s) :
    Tidy (State.wearCheck s before) := by
  unfold State.wearCheck
  simp +contextual (maxDischargeDepth := 100) only [hs0, ↓tidy_ite, ↓State.record_tidy]

theorem execNandEraseDone_tidy (block : Nat) (ok : Bool) (s : State) (hs0 : Tidy s) :
    Tidies (execNandEraseDone block ok s) := by
  unfold execNandEraseDone
  split <;> simp +contextual (maxDischargeDepth := 100) only [hs0, ↓tidy_ite, ↓State.count_tidy, ↓State.dieCheck_tidy, ↓State.gcStatus_tidy, ↓State.journalAdd_tidy, ↓State.journalPump_tidy, ↓State.retireBlock_tidy, ↓State.setBlk_tidy, ↓State.spaceCheck_tidy, ↓State.wearCheck_tidy, ↓tidies_core]

theorem State.readFail_tidy (s : State) (b : Nat) (hs0 : Tidy s) :
    Tidy (State.readFail s b) := by
  unfold State.readFail
  repeat' split
  all_goals simp +contextual (maxDischargeDepth := 100) only [hs0, ↓tidy_ite, ↓State.dieCheck_tidy, ↓State.retireBlock_tidy, ↓State.updBlk_tidy]

theorem State.suspendErase_tidy (s : State) (u phys : Nat) (hs0 : Tidy s) :
    Tidy (State.suspendErase s u phys) := by
  unfold State.suspendErase
  extract_lets c
  split <;> simp +contextual (maxDischargeDepth := 100) only [hs0, ↓tidy_ite, ↓State.count_tidy, ↓State.setBlk_tidy]

theorem execNandReadDone_tidy (unit : Nat) (codeword : Fin 4) (step : Fin 8) (decoded : Bool) (s : State) (hs0 : Tidy s) :
    Tidies (execNandReadDone unit codeword step decoded s) := by
  unfold execNandReadDone
  split <;> simp +contextual (maxDischargeDepth := 100) only [hs0, ↓tidy_mk, tidy_regs, tidy_t1, tidy_t2, tidy_cf, ↓tidy_ite, ↓State.count_tidy, ↓State.deliver_tidy, ↓State.needHeal_tidy, ↓State.readFail_tidy, ↓State.suspendErase_tidy, ↓State.updBlk_tidy, ↓tidies_core]

theorem execSbVerifyDone_tidy (sb : Nat) (relocated : List Nat) (s : State) (hs0 : Tidy s) :
    Tidies (execSbVerifyDone sb relocated s) := by
  unfold execSbVerifyDone
  repeat' first
    | simp +contextual (maxDischargeDepth := 100) only [hs0, ↓foldl_tidy, implies_true, ↓State.countBy_tidy, ↓State.dieCheck_tidy, ↓State.journalAdd_tidy, ↓State.journalPump_tidy, ↓State.markBlocks_tidy, ↓State.relocate_tidy, ↓State.retireBlock_tidy, ↓State.setBlk_tidy, ↓State.setSb_tidy, ↓State.spaceCheck_tidy, ↓tidies_core]
    | split

theorem State.ckptStart_tidy (s : State) (hs0 : Tidy s) :
    Tidy (State.ckptStart s) := by
  unfold State.ckptStart
  repeat' first
    | split
    | assumption
    | simp +contextual (maxDischargeDepth := 100) only [hs0, ↓tidy_mk, tidy_regs, tidy_t1, tidy_t2, tidy_cf, ↓State.put_tidy]
    | refine State.handPage_tidy _ _ _ _ _ ?_ _ (by assumption)

theorem State.ckptDone_tidy (s : State) (hs0 : Tidy s) :
    Tidy (State.ckptDone s) := by
  unfold State.ckptDone
  simp +contextual (maxDischargeDepth := 100) only [hs0, ↓tidy_mk, tidy_regs, tidy_t1, tidy_t2, tidy_cf, ↓State.count_tidy, ↓State.put_tidy]

theorem execCheckpointStart_tidy (s : State) (hs0 : Tidy s) :
    Tidies (execCheckpointStart s) := by
  unfold execCheckpointStart
  simp +contextual (maxDischargeDepth := 100) only [hs0, ↓tidy_ite, ↓State.ckptStart_tidy, ↓tidies_core]

theorem execCheckpointDone_tidy (s : State) (hs0 : Tidy s) :
    Tidies (execCheckpointDone s) := by
  unfold execCheckpointDone
  simp +contextual (maxDischargeDepth := 100) only [hs0, ↓tidy_ite, ↓State.ckptDone_tidy, ↓tidies_core]

theorem execGcStart_tidy (s : State) (hs0 : Tidy s) :
    Tidies (execGcStart s) := by
  unfold execGcStart
  repeat' first
    | simp +contextual (maxDischargeDepth := 100) only [hs0, ↓State.count_tidy, ↓State.gcGoOn_tidy, ↓State.gcStatus_tidy, ↓State.journalPump_tidy, ↓State.setSb_tidy, ↓tidies_core]
    | split

theorem execDieTempPoll_tidy (temps : List (Fin 32 × Fin 128 × Int)) (s : State) (hs0 : Tidy s) :
    Tidies (execDieTempPoll temps s) := by
  unfold execDieTempPoll
  repeat' first
    | assumption
    | simp +contextual (maxDischargeDepth := 100) only [hs0, ↓tidy_mk, tidy_regs, tidy_t1, tidy_t2, tidy_cf]
    | refine tidy_ite ?_ ?_
    | split
    | with_reducible refine State.put_tidy _ _ _ ?_
    | refine foldl_tidy _ _ _ ?_ (fun s a h => ?_)
    | refine tidies_next ?_

theorem execFchRetire_tidy (chan : Fin 32) (s : State) (hs0 : Tidy s) :
    Tidies (execFchRetire chan s) := by
  unfold execFchRetire
  simp +contextual (maxDischargeDepth := 100) only [hs0, ↓State.put_tidy, ↓State.retireFch_tidy, ↓tidies_core]

theorem execFlashDieStopsAnswering_tidy (chan : Fin 32) (die : Option (Fin 128)) (s : State) (hs0 : Tidy s) :
    Tidies (execFlashDieStopsAnswering chan die s) := by
  unfold execFlashDieStopsAnswering
  repeat' first
    | split
    | simp +contextual (maxDischargeDepth := 100) only [hs0, ↓State.retireDie_tidy, ↓State.retireFch_tidy, ↓tidies_core]

theorem execFlashChannelInitDone_tidy (chan : Fin 32) (ok : Bool) (g : FlashGeom) (s : State) (hs0 : Tidy s) :
    Tidies (execFlashChannelInitDone chan ok g s) := by
  unfold execFlashChannelInitDone
  simp +contextual (maxDischargeDepth := 100) only [hs0, ↓tidy_mk, tidy_regs, tidy_t1, tidy_t2, tidy_cf, ↓tidy_ite, ↓State.put_tidy, ↓State.putB_tidy, ↓State.record_tidy, ↓State.setReg_tidy, ↓tidies_core]

theorem execT2SampleTimer_tidy (bad : List Nat) (s : State) (hs0 : Tidy s) :
    Tidies (execT2SampleTimer bad s) := by
  unfold execT2SampleTimer
  simp +contextual (maxDischargeDepth := 100) only [hs0, ↓tidy_ite, ↓foldl_tidy, implies_true, ↓State.relocate_tidy, ↓State.setRegBit_tidy, ↓tidies_core]

/-! ### Dram.lean -/

theorem State.updChan_tidy (s : State) (c : Nat) (f : DramChan → DramChan) (hs0 : Tidy s) :
    Tidy (State.updChan s c f) := by
  unfold State.updChan
  simp +contextual (maxDischargeDepth := 100) only [hs0, ↓tidy_mk, tidy_regs, tidy_t1, tidy_t2, tidy_cf]

theorem State.t1Shrink_tidy (s : State) (hs0 : Tidy s) :
    Tidy (State.t1Shrink s) := by
  unfold State.t1Shrink
  simp +contextual (maxDischargeDepth := 100) only [hs0, ↓tidy_ite, ↓State.record_tidy, ↓State.setReg_tidy, ↓State.stopService_tidy]

theorem State.retireDram_tidy (s : State) (c : Nat) (hs0 : Tidy s) :
    Tidy (State.retireDram s c) := by
  unfold State.retireDram
  simp +contextual (maxDischargeDepth := 100) only [hs0, ↓tidy_ite, ↓State.put_tidy]

theorem execDmcRetire_tidy (chan : Fin 16) (s : State) (hs0 : Tidy s) :
    Tidies (execDmcRetire chan s) := by
  unfold execDmcRetire
  simp +contextual (maxDischargeDepth := 100) only [hs0, ↓State.put_tidy, ↓State.retireDram_tidy, ↓tidies_core]

theorem State.markUncorr_tidy (s : State) (line : Nat) (ks : List Nat) (hs0 : Tidy s) :
    Tidy (State.markUncorr s line ks) := by
  unfold State.markUncorr
  simp +contextual (maxDischargeDepth := 100) only [hs0, ↓tidy_mk, tidy_regs, tidy_t1, tidy_t2, tidy_cf]

theorem State.recoverLine_tidy (s : State) (line : Nat) (ks : List Nat) (hs0 : Tidy s) :
    Tidy (State.recoverLine s line ks).1 := by
  unfold State.recoverLine
  repeat' split
  all_goals simp +contextual (maxDischargeDepth := 100) only [hs0, ↓tidy_ite1, ↓State.askHeal_tidy, ↓State.markUncorr_tidy, ↓State.poisonUnit_tidy, ↓State.setFrame_tidy, ↓State.startFill_tidy]

theorem State.t0Word_tidy (s : State) (line : Nat) (k : Nat) (r : WordRes) (hs0 : Tidy s) :
    Tidy (State.t0Word s line k r).1 := by
  unfold State.t0Word
  repeat' first
    | assumption
    | simp +contextual (maxDischargeDepth := 100) only [hs0, ↓tidy_ite1, ↓State.askHeal_tidy, ↓State.count_tidy, ↓State.dropLine_tidy, ↓State.markUncorr_tidy, ↓State.poisonUnit_tidy, ↓State.record_tidy]
    | refine tidy_ite1 ?_ ?_
    | split

theorem State.remapSet_tidy (s : State) (c : Nat) (entry : Nat) (sub : Nat) (la : BitVec 32) (k : Nat) (hs0 : Tidy s) :
    Tidy (State.remapSet s c entry sub la k) := by
  unfold State.remapSet
  simp +contextual (maxDischargeDepth := 100) only [hs0, ↓State.count_tidy, ↓State.record_tidy, ↓State.updChan_tidy]

theorem State.askRetire_tidy (s : State) (c : Nat) (hs0 : Tidy s) :
    Tidy (State.askRetire s c) := by
  unfold State.askRetire
  simp +contextual (maxDischargeDepth := 100) only [hs0, ↓tidy_ite, ↓State.record_tidy, ↓State.retireDram_tidy]

theorem State.noteCorr_tidy (s : State) (c : Nat) (sub : Nat) (la : BitVec 32) (k : Nat) (double : Bool) (scrub : Bool) (hs0 : Tidy s) :
    Tidy (State.noteCorr s c sub la k double scrub) := by
  unfold State.noteCorr
  repeat' first
    | split
    | simp +contextual (maxDischargeDepth := 100) only [hs0, ↓tidy_mk, tidy_regs, tidy_t1, tidy_t2, tidy_cf, ↓tidy_ite, ↓State.askRetire_tidy, ↓State.count_tidy, ↓State.record_tidy, ↓State.remapSet_tidy, ↓State.updChan_tidy]
    | refine tidy_ite ?_ ?_

theorem State.noteCorrs_tidy (s : State) (c : Nat) (sub : Nat) (la : BitVec 32) (rs : List (WordRes × BitVec 64)) (scrub : Bool) (hs0 : Tidy s) :
    Tidy (State.noteCorrs s c sub la rs scrub) := by
  unfold State.noteCorrs
  repeat' split
  all_goals simp +contextual (maxDischargeDepth := 100) only [hs0, ↓foldl_tidy, implies_true, ↓State.noteCorr_tidy]

theorem State.lineBad_tidy (s : State) (c : Nat) (sub : Nat) (la : BitVec 32) (line : Nat) (rs : List (WordRes × BitVec 64)) (hs0 : Tidy s) :
    Tidy (State.lineBad s c sub la line rs) := by
  unfold State.lineBad
  simp +contextual (maxDischargeDepth := 100) only [hs0, ↓tidy_ite, ↓State.count_tidy, ↓State.put_tidy, ↓State.putB_tidy, ↓State.record_tidy, ↓State.retireDram_tidy, ↓State.setReg_tidy, ↓State.updChan_tidy]

theorem State.readLine_tidy (s : State) (c : Nat) (sub : Nat) (la : BitVec 32) (line : Nat) (first : List (BitVec 80)) (again : List (BitVec 80)) (scrub : Bool) (hs0 : Tidy s) :
    Tidy (State.readLine s c sub la line first again scrub).1 := by
  unfold State.readLine
  simp +contextual (maxDischargeDepth := 100) only [hs0, ↓tidy_ite1, ↓State.lineBad_tidy, ↓State.noteCorrs_tidy, ↓State.recoverLine_tidy]

theorem State.activate1_tidy (s : State) (c : Nat) (a : DramAddr) (hs0 : Tidy s) :
    Tidy (State.activate1 s c a) := by
  unfold State.activate1
  simp +contextual (maxDischargeDepth := 100) only [hs0, ↓tidy_ite, ↓State.count_tidy, ↓State.draw_tidy, ↓State.updChan_tidy]

theorem State.issue_tidy (s : State) (c : Nat) (sub : Nat) (hs0 : Tidy s) :
    Tidy (State.issue s c sub) := by
  unfold State.issue
  repeat' first
    | assumption
    | simp +contextual (maxDischargeDepth := 100) only [hs0, ↓tidy_ite, ↓State.activate1_tidy, ↓State.updChan_tidy]
    | refine tidy_ite ?_ ?_
    | split

theorem State.drainCheck_tidy (s : State) (c : Nat) (sub : Nat) (hs0 : Tidy s) :
    Tidy (State.drainCheck s c sub) := by
  unfold State.drainCheck
  simp +contextual (maxDischargeDepth := 100) only [hs0, ↓State.updChan_tidy]

theorem State.enqueue_tidy (s : State) (c : Nat) (a : DramAddr) (write : Bool) (hs0 : Tidy s) :
    Tidy (State.enqueue s c a write) := by
  unfold State.enqueue
  simp +contextual (maxDischargeDepth := 100) only [hs0, ↓tidy_ite, ↓State.count_tidy, ↓State.drainCheck_tidy, ↓State.issue_tidy, ↓State.updChan_tidy]

theorem execDmcRequestEnqueued_tidy (a : DramAddr) (write : Bool) (s : State) (hs0 : Tidy s) :
    Tidies (execDmcRequestEnqueued a write s) := by
  unfold execDmcRequestEnqueued
  simp +contextual (maxDischargeDepth := 100) only [hs0, ↓tidy_ite, ↓State.enqueue_tidy, ↓tidies_core]

theorem State.entryFreed_tidy (s : State) (c : Nat) (sub : Nat) (write : Bool) (hs0 : Tidy s) :
    Tidy (State.entryFreed s c sub write) := by
  unfold State.entryFreed
  repeat' first
    | assumption
    | simp +contextual (maxDischargeDepth := 100) only [hs0, ↓State.enqueue_tidy, ↓State.updChan_tidy]
    | refine tidy_ite ?_ ?_
    | split

theorem execDmcQueueEntryFreed_tidy (chan : Fin 16) (sub : Fin 2) (write : Bool) (s : State) (hs0 : Tidy s) :
    Tidies (execDmcQueueEntryFreed chan sub write s) := by
  unfold execDmcQueueEntryFreed
  simp +contextual (maxDischargeDepth := 100) only [hs0, ↓State.entryFreed_tidy, ↓tidies_core]

theorem State.burstDone_tidy (s : State) (c : Nat) (a : DramAddr) (write : Bool) (hs0 : Tidy s) :
    Tidy (State.burstDone s c a write) := by
  unfold State.burstDone
  split <;> simp +contextual (maxDischargeDepth := 100) only [hs0, ↓State.drainCheck_tidy, ↓State.entryFreed_tidy, ↓State.issue_tidy, ↓State.updChan_tidy]

theorem execDramReadDone_tidy (a : DramAddr) (line : Nat) (first : List (BitVec 80)) (again : List (BitVec 80)) (s : State) (hs0 : Tidy s) :
    Tidies (execDramReadDone a line first again s) := by
  unfold execDramReadDone
  simp +contextual (maxDischargeDepth := 100) only [hs0, ↓tidy_ite, ↓State.burstDone_tidy, ↓State.count_tidy, ↓State.readLine_tidy, ↓State.retryFill_tidy, ↓State.settle_tidy, ↓tidies_refused, ↓tidies_core, ↓tidies_ite]

theorem execDramWriteRetired_tidy (a : DramAddr) (s : State) (hs0 : Tidy s) :
    Tidies (execDramWriteRetired a s) := by
  unfold execDramWriteRetired
  simp +contextual (maxDischargeDepth := 100) only [hs0, ↓tidy_ite, ↓State.burstDone_tidy, ↓State.count_tidy, ↓tidies_core]

theorem execRowIdleClose_tidy (chan : Fin 16) (sub : Fin 2) (bank : Nat) (s : State) (hs0 : Tidy s) :
    Tidies (execRowIdleClose chan sub bank s) := by
  unfold execRowIdleClose
  simp +contextual (maxDischargeDepth := 100) only [hs0, ↓State.updChan_tidy, ↓tidies_core]

theorem execDmcAgeMax_tidy (chan : Fin 16) (sub : Fin 2) (seq : Nat) (s : State) (hs0 : Tidy s) :
    Tidies (execDmcAgeMax chan sub seq s) := by
  unfold execDmcAgeMax
  simp +contextual (maxDischargeDepth := 100) only [hs0, ↓State.issue_tidy, ↓State.updChan_tidy, ↓tidies_core]

theorem execRankPowerDown_tidy (chan : Fin 16) (rank : Fin 16) (s : State) (hs0 : Tidy s) :
    Tidies (execRankPowerDown chan rank s) := by
  unfold execRankPowerDown
  simp +contextual (maxDischargeDepth := 100) only [hs0, ↓tidy_ite, ↓State.updChan_tidy, ↓tidies_core]

theorem State.setDebt_tidy (s : State) (c : Nat) (rank : Nat) (debt : Nat) (closes : Bool) (hs0 : Tidy s) :
    Tidy (State.setDebt s c rank debt closes) := by
  unfold State.setDebt
  simp +contextual (maxDischargeDepth := 100) only [hs0, ↓State.put_tidy, ↓State.updChan_tidy]

theorem execRefreshDue_tidy (chan : Fin 16) (rank : Fin 16) (s : State) (hs0 : Tidy s) :
    Tidies (execRefreshDue chan rank s) := by
  unfold execRefreshDue
  simp +contextual (maxDischargeDepth := 100) only [hs0, ↓tidy_ite, ↓State.count_tidy, ↓State.setDebt_tidy, ↓tidies_core]

theorem execRefreshCatchup_tidy (chan : Fin 16) (rank : Fin 16) (s : State) (hs0 : Tidy s) :
    Tidies (execRefreshCatchup chan rank s) := by
  unfold execRefreshCatchup
  simp +contextual (maxDischargeDepth := 100) only [hs0, ↓tidy_ite, ↓State.setDebt_tidy, ↓tidies_core]

theorem execMr4Poll_tidy (chan : Fin 16) (hot : BitVec 16) (s : State) (hs0 : Tidy s) :
    Tidies (execMr4Poll chan hot s) := by
  unfold execMr4Poll
  simp +contextual (maxDischargeDepth := 100) only [hs0, ↓State.putB_tidy, ↓State.updChan_tidy, ↓tidies_core]

theorem State.payDebt_tidy (s : State) (c : Nat) (hs0 : Tidy s) :
    Tidy (State.payDebt s c) := by
  unfold State.payDebt
  simp +contextual (maxDischargeDepth := 100) only [hs0, ↓foldl_tidy, implies_true, ↓State.setDebt_tidy]

theorem execCaparAlert_tidy (chan : Fin 16) (sub : Fin 2) (s : State) (hs0 : Tidy s) :
    Tidies (execCaparAlert chan sub s) := by
  unfold execCaparAlert
  simp +contextual (maxDischargeDepth := 100) only [hs0, ↓tidy_ite, ↓State.count_tidy, ↓State.retireDram_tidy, ↓State.updChan_tidy, ↓tidies_core]

theorem execCaparAlertCleared_tidy (chan : Fin 16) (sub : Fin 2) (window : List Nat) (ranks : List (Fin 16)) (s : State) (hs0 : Tidy s) :
    Tidies (execCaparAlertCleared chan sub window ranks s) := by
  unfold execCaparAlertCleared
  simp +contextual (maxDischargeDepth := 100) only [hs0, ↓tidy_ite, ↓foldl_tidy, implies_true, ↓State.issue_tidy, ↓State.record_tidy, ↓State.setDebt_tidy, ↓State.updChan_tidy, ↓tidies_core]

theorem State.t1Check_tidy (s : State) (hs0 : Tidy s) :
    Tidy (State.t1Check s) := by
  unfold State.t1Check
  simp +contextual (maxDischargeDepth := 100) only [hs0, ↓tidy_ite, ↓State.put_tidy, ↓State.record_tidy, ↓State.setReg_tidy]

theorem execDramTrainingDone_tidy (chan : Fin 16) (ok : Bool) (drfm : Bool) (s : State) (hs0 : Tidy s) :
    Tidies (execDramTrainingDone chan ok drfm s) := by
  unfold execDramTrainingDone
  simp +contextual (maxDischargeDepth := 100) only [hs0, ↓tidy_ite, ↓State.put_tidy, ↓State.putB_tidy, ↓State.record_tidy, ↓State.t1Check_tidy, ↓tidies_core]

theorem State.chanLost_tidy (s : State) (c : Nat) (hs0 : Tidy s) :
    Tidy (State.chanLost s c) := by
  unfold State.chanLost
  try dsimp only
  repeat' first
    | with_reducible assumption
    | with_reducible refine State.recoverLine_tidy _ _ _ ?_
    | with_reducible refine State.releaseFrame_tidy _ _ ?_
    | with_reducible refine State.unwrite_tidy _ _ _ ?_
    | with_reducible refine State.updFrame_tidy _ _ _ ?_
    | refine tidy_ite ?_ ?_
    | split
    | with_reducible refine foldl_tidy _ _ _ ?_ (fun s a h => ?_)

theorem execWarmRestoreDone_tidy (failed : BitVec 16) (s : State) (hs0 : Tidy s) :
    Tidies (execWarmRestoreDone failed s) := by
  unfold execWarmRestoreDone
  simp +contextual (maxDischargeDepth := 100) only [hs0, ↓tidy_ite, ↓foldl_tidy, implies_true, ↓State.chanLost_tidy, ↓State.payDebt_tidy, ↓State.put_tidy, ↓State.record_tidy, ↓State.settle_tidy, ↓State.t1Check_tidy, ↓tidies_core]

theorem execDmcChannelEmptied_tidy (chan : Fin 16) (s : State) (hs0 : Tidy s) :
    Tidies (execDmcChannelEmptied chan s) := by
  unfold execDmcChannelEmptied
  try dsimp only
  repeat' first
    | with_reducible assumption
    | with_reducible refine State.put_tidy _ _ _ ?_
    | with_reducible refine State.record_tidy _ _ _ _ _ _ ?_
    | with_reducible refine State.releaseFrame_tidy _ _ ?_
    | with_reducible refine State.settle_tidy _ ?_
    | with_reducible refine State.t1Shrink_tidy _ ?_
    | with_reducible refine State.unwrite_tidy _ _ _ ?_
    | with_reducible refine State.updChan_tidy _ _ _ ?_
    | with_reducible refine State.updFrame_tidy _ _ _ ?_
    | with_reducible refine tidy_regs ?_
    | with_reducible refine tidy_t1 ?_
    | with_reducible refine tidy_t2 ?_
    | with_reducible refine tidy_cf ?_
    | refine tidy_ite ?_ ?_
    | split
    | with_reducible refine foldl_tidy _ _ _ ?_ (fun s a h => ?_)
    | with_reducible refine tidies_core ?_ ?_
    | with_reducible refine tidy_mk ?_ ?_ ?_ ?_

/-! ### Ecc.lean -/

theorem State.scrubLine_tidy (s : State) (writeback : Bool) (errs : List (Nat × BitVec 80)) (t : Tally) (line : Nat) (hs0 : Tidy s) :
    Tidy (State.scrubLine s writeback errs t line).1 := by
  unfold State.scrubLine
  simp +contextual (maxDischargeDepth := 100) only [hs0, ↓tidy_ite, ↓tidy_ite1, ↓foldl_tidy, implies_true, ↓State.readLine_tidy, ↓State.t1Write_tidy]

theorem State.scrubT1_tidy (s : State) (writeback : Bool) (errs : List (Nat × BitVec 80)) (lines : List Nat) (hs0 : Tidy s) :
    Tidy (State.scrubT1 s writeback errs lines).1 := by
  unfold State.scrubT1
  simp +contextual (maxDischargeDepth := 100) only [hs0, ↓foldl_tidy1, implies_true, ↓State.scrubLine_tidy]

theorem State.scrubT0_tidy (s : State) (errs : List (Nat × BitVec 80)) (stop : Option Nat) (hs0 : Tidy s) :
    Tidy (State.scrubT0 s errs stop).1 := by
  unfold State.scrubT0
  repeat' first
    | assumption
    | simp +contextual (maxDischargeDepth := 100) only [hs0]
    | refine tidy_ite1 ?_ ?_
    | split
    | with_reducible refine State.t0Word_tidy _ _ _ _ ?_
    | refine foldl_tidy1 _ _ _ ?_ (fun s a h => ?_)

theorem State.contextBad_tidy (s : State) (n : Nat) (hs0 : Tidy s) :
    Tidy (State.contextBad s n) := by
  unfold State.contextBad
  simp +contextual (maxDischargeDepth := 100) only [hs0, ↓State.count_tidy, ↓State.enterError_tidy, ↓State.record_tidy]

theorem State.scrubCtx_tidy (s : State) (errs : List (Nat × BitVec 80)) (stop : Option Nat) (hs0 : Tidy s) :
    Tidy (State.scrubCtx s errs stop).1 := by
  unfold State.scrubCtx
  simp +contextual (maxDischargeDepth := 100) only [hs0, ↓tidy_ite1, ↓foldl_tidy1, implies_true, ↓State.contextBad_tidy, ↓State.count_tidy]

theorem State.summary_tidy (s : State) (t : Tally) (hs0 : Tidy s) :
    Tidy (State.summary s t) := by
  unfold State.summary
  simp +contextual (maxDischargeDepth := 100) only [hs0, ↓State.setReg_tidy, ↓State.setReg64_tidy]

theorem State.scrubStart_tidy (s : State) (target : Nat) (writeback : Bool) (hs0 : Tidy s) :
    Tidy (State.scrubStart s target writeback) := by
  unfold State.scrubStart
  simp +contextual (maxDischargeDepth := 100) only [hs0, ↓tidy_mk, tidy_regs, tidy_t1, tidy_t2, tidy_cf, ↓tidy_ite, ↓State.put_tidy, ↓State.setReg_tidy, ↓State.summary_tidy]

theorem State.scrubRun_tidy (s : State) (errs : List (Nat × BitVec 80)) (stop : Option Nat) (hs0 : Tidy s) :
    Tidy (State.scrubRun s errs stop) := by
  unfold State.scrubRun
  split <;> simp +contextual (maxDischargeDepth := 100) only [hs0, ↓tidy_mk, tidy_regs, tidy_t1, tidy_t2, tidy_cf, ↓tidy_ite1, ↓State.put_tidy, ↓State.record_tidy, ↓State.scrubCtx_tidy, ↓State.scrubT0_tidy, ↓State.scrubT1_tidy, ↓State.settle_tidy, ↓State.summary_tidy]

theorem execScrubStart_tidy (target : Fin 4) (writeback : Bool) (s : State) (hs0 : Tidy s) :
    Tidies (execScrubStart target writeback s) := by
  unfold execScrubStart
  simp +contextual (maxDischargeDepth := 100) only [hs0, ↓State.scrubStart_tidy, ↓tidies_core]

theorem execScrubAbort_tidy (at_ : Nat) (errs : List (Nat × BitVec 80)) (s : State) (hs0 : Tidy s) :
    Tidies (execScrubAbort at_ errs s) := by
  unfold execScrubAbort
  simp +contextual (maxDischargeDepth := 100) only [hs0, ↓tidy_ite, ↓State.put_tidy, ↓State.scrubRun_tidy, ↓tidies_core]

theorem execScrubPassDone_tidy (errs : List (Nat × BitVec 80)) (s : State) (hs0 : Tidy s) :
    Tidies (execScrubPassDone errs s) := by
  unfold execScrubPassDone
  simp +contextual (maxDischargeDepth := 100) only [hs0, ↓tidy_ite, ↓State.put_tidy, ↓State.scrubRun_tidy, ↓tidies_core]

theorem execPatrolPassDone_tidy (home : Fin 2) (errs : List (Nat × BitVec 80)) (s : State) (hs0 : Tidy s) :
    Tidies (execPatrolPassDone home errs s) := by
  unfold execPatrolPassDone
  simp +contextual (maxDischargeDepth := 100) only [hs0, ↓tidy_ite, ↓State.put_tidy, ↓State.record_tidy, ↓State.scrubT1_tidy, ↓State.setRegBit_tidy, ↓State.settle_tidy, ↓tidies_core]

theorem State.remapLoad_tidy (s : State) (c : Nat) (entry : Nat) (sub : Nat) (la : BitVec 32) (word : Nat) (hs0 : Tidy s) :
    Tidy (State.remapLoad s c entry sub la word) := by
  unfold State.remapLoad
  simp +contextual (maxDischargeDepth := 100) only [hs0, ↓tidy_ite, ↓State.remapSet_tidy]

theorem execRemapLoad_tidy (chan : Fin 16) (entry : Fin 16) (sub : Fin 2) (line : BitVec 32) (word : Fin 8) (s : State) (hs0 : Tidy s) :
    Tidies (execRemapLoad chan entry sub line word s) := by
  unfold execRemapLoad
  simp +contextual (maxDischargeDepth := 100) only [hs0, ↓State.remapLoad_tidy, ↓tidies_core]

theorem State.remapClear_tidy (s : State) (c : Nat) (entry : Nat) (hs0 : Tidy s) :
    Tidy (State.remapClear s c entry) := by
  unfold State.remapClear
  simp +contextual (maxDischargeDepth := 100) only [hs0, ↓State.updChan_tidy]

theorem execRemapClear_tidy (chan : Fin 16) (entry : Fin 16) (s : State) (hs0 : Tidy s) :
    Tidies (execRemapClear chan entry s) := by
  unfold execRemapClear
  simp +contextual (maxDischargeDepth := 100) only [hs0, ↓State.remapClear_tidy, ↓tidies_core]

theorem State.clogPop_tidy (s : State) (hs0 : Tidy s) :
    Tidy (State.clogPop s) := by
  unfold State.clogPop
  split <;> simp +contextual (maxDischargeDepth := 100) only [hs0, ↓tidy_mk, tidy_regs, tidy_t1, tidy_t2, tidy_cf]

theorem execClogRead_tidy (s : State) (hs0 : Tidy s) :
    Tidies (execClogRead s) := by
  unfold execClogRead
  simp +contextual (maxDischargeDepth := 100) only [hs0, ↓State.clogPop_tidy, ↓tidies_core]

end Sys2Proof.Machine
end

