-- ==== Sys2Proof/Laws/TidyUnits.lean ====
section
/-! SUPPORT. Sys2Proof/Laws/TidyUnits.lean: the colony, Amber and the debug unit, SEAL and the code flash keep the
canonical forms: one lemma for each operation. -/

namespace Sys2Proof.Machine

/-! ### Colony.lean -/

theorem State.fromMember_tidy (s : State) (x : ColHdr) (go : Nat → ColMember → State → State) (hs0 : Tidy s) (h_go : ∀ a0 a1 a2, Tidy a2 → Tidy (go a0 a1 a2)) :
    Tidy (State.fromMember s x go) := by
  unfold State.fromMember
  repeat' first
    | assumption
    | simp +contextual (maxDischargeDepth := 100) only [hs0, ↓State.wake_tidy, ↓h_go]
    | refine tidy_ite ?_ ?_
    | split

theorem State.fromParent_tidy (s : State) (x : ColHdr) (go : State → State) (hs0 : Tidy s) (h_go : ∀ a0, Tidy a0 → Tidy (go a0)) :
    Tidy (State.fromParent s x go) := by
  unfold State.fromParent
  simp +contextual (maxDischargeDepth := 100) only [hs0, ↓tidy_ite, ↓State.updCol_tidy, ↓State.wake_tidy, ↓h_go]

theorem State.colTake_tidy (s : State) (txn : Nat) (hs0 : Tidy s) :
    Tidy (State.colTake s txn).2 := by
  unfold State.colTake
  simp +contextual (maxDischargeDepth := 100) only [hs0, ↓State.updCol_tidy]

theorem State.answered_tidy (s : State) (txn : Nat) (go : ColReq → State → State) (hs0 : Tidy s) (h_go : ∀ a0 a1, Tidy a1 → Tidy (go a0 a1)) :
    Tidy (State.answered s txn go) := by
  unfold State.answered
  split
  · next r s' h =>
    refine h_go _ _ ?_
    have := State.colTake_tidy s txn hs0
    rw [h] at this
    exact this
  · exact hs0

theorem State.joinIn_tidy (s : State) (x : ColHdr) (j : ColJoin) (hs0 : Tidy s) :
    Tidy (State.joinIn s x j) := by
  unfold State.joinIn
  repeat' first
    | assumption
    | simp +contextual (maxDischargeDepth := 100) only [hs0, ↓tidy_ite, ↓State.colAnswer_tidy, ↓State.colCounts_tidy, ↓State.record_tidy, ↓State.updCol_tidy, ↓State.wake_tidy]
    | refine tidy_ite ?_ ?_
    | split

theorem execJoin_tidy (x : ColHdr) (j : ColJoin) (s : State) (hs0 : Tidy s) :
    Tidies (execJoin x j s) := by
  unfold execJoin
  simp +contextual (maxDischargeDepth := 100) only [hs0, ↓State.joinIn_tidy, ↓tidies_core]

theorem execJoinAck_tidy (x : ColHdr) (accepted : Bool) (index : Fin 64) (path : BitVec 48) (depth : Fin 9) (s : State) (hs0 : Tidy s) :
    Tidies (execJoinAck x accepted index path depth s) := by
  unfold execJoinAck
  repeat' split
  all_goals simp +contextual (maxDischargeDepth := 100) only [hs0, implies_true, ↓State.answered_tidy, ↓State.askBlock_tidy, ↓State.fromParent_tidy, ↓State.put_tidy, ↓State.record_tidy, ↓State.setReg_tidy, ↓tidies_core]

theorem execColonyHealth_tidy (x : ColHdr) (m : ColHealth) (s : State) (hs0 : Tidy s) :
    Tidies (execColonyHealth x m s) := by
  unfold execColonyHealth
  simp +contextual (maxDischargeDepth := 100) only [hs0, implies_true, ↓State.colAnswer_tidy, ↓State.colCounts_tidy, ↓State.fromMember_tidy, ↓State.updCol_tidy, ↓tidies_core]

theorem execCreate_tidy (x : ColHdr) (r : ColCreate) (s : State) (hs0 : Tidy s) :
    Tidies (execCreate x r s) := by
  unfold execCreate
  try dsimp only
  repeat' first
    | with_reducible assumption
    | with_reducible refine State.askBlock_tidy _ ?_
    | with_reducible refine State.blocksLow_tidy _ ?_
    | with_reducible refine State.colAnswer_tidy _ _ _ _ ?_
    | with_reducible refine State.createAt_tidy _ _ _ _ _ ?_
    | with_reducible refine State.fromParent_tidy _ _ _ ?_ ?_
    | split
    | with_reducible refine tidy_of_some (by assumption) (State.makeRegion_tidy _ _ _ ?_)
    | with_reducible refine tidies_core ?_ ?_
    | with_reducible intro _

theorem execCreateAck_tidy (x : ColHdr) (made : Option (BitVec 32 × Fin 2 × BitVec 128)) (s : State) (hs0 : Tidy s) :
    Tidies (execCreateAck x made s) := by
  unfold execCreateAck
  try dsimp only
  repeat' first
    | with_reducible assumption
    | with_reducible refine State.answered_tidy _ _ _ ?_ ?_
    | with_reducible refine State.colAnswer_tidy _ _ _ _ ?_
    | with_reducible refine State.createAt_tidy _ _ _ _ _ ?_
    | with_reducible refine State.fromMember_tidy _ _ _ ?_ ?_
    | with_reducible refine State.okCap_tidy _ _ _ ?_
    | with_reducible refine State.redirect_tidy _ _ _ _ ?_
    | with_reducible refine State.settle_tidy _ ?_
    | with_reducible refine State.updCol_tidy _ _ ?_
    | split
    | with_reducible refine tidies_core ?_ ?_
    | with_reducible intro _

theorem State.noteBlocks_tidy (s : State) (m : ColMember) (bs : List Nat) (hs0 : Tidy s) :
    Tidy (State.noteBlocks s m bs) := by
  unfold State.noteBlocks
  simp +contextual (maxDischargeDepth := 100) only [hs0, ↓State.updCol_tidy]

theorem execBlockReq_tidy (x : ColHdr) (n : Nat) (s : State) (hs0 : Tidy s) :
    Tidies (execBlockReq x n s) := by
  unfold execBlockReq
  simp +contextual (maxDischargeDepth := 100) only [hs0, ↓tidy_ite, implies_true, ↓State.colAnswer_tidy, ↓State.colSend_tidy, ↓State.fromMember_tidy, ↓State.noteBlocks_tidy, ↓tidies_core]

theorem execBlockGrant_tidy (x : ColHdr) (blocks : List (Fin 1024)) (s : State) (hs0 : Tidy s) :
    Tidies (execBlockGrant x blocks s) := by
  unfold execBlockGrant
  try dsimp only
  repeat' first
    | with_reducible assumption
    | with_reducible refine State.answered_tidy _ _ _ ?_ ?_
    | with_reducible refine State.colAnswer_tidy _ _ _ _ ?_
    | with_reducible refine State.fromParent_tidy _ _ _ ?_ ?_
    | with_reducible refine State.noteBlocks_tidy _ _ _ ?_
    | with_reducible refine State.updCol_tidy _ _ ?_
    | split
    | with_reducible refine tidies_core ?_ ?_
    | with_reducible intro _

theorem execKeyReport_tidy (x : ColHdr) (keys : List (Nat × Bool)) (destroyed : List Nat) (s : State) (hs0 : Tidy s) :
    Tidies (execKeyReport x keys destroyed s) := by
  unfold execKeyReport
  simp +contextual (maxDischargeDepth := 100) only [hs0, ↓tidy_ite, implies_true, ↓State.colAnswer_tidy, ↓State.colSend_tidy, ↓State.fromMember_tidy, ↓State.updCol_tidy, ↓tidies_core]

theorem execPdSync_tidy (x : ColHdr) (entries : List (Fin 65536 × Bool × Bool × Fin 256 × BitVec 64)) (s : State) (hs0 : Tidy s) :
    Tidies (execPdSync x entries s) := by
  unfold execPdSync
  simp +contextual (maxDischargeDepth := 100) only [hs0, ↓tidy_ite, ↓foldl_tidy, implies_true, ↓State.colAnswer_tidy, ↓State.colSend_tidy, ↓State.fromParent_tidy, ↓State.setPd_tidy, ↓tidies_core]

theorem execColonyAck_tidy (x : ColHdr) (s : State) (hs0 : Tidy s) :
    Tidies (execColonyAck x s) := by
  unfold execColonyAck
  repeat' first
    | assumption
    | simp +contextual (maxDischargeDepth := 100) only [hs0, ↓tidy_ite, implies_true, ↓State.okCap_tidy, ↓State.put_tidy, ↓State.settle_tidy, ↓State.updCol_tidy, ↓tidies_core]
    | refine tidy_ite ?_ ?_
    | split
    | with_reducible refine State.answered_tidy _ _ _ ?_ ?_
    | refine tidies_next ?_
    | intro _

theorem execColonyResendTimeout_tidy (txn : Nat) (s : State) (hs0 : Tidy s) :
    Tidies (execColonyResendTimeout txn s) := by
  unfold execColonyResendTimeout
  repeat' split
  all_goals simp +contextual (maxDischargeDepth := 100) only [hs0, ↓tidy_ite, ↓State.createAt_tidy, ↓State.emit_tidy, ↓State.put_tidy, ↓State.record_tidy, ↓State.settle_tidy, ↓State.updCol_tidy, ↓tidies_core]

theorem execColonyHealthTimer_tidy (s : State) (hs0 : Tidy s) :
    Tidies (execColonyHealthTimer s) := by
  unfold execColonyHealthTimer
  simp +contextual (maxDischargeDepth := 100) only [hs0, ↓tidy_ite, ↓State.colSend_tidy, ↓tidies_core]

theorem execMemberLostTimeout_tidy (index : Fin 64) (s : State) (hs0 : Tidy s) :
    Tidies (execMemberLostTimeout index s) := by
  unfold execMemberLostTimeout
  try dsimp only
  repeat' first
    | with_reducible assumption
    | with_reducible refine State.colCounts_tidy _ ?_
    | with_reducible refine State.colTake_tidy _ _ ?_
    | with_reducible refine State.createAt_tidy _ _ _ _ _ ?_
    | with_reducible refine State.record_tidy _ _ _ _ _ _ ?_
    | with_reducible refine State.settle_tidy _ ?_
    | with_reducible refine State.updCol_tidy _ _ ?_
    | split
    | with_reducible refine foldl_tidy _ _ _ ?_ (fun s a h => ?_)
    | with_reducible refine tidies_core ?_ ?_

/-! ### Amber.lean -/

theorem State.ambFill_tidy (s : State) (x : AmbSlot) (hs0 : Tidy s) :
    Tidy (State.ambFill s x) := by
  unfold State.ambFill
  simp +contextual (maxDischargeDepth := 100) only [hs0, ↓tidy_mk, tidy_regs, tidy_t1, tidy_t2, tidy_cf, ↓tidy_ite, ↓State.record_tidy]

theorem State.ambProgram_tidy (s : State) (ok : Bool) (hs0 : Tidy s) :
    Tidy (State.ambProgram s ok) := by
  unfold State.ambProgram
  split <;> simp +contextual (maxDischargeDepth := 100) only [hs0, ↓tidy_mk, tidy_regs, tidy_t1, tidy_t2, tidy_cf, ↓tidy_ite, ↓State.ambFill_tidy, ↓State.ambLostDue_tidy]

theorem State.ambFlushAll_tidy (s : State) (hs0 : Tidy s) :
    Tidy (State.ambFlushAll s) := by
  unfold State.ambFlushAll
  simp +contextual (maxDischargeDepth := 100) only [hs0, ↓foldl_tidy, implies_true, ↓State.ambFlush_tidy, ↓State.ambProgram_tidy]

theorem execAmberFlushTimer_tidy (s : State) (hs0 : Tidy s) :
    Tidies (execAmberFlushTimer s) := by
  unfold execAmberFlushTimer
  simp +contextual (maxDischargeDepth := 100) only [hs0, ↓tidy_ite, ↓State.ambFlush_tidy, ↓tidies_next]

theorem execAmberFlushAge_tidy (s : State) (hs0 : Tidy s) :
    Tidies (execAmberFlushAge s) := by
  unfold execAmberFlushAge
  simp +contextual (maxDischargeDepth := 100) only [hs0, ↓State.ambFlush_tidy, ↓tidies_next]

theorem execAmberFlush_tidy (s : State) (hs0 : Tidy s) :
    Tidies (execAmberFlush s) := by
  unfold execAmberFlush
  simp +contextual (maxDischargeDepth := 100) only [hs0, ↓State.ambFlush_tidy, ↓tidies_next]

theorem execAmberRecordProgrammed_tidy (ok : Bool) (s : State) (hs0 : Tidy s) :
    Tidies (execAmberRecordProgrammed ok s) := by
  unfold execAmberRecordProgrammed
  simp +contextual (maxDischargeDepth := 100) only [hs0, ↓State.ambProgram_tidy, ↓tidies_next]

theorem execHoursStoreTimer_tidy (s : State) (hs0 : Tidy s) :
    Tidies (execHoursStoreTimer s) := by
  unfold execHoursStoreTimer
  simp +contextual (maxDischargeDepth := 100) only [hs0, ↓tidy_mk, tidy_regs, tidy_t1, tidy_t2, tidy_cf, ↓tidies_next]

theorem State.ambFind_tidy (s : State) (hs0 : Tidy s) :
    Tidy (State.ambFind s) := by
  unfold State.ambFind
  simp +contextual (maxDischargeDepth := 100) only [hs0, ↓State.setReg_tidy]

theorem execAmberFind_tidy (s : State) (hs0 : Tidy s) :
    Tidies (execAmberFind s) := by
  unfold execAmberFind
  simp +contextual (maxDischargeDepth := 100) only [hs0, ↓State.ambFind_tidy, ↓tidies_next]

theorem State.dbgChallenge_tidy (s : State) (hs0 : Tidy s) :
    Tidy (State.dbgChallenge s) := by
  unfold State.dbgChallenge
  simp +contextual (maxDischargeDepth := 100) only [hs0, ↓tidy_mk, tidy_regs, tidy_t1, tidy_t2, tidy_cf, ↓foldl_tidy, implies_true, ↓State.draw_tidy, ↓State.setReg_tidy]

theorem execDbgChallenge_tidy (s : State) (hs0 : Tidy s) :
    Tidies (execDbgChallenge s) := by
  unfold execDbgChallenge
  simp +contextual (maxDischargeDepth := 100) only [hs0, ↓State.dbgChallenge_tidy, ↓tidies_next]

theorem State.dbgResult_tidy (s : State) (r : Nat) (hs0 : Tidy s) :
    Tidy (State.dbgResult s r) := by
  unfold State.dbgResult
  simp +contextual (maxDischargeDepth := 100) only [hs0, ↓State.put_tidy]

theorem State.dbgAuth_tidy (s : State) (path : Path) (purpose : Byte) (go : Bool → State → State) (hs0 : Tidy s) (h_go : ∀ a0 a1, Tidy a1 → Tidy (go a0 a1)) :
    Tidy (State.dbgAuth s path purpose go) := by
  unfold State.dbgAuth
  split <;> simp +contextual (maxDischargeDepth := 100) only [hs0, ↓tidy_mk, tidy_regs, tidy_t1, tidy_t2, tidy_cf, ↓tidy_ite, ↓State.dbgResult_tidy, ↓State.put_tidy, ↓State.record_tidy, ↓h_go]

theorem State.dbgUnlock_tidy (s : State) (path : Path) (hs0 : Tidy s) :
    Tidy (State.dbgUnlock s path) := by
  unfold State.dbgUnlock
  simp +contextual (maxDischargeDepth := 100) only [hs0, implies_true, ↓State.dbgAuth_tidy, ↓State.putB_tidy, ↓State.record_tidy]

theorem execDbgUnlock_tidy (path : Path) (s : State) (hs0 : Tidy s) :
    Tidies (execDbgUnlock path s) := by
  unfold execDbgUnlock
  simp +contextual (maxDischargeDepth := 100) only [hs0, ↓State.dbgUnlock_tidy, ↓tidies_next]

theorem State.dbgClear_tidy (s : State) (path : Path) (hs0 : Tidy s) :
    Tidy (State.dbgClear s path) := by
  unfold State.dbgClear
  repeat' split
  all_goals simp +contextual (maxDischargeDepth := 100) only [hs0, ↓tidy_mk, tidy_regs, tidy_t1, tidy_t2, tidy_cf, implies_true, ↓State.ambFlushAll_tidy, ↓State.ambStage_tidy, ↓State.dbgAuth_tidy, ↓State.dbgResult_tidy, ↓State.setEvt_tidy]

theorem execDbgClear_tidy (path : Path) (s : State) (hs0 : Tidy s) :
    Tidies (execDbgClear path s) := by
  unfold execDbgClear
  simp +contextual (maxDischargeDepth := 100) only [hs0, ↓State.dbgClear_tidy, ↓tidies_next]

theorem State.ambCleared_tidy (s : State) (hs0 : Tidy s) :
    Tidy (State.ambCleared s) := by
  unfold State.ambCleared
  simp +contextual (maxDischargeDepth := 100) only [hs0, ↓tidy_mk, tidy_regs, tidy_t1, tidy_t2, tidy_cf, ↓State.ambFlush_tidy, ↓State.setReg_tidy]

theorem execAmberClearDone_tidy (s : State) (hs0 : Tidy s) :
    Tidies (execAmberClearDone s) := by
  unfold execAmberClearDone
  simp +contextual (maxDischargeDepth := 100) only [hs0, ↓tidy_ite, ↓State.ambCleared_tidy, ↓tidies_next]

theorem State.dbgProvision_tidy (s : State) (path : Path) (hs0 : Tidy s) :
    Tidy (State.dbgProvision s path) := by
  unfold State.dbgProvision
  split <;> simp +contextual (maxDischargeDepth := 100) only [hs0, ↓tidy_mk, tidy_regs, tidy_t1, tidy_t2, tidy_cf, ↓tidy_ite, ↓State.dbgResult_tidy]

theorem execDbgProvision_tidy (path : Path) (s : State) (hs0 : Tidy s) :
    Tidies (execDbgProvision path s) := by
  unfold execDbgProvision
  simp +contextual (maxDischargeDepth := 100) only [hs0, ↓State.dbgProvision_tidy, ↓tidies_next]

theorem execTrstN_tidy (s : State) (hs0 : Tidy s) :
    Tidies (execTrstN s) := by
  unfold execTrstN
  simp +contextual (maxDischargeDepth := 100) only [hs0, ↓tidy_mk, tidy_regs, tidy_t1, tidy_t2, tidy_cf, ↓tidies_next]

/-! ### Seal.lean -/

theorem State.loadSlot_tidy (s : State) (n : Nat) (k : KeySlot) (hs0 : Tidy s) :
    Tidy (State.loadSlot s n k) := by
  unfold State.loadSlot
  simp +contextual (maxDischargeDepth := 100) only [hs0, ↓tidy_mk, tidy_regs, tidy_t1, tidy_t2, tidy_cf, ↓State.record_tidy]

theorem State.clearSlot_tidy (s : State) (n : Nat) (hs0 : Tidy s) :
    Tidy (State.clearSlot s n) := by
  unfold State.clearSlot
  simp +contextual (maxDischargeDepth := 100) only [hs0, ↓tidy_mk, tidy_regs, tidy_t1, tidy_t2, tidy_cf, ↓State.record_tidy]

theorem State.noteForeign_tidy (s : State) (hs0 : Tidy s) :
    Tidy (State.noteForeign s) := by
  unfold State.noteForeign
  simp +contextual (maxDischargeDepth := 100) only [hs0, ↓State.put_tidy, ↓State.record_tidy]

theorem State.sealClaim_tidy (s : State) (p : Path) (hs0 : Tidy s) :
    Tidy (State.sealClaim s p) := by
  unfold State.sealClaim
  simp +contextual (maxDischargeDepth := 100) only [hs0, ↓tidy_ite, ↓State.put_tidy]

theorem State.zeroRegs_tidy (s : State) (a : Nat) (n : Nat) (hs0 : Tidy s) :
    Tidy (State.zeroRegs s a n) := by
  unfold State.zeroRegs
  simp +contextual (maxDischargeDepth := 100) only [hs0, ↓foldl_tidy, implies_true, ↓State.setReg_tidy]

theorem State.zeroBuf_tidy (s : State) (hs0 : Tidy s) :
    Tidy (State.zeroBuf s) := by
  unfold State.zeroBuf
  simp +contextual (maxDischargeDepth := 100) only [hs0, ↓tidy_mk, tidy_regs, tidy_t1, tidy_t2, tidy_cf, swf_filter]

theorem State.sealRelease_tidy (s : State) (hs0 : Tidy s) :
    Tidy (State.sealRelease s) := by
  unfold State.sealRelease
  simp +contextual (maxDischargeDepth := 100) only [hs0, ↓tidy_mk, tidy_regs, tidy_t1, tidy_t2, tidy_cf, ↓tidy_ite, ↓State.put_tidy, ↓State.setReg_tidy, ↓State.zeroBuf_tidy, ↓State.zeroRegs_tidy]

theorem execSealLockClaim_tidy (path : Path) (s : State) (hs0 : Tidy s) :
    Tidies (execSealLockClaim path s) := by
  unfold execSealLockClaim
  simp +contextual (maxDischargeDepth := 100) only [hs0, ↓State.sealClaim_tidy, ↓tidies_core]

theorem State.sealGiveUp_tidy (s : State) (p : Path) (hs0 : Tidy s) :
    Tidy (State.sealGiveUp s p) := by
  unfold State.sealGiveUp
  simp +contextual (maxDischargeDepth := 100) only [hs0, ↓tidy_ite, ↓State.sealRelease_tidy]

theorem execSealLockRelease_tidy (path : Path) (s : State) (hs0 : Tidy s) :
    Tidies (execSealLockRelease path s) := by
  unfold execSealLockRelease
  simp +contextual (maxDischargeDepth := 100) only [hs0, ↓State.sealGiveUp_tidy, ↓tidies_core]

theorem execSealLockTimeout_tidy (s : State) (hs0 : Tidy s) :
    Tidies (execSealLockTimeout s) := by
  unfold execSealLockTimeout
  simp +contextual (maxDischargeDepth := 100) only [hs0, ↓tidy_ite, ↓State.record_tidy, ↓State.sealRelease_tidy, ↓tidies_core]

theorem State.setSealBytes_tidy (s : State) (bs : List Byte) (hs0 : Tidy s) :
    Tidy (State.setSealBytes s bs) := by
  unfold State.setSealBytes
  simp +contextual (maxDischargeDepth := 100) only [hs0, ↓foldl_tidy, implies_true, ↓State.setReg_tidy]

theorem State.sealStart_tidy (s : State) (p : Path) (job : SealJob) (hs0 : Tidy s) :
    Tidy (State.sealStart s p job) := by
  unfold State.sealStart
  simp +contextual (maxDischargeDepth := 100) only [hs0, ↓tidy_mk, tidy_regs, tidy_t1, tidy_t2, tidy_cf, ↓tidy_ite, ↓State.noteForeign_tidy, ↓State.put_tidy]

theorem State.sealOp_tidy (s : State) (p : Path) (op : Nat) (slot : Nat) (hs0 : Tidy s) :
    Tidy (State.sealOp s p op slot) := by
  unfold State.sealOp
  simp +contextual (maxDischargeDepth := 100) only [hs0, ↓State.sealStart_tidy]

theorem execUnseal_tidy (path : Path) (s : State) (hs0 : Tidy s) :
    Tidies (execUnseal path s) := by
  unfold execUnseal
  simp +contextual (maxDischargeDepth := 100) only [hs0, ↓State.sealStart_tidy, ↓tidies_core]

theorem execLoadPlain_tidy (path : Path) (s : State) (hs0 : Tidy s) :
    Tidies (execLoadPlain path s) := by
  unfold execLoadPlain
  simp +contextual (maxDischargeDepth := 100) only [hs0, ↓State.sealStart_tidy, ↓tidies_core]

theorem execSealClear_tidy (path : Path) (s : State) (hs0 : Tidy s) :
    Tidies (execSealClear path s) := by
  unfold execSealClear
  simp +contextual (maxDischargeDepth := 100) only [hs0, ↓State.sealStart_tidy, ↓tidies_core]

theorem execGcmEnc_tidy (path : Path) (slot : BitVec 16) (s : State) (hs0 : Tidy s) :
    Tidies (execGcmEnc path slot s) := by
  unfold execGcmEnc
  simp +contextual (maxDischargeDepth := 100) only [hs0, ↓State.sealStart_tidy, ↓tidies_core]

theorem execGcmDec_tidy (path : Path) (slot : BitVec 16) (s : State) (hs0 : Tidy s) :
    Tidies (execGcmDec path slot s) := by
  unfold execGcmDec
  simp +contextual (maxDischargeDepth := 100) only [hs0, ↓State.sealStart_tidy, ↓tidies_core]

theorem execKwWrap_tidy (path : Path) (slot : BitVec 16) (s : State) (hs0 : Tidy s) :
    Tidies (execKwWrap path slot s) := by
  unfold execKwWrap
  simp +contextual (maxDischargeDepth := 100) only [hs0, ↓State.sealStart_tidy, ↓tidies_core]

theorem execKwUnwrap_tidy (path : Path) (slot : BitVec 16) (s : State) (hs0 : Tidy s) :
    Tidies (execKwUnwrap path slot s) := by
  unfold execKwUnwrap
  simp +contextual (maxDischargeDepth := 100) only [hs0, ↓State.sealStart_tidy, ↓tidies_core]

theorem execKwpWrap_tidy (path : Path) (slot : BitVec 16) (s : State) (hs0 : Tidy s) :
    Tidies (execKwpWrap path slot s) := by
  unfold execKwpWrap
  simp +contextual (maxDischargeDepth := 100) only [hs0, ↓State.sealStart_tidy, ↓tidies_core]

theorem execKwpUnwrap_tidy (path : Path) (slot : BitVec 16) (s : State) (hs0 : Tidy s) :
    Tidies (execKwpUnwrap path slot s) := by
  unfold execKwpUnwrap
  simp +contextual (maxDischargeDepth := 100) only [hs0, ↓State.sealStart_tidy, ↓tidies_core]

theorem execCmacGen_tidy (path : Path) (slot : BitVec 16) (s : State) (hs0 : Tidy s) :
    Tidies (execCmacGen path slot s) := by
  unfold execCmacGen
  simp +contextual (maxDischargeDepth := 100) only [hs0, ↓State.sealStart_tidy, ↓tidies_core]

theorem execCmacVer_tidy (path : Path) (slot : BitVec 16) (s : State) (hs0 : Tidy s) :
    Tidies (execCmacVer path slot s) := by
  unfold execCmacVer
  simp +contextual (maxDischargeDepth := 100) only [hs0, ↓State.sealStart_tidy, ↓tidies_core]

theorem execProvisionRoot_tidy (path : Path) (s : State) (hs0 : Tidy s) :
    Tidies (execProvisionRoot path s) := by
  unfold execProvisionRoot
  simp +contextual (maxDischargeDepth := 100) only [hs0, ↓State.sealStart_tidy, ↓tidies_core]

theorem State.sealApply_tidy (s : State) (j : SealJob) (hs0 : Tidy s) :
    Tidy (State.sealApply s j) := by
  unfold State.sealApply
  extract_lets s1 s2 s3 s4 s5 s0 s6 s7 s8
  have h1 : Tidy s1 := by
    simp only [s1]
    split
    · exact State.setSealBytes_tidy _ _ hs0
    · exact hs0
  have h2 : Tidy s2 := by
    simp only [s2]
    split
    · exact foldl_tidy _ _ _ h1 (fun s a h => State.setReg_tidy _ _ _ h)
    · exact h1
  have h3 : Tidy s3 := by
    simp only [s3]
    split
    · exact State.setReg_tidy _ _ _ h2
    · exact h2
  have h4 : Tidy s4 := by
    simp only [s4]
    split
    · next n k _ =>
      have h := State.loadSlot_tidy s3 n k h3
      exact tidy_ite (tidy_mk h.regs h.t1 h.t2 h.cf) h
    · exact h3
  have h5 : Tidy s5 := by
    simp only [s5]
    split
    · exact tidy_ite (State.clearSlot_tidy _ _ h4) h4
    · exact h4
  have h6 : Tidy s6 := by
    simp only [s6]
    split
    · exact tidy_ite h5 (State.record_tidy _ _ _ _ _ _ (tidy_mk h5.regs h5.t1 h5.t2 h5.cf))
    · exact h5
  have h7 : Tidy s7 := tidy_ite (State.count_tidy _ _ h6) h6
  have h8 : Tidy s8 := tidy_ite (State.record_tidy _ _ _ _ _ _ h7) h7
  exact tidy_ite (State.record_tidy _ _ _ _ _ _ h8) h8

theorem execSealOpDone_tidy (s : State) (hs0 : Tidy s) :
    Tidies (execSealOpDone s) := by
  unfold execSealOpDone
  repeat' first
    | split
    | simp +contextual (maxDischargeDepth := 100) only [hs0, ↓tidy_mk, tidy_regs, tidy_t1, tidy_t2, tidy_cf, ↓State.count_tidy, ↓State.put_tidy, ↓State.sealApply_tidy, ↓tidies_core]

theorem State.unsealStored_tidy (s : State) (hs0 : Tidy s) :
    Tidy (State.unsealStored s) := by
  unfold State.unsealStored
  simp +contextual (maxDischargeDepth := 100) only [hs0, ↓tidy_ite, ↓foldl_tidy, implies_true, ↓State.loadSlot_tidy]

/-! ### CodeFlash.lean -/

theorem State.cfStore_tidy (s : State) (a : Nat) (bs : List Byte) (hs0 : Tidy s) :
    Tidy (State.cfStore s a bs) := by
  unfold State.cfStore
  simp +contextual (maxDischargeDepth := 100) only [hs0, ↓tidy_mk, tidy_regs, tidy_t1, tidy_t2, tidy_cf, Memory.wf_memWrite]

theorem State.cfErased_tidy (s : State) (sec : Nat) (hs0 : Tidy s) :
    Tidy (State.cfErased s sec) := by
  unfold State.cfErased
  simp +contextual (maxDischargeDepth := 100) only [hs0, ↓tidy_mk, tidy_regs, tidy_t1, tidy_t2, tidy_cf, ↓State.count_tidy, Memory.wf_memClear]

theorem State.cfErr_tidy (s : State) (e : Nat) (hs0 : Tidy s) :
    Tidy (State.cfErr s e) := by
  unfold State.cfErr
  simp +contextual (maxDischargeDepth := 100) only [hs0, ↓State.put_tidy]

theorem State.cfGate_tidy (s : State) (p : Path) (go : Nat → State) (hs0 : Tidy s) (h_go : ∀ a0, Tidy (go a0)) :
    Tidy (State.cfGate s p go) := by
  unfold State.cfGate
  simp +contextual (maxDischargeDepth := 100) only [hs0, ↓tidy_ite, ↓State.cfErr_tidy, ↓h_go]

theorem State.cfBegin_tidy (s : State) (o : CfOp) (hs0 : Tidy s) :
    Tidy (State.cfBegin s o) := by
  unfold State.cfBegin
  simp +contextual (maxDischargeDepth := 100) only [hs0, ↓tidy_mk, tidy_regs, tidy_t1, tidy_t2, tidy_cf, ↓State.cfErr_tidy, ↓State.put_tidy]

theorem State.cfProgram_tidy (s : State) (p : Path) (hs0 : Tidy s) :
    Tidy (State.cfProgram s p) := by
  unfold State.cfProgram
  simp +contextual (maxDischargeDepth := 100) only [hs0, ↓tidy_ite, implies_true, ↓State.cfBegin_tidy, ↓State.cfErr_tidy, ↓State.cfGate_tidy]

theorem State.cfErase_tidy (s : State) (p : Path) (hs0 : Tidy s) :
    Tidy (State.cfErase s p) := by
  unfold State.cfErase
  simp +contextual (maxDischargeDepth := 100) only [hs0, ↓tidy_mk, tidy_regs, tidy_t1, tidy_t2, tidy_cf, implies_true, ↓State.cfBegin_tidy, ↓State.cfGate_tidy]

theorem State.cfSuspend_tidy (s : State) (hs0 : Tidy s) :
    Tidy (State.cfSuspend s) := by
  unfold State.cfSuspend
  split <;> simp +contextual (maxDischargeDepth := 100) only [hs0, ↓tidy_mk, tidy_regs, tidy_t1, tidy_t2, tidy_cf, ↓tidy_ite, ↓State.cfErr_tidy, ↓State.count_tidy, ↓State.put_tidy]

theorem State.cfResume_tidy (s : State) (hs0 : Tidy s) :
    Tidy (State.cfResume s) := by
  unfold State.cfResume
  split <;> simp +contextual (maxDischargeDepth := 100) only [hs0, ↓tidy_mk, tidy_regs, tidy_t1, tidy_t2, tidy_cf, ↓State.cfErr_tidy, ↓State.put_tidy]

theorem State.cfRead_tidy (s : State) (ecc : Nat) (hs0 : Tidy s) :
    Tidy (State.cfRead s ecc) := by
  unfold State.cfRead
  simp +contextual (maxDischargeDepth := 100) only [hs0, ↓tidy_ite, ↓tidy_ite1, ↓State.cfErr_tidy, ↓State.count_tidy, ↓State.draw_tidy, ↓State.put_tidy, ↓State.record_tidy, ↓State.setReg_tidy]

theorem State.cfCmd_tidy (s : State) (p : Path) (op : Nat) (hs0 : Tidy s) :
    Tidy (State.cfCmd s p op) := by
  unfold State.cfCmd
  repeat' split
  all_goals simp +contextual (maxDischargeDepth := 100) only [hs0, ↓State.cfErase_tidy, ↓State.cfErr_tidy, ↓State.cfProgram_tidy, ↓State.cfRead_tidy, ↓State.cfResume_tidy, ↓State.cfSuspend_tidy]

theorem execCflProgram_tidy (path : Path) (s : State) (hs0 : Tidy s) :
    Tidies (execCflProgram path s) := by
  unfold execCflProgram
  simp +contextual (maxDischargeDepth := 100) only [hs0, ↓State.cfProgram_tidy, ↓tidies_core]

theorem execCflErase_tidy (path : Path) (s : State) (hs0 : Tidy s) :
    Tidies (execCflErase path s) := by
  unfold execCflErase
  simp +contextual (maxDischargeDepth := 100) only [hs0, ↓State.cfErase_tidy, ↓tidies_core]

theorem execCflSuspend_tidy (path : Path) (s : State) (hs0 : Tidy s) :
    Tidies (execCflSuspend path s) := by
  unfold execCflSuspend
  simp +contextual (maxDischargeDepth := 100) only [hs0, ↓tidy_ite, ↓State.cfErr_tidy, ↓State.cfSuspend_tidy, ↓tidies_core]

theorem execCflResume_tidy (path : Path) (s : State) (hs0 : Tidy s) :
    Tidies (execCflResume path s) := by
  unfold execCflResume
  simp +contextual (maxDischargeDepth := 100) only [hs0, ↓tidy_ite, ↓State.cfErr_tidy, ↓State.cfResume_tidy, ↓tidies_core]

theorem execCflRead_tidy (path : Path) (ecc : Fin 3) (s : State) (hs0 : Tidy s) :
    Tidies (execCflRead path ecc s) := by
  unfold execCflRead
  simp +contextual (maxDischargeDepth := 100) only [hs0, ↓tidy_ite, ↓State.cfErr_tidy, ↓State.cfRead_tidy, ↓tidies_core]

theorem State.cfIdle_tidy (s : State) (hs0 : Tidy s) :
    Tidy (State.cfIdle s) := by
  unfold State.cfIdle
  simp +contextual (maxDischargeDepth := 100) only [hs0, ↓tidy_mk, tidy_regs, tidy_t1, tidy_t2, tidy_cf, ↓State.put_tidy]

theorem execCflProgramDone_tidy (ok : Bool) (s : State) (hs0 : Tidy s) :
    Tidies (execCflProgramDone ok s) := by
  unfold execCflProgramDone
  split <;> simp +contextual (maxDischargeDepth := 100) only [hs0, ↓tidy_mk, tidy_regs, tidy_t1, tidy_t2, tidy_cf, ↓tidy_ite, ↓State.cfErr_tidy, ↓State.cfIdle_tidy, ↓State.cfStore_tidy, ↓State.count_tidy, ↓tidies_core]

theorem execCflEraseDone_tidy (s : State) (hs0 : Tidy s) :
    Tidies (execCflEraseDone s) := by
  unfold execCflEraseDone
  split <;> simp +contextual (maxDischargeDepth := 100) only [hs0, ↓State.cfErased_tidy, ↓State.cfIdle_tidy, ↓tidies_core]

theorem execCflEraseIdleResume_tidy (s : State) (hs0 : Tidy s) :
    Tidies (execCflEraseIdleResume s) := by
  unfold execCflEraseIdleResume
  split <;> simp +contextual (maxDischargeDepth := 100) only [hs0, ↓State.cfResume_tidy, ↓tidies_core]

theorem execCflBrownout_tidy (low : Bool) (s : State) (hs0 : Tidy s) :
    Tidies (execCflBrownout low s) := by
  unfold execCflBrownout
  repeat' first
    | simp +contextual (maxDischargeDepth := 100) only [hs0, ↓State.cfIdle_tidy, ↓State.count_tidy, ↓State.put_tidy, ↓State.record_tidy, ↓tidies_next]
    | split

theorem State.programSelect_tidy (s : State) (typ : Nat) (slot : Nat) (hs0 : Tidy s) :
    Tidy (State.programSelect s typ slot) := by
  unfold State.programSelect
  extract_lets sq p s1
  have h1 : Tidy s1 := by
    simp only [s1]
    split
    · exact State.cfErased_tidy _ _ hs0
    · exact hs0
  exact State.count_tidy _ _ (State.cfStore_tidy _ _ _ h1)

end Sys2Proof.Machine
end

