-- ==== Sys2Proof/Laws/TidyPower.lean ====
section
/-! SUPPORT. Sys2Proof/Laws/TidyPower.lean: start-up, power, identity, hold-up and the governor keep the
canonical forms: one lemma for each operation. -/

namespace Sys2Proof.Machine

/-! ### Apply.lean -/

theorem State.pdToMembers_tidy (s : State) (n : Nat) (hs0 : Tidy s) :
    Tidy (State.pdToMembers s n) := by
  unfold State.pdToMembers
  simp +contextual (maxDischargeDepth := 100) only [hs0, ↓tidy_ite, ↓foldl_tidy, implies_true, ↓State.colSend_tidy]

theorem State.pdHalves_tidy (s : State) (n : Nat) (p : Pd) (hs0 : Tidy s) :
    Tidy (State.pdHalves s n p) := by
  unfold State.pdHalves
  split <;> simp +contextual (maxDischargeDepth := 100) only [hs0, ↓State.pdToMembers_tidy, ↓State.setPd_tidy]

theorem State.quotaRefused_tidy (s : State) (hs0 : Tidy s) :
    Tidy (State.quotaRefused s) := by
  unfold State.quotaRefused
  simp +contextual (maxDischargeDepth := 100) only [hs0, ↓State.put_tidy, ↓State.record_tidy]

theorem State.applyQuota_tidy (s : State) (t : Nat) (v : Nat) (hs0 : Tidy s) :
    Tidy (State.applyQuota s t v) := by
  unfold State.applyQuota
  simp +contextual (maxDischargeDepth := 100) only [hs0, ↓tidy_mk, tidy_regs, tidy_t1, tidy_t2, tidy_cf, ↓tidy_ite, ↓State.quotaRefused_tidy]

theorem State.applyTransient_tidy (s : State) (v : BitVec 32) (hs0 : Tidy s) :
    Tidy (State.applyTransient s v) := by
  unfold State.applyTransient
  simp +contextual (maxDischargeDepth := 100) only [hs0, ↓tidy_ite, ↓State.quotaRefused_tidy, ↓State.setReg_tidy]

theorem State.applyPortMode_tidy (s : State) (p : Nat) (v : BitVec 32) (hs0 : Tidy s) :
    Tidy (State.applyPortMode s p v) := by
  unfold State.applyPortMode
  simp +contextual (maxDischargeDepth := 100) only [hs0, ↓tidy_ite, ↓State.putB_tidy, ↓State.record_tidy, ↓State.setReg_tidy, ↓State.updPort_tidy]

theorem State.makeDirectory_tidy (s : State) (hs0 : Tidy s) :
    Tidy (State.makeDirectory s) := by
  unfold State.makeDirectory
  simp +contextual (maxDischargeDepth := 100) only [hs0, ↓tidy_mk, tidy_regs, tidy_t1, tidy_t2, tidy_cf, ↓tidy_ite, ↓State.noteRegion_tidy]

theorem State.applyColCtrl_tidy (s : State) (v : BitVec 32) (hs0 : Tidy s) :
    Tidy (State.applyColCtrl s v) := by
  unfold State.applyColCtrl
  simp +contextual (maxDischargeDepth := 100) only [hs0, ↓tidy_ite, ↓State.emit_tidy, ↓State.makeDirectory_tidy, ↓State.put_tidy, ↓State.setReg_tidy]

theorem State.applyTwnCtrl_tidy (s : State) (v : BitVec 32) (hs0 : Tidy s) :
    Tidy (State.applyTwnCtrl s v) := by
  unfold State.applyTwnCtrl
  simp +contextual (maxDischargeDepth := 100) only [hs0, ↓tidy_ite, ↓foldl_tidy, implies_true, ↓State.leaseOff_tidy, ↓State.leaseOn_tidy, ↓State.setReg_tidy]

theorem State.loadStandbyPins_tidy (s : State) (hs0 : Tidy s) : Tidy (State.loadStandbyPins s) := by
  unfold State.loadStandbyPins
  simp +contextual (maxDischargeDepth := 100) only [hs0, ↓State.loadGranules_tidy]

theorem State.applyTierCtrl_tidy (s : State) (v : BitVec 32) (hs0 : Tidy s) :
    Tidy (State.applyTierCtrl s v) := by
  unfold State.applyTierCtrl
  simp +contextual (maxDischargeDepth := 100) only [hs0, ↓foldl_tidy, implies_true, ↓tidy_ite, ↓State.loadStandbyPins_tidy, ↓State.parisonNext_tidy, ↓State.setReg_tidy]

theorem State.setData_tidy (s : State) (a : Nat) (v : BitVec 32) (hs0 : Tidy s) :
    Tidy (State.setData s a v) := by
  unfold State.setData
  split <;> simp +contextual (maxDischargeDepth := 100) only [hs0, ↓State.setReg_tidy]

theorem State.applyReg_tidy (s : State) (x : Staged) (hs0 : Tidy s) :
    Tidy (State.applyReg s x) := by
  unfold State.applyReg
  try dsimp only
  repeat' first
    | with_reducible assumption
    | with_reducible refine State.applyColCtrl_tidy _ _ ?_
    | with_reducible refine State.applyPortMode_tidy _ _ _ ?_
    | with_reducible refine State.applyQuota_tidy _ _ _ ?_
    | with_reducible refine State.applyTierCtrl_tidy _ _ ?_
    | with_reducible refine State.applyTransient_tidy _ _ ?_
    | with_reducible refine State.applyTwnCtrl_tidy _ _ ?_
    | with_reducible refine State.pdHalves_tidy _ _ _ ?_
    | with_reducible refine State.pdToMembers_tidy _ _ ?_
    | with_reducible refine State.put_tidy _ _ _ ?_
    | with_reducible refine State.setData_tidy _ _ _ ?_
    | with_reducible refine State.setPd_tidy _ _ _ ?_
    | with_reducible refine State.setReg_tidy _ _ _ ?_
    | with_reducible refine tidy_regs ?_
    | with_reducible refine tidy_t1 ?_
    | with_reducible refine tidy_t2 ?_
    | with_reducible refine tidy_cf ?_
    | refine tidy_ite ?_ ?_
    | split
    | with_reducible refine tidy_mk ?_ ?_ ?_ ?_

theorem State.applyAll_tidy (s : State) (set : List Staged) (hs0 : Tidy s) :
    Tidy (State.applyAll s set) := by
  unfold State.applyAll
  repeat' split
  all_goals simp +contextual (maxDischargeDepth := 100) only [hs0, ↓foldl_tidy, implies_true, ↓State.applyReg_tidy]

theorem State.storeSet_tidy (s : State) (set : List Staged) (hs0 : Tidy s) :
    Tidy (State.storeSet s set) := by
  unfold State.storeSet
  simp +contextual (maxDischargeDepth := 100) only [hs0, ↓tidy_mk, tidy_regs, tidy_t1, tidy_t2, tidy_cf]

/-! ### Boot.lean -/

theorem State.alertSettle_tidy (s : State) (hs0 : Tidy s) :
    Tidy (State.alertSettle s) := by
  unfold State.alertSettle
  simp +contextual (maxDischargeDepth := 100) only [hs0, ↓tidy_mk, tidy_regs, tidy_t1, tidy_t2, tidy_cf, ↓tidy_ite]

theorem State.coreReset_tidy (s : State) (warm : Bool) (hs0 : Tidy s) :
    Tidy (State.coreReset s warm) := by
  unfold State.coreReset
  extract_lets s1 up caps gr f0 c0 p0 m0 t1 t2 t3
  have h1 : Tidy s1 := State.interruptTests_tidy _ _ hs0
  have ht1 : Tidy t1 := by
    refine tidy_mk (swf_filter _ _ _ h1.regs) ?_ h1.t2 h1.cf
    split
    · exact h1.t1
    · rfl
  have ht2 : Tidy t2 := State.putB_tidy _ _ _ ht1
  have ht3 : Tidy t3 := by
    refine tidy_ite (foldl_tidy _ _ _ ht2 (fun s a h => ?_)) ht2
    exact State.put_tidy _ _ _ (State.setReg_tidy _ _ _ (State.setReg_tidy _ _ _ h))
  exact State.alertSettle_tidy _ (State.setRegBit_tidy _ _ _ _ ht3)

theorem State.bootSelect_tidy (s : State) (hs0 : Tidy s) :
    Tidy (State.bootSelect s).1 := by
  unfold State.bootSelect
  simp +contextual (maxDischargeDepth := 100) only [hs0, ↓tidy_ite, ↓tidy_ite1, ↓State.programSelect_tidy, ↓State.put_tidy, ↓State.putB_tidy, ↓State.record_tidy, ↓State.setReg_tidy]

theorem State.coreRelease_tidy (s : State) (hs0 : Tidy s) :
    Tidy (State.coreRelease s) := by
  unfold State.coreRelease
  simp +contextual (maxDischargeDepth := 100) only [hs0, ↓tidy_mk, tidy_regs, tidy_t1, tidy_t2, tidy_cf, ↓tidy_ite, ↓State.draw_tidy, ↓State.lcEnable_tidy, ↓State.mopDone_tidy, ↓State.mopStart_tidy, ↓State.put_tidy, ↓State.putB_tidy, ↓State.record_tidy, ↓State.unsealStored_tidy]

theorem State.bootRom_tidy (s : State) (hs0 : Tidy s) :
    Tidy (State.bootRom s) := by
  unfold State.bootRom
  split
  · exact hs0
  · extract_lets s1 s2 r
    have h1 : Tidy s1 := State.putB_tidy _ _ _ (State.put_tidy _ _ _ hs0)
    have h2 : Tidy s2 := foldl_tidy _ _ _ h1 (fun s a h => State.record_tidy _ _ _ _ _ _ h)
    have hr : Tidy r.1 := State.bootSelect_tidy _ (State.put_tidy _ _ _ h2)
    clear_value r
    split
    · exact State.record_tidy _ _ _ _ _ _ (State.put_tidy _ _ _ hr)
    · exact State.coreRelease_tidy _ (State.record_tidy _ _ _ _ _ _ (State.setReg64_tidy _ _ _ _ hr))

theorem execImageConfirmTimer_tidy (s : State) (hs0 : Tidy s) :
    Tidies (execImageConfirmTimer s) := by
  unfold execImageConfirmTimer
  simp +contextual (maxDischargeDepth := 100) only [hs0, ↓tidy_mk, tidy_regs, tidy_t1, tidy_t2, tidy_cf, ↓tidy_ite, ↓State.programSelect_tidy, ↓State.put_tidy, ↓State.record_tidy, ↓tidies_core]

theorem State.surveyChan_tidy (s : State) (dimms : List Dimm) (c : Nat) (hs0 : Tidy s) :
    Tidy (State.surveyChan s dimms c) := by
  unfold State.surveyChan
  simp +contextual (maxDischargeDepth := 100) only [hs0, ↓tidy_ite, ↓foldl_tidy, implies_true, ↓State.put_tidy, ↓State.record_tidy, ↓State.setReg_tidy]

theorem State.busFirst_tidy (s : State) (seg : Nat) (branch : Nat) (hs0 : Tidy s) :
    Tidy (State.busFirst s seg branch) := by
  unfold State.busFirst
  simp +contextual (maxDischargeDepth := 100) only [hs0, ↓tidy_mk, tidy_regs, tidy_t1, tidy_t2, tidy_cf, ↓tidy_ite, ↓State.count_tidy]

theorem State.surveyClears_tidy (s : State) (hs0 : Tidy s) :
    Tidy (State.surveyClears s) := by
  unfold State.surveyClears
  simp +contextual (maxDischargeDepth := 100) only [hs0, ↓tidy_ite, ↓foldl_tidy, implies_true, ↓State.busFirst_tidy]

theorem State.survey_tidy (s : State) (dimms : List Dimm) (carriers : List (Fin 16 × Option (List Byte))) (module_ : Option (List Byte)) (cable : Option (List Byte)) (hs0 : Tidy s) :
    Tidy (State.survey s dimms carriers module_ cable) := by
  unfold State.survey
  repeat' split
  all_goals simp +contextual (maxDischargeDepth := 100) only [hs0, ↓tidy_mk, tidy_regs, tidy_t1, tidy_t2, tidy_cf, ↓tidy_ite, ↓foldl_tidy, implies_true, ↓State.put_tidy, ↓State.record_tidy, ↓State.setReg_tidy, ↓State.surveyChan_tidy, ↓State.surveyClears_tidy, ↓State.t1Check_tidy]

theorem execIdentitySurveyDone_tidy (dimms : List Dimm) (carriers : List (Fin 16 × Option (List Byte))) (module_ : Option (List Byte)) (cable : Option (List Byte)) (s : State) (hs0 : Tidy s) :
    Tidies (execIdentitySurveyDone dimms carriers module_ cable s) := by
  unfold execIdentitySurveyDone
  simp +contextual (maxDischargeDepth := 100) only [hs0, ↓tidy_ite, ↓State.survey_tidy, ↓tidies_core]

theorem State.format_tidy (s : State) (hs0 : Tidy s) :
    Tidy (State.format s) := by
  unfold State.format
  simp +contextual (maxDischargeDepth := 100) only [hs0, ↓tidy_mk, tidy_regs, tidy_t1, tidy_t2, tidy_cf, ↓tidy_ite, ↓foldl_tidy, implies_true, ↓State.markBlocks_tidy, ↓State.setReg_tidy]

theorem State.makeMetaKey_tidy (s : State) (hs0 : Tidy s) :
    Tidy (State.makeMetaKey s) := by
  unfold State.makeMetaKey
  simp +contextual (maxDischargeDepth := 100) only [hs0, ↓tidy_mk, tidy_regs, tidy_t1, tidy_t2, tidy_cf, ↓State.loadSlot_tidy]

theorem State.replay_tidy (s : State) (hs0 : Tidy s) :
    Tidy (State.replay s) := by
  unfold State.replay
  simp +contextual (maxDischargeDepth := 100) only [hs0, ↓tidy_mk, tidy_regs, tidy_t1, tidy_t2, tidy_cf, ↓foldl_tidy, implies_true, ↓State.commitEntry_tidy]

theorem State.closeOpen_tidy (s : State) (hs0 : Tidy s) :
    Tidy (State.closeOpen s) := by
  unfold State.closeOpen
  simp +contextual (maxDischargeDepth := 100) only [hs0, ↓foldl_tidy, implies_true, ↓State.markBlocks_tidy, ↓State.setSb_tidy]

theorem State.eraseIncomplete_tidy (s : State) (hs0 : Tidy s) :
    Tidy (State.eraseIncomplete s) := by
  unfold State.eraseIncomplete
  simp +contextual (maxDischargeDepth := 100) only [hs0, ↓tidy_ite, ↓State.countBy_tidy, ↓State.markBlocks_tidy, ↓State.record_tidy]

theorem State.applyStored_tidy (s : State) (hs0 : Tidy s) :
    Tidy (State.applyStored s) := by
  unfold State.applyStored
  split <;> simp +contextual (maxDischargeDepth := 100) only [hs0, ↓tidy_mk, tidy_regs, tidy_t1, tidy_t2, tidy_cf, ↓State.applyAll_tidy]

theorem State.mounted_tidy (s : State) (torn : Nat) (ms : Nat) (hs0 : Tidy s) :
    Tidy (State.mounted s torn ms) := by
  unfold State.mounted
  simp +contextual (maxDischargeDepth := 100) only [hs0, ↓tidy_mk, tidy_regs, tidy_t1, tidy_t2, tidy_cf, ↓tidy_ite, ↓foldl_tidy, implies_true, ↓State.applyStored_tidy, ↓State.ckptDone_tidy, ↓State.ckptStart_tidy, ↓State.claimToken_tidy, ↓State.closeOpen_tidy, ↓State.countBy_tidy, ↓State.eraseIncomplete_tidy, ↓State.format_tidy, ↓State.put_tidy, ↓State.putB_tidy, ↓State.record_tidy, ↓State.replay_tidy, ↓State.setReg_tidy, ↓State.spaceCheck_tidy, ↓State.startup_tidy]

theorem execMountDone_tidy (torn : Nat) (durationMs : Nat) (s : State) (hs0 : Tidy s) :
    Tidies (execMountDone torn durationMs s) := by
  unfold execMountDone
  simp +contextual (maxDischargeDepth := 100) only [hs0, ↓tidy_ite, ↓State.makeMetaKey_tidy, ↓State.mounted_tidy, ↓tidies_core]

theorem execKeysMissingTimer_tidy (s : State) (hs0 : Tidy s) :
    Tidies (execKeysMissingTimer s) := by
  unfold execKeysMissingTimer
  simp +contextual (maxDischargeDepth := 100) only [hs0, ↓tidy_ite, ↓State.record_tidy, ↓tidies_core]

/-! ### Power.lean -/

theorem State.updRail_tidy (s : State) (n : Nat) (f : Rail → Rail) (hs0 : Tidy s) :
    Tidy (State.updRail s n f) := by
  unfold State.updRail
  simp +contextual (maxDischargeDepth := 100) only [hs0, ↓tidy_mk, tidy_regs, tidy_t1, tidy_t2, tidy_cf]

theorem State.railEn_tidy (s : State) (n : Nat) (on : Bool) (hs0 : Tidy s) :
    Tidy (State.railEn s n on) := by
  unfold State.railEn
  simp +contextual (maxDischargeDepth := 100) only [hs0, ↓tidy_ite, ↓State.emit_tidy, ↓State.updRail_tidy]

theorem State.railOff_tidy (s : State) (n : Nat) (hs0 : Tidy s) :
    Tidy (State.railOff s n) := by
  unfold State.railOff
  simp +contextual (maxDischargeDepth := 100) only [hs0, ↓State.railEn_tidy, ↓State.setRegBit_tidy, ↓State.updRail_tidy]

theorem State.railQualify_tidy (s : State) (n : Nat) (hs0 : Tidy s) :
    Tidy (State.railQualify s n) := by
  unfold State.railQualify
  simp +contextual (maxDischargeDepth := 100) only [hs0, ↓tidy_ite, ↓State.setRegBit_tidy, ↓State.updRail_tidy]

theorem State.railFail_tidy (s : State) (n : Nat) (hs0 : Tidy s) :
    Tidy (State.railFail s n) := by
  unfold State.railFail
  simp +contextual (maxDischargeDepth := 100) only [hs0, ↓tidy_ite, ↓State.railEn_tidy, ↓State.record_tidy, ↓State.setRegBit_tidy, ↓State.updRail_tidy]

theorem State.storeTable_tidy (s : State) (hs0 : Tidy s) :
    Tidy (State.storeTable s) := by
  unfold State.storeTable
  simp +contextual (maxDischargeDepth := 100) only [hs0, ↓tidy_mk, tidy_regs, tidy_t1, tidy_t2, tidy_cf, ↓tidy_ite]

theorem State.loadTable_tidy (s : State) (hs0 : Tidy s) :
    Tidy (State.loadTable s) := by
  unfold State.loadTable
  split <;> simp +contextual (maxDischargeDepth := 100) only [hs0, ↓foldl_tidy, implies_true, ↓State.putB_tidy, ↓State.record_tidy, ↓State.setReg_tidy]

theorem State.seqDone_tidy (s : State) (hs0 : Tidy s) :
    Tidy (State.seqDone s) := by
  unfold State.seqDone
  simp +contextual (maxDischargeDepth := 100) only [hs0, ↓State.bootRom_tidy, ↓State.put_tidy, ↓State.record_tidy, ↓State.storeTable_tidy]

theorem State.phaseCheck_tidy (s : State) (hs0 : Tidy s) :
    Tidy (State.phaseCheck s) := by
  unfold State.phaseCheck
  simp +contextual (maxDischargeDepth := 100) only [hs0, ↓tidy_mk, tidy_regs, tidy_t1, tidy_t2, tidy_cf, ↓tidy_ite, ↓State.seqDone_tidy]

theorem State.beginPhase_tidy (s : State) (k : Nat) (hs0 : Tidy s) :
    Tidy (State.beginPhase s k) := by
  unfold State.beginPhase
  simp +contextual (maxDischargeDepth := 100) only [hs0, ↓tidy_mk, tidy_regs, tidy_t1, tidy_t2, tidy_cf, ↓tidy_ite, ↓foldl_tidy, implies_true, ↓State.phaseCheck_tidy, ↓State.put_tidy, ↓State.railEn_tidy, ↓State.railQualify_tidy, ↓State.updRail_tidy]

theorem State.startSeq_tidy (s : State) (hs0 : Tidy s) :
    Tidy (State.startSeq s) := by
  unfold State.startSeq
  simp +contextual (maxDischargeDepth := 100) only [hs0, ↓tidy_mk, tidy_regs, tidy_t1, tidy_t2, tidy_cf, ↓foldl_tidy, implies_true, ↓State.beginPhase_tidy, ↓State.put_tidy, ↓State.setReg_tidy]

theorem State.powerOn_tidy (s : State) (hs0 : Tidy s) :
    Tidy (State.powerOn s) := by
  unfold State.powerOn
  simp +contextual (maxDischargeDepth := 100) only [hs0, ↓tidy_mk, tidy_regs, tidy_t1, tidy_t2, tidy_cf, ↓tidy_ite, ↓State.setReg_tidy, ↓State.startSeq_tidy]

theorem State.quenchT0_tidy (s : State) (hs0 : Tidy s) :
    Tidy (State.quenchT0 s) := by
  unfold State.quenchT0
  simp +contextual (maxDischargeDepth := 100) only [hs0, ↓tidy_ite, ↓foldl_tidy, implies_true, ↓State.cleanLine_tidy]

theorem State.quenchFrame_tidy (s : State) (u : Nat) (hs0 : Tidy s) :
    Tidy (State.quenchFrame s u) := by
  unfold State.quenchFrame
  split <;> simp +contextual (maxDischargeDepth := 100) only [hs0, ↓tidy_ite, ↓State.commitUnit_tidy, ↓State.copyFrame_tidy]

theorem State.quenchT1_tidy (s : State) (hs0 : Tidy s) :
    Tidy (State.quenchT1 s) := by
  unfold State.quenchT1
  simp +contextual (maxDischargeDepth := 100) only [hs0, ↓tidy_mk, tidy_regs, tidy_t1, tidy_t2, tidy_cf, ↓foldl_tidy, implies_true, ↓State.quenchFrame_tidy]

theorem State.quenchJournal_tidy (s : State) (hs0 : Tidy s) :
    Tidy (State.quenchJournal s) := by
  unfold State.quenchJournal
  simp +contextual (maxDischargeDepth := 100) only [hs0, ↓tidy_mk, tidy_regs, tidy_t1, tidy_t2, tidy_cf, ↓tidy_ite, ↓foldl_tidy, implies_true, ↓State.journalPump_tidy]

theorem State.incomplete_tidy (s : State) (rs : List (Nat × Nat)) (hs0 : Tidy s) :
    Tidy (State.incomplete s rs) := by
  unfold State.incomplete
  simp +contextual (maxDischargeDepth := 100) only [hs0, ↓tidy_mk, tidy_regs, tidy_t1, tidy_t2, tidy_cf, ↓tidy_ite, ↓foldl_tidy, implies_true, ↓State.put_tidy, ↓State.record_tidy]

theorem State.standAll_tidy (s : State) (complete : Bool) (hs0 : Tidy s) :
    Tidy (State.standAll s complete) := by
  unfold State.standAll
  simp +contextual (maxDischargeDepth := 100) only [hs0, ↓tidy_ite, ↓foldl_tidy, implies_true, ↓State.standWrite_tidy]

theorem State.quenchAmber_tidy (s : State) (hs0 : Tidy s) :
    Tidy (State.quenchAmber s) := by
  unfold State.quenchAmber
  repeat' first
    | split
    | simp +contextual (maxDischargeDepth := 100) only [hs0, ↓tidy_mk, tidy_regs, tidy_t1, tidy_t2, tidy_cf, ↓State.ambFlushAll_tidy, ↓State.incomplete_tidy, ↓State.record_tidy, ↓State.standAll_tidy]

theorem State.phaseOff_tidy (s : State) (k : Nat) (hs0 : Tidy s) :
    Tidy (State.phaseOff s k) := by
  unfold State.phaseOff
  simp +contextual (maxDischargeDepth := 100) only [hs0, ↓foldl_tidy, implies_true, ↓State.railOff_tidy]

theorem State.offEnd_tidy (s : State) (hs0 : Tidy s) :
    Tidy (State.offEnd s) := by
  unfold State.offEnd
  split <;> simp +contextual (maxDischargeDepth := 100) only [hs0, ↓tidy_mk, tidy_regs, tidy_t1, tidy_t2, tidy_cf, ↓tidy_ite, ↓State.coreReset_tidy, ↓State.put_tidy]

theorem State.railsStep_tidy (s : State) (top : Nat) (hs0 : Tidy s) :
    Tidy (State.railsStep s top) := by
  unfold State.railsStep
  simp +contextual (maxDischargeDepth := 100) only [hs0, ↓tidy_mk, tidy_regs, tidy_t1, tidy_t2, tidy_cf, ↓tidy_ite, ↓State.offEnd_tidy, ↓State.phaseOff_tidy, ↓State.put_tidy]

theorem State.quenchBegin_tidy (s : State) (hs0 : Tidy s) :
    Tidy (State.quenchBegin s) := by
  unfold State.quenchBegin
  simp +contextual (maxDischargeDepth := 100) only [hs0, ↓tidy_mk, tidy_regs, tidy_t1, tidy_t2, tidy_cf]

theorem State.huAbort_tidy (s : State) (hs0 : Tidy s) :
    Tidy (State.huAbort s) := by
  unfold State.huAbort
  simp +contextual (maxDischargeDepth := 100) only [hs0, ↓tidy_mk, tidy_regs, tidy_t1, tidy_t2, tidy_cf, ↓tidy_ite, ↓foldl_tidy, implies_true, ↓State.put_tidy, ↓State.railEn_tidy]

theorem State.leaveIdle_tidy (s : State) (hs0 : Tidy s) :
    Tidy (State.leaveIdle s) := by
  unfold State.leaveIdle
  simp +contextual (maxDischargeDepth := 100) only [hs0, ↓tidy_ite, ↓foldl_tidy, implies_true, ↓State.put_tidy, ↓State.record_tidy]

theorem State.dropRoll_tidy (s : State) (hs0 : Tidy s) :
    Tidy (State.dropRoll s) := by
  unfold State.dropRoll
  simp +contextual (maxDischargeDepth := 100) only [hs0, ↓tidy_mk, tidy_regs, tidy_t1, tidy_t2, tidy_cf]

theorem State.shutdown_tidy (s : State) (cause : Nat) (timed : Bool) (hs0 : Tidy s) :
    Tidy (State.shutdown s cause timed) := by
  unfold State.shutdown
  simp +contextual (maxDischargeDepth := 100) only [hs0, ↓tidy_mk, tidy_regs, tidy_t1, tidy_t2, tidy_cf, ↓tidy_ite, ↓foldl_tidy, implies_true, ↓State.ambFlushAll_tidy, ↓State.beginHandover_tidy, ↓State.dropRoll_tidy, ↓State.huAbort_tidy, ↓State.incomplete_tidy, ↓State.leaveIdle_tidy, ↓State.put_tidy, ↓State.quenchBegin_tidy, ↓State.railsStep_tidy, ↓State.sealRelease_tidy, ↓State.stopHome_tidy]

theorem State.pfTrigger_tidy (s : State) (cause : Nat) (hs0 : Tidy s) :
    Tidy (State.pfTrigger s cause) := by
  unfold State.pfTrigger
  repeat' first
    | simp +contextual (maxDischargeDepth := 100) only [hs0, ↓tidy_mk, tidy_regs, tidy_t1, tidy_t2, tidy_cf, ↓tidy_ite, ↓State.count_tidy, ↓State.put_tidy, ↓State.record_tidy, ↓State.shutdown_tidy]
    | split

theorem State.quenchStep_tidy (s : State) (hs0 : Tidy s) :
    Tidy (State.quenchStep s) := by
  unfold State.quenchStep
  repeat' split
  all_goals simp +contextual (maxDischargeDepth := 100) only [hs0, ↓tidy_mk, tidy_regs, tidy_t1, tidy_t2, tidy_cf, ↓State.ckptDone_tidy, ↓State.ckptStart_tidy, ↓State.quenchAmber_tidy, ↓State.quenchJournal_tidy, ↓State.quenchT0_tidy, ↓State.quenchT1_tidy, ↓State.railsStep_tidy]

theorem execQuenchStepDone_tidy (s : State) (hs0 : Tidy s) :
    Tidies (execQuenchStepDone s) := by
  unfold execQuenchStepDone
  simp +contextual (maxDischargeDepth := 100) only [hs0, ↓State.quenchStep_tidy, ↓tidies_next]

theorem execQuenchCutoff_tidy (s : State) (hs0 : Tidy s) :
    Tidies (execQuenchCutoff s) := by
  unfold execQuenchCutoff
  split <;> simp +contextual (maxDischargeDepth := 100) only [hs0, ↓tidy_mk, tidy_regs, tidy_t1, tidy_t2, tidy_cf, ↓tidy_ite, ↓foldl_tidy, implies_true, ↓State.updHome_tidy, ↓tidies_next]

theorem execRailOffDelay_tidy (s : State) (hs0 : Tidy s) :
    Tidies (execRailOffDelay s) := by
  unfold execRailOffDelay
  split <;> simp +contextual (maxDischargeDepth := 100) only [hs0, ↓tidy_ite, ↓State.offEnd_tidy, ↓State.phaseOff_tidy, ↓State.put_tidy, ↓tidies_next]

theorem State.allOff_tidy (s : State) (hs0 : Tidy s) :
    Tidy (State.allOff s) := by
  unfold State.allOff
  simp +contextual (maxDischargeDepth := 100) only [hs0, ↓foldl_tidy, implies_true, ↓State.railOff_tidy]

theorem execShutdownDeadline_tidy (s : State) (hs0 : Tidy s) :
    Tidies (execShutdownDeadline s) := by
  unfold execShutdownDeadline
  split <;> simp +contextual (maxDischargeDepth := 100) only [hs0, ↓tidy_ite, ↓State.allOff_tidy, ↓State.incomplete_tidy, ↓State.offEnd_tidy, ↓tidies_next]

theorem execPfwNAsserted_tidy (s : State) (hs0 : Tidy s) :
    Tidies (execPfwNAsserted s) := by
  unfold execPfwNAsserted
  simp +contextual (maxDischargeDepth := 100) only [hs0, ↓State.pfTrigger_tidy, ↓State.put_tidy, ↓tidies_next]

theorem State.railFault_tidy (s : State) (n : Nat) (cause : Nat) (hs0 : Tidy s) :
    Tidy (State.railFault s n cause) := by
  unfold State.railFault
  simp +contextual (maxDischargeDepth := 100) only [hs0, ↓tidy_ite, ↓foldl_tidy, implies_true, ↓State.pfTrigger_tidy, ↓State.railEn_tidy, ↓State.record_tidy, ↓State.retireFch_tidy, ↓State.setRegBit_tidy, ↓State.updRail_tidy]

theorem execRailpgLow_tidy (rail : Fin 24) (s : State) (hs0 : Tidy s) :
    Tidies (execRailpgLow rail s) := by
  unfold execRailpgLow
  simp +contextual (maxDischargeDepth := 100) only [hs0, ↓tidy_ite, ↓State.railFault_tidy, ↓State.setRegBit_tidy, ↓tidies_next]

theorem execVsenseOutOfWindow_tidy (input : Fin 8) (code : BitVec 12) (s : State) (hs0 : Tidy s) :
    Tidies (execVsenseOutOfWindow input code s) := by
  unfold execVsenseOutOfWindow
  simp +contextual (maxDischargeDepth := 100) only [hs0, ↓tidy_ite, ↓State.railFault_tidy, ↓State.record_tidy, ↓State.setReg_tidy, ↓tidies_next]

theorem execPhaseBegin_tidy (s : State) (hs0 : Tidy s) :
    Tidies (execPhaseBegin s) := by
  unfold execPhaseBegin
  simp +contextual (maxDischargeDepth := 100) only [hs0, ↓tidy_ite, ↓State.beginPhase_tidy, ↓tidies_next]

theorem execRailTqualMet_tidy (rail : Fin 24) (s : State) (hs0 : Tidy s) :
    Tidies (execRailTqualMet rail s) := by
  unfold execRailTqualMet
  simp +contextual (maxDischargeDepth := 100) only [hs0, ↓tidy_ite, ↓State.phaseCheck_tidy, ↓State.railQualify_tidy, ↓tidies_next]

theorem execRailPhaseTimeout_tidy (s : State) (hs0 : Tidy s) :
    Tidies (execRailPhaseTimeout s) := by
  unfold execRailPhaseTimeout
  simp +contextual (maxDischargeDepth := 100) only [hs0, ↓tidy_ite, ↓foldl_tidy, implies_true, ↓State.phaseCheck_tidy, ↓State.railFail_tidy, ↓State.railQualify_tidy, ↓tidies_next]

theorem execQualificationRestart_tidy (rail : Fin 24) (s : State) (hs0 : Tidy s) :
    Tidies (execQualificationRestart rail s) := by
  unfold execQualificationRestart
  simp +contextual (maxDischargeDepth := 100) only [hs0, ↓tidy_ite, ↓State.count_tidy, ↓State.phaseCheck_tidy, ↓State.railFail_tidy, ↓State.updRail_tidy, ↓tidies_next]

theorem execPgGlitch_tidy (rail : Fin 24) (s : State) (hs0 : Tidy s) :
    Tidies (execPgGlitch rail s) := by
  unfold execPgGlitch
  simp +contextual (maxDischargeDepth := 100) only [hs0, ↓tidy_ite, ↓State.count_tidy, ↓tidies_next]

theorem State.cmdPowerOn_tidy (s : State) (hs0 : Tidy s) :
    Tidy (State.cmdPowerOn s) := by
  unfold State.cmdPowerOn
  simp +contextual (maxDischargeDepth := 100) only [hs0, ↓tidy_mk, tidy_regs, tidy_t1, tidy_t2, tidy_cf, ↓tidy_ite, ↓State.powerOn_tidy]

theorem execPowerOn_tidy (s : State) (hs0 : Tidy s) :
    Tidies (execPowerOn s) := by
  unfold execPowerOn
  simp +contextual (maxDischargeDepth := 100) only [hs0, ↓State.cmdPowerOn_tidy, ↓tidies_next]

theorem State.orderlyOff_tidy (s : State) (hs0 : Tidy s) :
    Tidy (State.orderlyOff s) := by
  unfold State.orderlyOff
  simp +contextual (maxDischargeDepth := 100) only [hs0, ↓tidy_ite, ↓State.shutdown_tidy]

theorem execOrderlyOff_tidy (s : State) (hs0 : Tidy s) :
    Tidies (execOrderlyOff s) := by
  unfold execOrderlyOff
  simp +contextual (maxDischargeDepth := 100) only [hs0, ↓State.orderlyOff_tidy, ↓tidies_next]

theorem execPfwRestartTimer_tidy (s : State) (hs0 : Tidy s) :
    Tidies (execPfwRestartTimer s) := by
  unfold execPfwRestartTimer
  simp +contextual (maxDischargeDepth := 100) only [hs0, ↓tidy_ite, ↓State.powerOn_tidy, ↓State.put_tidy, ↓tidies_next]

theorem State.warmDown_tidy (s : State) (cause : Nat) (hold : Bool) (hs0 : Tidy s) :
    Tidy (State.warmDown s cause hold) := by
  unfold State.warmDown
  simp +contextual (maxDischargeDepth := 100) only [hs0, ↓tidy_mk, tidy_regs, tidy_t1, tidy_t2, tidy_cf, ↓tidy_ite, ↓foldl_tidy, implies_true, ↓State.cleanLine_tidy, ↓State.coreReset_tidy, ↓State.dropTokens_tidy, ↓State.huAbort_tidy, ↓State.payDebt_tidy, ↓State.stopHome_tidy]

theorem State.warmUp_tidy (s : State) (hs0 : Tidy s) :
    Tidy (State.warmUp s) := by
  unfold State.warmUp
  simp +contextual (maxDischargeDepth := 100) only [hs0, ↓tidy_mk, tidy_regs, tidy_t1, tidy_t2, tidy_cf, ↓State.bootRom_tidy, ↓State.putB_tidy, ↓State.record_tidy, ↓State.setReg_tidy]

theorem State.warmReset_tidy (s : State) (cause : Nat) (hs0 : Tidy s) :
    Tidy (State.warmReset s cause) := by
  unfold State.warmReset
  simp +contextual (maxDischargeDepth := 100) only [hs0, ↓State.warmDown_tidy, ↓State.warmUp_tidy]

theorem execMrNAsserted_tidy (s : State) (hs0 : Tidy s) :
    Tidies (execMrNAsserted s) := by
  unfold execMrNAsserted
  simp +contextual (maxDischargeDepth := 100) only [hs0, ↓tidy_ite, ↓State.warmDown_tidy, ↓tidies_next]

theorem execMrNReleased_tidy (sideA : Bool) (s : State) (hs0 : Tidy s) :
    Tidies (execMrNReleased sideA s) := by
  unfold execMrNReleased
  simp +contextual (maxDischargeDepth := 100) only [hs0, ↓tidy_mk, tidy_regs, tidy_t1, tidy_t2, tidy_cf, ↓tidy_ite, ↓State.warmUp_tidy, ↓tidies_next]

theorem execSupervisorFatalFault_tidy (fetch : Option (BitVec 25)) (s : State) (hs0 : Tidy s) :
    Tidies (execSupervisorFatalFault fetch s) := by
  unfold execSupervisorFatalFault
  repeat' split
  all_goals simp +contextual (maxDischargeDepth := 100) only [hs0, ↓State.count_tidy, ↓State.record_tidy, ↓State.warmReset_tidy, ↓tidies_next]

theorem State.vaonLost_tidy (s : State) (hs0 : Tidy s) :
    Tidy (State.vaonLost s) := by
  unfold State.vaonLost
  have h := State.coreReset_tidy s false hs0
  exact tidy_mk rfl h.t1 h.t2 h.cf

theorem execVaonLoss_tidy (s : State) (hs0 : Tidy s) :
    Tidies (execVaonLoss s) := by
  unfold execVaonLoss
  simp +contextual (maxDischargeDepth := 100) only [hs0, ↓State.allOff_tidy, ↓State.vaonLost_tidy, ↓tidies_next]

theorem State.ambResume_tidy (s : State) (hs0 : Tidy s) :
    Tidy (State.ambResume s) := by
  unfold State.ambResume
  simp +contextual (maxDischargeDepth := 100) only [hs0, ↓tidy_mk, tidy_regs, tidy_t1, tidy_t2, tidy_cf, ↓tidy_ite, ↓State.ambCleared_tidy, ↓State.setReg_tidy]

theorem execVaonApplied_tidy (sideA : Bool) (madr : BitVec 3) (s : State) (hs0 : Tidy s) :
    Tidies (execVaonApplied sideA madr s) := by
  unfold execVaonApplied
  simp +contextual (maxDischargeDepth := 100) only [hs0, ↓tidy_mk, tidy_regs, tidy_t1, tidy_t2, tidy_cf, ↓State.allOff_tidy, ↓State.ambResume_tidy, ↓State.loadTable_tidy, ↓State.putB_tidy, ↓State.vaonLost_tidy, ↓tidies_next]

theorem execXaonSettled_tidy (s : State) (hs0 : Tidy s) :
    Tidies (execXaonSettled s) := by
  unfold execXaonSettled
  simp +contextual (maxDischargeDepth := 100) only [hs0, ↓tidy_mk, tidy_regs, tidy_t1, tidy_t2, tidy_cf, ↓tidy_ite, ↓State.powerOn_tidy, ↓tidies_next]

theorem State.wakeP3_tidy (s : State) (src : Nat) (hs0 : Tidy s) :
    Tidy (State.wakeP3 s src) := by
  unfold State.wakeP3
  simp +contextual (maxDischargeDepth := 100) only [hs0, ↓tidy_mk, tidy_regs, tidy_t1, tidy_t2, tidy_cf, ↓tidy_ite, ↓State.count_tidy, ↓State.put_tidy, ↓State.setReg_tidy, ↓State.startSeq_tidy]

theorem execPwrbtnShort_tidy (s : State) (hs0 : Tidy s) :
    Tidies (execPwrbtnShort s) := by
  unfold execPwrbtnShort
  simp +contextual (maxDischargeDepth := 100) only [hs0, ↓tidy_ite, ↓State.orderlyOff_tidy, ↓State.powerOn_tidy, ↓State.record_tidy, ↓State.wakeP3_tidy, ↓tidies_next]

theorem execPwrbtnLong_tidy (s : State) (hs0 : Tidy s) :
    Tidies (execPwrbtnLong s) := by
  unfold execPwrbtnLong
  simp +contextual (maxDischargeDepth := 100) only [hs0, ↓tidy_mk, tidy_regs, tidy_t1, tidy_t2, tidy_cf, ↓tidy_ite, ↓State.put_tidy, ↓State.record_tidy, ↓State.shutdown_tidy, ↓tidies_next]

/-! ### Identity.lean -/

theorem State.ibufPut_tidy (s : State) (bs : List Byte) (hs0 : Tidy s) :
    Tidy (State.ibufPut s bs) := by
  unfold State.ibufPut
  simp +contextual (maxDischargeDepth := 100) only [hs0, ↓foldl_tidy, implies_true, ↓State.setReg_tidy]

theorem State.idResult_tidy (s : State) (r : Nat) (hs0 : Tidy s) :
    Tidy (State.idResult s r) := by
  unfold State.idResult
  simp +contextual (maxDischargeDepth := 100) only [hs0, ↓State.put_tidy]

theorem State.identityGo_tidy (s : State) (hs0 : Tidy s) :
    Tidy (State.identityGo s) := by
  unfold State.identityGo
  simp +contextual (maxDischargeDepth := 100) only [hs0, ↓tidy_mk, tidy_regs, tidy_t1, tidy_t2, tidy_cf, ↓tidy_ite, ↓State.busFirst_tidy, ↓State.emit_tidy, ↓State.put_tidy]

theorem execIdentityGo_tidy (s : State) (hs0 : Tidy s) :
    Tidies (execIdentityGo s) := by
  unfold execIdentityGo
  simp +contextual (maxDischargeDepth := 100) only [hs0, ↓State.identityGo_tidy, ↓tidies_next]

theorem State.segStuck_tidy (s : State) (seg : Nat) (hs0 : Tidy s) :
    Tidy (State.segStuck s seg) := by
  unfold State.segStuck
  simp +contextual (maxDischargeDepth := 100) only [hs0, ↓tidy_mk, tidy_regs, tidy_t1, tidy_t2, tidy_cf, ↓tidy_ite, ↓State.put_tidy, ↓State.railOff_tidy, ↓State.record_tidy]

theorem execIdentityTransactionDone_tidy (result : Fin 8) (data : List Byte) (s : State) (hs0 : Tidy s) :
    Tidies (execIdentityTransactionDone result data s) := by
  unfold execIdentityTransactionDone
  split <;> simp +contextual (maxDischargeDepth := 100) only [hs0, ↓tidy_mk, tidy_regs, tidy_t1, tidy_t2, tidy_cf, ↓tidy_ite, ↓State.count_tidy, ↓State.ibufPut_tidy, ↓State.idResult_tidy, ↓State.put_tidy, ↓State.segStuck_tidy, ↓tidies_next]

theorem State.segCleared_tidy (s : State) (seg : Nat) (hs0 : Tidy s) :
    Tidy (State.segCleared s seg) := by
  unfold State.segCleared
  simp +contextual (maxDischargeDepth := 100) only [hs0, ↓State.put_tidy, ↓State.record_tidy]

theorem execSegmentRailCycle_tidy (cleared : Bool) (s : State) (hs0 : Tidy s) :
    Tidies (execSegmentRailCycle cleared s) := by
  unfold execSegmentRailCycle
  split <;> simp +contextual (maxDischargeDepth := 100) only [hs0, ↓tidy_mk, tidy_regs, tidy_t1, tidy_t2, tidy_cf, ↓tidy_ite, ↓State.count_tidy, ↓State.put_tidy, ↓State.railEn_tidy, ↓State.segCleared_tidy, ↓State.updRail_tidy, ↓tidies_next]

theorem execSdaLowWhileIdle_tidy (segment : Fin 4) (cleared : Bool) (s : State) (hs0 : Tidy s) :
    Tidies (execSdaLowWhileIdle segment cleared s) := by
  unfold execSdaLowWhileIdle
  simp +contextual (maxDischargeDepth := 100) only [hs0, ↓tidy_ite, ↓State.count_tidy, ↓State.segStuck_tidy, ↓tidies_next]

/-! ### HoldUp.lean -/

theorem State.put20_tidy (s : State) (a : Nat) (v : Nat) (hs0 : Tidy s) :
    Tidy (State.put20 s a v) := by
  unfold State.put20
  simp +contextual (maxDischargeDepth := 100) only [hs0, ↓State.setReg_tidy]

theorem State.setBudget_tidy (s : State) (b : Nat) (hs0 : Tidy s) :
    Tidy (State.setBudget s b) := by
  unfold State.setBudget
  simp +contextual (maxDischargeDepth := 100) only [hs0, ↓tidy_ite, ↓State.placeLate_tidy, ↓State.record_tidy, ↓State.setReg_tidy, ↓State.setRegBit_tidy, ↓State.settle_tidy]

theorem State.budgetNow_tidy (s : State) (hs0 : Tidy s) :
    Tidy (State.budgetNow s) := by
  unfold State.budgetNow
  simp +contextual (maxDischargeDepth := 100) only [hs0, ↓tidy_ite, ↓State.put20_tidy, ↓State.setBudget_tidy]

theorem execEnowTimer_tidy (mv : Nat) (s : State) (hs0 : Tidy s) :
    Tidies (execEnowTimer mv s) := by
  unfold execEnowTimer
  simp +contextual (maxDischargeDepth := 100) only [hs0, ↓tidy_mk, tidy_regs, tidy_t1, tidy_t2, tidy_cf, ↓State.budgetNow_tidy, ↓tidies_next]

theorem State.huStart_tidy (s : State) (hs0 : Tidy s) :
    Tidy (State.huStart s) := by
  unfold State.huStart
  simp +contextual (maxDischargeDepth := 100) only [hs0, ↓tidy_mk, tidy_regs, tidy_t1, tidy_t2, tidy_cf, ↓tidy_ite, ↓State.put_tidy, ↓State.setBudget_tidy]

theorem execHuTest_tidy (s : State) (hs0 : Tidy s) :
    Tidies (execHuTest s) := by
  unfold execHuTest
  simp +contextual (maxDischargeDepth := 100) only [hs0, ↓State.huStart_tidy, ↓tidies_next]

theorem execHuTestPeriod_tidy (s : State) (hs0 : Tidy s) :
    Tidies (execHuTestPeriod s) := by
  unfold execHuTestPeriod
  simp +contextual (maxDischargeDepth := 100) only [hs0, ↓tidy_ite, ↓State.huStart_tidy, ↓tidies_next]

theorem execHuVoltageStable_tidy (mv : Nat) (s : State) (hs0 : Tidy s) :
    Tidies (execHuVoltageStable mv s) := by
  unfold execHuVoltageStable
  simp +contextual (maxDischargeDepth := 100) only [hs0, ↓tidy_mk, tidy_regs, tidy_t1, tidy_t2, tidy_cf, ↓tidy_ite, ↓State.huStart_tidy, ↓tidies_next]

theorem execHuBudgetFits_tidy (v0 : Nat) (s : State) (hs0 : Tidy s) :
    Tidies (execHuBudgetFits v0 s) := by
  unfold execHuBudgetFits
  split <;> simp +contextual (maxDischargeDepth := 100) only [hs0, ↓tidy_mk, tidy_regs, tidy_t1, tidy_t2, tidy_cf, ↓tidy_ite, ↓State.railEn_tidy, ↓tidies_next]

theorem execHuSampleTimer_tidy (mv : Nat) (s : State) (hs0 : Tidy s) :
    Tidies (execHuSampleTimer mv s) := by
  unfold execHuSampleTimer
  split <;> simp +contextual (maxDischargeDepth := 100) only [hs0, ↓tidy_mk, tidy_regs, tidy_t1, tidy_t2, tidy_cf, ↓tidy_ite, ↓State.railEn_tidy, ↓tidies_next]

theorem execHuRecovered_tidy (mv : Nat) (s : State) (hs0 : Tidy s) :
    Tidies (execHuRecovered mv s) := by
  unfold execHuRecovered
  split <;> simp +contextual (maxDischargeDepth := 100) only [hs0, ↓tidy_mk, tidy_regs, tidy_t1, tidy_t2, tidy_cf, ↓tidy_ite, ↓State.budgetNow_tidy, ↓State.count_tidy, ↓State.put_tidy, ↓State.put20_tidy, ↓State.record_tidy, ↓State.startup_tidy, ↓tidies_next]

theorem execHuWaitLimit_tidy (s : State) (hs0 : Tidy s) :
    Tidies (execHuWaitLimit s) := by
  unfold execHuWaitLimit
  simp +contextual (maxDischargeDepth := 100) only [hs0, ↓tidy_mk, tidy_regs, tidy_t1, tidy_t2, tidy_cf, ↓tidy_ite, ↓State.record_tidy, ↓State.startup_tidy, ↓tidies_next]

/-! ### Governor.lean -/

theorem State.govApply_tidy (s : State) (hs0 : Tidy s) :
    Tidy (State.govApply s) := by
  unfold State.govApply
  simp +contextual (maxDischargeDepth := 100) only [hs0, ↓foldl_tidy, implies_true, ↓State.put_tidy, ↓State.putB_tidy, ↓State.setReg_tidy]

theorem State.capPeriod_tidy (s : State) (pest : Nat) (hs0 : Tidy s) :
    Tidy (State.capPeriod s pest) := by
  unfold State.capPeriod
  simp +contextual (maxDischargeDepth := 100) only [hs0, ↓tidy_mk, tidy_regs, tidy_t1, tidy_t2, tidy_cf, ↓tidy_ite, ↓State.count_tidy, ↓State.record_tidy]

theorem State.setStep_tidy (s : State) (n : Nat) (hs0 : Tidy s) :
    Tidy (State.setStep s n) := by
  unfold State.setStep
  simp +contextual (maxDischargeDepth := 100) only [hs0, ↓tidy_mk, tidy_regs, tidy_t1, tidy_t2, tidy_cf, ↓tidy_ite, ↓State.countBy_tidy, ↓State.govApply_tidy, ↓State.put_tidy, ↓State.record_tidy]

theorem State.raiseStep_tidy (s : State) (hs0 : Tidy s) :
    Tidy (State.raiseStep s) := by
  unfold State.raiseStep
  simp +contextual (maxDischargeDepth := 100) only [hs0, ↓tidy_ite, ↓State.setStep_tidy]

theorem State.coolPeriod_tidy (s : State) (hs0 : Tidy s) :
    Tidy (State.coolPeriod s) := by
  unfold State.coolPeriod
  simp +contextual (maxDischargeDepth := 100) only [hs0, ↓tidy_mk, tidy_regs, tidy_t1, tidy_t2, tidy_cf, ↓tidy_ite, ↓State.setStep_tidy]

theorem State.heatPause_tidy (s : State) (hs0 : Tidy s) :
    Tidy (State.heatPause s) := by
  unfold State.heatPause
  simp +contextual (maxDischargeDepth := 100) only [hs0, ↓tidy_ite, ↓State.setPauseAll_tidy]

theorem State.govPeriod_tidy (s : State) (pest : Nat) (loads : List (Fin 16 × Nat)) (hs0 : Tidy s) :
    Tidy (State.govPeriod s pest loads) := by
  unfold State.govPeriod
  simp +contextual (maxDischargeDepth := 100) only [hs0, ↓tidy_mk, tidy_regs, tidy_t1, tidy_t2, tidy_cf, ↓tidy_ite, ↓State.capPeriod_tidy, ↓State.coolPeriod_tidy, ↓State.countBy_tidy, ↓State.dirtyPause_tidy, ↓State.govApply_tidy, ↓State.heatPause_tidy, ↓State.setReg_tidy]

theorem execGovernorPeriod_tidy (pest : Nat) (loads : List (Fin 16 × Nat)) (s : State) (hs0 : Tidy s) :
    Tidies (execGovernorPeriod pest loads s) := by
  unfold execGovernorPeriod
  simp +contextual (maxDischargeDepth := 100) only [hs0, ↓tidy_ite, ↓State.govPeriod_tidy, ↓tidies_next]

theorem State.readTemps_tidy (s : State) (ts : List Int) (hs0 : Tidy s) :
    Tidy (State.readTemps s ts) := by
  unfold State.readTemps
  repeat' first
    | simp +contextual (maxDischargeDepth := 100) only [hs0, ↓tidy_mk, tidy_regs, tidy_t1, tidy_t2, tidy_cf, ↓foldl_tidy, implies_true, ↓State.draw_tidy, ↓State.record_tidy]
    | split

theorem State.meltdown_tidy (s : State) (hs0 : Tidy s) :
    Tidy (State.meltdown s) := by
  unfold State.meltdown
  simp +contextual (maxDischargeDepth := 100) only [hs0, ↓tidy_mk, tidy_regs, tidy_t1, tidy_t2, tidy_cf, ↓tidy_ite, ↓State.allOff_tidy, ↓State.incomplete_tidy, ↓State.offEnd_tidy, ↓State.put_tidy]

theorem State.trip_tidy (s : State) (hs0 : Tidy s) :
    Tidy (State.trip s) := by
  unfold State.trip
  repeat' first
    | assumption
    | simp +contextual (maxDischargeDepth := 100) only [hs0, ↓tidy_mk, tidy_regs, tidy_t1, tidy_t2, tidy_cf, ↓tidy_ite, ↓State.put_tidy, ↓State.record_tidy, ↓State.shutdown_tidy]
    | refine tidy_ite ?_ ?_
    | split

theorem execThermalSample_tidy (temps : List Int) (s : State) (hs0 : Tidy s) :
    Tidies (execThermalSample temps s) := by
  unfold execThermalSample
  simp +contextual (maxDischargeDepth := 100) only [hs0, ↓tidy_mk, tidy_regs, tidy_t1, tidy_t2, tidy_cf, ↓tidy_ite, ↓State.meltdown_tidy, ↓State.raiseStep_tidy, ↓State.readTemps_tidy, ↓State.trip_tidy, ↓tidies_next, ↓tidies_refused, ↓tidies_ite]

theorem execTripCooldown_tidy (s : State) (hs0 : Tidy s) :
    Tidies (execTripCooldown s) := by
  unfold execTripCooldown
  simp +contextual (maxDischargeDepth := 100) only [hs0, ↓tidy_mk, tidy_regs, tidy_t1, tidy_t2, tidy_cf, ↓tidy_ite, ↓tidies_next]

theorem State.deepen_tidy (s : State) (p : Nat) (hs0 : Tidy s) :
    Tidy (State.deepen s p) := by
  unfold State.deepen
  simp +contextual (maxDischargeDepth := 100) only [hs0, ↓tidy_mk, tidy_regs, tidy_t1, tidy_t2, tidy_cf, ↓tidy_ite, ↓State.put_tidy, ↓State.shutdown_tidy, ↓State.steerNow_tidy]

theorem State.requestP_tidy (s : State) (p : Nat) (hs0 : Tidy s) :
    Tidy (State.requestP s p).1 := by
  unfold State.requestP
  simp +contextual (maxDischargeDepth := 100) only [hs0, ↓tidy_ite1, ↓State.deepen_tidy]

theorem State.govCmd_tidy (s : State) (p : Nat) (hs0 : Tidy s) :
    Tidy (State.govCmd s p) := by
  unfold State.govCmd
  simp +contextual (maxDischargeDepth := 100) only [hs0, ↓tidy_ite, ↓State.put_tidy, ↓State.requestP_tidy]

theorem State.govP0_tidy (s : State) (hs0 : Tidy s) :
    Tidy (State.govP0 s) := by
  unfold State.govP0
  simp +contextual (maxDischargeDepth := 100) only [hs0, ↓tidy_ite, ↓State.wake_tidy, ↓State.wakeP3_tidy]

theorem execGovP0_tidy (s : State) (hs0 : Tidy s) :
    Tidies (execGovP0 s) := by
  unfold execGovP0
  simp +contextual (maxDischargeDepth := 100) only [hs0, ↓State.govP0_tidy, ↓tidies_next]

theorem execGovP1_tidy (s : State) (hs0 : Tidy s) :
    Tidies (execGovP1 s) := by
  unfold execGovP1
  simp +contextual (maxDischargeDepth := 100) only [hs0, ↓State.govCmd_tidy, ↓tidies_next]

theorem execGovP2_tidy (s : State) (hs0 : Tidy s) :
    Tidies (execGovP2 s) := by
  unfold execGovP2
  simp +contextual (maxDischargeDepth := 100) only [hs0, ↓State.govCmd_tidy, ↓tidies_next]

theorem execGovP3_tidy (s : State) (hs0 : Tidy s) :
    Tidies (execGovP3 s) := by
  unfold execGovP3
  simp +contextual (maxDischargeDepth := 100) only [hs0, ↓State.govCmd_tidy, ↓tidies_next]

theorem execP1IdleExpiry_tidy (s : State) (hs0 : Tidy s) :
    Tidies (execP1IdleExpiry s) := by
  unfold execP1IdleExpiry
  simp +contextual (maxDischargeDepth := 100) only [hs0, ↓tidy_ite, ↓State.requestP_tidy, ↓tidies_next]

theorem execP2IdleExpiry_tidy (s : State) (hs0 : Tidy s) :
    Tidies (execP2IdleExpiry s) := by
  unfold execP2IdleExpiry
  simp +contextual (maxDischargeDepth := 100) only [hs0, ↓tidy_ite, ↓State.requestP_tidy, ↓tidies_next]

theorem State.gate_tidy (s : State) (ds : List Domain) (hs0 : Tidy s) :
    Tidy (State.gate s ds) := by
  unfold State.gate
  simp +contextual (maxDischargeDepth := 100) only [hs0, ↓tidy_mk, tidy_regs, tidy_t1, tidy_t2, tidy_cf]

theorem State.ungate_tidy (s : State) (ds : List Domain) (hs0 : Tidy s) :
    Tidy (State.ungate s ds) := by
  unfold State.ungate
  simp +contextual (maxDischargeDepth := 100) only [hs0, ↓tidy_mk, tidy_regs, tidy_t1, tidy_t2, tidy_cf]

theorem State.enterP2_tidy (s : State) (hs0 : Tidy s) :
    Tidy (State.enterP2 s) := by
  unfold State.enterP2
  simp +contextual (maxDischargeDepth := 100) only [hs0, ↓tidy_mk, tidy_regs, tidy_t1, tidy_t2, tidy_cf, ↓tidy_ite, ↓foldl_tidy, implies_true, ↓State.cleanInvWhole_tidy, ↓State.gate_tidy, ↓State.payDebt_tidy, ↓State.put_tidy, ↓State.setReg_tidy, ↓State.updPort_tidy]

theorem State.exitP2_tidy (s : State) (hs0 : Tidy s) :
    Tidy (State.exitP2 s) := by
  unfold State.exitP2
  simp +contextual (maxDischargeDepth := 100) only [hs0, ↓tidy_ite, ↓foldl_tidy, implies_true, ↓State.put_tidy, ↓State.setPauseAll_tidy, ↓State.setReg_tidy, ↓State.ungate_tidy, ↓State.updPort_tidy]

theorem State.entryDone_tidy (s : State) (hs0 : Tidy s) :
    Tidy (State.entryDone s) := by
  unfold State.entryDone
  simp +contextual (maxDischargeDepth := 100) only [hs0, ↓tidy_mk, tidy_regs, tidy_t1, tidy_t2, tidy_cf, ↓tidy_ite, ↓State.enterP2_tidy, ↓State.gate_tidy, ↓State.put_tidy, ↓State.record_tidy, ↓State.wake_tidy, ↓State.wakeP3_tidy]

theorem execPstateEntryDone_tidy (s : State) (hs0 : Tidy s) :
    Tidies (execPstateEntryDone s) := by
  unfold execPstateEntryDone
  simp +contextual (maxDischargeDepth := 100) only [hs0, ↓State.entryDone_tidy, ↓tidies_next]

theorem State.exitDone_tidy (s : State) (hs0 : Tidy s) :
    Tidy (State.exitDone s) := by
  unfold State.exitDone
  simp +contextual (maxDischargeDepth := 100) only [hs0, ↓tidy_mk, tidy_regs, tidy_t1, tidy_t2, tidy_cf, ↓tidy_ite, ↓State.exitP2_tidy, ↓State.put_tidy, ↓State.record_tidy, ↓State.steerNow_tidy, ↓State.ungate_tidy]

theorem execPstateExitDone_tidy (s : State) (hs0 : Tidy s) :
    Tidies (execPstateExitDone s) := by
  unfold execPstateExitDone
  simp +contextual (maxDischargeDepth := 100) only [hs0, ↓State.exitDone_tidy, ↓tidies_next]

theorem execGovWakeTimer_tidy (s : State) (hs0 : Tidy s) :
    Tidies (execGovWakeTimer s) := by
  unfold execGovWakeTimer
  simp +contextual (maxDischargeDepth := 100) only [hs0, ↓tidy_ite, ↓State.wake_tidy, ↓State.wakeP3_tidy, ↓tidies_next]

theorem execWakeN_tidy (s : State) (hs0 : Tidy s) :
    Tidies (execWakeN s) := by
  unfold execWakeN
  simp +contextual (maxDischargeDepth := 100) only [hs0, ↓tidy_ite, ↓State.powerOn_tidy, ↓State.wake_tidy, ↓State.wakeP3_tidy, ↓tidies_next]

theorem execListenFrame_tidy (port : Fin 8) (flen : Nat) (s : State) (hs0 : Tidy s) :
    Tidies (execListenFrame port flen s) := by
  unfold execListenFrame
  simp +contextual (maxDischargeDepth := 100) only [hs0, ↓tidy_ite, ↓foldl_tidy, implies_true, ↓State.count_tidy, ↓State.setPause_tidy, ↓State.updPort_tidy, ↓State.wake_tidy, ↓tidies_next]

theorem execClockGateIdle_tidy (d : Domain) (s : State) (hs0 : Tidy s) :
    Tidies (execClockGateIdle d s) := by
  unfold execClockGateIdle
  simp +contextual (maxDischargeDepth := 100) only [hs0, ↓tidy_mk, tidy_regs, tidy_t1, tidy_t2, tidy_cf, ↓tidy_ite, ↓tidies_next]

theorem execPowerGateIdle_tidy (d : Domain) (s : State) (hs0 : Tidy s) :
    Tidies (execPowerGateIdle d s) := by
  unfold execPowerGateIdle
  simp +contextual (maxDischargeDepth := 100) only [hs0, ↓tidy_ite, ↓State.gate_tidy, ↓tidies_next]

theorem execDomainWake_tidy (d : Domain) (s : State) (hs0 : Tidy s) :
    Tidies (execDomainWake d s) := by
  unfold execDomainWake
  simp +contextual (maxDischargeDepth := 100) only [hs0, ↓tidy_mk, tidy_regs, tidy_t1, tidy_t2, tidy_cf, ↓tidy_ite, ↓tidies_next]

theorem execDomainWakeDone_tidy (d : Domain) (s : State) (hs0 : Tidy s) :
    Tidies (execDomainWakeDone d s) := by
  unfold execDomainWakeDone
  simp +contextual (maxDischargeDepth := 100) only [hs0, ↓tidy_ite, ↓State.ungate_tidy, ↓tidies_next]

end Sys2Proof.Machine
end

