-- ==== Sys2Proof/Laws/TidyConfig.lean ====
section
/-! SUPPORT. Sys2Proof/Laws/TidyConfig.lean: commits, register accesses, the two-wire bus and the admin capsules keep the
canonical forms: one lemma for each operation. -/

namespace Sys2Proof.Machine

/-! ### Commit.lean -/

theorem State.commitReport_tidy (s : State) (last : Nat) (via : CommitVia) (hs0 : Tidy s) :
    Tidy (State.commitReport s last via) := by
  unfold State.commitReport
  simp +contextual (maxDischargeDepth := 100) only [hs0, ↓State.put_tidy]

theorem State.commitNow_tidy (s : State) (via : CommitVia) (hs0 : Tidy s) :
    Tidy (State.commitNow s via) := by
  unfold State.commitNow
  simp +contextual (maxDischargeDepth := 100) only [hs0, ↓tidy_mk, tidy_regs, tidy_t1, tidy_t2, tidy_cf, ↓State.applyAll_tidy, ↓State.commitReport_tidy, ↓State.setReg64_tidy, ↓State.startup_tidy, ↓State.storeSet_tidy]

theorem State.commitAccept_tidy (s : State) (via : CommitVia) (hs0 : Tidy s) :
    Tidy (State.commitAccept s via).1 := by
  unfold State.commitAccept
  simp +contextual (maxDischargeDepth := 100) only [hs0, ↓tidy_mk, tidy_regs, tidy_t1, tidy_t2, tidy_cf, ↓tidy_ite, ↓State.commitReport_tidy, ↓State.put_tidy, ↓State.setReg64_tidy, ↓State.updHome_tidy, ↓State.wake_tidy]

theorem State.commit_tidy (s : State) (via : CommitVia) (hs0 : Tidy s) :
    Tidy (State.commit s via).1 := by
  unfold State.commit
  simp +contextual (maxDischargeDepth := 100) only [hs0, ↓tidy_ite1, ↓State.commitAccept_tidy, ↓State.commitNow_tidy, ↓State.commitReport_tidy]

theorem State.discard_tidy (s : State) (via : CommitVia) (hs0 : Tidy s) :
    Tidy (State.discard s via) := by
  unfold State.discard
  simp +contextual (maxDischargeDepth := 100) only [hs0, ↓tidy_mk, tidy_regs, tidy_t1, tidy_t2, tidy_cf, ↓State.commitReport_tidy]

theorem State.glbCmt_tidy (s : State) (op : Nat) (via : CommitVia) (hs0 : Tidy s) :
    Tidy (State.glbCmt s op via).1 := by
  unfold State.glbCmt
  simp +contextual (maxDischargeDepth := 100) only [hs0, ↓tidy_ite1, ↓State.commit_tidy, ↓State.discard_tidy, ↓State.put_tidy]

theorem State.switchUnits_tidy (s : State) (c : Commit) (j : Nat) (hs0 : Tidy s) :
    Tidy (State.switchUnits s c j) := by
  unfold State.switchUnits
  simp +contextual (maxDischargeDepth := 100) only [hs0, ↓tidy_mk, tidy_regs, tidy_t1, tidy_t2, tidy_cf, ↓State.applyAll_tidy]

theorem State.beginRoll_tidy (s : State) (c : Commit) (hs0 : Tidy s) :
    Tidy (State.beginRoll s c) := by
  unfold State.beginRoll
  simp +contextual (maxDischargeDepth := 100) only [hs0, ↓State.applyAll_tidy, ↓State.putB_tidy, ↓State.switchUnits_tidy]

theorem State.commitEnd_tidy (s : State) (c : Commit) (hs0 : Tidy s) :
    Tidy (State.commitEnd s c) := by
  unfold State.commitEnd
  split <;> simp +contextual (maxDischargeDepth := 100) only [hs0, ↓tidy_mk, tidy_regs, tidy_t1, tidy_t2, tidy_cf, ↓State.okCap_tidy, ↓State.put_tidy, ↓State.settle_tidy, ↓State.storeSet_tidy]

theorem State.commitCheck_tidy (s : State) (hs0 : Tidy s) :
    Tidy (State.commitCheck s) := by
  unfold State.commitCheck
  split <;> simp +contextual (maxDischargeDepth := 100) only [hs0, ↓tidy_ite, ↓State.commitEnd_tidy]

theorem State.deferredHandovers_tidy (s : State) (hs0 : Tidy s) :
    Tidy (State.deferredHandovers s) := by
  unfold State.deferredHandovers
  simp +contextual (maxDischargeDepth := 100) only [hs0, ↓tidy_ite, ↓foldl_tidy, implies_true, ↓State.beginHandover_tidy]

theorem State.rollDrained_tidy (s : State) (hs0 : Tidy s) :
    Tidy (State.rollDrained s) := by
  unfold State.rollDrained
  split <;> simp +contextual (maxDischargeDepth := 100) only [hs0, ↓tidy_mk, tidy_regs, tidy_t1, tidy_t2, tidy_cf, ↓tidy_ite, ↓State.commitCheck_tidy, ↓State.deferredHandovers_tidy, ↓State.put_tidy]

theorem execRollDrained_tidy (s : State) (hs0 : Tidy s) :
    Tidies (execRollDrained s) := by
  unfold execRollDrained
  simp +contextual (maxDischargeDepth := 100) only [hs0, ↓State.rollDrained_tidy, ↓tidies_core]

theorem State.commitBoundary_tidy (s : State) (h : Nat) (hs0 : Tidy s) :
    Tidy (State.commitBoundary s h) := by
  unfold State.commitBoundary
  split <;> simp +contextual (maxDischargeDepth := 100) only [hs0, ↓tidy_ite, ↓State.beginRoll_tidy, ↓State.commitCheck_tidy, ↓State.switchUnits_tidy]

theorem State.jointBoundary_tidy (s : State) (h : Nat) (hs0 : Tidy s) :
    Tidy (State.jointBoundary s h) := by
  unfold State.jointBoundary
  simp +contextual (maxDischargeDepth := 100) only [hs0, ↓tidy_mk, tidy_regs, tidy_t1, tidy_t2, tidy_cf, ↓State.applyAll_tidy]

theorem State.admitJoiner_tidy (s : State) (h : Nat) (hs0 : Tidy s) :
    Tidy (State.admitJoiner s h) := by
  unfold State.admitJoiner
  simp +contextual (maxDischargeDepth := 100) only [hs0, ↓State.notifyAll_tidy, ↓State.record_tidy, ↓State.setPair_tidy, ↓State.standWrite_tidy, ↓State.updHome_tidy]

theorem State.joinStep_tidy (s : State) (h : Nat) (hs0 : Tidy s) :
    Tidy (State.joinStep s h) := by
  unfold State.joinStep
  simp +contextual (maxDischargeDepth := 100) only [hs0, ↓tidy_ite, ↓State.admitJoiner_tidy, ↓State.setPair_tidy, ↓State.updHome_tidy]

theorem State.epochBoundary_tidy (s : State) (h : Nat) (hs0 : Tidy s) :
    Tidy (State.epochBoundary s h) := by
  unfold State.epochBoundary
  simp +contextual (maxDischargeDepth := 100) only [hs0, ↓tidy_ite, ↓State.commitBoundary_tidy, ↓State.joinStep_tidy, ↓State.jointBoundary_tidy, ↓State.sendDelta_tidy, ↓State.sendHealth_tidy, ↓State.steerNow_tidy, ↓State.updHome_tidy]

theorem execEpochBoundary_tidy (home : Fin 2) (s : State) (hs0 : Tidy s) :
    Tidies (execEpochBoundary home s) := by
  unfold execEpochBoundary
  simp +contextual (maxDischargeDepth := 100) only [hs0, ↓State.epochBoundary_tidy, ↓tidies_next]

theorem State.activateEnd_tidy (s : State) (hs0 : Tidy s) :
    Tidy (State.activateEnd s) := by
  unfold State.activateEnd
  simp +contextual (maxDischargeDepth := 100) only [hs0, ↓State.programSelect_tidy, ↓State.warmReset_tidy]

theorem State.afterHandover_tidy (s : State) (next : HandNext) (hs0 : Tidy s) :
    Tidy (State.afterHandover s next) := by
  unfold State.afterHandover
  repeat' split
  all_goals simp +contextual (maxDischargeDepth := 100) only [hs0, ↓State.activateEnd_tidy, ↓State.quenchBegin_tidy, ↓State.warmReset_tidy]

theorem execHandoverDrained_tidy (home : Fin 2) (s : State) (hs0 : Tidy s) :
    Tidies (execHandoverDrained home s) := by
  unfold execHandoverDrained
  simp +contextual (maxDischargeDepth := 100) only [hs0, ↓tidy_ite, ↓State.afterHandover_tidy, ↓State.passToken_tidy, ↓tidies_core]

theorem State.handAll_tidy (s : State) (next : HandNext) (hs0 : Tidy s) :
    Tidy (State.handAll s next) := by
  unfold State.handAll
  simp +contextual (maxDischargeDepth := 100) only [hs0, ↓tidy_ite, ↓foldl_tidy, implies_true, ↓State.afterHandover_tidy, ↓State.beginHandover_tidy]

theorem State.rstCtl_tidy (s : State) (handover : Bool) (hs0 : Tidy s) :
    Tidy (State.rstCtl s handover) := by
  unfold State.rstCtl
  simp +contextual (maxDischargeDepth := 100) only [hs0, ↓tidy_ite, ↓State.handAll_tidy, ↓State.put_tidy, ↓State.warmReset_tidy]

theorem execWarmResetRequest_tidy (s : State) (hs0 : Tidy s) :
    Tidies (execWarmResetRequest s) := by
  unfold execWarmResetRequest
  simp +contextual (maxDischargeDepth := 100) only [hs0, ↓State.rstCtl_tidy, ↓tidies_next]

theorem execWarmResetHandover_tidy (s : State) (hs0 : Tidy s) :
    Tidies (execWarmResetHandover s) := by
  unfold execWarmResetHandover
  simp +contextual (maxDischargeDepth := 100) only [hs0, ↓State.rstCtl_tidy, ↓tidies_next]

theorem State.fwActivate_tidy (s : State) (hs0 : Tidy s) :
    Tidy (State.fwActivate s).1 := by
  unfold State.fwActivate
  simp +contextual (maxDischargeDepth := 100) only [hs0, ↓tidy_mk, tidy_regs, tidy_t1, tidy_t2, tidy_cf, ↓tidy_ite1, ↓State.record_tidy]

/-! ### RegRead.lean -/

theorem State.rawRead_tidy (s : State) (store : Nat) (addr : Nat) (hs0 : Tidy s) :
    Tidy (State.rawRead s store addr).1 := by
  unfold State.rawRead
  simp +contextual (maxDischargeDepth := 100) only [hs0, ↓tidy_ite1, ↓State.draw_tidy]

theorem State.dbgRead_tidy (s : State) (hs0 : Tidy s) :
    Tidy (State.dbgRead s) := by
  unfold State.dbgRead
  simp +contextual (maxDischargeDepth := 100) only [hs0, ↓tidy_mk, tidy_regs, tidy_t1, tidy_t2, tidy_cf, ↓tidy_ite, ↓State.rawRead_tidy]

theorem execDbgMemoryRead_tidy (s : State) (hs0 : Tidy s) :
    Tidies (execDbgMemoryRead s) := by
  unfold execDbgMemoryRead
  simp +contextual (maxDischargeDepth := 100) only [hs0, ↓State.dbgRead_tidy, ↓tidies_next]

theorem State.tapRead_tidy (s : State) (ir : Nat) (store : Nat) (addr : Nat) (hs0 : Tidy s) :
    Tidy (State.tapRead s ir store addr) := by
  unfold State.tapRead
  simp +contextual (maxDischargeDepth := 100) only [hs0, ↓tidy_mk, tidy_regs, tidy_t1, tidy_t2, tidy_cf, ↓tidy_ite, ↓State.emit_tidy, ↓State.rawRead_tidy]

theorem execTapMemread_tidy (store : BitVec 3) (addr : BitVec 32) (s : State) (hs0 : Tidy s) :
    Tidies (execTapMemread store addr s) := by
  unfold execTapMemread
  simp +contextual (maxDischargeDepth := 100) only [hs0, ↓State.tapRead_tidy, ↓tidies_next]

theorem execTapRegread_tidy (addr : BitVec 24) (s : State) (hs0 : Tidy s) :
    Tidies (execTapRegread addr s) := by
  unfold execTapRegread
  simp +contextual (maxDischargeDepth := 100) only [hs0, ↓State.tapRead_tidy, ↓tidies_next]

theorem State.readBefore_tidy (s : State) (a : Nat) (hs0 : Tidy s) :
    Tidy (State.readBefore s a) := by
  unfold State.readBefore
  simp +contextual (maxDischargeDepth := 100) only [hs0, ↓tidy_ite, ↓State.dbgChallenge_tidy, ↓State.dbgRead_tidy]

theorem State.readAfter_tidy (s : State) (a : Nat) (hs0 : Tidy s) :
    Tidy (State.readAfter s a) := by
  unfold State.readAfter
  repeat' split
  all_goals simp +contextual (maxDischargeDepth := 100) only [hs0, ↓State.clogPop_tidy, ↓State.setReg_tidy]

theorem State.regRead_tidy (s : State) (p : Path) (a : Nat) (hs0 : Tidy s) :
    Tidy (State.regRead s p a).1 := by
  unfold State.regRead
  simp +contextual (maxDischargeDepth := 100) only [hs0, ↓tidy_ite1, ↓State.noteForeign_tidy, ↓State.readAfter_tidy, ↓State.readBefore_tidy]

/-! ### RegWrite.lean -/

theorem State.alertAfter_tidy (old : State) (s : State) (a : Nat) (hs0 : Tidy s) :
    Tidy (State.alertAfter old s a) := by
  unfold State.alertAfter
  simp +contextual (maxDischargeDepth := 100) only [hs0, ↓tidy_mk, tidy_regs, tidy_t1, tidy_t2, tidy_cf, ↓tidy_ite, ↓State.alertSettle_tidy]

theorem State.writeShadowed_tidy (s : State) (p : Path) (d : RegDef) (a : Nat) (v : BitVec 32) (hs0 : Tidy s) :
    Tidy (State.writeShadowed s p d a v).1 := by
  unfold State.writeShadowed
  simp +contextual (maxDischargeDepth := 100) only [hs0, ↓tidy_mk, tidy_regs, tidy_t1, tidy_t2, tidy_cf, ↓tidy_ite, ↓tidy_ite1, ↓State.applyReg_tidy, ↓State.put_tidy, ↓State.setReg_tidy, ↓State.setRegBit_tidy]

theorem State.pwsCmd_tidy (s : State) (op : Nat) (hs0 : Tidy s) :
    Tidy (State.pwsCmd s op) := by
  unfold State.pwsCmd
  simp +contextual (maxDischargeDepth := 100) only [hs0, ↓tidy_ite, ↓State.cmdPowerOn_tidy, ↓State.huStart_tidy, ↓State.orderlyOff_tidy]

theorem State.govOp_tidy (s : State) (op : Nat) (hs0 : Tidy s) :
    Tidy (State.govOp s op) := by
  unfold State.govOp
  simp +contextual (maxDischargeDepth := 100) only [hs0, ↓tidy_ite, ↓State.govCmd_tidy, ↓State.govP0_tidy]

theorem State.scrubCmd_tidy (s : State) (v : BitVec 32) (hs0 : Tidy s) :
    Tidy (State.scrubCmd s v) := by
  unfold State.scrubCmd
  simp +contextual (maxDischargeDepth := 100) only [hs0, ↓tidy_mk, tidy_regs, tidy_t1, tidy_t2, tidy_cf, ↓tidy_ite, ↓State.scrubStart_tidy]

theorem State.remapCmd_tidy (s : State) (v : BitVec 32) (hs0 : Tidy s) :
    Tidy (State.remapCmd s v) := by
  unfold State.remapCmd
  simp +contextual (maxDischargeDepth := 100) only [hs0, ↓tidy_ite, ↓State.remapClear_tidy, ↓State.remapLoad_tidy]

theorem State.colCred_tidy (s : State) (high : Bool) (n : Nat) (hs0 : Tidy s) :
    Tidy (State.colCred s high n) := by
  unfold State.colCred
  repeat' first
    | simp +contextual (maxDischargeDepth := 100) only [hs0, ↓tidy_mk, tidy_regs, tidy_t1, tidy_t2, tidy_cf]
    | split

theorem State.actLow_tidy (s : State) (p : Path) (a : Nat) (v : BitVec 32) (hs0 : Tidy s) :
    Tidy (State.actLow s p a v).1 := by
  unfold State.actLow
  try dsimp only
  repeat' first
    | with_reducible assumption
    | with_reducible refine State.ambFind_tidy _ ?_
    | with_reducible refine State.ambFlush_tidy _ ?_
    | with_reducible refine State.cfCmd_tidy _ _ _ ?_
    | with_reducible refine State.dbgClear_tidy _ _ ?_
    | with_reducible refine State.dbgProvision_tidy _ _ ?_
    | with_reducible refine State.dbgUnlock_tidy _ _ ?_
    | with_reducible refine State.glbCmt_tidy _ _ _ ?_
    | with_reducible refine State.govOp_tidy _ _ ?_
    | with_reducible refine State.identityGo_tidy _ ?_
    | with_reducible refine State.pwsCmd_tidy _ _ ?_
    | with_reducible refine State.rstCtl_tidy _ _ ?_
    | with_reducible refine State.sealClaim_tidy _ _ ?_
    | with_reducible refine State.sealGiveUp_tidy _ _ ?_
    | with_reducible refine State.sealOp_tidy _ _ _ _ ?_
    | with_reducible refine tidy_regs ?_
    | with_reducible refine tidy_t1 ?_
    | with_reducible refine tidy_t2 ?_
    | with_reducible refine tidy_cf ?_
    | refine tidy_ite ?_ ?_
    | refine tidy_ite1 ?_ ?_
    | split
    | with_reducible refine tidy_mk ?_ ?_ ?_ ?_

theorem State.actHigh_tidy (s : State) (a : Nat) (v : BitVec 32) (hs0 : Tidy s) :
    Tidy (State.actHigh s a v).1 := by
  unfold State.actHigh
  generalize (List.range 4).find? _ = ow, (List.range 16).find? _ = oc, (List.range 32).find? _ = of
  repeat' split
  all_goals simp +contextual (maxDischargeDepth := 100) only [hs0, ↓tidy_mk, tidy_regs, tidy_t1, tidy_t2, tidy_cf, ↓State.colCred_tidy, ↓State.lcDisable_tidy, ↓State.lcEnable_tidy, ↓State.lcLockWrite_tidy, ↓State.mopStart_tidy, ↓State.remapCmd_tidy, ↓State.retireDram_tidy, ↓State.retireFch_tidy, ↓State.scrubCmd_tidy, ↓State.twnCmd_tidy]

theorem State.writeNow_tidy (s : State) (p : Path) (d : RegDef) (a : Nat) (v : BitVec 32) (hs0 : Tidy s) :
    Tidy (State.writeNow s p d a v).1 := by
  unfold State.writeNow
  simp +contextual (maxDischargeDepth := 100) only [hs0, ↓tidy_ite, ↓tidy_ite1, ↓State.actHigh_tidy, ↓State.actLow_tidy, ↓State.alertAfter_tidy, ↓State.put_tidy, ↓State.setReg_tidy]

theorem State.regWrite_tidy (s : State) (p : Path) (a : Nat) (v : BitVec 32) (hs0 : Tidy s) :
    Tidy (State.regWrite s p a v).1 := by
  unfold State.regWrite
  split <;> simp +contextual (maxDischargeDepth := 100) only [hs0, ↓tidy_ite1, ↓State.noteForeign_tidy, ↓State.put_tidy, ↓State.writeNow_tidy, ↓State.writeShadowed_tidy]

theorem execRegisterWrite_tidy (path : Path) (addr : BitVec 24) (value : BitVec 32) (s : State) (hs0 : Tidy s) :
    Tidies (execRegisterWrite path addr value s) := by
  unfold execRegisterWrite
  simp +contextual (maxDischargeDepth := 100) only [hs0, ↓State.regWrite_tidy, ↓tidies_next]

theorem execGlbCommit_tidy (path : Path) (s : State) (hs0 : Tidy s) :
    Tidies (execGlbCommit path s) := by
  unfold execGlbCommit
  simp +contextual (maxDischargeDepth := 100) only [hs0, ↓State.glbCmt_tidy, ↓tidies_core]

theorem execGlbDiscard_tidy (path : Path) (s : State) (hs0 : Tidy s) :
    Tidies (execGlbDiscard path s) := by
  unfold execGlbDiscard
  simp +contextual (maxDischargeDepth := 100) only [hs0, ↓State.glbCmt_tidy, ↓tidies_next]

/-! ### TwoWire.lean -/

theorem State.wireWord_tidy (s : State) (a : Nat) (v : BitVec 32) (hs0 : Tidy s) :
    Tidy (State.wireWord s a v) := by
  unfold State.wireWord
  simp +contextual (maxDischargeDepth := 100) only [hs0, ↓tidy_ite, ↓State.put_tidy, ↓State.regWrite_tidy]

theorem State.wireApply_tidy (s : State) (ptr : BitVec 16) (data : List Byte) (hs0 : Tidy s) :
    Tidy (State.wireApply s ptr data) := by
  unfold State.wireApply
  simp +contextual (maxDischargeDepth := 100) only [hs0, ↓tidy_mk, tidy_regs, tidy_t1, tidy_t2, tidy_cf, ↓tidy_ite, ↓foldl_tidy, implies_true, ↓State.count_tidy, ↓State.put_tidy, ↓State.wireWord_tidy]

theorem State.pecBad_tidy (s : State) (hs0 : Tidy s) :
    Tidy (State.pecBad s) := by
  unfold State.pecBad
  simp +contextual (maxDischargeDepth := 100) only [hs0, ↓State.count_tidy, ↓State.emit_tidy, ↓State.put_tidy, ↓State.record_tidy]

theorem State.wireWrite_tidy (s : State) (ptr : BitVec 16) (data : List Byte) (pec : Option Byte) (hs0 : Tidy s) :
    Tidy (State.wireWrite s ptr data pec) := by
  unfold State.wireWrite
  repeat' first
    | simp +contextual (maxDischargeDepth := 100) only [hs0, ↓tidy_mk, tidy_regs, tidy_t1, tidy_t2, tidy_cf, ↓tidy_ite, ↓State.emit_tidy, ↓State.pecBad_tidy, ↓State.wireApply_tidy]
    | refine tidy_ite ?_ ?_
    | split

theorem execTwoWireWrite_tidy (ptr : BitVec 16) (data : List Byte) (pec : Option Byte) (s : State) (hs0 : Tidy s) :
    Tidies (execTwoWireWrite ptr data pec s) := by
  unfold execTwoWireWrite
  simp +contextual (maxDischargeDepth := 100) only [hs0, ↓State.wireWrite_tidy, ↓tidies_next]

theorem execSetPointer_tidy (ptr : BitVec 16) (pec : Option Byte) (s : State) (hs0 : Tidy s) :
    Tidies (execSetPointer ptr pec s) := by
  unfold execSetPointer
  simp +contextual (maxDischargeDepth := 100) only [hs0, ↓State.wireWrite_tidy, ↓tidies_next]

theorem State.wireRead_tidy (s : State) (a : Nat) (hs0 : Tidy s) :
    Tidy (State.wireRead s a).1 := by
  unfold State.wireRead
  simp +contextual (maxDischargeDepth := 100) only [hs0, ↓tidy_ite1, ↓State.put_tidy, ↓State.regRead_tidy]

theorem WireRead.byte_tidy (win : Nat) (r : WireRead) (h : Tidy r.st) : Tidy (WireRead.byte win r).st := by
  unfold WireRead.byte
  simp only
  split
  · split
    · exact h
    · exact State.wireRead_tidy _ _ h
  · exact State.wireRead_tidy _ _ h

theorem WireRead.foldl_tidy (win : Nat) (l : List Nat) (r : WireRead) (h : Tidy r.st) :
    Tidy (l.foldl (fun r _ => WireRead.byte win r) r).st := by
  induction l generalizing r with
  | nil => exact h
  | cons a l ih => exact ih _ (WireRead.byte_tidy win r h)

theorem State.wireReadout_tidy (s : State) (ptr : BitVec 16) (len : Nat) (head : List Byte) (hs0 : Tidy s) :
    Tidy (State.wireReadout s ptr len head) := by
  unfold State.wireReadout
  extract_lets win pec n r tail m
  have hr : Tidy r.st := WireRead.foldl_tidy _ _ _ (State.count_tidy _ _ hs0)
  exact State.emit_tidy _ _ (tidy_mk hr.regs hr.t1 hr.t2 hr.cf)

theorem execTwoWireRead_tidy (ptr : BitVec 16) (len : Nat) (s : State) (hs0 : Tidy s) :
    Tidies (execTwoWireRead ptr len s) := by
  unfold execTwoWireRead
  simp +contextual (maxDischargeDepth := 100) only [hs0, ↓State.wireReadout_tidy, ↓tidies_next]

theorem execCurrentRead_tidy (len : Nat) (s : State) (hs0 : Tidy s) :
    Tidies (execCurrentRead len s) := by
  unfold execCurrentRead
  simp +contextual (maxDischargeDepth := 100) only [hs0, ↓State.wireReadout_tidy, ↓tidies_next]

theorem execAlertResponse_tidy (others : List (BitVec 3)) (len : Nat) (s : State) (hs0 : Tidy s) :
    Tidies (execAlertResponse others len s) := by
  unfold execAlertResponse
  simp +contextual (maxDischargeDepth := 100) only [hs0, ↓tidy_mk, tidy_regs, tidy_t1, tidy_t2, tidy_cf, ↓tidy_ite, ↓State.count_tidy, ↓State.emit_tidy, ↓tidies_next]

theorem execSclLowTimeout_tidy (s : State) (hs0 : Tidy s) :
    Tidies (execSclLowTimeout s) := by
  unfold execSclLowTimeout
  simp +contextual (maxDischargeDepth := 100) only [hs0, ↓State.count_tidy, ↓State.put_tidy, ↓State.record_tidy, ↓tidies_next]

/-! ### Freeze.lean -/

theorem State.freeze_tidy (s : State) (hs0 : Tidy s) :
    Tidy (State.freeze s) := by
  unfold State.freeze
  simp +contextual (maxDischargeDepth := 100) only [hs0, ↓tidy_ite, ↓foldl_tidy, implies_true, ↓State.dropRoll_tidy, ↓State.dropTokens_tidy, ↓State.huAbort_tidy, ↓State.payDebt_tidy, ↓State.put_tidy, ↓State.record_tidy, ↓State.sealRelease_tidy, ↓State.stopHome_tidy]

theorem execFreezeNAsserted_tidy (s : State) (hs0 : Tidy s) :
    Tidies (execFreezeNAsserted s) := by
  unfold execFreezeNAsserted
  simp +contextual (maxDischargeDepth := 100) only [hs0, ↓tidy_mk, tidy_regs, tidy_t1, tidy_t2, tidy_cf, ↓tidy_ite, ↓State.freeze_tidy, ↓State.record_tidy, ↓tidies_next]

/-! ### Admin.lean -/

theorem execIdentify_tidy (c : CapRef) (s : State) (hs0 : Tidy s) :
    Tidies (execIdentify c s) := by
  unfold execIdentify
  simp +contextual (maxDischargeDepth := 100) only [hs0, implies_true, ↓State.okCap_tidy, ↓State.startCap_tidy, ↓State.toHost_tidy, ↓tidies_core]

theorem State.pageTests_tidy (s : State) (qp : Qp) (hs0 : Tidy s) :
    Tidy (State.pageTests s qp).1 := by
  unfold State.pageTests
  simp +contextual (maxDischargeDepth := 100) only [hs0, ↓tidy_ite, ↓State.testSoFar_tidy]

theorem State.logPage_tidy (s : State) (qp : Qp) (n : Nat) (hs0 : Tidy s) :
    ∀ x, State.logPage s qp n = some x → Tidy x.1 := by
  unfold State.logPage
  intro x e
  repeat' first
    | cases e
    | split at e
    | assumption
    | simp +contextual (maxDischargeDepth := 100) only [hs0, ↓State.pageTests_tidy]

theorem State.capLog_tidy (s : State) (c : CapRef) (qp : Qp) (bs : List Byte) (hs0 : Tidy s) :
    Tidy (State.capLog s c qp bs) := by
  unfold State.capLog
  try dsimp only
  repeat' first
    | with_reducible assumption
    | with_reducible refine State.failCap_tidy _ _ _ _ _ _ ?_
    | with_reducible refine State.okCap_tidy _ _ _ ?_
    | with_reducible refine State.toHost_tidy _ _ _ _ ?_
    | refine tidy_ite ?_ ?_
    | split
    | with_reducible refine tidy_of_some (by assumption) (State.logPage_tidy _ _ _ ?_)

theorem execLogRead_tidy (c : CapRef) (s : State) (hs0 : Tidy s) :
    Tidies (execLogRead c s) := by
  unfold execLogRead
  simp +contextual (maxDischargeDepth := 100) only [hs0, implies_true, ↓State.capLog_tidy, ↓State.startCap_tidy, ↓tidies_core]

theorem State.capTest_tidy (s : State) (c : CapRef) (qp : Qp) (typ : Nat) (hs0 : Tidy s) :
    Tidy (State.capTest s c qp typ) := by
  unfold State.capTest
  simp +contextual (maxDischargeDepth := 100) only [hs0, ↓tidy_mk, tidy_regs, tidy_t1, tidy_t2, tidy_cf, ↓tidy_ite, ↓State.failCap_tidy, ↓State.okCap_tidy]

theorem execSelftestShort_tidy (c : CapRef) (s : State) (hs0 : Tidy s) :
    Tidies (execSelftestShort c s) := by
  unfold execSelftestShort
  simp +contextual (maxDischargeDepth := 100) only [hs0, implies_true, ↓State.capTest_tidy, ↓State.startCap_tidy, ↓tidies_core]

theorem execSelftestExtended_tidy (c : CapRef) (s : State) (hs0 : Tidy s) :
    Tidies (execSelftestExtended c s) := by
  unfold execSelftestExtended
  simp +contextual (maxDischargeDepth := 100) only [hs0, implies_true, ↓State.capTest_tidy, ↓State.startCap_tidy, ↓tidies_core]

theorem State.endTest_tidy (s : State) (t : SelfTest) (result : Nat) (units : Nat) (fields : List Byte) (hs0 : Tidy s) :
    Tidy (State.endTest s t result units fields) := by
  unfold State.endTest
  simp +contextual (maxDischargeDepth := 100) only [hs0, ↓tidy_ite, ↓State.logTest_tidy, ↓State.notify_tidy, ↓State.record_tidy]

theorem State.capTestAbort_tidy (s : State) (c : CapRef) (qp : Qp) (hs0 : Tidy s) :
    Tidy (State.capTestAbort s c qp) := by
  unfold State.capTestAbort
  split <;> simp +contextual (maxDischargeDepth := 100) only [hs0, ↓State.endTest_tidy, ↓State.okCap_tidy, ↓State.testSoFar_tidy]

theorem execSelftestAbort_tidy (c : CapRef) (s : State) (hs0 : Tidy s) :
    Tidies (execSelftestAbort c s) := by
  unfold execSelftestAbort
  simp +contextual (maxDischargeDepth := 100) only [hs0, implies_true, ↓State.capTestAbort_tidy, ↓State.startCap_tidy, ↓tidies_core]

theorem execSelftestResume_tidy (home : Fin 2) (pd : BitVec 16) (s : State) (hs0 : Tidy s) :
    Tidies (execSelftestResume home pd s) := by
  unfold execSelftestResume
  simp +contextual (maxDischargeDepth := 100) only [hs0, ↓tidy_mk, tidy_regs, tidy_t1, tidy_t2, tidy_cf, ↓tidy_ite, ↓tidies_core]

theorem execSelftestEnd_tidy (home : Fin 2) (pd : BitVec 16) (result : Fin 5) (failKey : BitVec 32) (failOffset : BitVec 64) (units : BitVec 32) (healed : BitVec 32) (notHealed : BitVec 32) (s : State) (hs0 : Tidy s) :
    Tidies (execSelftestEnd home pd result failKey failOffset units healed notHealed s) := by
  unfold execSelftestEnd
  split <;> simp +contextual (maxDischargeDepth := 100) only [hs0, ↓tidy_ite, ↓State.endTest_tidy, ↓State.settle_tidy, ↓tidies_core]

theorem execPowerStateReport_tidy (c : CapRef) (s : State) (hs0 : Tidy s) :
    Tidies (execPowerStateReport c s) := by
  unfold execPowerStateReport
  simp +contextual (maxDischargeDepth := 100) only [hs0, ↓tidy_ite, implies_true, ↓State.failCap_tidy, ↓State.okCap_tidy, ↓State.startCap_tidy, ↓tidies_core]

theorem State.capPstate_tidy (s : State) (c : CapRef) (p : Nat) (hs0 : Tidy s) :
    Tidy (State.capPstate s c p) := by
  unfold State.capPstate
  simp +contextual (maxDischargeDepth := 100) only [hs0, ↓tidy_ite, ↓State.failCap_tidy, ↓State.okCap_tidy, ↓State.requestP_tidy]

theorem execPowerStateP0_tidy (c : CapRef) (s : State) (hs0 : Tidy s) :
    Tidies (execPowerStateP0 c s) := by
  unfold execPowerStateP0
  simp +contextual (maxDischargeDepth := 100) only [hs0, implies_true, ↓State.okCap_tidy, ↓State.startCap_tidy, ↓State.wake_tidy, ↓tidies_core]

theorem execPowerStateP1_tidy (c : CapRef) (s : State) (hs0 : Tidy s) :
    Tidies (execPowerStateP1 c s) := by
  unfold execPowerStateP1
  simp +contextual (maxDischargeDepth := 100) only [hs0, implies_true, ↓State.capPstate_tidy, ↓State.startCap_tidy, ↓tidies_core]

theorem execPowerStateP2_tidy (c : CapRef) (s : State) (hs0 : Tidy s) :
    Tidies (execPowerStateP2 c s) := by
  unfold execPowerStateP2
  simp +contextual (maxDischargeDepth := 100) only [hs0, implies_true, ↓State.capPstate_tidy, ↓State.startCap_tidy, ↓tidies_core]

theorem execPowerStateP3_tidy (c : CapRef) (s : State) (hs0 : Tidy s) :
    Tidies (execPowerStateP3 c s) := by
  unfold execPowerStateP3
  simp +contextual (maxDischargeDepth := 100) only [hs0, ↓tidy_ite, implies_true, ↓State.failCap_tidy, ↓State.okCap_tidy, ↓State.requestP_tidy, ↓State.startCap_tidy, ↓tidies_core]

/-! ### RegCaps.lean -/

theorem State.capRegRead_tidy (s : State) (c : CapRef) (bs : List Byte) (hs0 : Tidy s) :
    Tidy (State.capRegRead s c bs) := by
  unfold State.capRegRead
  simp +contextual (maxDischargeDepth := 100) only [hs0, ↓tidy_ite, ↓State.failCap_tidy, ↓State.okCap_tidy, ↓State.regRead_tidy]

theorem execRegRead_tidy (c : CapRef) (s : State) (hs0 : Tidy s) :
    Tidies (execRegRead c s) := by
  unfold execRegRead
  simp +contextual (maxDischargeDepth := 100) only [hs0, implies_true, ↓State.capRegRead_tidy, ↓State.startCap_tidy, ↓tidies_core]

theorem State.capRegWrite_tidy (s : State) (c : CapRef) (bs : List Byte) (hs0 : Tidy s) :
    Tidy (State.capRegWrite s c bs) := by
  unfold State.capRegWrite
  repeat' first
    | simp +contextual (maxDischargeDepth := 100) only [hs0, ↓State.failCap_tidy, ↓State.okCap_tidy, ↓State.regWrite_tidy]
    | refine tidy_ite ?_ ?_
    | split

theorem execRegWrite_tidy (c : CapRef) (s : State) (hs0 : Tidy s) :
    Tidies (execRegWrite c s) := by
  unfold execRegWrite
  simp +contextual (maxDischargeDepth := 100) only [hs0, implies_true, ↓State.capRegWrite_tidy, ↓State.startCap_tidy, ↓tidies_core]

theorem State.fetchBuffer_tidy (s : State) (c : CapRef) (bs : List Byte) (hs0 : Tidy s) :
    Tidy (State.fetchBuffer s c bs) := by
  unfold State.fetchBuffer
  simp +contextual (maxDischargeDepth := 100) only [hs0, ↓State.newReq_tidy, ↓State.setSegs_tidy]

theorem execConfigStage_tidy (c : CapRef) (s : State) (hs0 : Tidy s) :
    Tidies (execConfigStage c s) := by
  unfold execConfigStage
  simp +contextual (maxDischargeDepth := 100) only [hs0, ↓tidy_ite, implies_true, ↓State.failCap_tidy, ↓State.fetchBuffer_tidy, ↓State.okCap_tidy, ↓State.startCap_tidy, ↓tidies_core]

theorem State.stageOne_tidy (s : State) (p : Path) (e : Nat × BitVec 32) (hs0 : Tidy s) :
    Tidy (State.stageOne s p e).1 := by
  unfold State.stageOne
  split <;> simp +contextual (maxDischargeDepth := 100) only [hs0, ↓tidy_ite1, ↓State.writeNow_tidy, ↓State.writeShadowed_tidy]

theorem State.stageBuffer_tidy (s : State) (c : CapRef) (data : List Byte) (hs0 : Tidy s) :
    Tidy (State.stageBuffer s c data) := by
  unfold State.stageBuffer
  simp +contextual (maxDischargeDepth := 100) only [hs0, ↓tidy_ite, ↓foldl_tidy1, implies_true, ↓State.failCap_tidy, ↓State.okCap_tidy, ↓State.stageOne_tidy]

theorem execConfigCommit_tidy (c : CapRef) (s : State) (hs0 : Tidy s) :
    Tidies (execConfigCommit c s) := by
  unfold execConfigCommit
  repeat' first
    | assumption
    | simp +contextual (maxDischargeDepth := 100) only [hs0, implies_true, ↓State.commit_tidy, ↓State.failCap_tidy, ↓State.okCap_tidy, ↓State.updSlot_tidy]
    | refine tidy_ite ?_ ?_
    | split
    | with_reducible refine State.startCap_tidy _ _ _ _ ?_ ?_
    | refine tidies_next ?_
    | intro _

theorem execConfigDiscard_tidy (c : CapRef) (s : State) (hs0 : Tidy s) :
    Tidies (execConfigDiscard c s) := by
  unfold execConfigDiscard
  simp +contextual (maxDischargeDepth := 100) only [hs0, implies_true, ↓State.discard_tidy, ↓State.okCap_tidy, ↓State.startCap_tidy, ↓tidies_core]

theorem execFwStage_tidy (c : CapRef) (s : State) (hs0 : Tidy s) :
    Tidies (execFwStage c s) := by
  unfold execFwStage
  simp +contextual (maxDischargeDepth := 100) only [hs0, ↓tidy_ite, implies_true, ↓State.failCap_tidy, ↓State.fetchBuffer_tidy, ↓State.okCap_tidy, ↓State.startCap_tidy, ↓tidies_core]

theorem State.stagePage_tidy (s : State) (page : Nat) (data : List Byte) (hs0 : Tidy s) :
    Tidy (State.stagePage s page data) := by
  unfold State.stagePage
  simp +contextual (maxDischargeDepth := 100) only [hs0, ↓tidy_mk, tidy_regs, tidy_t1, tidy_t2, tidy_cf, ↓State.cfErased_tidy, ↓State.cfStore_tidy, ↓State.countBy_tidy]

theorem State.stageImage_tidy (s : State) (c : CapRef) (off : Nat) (data : List Byte) (hs0 : Tidy s) :
    Tidy (State.stageImage s c off data) := by
  unfold State.stageImage
  simp +contextual (maxDischargeDepth := 100) only [hs0, ↓tidy_mk, tidy_regs, tidy_t1, tidy_t2, tidy_cf, ↓tidy_ite, ↓foldl_tidy, implies_true, ↓State.cfErased_tidy, ↓State.failCap_tidy, ↓State.okCap_tidy, ↓State.stagePage_tidy]

theorem execFwActivate_tidy (c : CapRef) (s : State) (hs0 : Tidy s) :
    Tidies (execFwActivate c s) := by
  unfold execFwActivate
  repeat' first
    | assumption
    | simp +contextual (maxDischargeDepth := 100) only [hs0, implies_true, ↓State.failCap_tidy, ↓State.fwActivate_tidy, ↓State.handAll_tidy, ↓State.okCap_tidy]
    | refine tidy_ite ?_ ?_
    | split
    | with_reducible refine State.startCap_tidy _ _ _ _ ?_ ?_
    | refine tidies_next ?_
    | intro _

theorem State.bufferArrived_tidy (s : State) (c : CapRef) (seg : Nat) (data : List Byte) (hs0 : Tidy s) :
    Tidy (State.bufferArrived s c seg data) := by
  unfold State.bufferArrived
  repeat' split
  all_goals simp +contextual (maxDischargeDepth := 100) only [hs0, ↓State.segTxn_tidy, ↓State.stageBuffer_tidy, ↓State.stageImage_tidy]

theorem State.readAnswered_tidy (s : State) (n : Nat) (kind : ReqKind) (data : List Byte) (hs0 : Tidy s) :
    Tidy (State.readAnswered s n kind data) := by
  unfold State.readAnswered
  split <;> simp +contextual (maxDischargeDepth := 100) only [hs0, ↓State.bind_tidy, ↓State.bufferArrived_tidy, ↓State.fetched_tidy]

theorem State.readResponse_tidy (s : State) (n : Nat) (q : Qp) (p : Pkt) (pos : Pos) (data : List Byte) (hs0 : Tidy s) :
    Tidy (State.readResponse s n q p pos data) := by
  unfold State.readResponse
  split <;> simp +contextual (maxDischargeDepth := 100) only [hs0, ↓tidy_ite, ↓State.pumpReqs_tidy, ↓State.readAnswered_tidy, ↓State.setReqs_tidy, ↓State.settle_tidy, ↓State.updQp_tidy]

theorem execRdmaReadResponse_tidy (p : Pkt) (pos : Pos) (data : List Byte) (s : State) (hs0 : Tidy s) :
    Tidies (execRdmaReadResponse p pos data s) := by
  unfold execRdmaReadResponse
  simp +contextual (maxDischargeDepth := 100) only [hs0, implies_true, ↓State.readResponse_tidy, ↓State.reqSide_tidy]

end Sys2Proof.Machine
end

