-- ==== Sys2Proof/Tests/Slice0.lean ====
section
/-! SUPPORT. Sys2Proof/Tests/Slice0.lean: small states that meet the hypotheses of the statements of Obligations.lean, clause by
clause; the terms that WellFormed refuses; and values computed by hand from the spec's own words. -/

namespace Sys2Proof.Tests

open Sys2Proof.Machine

set_option Elab.async false

/-! ### Small states -/

/-- A state with some register fields set. -/
def sets (l : List (Field × Nat)) (s : State) : State := l.foldl (fun s e => s.put e.1 e.2) s

/-- A region of 2 MiB at 0, a key of all rights to it, a connection that expects PSN 0. -/
def region0 : Region :=
  { home := 0, pd := 0, volatile := false, dflush := false, mirror := false, failqp := false, len := 2097152, maxRights := 31,
    keyDomain := 0 }
def key1 : Key := { tag := 0, region := 0, off := 0, len := 2097152, rights := 31 }
def qp0 : Qp := { home := 0, st := .rts, port := some 0 }

/-- A chip in service: home set 0 is active and SOLO here, port 0 is up, QP 2 is connected, key 0x100 names region 0. -/
def up : State :=
  (sets [(Fld.PWS_STATUS_SEQ, 2), (Fld.CFL_BOOTINFO_STEP, 11), (Fld.GLB_STATUS_IN_SERVICE, 1), (Fld.PRT_STATUS_LINK_UP 0, 1),
    (Fld.TRN_CTRL_ENABLE, 1), (Fld.TWN_STATUS_ROLE0, 1)]
    { net := { qps := [(2, qp0)] }, twin := { homes := [{ token := true }, {}] }, boot := { released := true },
      prot := { regions := [(0, region0)], keys := [(1, key1)], pds := [(0, { en := true, admin := true })], cache := [(1, [1])] } }).setReg
    (Reg.TRN_SVC_IP4 0 0) 1

/-- A frame for QP 2 at service address 1. -/
def pkt0 : Pkt := { port := 0, dst := 1, qpn := 2 }

/-! ### Hypotheses that are not decided as they stand -/

theorem ok_of {x : Except Nat Key} {e : Key} (h : x.toOption = some e) : x = .ok e := by
  cases x with
  | error n => cases h
  | ok k => cases h; rfl

theorem admits_of {u : State} {p : Pkt} {q : Qp} {key : BitVec 32} {off len right : Nat} {x : Extent} {e : Key}
    (h : (u.isAperture p.qpn.toNat key = false ∧ (1 ≤ keyIndex key → keyIndex key ≤ 4194304 → u.cached (keyIndex key) = true) ∧
      u.prot.transit.contains (keyIndex key) = false ∧ (u.checkKey p.qpn.toNat q.pd q.home key off len right x).toOption = some e ∧
      u.slotFree (u.sliceOf p.qpn.toNat) = true)) : u.keyAdmits p q key off len right x e :=
  ⟨h.1, h.2.1, h.2.2.1, ok_of h.2.2.2.1, h.2.2.2.2⟩

theorem key_ok {s : State} {c : CapRef} {q : Qp} {key : BitVec 32} {off len right : Nat} {e : Key}
    (h : (s.checkKey c.qpn q.pd q.home key off len right (if len = 0 then .keyOnly else .whole)).toOption = some e) :
    s.capKeyOk c q key off len right e := ok_of h

theorem doorbell_of {s : State} {p : Pkt} {q : Qp} {key : BitVec 32} {off : BitVec 64} {v k slot : Nat} {x : Queue} (e : Key)
    (h : (s.stage2Ok p = true ∧ (s.stage2Out p).qp p.qpn.toNat = some q ∧ expected q p = true ∧ q.openMsg = none ∧ padOk p 8 = true) ∧
      (off.toNat = 32 * k + slot ∧ slot % 8 = 0 ∧ slot < 24 ∧ (s.stage2Out p).isAperture p.qpn.toNat key = true) ∧
      ((s.stage2Out p).checkKey p.qpn.toNat q.pd q.home key off.toNat 8 rWrite .whole).toOption = some e ∧
      (8 ≤ q.pmtu ∧ (s.stage2Out p).queue p.qpn.toNat k = some x ∧ x.live = true ∧ doorbellValid x k slot v = true ∧
        (s.stage2Out p).mirrors q.home = false)) : s.doorbellIn p q key off v k slot x :=
  ⟨h.1.1, h.1.2.1, h.1.2.2.1, h.1.2.2.2.1, h.1.2.2.2.2, h.2.1.1, h.2.1.2.1, h.2.1.2.2.1, h.2.1.2.2.2, ⟨e, ok_of h.2.2.1⟩,
    h.2.2.2.1, h.2.2.2.2.1, h.2.2.2.2.2.1, h.2.2.2.2.2.2.1, h.2.2.2.2.2.2.2⟩


theorem witness_StepRunsTheFrontCommand : ∃ (s : State) (c : Instr) (rest : List Instr), s.pending = c :: rest :=
  ⟨{ pending := [.lcDisable] }, .lcDisable, [], by decide +kernel⟩

theorem witness_QueueIsFirstInFirstOut :
    (∃ (s t : State) (i : Instr), exec i s = .next t) ∧
    (∃ (s t : State) (c : Instr) (rest : List Instr), s.pending = c :: rest ∧ step s = .next t) ∧
    (∃ (s : State), s.pending = []) :=
  ⟨⟨.reset, .reset, .lcDisable, rfl⟩,
   ⟨{ pending := [.lcDisable] }, .reset, .lcDisable, [], rfl, rfl⟩,
   ⟨.reset, by decide +kernel⟩⟩

theorem witness_FusesAreOneTime :
    (∃ (s t : State) (k : _), step s = .next t ∧ s.sealing.root = some k) ∧
    (∃ (s t : State) (k : _), step s = .next t ∧ s.dbg.key = some k) :=
  ⟨⟨{ sealing := { root := some [] } }, { now := 1, sealing := { root := some [] } }, [], rfl, rfl⟩,
   ⟨{ dbg := { key := some [] } }, { now := 1, dbg := { key := some [] } }, [], rfl, rfl⟩⟩

theorem witness_CanonicalFormsAreKept : ∃ (s t : State), s.memoryOk = true ∧ s.bankOk = true ∧ step s = .next t :=
  ⟨.reset, { now := 1 }, by decide, by decide, rfl⟩

theorem witness_CommandsCompleteExactlyWhenWellFormed :
    (∃ (i : Instr), i.wellFormed = true) ∧
    (∃ (i : Instr), i.wellFormed = false) :=
  ⟨⟨.lcDisable, by decide +kernel⟩,
   ⟨.healData 0 0 0 0 [] 0, by decide +kernel⟩⟩

theorem witness_CoreCommandsNeedTheCore : ∃ (i : Instr) (s : State), i.wellFormed = true ∧ i.inCore = true ∧ s.coreRuns = false :=
  ⟨.lcDisable, .reset, by decide +kernel⟩

theorem witness_CommandsKeepTheOtherUnits :
    (∃ (i : Instr) (s t : State) (p : Part), exec i s = .next t ∧ p ∉ i.parts) ∧
    (∃ (i : Instr) (s t : State) (blocks : List Nat) (a : _), exec i s = .next t ∧ i.regBlocks = some blocks ∧ a / 65536 ∉ blocks) :=
  ⟨⟨.lcDisable, .reset, .reset, .net, rfl, by decide⟩,
   ⟨.lcDisable, .reset, .reset, [0x1A], 0, rfl, by decide, by decide⟩⟩

def cm0 : Cm := { pkt := { pkt0 with qpn := 1 }, localId := 7, src := 9 }
/-- The QP of connection 7 from address 9, in Ready-to-receive; and one whose DREQ the device sent. -/
def upRtr : State := up.updQp 2 (fun q => { q with st := .rtr, commId := 7, src := 9 })
def upDreq : State := up.updQp 2 (fun q => { q with commId := 7, src := 9, dreqSent := true })

theorem witness_ConnectionManagerActs :
    (∃ (s u : State) (c : Cm) (m : ReqMsg) (h : Nat), s.cmIn c = (u, some h) ∧ u.cmQp c = none ∧ u.accepting h = true ∧ u.linkUp c.pkt.port.val = true ∧ 1024 ≤ m.pmtu ∧ u.net.qps.length < 1048576 ∧ capField (padTo 92 m.priv) 0 2 ≠ 1 ∧ (u.pd 0).en = true ∧ (u.pd 0).cred = 0) ∧
    (∃ (s u : State) (c : Cm) (n : Nat) (q : Qp), s.cmFor c u n q ∧ q.st = .rtr) ∧
    (∃ (s u : State) (c : Cm) (n : Nat) (q : Qp), s.cmFor c u n q ∧ q.st = .rtr) ∧
    (∃ (s u : State) (c : Cm) (n : Nat) (q : Qp), s.cmFor c u n q ∧ q.receives = true ∧ u.linkUp c.pkt.port.val = true) ∧
    (∃ (s u : State) (c : Cm) (n : Nat) (q : Qp), s.cmFor c u n q ∧ q.dreqSent = true) ∧
    (∃ (s u : State) (c : Cm) (h : Nat), s.cmIn c = (u, some h)) :=
  ⟨⟨up, (up.cmIn cm0).1, cm0, { hostQpn := 0, hostPsn := 0, pmtu := 1024, respRes := 16, initDepth := 16, priv := [] }, 0, by decide +kernel⟩,
   ⟨upRtr, (upRtr.cmIn cm0).1, cm0, 2, { qp0 with st := .rtr, commId := 7, src := 9 }, by unfold State.cmFor; decide +kernel⟩,
   ⟨upRtr, (upRtr.cmIn cm0).1, cm0, 2, { qp0 with st := .rtr, commId := 7, src := 9 }, by unfold State.cmFor; decide +kernel⟩,
   ⟨upRtr, (upRtr.cmIn cm0).1, cm0, 2, { qp0 with st := .rtr, commId := 7, src := 9 }, by unfold State.cmFor; decide +kernel⟩,
   ⟨upDreq, (upDreq.cmIn cm0).1, cm0, 2, { qp0 with commId := 7, src := 9, dreqSent := true }, by unfold State.cmFor; decide +kernel⟩,
   ⟨up, (up.cmIn cm0).1, cm0, 0, by decide +kernel⟩⟩

/-- The context of QP 2 as stage 3 finds it, and requests on the first 8 bytes of region 0. -/
def reth8 : Reth := { va := 0, key := 0x100, dlen := 8 }

theorem witness_KeyRequestsEnterTheTransactionTable :
    (∃ (s : State) (p : Pkt) (q : Qp) (r : Reth) (e : Key), s.stage2Ok p = true ∧ (s.stage2Out p).qp p.qpn.toNat = some q ∧ expected q p = true ∧ q.openMsg = none ∧ r.dlen.toNat ≤ 2147483648 ∧ (s.stage2Out p).keyAdmits p q r.key r.va.toNat r.dlen.toNat rRead (if r.dlen.toNat = 0 then .keyOnly else .whole) e) ∧
    (∃ (s : State) (p : Pkt) (q : Qp) (va : BitVec 64) (key : BitVec 32) (e : Key), s.stage2Ok p = true ∧ (s.stage2Out p).qp p.qpn.toNat = some q ∧ expected q p = true ∧ q.openMsg = none ∧ va.toNat % 8 = 0 ∧ (s.stage2Out p).keyAdmits p q key va.toNat 8 rAtomic .whole e) ∧
    (∃ (s : State) (p : Pkt) (q : Qp) (va : BitVec 64) (key : BitVec 32) (e : Key), s.stage2Ok p = true ∧ (s.stage2Out p).qp p.qpn.toNat = some q ∧ expected q p = true ∧ q.openMsg = none ∧ va.toNat % 8 = 0 ∧ (s.stage2Out p).keyAdmits p q key va.toNat 8 rAtomic .whole e) ∧
    (∃ (s : State) (p : Pkt) (q : Qp) (r : Reth) (data : List Byte) (e : Key), s.stage2Ok p = true ∧ (s.stage2Out p).qp p.qpn.toNat = some q ∧ expected q p = true ∧ q.openMsg = none ∧ data.length = 8 ∧ r.dlen.toNat = 8 ∧ r.va.toNat % 8 = 0 ∧ (s.stage2Out p).keyAdmits p q r.key r.va.toNat 8 rAtomicWrite .whole e) ∧
    (∃ (s : State) (p : Pkt) (q : Qp) (r : Reth) (global persist range : Bool) (e : Key), s.stage2Ok p = true ∧ (s.stage2Out p).qp p.qpn.toNat = some q ∧ expected q p = true ∧ q.openMsg = none ∧ (global || persist) = true ∧ r.dlen.toNat ≤ 2147483648 ∧ (s.stage2Out p).keyAdmits p q r.key r.va.toNat r.dlen.toNat rFlush (if range then .whole else .noBounds) e) :=
  ⟨⟨up, pkt0, qp0, reth8, key1, by decide +kernel, by decide +kernel, by decide +kernel, by decide +kernel, by decide +kernel, admits_of (by decide +kernel)⟩,
   ⟨up, pkt0, qp0, 0, 0x100, key1, by decide +kernel, by decide +kernel, by decide +kernel, by decide +kernel, by decide +kernel, admits_of (by decide +kernel)⟩,
   ⟨up, pkt0, qp0, 0, 0x100, key1, by decide +kernel, by decide +kernel, by decide +kernel, by decide +kernel, by decide +kernel, admits_of (by decide +kernel)⟩,
   ⟨up, pkt0, qp0, reth8, [1, 2, 3, 4, 5, 6, 7, 8], key1, by decide +kernel, by decide +kernel, by decide +kernel, by decide +kernel, by decide +kernel, by decide +kernel, by decide +kernel, admits_of (by decide +kernel)⟩,
   ⟨up, pkt0, qp0, reth8, true, false, true, key1, by decide +kernel, by decide +kernel, by decide +kernel, by decide +kernel, by decide +kernel, by decide +kernel, admits_of (by decide +kernel)⟩⟩

/-- A connection of a small path MTU with a sink of four 64-byte slots at 4,096; one with an RDMA WRITE open. -/
def sink0 : Sink := { key := 0x100, region := 0, base := 4096, slotLog2 := 6, countLog2 := 2 }
def qpSink : Qp := { qp0 with pmtu := 8, sink := some sink0 }
def qpOpen : Qp := { qp0 with pmtu := 8, openMsg := some { isSend := false, region := 0, next := 8, left := 8, key := 0x100 } }
def upSink : State := up.updQp 2 (fun _ => qpSink)
def upOpen : State := up.updQp 2 (fun _ => qpOpen)
def bytes8 : List Byte := [1, 2, 3, 4, 5, 6, 7, 8]

theorem witness_WritesAndSendsEnterTheTransactionTable :
    (∃ (s : State) (p : Pkt) (q : Qp) (r : Reth) (data : List Byte) (e : Key), s.stage2Ok p = true ∧ (s.stage2Out p).qp p.qpn.toNat = some q ∧ expected q p = true ∧ q.openMsg = none ∧ data.length = r.dlen.toNat ∧ data.length ≤ q.pmtu ∧ data.length ≤ 2147483648 ∧ padOk p data.length = true ∧ (s.stage2Out p).keyAdmits p q r.key r.va.toNat data.length rWrite (if data.length = 0 then .keyOnly else .whole) e) ∧
    (∃ (s : State) (p : Pkt) (q : Qp) (r : Reth) (data : List Byte) (e : Key), s.stage2Ok p = true ∧ (s.stage2Out p).qp p.qpn.toNat = some q ∧ expected q p = true ∧ q.openMsg = none ∧ data.length = q.pmtu ∧ 0 < q.pmtu ∧ q.pmtu < r.dlen.toNat ∧ r.dlen.toNat ≤ 2147483648 ∧ padOk p data.length = true ∧ (s.stage2Out p).keyAdmits p q r.key r.va.toNat r.dlen.toNat rWrite .whole e) ∧
    (∃ (s : State) (p : Pkt) (q : Qp) (m : OpenMsg) (data : List Byte), s.stage2Ok p = true ∧ (s.stage2Out p).qp p.qpn.toNat = some q ∧ expected q p = true ∧ q.openMsg = some m ∧ m.isSend = false ∧ m.recheck = false ∧ data.length = m.left ∧ 0 < data.length ∧ data.length ≤ q.pmtu ∧ padOk p data.length = true ∧ (s.stage2Out p).slotFree ((s.stage2Out p).sliceOf p.qpn.toNat) = true) ∧
    (∃ (s : State) (p : Pkt) (q : Qp) (k : Sink) (r : Reth) (e : Key), s.stage2Ok p = true ∧ (s.stage2Out p).qp p.qpn.toNat = some q ∧ expected q p = true ∧ q.openMsg = none ∧ r.dlen.toNat = 0 ∧ padOk p 0 = true ∧ q.sink = some k ∧ (s.stage2Out p).sinkFull k = false ∧ (s.stage2Out p).keyAdmits p q r.key r.va.toNat 0 rWrite .keyOnly e) ∧
    (∃ (s : State) (p : Pkt) (q : Qp) (k : Sink) (data : List Byte) (e : Key), s.stage2Ok p = true ∧ (s.stage2Out p).qp p.qpn.toNat = some q ∧ expected q p = true ∧ q.openMsg = none ∧ data.length ≤ q.pmtu ∧ 0 < data.length ∧ padOk p data.length = true ∧ q.sink = some k ∧ (s.stage2Out p).sinkFull k = false ∧ data.length + 16 ≤ 2 ^ k.slotLog2 ∧ (s.stage2Out p).keyAdmits p q k.key (k.slotAddr - k.region) (2 ^ k.slotLog2) rWrite .whole e) ∧
    (∃ (s : State) (p : Pkt) (q : Qp), s.stage2Ok p = true ∧ (s.stage2Out p).qp p.qpn.toNat = some q ∧ expected q p = true ∧ (s.stage2Out p).excUsed ((s.stage2Out p).sliceOf p.qpn.toNat) < 1024) :=
  ⟨⟨upSink, pkt0, qpSink, reth8, bytes8, key1, by decide +kernel, by decide +kernel, by decide +kernel, by decide +kernel, by decide +kernel, by decide +kernel, by decide +kernel, by decide +kernel, admits_of (by decide +kernel)⟩,
   ⟨upSink, pkt0, qpSink, { reth8 with dlen := 16 }, bytes8, key1, by decide +kernel, by decide +kernel, by decide +kernel, by decide +kernel, by decide +kernel, by decide +kernel, by decide +kernel, by decide +kernel, by decide +kernel, admits_of (by decide +kernel)⟩,
   ⟨upOpen, pkt0, qpOpen, { isSend := false, region := 0, next := 8, left := 8, key := 0x100 }, bytes8, by decide +kernel⟩,
   ⟨upSink, pkt0, qpSink, sink0, { reth8 with dlen := 0 }, key1, by decide +kernel, by decide +kernel, by decide +kernel, by decide +kernel, by decide +kernel, by decide +kernel, by decide +kernel, by decide +kernel, admits_of (by decide +kernel)⟩,
   ⟨upSink, pkt0, qpSink, sink0, bytes8, key1, by decide +kernel, by decide +kernel, by decide +kernel, by decide +kernel, by decide +kernel, by decide +kernel, by decide +kernel, by decide +kernel, by decide +kernel, by decide +kernel, admits_of (by decide +kernel)⟩,
   ⟨up, pkt0, qp0, by decide +kernel⟩⟩

/-- A connection that has answered an atomic of PSN 0 with 9. -/
def qpAtomic : Qp := { qp0 with epsn := 1, cpsn := 0, atomics := [(0, 9)] }

theorem witness_DuplicateAtomicsAreNotExecutedTwice :
    (∃ (s : State) (p : Pkt) (q : Qp) (old : BitVec 64), s.stage2Ok p = true ∧ (s.stage2Out p).qp p.qpn.toNat = some q ∧ q.receives = true ∧ q.closing = false ∧ q.skipped = [] ∧ 0 < psnDist p.psn q.epsn ∧ psnDist p.psn q.epsn ≤ 8388608 ∧ q.ranges.any (fun r => rangeHolds r p.psn && r.kind != .atomic) = false ∧ psnLe p.psn q.cpsn = true ∧ q.atomics.find? (fun e => decide (e.1 = p.psn)) = some (p.psn, old) ∧ (s.stage2Out p).linkUp ((s.stage2Out p).sendPort q) = true) ∧
    (∃ (s : State) (p : Pkt) (q : Qp) (old : BitVec 64), s.stage2Ok p = true ∧ (s.stage2Out p).qp p.qpn.toNat = some q ∧ q.receives = true ∧ q.closing = false ∧ q.skipped = [] ∧ 0 < psnDist p.psn q.epsn ∧ psnDist p.psn q.epsn ≤ 8388608 ∧ q.ranges.any (fun r => rangeHolds r p.psn && r.kind != .atomic) = false ∧ psnLe p.psn q.cpsn = true ∧ q.atomics.find? (fun e => decide (e.1 = p.psn)) = some (p.psn, old) ∧ (s.stage2Out p).linkUp ((s.stage2Out p).sendPort q) = true) :=
  ⟨⟨up.updQp 2 (fun _ => qpAtomic), pkt0, qpAtomic, 9, by decide +kernel⟩,
   ⟨up.updQp 2 (fun _ => qpAtomic), pkt0, qpAtomic, 9, by decide +kernel⟩⟩

/-- A connection with one READ of the device under way, of one packet or of two. -/
def read1 : DevReq := { psn := 1, count := 1, kind := .queueTable, hostAddr := 0, hostKey := 0, rlen := 8, sent := true }
def read2 : DevReq := { read1 with count := 2, rlen := 16 }
def qpRead (r : DevReq) : Qp := { qp0 with pmtu := 8, oldest := 1, spsn := 4, reqs := [r] }
def upRead (r : DevReq) : State := up.updQp 2 (fun _ => qpRead r)
def pkt1 : Pkt := { pkt0 with psn := 1 }

theorem witness_RepliesMoveTheRequester :
    (∃ (s u : State) (p : Pkt) (q : Qp), s.replyIn p u q) ∧
    (∃ (s u : State) (p : Pkt) (q : Qp) (rest : List DevReq), s.replyIn p u q ∧ psnDist q.oldest p.psn ≤ psnDist q.oldest q.spsn ∧ rest = q.reqs.filter (fun r => decide (psnDist q.oldest p.psn < psnDist q.oldest r.psn + r.count)) ∧ rest ≠ [] ∧ q.retry < u.sliceGet (u.sliceOf p.qpn.toNat) Fld.TRN_REQ_TIMER_RETRY_CNT) ∧
    (∃ (s u : State) (p : Pkt) (q : Qp), s.replyIn p u q) ∧
    (∃ (s u : State) (p : Pkt) (q : Qp) (r : DevReq) (rest : List DevReq) (data : List Byte), s.replyIn p u q ∧ ackReqs (p.psn - 1) q.reqs = r :: rest ∧ r.sent = true ∧ r.kind.isRead = true ∧ r.psn = p.psn ∧ r.got = [] ∧ data.length = min q.pmtu r.rlen ∧ 1 < r.count) ∧
    (∃ (s u : State) (p : Pkt) (q : Qp) (r : DevReq) (rest : List DevReq) (data : List Byte), s.replyIn p u q ∧ ackReqs (p.psn - 1) q.reqs = r :: rest ∧ r.sent = true ∧ r.kind.isRead = true ∧ r.psn = p.psn ∧ r.got = [] ∧ data.length = min q.pmtu r.rlen ∧ r.count = 1) ∧
    (∃ (s u w : State) (p : Pkt) (q : Qp), s.replyIn p u q ∧ w = u.count Reg.TRN_CNP_RX ∧ w.rpField p.qpn.toNat Fld.TRN_CTRL_RP_EN = 0) ∧
    (∃ (s u w : State) (p : Pkt) (q : Qp), s.replyIn p u q ∧ w = u.count Reg.TRN_CNP_RX ∧ w.rpField p.qpn.toNat Fld.TRN_CTRL_RP_EN ≠ 0 ∧ q.rate.limited = false) :=
  ⟨⟨upRead read1, (upRead read1).stage1 pkt1, pkt1, qpRead read1, by unfold State.replyIn; decide +kernel⟩,
   ⟨upRead read1, (upRead read1).stage1 pkt1, pkt1, qpRead read1, [read1], by unfold State.replyIn; decide +kernel⟩,
   ⟨upRead read1, (upRead read1).stage1 pkt1, pkt1, qpRead read1, by unfold State.replyIn; decide +kernel⟩,
   ⟨upRead read2, (upRead read2).stage1 pkt1, pkt1, qpRead read2, read2, [], bytes8, by unfold State.replyIn; decide +kernel⟩,
   ⟨upRead read1, (upRead read1).stage1 pkt1, pkt1, qpRead read1, read1, [], bytes8, by unfold State.replyIn; decide +kernel⟩,
   ⟨up.put Fld.TRN_CTRL_RP_EN 0, ((up.put Fld.TRN_CTRL_RP_EN 0).stage1 pkt0), ((up.put Fld.TRN_CTRL_RP_EN 0).stage1 pkt0).count Reg.TRN_CNP_RX, pkt0, qp0, by unfold State.replyIn; decide +kernel⟩,
   ⟨up.put Fld.TRN_CTRL_RP_EN 1, ((up.put Fld.TRN_CTRL_RP_EN 1).stage1 pkt0), ((up.put Fld.TRN_CTRL_RP_EN 1).stage1 pkt0).count Reg.TRN_CNP_RX, pkt0, qp0, by unfold State.replyIn; decide +kernel⟩⟩

/-- Home set 0 also has the service address 1 of IPv6, and home set 1, which the chip does not act for, 2. -/
def up6 : State := (up.setReg (Reg.TRN_SVC_IP6 0 0 3) 1).setReg (Reg.TRN_SVC_IP6 1 0 3) 2
/-- 1,000 echo replies have left in this second. -/
def upEcho : State := up.updPort 0 (fun x => { x with echoes := 1000 })

theorem witness_PortFramesAreAnswered :
    (∃ (s u : State) (p : Fin 8), s.coreRuns = true ∧ s.portTakes p.val = true ∧ u = s.count (Reg.PRT_RX_FRAMES p.val)) ∧
    (∃ (s u : State) (p : Fin 8) (ip : BitVec 32) (h : _), s.coreRuns = true ∧ s.portTakes p.val = true ∧ u = s.count (Reg.PRT_RX_FRAMES p.val) ∧ u.svcHome false ip.toNat = some h ∧ u.acts h = true) ∧
    (∃ (s u : State) (p : Fin 8) (ip : BitVec 32), s.coreRuns = true ∧ s.portTakes p.val = true ∧ u = s.count (Reg.PRT_RX_FRAMES p.val) ∧ u.svcHome false ip.toNat = none) ∧
    (∃ (s u : State) (p : Fin 8) (ip : BitVec 128) (h : _), s.coreRuns = true ∧ s.portTakes p.val = true ∧ u = s.count (Reg.PRT_RX_FRAMES p.val) ∧ u.svcHome true ip.toNat = some h ∧ u.acts h = true) ∧
    (∃ (s u : State) (p : Fin 8) (ip : BitVec 128) (h : _), s.coreRuns = true ∧ s.portTakes p.val = true ∧ u = s.count (Reg.PRT_RX_FRAMES p.val) ∧ u.svcHome true ip.toNat = some h ∧ u.acts h = false) ∧
    (∃ (s u : State) (p : Fin 8) (v6 : Bool) (ip h : Nat), s.coreRuns = true ∧ s.portTakes p.val = true ∧ u = s.count (Reg.PRT_RX_FRAMES p.val) ∧ u.svcHome v6 ip = some h ∧ u.acts h = true ∧ u.now < (u.port p.val).echoAt + 1000000 ∧ (u.port p.val).echoes < 1000) ∧
    (∃ (s u : State) (p : Fin 8) (v6 : Bool) (ip h : Nat), s.coreRuns = true ∧ s.portTakes p.val = true ∧ u = s.count (Reg.PRT_RX_FRAMES p.val) ∧ u.svcHome v6 ip = some h ∧ u.acts h = true ∧ u.now < (u.port p.val).echoAt + 1000000 ∧ 1000 ≤ (u.port p.val).echoes) ∧
    (∃ (s : State) (p : Fin 8), s.coreRuns = true ∧ s.portTakes p.val = true) :=
  ⟨⟨up, up.count (Reg.PRT_RX_FRAMES 0), 0, by decide +kernel⟩,
   ⟨up, up.count (Reg.PRT_RX_FRAMES 0), 0, 1, 0, by decide +kernel⟩,
   ⟨up, up.count (Reg.PRT_RX_FRAMES 0), 0, 5, by decide +kernel⟩,
   ⟨up6, up6.count (Reg.PRT_RX_FRAMES 0), 0, 1, 0, by decide +kernel⟩,
   ⟨up6, up6.count (Reg.PRT_RX_FRAMES 0), 0, 2, 1, by decide +kernel⟩,
   ⟨up, up.count (Reg.PRT_RX_FRAMES 0), 0, false, 1, 0, by decide +kernel⟩,
   ⟨upEcho, upEcho.count (Reg.PRT_RX_FRAMES 0), 0, false, 1, 0, by decide +kernel⟩,
   ⟨up, 0, by decide +kernel⟩⟩

/-- Port 1 trains; class 0 of port 0 is lossless and paused by the partner. -/
def upTrain : State := (up.put (Fld.PRT_MODE_RATE 1) 1).updPort 1 (fun x => { x with training := some 0 })
def upPaused (seen : Bool) : State :=
  (up.put (Fld.PRT_LOSSLESS_LL_MASK 0) 1).updPort 0 (fun x => { x with classes := [{ paused := some 0, stormSeen := seen }] })

theorem witness_PortLinksAndPause :
    (∃ (s : State) (p : Fin 8), s.coreRuns = true ∧ s.get (Fld.PRT_MODE_RATE p.val) ≠ 0 ∧ s.linkUp p.val = false ∧ (s.port p.val).training.isSome = true) ∧
    (∃ (s : State) (p : Fin 8), s.coreRuns = true ∧ s.linkUp p.val = true) ∧
    (∃ (s : State) (p c : Fin 8), s.coreRuns = true ∧ (s.cls p.val c.val).xoff = true ∧ s.linkUp p.val = true) ∧
    (∃ (s : State) (p c : Fin 8), s.coreRuns = true ∧ s.lossless p.val c.val = true ∧ (s.cls p.val c.val).paused.isSome = true ∧ (s.cls p.val c.val).stormSeen = false) ∧
    (∃ (s : State) (p c : Fin 8), s.coreRuns = true ∧ s.lossless p.val c.val = true ∧ (s.cls p.val c.val).paused.isSome = true ∧ (s.cls p.val c.val).stormSeen = true) :=
  ⟨⟨upTrain, 1, by decide +kernel⟩,
   ⟨up, 0, by decide +kernel⟩,
   ⟨up.updPort 0 (fun x => { x with classes := [{ xoffBuf := true }] }), 0, 0, by decide +kernel⟩,
   ⟨upPaused false, 0, 0, by decide +kernel⟩,
   ⟨upPaused true, 0, 0, by decide +kernel⟩⟩

theorem witness_QpTimersAct :
    (∃ (s : State) (n : BitVec 24) (q : Qp), s.coreRuns = true ∧ s.qp n.toNat = some q ∧ q.uncovered ≠ 0 ∧ q.receives = true ∧ s.acts q.home = true ∧ s.linkUp (s.sendPort q) = true) ∧
    (∃ (s : State) (n : BitVec 24) (q : Qp), s.coreRuns = true ∧ s.qp n.toNat = some q ∧ q.reqs.any (·.sent) = true ∧ s.acts q.home = true ∧ q.retry < s.sliceGet (s.sliceOf n.toNat) Fld.TRN_REQ_TIMER_RETRY_CNT) ∧
    (∃ (s : State) (n : BitVec 24) (q : Qp), s.coreRuns = true ∧ s.qp n.toNat = some q ∧ q.reqs.any (·.sent) = true ∧ s.acts q.home = true ∧ s.sliceGet (s.sliceOf n.toNat) Fld.TRN_REQ_TIMER_RETRY_CNT ≤ q.retry) ∧
    (∃ (s : State) (n : BitVec 24) (q : Qp), s.coreRuns = true ∧ s.qp n.toNat = some q ∧ q.st = .error) ∧
    (∃ (s : State) (n : BitVec 24) (q : Qp), s.coreRuns = true ∧ s.qp n.toNat = some q ∧ q.st ≠ .error) ∧
    (∃ (s : State) (n : BitVec 24) (q : Qp), s.coreRuns = true ∧ s.qp n.toNat = some q ∧ q.rate.limited = true ∧ s.rpField n.toNat Fld.TRN_CTRL_RP_EN ≠ 0) :=
  ⟨⟨up.updQp 2 (fun q => { q with uncovered := 1 }), 2, { qp0 with uncovered := 1 }, by decide +kernel⟩,
   ⟨upRead read1, 2, qpRead read1, by decide +kernel⟩,
   ⟨(upRead read1).updQp 2 (fun q => { q with retry := 7 }), 2, { qpRead read1 with retry := 7 }, by decide +kernel⟩,
   ⟨up.updQp 2 (fun q => { q with st := .error }), 2, { qp0 with st := .error }, by decide +kernel⟩,
   ⟨up, 2, qp0, by decide +kernel⟩,
   ⟨(up.put Fld.TRN_CTRL_RP_EN 1).updQp 2 (fun q => { q with rate := { limited := true } }), 2, { qp0 with rate := { limited := true } }, by decide +kernel⟩⟩

/-- A packet of QP 2 that waits. -/
def held0 (w : HoldWhy) : Held := { qpn := 2, slice := 2, pkt := pkt0, req := .read { va := 0, key := 0x100, dlen := 8 }, why := w }
def upHeld (l : List Held) (s : State) : State := { s with net := { s.net with held := l } }
/-- QP 3 is resident and idle, QP 2 spilled. -/
def upSpilled : State := upHeld [held0 .context] { up with net := { up.net with qps := [(2, { qp0 with where_ := .spilled }), (3, qp0)] } }
def txn2 : Txn := { id := 1, ord := 1, home := 0, qpn := 2, slice := 2, op := .read, len := 8, key := 0x100 }
def upTxn (t : Txn) : State := { up with net := { up.net with txns := [t], txnId := 2, ordNo := 2 } }
def upFull (n : Nat) : State := { up with net := { up.net with txns := List.replicate n txn2 } }
theorem full_slots (n : Nat) (h : 28672 ≤ n) : (upFull n).slotFree 2 = false := by
  simp [State.slotFree, State.slotsUsed, upFull, txn2]; exact h

theorem witness_WaitingPacketsGoOn :
    (∃ (s : State) (n : BitVec 24) (q : Qp), s.coreRuns = true ∧ s.qp n.toNat = some q ∧ q.where_ = .fetching) ∧
    (∃ (s : State) (n : BitVec 24) (q : Qp), s.coreRuns = true ∧ s.qp n.toNat = some q ∧ q.where_ = .spilling) ∧
    (∃ (s : State) (n : BitVec 24) (m : Nat) (q x : Qp), s.coreRuns = true ∧ s.qp n.toNat = some q ∧ s.qp m = some x ∧ m ≠ n.toNat ∧ q.where_ = .spilled ∧ s.net.held.any (fun h => decide (h.qpn = n.toNat) && h.why == .context) = true ∧ s.net.qps.filter s.idleContext = [(m, x)]) ∧
    (∃ (s : State) (k : BitVec 32), s.coreRuns = true ∧ s.net.held.any (fun h => h.why == .key && decide (keyIndex (s.heldKey h) = keyIndex k)) = true) ∧
    (∃ (s : State), s.coreRuns = true) ∧
    (∃ (s : State) (n : BitVec 24) (q : Qp) (h : Held), s.coreRuns = true ∧ s.qp n.toNat = some q ∧ s.net.held = [h] ∧ h.qpn = n.toNat ∧ h.why = .nakBuild) ∧
    (∃ (s : State) (k : Fin 8), s.coreRuns = true ∧ s.excUsed k.val < 1024) ∧
    (∃ (s : State) (k : Fin 8), s.coreRuns = true ∧ 1024 ≤ s.excUsed k.val) ∧
    (∃ (s : State) (k : Fin 8), s.coreRuns = true ∧ s.slotFree k.val = true) ∧
    (∃ (s : State) (k : Fin 8), s.coreRuns = true ∧ s.slotFree k.val = false) ∧
    (∃ (s : State), s.coreRuns = true ∧ s.net.steer.length = 8 ∧ s.trimmed = true) ∧
    (∃ (s : State), s.coreRuns = true ∧ s.net.steer.length = 8 ∧ s.trimmed = false ∧ s.net.steerWait = [] ∧ s.net.txns = []) ∧
    (∃ (s : State) (i : Fin 8), s.coreRuns = true ∧ s.net.steer.length = 8 ∧ s.trimmed = false ∧ s.net.steerWait = [] ∧ (s.net.txns.any (fun t => decide (t.slice = s.net.steer.getD i.val 0) && decide (steerIndex t.qpn = i.val))) = true) :=
  ⟨⟨up.updQp 2 (fun q => { q with where_ := .fetching }), 2, { qp0 with where_ := .fetching }, by decide +kernel⟩,
   ⟨up.updQp 2 (fun q => { q with where_ := .spilling }), 2, { qp0 with where_ := .spilling }, by decide +kernel⟩,
   ⟨upSpilled, 2, 3, { qp0 with where_ := .spilled }, qp0, by decide +kernel⟩,
   ⟨upHeld [held0 .key] up, 0x100, by decide +kernel⟩,
   ⟨up, by decide +kernel⟩,
   ⟨upHeld [held0 .nakBuild] up, 2, qp0, held0 .nakBuild, by decide +kernel⟩,
   ⟨up, 0, by decide +kernel⟩,
   ⟨upHeld (List.replicate 1024 (held0 .key)) up, 2, by decide +kernel⟩,
   ⟨up, 0, by decide +kernel⟩,
   ⟨upFull 28672, 2, by decide +kernel, full_slots _ (Nat.le_refl _)⟩,
   ⟨{ up.put Fld.GOV_STATUS_PSTATE 1 with gov := { up.gov with steer := [0, 1, 2, 3, 4, 5, 6, 7] } }, by decide +kernel⟩,
   ⟨up, by decide +kernel⟩,
   ⟨upTxn txn2, 2, by decide +kernel⟩⟩

/-- Unit 0 has a frame; a heal of it is outstanding. -/
def upFrame (f : Frame) : State := { up with tier := { up.tier with frames := [(0, f)], heals := [(0, 1)] } }
def frame0 : Frame := { valid := 0 }
def upLink : State := up.put Fld.TWN_STATUS_LINK_UP 1

theorem witness_TierFillsHealsAndDeadlines :
    (∃ (s : State) (u : Nat) (f : Frame), s.coreRuns = true ∧ s.frame u = some f ∧ f.filling = true) ∧
    (∃ (s : State) (id : Nat) (t : Txn) (r : Region), s.coreRuns = true ∧ s.txn id = some t ∧ s.region t.region = some r ∧ t.accepted = true ∧ t.placed = false ∧ t.op = .read) ∧
    (∃ (s : State) (u : Nat), s.coreRuns = true ∧ s.on Fld.TWN_STATUS_LINK_UP = true ∧ s.unitReadable u = true) ∧
    (∃ (s : State) (u : Nat), s.coreRuns = true ∧ s.on Fld.TWN_STATUS_LINK_UP = true ∧ s.unitReadable u = false) ∧
    (∃ (s : State) (h : Fin 2) (u n : Nat) (data : List Byte) (f : Frame), s.coreRuns = true ∧ data.length = 4096 ∧ s.tier.heals.contains (u, n) = true ∧ s.homeOfUnit u = some h.val ∧ s.frame u = some f) ∧
    (∃ (s : State) (h : Fin 2) (u n : Nat), s.coreRuns = true ∧ s.tier.heals.contains (u, n) = true ∧ s.homeOfUnit u = some h.val) ∧
    (∃ (s : State) (u : Nat), s.coreRuns = true ∧ s.frame u = none) :=
  ⟨⟨upFrame { frame0 with filling := true }, 0, { frame0 with filling := true }, by decide +kernel⟩,
   ⟨upTxn txn2, 1, txn2, region0, by decide +kernel⟩,
   ⟨upLink, 0, by decide +kernel⟩,
   ⟨{ upLink with tier := { up.tier with uncorr := [0] } }, 0, by decide +kernel⟩,
   ⟨upFrame frame0, 0, 0, 1, List.replicate 4096 0, frame0, by decide +kernel⟩,
   ⟨upFrame frame0, 0, 0, 1, by decide +kernel⟩,
   ⟨up, 0, by decide +kernel⟩⟩

/-- Home set 0 is PAIRED and one DATA frame of it is unconfirmed. -/
def upPaired : State := upLink.put Fld.TWN_STATUS_STATE0 3
def fence0 : Fence := { id := 1, region := 0, home := 0, kind := .withdraw, cap := none, begun := true }
def upFence (f : Fence) : State := { up with prot := { up.prot with fences := [f] } }
def stream0 : Stream :=
  { home := 0, pd := 0, tenant := 0, region := 0, base := 0, layerLen := 65536, layers := 4, window := 2, readers := [some 1, some 0] }
def upStream (x : Stream) : State :=
  { up.setReg Reg.TIER_STRM_STALL 1 with tier := { up.tier with streams := [(1, x)] } }
def cap0 : CapRef := { qpn := 2, queue := 1, slot := 0 }
def upPin (p : PinLoad) : State := { up with tier := { up.tier with pins := [p] } }

theorem witness_ConfirmsFencesAndStreams :
    (∃ (s : State) (h : Fin 2) (m : BitVec 48), s.coreRuns = true ∧ s.on Fld.TWN_STATUS_LINK_UP = true ∧ s.paired h.val = true ∧ s.cqi.recs = [] ∧ s.net.unconf.any (fun u => decide (u.home = h.val) && decide (u.mseq = m.toNat)) = true) ∧
    (∃ (s : State) (id : Nat) (f : Fence), s.coreRuns = true ∧ s.prot.fences.find? (fun f => decide (f.id = id)) = some f ∧ s.fenceDone f = true ∧ f.cap = none ∧ f.kind = .withdraw) ∧
    (∃ (s : State) (id : Nat) (f : Fence), s.coreRuns = true ∧ s.prot.fences.find? (fun f => decide (f.id = id)) = some f ∧ s.fenceDone f = false) ∧
    (∃ (s : State) (id : Nat) (f : Fence), s.coreRuns = true ∧ s.prot.fences.find? (fun f => decide (f.id = id)) = some f ∧ f.begun = true ∧ f.msgs ≠ []) ∧
    (∃ (s : State) (g : Nat), s.coreRuns = true ∧ (s.granule g).claims = [] ∧ s.isFloat g = true ∧ s.granuleDirty g = false ∧ s.granuleResident g = false) ∧
    (∃ (s : State) (id layer : Nat) (x : Stream), s.coreRuns = true ∧ kget s.tier.streams id = some x ∧ x.loading = some layer) ∧
    (∃ (s : State) (c : CapRef) (p : PinLoad), s.coreRuns = true ∧ s.tier.pins.find? (fun p => decide (p.cap = c) && !p.loaded) = some p) ∧
    (∃ (s : State) (id : Nat) (x : Stream), s.coreRuns = true ∧ kget s.tier.streams id = some x ∧ s.reg Reg.TIER_STRM_STALL ≠ 0 ∧ x.readers.any (fun r => r != x.readers.headD none) = true ∧ x.stallSeen ≠ some x.finished) ∧
    (∃ (s : State) (id : Nat) (x : Stream), s.coreRuns = true ∧ kget s.tier.streams id = some x ∧ s.reg Reg.TIER_STRM_STALL ≠ 0 ∧ x.readers.any (fun r => r != x.readers.headD none) = true ∧ x.stallSeen = some x.finished) :=
  ⟨⟨{ upPaired with net := { up.net with unconf := [{ mseq := 1, home := 0 }] } }, 0, 1, by decide +kernel⟩,
   ⟨upFence fence0, 1, fence0, by decide +kernel⟩,
   ⟨upFence { fence0 with begun := false }, 1, { fence0 with begun := false }, by decide +kernel⟩,
   ⟨upFence { fence0 with msgs := [2] }, 1, { fence0 with msgs := [2] }, by decide +kernel⟩,
   ⟨up, 0, by decide +kernel⟩,
   ⟨upStream { stream0 with loading := some 1 }, 1, 1, { stream0 with loading := some 1 }, by decide +kernel⟩,
   ⟨upPin { cap := cap0, first := 0, count := 1 }, cap0, { cap := cap0, first := 0, count := 1 }, by decide +kernel⟩,
   ⟨upStream stream0, 1, stream0, by decide +kernel⟩,
   ⟨upStream { stream0 with stallSeen := some stream0.finished }, 1, { stream0 with stallSeen := some stream0.finished }, by decide +kernel⟩⟩

/-- QP 2 has queues of four entries, and key 2 is its doorbell aperture. -/
def queue0 : Queue := { st := .active, sqSize := 4, cqSize := 4, nqSize := 4 }
def bellKey : Key := { tag := 0, region := 2 ^ 51, off := 0, len := 4096, rights := 31, aperture := some 2 }
def upBell (k : Nat) (q : Queue) : State :=
  { up with cqi := { up.cqi with queues := [(128 + k, q)] }, prot := { up.prot with keys := [(1, key1), (2, bellKey)] } }

theorem witness_DoorbellsAndFetches :
    (∃ (s : State) (p : Pkt) (q : Qp) (key : BitVec 32) (off v : BitVec 64) (k : Nat) (x : Queue), s.coreRuns = true ∧ s.doorbellIn p q key off v.toNat k 0 x ∧ v.toNat < 65536) ∧
    (∃ (s : State) (p : Pkt) (q : Qp) (key : BitVec 32) (off : BitVec 64) (tail : BitVec 16) (x : Queue), s.coreRuns = true ∧ s.doorbellIn p q key off (tail.toNat + 2 ^ 63) 0 0 x ∧ x.st = .frozen) ∧
    (∃ (s : State) (p : Pkt) (q : Qp) (key : BitVec 32) (off : BitVec 64) (tail : BitVec 16) (x : Queue), s.coreRuns = true ∧ s.doorbellIn p q key off (tail.toNat + 2 ^ 63 + 2 ^ 62) 0 0 x ∧ x.st = .frozen) ∧
    (∃ (s : State) (p : Pkt) (q : Qp) (key : BitVec 32) (off v : BitVec 64) (k : Nat) (x : Queue), s.coreRuns = true ∧ s.doorbellIn p q key off v.toNat k 8 x ∧ v.toNat < 65536) ∧
    (∃ (s : State) (p : Pkt) (q : Qp) (key : BitVec 32) (off v : BitVec 64) (k : Nat) (x : Queue), s.coreRuns = true ∧ s.doorbellIn p q key off v.toNat k 16 x ∧ v.toNat < 65536) ∧
    (∃ (s : State) (h : Fin 2) (sch : Sched) (key : Nat) (q : Queue) (qp : Qp), s.coreRuns = true ∧ s.accepting h.val = true ∧ s.pick h.val = (sch, some key) ∧ kget s.cqi.queues key = some q ∧ s.qp (key / 64) = some qp ∧ s.grantSize q = 1 ∧ q.replay = [] ∧ qp.fetchesInFlight < s.get Fld.CQI_FETCH_FETCH_DEPTH ∧ qp.readsInFlight < 16) ∧
    (∃ (s : State) (h : Fin 2), s.coreRuns = true ∧ s.accepting h.val = false) :=
  ⟨⟨upBell 0 queue0, pkt0, qp0, 0x200, 0, 1, 0, queue0, by decide +kernel, doorbell_of bellKey (by decide +kernel), by decide +kernel⟩,
   ⟨upBell 0 { queue0 with st := .frozen }, pkt0, qp0, 0x200, 0, 1, { queue0 with st := .frozen }, by decide +kernel, doorbell_of bellKey (by decide +kernel), by decide +kernel⟩,
   ⟨upBell 0 { queue0 with st := .frozen }, pkt0, qp0, 0x200, 0, 1, { queue0 with st := .frozen }, by decide +kernel, doorbell_of bellKey (by decide +kernel), by decide +kernel⟩,
   ⟨upBell 1 queue0, pkt0, qp0, 0x200, 40, 0, 1, queue0, by decide +kernel, doorbell_of bellKey (by decide +kernel), by decide +kernel⟩,
   ⟨upBell 1 queue0, pkt0, qp0, 0x200, 48, 0, 1, queue0, by decide +kernel, doorbell_of bellKey (by decide +kernel), by decide +kernel⟩,
   ⟨upBell 1 { queue0 with sqTail := 1 }, 0, ((upBell 1 { queue0 with sqTail := 1 }).pick 0).1, 129, { queue0 with sqTail := 1 }, qp0, by decide +kernel⟩,
   ⟨up, 1, by decide +kernel⟩⟩

/-- A capsule of an opcode with some fields set: first byte, bytes, value. -/
def capsule (op : Nat) (l : List (Nat × Nat × Nat)) : List Byte :=
  l.foldl (fun bs f => bs.take f.1 ++ leBytes f.2.1 f.2.2 ++ bs.drop (f.1 + f.2.1)) (leBytes 1 op ++ List.replicate 63 0)
/-- A fetched capsule stands in slot 0 of a queue of QP 2; admin says whether the connection has the admin bit. -/
def slot0 (bs : List Byte) : Slot := { idx := 0, st := .fetched, bytes := bs }
def qpCap (admin : Bool) : Qp := { qp0 with admin := admin }
def upCap (k : Nat) (admin : Bool) (bs : List Byte) : State :=
  { up with net := { up.net with qps := [(2, qpCap admin)] },
            cqi := { up.cqi with queues := [(128 + k, { queue0 with slots := [slot0 bs] })] },
            sealing := { up.sealing with slots := [(0, { key := [] })] } }
def capIo : CapRef := { qpn := 2, queue := 1, slot := 0 }
def capAdm : CapRef := { qpn := 2, queue := 0, slot := 0 }

theorem witness_CapsuleCompletionIsPosted : ∃ (s : State) (c : CapRef) (qp : Qp) (q : Queue) (x : Slot) (status : Nat), s.qp c.qpn = some qp ∧ s.queue c.qpn c.queue = some q ∧ s.slot c = some x ∧ q.live = true ∧ status < 32768 :=
  ⟨upCap 1 false (capsule 1 []), capIo, qpCap false, { queue0 with slots := [slot0 (capsule 1 [])] }, slot0 (capsule 1 []), 0, by decide +kernel⟩

theorem witness_CapsulesStartWhenFetched :
    (∃ (s : State) (c : CapRef) (qp : Qp) (bs : List Byte), s.capAt c .unknown qp bs) ∧
    (∃ (s : State) (c : CapRef) (row : CapRow) (qp : Qp) (bs : List Byte), s.capAt c row qp bs ∧ row ≠ .unknown ∧ capFormOk row bs = false) ∧
    (∃ (s : State) (c : CapRef) (row : CapRow) (qp : Qp) (bs : List Byte), s.capAt c row qp bs ∧ row ≠ .unknown ∧ capFormOk row bs = true ∧ needsAdmin row = true ∧ qp.admin = false) ∧
    (∃ (s : State) (c : CapRef) (row : CapRow) (qp : Qp) (bs : List Byte), s.capAt c row qp bs ∧ row ≠ .unknown ∧ capFormOk row bs = true ∧ (needsAdmin row = true → qp.admin = true)) ∧
    (∃ (s : State) (c : CapRef) (qp : Qp) (x : Slot), s.qp c.qpn = some qp ∧ s.slot c = some x ∧ (x.wait ≠ none ∨ s.accepting qp.home = false ∨ (s.queue c.qpn c.queue).any (·.live) = false)) :=
  ⟨⟨upCap 1 false (capsule 9 []), capIo, qpCap false, capsule 9 [], by unfold State.capAt; decide +kernel⟩,
   ⟨upCap 1 false (capsule 1 [(32, 1, 1)]), capIo, .read, qpCap false, capsule 1 [(32, 1, 1)], by unfold State.capAt; decide +kernel⟩,
   ⟨upCap 0 false (capsule 0x91 []), capAdm, .regRead, qpCap false, capsule 0x91 [], by unfold State.capAt; decide +kernel⟩,
   ⟨upCap 1 false (capsule 1 []), capIo, .read, qpCap false, capsule 1 [], by unfold State.capAt; decide +kernel⟩,
   ⟨(upCap 1 false (capsule 1 [])).updSlot capIo (fun x => { x with wait := some 1 }), capIo, qpCap false, { slot0 (capsule 1 []) with wait := some 1 }, by decide +kernel⟩⟩

/-- A capsule of the data rows: key, offset, length; COPY has a second key and offset. -/
def io (op key off len : Nat) : List Byte := capsule op [(4, 4, key), (8, 8, off), (28, 4, len)]
def upIo (bs : List Byte) : State := upCap 1 false bs

theorem witness_DataCapsulesAreCarriedOut :
    (∃ (s : State) (c : CapRef) (qp : Qp) (bs : List Byte) (e : Key), s.capFor c .read qp bs ∧ s.capKeyOk c qp (capKey bs) (capOff bs) (capLen bs) rRead e ∧ capLen bs ≠ 0) ∧
    (∃ (s : State) (c : CapRef) (qp : Qp) (bs : List Byte) (e : Key), s.capFor c .read qp bs ∧ s.capKeyOk c qp (capKey bs) (capOff bs) (capLen bs) rRead e ∧ capLen bs = 0) ∧
    (∃ (s : State) (c : CapRef) (qp : Qp) (bs : List Byte), s.capFor c .read qp bs ∧ s.findKey c.qpn (capKey bs) = none) ∧
    (∃ (s : State) (c : CapRef) (qp : Qp) (bs : List Byte) (e : Key), s.capFor c .write qp bs ∧ capLen bs ≠ 0 ∧ s.capKeyOk c qp (capKey bs) (capOff bs) (capLen bs) rWrite e) ∧
    (∃ (s : State) (c : CapRef) (qp : Qp) (bs : List Byte) (e f : Key), s.capFor c .copy qp bs ∧ capLen bs ≠ 0 ∧ s.capKeyOk c qp (capKey bs) (capOff bs) (capLen bs) rRead e ∧ s.capKeyOk c qp (BitVec.ofNat 32 (capField bs 32 4)) (capField bs 40 8) (capLen bs) rWrite f) ∧
    (∃ (s : State) (c : CapRef) (qp : Qp) (bs : List Byte) (e : Key), s.capFor c .zero qp bs ∧ capOff bs % 8 = 0 ∧ capLen bs % 8 = 0 ∧ capLen bs ≠ 0 ∧ s.capKeyOk c qp (capKey bs) (capOff bs) (capLen bs) rWrite e) ∧
    (∃ (s : State) (c : CapRef) (qp : Qp) (bs : List Byte), s.capFor c .zero qp bs ∧ (capOff bs % 8 ≠ 0 ∨ capLen bs % 8 ≠ 0)) ∧
    (∃ (s : State) (c : CapRef) (qp : Qp) (bs : List Byte) (e : Key), s.capFor c .trim qp bs ∧ capOff bs % 16384 = 0 ∧ capLen bs % 16384 = 0 ∧ capLen bs ≠ 0 ∧ s.capKeyOk c qp (capKey bs) (capOff bs) (capLen bs) rWrite e) ∧
    (∃ (s : State) (c : CapRef) (qp : Qp) (bs : List Byte), s.capFor c .trim qp bs ∧ (capOff bs % 16384 ≠ 0 ∨ capLen bs % 16384 ≠ 0)) ∧
    (∃ (s : State) (c : CapRef) (qp : Qp) (bs : List Byte), s.capFor c .flush qp bs) ∧
    (∃ (s : State) (c : CapRef) (qp : Qp) (bs : List Byte), s.capFor c .flushDeep qp bs) :=
  ⟨⟨upIo (io 1 0x100 0 8), capIo, qpCap false, io 1 0x100 0 8, key1, (by unfold State.capFor State.capAt; decide +kernel), key_ok (by decide +kernel), by decide +kernel⟩,
   ⟨upIo (io 1 0x100 0 0), capIo, qpCap false, io 1 0x100 0 0, key1, (by unfold State.capFor State.capAt; decide +kernel), key_ok (by decide +kernel), by decide +kernel⟩,
   ⟨upIo (io 1 0x300 0 8), capIo, qpCap false, io 1 0x300 0 8, by unfold State.capFor State.capAt; decide +kernel⟩,
   ⟨upIo (io 2 0x100 0 8), capIo, qpCap false, io 2 0x100 0 8, key1, (by unfold State.capFor State.capAt; decide +kernel), by decide +kernel, key_ok (by decide +kernel)⟩,
   ⟨upIo (capsule 6 [(4, 4, 0x100), (28, 4, 8), (32, 4, 0x100), (40, 8, 4096)]), capIo, qpCap false, capsule 6 [(4, 4, 0x100), (28, 4, 8), (32, 4, 0x100), (40, 8, 4096)], key1, key1, (by unfold State.capFor State.capAt; decide +kernel), by decide +kernel, key_ok (by decide +kernel), key_ok (by decide +kernel)⟩,
   ⟨upIo (io 4 0x100 0 8), capIo, qpCap false, io 4 0x100 0 8, key1, (by unfold State.capFor State.capAt; decide +kernel), by decide +kernel, by decide +kernel, by decide +kernel, key_ok (by decide +kernel)⟩,
   ⟨upIo (io 4 0x100 1 8), capIo, qpCap false, io 4 0x100 1 8, by unfold State.capFor State.capAt; decide +kernel⟩,
   ⟨upIo (io 5 0x100 0 16384), capIo, qpCap false, io 5 0x100 0 16384, key1, (by unfold State.capFor State.capAt; decide +kernel), by decide +kernel, by decide +kernel, by decide +kernel, key_ok (by decide +kernel)⟩,
   ⟨upIo (io 5 0x100 0 8), capIo, qpCap false, io 5 0x100 0 8, by unfold State.capFor State.capAt; decide +kernel⟩,
   ⟨upIo (capsule 3 []), capIo, qpCap false, capsule 3 [], by unfold State.capFor State.capAt; decide +kernel⟩,
   ⟨upIo (capsule 3 [(32, 1, 1)]), capIo, qpCap false, capsule 3 [(32, 1, 1)], by unfold State.capFor State.capAt; decide +kernel⟩⟩

/-- An admin capsule on queue 0 of QP 2. -/
def upAdm (bs : List Byte) : State := upCap 0 true bs
def create0 : List Byte := capsule 0x81 [(33, 1, 31), (40, 8, 2097152)]
def grant0 : List Byte := capsule 0x83 [(4, 4, 0x100), (40, 8, 4096), (48, 1, 1)]
def raise0 : List Byte := capsule 0x83 [(4, 4, 0x100), (48, 1, 31), (49, 1, 1)]
def modify0 (rights : Nat) : List Byte := capsule 0x81 [(4, 4, 0x100), (32, 1, 16), (33, 1, rights), (40, 8, 2097152)]

theorem witness_RegionsAndKeysAreMade :
    (∃ (s : State) (c : CapRef) (qp : Qp) (bs : List Byte) (w : State) (i : Nat), s.capFor c .regionCreate qp bs ∧ ((capField bs 32 1).testBit 1 = false ∨ (capField bs 32 1).testBit 0 = false) ∧ ((capField bs 32 1).testBit 2 = true → (capField bs 32 1).testBit 0 = true) ∧ capField bs 40 8 % granuleBytes = 0 ∧ capField bs 40 8 ≠ 0 ∧ capField bs 40 8 ≤ 2 ^ 49 ∧ (qp.admin = true ∨ capField bs 34 2 = qp.pd) ∧ s.directoryConn qp = false ∧ s.colWorker = false ∧ (s.started c).makeRegion qp.home (createOf bs) = some (w, i)) ∧
    (∃ (s : State) (c : CapRef) (qp : Qp) (bs : List Byte), s.capFor c .regionCreate qp bs ∧ capField bs 40 8 % granuleBytes ≠ 0) ∧
    (∃ (s : State) (c : CapRef) (qp : Qp) (bs : List Byte) (e : Key) (r : Region) (w : State) (i : Nat), s.capFor c .keyGrant qp bs ∧ s.adminKeyOk c qp (capKey bs) e r ∧ capField bs 32 8 % 4096 = 0 ∧ capField bs 40 8 % 4096 = 0 ∧ capField bs 32 8 + capField bs 40 8 ≤ r.len ∧ BitVec.ofNat 5 (capField bs 48 1) &&& ~~~r.maxRights = 0 ∧ (s.regionKeys e.region).length < 256 ∧ (s.started c).issueKey e.region (capField bs 32 8) (capField bs 40 8) (BitVec.ofNat 5 (capField bs 48 1)) none = some (w, i)) ∧
    (∃ (s : State) (c : CapRef) (qp : Qp) (bs : List Byte) (e : Key) (r : Region), s.capFor c .keyGrantExisting qp bs ∧ s.adminKeyOk c qp (capKey bs) e r ∧ capField bs 32 8 = 0 ∧ capField bs 40 8 = 0 ∧ BitVec.ofNat 5 (capField bs 48 1) &&& ~~~r.maxRights = 0 ∧ e.rights &&& ~~~(BitVec.ofNat 5 (capField bs 48 1)) = 0) ∧
    (∃ (s : State) (c : CapRef) (qp : Qp) (bs : List Byte) (e : Key) (r : Region), s.capFor c .regionModify qp bs ∧ s.adminKeyOk c qp (capKey bs) e r ∧ (capField bs 32 1).testBit 0 = r.volatile ∧ (capField bs 32 1).testBit 2 = r.mirror ∧ (capField bs 32 1).testBit 1 = r.dflush ∧ ((capField bs 32 1).testBit 1 && r.volatile) = false ∧ (capField bs 32 1).testBit 3 = r.failqp ∧ capField bs 34 2 = r.pd ∧ capField bs 36 2 = r.keyDomain ∧ capField bs 40 8 = r.len ∧ r.maxRights &&& ~~~(BitVec.ofNat 5 (capField bs 33 1)) = 0) :=
  ⟨⟨upAdm create0, capAdm, qpCap true, create0, ((((upAdm create0).started capAdm).makeRegion 0 (createOf create0)).getD (up, 0)).1, 2, by unfold State.capFor State.capAt; decide +kernel⟩,
   ⟨upAdm (capsule 0x81 [(40, 8, 1)]), capAdm, qpCap true, capsule 0x81 [(40, 8, 1)], by unfold State.capFor State.capAt; decide +kernel⟩,
   ⟨upAdm grant0, capAdm, qpCap true, grant0, key1, region0, ((((upAdm grant0).started capAdm).issueKey 0 0 4096 1 none).getD (up, 0)).1, 2, by unfold State.capFor State.capAt State.adminKeyOk; decide +kernel⟩,
   ⟨upAdm raise0, capAdm, qpCap true, raise0, key1, region0, by unfold State.capFor State.capAt State.adminKeyOk; decide +kernel⟩,
   ⟨upAdm (modify0 31), capAdm, qpCap true, modify0 31, key1, region0, by unfold State.capFor State.capAt State.adminKeyOk; decide +kernel⟩⟩

/-- A second key names region 0. -/
def upTwoKeys (bs : List Byte) : State := { upAdm bs with prot := { up.prot with keys := [(1, key1), (2, key1)] } }
def revoke0 : List Byte := capsule 0x84 [(4, 4, 0x100)]
def destroy0 : List Byte := capsule 0x82 [(4, 4, 0x100)]
def lower0 : List Byte := capsule 0x83 [(4, 4, 0x100), (48, 1, 1), (49, 1, 1)]

theorem witness_FencedChangesBegin :
    (∃ (s : State) (c : CapRef) (qp : Qp) (bs : List Byte) (e : Key) (r : Region), s.capFor c .regionDestroy qp bs ∧ s.adminKeyOk c qp (capKey bs) e r ∧ (∀ f ∈ s.prot.fences, f.region ≠ e.region)) ∧
    (∃ (s : State) (c : CapRef) (qp : Qp) (bs : List Byte) (e : Key) (r : Region), s.capFor c .keyRevoke qp bs ∧ s.adminKeyOk c qp (capKey bs) e r ∧ (∀ f ∈ s.prot.fences, f.region ≠ e.region) ∧ 1 < (s.regionKeys e.region).length) ∧
    (∃ (s : State) (c : CapRef) (qp : Qp) (bs : List Byte) (e : Key) (r : Region), s.capFor c .keyRevoke qp bs ∧ s.adminKeyOk c qp (capKey bs) e r ∧ (∀ f ∈ s.prot.fences, f.region ≠ e.region) ∧ (s.regionKeys e.region).length ≤ 1) ∧
    (∃ (s : State) (c : CapRef) (qp : Qp) (bs : List Byte) (e : Key) (r : Region), s.capFor c .keyGrantExisting qp bs ∧ s.adminKeyOk c qp (capKey bs) e r ∧ capField bs 32 8 = 0 ∧ capField bs 40 8 = 0 ∧ BitVec.ofNat 5 (capField bs 48 1) &&& ~~~r.maxRights = 0 ∧ e.rights &&& ~~~(BitVec.ofNat 5 (capField bs 48 1)) ≠ 0 ∧ (∀ f ∈ s.prot.fences, f.region ≠ e.region)) ∧
    (∃ (s : State) (c : CapRef) (qp : Qp) (bs : List Byte) (e : Key) (r : Region), s.capFor c .regionModify qp bs ∧ s.adminKeyOk c qp (capKey bs) e r ∧ (capField bs 32 1).testBit 0 = r.volatile ∧ (capField bs 32 1).testBit 2 = r.mirror ∧ ((capField bs 32 1).testBit 1 && r.volatile) = false ∧ capField bs 34 2 = r.pd ∧ capField bs 36 2 = r.keyDomain ∧ capField bs 40 8 = r.len ∧ (r.maxRights &&& ~~~(BitVec.ofNat 5 (capField bs 33 1)) ≠ 0 ∨ (capField bs 32 1).testBit 1 ≠ r.dflush ∨ (capField bs 32 1).testBit 3 ≠ r.failqp) ∧ (∀ f ∈ s.prot.fences, f.region ≠ e.region)) :=
  ⟨⟨upAdm destroy0, capAdm, qpCap true, destroy0, key1, region0, by unfold State.capFor State.capAt State.adminKeyOk; decide +kernel⟩,
   ⟨upTwoKeys revoke0, capAdm, qpCap true, revoke0, key1, region0, by unfold State.capFor State.capAt State.adminKeyOk; decide +kernel⟩,
   ⟨upAdm revoke0, capAdm, qpCap true, revoke0, key1, region0, by unfold State.capFor State.capAt State.adminKeyOk; decide +kernel⟩,
   ⟨upAdm lower0, capAdm, qpCap true, lower0, key1, region0, by unfold State.capFor State.capAt State.adminKeyOk; decide +kernel⟩,
   ⟨upAdm (modify0 1), capAdm, qpCap true, modify0 1, key1, region0, by unfold State.capFor State.capAt State.adminKeyOk; decide +kernel⟩⟩

/-- 100 granules of T1 and no transient pool. -/
def withT1 (s : State) : State := (s.setReg Reg.TIER_T1_TOTAL 100).setReg Reg.TIER_TRANSIENT 0
def place0 (code : Nat) : List Byte := capsule 0x85 [(4, 4, 0x100), (32, 8, 2097152), (40, 1, code)]
def open0 : List Byte := capsule 0x86 [(4, 4, 0x100), (32, 8, 2097152), (40, 4, 1), (44, 1, 1), (45, 1, 1)]
def openStream : Stream :=
  { home := 0, pd := 0, tenant := 0, region := 0, base := 0, layerLen := 2097152, layers := 1, window := 1, readers := [none], opener := some capAdm }
def upOpenable : State := withT1 { upAdm open0 with tier := { up.tier with granules := [(0, { place := .stream })] } }
def upStreams (pd : Nat) (bs : List Byte) : State := { upAdm bs with tier := { up.tier with streams := [(1, { openStream with pd := pd })] } }
/-- QP 2 has a frozen queue 1 besides its admin queue. -/
def upFrozen (st : QState) (bs : List Byte) : State :=
  { upAdm bs with cqi := { up.cqi with queues := [(128, { queue0 with slots := [slot0 bs] }), (129, { queue0 with st := st })] } }

theorem witness_PlacementsAndStreams :
    (∃ (s : State) (c : CapRef) (qp : Qp) (bs : List Byte) (e : Key) (r : Region), s.capFor c .objectPlace qp bs ∧ s.adminKeyOk c qp (capKey bs) e r ∧ e.rights.getLsbD rRead = true ∧ r.volatile = false ∧ capOff bs % granuleBytes = 0 ∧ capField bs 32 8 % granuleBytes = 0 ∧ capField bs 32 8 ≠ 0 ∧ capOff bs + capField bs 32 8 ≤ r.len ∧ capField bs 40 1 ≤ 3 ∧ (granulesOf (e.region + capOff bs) (capField bs 32 8)).any s.inStream = false ∧ capField bs 40 1 ≠ 1 ∧ s.mirrors qp.home = false) ∧
    (∃ (s : State) (c : CapRef) (qp : Qp) (bs : List Byte) (e : Key) (r : Region), s.capFor c .objectPlace qp bs ∧ s.adminKeyOk c qp (capKey bs) e r ∧ e.rights.getLsbD rRead = true ∧ r.volatile = false ∧ capOff bs % granuleBytes = 0 ∧ capField bs 32 8 % granuleBytes = 0 ∧ capField bs 32 8 ≠ 0 ∧ capOff bs + capField bs 32 8 ≤ r.len ∧ capField bs 40 1 ≤ 3 ∧ (granulesOf (e.region + capOff bs) (capField bs 32 8)).any s.inStream = false ∧ capField bs 40 1 = 1 ∧ s.pinCharge (s.tenantOfPd r.pd) + ((granulesOf (e.region + capOff bs) (capField bs 32 8)).filter (fun g => (s.granule g).place != .pin)).length ≤ (s.tenant (s.tenantOfPd r.pd)).pin ∧ s.roomOnBoth qp.home ((granulesOf (e.region + capOff bs) (capField bs 32 8)).filter (fun g => (s.granule g).place != .pin)).length = true) ∧
    (∃ (s : State) (c : CapRef) (qp : Qp) (bs : List Byte) (e : Key) (r : Region) (id : Nat) (x : Stream), s.capFor c .streamOpen qp bs ∧ s.adminKeyOk c qp (capKey bs) e r ∧ x = { home := qp.home, pd := qp.pd, tenant := s.tenantOfPd qp.pd, region := e.region, base := e.region + capOff bs, layerLen := capField bs 32 8, layers := capField bs 40 4, window := capField bs 44 1, readers := List.replicate (capField bs 45 1) none, opener := some c } ∧ capOff bs % granuleBytes = 0 ∧ x.layerLen % granuleBytes = 0 ∧ x.layerLen ≠ 0 ∧ x.layers ≠ 0 ∧ 1 ≤ x.window ∧ x.window ≤ 64 ∧ capField bs 45 1 ≠ 0 ∧ capOff bs + x.layers * x.layerLen ≤ r.len ∧ (∀ g ∈ granulesOf x.base (x.layers * x.layerLen), (s.granule g).place = .stream) ∧ (List.range 2049).find? (fun i => (kget s.tier.streams i).isNone) = some id ∧ (s.tier.streams.filter (fun e => e.2.home = qp.home)).length < 1024 ∧ s.pinCharge x.tenant ≤ ({ s with tier := { s.tier with streams := kput s.tier.streams id x } } : State).pinCharge x.tenant ∧ ({ s with tier := { s.tier with streams := kput s.tier.streams id x } } : State).pinCharge x.tenant ≤ (s.tenant x.tenant).pin ∧ x.w * (x.layerLen / granuleBytes) + s.quotaSum ≤ s.floatSize) ∧
    (∃ (s : State) (c : CapRef) (qp : Qp) (bs : List Byte) (x : Stream), s.capFor c .streamAdvance qp bs ∧ kget s.tier.streams (capField bs 32 2) = some x ∧ x.home = qp.home ∧ x.pd = qp.pd ∧ capField bs 34 1 < x.readers.length ∧ s.mirrors qp.home = false) ∧
    (∃ (s : State) (c : CapRef) (qp : Qp) (bs : List Byte) (x : Stream), s.capFor c .streamAdvance qp bs ∧ kget s.tier.streams (capField bs 32 2) = some x ∧ x.home = qp.home ∧ x.pd = qp.pd ∧ x.readers.length ≤ capField bs 34 1) ∧
    (∃ (s : State) (c : CapRef) (qp : Qp) (bs : List Byte) (x : Stream), s.capFor c .streamClose qp bs ∧ kget s.tier.streams (capField bs 32 2) = some x ∧ x.home = qp.home ∧ x.pd = qp.pd) ∧
    (∃ (s : State) (c : CapRef) (qp : Qp) (bs : List Byte) (x : Stream), s.capFor c .streamClose qp bs ∧ kget s.tier.streams (capField bs 32 2) = some x ∧ x.pd ≠ qp.pd) ∧
    (∃ (s : State) (c : CapRef) (qp : Qp) (bs : List Byte) (q : Queue), 1 ≤ capField bs 32 1 ∧ capField bs 32 1 ≤ 63 ∧ s.queue c.qpn (capField bs 32 1) = some q ∧ s.capFor c .qresumeDiscard qp bs ∧ capField bs 33 1 = 0 ∧ q.st = .frozen) ∧
    (∃ (s : State) (c : CapRef) (qp : Qp) (bs : List Byte) (q : Queue), 1 ≤ capField bs 32 1 ∧ capField bs 32 1 ≤ 63 ∧ s.queue c.qpn (capField bs 32 1) = some q ∧ s.capFor c .qresumeReplay qp bs ∧ q.st = .frozen) ∧
    (∃ (s : State) (c : CapRef) (qp : Qp) (bs : List Byte) (q : Queue), 1 ≤ capField bs 32 1 ∧ capField bs 32 1 ≤ 63 ∧ s.queue c.qpn (capField bs 32 1) = some q ∧ s.capFor c .qresumeReplay qp bs ∧ q.st ≠ .frozen) :=
  ⟨⟨upAdm (place0 3), capAdm, qpCap true, place0 3, key1, region0, by unfold State.capFor State.capAt State.adminKeyOk; decide +kernel⟩,
   ⟨withT1 (upAdm (place0 1)), capAdm, qpCap true, place0 1, key1, region0, by unfold State.capFor State.capAt State.adminKeyOk; decide +kernel⟩,
   ⟨upOpenable, capAdm, qpCap true, open0, key1, region0, 0, openStream, by unfold State.capFor State.capAt State.adminKeyOk; decide +kernel⟩,
   ⟨upStreams 0 (capsule 0x87 [(32, 2, 1)]), capAdm, qpCap true, capsule 0x87 [(32, 2, 1)], openStream, by unfold State.capFor State.capAt; decide +kernel⟩,
   ⟨upStreams 0 (capsule 0x87 [(32, 2, 1), (34, 1, 1)]), capAdm, qpCap true, capsule 0x87 [(32, 2, 1), (34, 1, 1)], openStream, by unfold State.capFor State.capAt; decide +kernel⟩,
   ⟨upStreams 0 (capsule 0x88 [(32, 2, 1)]), capAdm, qpCap true, capsule 0x88 [(32, 2, 1)], openStream, by unfold State.capFor State.capAt; decide +kernel⟩,
   ⟨upStreams 1 (capsule 0x88 [(32, 2, 1)]), capAdm, qpCap true, capsule 0x88 [(32, 2, 1)], { openStream with pd := 1 }, by unfold State.capFor State.capAt; decide +kernel⟩,
   ⟨upFrozen .frozen (capsule 0x8C [(32, 1, 1)]), capAdm, qpCap true, capsule 0x8C [(32, 1, 1)], { queue0 with st := .frozen }, by unfold State.capFor State.capAt; decide +kernel⟩,
   ⟨upFrozen .frozen (capsule 0x8C [(32, 1, 1), (33, 1, 1)]), capAdm, qpCap true, capsule 0x8C [(32, 1, 1), (33, 1, 1)], { queue0 with st := .frozen }, by unfold State.capFor State.capAt; decide +kernel⟩,
   ⟨upFrozen .active (capsule 0x8C [(32, 1, 1), (33, 1, 1)]), capAdm, qpCap true, capsule 0x8C [(32, 1, 1), (33, 1, 1)], queue0, by unfold State.capFor State.capAt; decide +kernel⟩⟩

def test0 : SelfTest := { home := 0, pd := 0, typ := 1, qpn := 2 }
def upTest (t : SelfTest) (bs : List Byte) : State := { upAdm bs with cqi := { (upAdm bs).cqi with tests := [t] } }
def power0 (n : Nat) : List Byte := capsule 0x8B [(32, 1, n)]
def log0 (page : Nat) : List Byte := capsule 0x89 [(28, 4, 64), (32, 1, page)]

theorem witness_AdminCapsulesAnswer :
    (∃ (s : State) (c : CapRef) (qp : Qp) (bs : List Byte), s.capFor c .identify qp bs ∧ capLen bs ≠ 0) ∧
    (∃ (s : State) (c : CapRef) (qp : Qp) (bs : List Byte) (t page : _), s.capFor c .logRead qp bs ∧ (s.started c).logPage qp (capField bs 32 1) = some (t, page) ∧ capOff bs < page.length ∧ 64 ≤ capLen bs) ∧
    (∃ (s : State) (c : CapRef) (qp : Qp) (bs : List Byte), s.capFor c .logRead qp bs ∧ (capField bs 32 1 = 0 ∨ 4 < capField bs 32 1)) ∧
    (∃ (s : State) (c : CapRef) (qp : Qp) (bs : List Byte), s.capFor c .selftestShort qp bs ∧ capField bs 32 1 = 1 ∧ s.testing qp.home qp.pd = false) ∧
    (∃ (s : State) (c : CapRef) (qp : Qp) (bs : List Byte), s.capFor c .selftestShort qp bs ∧ capField bs 32 1 = 1 ∧ s.testing qp.home qp.pd = true) ∧
    (∃ (s : State) (c : CapRef) (qp : Qp) (bs : List Byte), s.capFor c .selftestExtended qp bs ∧ s.testing qp.home qp.pd = false) ∧
    (∃ (s : State) (c : CapRef) (qp : Qp) (bs : List Byte), s.capFor c .selftestExtended qp bs ∧ s.testing qp.home qp.pd = true) ∧
    (∃ (s : State) (c : CapRef) (qp : Qp) (bs : List Byte) (t : _), s.capFor c .selftestAbort qp bs ∧ s.testOf qp.home qp.pd = some t) ∧
    (∃ (s : State) (c : CapRef) (qp : Qp) (bs : List Byte), s.capFor c .selftestAbort qp bs ∧ s.testOf qp.home qp.pd = none) ∧
    (∃ (s : State), s.coreRuns = true ∧ s.admits 3 = true) ∧
    (∃ (s : State), s.coreRuns = true ∧ s.admits 3 = false) ∧
    (∃ (s : State) (h : Fin 2) (pd : BitVec 16) (result : Fin 5) (t : SelfTest), s.coreRuns = true ∧ s.testOf h.val pd.toNat = some t ∧ t.suspended = false ∧ result.val < 2) ∧
    (∃ (s : State) (h : Fin 2) (pd : BitVec 16) (t : SelfTest), s.coreRuns = true ∧ s.testOf h.val pd.toNat = some t ∧ t.suspended = true) ∧
    (∃ (s : State) (c : CapRef) (qp : Qp) (bs : List Byte), s.capFor c .powerReport qp bs ∧ capField bs 32 1 = 0) ∧
    (∃ (s : State) (c : CapRef) (qp : Qp) (bs : List Byte), s.capFor c .powerP0 qp bs ∧ (s.get Fld.GOV_STATUS_PSTATE = 1 ∨ s.get Fld.GOV_STATUS_PSTATE = 2) ∧ s.on Fld.GOV_STATUS_EXITING = false ∧ s.on Fld.GOV_STATUS_ENTERING = false) ∧
    (∃ (s : State) (c : CapRef) (qp : Qp) (bs : List Byte), s.capFor c .powerP1 qp bs ∧ s.mayDeepen 1 = true) ∧
    (∃ (s : State) (c : CapRef) (qp : Qp) (bs : List Byte), s.capFor c .powerP2 qp bs ∧ s.mayDeepen 2 = true ∧ s.grants 2 = true) ∧
    (∃ (s : State) (c : CapRef) (qp : Qp) (bs : List Byte), s.capFor c .powerP2 qp bs ∧ s.mayDeepen 2 = true ∧ s.grants 2 = false) ∧
    (∃ (s : State) (c : CapRef) (qp : Qp) (bs : List Byte), s.capFor c .powerP3 qp bs ∧ s.grants 3 = true) ∧
    (∃ (s : State) (c : CapRef) (qp : Qp) (bs : List Byte), s.capFor c .powerP3 qp bs ∧ s.grants 3 = false) :=
  ⟨⟨upAdm (capsule 0x80 [(28, 4, 4096)]), capAdm, qpCap true, capsule 0x80 [(28, 4, 4096)], by unfold State.capFor State.capAt; decide +kernel⟩,
   ⟨upAdm (log0 1), capAdm, qpCap true, log0 1, (upAdm (log0 1)).started capAdm, pageErrors (qpCap true), by unfold State.capFor State.capAt; decide +kernel⟩,
   ⟨upAdm (log0 5), capAdm, qpCap true, log0 5, by unfold State.capFor State.capAt; decide +kernel⟩,
   ⟨upAdm (capsule 0x8A [(32, 1, 1)]), capAdm, qpCap true, capsule 0x8A [(32, 1, 1)], by unfold State.capFor State.capAt; decide +kernel⟩,
   ⟨upTest test0 (capsule 0x8A [(32, 1, 1)]), capAdm, qpCap true, capsule 0x8A [(32, 1, 1)], by unfold State.capFor State.capAt; decide +kernel⟩,
   ⟨upAdm (capsule 0x8A [(32, 1, 2)]), capAdm, qpCap true, capsule 0x8A [(32, 1, 2)], by unfold State.capFor State.capAt; decide +kernel⟩,
   ⟨upTest test0 (capsule 0x8A [(32, 1, 2)]), capAdm, qpCap true, capsule 0x8A [(32, 1, 2)], by unfold State.capFor State.capAt; decide +kernel⟩,
   ⟨upTest test0 (capsule 0x8A [(32, 1, 15)]), capAdm, qpCap true, capsule 0x8A [(32, 1, 15)], test0, by unfold State.capFor State.capAt; decide +kernel⟩,
   ⟨upAdm (capsule 0x8A [(32, 1, 15)]), capAdm, qpCap true, capsule 0x8A [(32, 1, 15)], by unfold State.capFor State.capAt; decide +kernel⟩,
   ⟨upTest { test0 with suspended := true } [], by decide +kernel⟩,
   ⟨up.setReg Reg.GOV_ADMIT 0x80, by decide +kernel⟩,
   ⟨upTest test0 [], 0, 0, 1, test0, by decide +kernel⟩,
   ⟨upTest { test0 with suspended := true } [], 0, 0, { test0 with suspended := true }, by decide +kernel⟩,
   ⟨upAdm (power0 0), capAdm, qpCap true, power0 0, by unfold State.capFor State.capAt; decide +kernel⟩,
   ⟨(upAdm (power0 4)).put Fld.GOV_STATUS_PSTATE 1, capAdm, qpCap true, power0 4, by unfold State.capFor State.capAt; decide +kernel⟩,
   ⟨upAdm (power0 1), capAdm, qpCap true, power0 1, by unfold State.capFor State.capAt; decide +kernel⟩,
   ⟨upAdm (power0 2), capAdm, qpCap true, power0 2, by unfold State.capFor State.capAt; decide +kernel⟩,
   ⟨(upAdm (power0 2)).put Fld.FTL_STATUS_CKPT_BUSY 1, capAdm, qpCap true, power0 2, by unfold State.capFor State.capAt; decide +kernel⟩,
   ⟨upAdm (power0 3), capAdm, qpCap true, power0 3, by unfold State.capFor State.capAt; decide +kernel⟩,
   ⟨{ upAdm (power0 3) with pw := { up.pw with activating := true } }, capAdm, qpCap true, power0 3, by unfold State.capFor State.capAt; decide +kernel⟩⟩

/-- Something is staged; a commit of class values waits. -/
def stagedOne : Staged := { addr := Reg.TRN_PKEY, val := 1 }
def upStaged (bs : List Byte) : State := { upAdm bs with cfg := { up.cfg with staged := [stagedOne] } }
def commit0 : Commit := { n := 1, home := 0, set := [stagedOne], joint := false, via := .regWrite }
/-- The staged slot holds an image of 512 KiB whose header keeps every check, and every page of it is staged. -/
def header0 : List Byte :=
  [0x57, 0x4D, 0x49, 0x4D] ++ leBytes 4 1 ++ leBytes 8 1 ++ leBytes 4 524288 ++ leBytes 8 0 ++ leBytes 4 0xB1 ++
    List.replicate 352 0 ++ List.replicate 96 1 ++ List.replicate 32 0
def cells (a : Nat) : List Byte → List Host.Cell
  | [] => []
  | b :: bs => (a, b) :: cells (a + 1) bs
def imageCells : List Host.Cell := cells 0x800000 header0
def imaged : State := { boot := { cf := imageCells } }
def upImage (incomplete : List Nat) (bs : List Byte) : State :=
  { upAdm bs with boot := { up.boot with cf := imageCells, staged := List.range 128, incomplete := incomplete } }
theorem imaged_formed : imaged.imgFormed 1 = true := by decide +kernel
theorem imgFormed_of {s : State} (h : s.boot.cf = imageCells) : s.imgFormed 1 = true := by
  have e : s.imgFormed 1 = imaged.imgFormed 1 := by
    unfold State.imgFormed State.imgLen State.imgField State.cfBytes; rw [h]; rfl
  rw [e]; exact imaged_formed
theorem imgLen_of {s : State} (h : s.boot.cf = imageCells) : s.imgLen 1 = 524288 := by
  have e : s.imgLen 1 = imaged.imgLen 1 := by unfold State.imgLen State.imgField State.cfBytes; rw [h]; rfl
  rw [e]; decide +kernel
theorem stagedWhole_of {s : State} (h : s.boot.cf = imageCells) (hs : s.stagedSlot = 1) (hp : s.boot.staged = List.range 128) :
    s.stagedWhole = true := by
  unfold State.stagedWhole; rw [hs, imgFormed_of h, imgLen_of h, hp]; decide +kernel
theorem verifySlot_of {s : State} (h : s.boot.cf = imageCells) (hf : s.boot.floor = 0) :
    s.verifySlot 1 = (!(s.boot.incomplete.any (fun x => within 2048 128 x)) && s.imgSigned 1) := by
  unfold State.verifySlot; rw [imgFormed_of h, imgLen_of h, hf]; simp
def act0 : List Byte := capsule 0x90 []
def upImagePaired : State := { (upImage [] act0).put Fld.TWN_STATUS_STATE0 3 with boot := (upImage [] act0).boot }
theorem verify_signed {s : State} (h : s.boot.cf = imageCells) (hf : s.boot.floor = 0) (hi : s.boot.incomplete = [])
    (hv : imaged.imgSigned 1 = true) : s.verifySlot 1 = true := by
  have e : s.imgSigned 1 = imaged.imgSigned 1 := by unfold State.imgSigned State.imgLen State.imgField State.cfBytes; rw [h]; rfl
  rw [verifySlot_of h hf, hi, e, hv]; rfl
/-- Where the image is one that the vendor signed (R505; what a signature covers is the free value imageSigned). -/
theorem witness_ConfigurationCapsulesAct_signed (hv : imaged.imgSigned 1 = true) :
    (∃ (s : State) (c : CapRef) (qp : Qp) (bs : List Byte), s.capFor c .fwActivate qp bs ∧ s.pw.activating = false ∧ s.cfg.commit = none ∧
      s.stagedWhole = true ∧ s.verifySlot s.stagedSlot = true ∧ s.canHandAll = false) ∧
    (∃ (s : State) (c : CapRef) (qp : Qp) (bs : List Byte), s.capFor c .fwActivate qp bs ∧ s.pw.activating = false ∧ s.cfg.commit = none ∧
      s.stagedWhole = true ∧ s.verifySlot s.stagedSlot = true ∧ s.canHandAll = true) :=
  ⟨⟨upImage [] act0, capAdm, qpCap true, act0, by unfold State.capFor State.capAt; decide +kernel, rfl, rfl,
     stagedWhole_of rfl (by decide +kernel) rfl,
     by rw [show (upImage [] act0).stagedSlot = 1 by decide +kernel]; exact verify_signed rfl rfl rfl hv, by decide +kernel⟩,
   ⟨upImagePaired, capAdm, qpCap true, act0, by unfold State.capFor State.capAt; decide +kernel, rfl, rfl,
     stagedWhole_of rfl (by decide +kernel) rfl,
     by rw [show upImagePaired.stagedSlot = 1 by decide +kernel]; exact verify_signed rfl rfl rfl hv, by decide +kernel⟩⟩

theorem witness_ConfigurationCapsulesAct :
    (∃ (s : State) (c : CapRef) (qp : Qp) (bs : List Byte), s.capFor c .configStage qp bs ∧ capLen bs % 8 = 0 ∧ capLen bs ≠ 0 ∧ capLen bs ≤ 4096) ∧
    (∃ (s : State) (c : CapRef) (qp : Qp) (bs : List Byte), s.capFor c .configStage qp bs ∧ (capLen bs % 8 ≠ 0 ∨ 4096 < capLen bs)) ∧
    (∃ (s : State) (c : CapRef) (qp : Qp) (bs : List Byte), s.capFor c .fwStage qp bs ∧ capOff bs % 4096 = 0 ∧ capLen bs % 4096 = 0 ∧ capLen bs ≠ 0 ∧ capOff bs + capLen bs ≤ slotBytes) ∧
    (∃ (s : State) (c : CapRef) (qp : Qp) (bs : List Byte), s.capFor c .fwStage qp bs ∧ slotBytes < capOff bs + capLen bs) ∧
    (∃ (s : State) (data : List Byte), (stageEntries data).any (fun e => !(s.stageable e.1)) = true) ∧
    (∃ (s : State) (c : CapRef) (qp : Qp) (bs : List Byte), s.capFor c .configCommit qp bs ∧ s.cfg.staged = []) ∧
    (∃ (s : State) (c : CapRef) (qp : Qp) (bs : List Byte), s.capFor c .configCommit qp bs ∧ s.cfg.staged ≠ [] ∧ s.commitBusy = true) ∧
    (∃ (s : State) (c : CapRef) (qp : Qp) (bs : List Byte), s.capFor c .configCommit qp bs ∧ s.cfg.staged ≠ [] ∧ s.commitBusy = false ∧ 10 ≤ s.get Fld.CFL_BOOTINFO_STEP) ∧
    (∃ (s : State) (c : CapRef) (qp : Qp) (bs : List Byte), s.capFor c .configDiscard qp bs) ∧
    (∃ (s : State) (c : CapRef) (qp : Qp) (bs : List Byte), s.capFor c .fwActivate qp bs ∧ (s.pw.activating = true ∨ s.cfg.commit.isSome = true)) ∧
    (∃ (s : State) (c : CapRef) (qp : Qp) (bs : List Byte), s.capFor c .fwActivate qp bs ∧ s.pw.activating = false ∧ s.cfg.commit = none ∧ s.stagedWhole = false) ∧
    (∃ (s : State) (c : CapRef) (qp : Qp) (bs : List Byte), s.capFor c .fwActivate qp bs ∧ s.pw.activating = false ∧ s.cfg.commit = none ∧ s.stagedWhole = true ∧ s.verifySlot s.stagedSlot = false) ∧
    (∃ (s : State) (c : CapRef) (qp : Qp) (bs : List Byte), s.capFor c .regRead qp bs ∧ regReadOk (capField bs 32 3) (capField bs 36 1) = true ∧ capField bs 36 1 = 1) ∧
    (∃ (s : State) (c : CapRef) (qp : Qp) (bs : List Byte), s.capFor c .regRead qp bs ∧ regReadOk (capField bs 32 3) (capField bs 36 1) = false) ∧
    (∃ (s : State) (c : CapRef) (qp : Qp) (bs : List Byte), s.capFor c .regWrite qp bs ∧ capField bs 32 3 % 4 = 0 ∧ ((s.started c).regWrite (.capsule (BitVec.ofNat 24 c.qpn)) (capField bs 32 3) (BitVec.ofNat 32 (capField bs 36 4))).2 = .ok) ∧
    (∃ (s : State) (c : CapRef) (qp : Qp) (bs : List Byte), s.capFor c .regWrite qp bs ∧ notByCapsule (capField bs 32 3) = true ∧ (regAt (capField bs 32 3)).isSome = true ∧ capField bs 32 3 % 4 = 0) :=
  ⟨⟨upAdm (capsule 0x8D [(28, 4, 8)]), capAdm, qpCap true, capsule 0x8D [(28, 4, 8)], by unfold State.capFor State.capAt; decide +kernel⟩,
   ⟨upAdm (capsule 0x8D [(28, 4, 4104)]), capAdm, qpCap true, capsule 0x8D [(28, 4, 4104)], by unfold State.capFor State.capAt; decide +kernel⟩,
   ⟨upAdm (capsule 0x8F [(28, 4, 4096)]), capAdm, qpCap true, capsule 0x8F [(28, 4, 4096)], by unfold State.capFor State.capAt; decide +kernel⟩,
   ⟨upAdm (capsule 0x8F [(8, 8, 0x800000), (28, 4, 4096)]), capAdm, qpCap true, capsule 0x8F [(8, 8, 0x800000), (28, 4, 4096)], by unfold State.capFor State.capAt; decide +kernel⟩,
   ⟨up, leBytes 8 0xFFFFFC, by decide +kernel⟩,
   ⟨upAdm (capsule 0x8E []), capAdm, qpCap true, capsule 0x8E [], by unfold State.capFor State.capAt; decide +kernel⟩,
   ⟨{ upStaged (capsule 0x8E []) with cfg := { staged := [stagedOne], commit := some commit0 } }, capAdm, qpCap true, capsule 0x8E [], by unfold State.capFor State.capAt; decide +kernel⟩,
   ⟨upStaged (capsule 0x8E []), capAdm, qpCap true, capsule 0x8E [], by unfold State.capFor State.capAt; decide +kernel⟩,
   ⟨upAdm (capsule 0x8E [(32, 1, 1)]), capAdm, qpCap true, capsule 0x8E [(32, 1, 1)], by unfold State.capFor State.capAt; decide +kernel⟩,
   ⟨{ upAdm (capsule 0x90 []) with pw := { up.pw with activating := true } }, capAdm, qpCap true, capsule 0x90 [], by unfold State.capFor State.capAt; decide +kernel⟩,
   ⟨upAdm (capsule 0x90 []), capAdm, qpCap true, capsule 0x90 [], by unfold State.capFor State.capAt; decide +kernel⟩,
   ⟨upImage [2048] (capsule 0x90 []), capAdm, qpCap true, capsule 0x90 [], (by unfold State.capFor State.capAt; decide +kernel), rfl, rfl, stagedWhole_of rfl (by decide +kernel) rfl, (by rw [show (upImage [2048] (capsule 0x90 [])).stagedSlot = 1 by decide +kernel, verifySlot_of rfl rfl]; decide +kernel)⟩,
   ⟨upAdm (capsule 0x91 [(36, 1, 1)]), capAdm, qpCap true, capsule 0x91 [(36, 1, 1)], by unfold State.capFor State.capAt; decide +kernel⟩,
   ⟨upAdm (capsule 0x91 [(32, 3, 1), (36, 1, 1)]), capAdm, qpCap true, capsule 0x91 [(32, 3, 1), (36, 1, 1)], by unfold State.capFor State.capAt; decide +kernel⟩,
   ⟨upAdm (capsule 0x92 [(32, 3, Reg.TRN_PKEY), (36, 4, 1)]), capAdm, qpCap true, capsule 0x92 [(32, 3, Reg.TRN_PKEY), (36, 4, 1)], by unfold State.capFor State.capAt; decide +kernel⟩,
   ⟨upAdm (capsule 0x92 [(32, 3, Reg.GLB_RSTCTL), (36, 4, 1)]), capAdm, qpCap true, capsule 0x92 [(32, 3, Reg.GLB_RSTCTL), (36, 4, 1)], by unfold State.capFor State.capAt; decide +kernel⟩⟩

/-- Home set 0 of a chip in service, changed; the roles and states of both home sets as given. -/
def upHome (f : HomeSt → HomeSt) : State := up.updHome 0 f
def upPulse (t : Bool) : State := { upHome (fun x => { x with token := t }) with twin := { up.twin with pulse := some 0 } }

theorem witness_InterlocksAndClaims :
    (∃ (s : State) (h : Fin 2), s.twin.pulse = some h.val ∧ (s.home h.val).token = true) ∧
    (∃ (s : State) (h : Fin 2), s.twin.pulse ≠ some h.val ∧ ((s.home h.val).token = false ∨ s.sidePriority = true ∨ (s.home h.val).intlkFaulty = true)) ∧
    (∃ (s : State) (h : Fin 2), s.twin.pulse ≠ some h.val ∧ (s.home h.val).token = true ∧ s.sidePriority = false ∧ (s.home h.val).intlkFaulty = false ∧ s.get Fld.CFL_BOOTINFO_STEP ≠ 9) ∧
    (∃ (s : State) (h : Fin 2) (released : Bool), s.coreRuns = true ∧ (s.home h.val).out = true ∧ (s.home h.val).token = false ∧ (s.home h.val).claim.isSome = true ∧ (released = true ∨ s.sidePriority = true)) ∧
    (∃ (s : State) (h : Fin 2) (released : Bool), s.coreRuns = true ∧ (s.home h.val).out = true ∧ (s.home h.val).token = false ∧ (s.home h.val).claim.isSome = true ∧ released = false ∧ s.sidePriority = false) ∧
    (∃ (s : State) (h : Fin 2) (w : ClaimWhy), s.coreRuns = true ∧ (s.home h.val).backoff = true ∧ (s.home h.val).claim = some w ∧ (s.home h.val).token = false ∧ (s.home h.val).out = false) ∧
    (∃ (s : State) (h : Fin 2) (w : _), s.coreRuns = true ∧ (s.home h.val).inRel = true ∧ (s.home h.val).token = false ∧ (s.home h.val).claim = some w) ∧
    (∃ (s : State) (h : Fin 2), s.coreRuns = true ∧ (s.home h.val).inRel = true ∧ (s.home h.val).token = false ∧ (s.home h.val).claim = none ∧ s.standby h.val = true ∧ s.pairState h.val = 3 ∧ (s.home h.val).intlkFaulty = false) ∧
    (∃ (s : State) (h : Fin 2), s.coreRuns = true ∧ (s.home h.val).inRel = true ∧ (s.home h.val).token = false ∧ (s.home h.val).claim = none ∧ s.role h.val = 3 ∧ s.get Fld.CFL_BOOTINFO_STEP ≠ 9) ∧
    (∃ (s : State), s.coreRuns = true ∧ s.get Fld.CFL_BOOTINFO_STEP ≠ 9) ∧
    (∃ (s : State) (h : Fin 2), s.coreRuns = true ∧ (s.home h.val).token = true) ∧
    (∃ (s : State) (h : Fin 2), s.coreRuns = true ∧ (s.home h.val).token = false ∧ s.elytraUp = true ∧ (s.home h.val).claim = none) :=
  ⟨⟨upPulse true, 0, by decide +kernel⟩,
   ⟨upHome (fun x => { x with token := false }), 0, by decide +kernel⟩,
   ⟨up, 0, by decide +kernel⟩,
   ⟨upHome (fun x => { x with token := false, out := true, claim := some .alone }), 0, true, by decide +kernel⟩,
   ⟨upHome (fun x => { x with token := false, out := true, claim := some .alone }), 0, false, by decide +kernel⟩,
   ⟨upHome (fun x => { x with token := false, backoff := true, claim := some .alone }), 0, .alone, by decide +kernel⟩,
   ⟨upHome (fun x => { x with token := false, claim := some .alone }), 0, .alone, by decide +kernel⟩,
   ⟨sets [(Fld.TWN_STATUS_ROLE0, 2), (Fld.TWN_STATUS_STATE0, 3)] (upHome (fun x => { x with token := false })), 0, by decide +kernel⟩,
   ⟨sets [(Fld.TWN_STATUS_ROLE0, 3)] (upHome (fun x => { x with token := false })), 0, by decide +kernel⟩,
   ⟨up, by decide +kernel⟩,
   ⟨up, 0, by decide +kernel⟩,
   ⟨upLink.updHome 0 (fun x => { x with token := false }), 0, by decide +kernel⟩⟩

def upLanes (n : Nat) : State := up.setReg Reg.TWN_LINK (BitVec.ofNat 32 n)
def ely0 : Ely := {}

theorem witness_LinkAndLeasesAct :
    (∃ (s : State) (l : Fin 8), s.coreRuns = true ∧ s.regBit Reg.TWN_LINK l.val = false) ∧
    (∃ (s : State) (l : Fin 8), s.coreRuns = true ∧ s.regBit Reg.TWN_LINK l.val = true ∧ (∃ k, k < 8 ∧ k ≠ l.val ∧ s.regBit Reg.TWN_LINK k = true)) ∧
    (∃ (s : State), s.coreRuns = true ∧ s.elytraUp = false) ∧
    (∃ (s : State), s.coreRuns = true ∧ s.elytraUp = true ∧ s.role 0 = 0 ∧ s.role 1 = 0) ∧
    (∃ (s : State), s.coreRuns = true ∧ s.elytraUp = true) ∧
    (∃ (s : State) (h : Fin 2), s.coreRuns = true ∧ s.elytraUp = true ∧ s.still = false ∧ s.active h.val = false) ∧
    (∃ (s : State) (h : Fin 2) (n : BitVec 32), s.coreRuns = true ∧ s.elytraUp = true ∧ s.still = false ∧ s.active h.val = true ∧ (s.home h.val).lease = true ∧ n.toNat ≤ (s.home h.val).leaseNo) ∧
    (∃ (s : State) (h : Fin 2) (n : BitVec 32) (e : _), s.coreRuns = true ∧ s.elytraUp = true ∧ s.still = false ∧ (s.home h.val).granted = some (n.toNat, e)) ∧
    (∃ (s : State) (h : Fin 2), s.coreRuns = true ∧ s.active h.val = true ∧ (s.home h.val).lease = true) ∧
    (∃ (s : State) (h : Fin 2), s.coreRuns = true ∧ s.standby h.val = true ∧ s.pairState h.val = 3 ∧ (s.home h.val).lease = true ∧ (s.home h.val).granted.isSome = true ∧ (s.elytraUp = true ∨ s.sideA = true)) ∧
    (∃ (s : State) (h : Fin 2), s.coreRuns = true ∧ s.standby h.val = true ∧ s.pairState h.val = 3 ∧ (s.home h.val).lease = true ∧ (s.home h.val).granted.isSome = true ∧ s.elytraUp = false ∧ s.sideA = false) ∧
    (∃ (s : State), s.coreRuns = true ∧ s.elytraUp = true ∧ s.still = false) :=
  ⟨⟨up, 0, by decide +kernel⟩,
   ⟨upLanes 3, 0, by decide +kernel⟩,
   ⟨up, by decide +kernel⟩,
   ⟨upLink.put Fld.TWN_STATUS_ROLE0 0, by decide +kernel⟩,
   ⟨upLink, by decide +kernel⟩,
   ⟨upLink, 1, by decide +kernel⟩,
   ⟨upLink.updHome 0 (fun x => { x with lease := true, leaseNo := 1 }), 0, 1, by decide +kernel⟩,
   ⟨upLink.updHome 0 (fun x => { x with granted := some (1, 5) }), 0, 1, 5, by decide +kernel⟩,
   ⟨upHome (fun x => { x with lease := true }), 0, by decide +kernel⟩,
   ⟨sets [(Fld.TWN_STATUS_ROLE0, 2), (Fld.TWN_STATUS_STATE0, 3)] (upLink.updHome 0 (fun x => { x with lease := true, granted := some (1, 5) })), 0, by decide +kernel⟩,
   ⟨sets [(Fld.TWN_STATUS_ROLE0, 2), (Fld.TWN_STATUS_STATE0, 3)] (upHome (fun x => { x with lease := true, granted := some (1, 5) })), 0, by decide +kernel⟩,
   ⟨upLink, by decide +kernel⟩⟩

def rec0 : StandRec := { term := 0, epoch := 0, role := 0 }
def upBoth : State := sets [(Fld.TWN_STATUS_ROLE1, 1), (Fld.TWN_STATUS_STATE1, 3), (Fld.TWN_CTRL_EN, 1)] upPaired
def upHanding : State := upPaired.updHome 0 (fun x => { x with handing := true })

theorem witness_PairingAndCommandsAct :
    (∃ (s : State), s.coreRuns = true ∧ s.elytraUp = true ∧ s.still = false ∧ s.on Fld.TWN_CTRL_EN = true ∧ s.twin.conflict = false ∧ s.active 0 = true ∧ s.active 1 = true ∧ s.pairState 0 = 3 ∧ s.pairState 1 = 3) ∧
    (∃ (s : State), s.coreRuns = true ∧ s.elytraUp = true ∧ s.still = false ∧ s.on Fld.TWN_CTRL_EN = false) ∧
    (∃ (s : State), s.coreRuns = true ∧ s.twin.pairWait = true ∧ s.on Fld.TWN_CTRL_EN = true ∧ s.get Fld.CFL_BOOTINFO_STEP ≠ 9) ∧
    (∃ (s : State) (h : Fin 2), s.coreRuns = true ∧ s.paired h.val = true ∧ s.twin.partnerPfw = false ∧ (s.home h.val).handing = false ∧ s.on Fld.GLB_STATUS_MIXED = false ∧ s.on Fld.TWN_CTRL_FAILBACK = false ∧ h.val ≠ s.preferred) ∧
    (∃ (s : State) (h : Fin 2), s.coreRuns = true ∧ s.paired h.val = true ∧ s.twin.partnerPfw = false ∧ (s.home h.val).handing = false ∧ s.on Fld.GLB_STATUS_MIXED = true) ∧
    (∃ (s : State) (h : Fin 2), s.coreRuns = true ∧ s.paired h.val = true ∧ s.twin.partnerPfw = false ∧ (s.home h.val).handing = false ∧ s.on Fld.TWN_CTRL_FAILBACK = true) ∧
    (∃ (s : State) (h : Fin 2), s.coreRuns = true ∧ (s.home h.val).handing = true ∧ s.drainedHome h.val = true) ∧
    (∃ (s : State) (h : Fin 2), s.coreRuns = true ∧ (s.home h.val).handing = true ∧ s.drainedHome h.val = false) ∧
    (∃ (s : State) (h : Nat), h < 2 ∧ s.get Fld.CFL_BOOTINFO_STEP ≠ 9) ∧
    (∃ (s : State) (h : Fin 2), s.coreRuns = true ∧ (s.home h.val).token = false) ∧
    (∃ (s : State) (h : Fin 2), s.coreRuns = true ∧ (s.home h.val).token = true) ∧
    (∃ (s : State) (h : Fin 2), s.coreRuns = true ∧ (s.home h.val).diverged = true ∧ s.active h.val = false ∧ s.elytraUp = false) ∧
    (∃ (s : State) (h : Fin 2), s.coreRuns = true ∧ s.active h.val = true ∧ s.pairState h.val = 4) ∧
    (∃ (s : State) (h : Fin 2), s.coreRuns = true ∧ s.pairState h.val ≠ 4) ∧
    (∃ (s : State) (h : Fin 2), s.coreRuns = true ∧ s.acts h.val = true ∧ (s.home h.val).arpsDue ≠ 0) :=
  ⟨⟨upBoth, by decide +kernel⟩,
   ⟨upLink.put Fld.TWN_CTRL_EN 0, by decide +kernel⟩,
   ⟨{ up.put Fld.TWN_CTRL_EN 1 with twin := { up.twin with pairWait := true } }, by decide +kernel⟩,
   ⟨upPaired.put Fld.TWN_CTRL_FAILBACK 0, 0, by decide +kernel⟩,
   ⟨upPaired.put Fld.GLB_STATUS_MIXED 1, 0, by decide +kernel⟩,
   ⟨upPaired.put Fld.TWN_CTRL_FAILBACK 1, 0, by decide +kernel⟩,
   ⟨upHanding, 0, by decide +kernel⟩,
   ⟨{ upHanding with net := { upHanding.net with txns := [txn2] } }, 0, by decide +kernel⟩,
   ⟨up, 0, by decide +kernel⟩,
   ⟨upHome (fun x => { x with token := false }), 0, by decide +kernel⟩,
   ⟨up, 0, by decide +kernel⟩,
   ⟨(upHome (fun x => { x with diverged := true })).put Fld.TWN_STATUS_ROLE0 0, 0, by decide +kernel⟩,
   ⟨up.put Fld.TWN_STATUS_STATE0 4, 0, by decide +kernel⟩,
   ⟨up, 0, by decide +kernel⟩,
   ⟨upHome (fun x => { x with arpsDue := 1 }), 0, by decide +kernel⟩⟩

def upStandby : State := sets [(Fld.TWN_STATUS_ROLE0, 2), (Fld.TWN_STATUS_STATE0, 3)] upLink
def upBist : State := { up with twin := { up.twin with bist := some 0 } }

theorem witness_HealthAndBistAct :
    (∃ (s : State), s.coreRuns = true ∧ s.elytraUp = true ∧ s.standby 0 = false ∧ s.standby 1 = false) ∧
    (∃ (s : State), s.coreRuns = true ∧ (s.standby 0 = true ∨ s.standby 1 = true)) ∧
    (∃ (s : State), s.coreRuns = true ∧ s.elytraUp = true ∧ s.still = false ∧ s.active 0 = false ∧ s.active 1 = false) ∧
    (∃ (s : State), s.coreRuns = true) ∧
    (∃ (s : State), s.coreRuns = true ∧ (s.standby 0 = true ∨ s.standby 1 = true) ∧ s.twin.bist = none ∧ s.admits 3 = true) ∧
    (∃ (s : State), s.coreRuns = true ∧ s.twin.bist ≠ none) ∧
    (∃ (s : State) (k : Fin 12), s.coreRuns = true ∧ s.twin.bist = some k.val ∧ k.val ≠ 11 ∧ (∃ i, i < 8 ∧ i ≠ k.val ∧ i ∉ s.net.deadClusters)) ∧
    (∃ (s : State) (k : Fin 12), s.coreRuns = true ∧ k.val ∈ s.net.deadClusters) ∧
    (∃ (s : State) (k : Fin 12), s.coreRuns = true ∧ k.val ∉ s.net.deadClusters ∧ k.val ≠ 11 ∧ (∃ i, i < 8 ∧ i ≠ k.val ∧ i ∉ s.net.deadClusters)) ∧
    (∃ (s : State), s.coreRuns = true ∧ (s.standby 0 = true ∨ s.standby 1 = true)) ∧
    (∃ (s : State), s.coreRuns = true ∧ s.standby 0 = false ∧ s.standby 1 = false) :=
  ⟨⟨upLink, by decide +kernel⟩,
   ⟨upStandby, by decide +kernel⟩,
   ⟨upLink.put Fld.TWN_STATUS_ROLE0 0, by decide +kernel⟩,
   ⟨up, by decide +kernel⟩,
   ⟨upStandby, by decide +kernel⟩,
   ⟨upBist, by decide +kernel⟩,
   ⟨upBist, 0, by decide +kernel⟩,
   ⟨{ up with net := { up.net with deadClusters := [0] } }, 0, by decide +kernel⟩,
   ⟨up, 0, by decide +kernel⟩,
   ⟨upStandby, by decide +kernel⟩,
   ⟨up, by decide +kernel⟩⟩

/-- The chip stands by for home set 0; QP 2 has a queue there. -/
def upMirror : State := { upStandby with cqi := { up.cqi with queues := [(129, queue0)] } }
def data0 : DataHdr := { qpn := 2, home := 0, mseq := 1 }
def upLate : State := { upMirror with twin := { upMirror.twin with late := [(data0, .zero 0 8)] } }

theorem witness_MirrorFramesAreTakenAndConfirmed :
    (∃ (s : State) (x : Ely) (d : DataHdr) (a b c : BitVec 64) (data : List Byte) (i : Instr) (op : MirrorOp), s.elytraUp = true ∧ s.still = false ∧ data.length ≤ 4096 ∧ s.mirrorSide d.home.val = true ∧ ((i = .dataWrite x d a b data ∧ op = .write a.toNat b.toNat data) ∨ (i = .dataZero x d a b ∧ op = .zero a.toNat b.toNat) ∨ (i = .dataTrim x d a b ∧ op = .trim a.toNat b.toNat) ∨ (i = .dataAtomic x d a b c ∧ op = .atomic a.toNat b.toNat (leBytes 8 c.toNat)))) ∧
    (∃ (s : State) (d : DataHdr) (op : MirrorOp) (rest : List (DataHdr × MirrorOp)), s.twin.late = (d, op) :: rest ∧ s.budgetFits op.bytes = true) ∧
    (∃ (s : State) (d : DataHdr) (op : MirrorOp) (rest : List (DataHdr × MirrorOp)), s.twin.late = (d, op) :: rest ∧ s.budgetFits op.bytes = false) ∧
    (∃ (s : State) (d : DataHdr), s.elytraUp = true ∧ s.still = false ∧ s.mirrorSide d.home.val = true) ∧
    (∃ (s : State) (d : DataHdr) (k : Fin 64) (q : Queue), s.elytraUp = true ∧ s.still = false ∧ s.mirrorSide d.home.val = true ∧ s.queue d.qpn.toNat k.val = some q ∧ q.st ≠ .frozen) ∧
    (∃ (s : State) (d : DataHdr) (k : Fin 64) (q : Queue), s.elytraUp = true ∧ s.still = false ∧ s.mirrorSide d.home.val = true ∧ s.queue d.qpn.toNat k.val = some q ∧ 0 < q.sqSize) ∧
    (∃ (s : State) (d : DataHdr) (k : Fin 64) (entry : List Byte) (q : Queue), s.elytraUp = true ∧ s.still = false ∧ s.mirrorSide d.home.val = true ∧ s.queue d.qpn.toNat k.val = some q ∧ entry.length = 16) ∧
    (∃ (s : State) (d : DataHdr) (k : Fin 64) (entry : List Byte) (q : Queue), s.elytraUp = true ∧ s.still = false ∧ s.mirrorSide d.home.val = true ∧ s.queue d.qpn.toNat k.val = some q ∧ entry.length = 32) ∧
    (∃ (s : State) (d : DataHdr), s.elytraUp = true ∧ s.still = false ∧ s.mirrorSide d.home.val = true) ∧
    (∃ (s : State) (d : DataHdr), s.elytraUp = true ∧ s.still = false ∧ s.mirrorSide d.home.val = true) ∧
    (∃ (s : State) (d : DataHdr) (entries : List Byte) (q : Qp), s.elytraUp = true ∧ s.still = false ∧ s.mirrorSide d.home.val = true ∧ s.qp d.qpn.toNat = some q ∧ entries.length % 64 = 0 ∧ entries.length ≤ 4096) ∧
    (∃ (s : State) (d : DataHdr), s.elytraUp = true ∧ s.still = false ∧ s.mirrorSide d.home.val = false) ∧
    (∃ (s : State), s.elytraUp = false) :=
  ⟨⟨upMirror, ely0, data0, 0, 0, 0, bytes8, .dataWrite ely0 data0 0 0 bytes8, .write 0 0 bytes8, by decide +kernel⟩,
   ⟨upLate.setReg Reg.PWS_BUDGET 1, data0, .zero 0 8, [], by decide +kernel⟩,
   ⟨upLate, data0, .zero 0 8, [], by decide +kernel⟩,
   ⟨upMirror, data0, by decide +kernel⟩,
   ⟨upMirror, data0, 1, queue0, by decide +kernel⟩,
   ⟨upMirror, data0, 1, queue0, by decide +kernel⟩,
   ⟨upMirror, data0, 1, List.replicate 16 0, queue0, by decide +kernel⟩,
   ⟨upMirror, data0, 1, List.replicate 32 0, queue0, by decide +kernel⟩,
   ⟨upMirror, data0, by decide +kernel⟩,
   ⟨upMirror, data0, by decide +kernel⟩,
   ⟨upMirror, data0, List.replicate 64 0, qp0, by decide +kernel⟩,
   ⟨upLink, data0, by decide +kernel⟩,
   ⟨up, by decide +kernel⟩⟩

/-- The chip joins home set 0, in lockstep or before it. -/
def upJoin (state : Nat) : State :=
  sets [(Fld.TWN_STATUS_ROLE0, 3), (Fld.TWN_STATUS_STATE0, state)] (upLink.updHome 0 (fun x => { x with token := false, inRel := false }))

theorem witness_DeltasAndResyncAreTaken :
    (∃ (s : State) (h : Fin 2) (fin : Bool), s.elytraUp = true ∧ s.still = false ∧ s.mirrorSide h.val = true ∧ fin = false ∧ s.role h.val = 2) ∧
    (∃ (s : State) (h : Fin 2) (fin : Bool) (es : List DeltaEntry), s.elytraUp = true ∧ s.still = false ∧ s.mirrorSide h.val = true ∧ fin = true ∧ es = [] ∧ (s.home h.val).inRel = false) ∧
    (∃ (s : State) (h : Fin 2) (fin : Bool) (es : List DeltaEntry), s.elytraUp = true ∧ s.still = false ∧ s.mirrorSide h.val = true ∧ fin = false ∧ es = [] ∧ s.role h.val = 2) ∧
    (∃ (s : State) (h : Fin 2) (fin lock : Bool) (es : List DeltaEntry), s.elytraUp = true ∧ s.still = false ∧ s.mirrorSide h.val = true ∧ fin = false ∧ es = [] ∧ lock = false ∧ s.role h.val = 3 ∧ s.pairState h.val = 2 ∧ s.get Fld.CFL_BOOTINFO_STEP ≠ 9) ∧
    (∃ (s : State) (h : Fin 2), s.elytraUp = true ∧ s.still = false ∧ s.role h.val = 3) ∧
    (∃ (s : State) (h : Fin 2), s.elytraUp = true ∧ s.still = false ∧ s.role h.val = 3) ∧
    (∃ (s : State) (h : Fin 2) (a : Nat) (data : List Byte), s.elytraUp = true ∧ s.still = false ∧ s.role h.val = 3 ∧ data.length = 4096 ∧ a % 4096 = 0) ∧
    (∃ (s : State) (h : Fin 2) (slice : Fin 8) (p : Pkt) (q : Qp), s.elytraUp = true ∧ s.still = false ∧ s.role h.val = 3 ∧ s.shadow h.val = true ∧ s.acts h.val = false ∧ s.sliceOf p.qpn.toNat = slice.val ∧ s.qp p.qpn.toNat = some q) ∧
    (∃ (s : State) (h : Fin 2), s.role h.val ≠ 3) :=
  ⟨⟨upMirror, 0, false, by decide +kernel⟩,
   ⟨upJoin 2, 0, true, [], by decide +kernel⟩,
   ⟨upMirror, 0, false, [], by decide +kernel⟩,
   ⟨upJoin 2, 0, false, false, [], by decide +kernel⟩,
   ⟨upJoin 1, 0, by decide +kernel⟩,
   ⟨upJoin 1, 0, by decide +kernel⟩,
   ⟨upJoin 1, 0, 4096, List.replicate 4096 0, by decide +kernel⟩,
   ⟨upJoin 2, 0, 2, pkt0, qp0, by decide +kernel⟩,
   ⟨up, 0, by decide +kernel⟩⟩

def upLc (l : List (Field × Nat)) : State := sets l up
def line0 : Line := { way := 0, dirty := false, data := [] }
def upLine (x : Line) : State := { up with tier := { up.tier with lines := [(0, x)] } }

theorem witness_LineCacheIsControlled :
    (∃ (s : State), s.coreRuns = true ∧ s.on Fld.LC_CTRL_EN = false ∧ s.on Fld.LC_STATUS_INV_DONE = true) ∧
    (∃ (s : State), s.coreRuns = true ∧ s.on Fld.LC_CTRL_EN = false ∧ s.on Fld.LC_STATUS_INV_DONE = false) ∧
    (∃ (s : State), s.coreRuns = true ∧ s.on Fld.LC_CTRL_EN = true) ∧
    (∃ (s : State), s.coreRuns = true ∧ s.on Fld.LC_STATUS_DISABLING = true) ∧
    (∃ (s : State), s.coreRuns = true ∧ s.on Fld.LC_STATUS_LOCK_BUSY = true) ∧
    (∃ (s : State) (w : Fin 8), s.coreRuns = true ∧ s.on Fld.LC_STATUS_LOCK_BUSY = false ∧ s.wayLocked w.val = false) ∧
    (∃ (s : State) (w : Fin 8), s.coreRuns = true ∧ s.on Fld.LC_STATUS_LOCK_BUSY = false ∧ s.wayLocked w.val = true) ∧
    (∃ (s : State) (v : _), s.coreRuns = true ∧ s.tier.lockNew = some v ∧ v < 256) ∧
    (∃ (s : State) (l : Nat) (x : _), s.coreRuns = true ∧ s.line l = some x ∧ x.filling = true) ∧
    (∃ (s : State) (l : Nat) (x : _), s.coreRuns = true ∧ s.line l = some x ∧ x.filling = false) ∧
    (∃ (s : State) (b : Fin 16), s.coreRuns = true ∧ s.bankFills b.val < 64) ∧
    (∃ (s : State) (b : Fin 16), s.coreRuns = true ∧ 64 ≤ s.bankFills b.val) ∧
    (∃ (s : State) (b : Fin 16), s.coreRuns = true ∧ s.bankOn b.val = false) :=
  ⟨⟨upLc [(Fld.LC_STATUS_INV_DONE, 1)], by decide +kernel⟩,
   ⟨up, by decide +kernel⟩,
   ⟨upLc [(Fld.LC_CTRL_EN, 1)], by decide +kernel⟩,
   ⟨upLc [(Fld.LC_STATUS_DISABLING, 1)], by decide +kernel⟩,
   ⟨upLc [(Fld.LC_STATUS_LOCK_BUSY, 1)], by decide +kernel⟩,
   ⟨up, 7, by decide +kernel⟩,
   ⟨upLc [(Fld.LC_LOCK_LOCK, 128)], 7, by decide +kernel⟩,
   ⟨{ up with tier := { up.tier with lockNew := some 255 } }, 255, by decide +kernel⟩,
   ⟨upLine { line0 with filling := true }, 0, { line0 with filling := true }, by decide +kernel⟩,
   ⟨upLine line0, 0, line0, by decide +kernel⟩,
   ⟨{ up with tier := { up.tier with lines := List.replicate 63 (0, { line0 with filling := true }) } }, 0, by decide +kernel⟩,
   ⟨{ up with tier := { up.tier with lines := List.replicate 64 (0, { line0 with filling := true }) } }, 0, by decide +kernel⟩,
   ⟨up, 15, by decide +kernel⟩⟩

def upMop (busy en addrHi lines : Nat) : State :=
  ((sets [(Fld.LC_MOP_STATUS_BUSY, busy), (Fld.LC_CTRL_EN, en), (Fld.LC_LOCK_LOCK, 1)] up).setReg Reg.LC_MOP_ADDR_HI
    (BitVec.ofNat 32 addrHi)).setReg Reg.LC_MOP_LINES (BitVec.ofNat 32 lines)

theorem witness_MaintenanceOperationsAct :
    (∃ (s : State) (i : Instr), i ∈ [Instr.invAll, .invRange, .cleanRange, .cleanInvRange, .zeroLine, .cleanAll, .cleanInvAll, .lockFill 1, .lcMopReservedOp 0, .lcMopReservedOp 9] ∧ s.coreRuns = true ∧ s.on Fld.LC_MOP_STATUS_BUSY = true) ∧
    (∃ (s : State) (op : BitVec 4), s.coreRuns = true ∧ s.on Fld.LC_MOP_STATUS_BUSY = false ∧ (op = 0 ∨ 8 < op.toNat)) ∧
    (∃ (s : State), s.coreRuns = true ∧ s.on Fld.LC_MOP_STATUS_BUSY = false ∧ s.on Fld.LC_CTRL_EN = false) ∧
    (∃ (s : State), s.coreRuns = true ∧ s.on Fld.LC_MOP_STATUS_BUSY = false ∧ s.on Fld.LC_CTRL_EN = true ∧ s.mopRange.1 + s.mopRange.2 ≤ 2 ^ 45 ∧ s.mopRange.1 < reserveLine) ∧
    (∃ (s : State) (l0 n : Nat) (i k : _), s.coreRuns = true ∧ s.on Fld.LC_MOP_STATUS_BUSY = false ∧ s.on Fld.LC_CTRL_EN = true ∧ s.mopRange = (l0, n) ∧ l0 + n ≤ 2 ^ 45 ∧ (i, k) ∈ [(Instr.invRange, 2), (.cleanInvRange, 4)]) ∧
    (∃ (s : State) (l0 n : Nat) (m : BitVec 8), s.coreRuns = true ∧ s.on Fld.LC_MOP_STATUS_BUSY = false ∧ s.on Fld.LC_CTRL_EN = true ∧ s.mopRange = (l0, n) ∧ l0 + n ≤ 2 ^ 45 ∧ reserveLine ≤ l0 ∧ m ≠ 0 ∧ (∀ w, w < 8 → m.getLsbD w = true → s.wayLocked w = true)) ∧
    (∃ (s : State) (op err : Nat), s.coreRuns = true ∧ s.tier.mop = some (op, err) ∧ err < 8) :=
  ⟨⟨upMop 1 0 0 0, .cleanAll, by decide +kernel⟩,
   ⟨up, 9, by decide +kernel⟩,
   ⟨upMop 0 0 0 0, by decide +kernel⟩,
   ⟨upMop 0 1 0 1, by decide +kernel⟩,
   ⟨upMop 0 1 0 1, 0, 1, .cleanInvRange, 4, by decide +kernel⟩,
   ⟨upMop 0 1 262144 1, 2 ^ 44, 1, 1, by decide +kernel⟩,
   ⟨{ up with tier := { up.tier with mop := some (6, 5) } }, 6, 5, by decide +kernel⟩⟩

/-- A channel of one die; a superblock that is open, closed or verified, with one page in flight. -/
def geom0 : FlashGeom := { dies := 1, blockLog2 := 7, dieBlocks := 4 }
def sb0 (st : SbSt) : Sb := { stream := 0, st := st, members := List.replicate 32 0, pages := 128, next := List.replicate 32 1 }
def upSb (st : SbSt) : State :=
  { up with flash := { up.flash with sbs := [(0, sb0 st)], ops := [{ sb := 0, pos := 0, page := 0, use := .filler }] } }
def upBlk (st : BlkSt) : State := { up with flash := { up.flash with blocks := [(1, { st := st })] } }
def map0 : MapEnt := { phys := 0, version := 1 }
def upMapped (filling : Bool) : State :=
  { upFrame { frame0 with filling := filling } with flash := { up.flash with map := [(0, map0)] } }
def upErasing : State := { upMapped true with flash := { (upMapped true).flash with blocks := [(1, { st := .erasing })] } }

theorem witness_FlashPagesAndBlocks :
    (∃ (s : State) (c : Fin 32), s.coreRuns = true ∧ s.get (Fld.FCH_STATUS_STATE c.val) ≠ 2) ∧
    (∃ (s : State) (c : Fin 32), s.coreRuns = true ∧ s.get (Fld.FCH_STATUS_STATE c.val) = 2) ∧
    (∃ (s : State) (block page : Nat), s.coreRuns = true ∧ s.findOp block page = none) ∧
    (∃ (s : State) (block page : Nat) (o x : _), s.coreRuns = true ∧ s.findOp block page = some (o, x)) ∧
    (∃ (s : State) (block : Nat), s.coreRuns = true ∧ ((s.blk block).st = .erasing ∨ (s.blk block).st = .eraseIncomplete)) ∧
    (∃ (s : State) (block : Nat), s.coreRuns = true ∧ (s.blk block).st = .free) ∧
    (∃ (s : State) (u : Nat) (f : Frame) (m : MapEnt), s.coreRuns = true ∧ s.frame u = some f ∧ kget s.flash.map u = some m ∧ f.filling = true) ∧
    (∃ (s : State) (u : Nat) (f : Frame) (m : MapEnt), s.coreRuns = true ∧ s.frame u = some f ∧ kget s.flash.map u = some m ∧ f.filling = true ∧ s.rebuildable m.phys = false) ∧
    (∃ (s : State) (u : Nat) (f : Frame) (m : MapEnt), s.coreRuns = true ∧ s.frame u = some f ∧ kget s.flash.map u = some m ∧ f.filling = true ∧ s.flash.blocks.all (fun e => e.2.st != .erasing) = true) ∧
    (∃ (s : State) (u : Nat) (f : Frame) (m : MapEnt) (e : _), s.coreRuns = true ∧ s.frame u = some f ∧ kget s.flash.map u = some m ∧ f.filling = true ∧ s.flash.blocks.find? (fun e => e.2.st == .erasing && nameChan e.1 == nameChan m.phys && nameDie e.1 == nameDie m.phys) = some e ∧ s.on Fld.FTL_CTRL_ERASE_SUSPEND = true ∧ e.2.suspends.contains u = false ∧ e.2.suspends.length < s.get (Fld.FCH_ERASE_MAX_SUSPEND (nameChan m.phys))) ∧
    (∃ (s : State) (u : Nat) (f : Frame) (m : MapEnt), s.coreRuns = true ∧ s.frame u = some f ∧ kget s.flash.map u = some m ∧ f.filling = false) ∧
    (∃ (s : State) (n : Nat) (x : Sb), s.coreRuns = true ∧ s.sb n = some x ∧ x.st = .closed) ∧
    (∃ (s : State) (n : Nat) (x : Sb), s.coreRuns = true ∧ s.sb n = some x ∧ x.st ≠ .closed) ∧
    (∃ (s : State) (p : Nat), s.coreRuns = true ∧ p < 32) ∧
    (∃ (s : State) (p : Nat), s.coreRuns = true ∧ 32 ≤ p) ∧
    (∃ (s : State) (c : Fin 32), s.coreRuns = true ∧ s.chanIn c.val = true) ∧
    (∃ (s : State) (c : Fin 32), s.coreRuns = true ∧ s.chanIn c.val = false) :=
  ⟨⟨up, 31, by decide +kernel⟩,
   ⟨up.put (Fld.FCH_STATUS_STATE 0) 2, 0, by decide +kernel⟩,
   ⟨up, 0, 0, by decide +kernel⟩,
   ⟨upSb .opened, 0, 0, { sb := 0, pos := 0, page := 0, use := .filler }, sb0 .opened, by decide +kernel⟩,
   ⟨upBlk .erasing, 1, by decide +kernel⟩,
   ⟨up, 1, by decide +kernel⟩,
   ⟨upMapped true, 0, { frame0 with filling := true }, map0, by decide +kernel⟩,
   ⟨upMapped true, 0, { frame0 with filling := true }, map0, by decide +kernel⟩,
   ⟨upMapped true, 0, { frame0 with filling := true }, map0, by decide +kernel⟩,
   ⟨upErasing, 0, { frame0 with filling := true }, map0, (1, { st := .erasing }), by decide +kernel⟩,
   ⟨upMapped false, 0, frame0, map0, by decide +kernel⟩,
   ⟨upSb .closed, 0, sb0 .closed, by decide +kernel⟩,
   ⟨upSb .opened, 0, sb0 .opened, by decide +kernel⟩,
   ⟨up, 31, by decide +kernel⟩,
   ⟨up, 32, by decide +kernel⟩,
   ⟨up.put (Fld.FCH_STATUS_STATE 0) 2, 0, by decide +kernel⟩,
   ⟨up, 0, by decide +kernel⟩⟩

/-- Unit 0 is whole and dirty, and a superblock has room for it. -/
def dirty0 : Frame := { valid := allLines, dirty := 1 }
def upDirty : State := { upSb .opened with tier := { up.tier with frames := [(0, dirty0)] } }
def prog0 : Prog := { version := 1, loc := 0, stamp := 1, poison := 0, cells := [] }
def upMounted : State := up.put Fld.FTL_STATUS_MOUNTED 1
def upGc : State := { upMounted with flash := (upSb .verified).flash }
def upStep8 (formatted keys : Bool) : State :=
  { up.put Fld.CFL_BOOTINFO_STEP 8 with
    flash := { up.flash with formatted := formatted },
    sealing := { up.sealing with slots := if keys then [(0, { key := [] }), (4096, { key := [] })] else [] } }

theorem witness_DestageCheckpointsAndCollection :
    (∃ (s : State), s.coreRuns = true ∧ (s.admits 0 = false ∨ s.get Fld.GOV_STATUS_PSTATE = 2 ∨ s.oldestDirty = none)) ∧
    (∃ (s : State) (e : _), s.coreRuns = true ∧ s.admits 0 = true ∧ s.get Fld.GOV_STATUS_PSTATE ≠ 2 ∧ s.oldestDirty = some e) ∧
    (∃ (s : State) (u r f : _), s.coreRuns = true ∧ s.frame u = some f ∧ ((s.fillLines u allLines).cleanUnit u).handPage false 0 (some (u % 32)) (.unit u s.flash.version) = some r) ∧
    (∃ (s : State) (u : Nat) (p : Prog), s.coreRuns = true ∧ kget s.flash.prog u = some p) ∧
    (∃ (s : State) (h : Fin 2), s.coreRuns = true ∧ (s.placeLate (s.twin.late.length + 1)).accepting h.val = true) ∧
    (∃ (s : State) (h : Fin 2), s.coreRuns = true ∧ (s.placeLate (s.twin.late.length + 1)).accepting h.val = false) ∧
    (∃ (s : State), s.coreRuns = true ∧ s.on Fld.FTL_STATUS_MOUNTED = true ∧ s.on Fld.FTL_STATUS_CKPT_BUSY = false) ∧
    (∃ (s : State), s.coreRuns = true ∧ (s.on Fld.FTL_STATUS_MOUNTED = false ∨ s.on Fld.FTL_STATUS_CKPT_BUSY = true)) ∧
    (∃ (s : State), s.coreRuns = true ∧ s.on Fld.FTL_STATUS_CKPT_BUSY = true) ∧
    (∃ (s : State), s.coreRuns = true ∧ s.on Fld.FTL_STATUS_CKPT_BUSY = false) ∧
    (∃ (s : State) (e : _), s.coreRuns = true ∧ s.on Fld.FTL_STATUS_MOUNTED = true ∧ s.on Fld.FTL_STATUS_GC_ACTIVE = false ∧ s.admits 1 = true ∧ s.freeSbs ≤ s.reserveSb + s.get Fld.FTL_RESERVE2_GC_START ∧ s.gcVictim = some e) ∧
    (∃ (s : State), s.coreRuns = true ∧ (s.on Fld.FTL_STATUS_MOUNTED = false ∨ s.on Fld.FTL_STATUS_GC_ACTIVE = true ∨ s.admits 1 = false)) ∧
    (∃ (s : State), s.coreRuns = true) ∧
    (∃ (s : State), s.coreRuns = true ∧ (s.get Fld.CFL_BOOTINFO_STEP ≠ 8 ∨ s.on Fld.FTL_STATUS_MOUNTED = true)) ∧
    (∃ (s : State), s.coreRuns = true ∧ s.get Fld.CFL_BOOTINFO_STEP = 8 ∧ s.on Fld.FTL_STATUS_MOUNTED = false ∧ s.flash.formatted = true ∧ s.keysReady = true) ∧
    (∃ (s : State), s.coreRuns = true ∧ s.get Fld.CFL_BOOTINFO_STEP = 8 ∧ s.on Fld.FTL_STATUS_MOUNTED = false ∧ s.flash.formatted = true ∧ s.keysReady = false) :=
  ⟨⟨up, by decide +kernel⟩,
   ⟨upDirty, (0, dirty0), by decide +kernel⟩,
   ⟨upDirty, 0, ((((upDirty.fillLines 0 allLines).cleanUnit 0).handPage false 0 (some 0) (.unit 0 1)).getD (up, 0)), dirty0, by decide +kernel⟩,
   ⟨{ up with flash := { up.flash with prog := [(0, prog0)] } }, 0, prog0, by decide +kernel⟩,
   ⟨up, 0, by decide +kernel⟩,
   ⟨up, 1, by decide +kernel⟩,
   ⟨upMounted, by decide +kernel⟩,
   ⟨up, by decide +kernel⟩,
   ⟨up.put Fld.FTL_STATUS_CKPT_BUSY 1, by decide +kernel⟩,
   ⟨up, by decide +kernel⟩,
   ⟨upGc, (0, sb0 .verified), by decide +kernel⟩,
   ⟨up, by decide +kernel⟩,
   ⟨up, by decide +kernel⟩,
   ⟨up, by decide +kernel⟩,
   ⟨upStep8 true true, by decide +kernel⟩,
   ⟨upStep8 true false, by decide +kernel⟩⟩

/-- Channel 0 is in service; its queue and the requests that wait as given. -/
def upChan (x : DramChan) : State := { up.put (Fld.DMC_STATUS_STATE 0) 2 with dram := { up.dram with chans := [x] } }
def addr0 : DramAddr := { chan := 0, sub := 0, line := 0 }
def ent0 (w : Bool) : DmcEntry := { seq := 0, a := addr0, write := w }
def addr1 : DramAddr := { addr0 with line := 1 }

theorem witness_DramQueuesAndRefreshAct :
    (∃ (s : State) (a : DramAddr), s.coreRuns = true ∧ s.dmcState a.chan.val ≠ 2 ∧ s.dmcState a.chan.val ≠ 4) ∧
    (∃ (s : State) (a : DramAddr), s.coreRuns = true ∧ (s.dmcState a.chan.val = 2 ∨ s.dmcState a.chan.val = 4) ∧ (∃ e ∈ (s.chan a.chan.val).queue, e.a.sub = a.sub ∧ e.write = true ∧ e.a.line = a.line)) ∧
    (∃ (s : State) (a : DramAddr), s.coreRuns = true ∧ (s.dmcState a.chan.val = 2 ∨ s.dmcState a.chan.val = 4) ∧ (∃ e ∈ (s.chan a.chan.val).queue, e.a.sub = a.sub ∧ e.write = true ∧ e.a.line = a.line ∧ e.issued = false)) ∧
    (∃ (s : State) (a : DramAddr) (w : Bool), s.coreRuns = true ∧ (s.dmcState a.chan.val = 2 ∨ s.dmcState a.chan.val = 4) ∧ (∀ e ∈ (s.chan a.chan.val).queue, e.a.line ≠ a.line) ∧ ((s.chan a.chan.val).of a.sub.val w).length < 64) ∧
    (∃ (s : State) (a : DramAddr) (w : Bool), s.coreRuns = true ∧ (s.dmcState a.chan.val = 2 ∨ s.dmcState a.chan.val = 4) ∧ (∀ e ∈ (s.chan a.chan.val).queue, e.a.line ≠ a.line) ∧ 64 ≤ ((s.chan a.chan.val).of a.sub.val w).length) ∧
    (∃ (s : State) (c : Fin 16) (sub : Fin 2) (w : Bool), s.coreRuns = true ∧ 64 ≤ ((s.chan c.val).of sub.val w).length) ∧
    (∃ (s : State) (c : Fin 16), s.coreRuns = true ∧ (s.chan c.val).waiting = []) ∧
    (∃ (s : State) (c : Fin 16) (sub : Fin 2) (w : Bool) (a rest : _), s.coreRuns = true ∧ ((s.chan c.val).of sub.val w).length < 64 ∧ (s.chan c.val).waiting = (a, w) :: rest ∧ a.sub = sub) ∧
    (∃ (s : State) (a : DramAddr) (f1 f2 : List (BitVec 80)), s.coreRuns = true ∧ (s.dmcState a.chan.val = 2 ∨ s.dmcState a.chan.val = 4) ∧ f1.length = 8 ∧ f2.length = 8) ∧
    (∃ (s : State), s.coreRuns = true) ∧
    (∃ (s : State) (c r : Fin 16), s.coreRuns = true ∧ (s.chan c.val).busy r.val = true) ∧
    (∃ (s : State) (c r : Fin 16), s.coreRuns = true ∧ (s.chan c.val).busy r.val = false) ∧
    (∃ (s : State) (c : Fin 16), s.coreRuns = true ∧ (s.dmcState c.val = 2 ∨ s.dmcState c.val = 4)) ∧
    (∃ (s : State) (c : Fin 16), s.coreRuns = true ∧ s.dmcState c.val ≠ 2 ∧ s.dmcState c.val ≠ 4) ∧
    (∃ (s : State) (c r : Fin 16), s.coreRuns = true ∧ (s.on (Fld.DMC_REFCTL_GOV_HOLD c.val) = true ∨ (s.chan c.val).busy r.val = true)) ∧
    (∃ (s : State) (c r : Fin 16), s.coreRuns = true ∧ s.on (Fld.DMC_REFCTL_GOV_HOLD c.val) = false ∧ (s.chan c.val).busy r.val = false) ∧
    (∃ (s : State), s.coreRuns = true) :=
  ⟨⟨up, addr0, by decide +kernel⟩,
   ⟨upChan { queue := [ent0 true] }, addr0, by decide +kernel⟩,
   ⟨upChan { queue := [ent0 true] }, addr0, by decide +kernel⟩,
   ⟨upChan { queue := List.replicate 63 (ent0 true) }, addr1, true, by decide +kernel⟩,
   ⟨upChan { queue := List.replicate 64 (ent0 true) }, addr1, true, by decide +kernel⟩,
   ⟨upChan { queue := List.replicate 64 (ent0 true) }, 0, 0, true, by decide +kernel⟩,
   ⟨upChan {}, 0, by decide +kernel⟩,
   ⟨upChan { waiting := [(addr0, true)] }, 0, 0, true, addr0, [], by decide +kernel⟩,
   ⟨upChan {}, addr0, List.replicate 8 0, List.replicate 8 0, by decide +kernel⟩,
   ⟨up, by decide +kernel⟩,
   ⟨upChan { queue := [ent0 true] }, 0, 0, by decide +kernel⟩,
   ⟨upChan { queue := [ent0 true] }, 0, 15, by decide +kernel⟩,
   ⟨upChan {}, 0, by decide +kernel⟩,
   ⟨up, 0, by decide +kernel⟩,
   ⟨up.put (Fld.DMC_REFCTL_GOV_HOLD 0) 1, 0, 0, by decide +kernel⟩,
   ⟨up.put (Fld.DMC_REFCTL_GOV_HOLD 0) 0, 0, 0, by decide +kernel⟩,
   ⟨up, by decide +kernel⟩⟩

theorem witness_DramChannelsComeAndGo :
    (∃ (s : State) (c : Fin 16) (sub : Fin 2), s.coreRuns = true ∧ (s.chan c.val).stopped.getD sub.val false = false) ∧
    (∃ (s : State) (c : Fin 16) (sub : Fin 2), s.coreRuns = true ∧ (s.chan c.val).stopped.getD sub.val false = true) ∧
    (∃ (s : State) (c : Fin 16), s.coreRuns = true ∧ s.dmcState c.val ≠ 1) ∧
    (∃ (s : State) (c : Fin 16), s.coreRuns = true ∧ s.dmcState c.val = 1) ∧
    (∃ (s : State) (failed : BitVec 16), s.coreRuns = true ∧ (∀ e ∈ s.tier.frames, failed.getLsbD e.2.chan = false)) ∧
    (∃ (s : State) (c : Fin 16), s.coreRuns = true ∧ s.dmcState c.val ≠ 4) ∧
    (∃ (s : State) (c : Fin 16), s.coreRuns = true ∧ s.dmcState c.val = 4) :=
  ⟨⟨up, 0, 0, by decide +kernel⟩,
   ⟨upChan { stopped := [true, false] }, 0, 0, by decide +kernel⟩,
   ⟨up, 15, by decide +kernel⟩,
   ⟨up.put (Fld.DMC_STATUS_STATE 15) 1, 15, by decide +kernel⟩,
   ⟨up, 0, by decide +kernel⟩,
   ⟨up, 0, by decide +kernel⟩,
   ⟨up.put (Fld.DMC_STATUS_STATE 0) 4, 0, by decide +kernel⟩⟩

def upScrub (stopping : Bool) : State :=
  { up with dram := { up.dram with scrub := some (0, false, 0, 1), stopping := stopping } }
def clog0 : ClogEnt := { chan := 0, sub := 0, line := 0, word := 0, double := false, scrub := false }

theorem witness_ScrubPatrolAndRemapAct :
    (∃ (s : State), s.coreRuns = true ∧ s.on Fld.ECC_SCRUB_STATUS_BUSY = true) ∧
    (∃ (s : State) (t : Fin 4), s.coreRuns = true ∧ s.on Fld.ECC_SCRUB_STATUS_BUSY = false ∧ t.val = 3) ∧
    (∃ (s : State) (t : Fin 4), s.coreRuns = true ∧ s.on Fld.ECC_SCRUB_STATUS_BUSY = false ∧ t.val = 0 ∧ 2 ^ 51 < s.reg64 Reg.ECC_SCRUB_ADDR_LO Reg.ECC_SCRUB_ADDR_HI + (s.reg Reg.ECC_SCRUB_LINES).toNat * 64) ∧
    (∃ (s : State) (t : Fin 4), s.coreRuns = true ∧ s.on Fld.ECC_SCRUB_STATUS_BUSY = false ∧ t.val ≠ 3 ∧ (t.val = 0 → s.reg64 Reg.ECC_SCRUB_ADDR_LO Reg.ECC_SCRUB_ADDR_HI + (s.reg Reg.ECC_SCRUB_LINES).toNat * 64 ≤ 2 ^ 51)) ∧
    (∃ (s : State), s.coreRuns = true ∧ s.dram.scrub.isSome = true) ∧
    (∃ (s : State), s.coreRuns = true ∧ s.dram.scrub = none) ∧
    (∃ (s : State), s.coreRuns = true ∧ s.dram.stopping = true) ∧
    (∃ (s : State), s.coreRuns = true ∧ s.dram.stopping = false ∧ s.dram.scrub.isSome = true) ∧
    (∃ (s : State) (h : Fin 2), s.coreRuns = true ∧ (s.on Fld.ECC_CTRL_PATROL_EN = false ∨ s.standby h.val = false)) ∧
    (∃ (s : State) (h : Fin 2), s.coreRuns = true ∧ s.on Fld.ECC_CTRL_PATROL_EN = true ∧ s.standby h.val = true) ∧
    (∃ (s : State) (c : Fin 16), s.coreRuns = true ∧ (s.dmcState c.val = 2 ∨ s.dmcState c.val = 4)) ∧
    (∃ (s : State) (c : Fin 16), s.coreRuns = true ∧ s.dmcState c.val ≠ 2 ∧ s.dmcState c.val ≠ 4) ∧
    (∃ (s : State) (e l : _), s.coreRuns = true ∧ s.dram.clog = e :: l) ∧
    (∃ (s : State), s.coreRuns = true ∧ s.dram.clog = []) :=
  ⟨⟨up.put Fld.ECC_SCRUB_STATUS_BUSY 1, by decide +kernel⟩,
   ⟨up, 3, by decide +kernel⟩,
   ⟨(up.setReg Reg.ECC_SCRUB_ADDR_HI 0x80000).setReg Reg.ECC_SCRUB_LINES 1, 0, by decide +kernel⟩,
   ⟨(up.setReg Reg.ECC_SCRUB_ADDR_HI 0x80000).setReg Reg.ECC_SCRUB_LINES 0, 0, by decide +kernel⟩,
   ⟨upScrub false, by decide +kernel⟩,
   ⟨up, by decide +kernel⟩,
   ⟨upScrub true, by decide +kernel⟩,
   ⟨upScrub false, by decide +kernel⟩,
   ⟨up, 0, by decide +kernel⟩,
   ⟨upStandby.put Fld.ECC_CTRL_PATROL_EN 1, 0, by decide +kernel⟩,
   ⟨upChan {}, 0, by decide +kernel⟩,
   ⟨up, 0, by decide +kernel⟩,
   ⟨{ up with dram := { up.dram with clog := [clog0] } }, clog0, [], by decide +kernel⟩,
   ⟨up, by decide +kernel⟩⟩

/-- Colony messages: a header, a join with credential 7, a member at path 2, its HEALTH. -/
def hdr0 (ok : Bool) : ColHdr := { crcOk := ok, txn := 1, path := 2, depth := 1 }
def join0 (cred : BitVec 64) : ColJoin := { cred := cred, worker := true, manager := false, capacity := 0, svc0 := 1, svc1 := 2 }
def mem0 : ColMember := { path := 2, depth := 1, worker := true, manager := false, freePersistent := 4194304, paired := true, svc0 := 9, svc1 := 10 }
def health0 : ColHealth := ⟨true, true, 1, 2, 3⟩
def create1 : ColCreate := ⟨0, false, false, false, false, 31, 0, 2097152⟩
def req0 (peer : Option Nat) (sends : Nat) (why : ColWhy) : ColReq := { txn := 1, peer := peer, sends := sends, msg := .ack, why := why }
/-- The chip is a manager with one member, a worker of a colony with a parent, or a lower manager. -/
def upMan (reqs : List ColReq) : State :=
  { up.put Fld.COL_CTRL_MANAGER 1 with col := { cred := 7, members := [(2, mem0)], reqs := reqs, txn := 2 } }
def upWork (joined : Nat) (reqs : List ColReq) : State :=
  { sets [(Fld.COL_CTRL_WORKER, 1), (Fld.COL_STATUS_JOINED, joined)] up with col := { reqs := reqs, own := [0], txn := 2 }, sealing := { slots := [(0, { key := [] })] } }
def upLower (reqs : List ColReq) : State := (upMan reqs).setReg (Reg.COL_PARENT_IP 0) 1

theorem witness_MembersJoinTheColony :
    (∃ (s : State) (x : ColHdr), s.coreRuns = true ∧ x.crcOk = false) ∧
    (∃ (s : State) (x : ColHdr) (j : ColJoin) (i : _), s.coreRuns = true ∧ x.crcOk = true ∧ s.colDuty = true ∧ (∀ e ∈ s.col.members, e.2.svc0 ≠ j.svc0) ∧ s.freeMember = some i ∧ j.cred.toNat = s.col.cred ∧ s.colDepth < 8) ∧
    (∃ (s : State) (x : ColHdr) (j : ColJoin) (i : _), s.coreRuns = true ∧ x.crcOk = true ∧ s.colDuty = true ∧ (∀ e ∈ s.col.members, e.2.svc0 ≠ j.svc0) ∧ s.freeMember = some i ∧ (j.cred.toNat ≠ s.col.cred ∨ 8 ≤ s.colDepth)) ∧
    (∃ (s : State) (x : ColHdr) (q : ColReq), s.coreRuns = true ∧ x.crcOk = true ∧ s.colSpeaks = true ∧ s.colTop = false ∧ s.col.reqs.find? (fun r => r.txn = x.txn) = some q) ∧
    (∃ (s : State) (x : ColHdr) (i : Nat) (m : ColMember), s.coreRuns = true ∧ x.crcOk = true ∧ s.colDuty = true ∧ s.colFrom x = some (i, m) ∧ kget s.col.members i = some m) ∧
    (∃ (s : State) (x : ColHdr) (q : ColReq) (c result : _), s.coreRuns = true ∧ x.crcOk = true ∧ s.col.reqs.find? (fun r => r.txn = x.txn) = some q ∧ q.why = .report (some c) result) ∧
    (∃ (s : State) (x : ColHdr) (q : ColReq), s.coreRuns = true ∧ x.crcOk = true ∧ s.col.reqs.find? (fun r => r.txn = x.txn) = some q ∧ (∀ c result, q.why ≠ .report (some c) result)) ∧
    (∃ (s : State) (n : Nat) (q : ColReq), s.coreRuns = true ∧ s.col.reqs.find? (fun r => r.txn = n) = some q ∧ q.sends < 3) ∧
    (∃ (s : State) (n : Nat) (q : ColReq), s.coreRuns = true ∧ s.col.reqs.find? (fun r => r.txn = n) = some q ∧ 3 ≤ q.sends ∧ (∀ r cap up tried, q.why ≠ .create r cap up tried)) ∧
    (∃ (s : State) (n : Nat) (q : ColReq) (r cap up tried : _), s.coreRuns = true ∧ s.col.reqs.find? (fun r => r.txn = n) = some q ∧ 3 ≤ q.sends ∧ q.why = .create r cap up tried) ∧
    (∃ (s : State), s.coreRuns = true ∧ s.colSpeaks = true ∧ s.colTop = false ∧ s.on Fld.COL_STATUS_JOINED = true) ∧
    (∃ (s : State), s.coreRuns = true ∧ s.colSpeaks = true ∧ s.colTop = false ∧ s.on Fld.COL_STATUS_JOINED = false ∧ (∀ r ∈ s.col.reqs, r.why ≠ .join)) ∧
    (∃ (s : State) (i : Fin 64) (m : ColMember), s.coreRuns = true ∧ kget s.col.members i.val = some m ∧ m.lost = true) ∧
    (∃ (s : State) (i : Fin 64) (m : ColMember), s.coreRuns = true ∧ kget s.col.members i.val = some m ∧ m.lost = false ∧ (∀ r ∈ s.col.reqs, r.peer ≠ some i.val)) :=
  ⟨⟨up, hdr0 false, by decide +kernel⟩,
   ⟨upMan [], hdr0 true, join0 7, 0, by decide +kernel⟩,
   ⟨upMan [], hdr0 true, join0 8, 0, by decide +kernel⟩,
   ⟨upWork 0 [req0 none 1 .join], hdr0 true, req0 none 1 .join, by decide +kernel⟩,
   ⟨upMan [], hdr0 true, 2, mem0, by decide +kernel⟩,
   ⟨upWork 1 [req0 none 1 (.report (some capIo) 5)], hdr0 true, req0 none 1 (.report (some capIo) 5), capIo, 5, by decide +kernel⟩,
   ⟨upWork 1 [req0 none 1 .health], hdr0 true, req0 none 1 .health, by decide +kernel, by decide +kernel, by decide +kernel, fun _ _ h => by cases h⟩,
   ⟨upWork 1 [req0 none 1 .health], 1, req0 none 1 .health, by decide +kernel⟩,
   ⟨upWork 1 [req0 none 3 .health], 1, req0 none 3 .health, by decide +kernel, by decide +kernel, by decide +kernel, fun _ _ _ _ h => by cases h⟩,
   ⟨upMan [req0 (some 2) 3 (.create create1 none 4 [2])], 1, req0 (some 2) 3 (.create create1 none 4 [2]), create1, none, 4, [2], by decide +kernel⟩,
   ⟨upWork 1 [], by decide +kernel⟩,
   ⟨upWork 0 [], by decide +kernel⟩,
   ⟨{ up with col := { members := [(2, { mem0 with lost := true })] } }, 2, { mem0 with lost := true }, by decide +kernel⟩,
   ⟨upMan [], 2, mem0, by decide +kernel⟩⟩

def wokeCol (s : State) : State := s.wake 3

theorem witness_ColonyRequestsAreServed :
    (∃ (s : State) (x : ColHdr) (r : ColCreate) (u : State) (h v i : _), s.coreRuns = true ∧ x.crcOk = true ∧ s.colSpeaks = true ∧ s.colTop = false ∧ u = s.wake 3 ∧ (u.colDuty = false ∨ u.colWorker = true) ∧ u.roomyHome = some h ∧ u.makeRegion h r = some (v, i)) ∧
    (∃ (s : State) (x : ColHdr) (r : ColCreate) (u : State) (h : _), s.coreRuns = true ∧ x.crcOk = true ∧ s.colSpeaks = true ∧ s.colTop = false ∧ u = s.wake 3 ∧ (u.colDuty = false ∨ u.colWorker = true) ∧ u.roomyHome = some h ∧ u.makeRegion h r = none) ∧
    (∃ (s : State) (x : ColHdr) (r : ColCreate) (u : State) (i : _), s.coreRuns = true ∧ x.crcOk = true ∧ s.colSpeaks = true ∧ s.colTop = false ∧ u = s.wake 3 ∧ u.colDuty = true ∧ u.colWorker = false ∧ u.chooseMember r [] = some i) ∧
    (∃ (s : State) (x : ColHdr) (i : Nat) (m : ColMember) (q : ColReq) (r : ColCreate) (cap : Option CapRef) (up : Nat) (tried : List Nat) (c : _), s.coreRuns = true ∧ x.crcOk = true ∧ s.colDuty = true ∧ s.colFrom x = some (i, m) ∧ s.col.reqs.find? (fun y => y.txn = x.txn) = some q ∧ q.why = .create r cap up tried ∧ cap = some c) ∧
    (∃ (s : State) (x : ColHdr) (i : Nat) (m : ColMember) (q : ColReq) (r : ColCreate) (cap : Option CapRef) (up : Nat) (tried : List Nat), s.coreRuns = true ∧ x.crcOk = true ∧ s.colDuty = true ∧ s.colFrom x = some (i, m) ∧ s.col.reqs.find? (fun y => y.txn = x.txn) = some q ∧ q.why = .create r cap up tried ∧ cap = none) ∧
    (∃ (s : State) (x : ColHdr) (i : Nat) (m : ColMember), s.coreRuns = true ∧ x.crcOk = true ∧ s.colDuty = true ∧ s.colFrom x = some (i, m) ∧ s.colTop = true) ∧
    (∃ (s : State) (x : ColHdr) (i : Nat) (m : ColMember), s.coreRuns = true ∧ x.crcOk = true ∧ s.colDuty = true ∧ s.colFrom x = some (i, m) ∧ s.colTop = false) ∧
    (∃ (s : State) (x : ColHdr) (q : ColReq), s.coreRuns = true ∧ x.crcOk = true ∧ s.colSpeaks = true ∧ s.colTop = false ∧ s.col.reqs.find? (fun y => y.txn = x.txn) = some q ∧ q.why = .blocks none) ∧
    (∃ (s : State) (x : ColHdr) (q : ColReq) (i up m : _), s.coreRuns = true ∧ x.crcOk = true ∧ s.colSpeaks = true ∧ s.colTop = false ∧ s.col.reqs.find? (fun y => y.txn = x.txn) = some q ∧ q.why = .blocks (some (i, up)) ∧ kget s.col.members i = some m) ∧
    (∃ (s : State) (x : ColHdr) (i : Nat) (m : ColMember), s.coreRuns = true ∧ x.crcOk = true ∧ s.colDuty = true ∧ s.colFrom x = some (i, m)) ∧
    (∃ (s : State) (x : ColHdr) (es : List (Fin 65536 × Bool × Bool × Fin 256 × BitVec 64)), s.coreRuns = true ∧ x.crcOk = true ∧ s.colSpeaks = true ∧ s.colTop = false ∧ (es.map (·.1)).Nodup) :=
  ⟨⟨upWork 1 [], hdr0 true, create1, wokeCol (upWork 1 []), 0, (((wokeCol (upWork 1 [])).makeRegion 0 create1).getD (up, 0)).1, (((wokeCol (upWork 1 [])).makeRegion 0 create1).getD (up, 0)).2, by decide +kernel⟩,
   ⟨upWork 1 [], hdr0 true, { create1 with len := 2 ^ 50 }, wokeCol (upWork 1 []), 0, by decide +kernel⟩,
   ⟨upLower [], hdr0 true, create1, wokeCol (upLower []), 2, by decide +kernel⟩,
   ⟨upMan [req0 (some 2) 1 (.create create1 (some capIo) 0 [2])], hdr0 true, 2, mem0, req0 (some 2) 1 (.create create1 (some capIo) 0 [2]), create1, some capIo, 0, [2], capIo, by decide +kernel⟩,
   ⟨upLower [req0 (some 2) 1 (.create create1 none 4 [2])], hdr0 true, 2, mem0, req0 (some 2) 1 (.create create1 none 4 [2]), create1, none, 4, [2], by decide +kernel⟩,
   ⟨upMan [], hdr0 true, 2, mem0, by decide +kernel⟩,
   ⟨upLower [], hdr0 true, 2, mem0, by decide +kernel⟩,
   ⟨upWork 1 [req0 none 1 (.blocks none)], hdr0 true, req0 none 1 (.blocks none), by decide +kernel⟩,
   ⟨upLower [req0 none 1 (.blocks (some (2, 4)))], hdr0 true, req0 none 1 (.blocks (some (2, 4))), 2, 4, mem0, by decide +kernel⟩,
   ⟨upMan [], hdr0 true, 2, mem0, by decide +kernel⟩,
   ⟨upWork 1 [], hdr0 true, [(0, true, false, 0, 1), (65535, true, false, 0, 1)], by decide +kernel⟩⟩

/-- Rails off; the sequence in phase p of 0 to `last`; channel 0 a rail of phase 0 with a state. -/
def offNow : State := { State.reset with pw := { State.reset.pw with xaon := true } }
def upRail (l : List (Field × Nat)) (r : Rail) (runs : Bool) : State :=
  let s := sets ([(Fld.PWS_RAIL_EN 0, 1), (Fld.PWS_RAIL_PHASE 0, 0), (Fld.PWS_RAIL_GROUP 0, 1)] ++ l) up
  { s with pw := { s.pw with rails := [r], phaseRuns := runs } }

theorem witness_RailsComeUpInPhases :
    (∃ (s : State), s.mayStart = true) ∧
    (∃ (s : State), s.mayStart = false) ∧
    (∃ (s : State), s.on Fld.PWS_SEQCTL_STORED = true ∧ s.on Fld.PWS_SEQCTL_AUTO_ON = true ∧ s.pw.afterShut = false ∧ s.get Fld.PWS_STATUS_SEQ = 0 ∧ s.pw.tripped = false ∧ s.pw.shut = none) ∧
    (∃ (s : State), s.on Fld.PWS_SEQCTL_AUTO_ON = false) ∧
    (∃ (s : State), s.get Fld.PWS_STATUS_SEQ = 1 ∧ s.pw.phaseRuns = false) ∧
    (∃ (s : State), (s.get Fld.PWS_STATUS_SEQ ≠ 1 ∨ s.pw.phaseRuns = true)) ∧
    (∃ (s : State) (k : Nat), k < 8 ∧ (∃ n ∈ s.phaseRails k, ¬(s.ruleOf n = 1 ∧ s.sensed n = false))) ∧
    (∃ (s : State), s.pw.phaseRuns = true ∧ (∃ n ∈ s.phaseRails (s.get Fld.PWS_STATUS_PHASE), (s.rail n).st = .qualifying)) ∧
    (∃ (s : State), s.pw.phaseRuns = true ∧ (∀ n ∈ s.phaseRails (s.get Fld.PWS_STATUS_PHASE), (s.rail n).st ≠ .qualifying) ∧ s.get Fld.PWS_STATUS_PHASE < s.get Fld.PWS_SEQCTL_LAST_PHASE) ∧
    (∃ (s : State), s.pw.phaseRuns = true ∧ (∀ n ∈ s.phaseRails (s.get Fld.PWS_STATUS_PHASE), (s.rail n).st ≠ .qualifying) ∧ s.get Fld.PWS_SEQCTL_LAST_PHASE ≤ s.get Fld.PWS_STATUS_PHASE) ∧
    (∃ (s : State) (r : Fin 24), (s.rail r.val).st = .qualifying ∧ s.ruleOf r.val ≠ 2 ∧ (s.rail r.val).restarts < 15) ∧
    (∃ (s : State) (r : Fin 24), (s.rail r.val).st = .qualifying ∧ s.ruleOf r.val ≠ 2 ∧ 15 ≤ (s.rail r.val).restarts) ∧
    (∃ (s : State) (r : Fin 24), ((s.rail r.val).st ≠ .qualifying ∨ s.ruleOf r.val = 2)) ∧
    (∃ (s : State), s.pw.phaseRuns = false ∧ s.get Fld.PWS_STATUS_SEQ = 1) ∧
    (∃ (s : State) (r : Fin 24), (s.rail r.val).st = .qualified) ∧
    (∃ (s : State) (r : Fin 24), (s.rail r.val).st ≠ .qualified) :=
  ⟨⟨offNow, by decide +kernel⟩,
   ⟨up, by decide +kernel⟩,
   ⟨sets [(Fld.PWS_SEQCTL_STORED, 1), (Fld.PWS_SEQCTL_AUTO_ON, 1)] State.reset, by decide +kernel⟩,
   ⟨State.reset.put Fld.PWS_SEQCTL_AUTO_ON 0, by decide +kernel⟩,
   ⟨up.put Fld.PWS_STATUS_SEQ 1, by decide +kernel⟩,
   ⟨up, by decide +kernel⟩,
   ⟨upRail [] {} true, 0, by decide +kernel⟩,
   ⟨upRail [] { st := .qualifying } true, by decide +kernel⟩,
   ⟨upRail [(Fld.PWS_SEQCTL_LAST_PHASE, 7)] {} true, by decide +kernel⟩,
   ⟨upRail [(Fld.PWS_SEQCTL_LAST_PHASE, 0)] {} true, by decide +kernel⟩,
   ⟨upRail [] { st := .qualifying, restarts := 14 } true, 0, by decide +kernel⟩,
   ⟨upRail [] { st := .qualifying, restarts := 15 } true, 0, by decide +kernel⟩,
   ⟨up, 23, by decide +kernel⟩,
   ⟨up.put Fld.PWS_STATUS_SEQ 1, by decide +kernel⟩,
   ⟨upRail [] { st := .qualified } false, 0, by decide +kernel⟩,
   ⟨up, 0, by decide +kernel⟩⟩

def upShut (cause : Nat) (timed : Bool) (step : ShutStep) (phase : Nat) : State :=
  let s := up.put Fld.PWS_STATUS_PHASE phase
  { s with pw := { s.pw with shut := some { cause := cause, timed := timed, step := step } } }
def shut0 (cause : Nat) (timed : Bool) (step : ShutStep) : Shutdown := { cause := cause, timed := timed, step := step }
/-- Sense input 7 with a window of 100 to 200. -/
def upSense (act : Nat) : State :=
  upRail [(Fld.PWS_VSCFG_LOW 7, 100), (Fld.PWS_VSCFG_HIGH 7, 200), (Fld.PWS_VSCTL_ACT 7, act), (Fld.PWS_VSCTL_RAIL 7, 0)] { st := .qualified } false
def downAgain (restart : Nat) : State := { offNow.put Fld.PWS_SEQCTL_RESTART restart with pw := { offNow.pw with afterShut := true } }

theorem witness_ShutdownsFollowTheirSteps :
    (∃ (s : State) (cause : Nat), cause ≤ 7 ∧ s.get Fld.PWS_STATUS_SEQ = 2 ∧ s.pw.inRestore = false ∧ s.on Fld.DBG_STATUS_FROZEN = false) ∧
    (∃ (s : State) (cause : Nat), cause ≤ 7 ∧ s.pw.shut = none ∧ s.get Fld.PWS_STATUS_SEQ ≠ 0) ∧
    (∃ (s : State) (cause : Nat) (x : _), cause ≤ 7 ∧ s.pw.shut = some x ∧ x.cause ≠ 6) ∧
    (∃ (s : State) (cause : Nat), cause ≤ 7 ∧ s.pw.shut = none ∧ s.get Fld.PWS_STATUS_SEQ = 0) ∧
    (∃ (n : Nat), n < 24) ∧
    (∃ (s : State) (r : Fin 24), (s.rail r.val).st = .qualified ∧ s.ruleOf r.val ≠ 1) ∧
    (∃ (s : State) (r : Fin 24), ((s.rail r.val).st ≠ .qualified ∨ s.ruleOf r.val = 1)) ∧
    (∃ (s : State) (i : Fin 8) (code : BitVec 12), s.get (Fld.PWS_VSCFG_LOW i.val) ≤ code.toNat ∧ code.toNat ≤ s.get (Fld.PWS_VSCFG_HIGH i.val)) ∧
    (∃ (s : State) (i : Fin 8), (s.get (Fld.PWS_VSCTL_ACT i.val) = 0 ∨ s.get (Fld.PWS_VSCTL_ACT i.val) = 3)) ∧
    (∃ (s : State) (i : Fin 8) (code : BitVec 12), (code.toNat < s.get (Fld.PWS_VSCFG_LOW i.val) ∨ s.get (Fld.PWS_VSCFG_HIGH i.val) < code.toNat) ∧ s.get (Fld.PWS_VSCTL_ACT i.val) = 2) ∧
    (∃ (s : State) (i : Fin 8) (code : BitVec 12) (n : _), (code.toNat < s.get (Fld.PWS_VSCFG_LOW i.val) ∨ s.get (Fld.PWS_VSCFG_HIGH i.val) < code.toNat) ∧ s.get (Fld.PWS_VSCTL_ACT i.val) = 1 ∧ n = s.get (Fld.PWS_VSCTL_RAIL i.val) ∧ n < 24 ∧ (s.rail n).st = .qualified) ∧
    (∃ (s : State) (x : Shutdown), s.pw.shut = some x ∧ x.step = .t0) ∧
    (∃ (s : State) (x : Shutdown), s.pw.shut = some x ∧ x.step = .t1) ∧
    (∃ (s : State) (x : Shutdown), s.pw.shut = some x ∧ x.step = .journal) ∧
    (∃ (s : State) (x : Shutdown), s.pw.shut = some x ∧ x.step = .amber) ∧
    (∃ (s : State) (x : Shutdown), s.pw.shut = some x ∧ (x.step = .rails ∨ x.step = .handing)) ∧
    (∃ (s : State) (x : Shutdown), s.pw.shut = some x ∧ x.timed = true ∧ (x.step = .handing ∨ x.step = .t0 ∨ x.step = .t1)) ∧
    (∃ (s : State) (x : Shutdown), s.pw.shut = some x ∧ (x.timed = false ∨ x.step = .journal ∨ x.step = .amber ∨ x.step = .rails)) ∧
    (∃ (s : State) (x : Shutdown), s.pw.shut = some x ∧ x.step = .rails ∧ 1 < s.get Fld.PWS_STATUS_PHASE) ∧
    (∃ (s : State) (x : Shutdown), s.pw.shut = some x ∧ x.step = .rails ∧ s.get Fld.PWS_STATUS_PHASE ≤ 1) ∧
    (∃ (s : State) (x : Shutdown), s.pw.shut = some x ∧ x.step ≠ .rails) ∧
    (∃ (s : State) (x : Shutdown), s.pw.shut = some x ∧ x.timed = false) ∧
    (∃ (s : State) (x : Shutdown), s.pw.shut = some x ∧ x.cause ≠ 6) ∧
    (∃ (s : State) (x : Shutdown), s.pw.shut = some x ∧ x.cause = 6) ∧
    (∃ (s : State), s.pw.afterShut = true ∧ s.on Fld.PWS_SEQCTL_RESTART = true ∧ s.mayStart = true) ∧
    (∃ (s : State), (s.pw.afterShut = false ∨ s.on Fld.PWS_SEQCTL_RESTART = false)) ∧
    (∃ (s : State), s.pw.shut = none ∧ s.still = false ∧ s.get Fld.PWS_STATUS_SEQ ≠ 0 ∧ s.get Fld.PWS_STATUS_SEQ ≠ 4 ∧ s.on Fld.PWS_BTN_SHORT_ACT = true) ∧
    (∃ (s : State), s.pw.shut = none ∧ s.still = false ∧ s.get Fld.PWS_STATUS_SEQ ≠ 0 ∧ s.get Fld.PWS_STATUS_SEQ ≠ 4 ∧ s.on Fld.PWS_BTN_SHORT_ACT = false) ∧
    (∃ (s : State), s.pw.shut = none ∧ s.still = false ∧ s.get Fld.PWS_STATUS_SEQ ≠ 0 ∧ s.get Fld.PWS_STATUS_SEQ = 4) ∧
    (∃ (s : State), s.on Fld.DBG_STATUS_FROZEN = false ∧ s.mayStart = true) :=
  ⟨⟨up, 7, by decide +kernel⟩,
   ⟨up, 0, by decide +kernel⟩,
   ⟨upShut 1 true .t0 0, 7, shut0 1 true .t0, by decide +kernel⟩,
   ⟨State.reset, 2, by decide +kernel⟩,
   ⟨23, by decide +kernel⟩,
   ⟨upRail [] { st := .qualified } false, 0, by decide +kernel⟩,
   ⟨up, 23, by decide +kernel⟩,
   ⟨upSense 1, 7, 200, by decide +kernel⟩,
   ⟨upSense 3, 7, by decide +kernel⟩,
   ⟨upSense 2, 7, 201, by decide +kernel⟩,
   ⟨upSense 1, 7, 99, 0, by decide +kernel⟩,
   ⟨upShut 1 true .t0 0, shut0 1 true .t0, by decide +kernel⟩,
   ⟨upShut 1 true .t1 0, shut0 1 true .t1, by decide +kernel⟩,
   ⟨upShut 1 true .journal 0, shut0 1 true .journal, by decide +kernel⟩,
   ⟨upShut 1 true .amber 0, shut0 1 true .amber, by decide +kernel⟩,
   ⟨upShut 1 true .handing 0, shut0 1 true .handing, by decide +kernel⟩,
   ⟨upShut 1 true .handing 0, shut0 1 true .handing, by decide +kernel⟩,
   ⟨upShut 5 false .t0 0, shut0 5 false .t0, by decide +kernel⟩,
   ⟨upShut 1 true .rails 2, shut0 1 true .rails, by decide +kernel⟩,
   ⟨upShut 1 true .rails 1, shut0 1 true .rails, by decide +kernel⟩,
   ⟨upShut 1 true .amber 0, shut0 1 true .amber, by decide +kernel⟩,
   ⟨upShut 5 false .t0 0, shut0 5 false .t0, by decide +kernel⟩,
   ⟨upShut 1 true .rails 0, shut0 1 true .rails, by decide +kernel⟩,
   ⟨upShut 6 true .rails 1, shut0 6 true .rails, by decide +kernel⟩,
   ⟨downAgain 1, by decide +kernel⟩,
   ⟨downAgain 0, by decide +kernel⟩,
   ⟨up.put Fld.PWS_BTN_SHORT_ACT 1, by decide +kernel⟩,
   ⟨up.put Fld.PWS_BTN_SHORT_ACT 0, by decide +kernel⟩,
   ⟨up.put Fld.PWS_STATUS_SEQ 4, by decide +kernel⟩,
   ⟨offNow, by decide +kernel⟩⟩

def upCmt (step : Nat) (c : Option Commit) : State :=
  { up.put Fld.CFL_BOOTINFO_STEP step with cfg := { up.cfg with staged := [stagedOne], commit := c } }
/-- A commit of home set 0 that rolls. -/
def roll0 : Commit := { commit0 with begun := true }

theorem witness_CommitsRollAtBoundaries :
    (∃ (s : State), s.coreRuns = true ∧ s.cfg.staged = []) ∧
    (∃ (s : State), s.coreRuns = true ∧ s.cfg.staged ≠ [] ∧ s.commitBusy = true) ∧
    (∃ (s : State), s.coreRuns = true ∧ s.cfg.staged ≠ [] ∧ s.commitBusy = false ∧ s.get Fld.CFL_BOOTINFO_STEP < 10) ∧
    (∃ (s : State), s.coreRuns = true ∧ s.cfg.staged ≠ [] ∧ s.commitBusy = false ∧ 10 ≤ s.get Fld.CFL_BOOTINFO_STEP) ∧
    (∃ (s : State), s.still = true) ∧
    (∃ (s : State) (h : Fin 2), s.still = false ∧ (s.active h.val = true ∨ s.role h.val = 0)) ∧
    (∃ (s : State) (h : Fin 2), s.still = false ∧ (s.role h.val = 2 ∨ s.role h.val = 3)) ∧
    (∃ (s : State) (h : Nat) (c : Commit), s.cfg.commit = some c ∧ (c.home ≠ h ∨ s.get Fld.GOV_STATUS_PSTATE ≠ 0)) ∧
    (∃ (s : State) (h : Nat) (c : Commit), s.cfg.commit = some c ∧ c.home = h ∧ s.get Fld.GOV_STATUS_PSTATE = 0 ∧ c.begun = false ∧ c.n ≤ s.epoch h) ∧
    (∃ (s : State) (h : Nat) (c : Commit), s.cfg.commit = some c ∧ c.home = h ∧ s.get Fld.GOV_STATUS_PSTATE = 0 ∧ c.begun = false ∧ s.epoch h < c.n) ∧
    (∃ (s : State) (h : Nat) (c : Commit), s.cfg.commit = some c ∧ c.home = h ∧ s.get Fld.GOV_STATUS_PSTATE = 0 ∧ c.begun = true ∧ c.switched < 15) ∧
    (∃ (s : State) (c : Commit), s.cfg.commit = some c ∧ c.begun = true ∧ c.drained = true ∧ (c.joint = false ∨ c.delta = true ∨ s.mirrors c.home = false) ∧ (∀ q k n, c.via ≠ .capsule q k n)) ∧
    (∃ (s : State) (c : Commit) (q k n : _), s.cfg.commit = some c ∧ c.begun = true ∧ c.drained = true ∧ (c.joint = false ∨ c.delta = true ∨ s.mirrors c.home = false) ∧ c.via = .capsule q k n) ∧
    (∃ (s : State) (c : Commit), s.cfg.commit = some c ∧ (c.begun = false ∨ c.drained = false ∨ (c.joint = true ∧ c.delta = false ∧ s.mirrors c.home = true))) ∧
    (∃ (s : State) (c : Commit), s.cfg.commit = some c ∧ s.coreRuns = true ∧ c.begun = true ∧ c.drained = false ∧ c.last ≤ c.switched ∧ s.rollEmpty c = true) ∧
    (∃ (s : State) (c : Commit), s.cfg.commit = some c ∧ s.coreRuns = true ∧ c.begun = true ∧ s.rollEmpty c = false ∧ c.drained = false) ∧
    (∃ (s : State), s.cfg.commit = none) :=
  ⟨⟨up, by decide +kernel⟩,
   ⟨upCmt 11 (some commit0), by decide +kernel⟩,
   ⟨upCmt 9 none, by decide +kernel⟩,
   ⟨upCmt 11 none, by decide +kernel⟩,
   ⟨up.put Fld.DBG_STATUS_FROZEN 1, by decide +kernel⟩,
   ⟨up, 1, by decide +kernel⟩,
   ⟨up.put Fld.TWN_STATUS_ROLE0 2, 0, by decide +kernel⟩,
   ⟨upCmt 11 (some commit0), 1, commit0, by decide +kernel⟩,
   ⟨upCmt 11 (some { commit0 with n := 0 }), 0, { commit0 with n := 0 }, by decide +kernel⟩,
   ⟨upCmt 11 (some commit0), 0, commit0, by decide +kernel⟩,
   ⟨upCmt 11 (some { roll0 with switched := 14 }), 0, { roll0 with switched := 14 }, by decide +kernel⟩,
   ⟨upCmt 11 (some { roll0 with drained := true }), { roll0 with drained := true }, by decide +kernel, by decide +kernel, by decide +kernel, by decide +kernel, fun _ _ _ h => by cases h⟩,
   ⟨upCmt 11 (some { roll0 with drained := true, via := .capsule 2 0 0 }), { roll0 with drained := true, via := .capsule 2 0 0 }, 2, 0, 0, by decide +kernel⟩,
   ⟨upCmt 11 (some roll0), roll0, by decide +kernel⟩,
   ⟨upCmt 11 (some { roll0 with switched := 15 }), { roll0 with switched := 15 }, by decide +kernel⟩,
   ⟨{ upCmt 11 (some { roll0 with old := [stagedOne], marks := [9, 9, 9] }) with net := { up.net with txns := [txn2] } }, { roll0 with old := [stagedOne], marks := [9, 9, 9] }, by decide +kernel⟩,
   ⟨up, by decide +kernel⟩⟩

def pkeyDef : RegDef := (regAt Reg.TRN_PKEY).getD { name := "", addr := 0 }

theorem witness_StagedSetIsShared :
    (∃ (s : State) (p : Path) (a : BitVec 24) (v : BitVec 32) (d : RegDef), s.stages p a.toNat v d) ∧
    (∃ (s : State), s.coreRuns = true ∧ s.cfg.staged ≠ [] ∧ s.commitBusy = false ∧ 10 ≤ s.get Fld.CFL_BOOTINFO_STEP) ∧
    (∃ (s : State), s.coreRuns = true ∧ s.cfg.staged ≠ [] ∧ s.commitBusy = false ∧ s.get Fld.CFL_BOOTINFO_STEP < 10) :=
  ⟨⟨up, .twoWire, BitVec.ofNat 24 Reg.TRN_PKEY, 7, pkeyDef, by unfold State.stages; decide +kernel⟩,
   ⟨upCmt 10 none, by decide +kernel⟩,
   ⟨upCmt 9 none, by decide +kernel⟩⟩

def downMr : State := { up with pw := { up.pw with mrLow := true } }

theorem witness_ResetsAndHandOversAct :
    (∃ (s : State), s.pw.shut = none ∧ s.get Fld.PWS_STATUS_SEQ = 2 ∧ s.pw.mrLow = false) ∧
    (∃ (s : State), (s.pw.shut ≠ none ∨ s.get Fld.PWS_STATUS_SEQ ≠ 2 ∨ s.pw.mrLow = true)) ∧
    (∃ (s : State), s.pw.mrLow = true) ∧
    (∃ (s : State), s.pw.mrLow = false) ∧
    (∃ (s : State), s.pw.shut = none ∧ s.still = false ∧ s.get Fld.PWS_STATUS_SEQ = 2) ∧
    (∃ (s : State), s.pw.shut = none ∧ s.still = false ∧ s.get Fld.PWS_STATUS_SEQ = 2 ∧ s.canHandAll = false) ∧
    (∃ (s : State), s.pw.shut = none ∧ s.still = false ∧ s.get Fld.PWS_STATUS_SEQ = 2 ∧ s.canHandAll = true ∧ s.active 0 = false ∧ s.active 1 = false ∧ (s.home 0).handing = false ∧ (s.home 1).handing = false) ∧
    (∃ (s : State) (g : _), s.pw.shut = none ∧ s.still = false ∧ s.get Fld.PWS_STATUS_SEQ = 2 ∧ s.canHandAll = true ∧ (∀ h, h < 2 → (s.home h).handing = false) ∧ g < 2 ∧ s.active g = true) ∧
    (∃ (s : State), (s.pw.shut ≠ none ∨ s.still = true ∨ s.get Fld.PWS_STATUS_SEQ ≠ 2)) ∧
    (∃ (s : State), (s.home 0).handing = false ∧ (s.home 1).handing = false ∧ s.pw.shut = none) :=
  ⟨⟨up, by decide +kernel⟩,
   ⟨downMr, by decide +kernel⟩,
   ⟨downMr, by decide +kernel⟩,
   ⟨up, by decide +kernel⟩,
   ⟨up, by decide +kernel⟩,
   ⟨up, by decide +kernel⟩,
   ⟨up.put Fld.TWN_STATUS_ROLE0 0, by decide +kernel⟩,
   ⟨upPaired, 0, by decide +kernel⟩,
   ⟨downMr, by decide +kernel⟩,
   ⟨up, by decide +kernel⟩⟩

theorem witness_HoldUpTestNeedsOneRail : ∃ (s : State) (i : Instr), ((List.range 24).filter (fun n => s.on (Fld.PWS_RAIL_EN n) && s.get (Fld.PWS_RAIL_GROUP n) = 7)).length ≠ 1 ∧ s.pw.hu = none ∧ i ∈ [Instr.huTest, .huTestPeriod, .huVoltageStable 5, .huBudgetFits 5, .huSampleTimer 5, .huRecovered 5] :=
  ⟨sets [(Fld.PWS_RAIL_EN 0, 1), (Fld.PWS_RAIL_GROUP 0, 7), (Fld.PWS_RAIL_EN 23, 1), (Fld.PWS_RAIL_GROUP 23, 7)] up, .huTest, by decide +kernel⟩

/-- Channel 23 loads the module; a test has come to a step. -/
def upHu (l : List (Field × Nat)) (cold : Bool) (x : Option HuTest) : State :=
  let s := sets ([(Fld.PWS_RAIL_EN 23, 1), (Fld.PWS_RAIL_GROUP 23, 7)] ++ l) up
  { s with pw := { s.pw with huCold := cold, hu := x } }
def hu0 (step : Nat) : HuTest := { step := step, v0 := 2700, v1 := 2650 }

theorem witness_HoldUpTestMeasures :
    (∃ (s : State) (n : Nat), s.testRail = some n ∧ s.pw.hu = none ∧ s.pw.shut = none ∧ s.still = false ∧ s.get Fld.PWS_STATUS_SEQ = 2 ∧ (s.on Fld.PWS_STATUS_HU_VALID = false ∨ s.pw.huCold = true)) ∧
    (∃ (s : State) (n : Nat), s.testRail = some n ∧ s.pw.hu = none ∧ s.pw.shut = none ∧ s.still = false ∧ s.get Fld.PWS_STATUS_SEQ = 2 ∧ s.on Fld.PWS_STATUS_HU_VALID = true ∧ s.pw.huCold = false) ∧
    (∃ (s : State) (n : Nat), s.testRail = some n ∧ s.pw.hu = none ∧ s.pw.shut = none ∧ s.still = false ∧ s.get Fld.PWS_STATUS_SEQ = 2 ∧ s.get Fld.PWS_HUCFG_PERIOD ≠ 0) ∧
    (∃ (s : State) (n : Nat), s.testRail = some n ∧ s.pw.hu = none ∧ s.pw.shut = none ∧ s.still = false ∧ s.get Fld.PWS_STATUS_SEQ = 2 ∧ s.pw.huCold = true) ∧
    (∃ (s : State), (s.pw.hu ≠ none ∨ s.pw.shut ≠ none ∨ s.still = true ∨ s.get Fld.PWS_STATUS_SEQ ≠ 2)) ∧
    (∃ (s : State), s.get Fld.PWS_HUCFG_PERIOD = 0) ∧
    (∃ (s : State), s.pw.huCold = false) ∧
    (∃ (s : State), s.on Fld.PWS_STATUS_HU_VALID = true ∧ s.pw.huCold = false) ∧
    (∃ (s : State), (s.on Fld.PWS_STATUS_HU_VALID = false ∨ s.pw.huCold = true)) ∧
    (∃ (s : State) (x : HuTest) (n : Nat), s.pw.hu = some x ∧ s.testRail = some n ∧ x.step = 0 ∧ s.budgetFits 0 = true) ∧
    (∃ (s : State) (x : HuTest) (n : Nat), s.pw.hu = some x ∧ s.testRail = some n ∧ (x.step ≠ 0 ∨ s.budgetFits 0 = false)) ∧
    (∃ (s : State) (x : HuTest) (n : Nat), s.pw.hu = some x ∧ s.testRail = some n ∧ x.step = 1) ∧
    (∃ (s : State) (x : HuTest) (n : Nat), s.pw.hu = some x ∧ s.testRail = some n ∧ x.step = 2) ∧
    (∃ (s : State) (x : HuTest) (n : Nat), s.pw.hu = some x ∧ s.testRail = some n ∧ x.step = 3 ∧ s.get Fld.PWS_HUMOD0_I_T ≠ 0) ∧
    (∃ (s : State) (x : HuTest) (mv : Nat), s.pw.hu = some x ∧ x.step = 4 ∧ x.v0 * 999 ≤ mv * 1000 ∧ mv * 1000 ≤ x.v0 * 1001) ∧
    (∃ (s : State) (x : HuTest) (mv : Nat), s.pw.hu = some x ∧ (x.step ≠ 4 ∨ mv * 1000 < x.v0 * 999 ∨ x.v0 * 1001 < mv * 1000)) ∧
    (∃ (s : State), s.pw.huCold = true ∧ s.pw.huWaived = false ∧ s.get Fld.CFL_BOOTINFO_STEP = 9) ∧
    (∃ (s : State), (s.pw.huCold = false ∨ s.pw.huWaived = true ∨ s.get Fld.CFL_BOOTINFO_STEP ≠ 9)) :=
  ⟨⟨upHu [] true none, 23, by decide +kernel⟩,
   ⟨upHu [(Fld.PWS_STATUS_HU_VALID, 1)] false none, 23, by decide +kernel⟩,
   ⟨upHu [(Fld.PWS_HUCFG_PERIOD, 1)] true none, 23, by decide +kernel⟩,
   ⟨upHu [] true none, 23, by decide +kernel⟩,
   ⟨upHu [] true (some {}), by decide +kernel⟩,
   ⟨up.put Fld.PWS_HUCFG_PERIOD 0, by decide +kernel⟩,
   ⟨upHu [] false none, by decide +kernel⟩,
   ⟨upHu [(Fld.PWS_STATUS_HU_VALID, 1)] false none, by decide +kernel⟩,
   ⟨up, by decide +kernel⟩,
   ⟨upHu [] true (some (hu0 0)), hu0 0, 23, by decide +kernel⟩,
   ⟨upHu [] true (some (hu0 1)), hu0 1, 23, by decide +kernel⟩,
   ⟨upHu [] true (some (hu0 1)), hu0 1, 23, by decide +kernel⟩,
   ⟨upHu [] true (some (hu0 2)), hu0 2, 23, by decide +kernel⟩,
   ⟨upHu [(Fld.PWS_HUMOD0_I_T, 1)] true (some (hu0 3)), hu0 3, 23, by decide +kernel⟩,
   ⟨upHu [] true (some (hu0 4)), hu0 4, 2702, by decide +kernel⟩,
   ⟨upHu [] true (some (hu0 4)), hu0 4, 2703, by decide +kernel⟩,
   ⟨upHu [(Fld.CFL_BOOTINFO_STEP, 9)] true none, by decide +kernel⟩,
   ⟨up, by decide +kernel⟩⟩

def upHot (hot : Bool) : State := { up with pw := { up.pw with hotBefore := hot } }
def hotAll (t : Int) : List Int := List.replicate 24 t

theorem witness_GovernorDecidesEachPeriod :
    (∃ (s : State), s.governs = false) ∧
    (∃ (s : State), s.governs = true) ∧
    (∃ (s : State) (pest : Nat), s.pcap < pest ∧ s.on Fld.GOV_CTRL_CAP_EN = true) ∧
    (∃ (s : State) (pest : Nat), s.pcap < pest ∧ s.on Fld.GOV_CTRL_CAP_EN = false) ∧
    (∃ (s : State) (pest : Nat), pest ≤ s.pcap ∧ pest < s.pcap - 5) ∧
    (∃ (s : State) (pest : Nat), pest ≤ s.pcap ∧ s.pcap - 5 ≤ pest) ∧
    (∃ (ts : List Int), ts.length = 24) ∧
    (∃ (s : State) (ts : List Int) (u : State), ts.length = 24 ∧ u = s.readTemps ts ∧ 140 ≤ u.gov.tj) ∧
    (∃ (s : State) (ts : List Int) (u : State), ts.length = 24 ∧ u = s.readTemps ts ∧ u.gov.tj < 125 ∧ u.governs = true) ∧
    (∃ (s : State) (ts : List Int) (u : State), ts.length = 24 ∧ u = s.readTemps ts ∧ u.gov.tj < 125 ∧ u.governs = false) ∧
    (∃ (s : State) (ts : List Int) (u : State), ts.length = 24 ∧ u = s.readTemps ts ∧ 125 ≤ u.gov.tj ∧ u.gov.tj < 140 ∧ s.pw.hotBefore = true) ∧
    (∃ (s : State) (ts : List Int) (u : State), ts.length = 24 ∧ u = s.readTemps ts ∧ 125 ≤ u.gov.tj ∧ u.gov.tj < 140 ∧ s.pw.hotBefore = false) ∧
    (∃ (s : State), s.pw.tripped = true) ∧
    (∃ (s : State), s.pw.tripped = false ∧ s.pw.shut = none ∧ s.get Fld.PWS_STATUS_SEQ ≠ 0) ∧
    (∃ (s : State), s.get Fld.PWS_STATUS_SEQ ≠ 0) ∧
    (∃ (s : State), s.gov.tj < 100) ∧
    (∃ (s : State), 100 ≤ s.gov.tj) :=
  ⟨⟨State.reset, by decide +kernel⟩,
   ⟨up, by decide +kernel⟩,
   ⟨sets [(Fld.GOV_CTRL_CAP_EN, 1)] (up.setReg Reg.GOV_PCAP 40), 41, by decide +kernel⟩,
   ⟨sets [(Fld.GOV_CTRL_CAP_EN, 0)] (up.setReg Reg.GOV_PCAP 40), 41, by decide +kernel⟩,
   ⟨up.setReg Reg.GOV_PCAP 40, 34, by decide +kernel⟩,
   ⟨up.setReg Reg.GOV_PCAP 40, 35, by decide +kernel⟩,
   ⟨hotAll 25, by decide +kernel⟩,
   ⟨up, hotAll 140, up.readTemps (hotAll 140), by decide +kernel⟩,
   ⟨up, hotAll 124, up.readTemps (hotAll 124), by decide +kernel⟩,
   ⟨State.reset, hotAll 124, State.reset.readTemps (hotAll 124), by decide +kernel⟩,
   ⟨upHot true, hotAll 125, (upHot true).readTemps (hotAll 125), by decide +kernel⟩,
   ⟨upHot false, hotAll 139, (upHot false).readTemps (hotAll 139), by decide +kernel⟩,
   ⟨{ up with pw := { up.pw with tripped := true } }, by decide +kernel⟩,
   ⟨up, by decide +kernel⟩,
   ⟨up, by decide +kernel⟩,
   ⟨{ up with gov := { up.gov with tj := 99 } }, by decide +kernel⟩,
   ⟨{ up with gov := { up.gov with tj := 100 } }, by decide +kernel⟩⟩

def upP (p : Nat) (l : List (Field × Nat)) : State := sets (l ++ [(Fld.GOV_STATUS_PSTATE, p)]) up
def upEntering (target : Nat) (l : List (Field × Nat)) : State :=
  let s := sets ([(Fld.GOV_STATUS_ENTERING, 1)] ++ l) up
  { s with gov := { s.gov with target := target } }
/-- Port 7 listens in P2, with so many bytes held. -/
def upListen (ll n : Nat) : State :=
  { up.put (Fld.PRT_LOSSLESS_LL_MASK 7) ll with net := { up.net with ports := List.replicate 8 { listening := true, listen := n } } }

theorem witness_PowerStatesAreEnteredAndLeft :
    (∃ (s : State) (p : Nat) (i : Instr), ((p = 1 ∧ i = .govP1) ∨ (p = 2 ∧ i = .govP2) ∨ (p = 3 ∧ i = .govP3)) ∧ s.mayDeepen p = false) ∧
    (∃ (s : State) (p : Nat) (i : Instr), ((p = 1 ∧ i = .govP1) ∨ (p = 2 ∧ i = .govP2) ∨ (p = 3 ∧ i = .govP3)) ∧ s.mayDeepen p = true ∧ s.grants p = false) ∧
    (∃ (s : State) (p : Nat) (i : Instr), ((p = 1 ∧ i = .govP1) ∨ (p = 2 ∧ i = .govP2) ∨ (p = 3 ∧ i = .govP3)) ∧ s.mayDeepen p = true ∧ s.grants p = true ∧ p ≠ 3 ∧ s.get Fld.GOV_STATUS_PSTATE = 0) ∧
    (∃ (s : State) (p : Nat) (i : Instr), ((p = 1 ∧ i = .govP1) ∨ (p = 2 ∧ i = .govP2) ∨ (p = 3 ∧ i = .govP3)) ∧ s.mayDeepen p = true ∧ s.grants p = true ∧ p ≠ 3 ∧ s.get Fld.GOV_STATUS_PSTATE ≠ 0) ∧
    (∃ (s : State) (p : Nat) (i : Instr), ((p = 1 ∧ i = .govP1) ∨ (p = 2 ∧ i = .govP2) ∨ (p = 3 ∧ i = .govP3)) ∧ s.mayDeepen p = true ∧ s.grants p = true ∧ p = 3) ∧
    (∃ (s : State), s.get Fld.CQI_CTRL_PWRMODE = 1 ∧ s.get Fld.GOV_STATUS_PSTATE = 0 ∧ s.get Fld.CQI_IDLE_P1_IDLE ≠ 0) ∧
    (∃ (s : State), s.get Fld.CQI_CTRL_PWRMODE = 1 ∧ s.get Fld.GOV_STATUS_PSTATE = 1 ∧ s.get Fld.CQI_IDLE_P2_IDLE ≠ 0 ∧ s.grants 2 = true) ∧
    (∃ (s : State), s.get Fld.CQI_CTRL_PWRMODE = 1 ∧ s.get Fld.GOV_STATUS_PSTATE = 1 ∧ s.get Fld.CQI_IDLE_P2_IDLE ≠ 0 ∧ s.grants 2 = false) ∧
    (∃ (s : State), (s.get Fld.CQI_CTRL_PWRMODE ≠ 1 ∨ s.get Fld.CQI_IDLE_P1_IDLE = 0)) ∧
    (∃ (s : State), (s.get Fld.CQI_CTRL_PWRMODE ≠ 1 ∨ s.get Fld.CQI_IDLE_P2_IDLE = 0)) ∧
    (∃ (s : State) (src : Nat), (s.get Fld.GOV_STATUS_PSTATE = 1 ∨ s.get Fld.GOV_STATUS_PSTATE = 2) ∧ src ≤ 6 ∧ s.on Fld.GOV_STATUS_EXITING = false ∧ s.on Fld.GOV_STATUS_ENTERING = false) ∧
    (∃ (s : State) (src : Nat), s.get Fld.PWS_STATUS_SEQ = 4 ∧ s.get Fld.GOV_STATUS_PSTATE = 3 ∧ s.pw.shut = none ∧ src ≤ 8) ∧
    (∃ (s : State), s.get Fld.PWS_STATUS_SEQ ≠ 0 ∧ s.get Fld.GOV_STATUS_PSTATE = 3 ∧ s.reg Reg.GOV_WAKE_TMR ≠ 0) ∧
    (∃ (s : State), s.get Fld.PWS_STATUS_SEQ ≠ 0 ∧ s.get Fld.GOV_STATUS_PSTATE ≠ 3 ∧ (¬(s.on Fld.GOV_STATUS_ENTERING = true ∧ s.gov.target = 3)) ∧ s.reg Reg.GOV_WAKE_TMR ≠ 0) ∧
    (∃ (s : State), s.get Fld.PWS_STATUS_SEQ ≠ 0 ∧ s.reg Reg.GOV_WAKE_TMR = 0) ∧
    (∃ (s : State), s.mayStart = true ∧ s.pw.afterShut = true) ∧
    (∃ (s : State), s.mayStart = true ∧ s.pw.afterShut = false) ∧
    (∃ (s : State), s.on Fld.GOV_STATUS_ENTERING = false) ∧
    (∃ (s : State), s.on Fld.GOV_STATUS_ENTERING = true ∧ s.gov.target ≠ 3 ∧ (s.settledFor s.gov.target = false ∨ s.pw.shut ≠ none ∨ s.still = true)) ∧
    (∃ (s : State), s.on Fld.GOV_STATUS_ENTERING = true ∧ s.gov.target = 1 ∧ s.get Fld.GOV_STATUS_PSTATE = 0 ∧ s.settledFor 1 = true ∧ s.pw.shut = none ∧ s.still = false ∧ s.gov.wakeDue = false) ∧
    (∃ (s : State), s.on Fld.GOV_STATUS_ENTERING = true ∧ s.gov.target = 2 ∧ s.settledFor 2 = true ∧ s.pw.shut = none ∧ s.still = false ∧ s.gov.wakeDue = false) ∧
    (∃ (s : State), s.on Fld.GOV_STATUS_ENTERING = true ∧ s.gov.target = 3 ∧ s.get Fld.PWS_STATUS_SEQ = 4 ∧ s.pw.shut = none ∧ s.gov.wakeDue = false) ∧
    (∃ (s : State), s.on Fld.GOV_STATUS_EXITING = false) ∧
    (∃ (s : State), s.on Fld.GOV_STATUS_EXITING = true ∧ s.get Fld.GOV_STATUS_PSTATE ≠ 3) ∧
    (∃ (s : State), s.on Fld.GOV_STATUS_EXITING = true ∧ s.get Fld.GOV_STATUS_PSTATE = 3 ∧ s.get Fld.PWS_STATUS_SEQ = 2 ∧ 10 ≤ s.get Fld.CFL_BOOTINFO_STEP) ∧
    (∃ (s : State) (p : Fin 8), ((s.port p.val).listening = false ∨ s.still = true)) ∧
    (∃ (s : State) (p : Fin 8) (n : Nat), (s.port p.val).listening = true ∧ s.still = false ∧ (s.port p.val).listen = 0 ∧ n ≤ 32768) ∧
    (∃ (s : State) (p : Fin 8) (n : Nat), (s.port p.val).listening = true ∧ s.still = false ∧ (s.port p.val).listen ≠ 0 ∧ ((s.port p.val).listen + n ≤ 32768 ∨ (s.get (Fld.PRT_LOSSLESS_LL_MASK p.val) ≠ 0 ∧ (s.port p.val).listen + n ≤ 262144))) ∧
    (∃ (s : State) (p : Fin 8) (n : Nat), (s.port p.val).listening = true ∧ s.still = false ∧ (s.port p.val).listen ≠ 0 ∧ s.get (Fld.PRT_LOSSLESS_LL_MASK p.val) = 0 ∧ 32768 < (s.port p.val).listen + n) ∧
    (∃ (s : State) (p : Fin 8) (n : Nat), (s.port p.val).listening = true ∧ s.still = false ∧ (s.port p.val).listen ≠ 0 ∧ s.get (Fld.PRT_LOSSLESS_LL_MASK p.val) ≠ 0 ∧ 262144 < (s.port p.val).listen + n) :=
  ⟨⟨State.reset, 1, .govP1, by decide +kernel⟩,
   ⟨up.put Fld.PWS_STATUS_HU_TESTING 1, 2, .govP2, by decide +kernel⟩,
   ⟨up, 1, .govP1, by decide +kernel⟩,
   ⟨upP 1 [], 2, .govP2, by decide +kernel⟩,
   ⟨up, 3, .govP3, by decide +kernel⟩,
   ⟨sets [(Fld.CQI_CTRL_PWRMODE, 1), (Fld.CQI_IDLE_P1_IDLE, 1)] up, by decide +kernel⟩,
   ⟨upP 1 [(Fld.CQI_CTRL_PWRMODE, 1), (Fld.CQI_IDLE_P2_IDLE, 1)], by decide +kernel⟩,
   ⟨upP 1 [(Fld.CQI_CTRL_PWRMODE, 1), (Fld.CQI_IDLE_P2_IDLE, 1), (Fld.PWS_STATUS_HU_TESTING, 1)], by decide +kernel⟩,
   ⟨up.put Fld.CQI_CTRL_PWRMODE 0, by decide +kernel⟩,
   ⟨up.put Fld.CQI_CTRL_PWRMODE 0, by decide +kernel⟩,
   ⟨upP 2 [], 6, by decide +kernel⟩,
   ⟨upP 3 [(Fld.PWS_STATUS_SEQ, 4)], 8, by decide +kernel⟩,
   ⟨(upP 3 [(Fld.PWS_STATUS_SEQ, 4)]).setReg Reg.GOV_WAKE_TMR 1, by decide +kernel⟩,
   ⟨up.setReg Reg.GOV_WAKE_TMR 1, by decide +kernel⟩,
   ⟨up.setReg Reg.GOV_WAKE_TMR 0, by decide +kernel⟩,
   ⟨downAgain 0, by decide +kernel⟩,
   ⟨offNow, by decide +kernel⟩,
   ⟨up, by decide +kernel⟩,
   ⟨upEntering 1 [(Fld.DBG_STATUS_FROZEN, 1)], by decide +kernel⟩,
   ⟨upEntering 1 [], by decide +kernel⟩,
   ⟨upEntering 2 [(Fld.GOV_STATUS_PSTATE, 1)], by decide +kernel⟩,
   ⟨upEntering 3 [(Fld.PWS_STATUS_SEQ, 4)], by decide +kernel⟩,
   ⟨up, by decide +kernel⟩,
   ⟨upP 2 [(Fld.GOV_STATUS_EXITING, 1)], by decide +kernel⟩,
   ⟨upP 3 [(Fld.GOV_STATUS_EXITING, 1)], by decide +kernel⟩,
   ⟨up, 7, by decide +kernel⟩,
   ⟨upListen 0 0, 7, 32768, by decide +kernel⟩,
   ⟨upListen 8 100, 7, 262044, by decide +kernel⟩,
   ⟨upListen 0 1, 7, 32768, by decide +kernel⟩,
   ⟨upListen 8 1, 7, 262144, by decide +kernel⟩⟩

theorem witness_IdleDomainsAreGated :
    (∃ (s : State) (d : Domain), s.domainBusy d = true) ∧
    (∃ (s : State) (d : Domain), s.mayGate d = false) ∧
    (∃ (s : State) (d : Domain), s.domainBusy d = false ∧ d ∉ s.gov.powerGated ∧ s.mayGate d = true) ∧
    (∃ (s : State) (d : Domain), (d ∈ s.gov.powerGated ∨ d ∈ s.gov.clockGated)) ∧
    (∃ (s : State) (d : Domain), d ∉ s.gov.powerGated ∧ d ∉ s.gov.clockGated) ∧
    (∃ (s : State) (d : Domain), d ∈ s.gov.waking) ∧
    (∃ (s : State) (d : Domain), d ∉ s.gov.waking) :=
  ⟨⟨up, .port 0, by decide +kernel⟩,
   ⟨up, .slice 0, by decide +kernel⟩,
   ⟨up, .port 7, by decide +kernel⟩,
   ⟨{ up with gov := { up.gov with clockGated := [.port 7] } }, .port 7, by decide +kernel⟩,
   ⟨up, .port 7, by decide +kernel⟩,
   ⟨{ up with gov := { up.gov with waking := [.port 7] } }, .port 7, by decide +kernel⟩,
   ⟨up, .port 7, by decide +kernel⟩⟩

/-- The lock is held by the firmware (owner 1), a job runs or not; a root key of zeros; SEAL_KEYDST. -/
def upSeal (owner busy : Nat) (job : Option SealJob) : State :=
  { sets [(Fld.SEAL_LOCK_OWNER, owner), (Fld.SEAL_STATUS_BUSY, busy)] up with sealing := { up.sealing with job := job } }
def root0 : List Byte := List.replicate 32 0
def upDst (n : Nat) : State := up.setReg Reg.SEAL_KEYDST (BitVec.ofNat 32 n)
def upMgmt : State := { up with sealing := { up.sealing with slots := [(4112, { key := root0 })] } }

theorem witness_SealingEngineActs :
    (∃ (s : State), s.coreRuns = true ∧ s.get Fld.SEAL_LOCK_OWNER = 0) ∧
    (∃ (s : State), s.coreRuns = true ∧ s.get Fld.SEAL_LOCK_OWNER ≠ 0) ∧
    (∃ (s : State) (p : Path), s.coreRuns = true ∧ s.sealOwns p = false) ∧
    (∃ (s : State) (p : Path), s.coreRuns = true ∧ s.sealOwns p = true) ∧
    (∃ (s : State) (p : Path) (n : BitVec 16) (i : Instr) (j : SealJob), s.coreRuns = true ∧ (i, j) ∈ [(Instr.unseal p, s.unsealJob), (.loadPlain p, s.loadPlainJob), (.sealClear p, s.clearJob), (.gcmEnc p n, s.gcmEncJob n.toNat), (.gcmDec p n, s.gcmDecJob n.toNat), (.kwWrap p n, s.kwWrapJob n.toNat), (.kwUnwrap p n, s.kwUnwrapJob n.toNat), (.kwpWrap p n, s.kwpWrapJob n.toNat), (.kwpUnwrap p n, s.kwpUnwrapJob n.toNat), (.cmacGen p n, s.cmacGenJob n.toNat), (.cmacVer p n, s.cmacVerJob n.toNat), (.provisionRoot p, s.provisionJob)] ∧ s.sealForeign p = true) ∧
    (∃ (s : State) (p : Path) (n : BitVec 16) (i : Instr) (j : SealJob), s.coreRuns = true ∧ (i, j) ∈ [(Instr.unseal p, s.unsealJob), (.loadPlain p, s.loadPlainJob), (.sealClear p, s.clearJob), (.gcmEnc p n, s.gcmEncJob n.toNat), (.gcmDec p n, s.gcmDecJob n.toNat), (.kwWrap p n, s.kwWrapJob n.toNat), (.kwUnwrap p n, s.kwUnwrapJob n.toNat), (.kwpWrap p n, s.kwpWrapJob n.toNat), (.kwpUnwrap p n, s.kwpUnwrapJob n.toNat), (.cmacGen p n, s.cmacGenJob n.toNat), (.cmacVer p n, s.cmacVerJob n.toNat), (.provisionRoot p, s.provisionJob)] ∧ s.sealForeign p = false ∧ (s.sealOwns p = false ∨ s.on Fld.SEAL_STATUS_BUSY = true)) ∧
    (∃ (s : State) (p : Path) (n : BitVec 16) (i : Instr) (j : SealJob), s.coreRuns = true ∧ (i, j) ∈ [(Instr.unseal p, s.unsealJob), (.loadPlain p, s.loadPlainJob), (.sealClear p, s.clearJob), (.gcmEnc p n, s.gcmEncJob n.toNat), (.gcmDec p n, s.gcmDecJob n.toNat), (.kwWrap p n, s.kwWrapJob n.toNat), (.kwUnwrap p n, s.kwUnwrapJob n.toNat), (.kwpWrap p n, s.kwpWrapJob n.toNat), (.kwpUnwrap p n, s.kwpUnwrapJob n.toNat), (.cmacGen p n, s.cmacGenJob n.toNat), (.cmacVer p n, s.cmacVerJob n.toNat), (.provisionRoot p, s.provisionJob)] ∧ s.sealOwns p = true ∧ s.on Fld.SEAL_STATUS_BUSY = false) ∧
    (∃ (s : State), s.sealing.root = none) ∧
    (∃ (s : State) (root : _), s.sealing.root = some root) ∧
    (∃ (s : State) (n : _), n = (s.reg Reg.SEAL_KEYDST).toNat % 8192 ∧ s.sealing.root = none ∧ 4112 < n) ∧
    (∃ (s : State) (n : _), n = (s.reg Reg.SEAL_KEYDST).toNat % 8192 ∧ s.sealing.root = none ∧ n ≤ 4112 ∧ n ≤ 4096 ∧ halvesEqual (s.keyInBytes 64) = true) ∧
    (∃ (s : State) (n : _), n = (s.reg Reg.SEAL_KEYDST).toNat % 8192 ∧ s.sealing.root = none ∧ n ≤ 4096 ∧ halvesEqual (s.keyInBytes 64) = false ∧ s.keySlot n = none) ∧
    (∃ (s : State) (n : _), n = (s.reg Reg.SEAL_KEYDST).toNat % 8192 ∧ s.sealing.root = none ∧ 4097 ≤ n ∧ n ≤ 4112 ∧ s.keySlot n = none) ∧
    (∃ (s : State) (n : _), n = (s.reg Reg.SEAL_KEYDST).toNat % 8192 ∧ 4112 < n) ∧
    (∃ (s : State) (n : _), n = (s.reg Reg.SEAL_KEYDST).toNat % 8192 ∧ n < 4096 ∧ s.domainRegions n ≠ 0) ∧
    (∃ (s : State) (n : _), n = (s.reg Reg.SEAL_KEYDST).toNat % 8192 ∧ n = 4096 ∧ s.flash.formatted = true) ∧
    (∃ (s : State) (n : _), n = (s.reg Reg.SEAL_KEYDST).toNat % 8192 ∧ n ≤ 4112 ∧ (n < 4096 → s.domainRegions n = 0) ∧ (n = 4096 → s.flash.formatted = false)) ∧
    (∃ (slot : _), isMgmt slot = false) ∧
    (∃ (s : State) (slot : _), isMgmt slot = true ∧ s.keySlot slot = none) ∧
    (∃ (s : State) (slot k : _), isMgmt slot = true ∧ s.keySlot slot = some k ∧ s.sealLen ≤ 4096 ∧ s.sealAad ≤ s.sealLen) ∧
    (∃ (s : State) (j : SealJob), s.coreRuns = true ∧ s.sealing.job = some j) :=
  ⟨⟨upSeal 0 0 none, by decide +kernel⟩,
   ⟨upSeal 3 0 none, by decide +kernel⟩,
   ⟨upSeal 0 0 none, .twoWire, by decide +kernel⟩,
   ⟨(upSeal 0 0 none).sealClaim .twoWire, .twoWire, by decide +kernel⟩,
   ⟨(upSeal 0 0 none).sealClaim .firmware, .twoWire, 4112, .cmacGen .twoWire 4112, ((upSeal 0 0 none).sealClaim .firmware).cmacGenJob 4112, by decide +kernel⟩,
   ⟨(upSeal 0 1 none).sealClaim (.capsule 2), .capsule 2, 0, .unseal (.capsule 2), ((upSeal 0 1 none).sealClaim (.capsule 2)).unsealJob, by decide +kernel⟩,
   ⟨(upSeal 0 0 none).sealClaim (.capsule 2), .capsule 2, 0, .sealClear (.capsule 2), ((upSeal 0 0 none).sealClaim (.capsule 2)).clearJob, by decide +kernel⟩,
   ⟨up, by decide +kernel⟩,
   ⟨{ up with sealing := { up.sealing with root := some root0 } }, root0, by decide +kernel⟩,
   ⟨upDst 4113, 4113, by decide +kernel⟩,
   ⟨upDst 4096, 4096, by decide +kernel⟩,
   ⟨{ upDst 0 with sealing := { keyIn := [(15, 1)] } }, 0, by decide +kernel⟩,
   ⟨upDst 4112, 4112, by decide +kernel⟩,
   ⟨upDst 4113, 4113, by decide +kernel⟩,
   ⟨upDst 0, 0, by decide +kernel⟩,
   ⟨{ upDst 4096 with flash := { up.flash with formatted := true } }, 4096, by decide +kernel⟩,
   ⟨upDst 4112, 4112, by decide +kernel⟩,
   ⟨4113, by decide +kernel⟩,
   ⟨up, 4097, by decide +kernel⟩,
   ⟨upMgmt, 4112, { key := root0 }, by decide +kernel⟩,
   ⟨upSeal 1 1 (some {}), {}, by decide +kernel⟩⟩

/-- CFL_ADDR, an operation of the code flash in progress, and sectors that are INCOMPLETE. -/
def upCf (a : Nat) (op : Option CfOp) (inc : List Nat) : State :=
  { up.setReg Reg.CFL_ADDR (BitVec.ofNat 32 a) with boot := { up.boot with op := op, incomplete := inc } }

theorem witness_CodeFlashCommandsAct :
    (∃ (s : State) (p : Path) (a : Nat) (i : Instr), s.coreRuns = true ∧ a = s.cfAddr ∧ (i = .cflProgram p ∨ i = .cflErase p) ∧ s.boot.op ≠ none) ∧
    (∃ (s : State) (p : Path) (a : Nat) (i : Instr), s.coreRuns = true ∧ a = s.cfAddr ∧ (i = .cflProgram p ∨ i = .cflErase p) ∧ s.boot.op = none ∧ s.cfPath p a = false) ∧
    (∃ (s : State) (p : Path) (a : Nat) (i : Instr), s.coreRuns = true ∧ a = s.cfAddr ∧ (i = .cflProgram p ∨ i = .cflErase p) ∧ s.boot.op = none ∧ s.cfPath p a = true ∧ cfReserved a = true) ∧
    (∃ (s : State) (p : Path) (a : Nat) (i : Instr), s.coreRuns = true ∧ a = s.cfAddr ∧ (i = .cflProgram p ∨ i = .cflErase p) ∧ s.boot.op = none ∧ s.cfPath p a = true ∧ cfReserved a = false ∧ s.on Fld.CFL_STATUS_BROWNOUT = true) ∧
    (∃ (s : State) (p : Path) (a : Nat), s.coreRuns = true ∧ a = s.cfAddr ∧ s.boot.op = none ∧ s.cfPath p a = true ∧ cfReserved a = false ∧ s.on Fld.CFL_STATUS_BROWNOUT = false ∧ a / 4096 ∈ s.boot.incomplete) ∧
    (∃ (s : State) (p : Path) (a : Nat), s.coreRuns = true ∧ a = s.cfAddr ∧ s.boot.op = none ∧ s.cfPath p a = true ∧ cfReserved a = false ∧ s.on Fld.CFL_STATUS_BROWNOUT = false ∧ a / 4096 ∉ s.boot.incomplete ∧ (s.cfWord a ≠ List.replicate 8 0xFF ∨ a / 8 ∈ s.boot.torn ∨ s.amberSlot a = some .bad)) ∧
    (∃ (s : State) (p : Path) (a : Nat), s.coreRuns = true ∧ a = s.cfAddr ∧ s.boot.op = none ∧ s.cfPath p a = true ∧ cfReserved a = false ∧ s.on Fld.CFL_STATUS_BROWNOUT = false ∧ a / 4096 ∉ s.boot.incomplete ∧ s.cfWord a = List.replicate 8 0xFF ∧ a / 8 ∉ s.boot.torn ∧ s.amberSlot a ≠ some .bad) ∧
    (∃ (s : State), s.coreRuns = true) ∧
    (∃ (s : State) (q : BitVec 24) (i : Instr), i ∈ [Instr.cflSuspend (.capsule q), .cflResume (.capsule q), .cflRead (.capsule q) 0, .cflRead (.capsule q) 1, .cflRead (.capsule q) 2] ∧ s.coreRuns = true) ∧
    (∃ (s : State), s.coreRuns = true ∧ s.on Fld.CFL_CTRL_EXT_WR = false) ∧
    (∃ (s : State) (p : Path) (x n : _), s.coreRuns = true ∧ cmdPath p = true ∧ s.boot.op = some (.erase x false n) ∧ n < 16) ∧
    (∃ (s : State) (p : Path) (x n : _), s.coreRuns = true ∧ cmdPath p = true ∧ s.boot.op = some (.erase x false n) ∧ 16 ≤ n) ∧
    (∃ (s : State) (p : Path) (x n : _), s.coreRuns = true ∧ cmdPath p = true ∧ s.boot.op = some (.erase x true n)) ∧
    (∃ (s : State) (p : Path), s.coreRuns = true ∧ cmdPath p = true ∧ s.boot.op = none) ∧
    (∃ (s : State) (a : Nat) (d : BitVec 64), s.coreRuns = true ∧ s.boot.op = some (.program a d)) ∧
    (∃ (s : State) (p : Path) (a : Nat), s.coreRuns = true ∧ cmdPath p = true ∧ a = s.cfAddr ∧ s.boot.op ≠ none) ∧
    (∃ (s : State) (p : Path) (a : Nat), s.coreRuns = true ∧ cmdPath p = true ∧ a = s.cfAddr ∧ s.boot.op = none) :=
  ⟨⟨upCf 0 (some (.erase 0 false 0)) [], .firmware, 0, .cflErase .firmware, by decide +kernel⟩,
   ⟨upCf 0 none [], .capsule 2, 0, .cflProgram (.capsule 2), by decide +kernel⟩,
   ⟨upCf 0x1200000 none [], .firmware, 0x1200000, .cflErase .firmware, by decide +kernel⟩,
   ⟨(upCf 0x1C00000 none []).put Fld.CFL_STATUS_BROWNOUT 1, .firmware, 0x1C00000, .cflErase .firmware, by decide +kernel⟩,
   ⟨upCf 0x1C00FF8 none [0x1C00], .firmware, 0x1C00FF8, by decide +kernel⟩,
   ⟨{ upCf 0x1C00FF8 none [] with boot := { up.boot with torn := [0x3801FF] } }, .firmware, 0x1C00FF8, by decide +kernel⟩,
   ⟨upCf 0x1FFFFF8 none [0], .firmware, 0x1FFFFF8, by decide +kernel⟩,
   ⟨up, by decide +kernel⟩,
   ⟨up, 2, .cflRead (.capsule 2) 2, by decide +kernel⟩,
   ⟨up.put Fld.CFL_CTRL_EXT_WR 0, by decide +kernel⟩,
   ⟨upCf 0 (some (.erase 1 false 15)) [], .firmware, 1, 15, by decide +kernel⟩,
   ⟨upCf 0 (some (.erase 1 false 16)) [], .twoWire, 1, 16, by decide +kernel⟩,
   ⟨upCf 0 (some (.erase 1 true 3)) [], .firmware, 1, 3, by decide +kernel⟩,
   ⟨up, .twoWire, by decide +kernel⟩,
   ⟨upCf 0 (some (.program 8 5)) [], 8, 5, by decide +kernel⟩,
   ⟨upCf 0 (some (.program 8 5)) [], .firmware, 0, by decide +kernel⟩,
   ⟨upCf 8 none [], .twoWire, 8, by decide +kernel⟩⟩

def upSurvey : State := { up.put Fld.CFL_BOOTINFO_STEP 6 with mbus := { up.mbus with survey := true } }
/-- A transaction on segment 3; a segment that the rail of channel 23 switches. -/
def idTxn0 : IdTxn := { seg := 3, branch := 0, write := false, len := 4 }
def upId : State := { up with mbus := { up.mbus with txn := some idTxn0 } }
def upSeg (step group : Nat) (cycling : Option (Nat × Nat)) : State :=
  { sets [(Fld.MBUS_ISEG_SW_RAIL 3, 23), (Fld.CFL_BOOTINFO_STEP, step), (Fld.PWS_RAIL_GROUP 23, group)] up with
    mbus := { up.mbus with cycling := cycling } }

theorem witness_SurveyAndIdentityBusAct :
    (∃ (s : State), s.coreRuns = true ∧ (s.mbus.survey = false ∨ s.get Fld.CFL_BOOTINFO_STEP ≠ 6)) ∧
    (∃ (s : State), s.coreRuns = true ∧ s.mbus.survey = true ∧ s.get Fld.CFL_BOOTINFO_STEP = 6) ∧
    (∃ (s : State), s.coreRuns = true ∧ s.get Fld.CFL_BOOTINFO_STEP = 11 ∧ s.on Fld.CFL_BOOTINFO_TRIAL = true) ∧
    (∃ (s : State), s.coreRuns = true ∧ (s.get Fld.CFL_BOOTINFO_STEP ≠ 11 ∨ s.on Fld.CFL_BOOTINFO_TRIAL = false)) ∧
    (∃ (s : State) (seg : Nat), seg = s.get Fld.MBUS_ICTL_SEG ∧ s.on Fld.MBUS_ISTAT_BUSY = true) ∧
    (∃ (s : State) (seg : Nat), seg = s.get Fld.MBUS_ICTL_SEG ∧ s.on Fld.MBUS_ISTAT_BUSY = false ∧ (s.mbus.survey = true ∨ (s.on Fld.MBUS_ICTL_WRITE = true ∧ s.on Fld.MBUS_CTRL_ID_WR_EN = false))) ∧
    (∃ (s : State) (seg : Nat), seg = s.get Fld.MBUS_ICTL_SEG ∧ s.on Fld.MBUS_ISTAT_BUSY = false ∧ s.mbus.survey = false ∧ (s.on Fld.MBUS_ICTL_WRITE = false ∨ s.on Fld.MBUS_CTRL_ID_WR_EN = true) ∧ 2 ≤ s.get (Fld.MBUS_ISEG_STATE seg)) ∧
    (∃ (s : State) (seg : Nat), seg = s.get Fld.MBUS_ICTL_SEG ∧ s.on Fld.MBUS_ISTAT_BUSY = false ∧ s.mbus.survey = false ∧ (s.on Fld.MBUS_ICTL_WRITE = false ∨ s.on Fld.MBUS_CTRL_ID_WR_EN = true) ∧ s.get (Fld.MBUS_ISEG_STATE seg) < 2) ∧
    (∃ (s : State) (r : Fin 8), (s.mbus.txn = none ∨ 5 ≤ r.val)) ∧
    (∃ (s : State) (r : Fin 8) (x : _), s.mbus.txn = some x ∧ x.seg < 4 ∧ (r.val < 3 ∨ r.val = 4)) ∧
    (∃ (s : State) (r : Fin 8) (x : _), s.mbus.txn = some x ∧ x.seg < 4 ∧ r.val = 3) ∧
    (∃ (s : State) (seg n : Nat), seg < 4 ∧ n = s.get (Fld.MBUS_ISEG_SW_RAIL seg) ∧ n < 24 ∧ seg ∉ s.mbus.cycled ∧ s.mbus.cycling = none ∧ (s.get Fld.CFL_BOOTINFO_STEP ≤ 7 ∨ s.get (Fld.PWS_RAIL_GROUP n) = 0)) ∧
    (∃ (s : State) (seg n : Nat), seg < 4 ∧ n = s.get (Fld.MBUS_ISEG_SW_RAIL seg) ∧ (24 ≤ n ∨ seg ∈ s.mbus.cycled ∨ s.mbus.cycling ≠ none ∨ (7 < s.get Fld.CFL_BOOTINFO_STEP ∧ s.get (Fld.PWS_RAIL_GROUP n) ≠ 0))) ∧
    (∃ (s : State), s.mbus.cycling = none) ∧
    (∃ (s : State) (seg n : _), s.mbus.cycling = some (seg, n) ∧ seg < 4 ∧ n < 24) ∧
    (∃ (s : State) (seg : Fin 4), s.get (Fld.MBUS_ISEG_STATE seg.val) ≠ 0) ∧
    (∃ (s : State) (seg : Fin 4), s.get (Fld.MBUS_ISEG_STATE seg.val) = 0) :=
  ⟨⟨up, by decide +kernel⟩,
   ⟨upSurvey, by decide +kernel⟩,
   ⟨up.put Fld.CFL_BOOTINFO_TRIAL 1, by decide +kernel⟩,
   ⟨up, by decide +kernel⟩,
   ⟨up.put Fld.MBUS_ISTAT_BUSY 1, 0, by decide +kernel⟩,
   ⟨up.put Fld.MBUS_ICTL_WRITE 1, 0, by decide +kernel⟩,
   ⟨sets [(Fld.MBUS_ICTL_SEG, 3), (Fld.MBUS_ISEG_STATE 3, 2)] up, 3, by decide +kernel⟩,
   ⟨sets [(Fld.MBUS_ICTL_SEG, 3), (Fld.MBUS_ICTL_WRITE, 1), (Fld.MBUS_CTRL_ID_WR_EN, 1), (Fld.MBUS_ISEG_STATE 3, 1)] up, 3, by decide +kernel⟩,
   ⟨upId, 5, by decide +kernel⟩,
   ⟨upId, 4, idTxn0, by decide +kernel⟩,
   ⟨upId, 3, idTxn0, by decide +kernel⟩,
   ⟨upSeg 8 0 none, 3, 23, by decide +kernel⟩,
   ⟨upSeg 8 1 none, 3, 23, by decide +kernel⟩,
   ⟨up, by decide +kernel⟩,
   ⟨upSeg 8 0 (some (3, 23)), 3, 23, by decide +kernel⟩,
   ⟨up.put (Fld.MBUS_ISEG_STATE 3) 1, 3, by decide +kernel⟩,
   ⟨up, 3, by decide +kernel⟩⟩

def upPec : State := up.put Fld.MBUS_CTRL_PEC_EN 1
/-- The alert is asserted by the target at strap 2. -/
def upAlert : State := { up with mbus := { up.mbus with alert := true, madr := 2 } }

theorem witness_TwoWireMessagesAct :
    (∃ (s : State) (data : List Byte), s.on Fld.MBUS_CTRL_PEC_EN = false ∧ data ≠ []) ∧
    (∃ (s : State) (ptr : BitVec 16) (data : List Byte) (c : Byte), s.on Fld.MBUS_CTRL_PEC_EN = true ∧ c = pecOf (s.writeBytes ptr data) ∧ data ≠ []) ∧
    (∃ (s : State) (ptr : BitVec 16) (c : Byte), s.on Fld.MBUS_CTRL_PEC_EN = true ∧ c = pecOf (s.writeBytes ptr [])) ∧
    (∃ (s : State) (ptr : BitVec 16) (data : List Byte) (c : Byte), s.on Fld.MBUS_CTRL_PEC_EN = true ∧ c ≠ pecOf (s.writeBytes ptr data)) ∧
    (∃ (s : State) (ptr : BitVec 16) (c : Byte), s.on Fld.MBUS_CTRL_PEC_EN = true ∧ c ≠ pecOf (s.writeBytes ptr [])) ∧
    (∃ (ptr : BitVec 16) (data : List Byte), data.length = 4 ∧ ptr.toNat % 4 = 0) ∧
    (∃ (data : List Byte), data.length < 4 ∧ 0 < data.length) ∧
    (∃ (s : State) (a : Nat), s.served a = false) ∧
    (∃ (s : State) (a : Nat), s.served a = true ∧ s.on Fld.DBG_STATUS_FROZEN = false) ∧
    (∃ (a : Nat), a / 65536 ≤ 4) ∧
    (∃ (s : State) (ptr : BitVec 16) (r : State × BitVec 32), s.on Fld.MBUS_CTRL_PEC_EN = false ∧ ptr.toNat % 4 = 0 ∧ r = (s.count Reg.MBUS_READS).wireRead (winAddr (s.get Fld.GLB_WINSEL_WIN) ptr)) ∧
    (∃ (s : State), s.on Fld.MBUS_CTRL_PEC_EN = false) ∧
    (∃ (s : State) (ms : List (BitVec 3)), s.mbus.alert = true ∧ (∀ m ∈ ms, s.mbus.madr.toNat ≤ m.toNat)) ∧
    (∃ (s : State) (ms : List (BitVec 3)), s.mbus.alert = true ∧ (∃ m ∈ ms, m.toNat < s.mbus.madr.toNat)) ∧
    (∃ (s : State), s.mbus.alert = false) :=
  ⟨⟨up, [1], by decide +kernel⟩,
   ⟨upPec, 4, [1, 2, 3, 4], pecOf (upPec.writeBytes 4 [1, 2, 3, 4]), by decide +kernel⟩,
   ⟨upPec, 4, pecOf (upPec.writeBytes 4 []), by decide +kernel⟩,
   ⟨upPec, 4, [1], pecOf (upPec.writeBytes 4 [1]) + 1, by decide +kernel⟩,
   ⟨upPec, 4, pecOf (upPec.writeBytes 4 []) + 1, by decide +kernel⟩,
   ⟨0xFFFC, [1, 2, 3, 4], by decide +kernel⟩,
   ⟨[1, 2, 3], by decide +kernel⟩,
   ⟨State.reset, 0x50000, by decide +kernel⟩,
   ⟨up, 0x50000, by decide +kernel⟩,
   ⟨0x4FFFC, by decide +kernel⟩,
   ⟨up, 0xFFFC, (up.count Reg.MBUS_READS).wireRead (winAddr (up.get Fld.GLB_WINSEL_WIN) 0xFFFC), by decide +kernel, by decide +kernel, rfl⟩,
   ⟨up, by decide +kernel⟩,
   ⟨upAlert, [2, 7], by decide +kernel⟩,
   ⟨upAlert, [1, 7], by decide +kernel⟩,
   ⟨up, by decide +kernel⟩⟩

def ambRec0 (urgent : Bool) : AmbRec := { seq := 5, stamp := 7, pcycle := 1, code := 0x0101, urgent := urgent }
/-- One record staged, a flush or none, the area as given. -/
def upAmb (urgent : Bool) (flush : Option Nat) (area : List AmbSlot) : State :=
  { up with amb := { staging := [ambRec0 urgent], area := area, flushTo := flush } }
theorem upAmb_area (u : Bool) (f : Option Nat) (a : List AmbSlot) : (upAmb u f a).amb.area = a := rfl
theorem full_length (n : Nat) (h : n = (List.replicate 32767 AmbSlot.bad).length) : areaSlots ≤ n + 1 :=
  Nat.le_of_eq (h.trans List.length_replicate ▸ rfl)
theorem full_area : areaSlots ≤ (upAmb false (some 5) (List.replicate 32767 .bad)).amb.area.length + 1 :=
  full_length _ (congrArg List.length (upAmb_area false (some 5) (List.replicate 32767 .bad)))
/-- A debug key of zeros, a challenge of zero and a response. -/
def upDbg (fails : Nat) (resp : List (BitVec 32)) : State :=
  { up.put Fld.DBG_STATUS_FAILS fails with dbg := { key := some (List.replicate 8 0), challenge := some 0, resp := resp } }
def respUnlock : List (BitVec 32) := [3735333821, 1810860225, 284490139, 3281311947]
def respClear : List (BitVec 32) := [1901902379, 2109211419, 1243686288, 939911736]
def upStill : State := up.put Fld.DBG_STATUS_FROZEN 1

theorem witness_RecorderFreezeAndReadOutAct :
    (∃ (s : State) (r : _), s.amb.staging.getLast? = some r ∧ s.amb.clearing = false ∧ s.amb.full = false) ∧
    (∃ (s : State), (s.amb.staging = [] ∨ s.amb.clearing = true ∨ s.amb.full = true)) ∧
    (∃ (s : State), s.amb.staging.any (·.urgent) = true) ∧
    (∃ (s : State), s.amb.staging.any (·.urgent) = false) ∧
    (∃ (s : State) (r : AmbRec) (rest : List AmbRec) (last : Nat), s.amb.staging = r :: rest ∧ s.amb.flushTo = some last ∧ r.seq ≤ last ∧ s.amb.full = false ∧ s.amb.clearing = false ∧ s.amb.lost = false ∧ s.amb.area.length + 1 < areaSlots) ∧
    (∃ (s : State) (r : AmbRec) (rest : List AmbRec) (last : Nat), s.amb.staging = r :: rest ∧ s.amb.flushTo = some last ∧ r.seq ≤ last ∧ s.amb.full = false ∧ s.amb.clearing = false ∧ s.amb.lost = false ∧ areaSlots ≤ s.amb.area.length + 1) ∧
    (∃ (s : State), s.amb.flushTo = none) ∧
    (∃ (s : State) (lo hi : Nat) (w : List AmbRec), lo = (s.reg Reg.AMB_QSTART_LO).toNat + s.get Fld.AMB_QSTART_HI_STAMP * 2 ^ 32 ∧ hi = (s.reg Reg.AMB_QEND_LO).toNat + s.get Fld.AMB_QEND_HI_STAMP * 2 ^ 32 ∧ w = s.ambRecords.filter (fun r => decide (lo ≤ r.stamp) && decide (r.stamp < hi))) ∧
    (∃ (p : Path), (∃ q, p = .capsule q)) ∧
    (∃ (s : State), s.dbg.key = none ∧ s.on Fld.PWS_STATUS_INCOMPLETE = false) ∧
    (∃ (s : State) (p : Path), (p = .firmware ∨ p = .twoWire) ∧ s.on Fld.PWS_STATUS_INCOMPLETE = true) ∧
    (∃ (s : State) (p : Path) (key : List (BitVec 32)), (p = .firmware ∨ p = .twoWire) ∧ s.dbg.key = some key ∧ 3 ≤ s.get Fld.DBG_STATUS_FAILS ∧ s.on Fld.PWS_STATUS_INCOMPLETE = false) ∧
    (∃ (s : State) (p : Path) (key : List (BitVec 32)) (c : _), (p = .firmware ∨ p = .twoWire) ∧ s.dbg.key = some key ∧ s.get Fld.DBG_STATUS_FAILS < 3 ∧ s.dbg.challenge = some c ∧ wordBytes s.dbg.resp = cmac (wordBytes key) (leBytes 16 c.toNat ++ [1])) ∧
    (∃ (s : State) (p : Path) (key : List (BitVec 32)) (c : _), (p = .firmware ∨ p = .twoWire) ∧ s.dbg.key = some key ∧ s.get Fld.DBG_STATUS_FAILS < 3 ∧ s.dbg.challenge = some c ∧ wordBytes s.dbg.resp = cmac (wordBytes key) (leBytes 16 c.toNat ++ [2]) ∧ s.on Fld.PWS_STATUS_INCOMPLETE = false) ∧
    (∃ (s : State) (p : Path) (key : List (BitVec 32)) (c : _), (p = .firmware ∨ p = .twoWire) ∧ s.dbg.key = some key ∧ s.get Fld.DBG_STATUS_FAILS < 3 ∧ s.dbg.challenge = some c ∧ wordBytes s.dbg.resp ≠ cmac (wordBytes key) (leBytes 16 c.toNat ++ [1])) ∧
    (∃ (s : State), s.amb.clearing = false) ∧
    (∃ (s : State), s.amb.clearing = true) ∧
    (∃ (s : State), s.still = true) ∧
    (∃ (s : State), s.still = false ∧ s.on Fld.DBG_STATUS_UNLOCKED = false ∧ s.dbg.refusedSeen = true) ∧
    (∃ (s : State), s.still = false ∧ s.on Fld.DBG_STATUS_UNLOCKED = false ∧ s.dbg.refusedSeen = false) ∧
    (∃ (s : State), s.still = false ∧ s.on Fld.DBG_STATUS_UNLOCKED = true ∧ s.pw.shut = none) ∧
    (∃ (s : State), s.on Fld.DBG_STATUS_FROZEN = false) ∧
    (∃ (s : State), s.on Fld.DBG_STATUS_FROZEN = false) ∧
    (∃ (s : State), s.on Fld.DBG_STATUS_FROZEN = true) ∧
    (∃ (s : State), s.on Fld.DBG_STATUS_FROZEN = true) ∧
    (∃ (s : State) (i : _), s.on Fld.DBG_STATUS_FROZEN = true ∧ i < 1024) :=
  ⟨⟨upAmb false none [], ambRec0 false, by decide +kernel⟩,
   ⟨up, by decide +kernel⟩,
   ⟨upAmb true none [], by decide +kernel⟩,
   ⟨upAmb false none [], by decide +kernel⟩,
   ⟨upAmb false (some 5) [.bad], ambRec0 false, [], 5, by decide +kernel⟩,
   ⟨upAmb false (some 5) (List.replicate 32767 .bad), ambRec0 false, [], 5, by decide +kernel, by decide +kernel, by decide +kernel, by decide +kernel, by decide +kernel, by decide +kernel, full_area⟩,
   ⟨up, by decide +kernel⟩,
   ⟨up, 0, 0, [], by decide +kernel⟩,
   ⟨.capsule 2, ⟨2, rfl⟩⟩,
   ⟨up, by decide +kernel⟩,
   ⟨up.put Fld.PWS_STATUS_INCOMPLETE 1, .twoWire, by decide +kernel⟩,
   ⟨upDbg 3 [], .firmware, List.replicate 8 0, by decide +kernel⟩,
   ⟨upDbg 2 respUnlock, .firmware, List.replicate 8 0, 0, by decide +kernel⟩,
   ⟨upDbg 2 respClear, .twoWire, List.replicate 8 0, 0, by decide +kernel⟩,
   ⟨upDbg 2 respClear, .twoWire, List.replicate 8 0, 0, by decide +kernel⟩,
   ⟨up, by decide +kernel⟩,
   ⟨{ up with amb := { up.amb with clearing := true } }, by decide +kernel⟩,
   ⟨upStill, by decide +kernel⟩,
   ⟨{ up with dbg := { up.dbg with refusedSeen := true } }, by decide +kernel⟩,
   ⟨up, by decide +kernel⟩,
   ⟨up.put Fld.DBG_STATUS_UNLOCKED 1, by decide +kernel⟩,
   ⟨up, by decide +kernel⟩,
   ⟨up, by decide +kernel⟩,
   ⟨upStill, by decide +kernel⟩,
   ⟨upStill, by decide +kernel⟩,
   ⟨upStill, 1023, by decide +kernel⟩⟩

theorem witness_DebugKeyIsProvisionedOnce :
    (∃ (s : State) (p : Path), (p = .firmware ∨ p = .twoWire) ∧ s.dbg.key = none ∧ s.dbg.keyIn.length = 8) ∧
    (∃ (s : State) (p : Path) (k : _), (p = .firmware ∨ p = .twoWire) ∧ s.dbg.key = some k) ∧
    (∃ (s t : State), exec .sealOpDone s = .next t) ∧
    (∃ (s t : State) (k : List (BitVec 32)), step s = .next t ∧ s.dbg.key = some k) :=
  ⟨⟨up, .firmware, by decide +kernel⟩,
   ⟨upDbg 0 [], .twoWire, List.replicate 8 0, by decide +kernel⟩,
   ⟨up, up, rfl⟩,
   ⟨{ upDbg 0 [] with pending := [] }, { upDbg 0 [] with now := 1 }, List.replicate 8 0, rfl, by decide +kernel⟩⟩


/-! ### Ill-formed operands: each check of WellFormed refuses a term, and so does its meaning -/

def refuses (o : Host.Outcome State Fault Refusal) : Bool :=
  match o with
  | .refused (.illFormed _) => true
  | _ => false

theorem test_ill_formed_is_refused :
    ([Instr.healData 0 0 0 0 [] 0, .lcMopReservedOp 8, .dramReadDone addr0 0 [] (List.replicate 8 0),
   .dataWrite ely0 data0 0 0 (List.replicate 4097 0), .dataPost ely0 data0 0 true 0 0 (List.replicate 16 0) 0,
   .dataBind ely0 data0 0 (List.replicate 63 0), .piece ely0 0 4096 [] 0, .thermalSample (List.replicate 23 25)] : List Instr).all (fun i => !i.wellFormed && refuses (exec i up) && refuses (step { up with pending := [i] })) = true := by
  decide +kernel

/-- The terms next to them are well formed: the reserved OP 9, a NOTIFY entry of 32 bytes, 24 readings. -/
theorem test_well_formed_is_taken :
    [Instr.lcMopReservedOp 9, .dataPost ely0 data0 0 true 0 0 (List.replicate 32 0) 0, .thermalSample (List.replicate 24 25)].all
      (fun i => i.wellFormed && !refuses (exec i up)) = true := by
  decide +kernel

/-! ### Values of the spec's worked examples -/

/-- The state after a command; the state after reset where there is none. -/
def after (o : Host.Outcome State Fault Refusal) : State :=
  match o with
  | .next t => t
  | _ => State.reset

/-- Chapter 4, below R137: index 0x00_1234 and tag 0x07; the key after it. -/
theorem test_key_value : keyValue 0x1234 7 = 0x00123407 ∧ keyValue 0x1234 8 = 0x00123408 ∧ keyIndex 0x00123407 = 0x1234 := by
  decide +kernel

/-- Chapter 7, worked example: the set and bank of A, and the set of the line 16 MiB higher. -/
theorem test_line_cache_set :
    t0Tag 0x123456789AC0 = 0x123456 ∧ t0Fold 0x123456789AC0 = 0x23452 ∧ t0Set 0x123456789AC0 = 0x3D639 ∧
      t0Bank 0x123456789AC0 = 9 ∧ t0Set 0x123457789AC0 = 0x3D638 := by
  decide +kernel

/-- Chapter 9, worked example: the check bits of D = 1, and the lanes of its code word. -/
theorem test_check_bits : checkBits 1 = 0x4377 ∧ lanes (encodeWord 1) = ((1, 0x77), (1, 3)) := by decide +kernel

/-- Chapter 9: a code word is read, one flipped bit is put right, and the marker is seen in volatile frames only (R290, R293). -/
theorem test_decode_word :
    decodeWord false (encodeWord 1) = (.ok, 1) ∧ decodeWord false (encodeWord 1 ^^^ 0x20) = (.one, 1) ∧
      decodeWord true marker = (.never, 0) := by
  decide +kernel

/-- Chapter 12, worked example: member 17 of the manager at path 5 and depth 1. -/
theorem test_join_path :
    let s := ((upMan []).setReg Reg.COL_PATH_LO 5).setReg Reg.COL_PATH_HI 0x10000
    let s := { s with col := { s.col with members := [(17, { mem0 with svc0 := 1 })] } }
    ((kget (after (exec (.join (hdr0 true) (join0 7)) s)).col.members 17).map (fun m => (m.path, m.depth))) = some (1093, 2) := by
  decide +kernel

/-- Chapter 13, worked example, at the reset values of the module constants: C = 500,000 µC over 866 mV, ESR 25,000 µΩ, V0 of
50,000 mV give 600.1 J, TEST_J of 25.5 J, and the budget at its ceiling. -/
theorem test_hold_up_budget :
    State.reset.vMe 25000 = 20525 ∧ frac (State.reset.energy (500000, 866) 25000 50000) / 10 = 600 ∧
      State.reset.budgetOf (State.reset.energy (500000, 866) 25000 50000) = 65536 ∧ State.reset.testJ 50000 = 255 := by
  decide +kernel

/-- The same: below 410 J the budget leaves the ceiling, and at 40 J ÷ 0.8 nothing is left (energies in 0.1 J). -/
theorem test_budget_ceiling :
    State.reset.budgetOf (4100, 1) = 65536 ∧ State.reset.budgetOf (4099, 1) < 65536 ∧ State.reset.budgetOf (500, 1) = 0 := by
  decide +kernel

/-- Chapter 17, worked example, message 1. -/
theorem test_two_wire_window : (after (exec (.twoWireWrite 0xFFF0 [0x2A, 0, 0, 0] none) up)).reg Reg.GLB_WINSEL = 0x2A := by
  decide +kernel

/-- Chapter 17, worked example, message 3: the word at 0x2A_001C comes first, then that at 0x2A_0000, and WRAP is set. -/
theorem test_two_wire_wrap :
    let t := after (exec (.twoWireWrite 0x1C [1, 0, 0, 0, 3, 0, 0, 0] none) (up.setReg Reg.GLB_WINSEL 0x2A))
    t.on Fld.MBUS_STATUS_WRAP = true ∧ t.mbus.pointer = 4 := by
  decide +kernel

/-- Chapter 20, worked example: the chip of a new appliance at start-up step 9, with the window of a block. -/
def upNew (win : BitVec 32) (staged : List Staged) : State :=
  { (sets [(Fld.PWS_STATUS_SEQ, 2), (Fld.CFL_BOOTINFO_STEP, 9)] State.reset).setReg Reg.GLB_WINSEL win with
    boot := { released := true }, cfg := { staged := staged } }
def portMode0 : Staged := { addr := Reg.PRT_MODE 0, val := 7 }
def trnCtrl0 : Staged := { addr := Reg.TRN_CTRL, val := 0x400F }

/-- Steps 2 and 3: the value is staged, and the effective value is read. -/
theorem test_stage_port_mode :
    let t := after (exec (.twoWireWrite 0 [7, 0, 0, 0] none) (upNew 0x10 []))
    t.cfg.staged = [portMode0] ∧ (after (exec (.twoWireRead 0 4) t)).out.head? = some (.twoWire [4, 0, 0, 0] true) := by
  decide +kernel

/-- Step 8: with VIEW_MBUS the staged value is read (R581). -/
theorem test_view_staged :
    (after (exec (.twoWireRead 0 4) (((upNew 0x10 [portMode0]).setReg Reg.GLB_CFGCTL 1)))).out.head? = some (.twoWire [7, 0, 0, 0] true) := by
  decide +kernel

/-- Steps 9 and 10: the commit takes effect at once and GLB_CMTSTAT reads 0x0006_0000. -/
theorem test_commit_before_service :
    let t := after (exec (.glbCommit .twoWire) (upNew 0 [portMode0, trnCtrl0]))
    t.regView Reg.GLB_CMTSTAT = 0x60000 ∧ t.reg (Reg.PRT_MODE 0) = 7 ∧ t.reg Reg.TRN_CTRL = 0x400F := by
  decide +kernel

/-- Chapter 18, worked example: the window of operating hour 41,900. -/
theorem test_query_window :
    let rec_ (n t : Nat) : AmbSlot := .rec_ { seq := n, stamp := t, pcycle := 1, code := 0x0B0D }
    let s := (up.setReg Reg.AMB_QSTART_LO 0xA3AC000).setReg Reg.AMB_QEND_LO 0xA3AD000
    let t := after (exec .amberFind { s with amb := { area := [rec_ 1 0xA3ABFFF, rec_ 2 0xA3AC000, rec_ 3 0xA3ACFFF, rec_ 4 0xA3AD000] } })
    t.reg Reg.AMB_QCOUNT = 2 ∧ t.reg Reg.AMB_QFIRST = 2 := by
  decide +kernel

/-- Chapter 18, below R541: the codes of two events. -/
theorem test_event_codes : Event.twnTakeover.code = 0x0B0D ∧ Event.fchChannelRetired.code = 0x0A0A := by decide +kernel

/-- Chapter 5, worked example, steps 2 and 8: indices 3, then 1, are doorbells of an SQ of 4 slots; 4 is none. -/
theorem test_sq_doorbell :
    let q : Queue := { queue0 with sqSize := 4, sqHead := 0, cursor := 0 }
    doorbellValid q 1 0 3 = true ∧ doorbellValid q 1 0 4 = false ∧
      doorbellValid { q with sqHead := 3, cursor := 3 } 1 0 1 = true := by
  decide +kernel

/-- Chapter 3, worked example: a retransmission of PSN 500 is acknowledged and places nothing. -/
theorem test_duplicate_write :
    let q : Qp := { qp0 with epsn := 501, cpsn := 500, ranges := [{ first := 500, last := 500, kind := .write, msn := 0 }] }
    let s := up.updQp 2 (fun _ => q)
    let t := after (exec (.rdmaWrite { pkt0 with psn := 500 } .only (some reth8) bytes8) s)
    Out.ack 0 2 500 0 ∈ t.out ∧ t.net.txns = [] ∧ t.tier = s.tier := by
  decide +kernel

/-! ### Values of the algorithms that chapter 15 names -/

/-- FIPS 197, Appendix C.3: AES-256. -/
theorem test_aes256 :
    aesEnc ((List.range 32).map (BitVec.ofNat 8)) ((List.range 16).map (fun i => BitVec.ofNat 8 (17 * i))) =
      beBytes 16 0x8EA2B7CA516745BFEAFC49904B496089 := by
  decide +kernel

/-- SP 800-38B, Appendix D.3, example 9: AES-256 CMAC of the empty message. -/
theorem test_cmac :
    cmac (beBytes 32 0x603DEB1015CA71BE2B73AEF0857D77811F352C073B6108D72D9810A30914DFF4) [] =
      beBytes 16 0x028962F61B7BF89EFC6B551F4667D983 := by
  decide +kernel

/-- The GCM specification, test case 13: AES-256, everything zero and empty. -/
theorem test_gcm_tag : gcmTag (List.replicate 32 0) (List.replicate 12 0) [] [] = beBytes 16 0x530F8AFBC74536B9A963B4F1C4CB738B := by
  decide +kernel

/-- CRC-8 of SMBus and CRC-32 of IEEE 802.3 over the nine digits. -/
theorem test_crcs :
    crc8 ((List.range 9).map (fun i => BitVec.ofNat 8 (0x31 + i))) = 0xF4 ∧
      crc32 ((List.range 9).map (fun i => BitVec.ofNat 8 (0x31 + i))) = 0xCBF43926 := by
  decide +kernel

end Sys2Proof.Tests
end

section
/-! ## Keyed tables and views of a context -/

namespace Sys2Proof.Machine

/-- A view of the entries that a change in place keeps is kept at every key. -/
theorem kget_kupd_view {α β : Type} (view : α → β) (m : List (Nat × α)) (k j : Nat) (f : α → α) (h : ∀ x, view (f x) = view x) :
    (kget (kupd m k f) j).map view = (kget m j).map view := by
  rw [kget_kupd]
  split
  · cases kget m j <;> simp [h]
  · rfl

/-- A view of an entry that its replacement shows too is kept at every key. -/
theorem kget_kput_view {α β : Type} (view : α → β) (m : List (Nat × α)) (k j : Nat) (x y : α) (hx : kget m k = some x)
    (h : view y = view x) : (kget (kput m k y) j).map view = (kget m j).map view := by
  by_cases hj : j = k
  · rw [hj, kget_kput_same, hx, Option.map_some, Option.map_some, h]
  · rw [kget_kput_other _ _ _ _ hj]

end Sys2Proof.Machine
end

section
/-! ## Stages 1 to 3 (Table 03-5, R104) -/

namespace Sys2Proof.Machine

/-- A packet that stages 1 and 2 pass reaches stage 3, and what waited then settles. -/
theorem State.ingress_of_stage2Ok {s : State} {p : Pkt} (req : Req) (h : s.stage2Ok p = true) :
    s.ingress p req = ((s.stage2Out p).stage3 p req).settle := by
  unfold State.stage2Ok State.stage1Ok at h
  simp only [Bool.and_eq_true] at h
  obtain ⟨⟨hlink, hheader⟩, hctx⟩ := h
  cases hq : (s.stage1 p).qp p.qpn.toNat with
  | none => simp [hq] at hctx
  | some q =>
    simp only [hq, Bool.and_eq_true, Bool.not_eq_true', beq_iff_eq] at hctx
    obtain ⟨⟨⟨⟨haccept, hrewind⟩, hres⟩, hsteer⟩, hbehind⟩ := hctx
    have hq' : (((s.linkIn p).1.headerIn p).1).qp p.qpn.toNat = some q := hq
    have ha' : (((s.linkIn p).1.headerIn p).1).accepting q.home = true := haccept
    have hpass : s.ingress p req = ((s.stage1 p).stage2 p req).settle := by
      unfold State.ingress
      simp only [hlink, hheader, hq', ha', hrewind, Bool.not_true, Bool.false_and, Bool.false_eq_true, if_false]
      rfl
    have hstage2 : (s.stage1 p).stage2 p req = (s.stage2Out p).stage3 p req := by
      unfold State.stage2
      simp only [hq, hsteer, hbehind, hres, Bool.false_eq_true, if_false]
      rfl
    rw [hpass, hstage2]

/-- The expected request of a QP is taken (R104). -/
theorem State.stage3_of_expected {u : State} {p : Pkt} {q : Qp} (req : Req) (hq : u.qp p.qpn.toNat = some q)
    (he : expected q p = true) : u.stage3 p req = u.takeExpected p q req := by
  unfold expected at he
  simp only [Bool.and_eq_true, Bool.not_eq_true', List.isEmpty_iff, decide_eq_true_eq] at he
  obtain ⟨⟨⟨hrecv, hopen⟩, hskip⟩, hpsn⟩ := he
  have hdist : psnDist p.psn q.epsn = 0 := by simp [psnDist, hpsn]
  unfold State.stage3
  simp only [hq, hopen, hrecv, hskip, hdist, Bool.not_true, Bool.or_self, List.any_nil, Bool.false_eq_true, if_false, if_true]

/-- An expected request that the first stages pass is taken, and what waited then settles. -/
theorem State.ingress_of_expected {s : State} {p : Pkt} {q : Qp} (req : Req) (h : s.stage2Ok p = true)
    (hq : (s.stage2Out p).qp p.qpn.toNat = some q) (he : expected q p = true) :
    s.ingress p req = ((s.stage2Out p).takeExpected p q req).settle := by
  rw [ingress_of_stage2Ok req h, stage3_of_expected req hq he]

/-- A key that admits the access lets the request go on, and is the most recently used of its set (Table 04-2, R139). -/
theorem State.withKey_of_admits {u : State} {p : Pkt} {req : Req} {q : Qp} {key : BitVec 32} {off len right : Nat} {x : Extent}
    {e : Key} (go : Key → State → State) (h : u.keyAdmits p q key off len right x e) :
    u.withKey p req q key off len right x go = go e (u.cacheTouch (keyIndex key)) := by
  obtain ⟨-, hcached, htransit, hcheck, hslot⟩ := h
  have hmiss : (decide (1 ≤ keyIndex key) && decide (keyIndex key ≤ 4194304) && !(u.cached (keyIndex key))) = false := by
    by_cases h1 : 1 ≤ keyIndex key
    · by_cases h2 : keyIndex key ≤ 4194304
      · simp [hcached h1 h2]
      · simp [h2]
    · simp [h1]
  unfold State.withKey
  simp only [hmiss, htransit, hcheck, hslot, Bool.false_eq_true, if_false, if_true]

end Sys2Proof.Machine
end

section
/-! ## What the expected request leaves of its QP's context -/

namespace Sys2Proof.Machine

/-- What the responder side knows of a message in progress: the PSN it expects, the open message, the send sink. -/
def Qp.inbound (q : Qp) : Psn × Option OpenMsg × Option Sink := (q.epsn, q.openMsg, q.sink)

/-- The inbound view of the context with a number. -/
def State.inbound (s : State) (m : Nat) : Option (Psn × Option OpenMsg × Option Sink) := (s.qp m).map Qp.inbound

theorem State.inbound_of_net {s t : State} (h : t.net.qps = s.net.qps) (m : Nat) : t.inbound m = s.inbound m := by
  unfold State.inbound State.qp
  rw [h]

theorem State.inbound_updQp (s : State) (n m : Nat) (f : Qp → Qp) (h : ∀ q, (f q).inbound = q.inbound) :
    (s.updQp n f).inbound m = s.inbound m := kget_kupd_view Qp.inbound _ _ _ _ h

/-- The inbound view after the context itself has changed. -/
theorem State.inbound_updQp_self (s : State) (n : Nat) (f : Qp → Qp) : (s.updQp n f).inbound n = (s.qp n).map (fun q => (f q).inbound) := by
  unfold State.inbound State.qp State.updQp
  simp only [kget_kupd, if_true, Option.map_map]
  rfl

@[simp] theorem State.touchQp_net (s : State) (n : Nat) : (s.touchQp n).net = s.net := by
  unfold State.touchQp
  cases s.qp n <;> rfl

@[simp] theorem State.touchQp_inbound (s : State) (n m : Nat) : (s.touchQp n).inbound m = s.inbound m :=
  inbound_of_net (by rw [touchQp_net]) m

@[simp] theorem State.emit_inbound (s : State) (o : Out) (m : Nat) : (s.emit o).inbound m = s.inbound m :=
  inbound_of_net (by rw [emit_net]) m

/-- Bytes sent move only the reaction point (R123). -/
theorem State.sent_inbound (s : State) (n bytes m : Nat) : (s.sent n bytes).inbound m = s.inbound m := by
  apply inbound_updQp
  intro q
  simp only
  split
  · rfl
  · split <;> rfl

@[simp] theorem State.sent_txns (s : State) (n bytes : Nat) : (s.sent n bytes).net.txns = s.net.txns := rfl

theorem State.sendReq_inbound (s : State) (n : Nat) (q : Qp) (r : DevReq) (m : Nat) : (s.sendReq n q r).inbound m = s.inbound m := by
  unfold State.sendReq
  split
  · exact emit_inbound s _ m
  · rw [sent_inbound, emit_inbound]

theorem State.sendReq_txns (s : State) (n : Nat) (q : Qp) (r : DevReq) : (s.sendReq n q r).net.txns = s.net.txns := by
  unfold State.sendReq
  split
  · rw [emit_net]
  · rw [sent_txns, emit_net]

/-- Requests of the device that go on the wire leave every QP's inbound side and the transactions. -/
theorem sendPrefix_keeps (s : State) (n : Nat) (q : Qp) (rs : List DevReq) (m : Nat) :
    (sendPrefix s n q rs).1.inbound m = s.inbound m ∧ (sendPrefix s n q rs).1.net.txns = s.net.txns := by
  induction rs generalizing s with
  | nil => exact ⟨rfl, rfl⟩
  | cons r rs ih =>
    unfold sendPrefix
    split
    · exact ih s
    · split
      · exact ⟨rfl, rfl⟩
      · obtain ⟨hin, htx⟩ := ih (s.sendReq n q r)
        exact ⟨hin.trans (State.sendReq_inbound s n q r m), htx.trans (State.sendReq_txns s n q r)⟩

theorem State.pumpReqs_keeps (s : State) (n m : Nat) :
    (s.pumpReqs n).inbound m = s.inbound m ∧ (s.pumpReqs n).net.txns = s.net.txns := by
  unfold State.pumpReqs
  split
  · next q _ =>
    split
    · obtain ⟨hin, htx⟩ := sendPrefix_keeps s n q q.reqs m
      refine ⟨(inbound_updQp _ _ _ _ ?_).trans hin, htx⟩
      exact fun _ => rfl
    · exact ⟨rfl, rfl⟩
  · exact ⟨rfl, rfl⟩

/-- A new request of the device uses the requester side only (R102). -/
theorem State.newReq_keeps (s : State) (n : Nat) (kind : ReqKind) (addr : Nat) (key : BitVec 32) (rlen : Nat) (data : List Byte)
    (imm : Option (BitVec 32)) (wait : Option Nat) (m : Nat) :
    (s.newReq n kind addr key rlen data imm wait).inbound m = s.inbound m ∧
      (s.newReq n kind addr key rlen data imm wait).net.txns = s.net.txns := by
  unfold State.newReq
  split
  · next q hq =>
    extract_lets c r
    rw [(pumpReqs_keeps _ n m).1, (pumpReqs_keeps _ n m).2, touchQp_inbound, touchQp_net]
    refine ⟨kget_kput_view Qp.inbound _ _ _ q _ hq ?_, rfl⟩
    rfl
  · exact ⟨rfl, rfl⟩

theorem State.toRts_keeps (s : State) (n m : Nat) : (s.toRts n).inbound m = s.inbound m ∧ (s.toRts n).net.txns = s.net.txns := by
  unfold State.toRts
  split
  · next q _ =>
    split
    · extract_lets r
      have hin : r.inbound m = s.inbound m := by
        simp only [r, touchQp_inbound]
        exact inbound_updQp _ _ _ _ (fun _ => rfl)
      have htx : r.net.txns = s.net.txns := by
        simp only [r, touchQp_net]
        rfl
      split
      · exact ⟨hin, htx⟩
      · rw [(newReq_keeps _ _ _ _ _ _ _ _ _ m).1, (newReq_keeps _ _ _ _ _ _ _ _ _ m).2]
        exact ⟨hin, htx⟩
    · exact ⟨rfl, rfl⟩
  · exact ⟨rfl, rfl⟩

/-- The expected request is taken: its QP expects the PSN past it, and its message and sink stay (R104). -/
theorem State.expect_inbound {s : State} {n : Nat} {q : Qp} (hq : s.qp n = some q) (psn : Psn) (count : Nat) (kind : MsgKind) (ends : Bool) :
    (s.expect n psn count kind ends).inbound n = some (psn + BitVec.ofNat 24 count, q.openMsg, q.sink) := by
  unfold State.expect
  rw [touchQp_inbound, (toRts_keeps _ n n).1, inbound_updQp_self, hq]
  rfl

@[simp] theorem State.expect_txns (s : State) (n : Nat) (psn : Psn) (count : Nat) (kind : MsgKind) (ends : Bool) :
    (s.expect n psn count kind ends).net.txns = s.net.txns := by
  unfold State.expect
  rw [touchQp_net, (toRts_keeps _ n n).2]
  rfl

end Sys2Proof.Machine
end

section
/-! ## Stage 4: the transaction table (R54, R454) -/

namespace Sys2Proof.Machine

/-- What a transaction is to do, and for whom: all that stages 4 and 5 do not decide. -/
structure Task where
  cap : Option CapRef
  home : Nat
  qpn : Nat
  psn : Psn
  op : TxnOp
  region : Nat
  addr : Nat
  len : Nat
  key : BitVec 32

def Txn.task (t : Txn) : Task := ⟨t.cap, t.home, t.qpn, t.psn, t.op, t.region, t.addr, t.len, t.key⟩

/-- A transaction with this task is in the table, under a number that has been given. -/
def State.tasked (s : State) (k : Task) : Prop := ∃ x ∈ s.net.txns, x.task = k ∧ x.id < s.net.txnId

/-- Stage 4 moves the acceptance order, the transaction table and the self-tests, and nothing else. -/
theorem State.addTxn_eq (s : State) (t : Txn) : ∃ (ord : Nat) (txns : List Txn) (tests : List SelfTest),
    (s.addTxn t).1 = { s with net := { s.net with txnId := s.net.txnId + 1, ordNo := ord, txns := txns }, cqi := { s.cqi with tests := tests } } := by
  unfold State.addTxn
  extract_lets t' s'
  split
  · exact ⟨_, _, _, rfl⟩
  · exact ⟨_, _, _, rfl⟩

@[simp] theorem State.addTxn_prot (s : State) (t : Txn) : (s.addTxn t).1.prot = s.prot := by
  obtain ⟨_, _, _, h⟩ := s.addTxn_eq t
  rw [h]

@[simp] theorem State.addTxn_qps (s : State) (t : Txn) : (s.addTxn t).1.net.qps = s.net.qps := by
  obtain ⟨_, _, _, h⟩ := s.addTxn_eq t
  rw [h]

@[simp] theorem State.addTxn_txnId (s : State) (t : Txn) : (s.addTxn t).1.net.txnId = s.net.txnId + 1 := by
  obtain ⟨_, _, _, h⟩ := s.addTxn_eq t
  rw [h]

/-- The transaction enters the table, whether stage 5 accepts it or holds it back. -/
theorem State.addTxn_tasked (s : State) (t : Txn) : (s.addTxn t).1.tasked t.task := by
  unfold State.tasked
  rw [addTxn_txnId]
  unfold State.addTxn
  extract_lets t' s'
  split
  · exact ⟨_, List.mem_append_right _ (List.mem_singleton_self _), rfl, Nat.lt_succ_self _⟩
  · exact ⟨_, List.mem_append_right _ (List.mem_singleton_self _), rfl, Nat.lt_succ_self _⟩

/-- Transactions in the table stay there when another enters: its number is a new one. -/
theorem State.addTxn_keeps_tasked {s : State} {k : Task} (h : s.tasked k) (t : Txn) : (s.addTxn t).1.tasked k := by
  obtain ⟨x, hx, htask, hid⟩ := h
  unfold State.tasked
  rw [addTxn_txnId]
  refine ⟨x, ?_, htask, Nat.lt_succ_of_lt hid⟩
  unfold State.addTxn
  extract_lets t' s'
  split
  · exact List.mem_append_left _ hx
  · refine List.mem_append_left _ (List.mem_filter.mpr ⟨hx, ?_⟩)
    simpa using Nat.ne_of_lt hid

/-- The task of a packet's transaction. -/
def hostTask (p : Pkt) (q : Qp) (op : TxnOp) (region addr len : Nat) (key : BitVec 32) : Task :=
  ⟨none, q.home, p.qpn.toNat, p.psn, op, region, addr, len, key⟩

theorem State.hostTxn_tasked (s : State) (p : Pkt) (q : Qp) (op : TxnOp) (region addr len : Nat) (key : BitVec 32) (count : Nat)
    (ackReq ends : Bool) : (s.hostTxn p q op region addr len key count ackReq ends).tasked (hostTask p q op region addr len key) :=
  addTxn_tasked s _

theorem State.hostTxn_keeps_tasked {s : State} {k : Task} (h : s.tasked k) (p : Pkt) (q : Qp) (op : TxnOp) (region addr len : Nat)
    (key : BitVec 32) (count : Nat) (ackReq ends : Bool) : (s.hostTxn p q op region addr len key count ackReq ends).tasked k :=
  addTxn_keeps_tasked h _

@[simp] theorem State.hostTxn_inbound (s : State) (p : Pkt) (q : Qp) (op : TxnOp) (region addr len : Nat) (key : BitVec 32) (count : Nat)
    (ackReq ends : Bool) (m : Nat) : (s.hostTxn p q op region addr len key count ackReq ends).inbound m = s.inbound m :=
  inbound_of_net (addTxn_qps s _) m

theorem State.holdsTxn_of_tasked {v : State} {p : Pkt} {q : Qp} {op : TxnOp} {region addr len : Nat} {key : BitVec 32}
    (h : v.tasked (hostTask p q op region addr len key)) : v.holdsTxn p op region addr len key := by
  obtain ⟨x, hx, htask, -⟩ := h
  simp only [Txn.task, hostTask, Task.mk.injEq] at htask
  obtain ⟨-, -, hqpn, hpsn, hop, hregion, haddr, hlen, hkey⟩ := htask
  exact ⟨x, hx, hqpn, hpsn, hop, hregion, haddr, hlen, hkey⟩

theorem State.expects_of_inbound {v : State} {p : Pkt} {psn : Psn} {m : Option OpenMsg} {k : Option Sink}
    (h : v.inbound p.qpn.toNat = some (psn, m, k)) : v.expects p psn := by
  unfold State.inbound at h
  unfold State.expects
  cases hq : v.qp p.qpn.toNat with
  | none => simp [hq] at h
  | some q =>
    simp only [hq, Option.map_some, Qp.inbound, Option.some.injEq, Prod.mk.injEq] at h ⊢
    exact h.1

end Sys2Proof.Machine
end

section
/-! ## READ, atomics, ATOMIC WRITE and FLUSH (R28, R29, R147) -/

namespace Sys2Proof.Machine

/-- A request that names a key has entered the transaction table. -/
def State.entered (u : State) (p : Pkt) (q : Qp) (kind : MsgKind) (key : BitVec 32) (e : Key) (off len : Nat) (op : TxnOp) (count : Nat)
    (ackReq ends : Bool) : State :=
  ((u.cacheTouch (keyIndex key)).expect p.qpn.toNat p.psn count kind ends).hostTxn p q op e.region (e.region + off) len key count ackReq ends

section
variable {u : State} {p : Pkt} {q : Qp} (kind : MsgKind) (key : BitVec 32) (e : Key) (off len : Nat) (op : TxnOp) (count : Nat) (ackReq ends : Bool)

theorem State.entered_inbound (hq : u.qp p.qpn.toNat = some q) :
    (u.entered p q kind key e off len op count ackReq ends).inbound p.qpn.toNat = some (p.psn + BitVec.ofNat 24 count, q.openMsg, q.sink) := by
  have hq' : (u.cacheTouch (keyIndex key)).qp p.qpn.toNat = some q := hq
  unfold State.entered
  rw [hostTxn_inbound, expect_inbound hq']

theorem State.entered_tasked :
    (u.entered p q kind key e off len op count ackReq ends).tasked (hostTask p q op e.region (e.region + off) len key) :=
  hostTxn_tasked _ p q op _ _ len key count ackReq ends

/-- The QP expects the PSN past the request, and the table holds its transaction. -/
theorem State.entered_spec (hq : u.qp p.qpn.toNat = some q) :
    (u.entered p q kind key e off len op count ackReq ends).expects p (p.psn + BitVec.ofNat 24 count) ∧
      (u.entered p q kind key e off len op count ackReq ends).holdsTxn p op e.region (e.region + off) len key :=
  ⟨expects_of_inbound (entered_inbound kind key e off len op count ackReq ends hq), holdsTxn_of_tasked (entered_tasked ..)⟩

end

section
variable {u : State} {p : Pkt} {q : Qp} {e : Key} (hopen : q.openMsg = none)
include hopen

theorem State.takeExpected_read {r : Reth} (hlen : r.dlen.toNat ≤ 2147483648)
    (hkey : u.keyAdmits p q r.key r.va.toNat r.dlen.toNat rRead (if r.dlen.toNat = 0 then .keyOnly else .whole) e) :
    u.takeExpected p q (.read r) = u.entered p q .read r.key e r.va.toNat r.dlen.toNat .read (packets q.pmtu r.dlen.toNat) true true := by
  simp only [takeExpected, takeOther, hopen, hkey.1, hlen, withKey_of_admits _ hkey, decide_true, Option.isSome_none, Bool.false_and,
    Bool.not_true, Bool.or_self, Bool.false_eq_true, if_false]
  rfl

theorem State.takeExpected_cas {va swap cmp : BitVec 64} {key : BitVec 32} (halign : va.toNat % 8 = 0)
    (hkey : u.keyAdmits p q key va.toNat 8 rAtomic .whole e) :
    u.takeExpected p q (.cas va key swap cmp) = u.entered p q .atomic key e va.toNat 8 (.atomicCas swap cmp) 1 true true := by
  simp only [takeExpected, takeOther, hopen, hkey.1, halign, withKey_of_admits _ hkey, decide_true, Option.isSome_none, Bool.false_and,
    Bool.not_true, Bool.or_self, Bool.false_eq_true, if_false]
  rfl

theorem State.takeExpected_faa {va add : BitVec 64} {key : BitVec 32} (halign : va.toNat % 8 = 0)
    (hkey : u.keyAdmits p q key va.toNat 8 rAtomic .whole e) :
    u.takeExpected p q (.faa va key add) = u.entered p q .atomic key e va.toNat 8 (.atomicAdd add) 1 true true := by
  simp only [takeExpected, takeOther, hopen, hkey.1, halign, withKey_of_admits _ hkey, decide_true, Option.isSome_none, Bool.false_and,
    Bool.not_true, Bool.or_self, Bool.false_eq_true, if_false]
  rfl

theorem State.takeExpected_atomicWrite {r : Reth} {data : List Byte} (hdata : data.length = 8) (hlen : r.dlen.toNat = 8)
    (halign : r.va.toNat % 8 = 0) (hkey : u.keyAdmits p q r.key r.va.toNat 8 rAtomicWrite .whole e) :
    u.takeExpected p q (.atomicWrite r data) = u.entered p q .write r.key e r.va.toNat 8 (.write data) 1 true true := by
  simp only [takeExpected, takeOther, hopen, hkey.1, hdata, hlen, halign, withKey_of_admits _ hkey, decide_true, Bool.and_self,
    Option.isSome_none, Bool.false_and, Bool.not_true, Bool.or_self, Bool.false_eq_true, if_false]
  rfl

theorem State.takeExpected_flush {r : Reth} {g persist range : Bool} (hsel : (g || persist) = true) (hlen : r.dlen.toNat ≤ 2147483648)
    (hkey : u.keyAdmits p q r.key r.va.toNat r.dlen.toNat rFlush (if range then .whole else .noBounds) e) :
    u.takeExpected p q (.flush r g persist range) = u.entered p q .flush r.key e r.va.toNat 0 (.flush persist) 1 true true := by
  simp only [takeExpected, takeOther, hopen, hkey.1, hsel, hlen, withKey_of_admits _ hkey, decide_true, Bool.and_self, Option.isSome_none,
    Bool.false_and, Bool.not_true, Bool.or_self, Bool.false_eq_true, if_false]
  rfl

end

/-- A command that is an expected request settles from what taking the request leaves. -/
theorem settles_of_taken {i : Instr} {s v : State} {p : Pkt} {q : Qp} {req : Req} {P : State → Prop} (h : s.stage2Ok p = true)
    (hq : (s.stage2Out p).qp p.qpn.toNat = some q) (he : expected q p = true) (hv : (s.stage2Out p).takeExpected p q req = v)
    (hexec : exec i s = .next (s.ingress p req) ∨ exec i s = .next (s.ingress p req).spaceCheck) (hP : P v) : Settles i s P := by
  rw [State.ingress_of_expected req h hq he, hv] at hexec
  exact ⟨v, hexec, hP⟩

/-- Settles O10: each of the five requests, once taken, is a transaction of the table and moves the expected PSN. -/
theorem keyRequestsEnterTheTransactionTable : Obligations.KeyRequestsEnterTheTransactionTable := by
  unfold Obligations.KeyRequestsEnterTheTransactionTable
  refine ⟨?read, ?cas, ?faa, ?atomicWrite, ?flush⟩
  case read =>
    intro s p q r e h hq he hopen hlen hkey
    exact settles_of_taken h hq he (State.takeExpected_read hopen hlen hkey) (.inl rfl)
      (State.entered_spec _ _ _ _ _ _ _ _ _ hq)
  case cas =>
    intro s p q va key swap cmp e h hq he hopen halign hkey
    exact settles_of_taken h hq he (State.takeExpected_cas hopen halign hkey) (.inr rfl)
      (State.entered_spec _ _ _ _ _ _ _ _ _ hq)
  case faa =>
    intro s p q va key add e h hq he hopen halign hkey
    exact settles_of_taken h hq he (State.takeExpected_faa hopen halign hkey) (.inr rfl)
      (State.entered_spec _ _ _ _ _ _ _ _ _ hq)
  case atomicWrite =>
    intro s p q r data e h hq he hopen hdata hlen halign hkey
    exact settles_of_taken h hq he (State.takeExpected_atomicWrite hopen hdata hlen halign hkey) (.inr rfl)
      (State.entered_spec _ _ _ _ _ _ _ _ _ hq)
  case flush =>
    intro s p q r g persist range e h hq he hopen hsel hlen hkey
    exact settles_of_taken h hq he (State.takeExpected_flush hopen hsel hlen hkey) (.inl rfl)
      (State.entered_spec _ _ _ _ _ _ _ _ _ hq)

end Sys2Proof.Machine
end

section
/-! ## RDMA WRITE and SEND (R94, R100, R101) -/

namespace Sys2Proof.Machine

/-- The open message of a context whose inbound view is known. -/
theorem State.openMsg_of_inbound {v : State} {n : Nat} {psn : Psn} {m : Option OpenMsg} {k : Option Sink} (h : v.inbound n = some (psn, m, k)) :
    (v.qp n).map (·.openMsg) = some m := by
  unfold State.inbound at h
  cases hq : v.qp n with
  | none => simp [hq] at h
  | some q =>
    simp only [hq, Option.map_some, Qp.inbound, Option.some.injEq, Prod.mk.injEq] at h ⊢
    exact h.2.1

/-- The send sink of a context whose inbound view is known. -/
theorem State.sink_of_inbound {v : State} {n : Nat} {psn : Psn} {m : Option OpenMsg} {k : Option Sink} (h : v.inbound n = some (psn, m, k)) :
    (v.qp n).bind (·.sink) = k := by
  unfold State.inbound at h
  cases hq : v.qp n with
  | none => simp [hq] at h
  | some q =>
    simp only [hq, Option.map_some, Qp.inbound, Option.some.injEq, Prod.mk.injEq] at h
    exact h.2.2

/-- A change of the context shows in its inbound view. -/
theorem State.inbound_updQp_map (s : State) (n : Nat) (f : Qp → Qp) (g : Psn × Option OpenMsg × Option Sink → Psn × Option OpenMsg × Option Sink)
    (h : ∀ q, (f q).inbound = g q.inbound) : (s.updQp n f).inbound n = (s.inbound n).map g := by
  rw [inbound_updQp_self]
  unfold State.inbound
  cases s.qp n with
  | none => rfl
  | some q => simp [h]

/-- Opening or closing a message changes the message alone. -/
theorem State.inbound_setMsg {s : State} {n : Nat} {psn : Psn} {m : Option OpenMsg} {k : Option Sink} (h : s.inbound n = some (psn, m, k))
    (m' : Option OpenMsg) : (s.updQp n (fun q => { q with openMsg := m' })).inbound n = some (psn, m', k) := by
  rw [inbound_updQp_map s n _ (fun x => (x.1, m', x.2.2)) (fun _ => rfl), h]
  rfl

/-- The message that the first packet of an RDMA WRITE opens: what is left of it. -/
def OpenMsg.ofFirst (r : Reth) (e : Key) (len : Nat) : OpenMsg :=
  { isSend := false, region := e.region, next := e.region + r.va.toNat + len, left := r.dlen.toNat - len, key := r.key,
    offset := r.va.toNat + len, placed := len }

/-- The last packet of an RDMA WRITE has entered the transaction table and closed its message. -/
def State.wroteLast (u : State) (p : Pkt) (q : Qp) (m : OpenMsg) (data : List Byte) : State :=
  (((u.expect p.qpn.toNat p.psn 1 .write true).hostTxn p q (.write data) m.region m.next data.length m.key 1 p.ackReq true).updQp p.qpn.toNat
    (fun q => { q with openMsg := none })).msgDone p.qpn.toNat

theorem State.wroteLast_spec {u : State} {p : Pkt} {q : Qp} (hq : u.qp p.qpn.toNat = some q) (m : OpenMsg) (data : List Byte) :
    (u.wroteLast p q m data).inbound p.qpn.toNat = some (p.psn + 1, none, q.sink) ∧
      (u.wroteLast p q m data).holdsTxn p (.write data) m.region m.next data.length m.key := by
  constructor
  · apply inbound_setMsg (m := q.openMsg)
    rw [hostTxn_inbound, expect_inbound hq]
    rfl
  · have htask := hostTxn_tasked (u.expect p.qpn.toNat p.psn 1 .write true) p q (.write data) m.region m.next data.length m.key 1 p.ackReq true
    exact holdsTxn_of_tasked (v := u.wroteLast p q m data) (q := q) htask

section
variable {u : State} {p : Pkt} {q : Qp} {e : Key}

theorem State.takeExpected_writeOnly {r : Reth} {data : List Byte} (hopen : q.openMsg = none) (hlen : data.length = r.dlen.toNat)
    (hmtu : data.length ≤ q.pmtu) (hmax : data.length ≤ 2147483648) (hpad : padOk p data.length = true)
    (hkey : u.keyAdmits p q r.key r.va.toNat data.length rWrite (if data.length = 0 then .keyOnly else .whole) e) :
    u.takeExpected p q (.write .only (some r) none data) =
      u.entered p q .write r.key e r.va.toNat data.length (if data.length = 0 then .nothing else .write data) 1 p.ackReq true := by
  have hbig : ¬ 2147483648 < data.length := by omega
  simp only [takeExpected, takeWrite, hopen, ← hlen, hkey.1, hmtu, hbig, hpad, withKey_of_admits _ hkey, decide_true, decide_false,
    Bool.and_self, Bool.not_true, Bool.false_eq_true, if_false]
  rfl

theorem State.takeExpected_writeFirst {r : Reth} {data : List Byte} (hopen : q.openMsg = none) (hlen : data.length = q.pmtu) (hpos : 0 < q.pmtu)
    (hmore : q.pmtu < r.dlen.toNat) (hmax : r.dlen.toNat ≤ 2147483648) (hpad : padOk p data.length = true)
    (hkey : u.keyAdmits p q r.key r.va.toNat r.dlen.toNat rWrite .whole e) :
    u.takeExpected p q (.write .first (some r) none data) =
      (u.entered p q .write r.key e r.va.toNat data.length (.write data) 1 p.ackReq false).updQp p.qpn.toNat
        (fun q => { q with openMsg := some (OpenMsg.ofFirst r e data.length) }) := by
  have hbig : ¬ 2147483648 < r.dlen.toNat := by omega
  have hd0 : ¬ r.dlen.toNat = 0 := by omega
  have hl0 : ¬ data.length = 0 := by omega
  simp only [takeExpected, takeWrite, hopen, ← hlen, hl0, hd0, hlen ▸ hmore, hkey.1, hbig, hpad, withKey_of_admits _ hkey, decide_true, decide_false,
    Bool.and_self, Bool.not_true, Bool.false_eq_true, if_false]
  rfl

theorem State.takeExpected_writeLast {m : OpenMsg} {data : List Byte} (hopen : q.openMsg = some m) (hwrite : m.isSend = false)
    (hrecheck : m.recheck = false) (hlen : data.length = m.left) (hpos : 0 < data.length) (hmtu : data.length ≤ q.pmtu)
    (hpad : padOk p data.length = true) (hslot : u.slotFree (u.sliceOf p.qpn.toNat) = true) :
    u.takeExpected p q (.write .last none none data) = u.wroteLast p q m data := by
  simp only [takeExpected, takeWrite, hopen, ← hlen, hwrite, hpos, hmtu, hpad, hslot, recheck, hrecheck, decide_true, Bool.and_self,
    Bool.not_true, Bool.false_eq_true, if_false, Bool.and_true]
  rfl

/-- The header of the next message in the sink is a transaction, and the message is numbered (R100). -/
theorem State.sinkClose_spec {s : State} {p : Pkt} {q : Qp} {k : Sink} {psn : Psn} {m : Option OpenMsg} (h : s.inbound p.qpn.toNat = some (psn, m, some k))
    (hdr len : Nat) (imm : Option (BitVec 32)) (writeImm : Bool) :
    (s.sinkClose p q k hdr len imm writeImm).inbound p.qpn.toNat = some (psn, none, some { k with sent := k.sent + 1 }) ∧
      (s.sinkClose p q k hdr len imm writeImm).holdsTxn p (.write (sinkHeader len imm writeImm (k.sent + 1))) k.region hdr 16 k.key ∧
      (∀ t : Task, s.tasked t → (s.sinkClose p q k hdr len imm writeImm).tasked t) := by
  unfold State.sinkClose
  refine ⟨?_, ?_, ?_⟩
  · rw [inbound_updQp_map _ _ _ (fun x => (x.1, none, some { k with sent := k.sent + 1 })) (fun _ => rfl), hostTxn_inbound, h]
    rfl
  · exact holdsTxn_of_tasked (hostTxn_tasked s p q _ _ _ _ _ _ _ _)
  · exact fun t ht => hostTxn_keeps_tasked ht p q _ _ _ _ _ _ _ _

theorem State.takeExpected_writeImm {k : Sink} {imm : BitVec 32} {r : Reth} (hopen : q.openMsg = none) (hlen : r.dlen.toNat = 0)
    (hpad : padOk p 0 = true) (hsink : q.sink = some k) (hroom : u.sinkFull k = false)
    (hkey : u.keyAdmits p q r.key r.va.toNat 0 rWrite .keyOnly e) :
    u.takeExpected p q (.write .only (some r) (some imm) []) =
      ((u.cacheTouch (keyIndex r.key)).expect p.qpn.toNat p.psn 1 .write true).sinkClose p q k k.slotAddr 0 (some imm) true := by
  have hroom' : (u.cacheTouch (keyIndex r.key)).sinkFull k = false := hroom
  have hkey' := withKey_of_admits (req := .write .only (some r) (some imm) []) (go := fun e s =>
              s.sinkCheck p q (fun k s => (s.expect p.qpn.toNat p.psn 1 .write true).sinkClose p q k k.slotAddr 0 (some imm) true)) hkey
  have htake : u.takeExpected p q (.write .only (some r) (some imm) []) = u.withKey p (.write .only (some r) (some imm) []) q r.key r.va.toNat 0 rWrite .keyOnly (fun e s =>
              s.sinkCheck p q (fun k s => (s.expect p.qpn.toNat p.psn 1 .write true).sinkClose p q k k.slotAddr 0 (some imm) true)) := by
    simp only [takeExpected, takeWrite, hopen, hlen, hkey.1, hpad, List.length_nil, Nat.zero_le, decide_true, Bool.and_self, Bool.not_true, 
      Bool.false_eq_true, if_false, if_true, show ¬ 2147483648 < 0 by omega, decide_false]
    rfl
  rw [htake, hkey']
  simp only [sinkCheck, hsink, hroom', Bool.false_eq_true, if_false]

theorem State.takeExpected_sendOnly {k : Sink} {imm : Option (BitVec 32)} {data : List Byte} (hopen : q.openMsg = none)
    (hmtu : data.length ≤ q.pmtu) (hpos : 0 < data.length) (hpad : padOk p data.length = true) (hsink : q.sink = some k)
    (hroom : u.sinkFull k = false) (hfits : data.length + 16 ≤ 2 ^ k.slotLog2)
    (hkey : u.keyAdmits p q k.key (k.slotAddr - k.region) (2 ^ k.slotLog2) rWrite .whole e) :
    u.takeExpected p q (.send .only imm data) =
      (((u.cacheTouch (keyIndex k.key)).expect p.qpn.toNat p.psn 1 .write true).hostTxn p q (.write data) e.region (k.slotAddr + 16) data.length k.key
        1 false false).sinkClose p q k k.slotAddr data.length imm false := by
  have hslot : ¬ 2 ^ k.slotLog2 - 16 < data.length := by omega
  have hl0 : ¬ data.length = 0 := by omega
  have hpos : (Pos.only == Pos.last || Pos.only == Pos.only) = true := rfl
  have hfirst : (Pos.only == Pos.first) = false := rfl
  simp only [takeExpected, takeSend, hopen, hmtu, hpad, sinkCheck, hsink, hroom, hslot, hl0, hpos, hfirst, withKey_of_admits _ hkey, decide_true,
    Option.isSome_none, Bool.not_true, Bool.or_self, Bool.and_false, Bool.false_eq_true, if_false, if_true]

end

/-! ## A packet with an unlisted opcode (R93, R104) -/

theorem State.setPause_net (s : State) (p c : Nat) (f : ClassSt → ClassSt) :
    (s.setPause p c f).net.qps = s.net.qps ∧ (s.setPause p c f).net.held = s.net.held := by
  unfold State.setPause
  extract_lets before s1 after s2 s3
  have h2 : s2.net.qps = s.net.qps ∧ s2.net.held = s.net.held := ⟨rfl, rfl⟩
  have h3 : s3.net = s2.net := emit_net _ _
  split
  · exact h2
  · split
    · rw [count_net, h3]
      exact h2
    · rw [h3]
      exact h2

theorem State.bufferPause_net (s : State) (p c : Nat) :
    (s.bufferPause p c).net.qps = s.net.qps ∧ (s.bufferPause p c).net.held = s.net.held := by
  unfold State.bufferPause
  split
  · extract_lets o
    split
    · exact setPause_net s p c _
    · split
      · exact setPause_net s p c _
      · exact ⟨rfl, rfl⟩
  · exact ⟨rfl, rfl⟩

/-- A packet whose exception queue has room waits in it for a transport core (R57). -/
theorem State.hold_nakBuild {s : State} {p : Pkt} {req : Req} (hroom : s.excUsed (s.sliceOf p.qpn.toNat) < 1024) :
    (s.hold p req .nakBuild).net.qps = s.net.qps ∧
      (s.hold p req .nakBuild).net.held = s.net.held ++ [{ qpn := p.qpn.toNat, slice := s.sliceOf p.qpn.toNat, pkt := p, req := req, why := .nakBuild }] := by
  have hfull : ¬ 1024 ≤ s.excUsed (s.sliceOf p.qpn.toNat) := by omega
  unfold State.hold
  simp only [HoldWhy.isExc, hfull, decide_false, Bool.true_and, Bool.false_eq_true, if_false, reduceCtorEq, beq_iff_eq]
  exact bufferPause_net _ _ _

/-- Settles O11: each packet, once taken, is a transaction of the table (two for a message to the sink), and moves the expected PSN;
a packet with an unlisted opcode waits. -/
theorem writesAndSendsEnterTheTransactionTable : Obligations.WritesAndSendsEnterTheTransactionTable := by
  unfold Obligations.WritesAndSendsEnterTheTransactionTable
  refine ⟨?only, ?first, ?last, ?imm, ?send, ?unlisted⟩
  case only =>
    intro s p q r data e h hq he hopen hlen hmtu hmax hpad hkey
    exact settles_of_taken h hq he (State.takeExpected_writeOnly hopen hlen hmtu hmax hpad hkey) (.inr rfl)
      (State.entered_spec _ _ _ _ _ _ _ _ _ hq)
  case first =>
    intro s p q r data e h hq he hopen hlen hpos hmore hmax hpad hkey
    obtain ⟨-, htxn⟩ := State.entered_spec .write r.key e r.va.toNat data.length (.write data) 1 p.ackReq false hq
    have hin := State.inbound_setMsg (State.entered_inbound .write r.key e r.va.toNat data.length (.write data) 1 p.ackReq false hq)
      (some (OpenMsg.ofFirst r e data.length))
    refine settles_of_taken h hq he (State.takeExpected_writeFirst hopen hlen hpos hmore hmax hpad hkey) (.inr rfl)
      ⟨State.expects_of_inbound hin, htxn, ?_⟩
    have hmsg := State.openMsg_of_inbound hin
    rw [Option.map_eq_some_iff] at hmsg
    obtain ⟨q', hq', hm⟩ := hmsg
    rw [hq', Option.bind_some, hm]
    rfl
  case last =>
    intro s p q m data h hq he hopen hwrite hrecheck hlen hpos hmtu hpad hslot
    obtain ⟨hin, htxn⟩ := State.wroteLast_spec hq m data
    exact settles_of_taken h hq he (State.takeExpected_writeLast hopen hwrite hrecheck hlen hpos hmtu hpad hslot) (.inr rfl)
      ⟨State.expects_of_inbound hin, htxn, State.openMsg_of_inbound hin⟩
  case imm =>
    intro s p q k imm r e h hq he hopen hlen hpad hsink hroom hkey
    have hq' : ((s.stage2Out p).cacheTouch (keyIndex r.key)).qp p.qpn.toNat = some q := hq
    have hin := State.expect_inbound hq' p.psn 1 .write true
    rw [hsink] at hin
    obtain ⟨hin', hhdr, -⟩ := State.sinkClose_spec (q := q) hin k.slotAddr 0 (some imm) true
    refine settles_of_taken h hq he (State.takeExpected_writeImm hopen hlen hpad hsink hroom hkey) (.inr rfl)
      ⟨State.expects_of_inbound hin', hhdr, ?_⟩
    rw [State.sink_of_inbound hin']
    rfl
  case send =>
    intro s p q k imm data e h hq he hopen hmtu hpos hpad hsink hroom hfits hkey
    have hq' : ((s.stage2Out p).cacheTouch (keyIndex k.key)).qp p.qpn.toNat = some q := hq
    have hin := State.expect_inbound hq' p.psn 1 .write true
    rw [hsink, ← State.hostTxn_inbound _ p q (.write data) e.region (k.slotAddr + 16) data.length k.key 1 false false] at hin
    obtain ⟨hin', hhdr, hkeep⟩ := State.sinkClose_spec (q := q) hin k.slotAddr data.length imm false
    have hdata := hkeep _ (State.hostTxn_tasked _ p q (.write data) e.region (k.slotAddr + 16) data.length k.key 1 false false)
    refine settles_of_taken h hq he (State.takeExpected_sendOnly hopen hmtu hpos hpad hsink hroom hfits hkey) (.inr rfl)
      ⟨State.expects_of_inbound hin', State.holdsTxn_of_tasked hdata, hhdr, ?_⟩
    rw [State.sink_of_inbound hin']
    rfl
  case unlisted =>
    intro s p q op h hq he hroom
    obtain ⟨hqps, hheld⟩ := State.hold_nakBuild (req := .unsupported op) hroom
    have hwait : (s.stage2Out p).takeExpected p q (.unsupported op) = (s.stage2Out p).hold p (.unsupported op) .nakBuild := rfl
    refine settles_of_taken h hq he hwait (.inl rfl) ⟨?_, ?_⟩
    · have hpsn : q.epsn = p.psn := by
        simp only [expected, Bool.and_eq_true, decide_eq_true_eq] at he
        exact he.2
      unfold State.expects State.qp
      rw [hqps, show kget (s.stage2Out p).net.qps p.qpn.toNat = some q from hq, Option.map_some, hpsn]
    · rw [hheld]
      exact List.mem_append_right _ (List.mem_singleton_self _)

end Sys2Proof.Machine
end

section
/-! ## Capsules that start (R164 to R167) -/

namespace Sys2Proof.Machine

/-- The core runs, so a command of it acts. -/
theorem State.core_of_runs {s : State} (h : s.coreRuns = true) (t : State) : s.core t = .next t := by
  unfold State.core
  rw [if_pos h]

/-- A capsule of the row, there to start and of the row's form, runs and is carried out. -/
theorem State.startCap_of_capFor {s : State} {c : CapRef} {row : CapRow} {qp : Qp} {bs : List Byte} (h : s.capFor c row qp bs)
    (go : Qp → List Byte → State → State) : s.startCap c row go = (go qp bs (s.started c)).settle := by
  obtain ⟨⟨-, hqp, haccept, hlive, hslot, hrow⟩, hknown, hform, hadmin⟩ := h
  obtain ⟨q, hq⟩ : ∃ q, s.queue c.qpn c.queue = some q := by
    cases hq : s.queue c.qpn c.queue with
    | none => simp [hq] at hlive
    | some q => exact ⟨q, rfl⟩
  rw [Option.map_eq_some_iff] at hslot
  obtain ⟨x, hx, hfields⟩ := hslot
  simp only [Prod.mk.injEq] at hfields
  obtain ⟨hst, hwait, hbytes⟩ := hfields
  simp only [hq, Option.any_some] at hlive
  have hneeds : (needsAdmin row && !qp.admin) = false := by
    cases hn : needsAdmin row with
    | false => rfl
    | true => simp [hadmin hn]
  unfold State.startCap
  simp only [hqp, hq, hx, hst, hwait, hlive, haccept, hbytes, hrow, hform, hneeds, beq_self_eq_true, Option.isNone_none, Bool.and_self, if_true,
    beq_iff_eq, hknown, Bool.not_true, Bool.false_eq_true, if_false]
  rfl

theorem State.checkKey_of_prot {s t : State} (h : t.prot = s.prot) (qpn pd home : Nat) (k : BitVec 32) (off len right : Nat) (x : Extent) :
    t.checkKey qpn pd home k off len right x = s.checkKey qpn pd home k off len right x := by
  unfold State.checkKey State.findKey State.key State.region
  rw [h]

/-- The protection domain and home set of a key's region; those of the access where it has none. -/
def State.keyPlace (s : State) (e : Key) (pd home : Nat) : Nat × Nat :=
  match s.region e.region with
  | some r => (r.pd, r.home)
  | none => (pd, home)

theorem State.checkKey_none {s : State} {qpn : Nat} {k : BitVec 32} (hf : s.findKey qpn k = none) (pd home off len right : Nat) (x : Extent) :
    s.checkKey qpn pd home k off len right x = .error 1 := by
  unfold State.checkKey
  rw [hf]

/-- The checks of Table 04-2 on a key that is found, for an access to bytes. -/
theorem State.checkKey_some {s : State} {qpn : Nat} {k : BitVec 32} {f : Key} (hf : s.findKey qpn k = some f) (pd home off len right : Nat) :
    s.checkKey qpn pd home k off len right .whole =
      if (s.keyPlace f pd home).1 ≠ pd then .error 2
      else if (s.keyPlace f pd home).2 ≠ home then .error 3
      else if !(decide (f.off ≤ off) && decide (off + len ≤ f.off + f.len)) then .error 4
      else if !(f.rights.getLsbD right) then .error 5
      else .ok f := by
  unfold State.checkKey
  rw [hf]
  rfl

/-- What Table 04-2 asks of an access to bytes. -/
theorem State.checkKey_whole_iff (s : State) (qpn pd home : Nat) (k : BitVec 32) (off len right : Nat) (e : Key) :
    s.checkKey qpn pd home k off len right .whole = .ok e ↔
      s.findKey qpn k = some e ∧ s.keyPlace e pd home = (pd, home) ∧ e.off ≤ off ∧ off + len ≤ e.off + e.len ∧ e.rights.getLsbD right = true := by
  cases hf : s.findKey qpn k with
  | none =>
    rw [checkKey_none hf]
    exact ⟨fun h => (nomatch h), fun h => (nomatch h.1)⟩
  | some f =>
    rw [checkKey_some hf]
    constructor
    · intro h
      split at h
      · cases h
      · next hpd =>
        split at h
        · cases h
        · next hhome =>
          split at h
          · cases h
          · next hrange =>
            split at h
            · cases h
            · next hright =>
              cases h
              have hrange' : e.off ≤ off ∧ off + len ≤ e.off + e.len := by
                simpa only [Bool.not_eq_true', Bool.not_eq_false, Bool.and_eq_true, decide_eq_true_eq] using hrange
              have hright' : e.rights.getLsbD right = true := by
                simpa only [Bool.not_eq_true', Bool.not_eq_false] using hright
              exact ⟨rfl, Prod.ext (Classical.not_not.mp hpd) (Classical.not_not.mp hhome), hrange'.1, hrange'.2, hright'⟩
    · rintro ⟨hfe, hplace, hlo, hhi, hright⟩
      cases hfe
      rw [hplace, if_neg (fun h => h rfl), if_neg (fun h => h rfl), decide_eq_true hlo, decide_eq_true hhi, hright]
      rfl

/-- A key that admits a range admits every part of it (Table 04-2, check 4). -/
theorem State.checkKey_part {s : State} {qpn pd home : Nat} {k : BitVec 32} {off len right : Nat} {e : Key}
    (h : s.checkKey qpn pd home k off len right .whole = .ok e) {off' len' : Nat} (hlo : off ≤ off') (hhi : off' + len' ≤ off + len) :
    s.checkKey qpn pd home k off' len' right .whole = .ok e := by
  rw [checkKey_whole_iff] at h ⊢
  obtain ⟨hf, hplace, hoff, hend, hright⟩ := h
  exact ⟨hf, hplace, by omega, by omega, hright⟩

/-- The key passes, so the capsule goes on. -/
theorem State.capCheck_of_keyOk {s : State} {c : CapRef} {qp : Qp} {key : BitVec 32} {off len right : Nat} {e : Key}
    (h : s.capKeyOk c qp key off len right e) (isTrim : Bool) (go : Key → State → State) :
    (s.started c).capCheck c qp key off len right isTrim go = go e (s.started c) := by
  have hkey : (s.started c).checkKey c.qpn qp.pd qp.home key off len right (if len = 0 then .keyOnly else .whole) = .ok e := h
  unfold State.capCheck
  simp only [hkey]

/-- The task of a capsule's transaction. -/
def capTask (c : CapRef) (qp : Qp) (op : TxnOp) (region addr len : Nat) (key : BitVec 32) : Task :=
  ⟨some c, qp.home, c.qpn, 0, op, region, addr, len, key⟩

theorem State.holdsCap_of_tasked {v : State} {c : CapRef} {qp : Qp} {op : TxnOp} {region addr len : Nat} {key : BitVec 32}
    (h : v.tasked (capTask c qp op region addr len key)) : v.holdsCap c op region addr len := by
  obtain ⟨x, hx, htask, -⟩ := h
  simp only [Txn.task, capTask, Task.mk.injEq] at htask
  obtain ⟨hcap, -, -, -, hop, hregion, haddr, hlen, -⟩ := htask
  exact ⟨x, hx, hcap, hop, hregion, haddr, hlen⟩

/-! ## Segments of a READ (R168) -/

/-- A segment whose key passes is a transaction of its capsule, and changes neither keys nor contexts. -/
theorem State.segTxn_spec {s : State} {c : CapRef} {q : Qp} {key : BitVec 32} {off len right : Nat} {e : Key} (hq : s.qp c.qpn = some q)
    (hkey : s.checkKey c.qpn q.pd q.home key off len right .whole = .ok e) (seg : Nat) (op : TxnOp) :
    (s.segTxn c seg key off len right op).prot = s.prot ∧ (s.segTxn c seg key off len right op).net.qps = s.net.qps ∧
      (s.segTxn c seg key off len right op).tasked (capTask c q op e.region (e.region + off) len key) ∧
      ∀ k, s.tasked k → (s.segTxn c seg key off len right op).tasked k := by
  unfold State.segTxn
  simp only [hq, hkey]
  exact ⟨addTxn_prot s _, addTxn_qps s _, addTxn_tasked s _, fun k hk => addTxn_keeps_tasked hk _⟩

/-- Segment i of a length lies within it. -/
theorem segment_within {len i : Nat} (h : i < segments len) : i * segBytes + segLen len i ≤ len := by
  unfold segments segBytes at h
  unfold segLen segBytes
  omega

/-- The segments of a READ enter the table one by one. -/
def State.readSegs (s : State) (c : CapRef) (key : BitVec 32) (off len n : Nat) : State :=
  (List.range n).foldl (fun s i => s.segTxn c i key (off + i * segBytes) (segLen len i) rRead .read) s

theorem State.readSegs_spec {s : State} {c : CapRef} {q : Qp} {key : BitVec 32} {off len : Nat} {e : Key} (hq : s.qp c.qpn = some q)
    (hkey : s.checkKey c.qpn q.pd q.home key off len rRead .whole = .ok e) (n : Nat) (hn : n ≤ segments len) :
    (s.readSegs c key off len n).prot = s.prot ∧ (s.readSegs c key off len n).net.qps = s.net.qps ∧
      ∀ i, i < n → (s.readSegs c key off len n).tasked (capTask c q .read e.region (e.region + (off + i * segBytes)) (segLen len i) key) := by
  induction n with
  | zero => exact ⟨rfl, rfl, fun i hi => absurd hi (Nat.not_lt_zero i)⟩
  | succ n ih =>
    obtain ⟨hprot, hqps, htasks⟩ := ih (by omega)
    have hq' : (s.readSegs c key off len n).qp c.qpn = some q := by
      unfold State.qp
      rw [hqps]
      exact hq
    have hpart : (s.readSegs c key off len n).checkKey c.qpn q.pd q.home key (off + n * segBytes) (segLen len n) rRead .whole = .ok e := by
      rw [checkKey_of_prot hprot]
      have hin := segment_within (show n < segments len by omega)
      exact checkKey_part hkey (by omega) (by omega)
    have hstep : s.readSegs c key off len (n + 1) = (s.readSegs c key off len n).segTxn c n key (off + n * segBytes) (segLen len n) rRead .read := by
      unfold State.readSegs
      rw [List.range_succ, List.foldl_append]
      rfl
    obtain ⟨hprot', hqps', htask, hkeep⟩ := segTxn_spec hq' hpart n .read
    rw [hstep]
    refine ⟨hprot'.trans hprot, hqps'.trans hqps, fun i hi => ?_⟩
    rcases Nat.lt_succ_iff_lt_or_eq.mp hi with hlt | heq
    · exact hkeep _ (htasks i hlt)
    · rw [heq]
      exact htask

/-! ## Registers that a notification leaves as they were (R175, R176) -/

/-- A frame that leaves counts on its port alone. -/
theorem State.emit_reg (s : State) (o : Out) (a : Nat) (h : ∀ p q len, o.frame = some (p, q, len) → a ≠ Reg.PRT_TX_FRAMES p) :
    (s.emit o).reg a = s.reg a := by
  unfold State.emit
  split
  · next p q len hf =>
    split
    · exact reg_countBy_other s (Reg.PRT_TX_FRAMES p) (s.framesOf q len) a (h p q len hf)
    · rfl
  · rfl

/-- What has no frame counts nowhere. -/
theorem State.emit_regs_signal (s : State) (o : Out) (h : o.frame = none) : (s.emit o).regs = s.regs := by
  unfold State.emit
  rw [h]

theorem State.updLink_regs (s : State) (bulk : Bool) (f : LinkStream → LinkStream) : (s.updLink bulk f).regs = s.regs := by
  unfold State.updLink
  split <;> rfl

/-- Link frames count on no port. -/
theorem State.linkSend_regs (s : State) (bulk : Bool) (len : Nat) (o : Out) (h : o.frame = none) : (s.linkSend bulk len o).regs = s.regs := by
  unfold State.linkSend State.linkPut
  extract_lets x
  split
  · exact updLink_regs s bulk _
  · rw [emit_regs_signal _ _ h, updLink_regs]

/-- A QP sends from one of the eight ports (R80). -/
theorem State.sendPort_lt (s : State) (q : Qp) : s.sendPort q < 8 := by
  unfold State.sendPort
  cases h : s.firstUp (q.port.getD 0) with
  | none => decide
  | some p =>
    have hp := List.mem_of_find?_eq_some h
    rw [List.mem_map] at hp
    obtain ⟨i, -, rfl⟩ := hp
    exact Nat.mod_lt _ (by decide)

theorem State.touchQp_regs (s : State) (n : Nat) : (s.touchQp n).regs = s.regs := by
  unfold State.touchQp
  cases s.qp n <;> rfl

/-- A register that no work on a QP's requests writes: none of the ports' frame counters, TWN_DATA_TX and the two notification
counters. -/
def notNotified (a : Nat) : Prop :=
  (∀ p, p < 8 → a ≠ Reg.PRT_TX_FRAMES p) ∧ a ≠ Reg.TWN_DATA_TX ∧ a ≠ Reg.CQI_NOTIFS ∧ a ≠ Reg.CQI_NQ_LOST

section
variable {a : Nat} (ha : notNotified a)
include ha

theorem State.sendReq_reg (s : State) (n : Nat) (q : Qp) (r : DevReq) : (s.sendReq n q r).reg a = s.reg a := by
  unfold State.sendReq
  split
  · refine emit_reg s _ a (fun p _ _ hf => ?_)
    simp only [Out.frame, Option.some.injEq, Prod.mk.injEq] at hf
    exact ha.1 p (hf.1 ▸ s.sendPort_lt q)
  · refine (reg_of_regs (updQp_regs _ _ _) a).trans (emit_reg s _ a (fun p _ _ hf => ?_))
    simp only [Out.frame, Option.some.injEq, Prod.mk.injEq] at hf
    exact ha.1 p (hf.1 ▸ s.sendPort_lt q)

theorem sendPrefix_reg (s : State) (n : Nat) (q : Qp) (rs : List DevReq) : (sendPrefix s n q rs).1.reg a = s.reg a := by
  induction rs generalizing s with
  | nil => rfl
  | cons r rs ih =>
    unfold sendPrefix
    split
    · exact ih s
    · split
      · rfl
      · exact (ih _).trans (State.sendReq_reg ha s n q r)

theorem State.pumpReqs_reg (s : State) (n : Nat) : (s.pumpReqs n).reg a = s.reg a := by
  unfold State.pumpReqs
  split
  · split
    · exact (reg_of_regs (updQp_regs _ _ _) a).trans (sendPrefix_reg ha _ _ _ _)
    · rfl
  · rfl

theorem State.newReq_reg (s : State) (n : Nat) (kind : ReqKind) (addr : Nat) (key : BitVec 32) (rlen : Nat) (data : List Byte)
    (imm : Option (BitVec 32)) (wait : Option Nat) : (s.newReq n kind addr key rlen data imm wait).reg a = s.reg a := by
  unfold State.newReq
  split
  · extract_lets c r
    rw [pumpReqs_reg ha]
    exact reg_of_regs (touchQp_regs _ n) a
  · rfl

theorem State.sendData_reg (s : State) (h kind qpn : Nat) (psn : Psn) (addr aux : Nat) (key : BitVec 32) (bs : List Byte) (region txn : Nat) :
    (s.sendData h kind qpn psn addr aux key bs region txn).1.reg a = s.reg a := by
  unfold State.sendData
  extract_lets m s1 s2
  have hs2 : s2.reg a = s.reg a :=
    (reg_count_other _ _ _ ha.2.1).trans (reg_of_regs (linkSend_regs _ _ _ _ rfl) a)
  split
  · exact hs2
  · exact hs2

theorem State.sendRec_reg (s : State) (h kind qpn addr aux : Nat) (bs : List Byte) (k : RecKind) :
    (s.sendRec h kind qpn addr aux bs k).1.reg a = s.reg a := by
  unfold State.sendRec
  split
  · extract_lets r
    have hr : r.1.reg a = s.reg a := sendData_reg ha s h kind qpn 0 addr aux 0 bs 0 0
    split
    · exact hr
    · exact hr
  · rfl

theorem State.postEntry_reg (s : State) (n : Nat) (nq : Bool) (queue idx addr : Nat) (entry : List Byte) (imm : Bool) :
    (s.postEntry n nq queue idx addr entry imm).reg a = s.reg a := by
  unfold State.postEntry
  split
  · exact (newReq_reg ha _ _ _ _ _ _ _ _ _).trans (sendRec_reg ha _ _ _ _ _ _ _ _)
  · rfl

theorem State.notify_reg (s : State) (n ring type queue arg0 arg1 key : Nat) : (s.notify n ring type queue arg0 arg1 key).reg a = s.reg a := by
  unfold State.notify
  split
  · extract_lets ring'
    split
    · split
      · extract_lets s1 idx
        split
        · exact (reg_count_other _ _ _ ha.2.2.1).trans (postEntry_reg ha _ _ _ _ _ _ _ _)
        · exact reg_count_other _ _ _ ha.2.2.2
      · rfl
    · rfl
  · rfl

theorem State.redirectKey_reg (s : State) (n : Nat) (qp : Qp) (key : BitVec 32) (cause : Nat) : (s.redirectKey n qp key cause).reg a = s.reg a := by
  unfold State.redirectKey
  split
  · split
    · exact notify_reg ha _ _ _ _ _ _ _ _
    · rfl
  · rfl

end

theorem notNotified_KEY_VIOL_KEY : notNotified Reg.KEY_VIOL_KEY := by
  refine ⟨fun p hp => ?_, by decide, by decide, by decide⟩
  unfold Reg.KEY_VIOL_KEY Reg.PRT_TX_FRAMES
  omega

/-- A key that no valid entry has is counted in KEY_VIOL_KEY (R145). -/
theorem State.violation_reg_key (s : State) (qpn : Nat) (k : BitVec 32) (capsule : Bool) :
    ((s.violation qpn k 1 capsule).reg Reg.KEY_VIOL_KEY).toNat = s.plusOne Reg.KEY_VIOL_KEY := by
  have hcounted : (s.violation qpn k 1 capsule).reg Reg.KEY_VIOL_KEY = (s.count Reg.KEY_VIOL_KEY).reg Reg.KEY_VIOL_KEY := by
    unfold State.violation
    extract_lets s1 s2 s3 held s4
    have h3 : s3.reg Reg.KEY_VIOL_KEY = s1.reg Reg.KEY_VIOL_KEY := by
      simp only [s3, s2, State.putB]
      rw [reg_setReg_other _ _ _ _ (by decide), reg_put_other _ _ _ _ (by decide), reg_put_other _ _ _ _ (by decide),
        reg_put_other _ _ _ _ (by decide)]
    have h4 : s4 = s3 := by simp [s4, held]
    rw [reg_record _ _ _ _ _ _ _ (by decide), h4, h3]
    rfl
  rw [hcounted]
  unfold State.count State.plusOne
  rw [reg_countBy_same, BitVec.toNat_ofNat]
  omega


/-! ## Data capsules (R168 to R170) -/

/-- A READ of some bytes is cut into its segments. -/
theorem State.capRead_of_keyOk {s : State} {c : CapRef} {qp : Qp} {bs : List Byte} {e : Key}
    (h : s.capKeyOk c qp (capKey bs) (capOff bs) (capLen bs) rRead e) (hlen : capLen bs ≠ 0) :
    (s.started c).capRead c qp bs =
      ((s.started c).setSegs c (segments (capLen bs)) (segments (capLen bs))).readSegs c (capKey bs) (capOff bs) (capLen bs) (segments (capLen bs)) := by
  unfold State.capRead
  rw [capCheck_of_keyOk h]
  simp only [hlen, if_false]
  rfl

/-- A ZERO or TRIM that is aligned is one transaction. -/
theorem State.capOne_of_keyOk {s : State} {c : CapRef} {qp : Qp} {bs : List Byte} {e : Key} {align : Nat} (op : TxnOp)
    (hoff : capOff bs % align = 0) (hlen : capLen bs % align = 0) (hpos : capLen bs ≠ 0)
    (h : s.capKeyOk c qp (capKey bs) (capOff bs) (capLen bs) rWrite e) :
    ((s.started c).capOne c qp bs align op).holdsCap c op e.region (e.region + capOff bs) (capLen bs) := by
  unfold State.capOne
  simp only [hoff, hlen, bne_self_eq_false, Bool.or_self, Bool.false_eq_true, if_false, capCheck_of_keyOk h, hpos]
  exact holdsCap_of_tasked (addTxn_tasked _ _)

theorem State.capOne_unaligned (s : State) (c : CapRef) (qp : Qp) {bs : List Byte} {align : Nat} (op : TxnOp)
    (h : capOff bs % align ≠ 0 ∨ capLen bs % align ≠ 0) : s.capOne c qp bs align op = s.failCap c stInvalidField := by
  have hbad : (capOff bs % align != 0 || capLen bs % align != 0) = true := by simpa using h
  unfold State.capOne
  rw [if_pos hbad]

/-- A FLUSH is one transaction of its home set. -/
theorem State.capFlushTxn_spec (s : State) (c : CapRef) (qp : Qp) (deep : Bool) :
    ∃ t ∈ (s.capFlushTxn c qp deep).net.txns, t.cap = some c ∧ t.op = .capFlush deep ∧ t.home = qp.home := by
  obtain ⟨x, hx, htask, -⟩ : (s.capFlushTxn c qp deep).tasked (capTask c qp (.capFlush deep) 0 0 0 0) := addTxn_tasked _ _
  simp only [Txn.task, capTask, Task.mk.injEq] at htask
  exact ⟨x, hx, htask.1, htask.2.2.2.2.1, htask.2.1⟩

/-- Settles O23: the capsule starts, its key passes or fails, and what it then leaves is read off its own definition; the segments of a
READ are an induction on their number. -/
theorem dataCapsulesAreCarriedOut : Obligations.DataCapsulesAreCarriedOut := by
  unfold Obligations.DataCapsulesAreCarriedOut
  refine ⟨?read, ?noKey, ?write, ?copy, ?zero, ?trim, ?flush⟩
  case read =>
    intro s c qp bs e hcap hkey
    have hexec : exec (.capsuleRead c) s = .next ((s.started c).capRead c qp bs).settle := by
      rw [← State.startCap_of_capFor hcap (fun qp bs s => s.capRead c qp bs)]
      exact State.core_of_runs hcap.1.1 _
    constructor
    · intro hlen
      rw [State.capRead_of_keyOk hkey hlen] at hexec
      refine ⟨_, .inl hexec, fun i hi => ?_⟩
      have hwhole : s.checkKey c.qpn qp.pd qp.home (capKey bs) (capOff bs) (capLen bs) rRead .whole = .ok e := by
        unfold State.capKeyOk at hkey
        rwa [if_neg hlen] at hkey
      exact State.holdsCap_of_tasked ((State.readSegs_spec (s := (s.started c).setSegs c _ _) hcap.1.2.1 hwhole _ (Nat.le_refl _)).2.2 i hi)
    · intro hlen
      refine ⟨s.started c, hexec.trans ?_, rfl⟩
      unfold State.capRead
      rw [State.capCheck_of_keyOk hkey]
      simp only [hlen, if_true]
  case noKey =>
    intro s c qp bs hcap hnone
    have hfind : (s.started c).findKey c.qpn (capKey bs) = none := hnone
    have hcheck (x : Extent) : (s.started c).checkKey c.qpn qp.pd qp.home (capKey bs) (capOff bs) (capLen bs) rRead x = .error 1 := by
      unfold State.checkKey
      simp only [hfind]
    refine ⟨((s.started c).redirectKey c.qpn qp (capKey bs) 1).violation c.qpn (capKey bs) 1 true, (capKey bs).toNat, capOff bs, 1, .inl ?_, ?_⟩
    · refine (State.core_of_runs hcap.1.1 _).trans ?_
      rw [State.startCap_of_capFor hcap]
      unfold State.capRead State.capCheck
      simp only [hcheck]
    · refine (State.violation_reg_key _ _ _ _).trans ?_
      unfold State.plusOne
      rw [State.redirectKey_reg notNotified_KEY_VIOL_KEY]
      rfl
  case write =>
    intro s c qp bs e hcap hlen hkey
    refine ⟨_, .inr ((State.core_of_runs hcap.1.1 _).trans ?_), rfl⟩
    rw [State.startCap_of_capFor hcap]
    unfold State.capWrite
    rw [State.capCheck_of_keyOk hkey]
    simp only [hlen, if_false]
  case copy =>
    intro s c qp bs e f hcap hlen hsrc hdst
    refine ⟨_, .inr ((State.core_of_runs hcap.1.1 _).trans ?_), rfl⟩
    rw [State.startCap_of_capFor hcap]
    unfold State.capCopy
    rw [State.capCheck_of_keyOk hsrc, State.capCheck_of_keyOk hdst]
    simp only [hlen, if_false]
  case zero =>
    intro s c qp bs e hcap
    have hexec : exec (.zero c) s = .next ((s.started c).capOne c qp bs 8 .zero).settle.spaceCheck := by
      rw [← State.startCap_of_capFor hcap (fun qp bs s => s.capOne c qp bs 8 .zero)]
      exact State.core_of_runs hcap.1.1 _
    refine ⟨fun hoff hlen hpos hkey => ⟨_, .inr hexec, State.capOne_of_keyOk .zero hoff hlen hpos hkey⟩, fun hbad => ?_⟩
    rw [State.capOne_unaligned _ c qp .zero hbad] at hexec
    exact ⟨s.started c, 0, 0, 0, .inr hexec, rfl⟩
  case trim =>
    intro s c qp bs e hcap
    have hexec : exec (.trim c) s = .next ((s.started c).capOne c qp bs 16384 .trim).settle.spaceCheck := by
      rw [← State.startCap_of_capFor hcap (fun qp bs s => s.capOne c qp bs 16384 .trim)]
      exact State.core_of_runs hcap.1.1 _
    refine ⟨fun hoff hlen hpos hkey => ⟨_, .inr hexec, State.capOne_of_keyOk .trim hoff hlen hpos hkey⟩, fun hbad => ?_⟩
    rw [State.capOne_unaligned _ c qp .trim hbad] at hexec
    exact ⟨s.started c, 0, 0, 0, .inr hexec, rfl⟩
  case flush =>
    intro s c qp bs
    refine ⟨fun hcap => ⟨_, .inl ((State.core_of_runs hcap.1.1 _).trans ?_), (s.started c).capFlushTxn_spec c qp false⟩,
      fun hcap => ⟨_, .inl ((State.core_of_runs hcap.1.1 _).trans ?_), (s.started c).capFlushTxn_spec c qp true⟩⟩
    · rw [State.startCap_of_capFor hcap]
    · rw [State.startCap_of_capFor hcap]

end Sys2Proof.Machine
end

section
/-! ## Folds and byte memories -/

namespace Sys2Proof.Machine

/-- What each step of a fold keeps, the fold keeps. -/
theorem foldl_view {α β : Type} (view : State → β) (g : State → α → State) (l : List α) (s : State) (h : ∀ s a, view (g s a) = view s) :
    view (l.foldl g s) = view s := by
  induction l generalizing s with
  | nil => rfl
  | cons a l ih => exact (ih (g s a)).trans (h s a)

section
variable {α : Type} [DecidableEq α] (d : Nat → α)

/-- Entries set one by one over a map read as their list does, and as the map elsewhere. -/
theorem sget_foldr_sput (l m : List (Nat × α)) (k : Nat) :
    sget d (l.foldr (fun c m => sput d m c.1 c.2) m) k = sget (sget d m) l k := by
  induction l with
  | nil => rfl
  | cons c l ih =>
    obtain ⟨k', v⟩ := c
    rw [List.foldr_cons]
    by_cases hk : k = k'
    · rw [hk, sget_sput_same, sget, if_pos rfl]
    · rw [sget_sput_other d _ _ _ _ hk, ih, sget, if_neg hk]

omit [DecidableEq α] in
/-- Entries kept by their keys read as before; the others read as unlisted. -/
theorem sget_filter (l : List (Nat × α)) (p : Nat → Bool) (k : Nat) :
    sget d (l.filter (fun c => p c.1)) k = if p k then sget d l k else d k := by
  induction l with
  | nil => simp [sget]
  | cons c l ih =>
    obtain ⟨k', v⟩ := c
    by_cases hk : k = k'
    · subst hk
      cases hp : p k with
      | true => simp [hp, sget]
      | false => simpa [hp] using ih
    · cases hp : p k' with
      | true => simpa [hp, sget, hk] using ih
      | false => simpa [hp, sget, hk] using ih

omit [DecidableEq α] in
/-- A map that reads alike where it is unlisted reads alike. -/
theorem sget_congr {d d' : Nat → α} (l : List (Nat × α)) {k : Nat} (h : d k = d' k) : sget d l k = sget d' l k := by
  induction l with
  | nil => exact h
  | cons c l ih =>
    obtain ⟨k', v⟩ := c
    rw [sget, sget, ih]

end

/-- A cleared span reads as unlisted, and the rest as before. -/
theorem memByte_memClear (d : Byte) (m : List Host.Cell) (a n j : Nat) :
    memByte d (memClear m a n) j = if a ≤ j ∧ j < a + n then d else memByte d m j := by
  unfold memByte memClear
  rw [sget_filter (fun _ => d) m (fun k => k < a || a + n ≤ k) j]
  by_cases hin : a ≤ j ∧ j < a + n
  · have hout : (decide (j < a) || decide (a + n ≤ j)) = false := by
      simp only [Bool.or_eq_false_iff, decide_eq_false_iff_not]
      omega
    rw [hout, if_pos hin]
    rfl
  · have hout : (decide (j < a) || decide (a + n ≤ j)) = true := by
      simp only [Bool.or_eq_true, decide_eq_true_eq]
      omega
    rw [hout, if_neg hin]
    rfl

/-- A span cleared and then loaded from the cells of a copy that lie in it: it reads as the copy, and the rest as before. -/
theorem memByte_restore (cells m : List Host.Cell) (a n j : Nat) :
    memByte 0 ((cells.filter (fun c => within a n c.1)).foldr (fun c m => sput (fun _ => 0) m c.1 c.2) (memClear m a n)) j =
      if a ≤ j ∧ j < a + n then memByte 0 cells j else memByte 0 m j := by
  unfold memByte
  rw [sget_foldr_sput, sget_filter _ cells (within a n) j]
  have hclear := memByte_memClear 0 m a n j
  unfold memByte at hclear
  by_cases hin : a ≤ j ∧ j < a + n
  · have hw : within a n j = true := by simpa [within] using hin
    rw [if_pos hin] at hclear
    rw [hw, if_pos hin, if_pos rfl]
    exact sget_congr cells hclear
  · have hw : within a n j = false := by
      simp only [within, Bool.and_eq_false_iff, decide_eq_false_iff_not]
      omega
    rw [if_neg hin] at hclear
    rw [hw, if_neg hin]
    exact hclear

end Sys2Proof.Machine
end

section
/-! ## Pages of the flash tier (R319, R326) -/

namespace Sys2Proof.Machine

theorem State.markBlocks_keeps (s : State) (bs : List Nat) (st : BlkSt) : ((s.markBlocks bs st).tier, (s.markBlocks bs st).regs) = (s.tier, s.regs) :=
  foldl_view (fun s => (s.tier, s.regs)) _ bs s (fun _ _ => rfl)

/-- A superblock that is opened moves only what the flash tier keeps of itself. -/
theorem State.openSb_keeps {s : State} {stream : Nat} {r : State × Nat} (h : s.openSb stream = some r) :
    (r.1.tier, r.1.regs) = (s.tier, s.regs) := by
  unfold State.openSb at h
  split at h
  · next ms _ =>
    rw [Option.some.injEq] at h
    rw [← h]
    have hparity (par : Option Nat) :
        let t := match par with
          | some b => (s.markBlocks ms .opened).markBlocks [b] .parity
          | none => s.markBlocks ms .opened
        (t.tier, t.regs) = (s.tier, s.regs) := by
      cases par with
      | none => exact markBlocks_keeps s ms .opened
      | some b => exact (markBlocks_keeps _ [b] .parity).trans (markBlocks_keeps s ms .opened)
    exact hparity _
  · cases h

theorem State.openNext_keeps (s : State) (stream : Nat) : ((s.openNext stream).tier, (s.openNext stream).regs) = (s.tier, s.regs) := by
  unfold State.openNext
  split
  · split
    · split
      · next r hr => exact openSb_keeps hr
      · rfl
    · rfl
  · rfl

/-- A page handed out touches neither the tiers above nor any register but the cipher's count. -/
theorem State.handPage_keeps {s : State} {quench : Bool} {stream : Nat} {pos : Option Nat} {use : PageUse} {r : State × Nat}
    (h : s.handPage quench stream pos use = some r) : r.1.tier = s.tier ∧ ∀ a, a ≠ Reg.XTS_ENC_UNITS → r.1.reg a = s.reg a := by
  have hhand (s : State) (n : Nat) (x : Sb) (p : Nat) :
      (s.handTo n x p use).1.tier = s.tier ∧ ∀ a, a ≠ Reg.XTS_ENC_UNITS → (s.handTo n x p use).1.reg a = s.reg a :=
    ⟨rfl, fun a ha => reg_countBy_other s Reg.XTS_ENC_UNITS _ a ha⟩
  unfold State.handPage at h
  split at h
  · cases h
  · extract_lets room at h
    split at h
    · next e _ =>
      rw [Option.some.injEq] at h
      rw [← h]
      obtain ⟨htier, hreg⟩ := hhand s e.1 e.2 (pos.getD e.2.least)
      have hnext := openNext_keeps (s.handTo e.1 e.2 (pos.getD e.2.least) use).1 stream
      rw [Prod.mk.injEq] at hnext
      exact ⟨hnext.1.trans htier, fun a ha => (reg_of_regs hnext.2 a).trans (hreg a ha)⟩
    · split at h
      · next o ho =>
        have hopen := openSb_keeps ho
        rw [Prod.mk.injEq] at hopen
        split at h
        · next x _ =>
          rw [Option.some.injEq] at h
          rw [← h]
          obtain ⟨htier, hreg⟩ := hhand o.1 o.2 x (pos.getD x.least)
          exact ⟨htier.trans hopen.1, fun a ha => (hreg a ha).trans (reg_of_regs hopen.2 a)⟩
        · cases h
      · cases h

/-! ## Destage (R68, R69) -/

/-- Lines filled from T2 leave the order stamp and the flash tier, and the frame is still there. -/
theorem State.fillLines_keeps {s : State} {u : Nat} {f : Frame} (hf : s.frame u = some f) (mask : BitVec 256) :
    ((s.fillLines u mask).frame u).isSome = true ∧ (s.fillLines u mask).tier.stamp = s.tier.stamp ∧ (s.fillLines u mask).flash = s.flash := by
  unfold State.fillLines
  simp only [hf]
  refine ⟨?_, ?_, ?_⟩
  · unfold State.frame State.setFrame
    simp only [kget_kput_same, Option.isSome_some]
  · refine foldl_view (fun s => s.tier.stamp) _ _ s (fun s i => ?_)
    split <;> rfl
  · refine foldl_view (fun s => s.flash) _ _ s (fun s i => ?_)
    split <;> rfl

/-- T0 lines cleaned leave the frames, the order stamp and the flash tier. -/
theorem State.cleanUnit_keeps (s : State) (u : Nat) :
    ((s.cleanUnit u).tier.frames, (s.cleanUnit u).tier.stamp, (s.cleanUnit u).flash) = (s.tier.frames, s.tier.stamp, s.flash) := by
  refine foldl_view (fun s => (s.tier.frames, s.tier.stamp, s.flash)) _ _ s (fun s l => ?_)
  unfold State.cleanLine
  split
  · split <;> rfl
  · rfl

/-- A frame for which a page is found is copied: it is clean, its copy waits for its program, and a version is taken. -/
theorem State.copyFrame_spec {s : State} {u : Nat} {f : Frame} {r : State × Nat} (hf : s.frame u = some f)
    (hr : ((s.fillLines u allLines).cleanUnit u).handPage false 0 (some (u % 32)) (.unit u s.flash.version) = some r) :
    ((s.copyFrame false u).frame u).map (fun g => (g.dirty, g.copy)) = some (0, some s.tier.stamp) ∧
      (kget (s.copyFrame false u).flash.prog u).map (fun p => (p.version, p.loc, p.stamp)) = some (s.flash.version, r.2, s.tier.stamp) ∧
      (s.copyFrame false u).flash.version = s.flash.version + 1 := by
  obtain ⟨hsome, hstamp, hflash⟩ := fillLines_keeps hf allLines
  have hclean := cleanUnit_keeps (s.fillLines u allLines) u
  simp only [Prod.mk.injEq] at hclean
  obtain ⟨hframes, hstamp', hflash'⟩ := hclean
  have hversion : ((s.fillLines u allLines).cleanUnit u).flash.version = s.flash.version := by rw [hflash', hflash]
  obtain ⟨g, hg⟩ := Option.isSome_iff_exists.mp hsome
  have hg' : ((s.fillLines u allLines).cleanUnit u).frame u = some g := by
    unfold State.frame
    rw [hframes]
    exact hg
  have hst : r.1.tier.stamp = s.tier.stamp := by rw [(handPage_keeps hr).1, hstamp', hstamp]
  unfold State.copyFrame
  simp only [hversion, hg', hr]
  unfold State.frame State.setFrame
  simp only [kget_kput_same, Option.map_some, hst, and_self]

/-- A verified copy becomes the unit's map entry, T2 holds its bytes, and the copy is gone (R69). -/
theorem State.commitUnit_spec {s : State} {u : Nat} {p : Prog} (h : kget s.flash.prog u = some p) :
    kget (s.commitUnit u).flash.map u = some { phys := p.loc, version := p.version, poison := p.poison } ∧
      kget (s.commitUnit u).flash.prog u = none ∧ (s.commitUnit u).flash.destaged = s.flash.destaged + 16384 ∧
      (∀ a, memByte 0 (s.commitUnit u).flash.t2 a =
        if u * unitBytes ≤ a ∧ a < u * unitBytes + unitBytes then memByte 0 p.cells a else memByte 0 s.flash.t2 a) ∧
      (s.commitUnit u).twin = s.twin := by
  unfold State.commitUnit
  simp only [h]
  exact ⟨kget_kput_same _ _ _, kget_kdel_same _ _, rfl, fun a => memByte_restore p.cells s.flash.t2 _ _ a, rfl⟩

/-! ## Checkpoints and die temperatures (R329, R330) -/

/-- A counter that has counted one, as a number (R129). -/
theorem State.count_toNat {s t : State} {a : Nat} (h : t.reg a = s.reg a) : ((t.count a).reg a).toNat = s.plusOne a := by
  unfold State.count State.plusOne
  rw [reg_countBy_same, h, BitVec.toNat_ofNat]
  omega

/-- A one-bit field that is set to a truth value reads as it. -/
theorem State.on_put_one (s : State) (f : Field) (h : f.lo + f.width ≤ 32) (hw : f.width = 1) : (s.put f 1).on f = true := by
  unfold State.on
  rw [get_put_same _ _ _ h, hw]
  rfl

theorem State.on_put_zero (s : State) (f : Field) (h : f.lo + f.width ≤ 32) : (s.put f 0).on f = false := by
  unfold State.on
  rw [get_put_same _ _ _ h, Nat.zero_mod]
  rfl

theorem State.on_of_reg {s t : State} {f : Field} (h : t.reg f.addr = s.reg f.addr) : t.on f = s.on f := by
  unfold State.on State.get
  rw [h]

theorem State.ckptStart_spec {s : State} (h : s.on Fld.FTL_STATUS_CKPT_BUSY = false) :
    s.ckptStart.on Fld.FTL_STATUS_CKPT_BUSY = true ∧ s.ckptStart.tier = s.tier := by
  unfold State.ckptStart
  rw [if_neg (by simp [h])]
  extract_lets fl s1 s2
  have hbusy : s2.on Fld.FTL_STATUS_CKPT_BUSY = true := on_put_one s1 _ (by decide) rfl
  split
  · next r hr =>
    obtain ⟨htier, hreg⟩ := handPage_keeps hr
    exact ⟨(on_of_reg (hreg _ (by decide))).trans hbusy, htier⟩
  · exact ⟨hbusy, rfl⟩

theorem State.ckptDone_spec (s : State) :
    s.ckptDone.on Fld.FTL_STATUS_CKPT_BUSY = false ∧ (s.ckptDone.reg Reg.FTL_CKPTS).toNat = s.plusOne Reg.FTL_CKPTS := by
  unfold State.ckptDone
  extract_lets fl s1
  constructor
  · rw [on_of_reg (reg_count_other _ _ _ (by decide))]
    exact on_put_zero s1 _ (by decide)
  · exact count_toNat (reg_put_other s1 _ _ _ (by decide))

/-- What the poll of the die temperatures shows in FCH_TEMP moves registers only. -/
theorem State.showTemps_keeps (s : State) (ts : List (Nat × Int)) :
    let t := (List.range 32).foldl (fun s c =>
      match (ts.filter (fun e => e.1 / 128 = c)).map (·.2) with
      | [] => s
      | t :: l => s.put ⟨Reg.FCH_TEMP c, 0, 8⟩ ((l.foldl max t) % 256).toNat) s
    (t.flash, t.tier, t.net) = (s.flash, s.tier, s.net) := by
  refine foldl_view (fun s => (s.flash, s.tier, s.net)) _ _ s (fun s c => ?_)
  split <;> rfl

end Sys2Proof.Machine
end

section
/-! ## Destage, checkpoints, collection and mount (R68, R69, R329, R333, R454, R481) -/

namespace Sys2Proof.Machine

/-- Settles O39: each command's own definition under its condition, and what a copy, its commit and a checkpoint leave. -/
theorem destageCheckpointsAndCollection : Obligations.DestageCheckpointsAndCollection := by
  unfold Obligations.DestageCheckpointsAndCollection
  refine ⟨?lehr, ?verified, ?room, ?media, ?mount⟩
  case lehr =>
    intro s hrun
    refine ⟨fun hno => (State.core_of_runs hrun _).trans ?_, fun e hadmit hp2 hold => (State.core_of_runs hrun _).trans ?_,
      fun u r f hf hr => State.copyFrame_spec hf hr⟩
    · rcases hno with hadmit | hp2 | hnone
      · simp only [hadmit, Bool.not_false, Bool.true_or, if_true]
      · simp only [hp2, decide_true, Bool.or_true, if_true]
      · simp only [hnone, ite_self]
    · simp only [hadmit, hp2, hold, decide_false, Bool.not_true, Bool.or_self, Bool.false_eq_true, if_false]
  case verified =>
    intro s u p hrun hp
    obtain ⟨hmap, hprog, hcount, ht2, htwin⟩ := State.commitUnit_spec hp
    refine ⟨s.commitUnit u, ?_, hmap, hprog, hcount, fun a hlo hhi => ?_, fun a hout => ?_⟩
    · simp only [htwin]
      exact State.core_of_runs hrun _
    · rw [ht2, if_pos ⟨hlo, hhi⟩]
    · rw [ht2, if_neg (by omega)]
  case room =>
    intro s h hrun
    refine ⟨fun haccept => (State.core_of_runs hrun _).trans ?_, fun haccept => (State.core_of_runs hrun _).trans ?_⟩
    · simp only [haccept, if_true]
    · simp only [haccept, Bool.false_eq_true, if_false]
  case media =>
    intro s hrun
    refine ⟨fun hmounted hidle => ?_, fun hno => (State.core_of_runs hrun _).trans ?_, fun hbusy => ?_, fun hidle => (State.core_of_runs hrun _).trans ?_,
      fun e hmounted hidle hadmit hfew hvictim => ?_, fun hno => (State.core_of_runs hrun _).trans ?_, fun ts => ?_⟩
    · refine ⟨s.ckptStart, (State.core_of_runs hrun _).trans ?_, State.ckptStart_spec hidle⟩
      simp only [hmounted, if_true]
    · rcases hno with hun | hbusy
      · simp only [hun, Bool.false_eq_true, if_false]
      · simp only [State.ckptStart, hbusy, if_true, ite_self]
    · refine ⟨s.ckptDone, (State.core_of_runs hrun _).trans ?_, State.ckptDone_spec s⟩
      simp only [hbusy, if_true]
    · simp only [hidle, Bool.false_eq_true, if_false]
    · refine ⟨(s.setSb e.1 { e.2 with st := .collecting }).count Reg.FTL_GC_VICTIMS, (State.core_of_runs hrun _).trans ?_, kget_kput_same _ _ _,
        State.count_toNat rfl⟩
      simp only [hmounted, hidle, hadmit, hfew, hvictim, Bool.not_true, Bool.or_self, Bool.false_eq_true, if_false, if_true]
    · rcases hno with hun | hactive | hadmit
      · simp only [hun, Bool.not_false, Bool.true_or, if_true]
      · simp only [hactive, Bool.true_or, Bool.or_true, if_true]
      · simp only [hadmit, Bool.not_false, Bool.or_true, if_true]
    · refine ⟨_, State.core_of_runs hrun _, ?_⟩
      have hkeeps := State.showTemps_keeps
        { s with flash := { s.flash with temps := ts.foldl (fun m e => kput m (e.1.val * 128 + e.2.1.val) e.2.2) s.flash.temps } }
        (ts.foldl (fun m e => kput m (e.1.val * 128 + e.2.1.val) e.2.2) s.flash.temps)
      simp only [Prod.mk.injEq] at hkeeps
      obtain ⟨hflash, htier, hnet⟩ := hkeeps
      exact ⟨congrArg Flash.temps hflash, htier, hnet⟩
  case mount =>
    intro s torn ms hrun
    have hmount : exec (.mountDone torn ms) s = .next _ := State.core_of_runs hrun _
    have hkeys : exec .keysMissingTimer s = .next _ := State.core_of_runs hrun _
    refine ⟨fun hno => ?_, fun hstep hun hformat => ⟨fun hready => ?_, fun hwait => ?_⟩⟩
    · rw [hmount, hkeys]
      rcases hno with hstep | hmounted
      · simp [hstep]
      · simp [hmounted]
    · rw [hmount, hkeys]
      simp [hstep, hun, hformat, hready]
    · rw [hmount, hkeys]
      simp [hstep, hun, hformat, hwait]

end Sys2Proof.Machine
end

section
/-! ## A DATA frame and the counter of DATA frames (R367)

A port frame that waits on the link leaves when the link's acknowledgement brings credits, and counts on its port. The state below
holds one for a port far beyond the eight, whose counter and status are, by address, TWN_DATA_RX and TWN_STATUS. -/

namespace Sys2Proof.Machine

theorem State.confirmOut_reg (s : State) (h m a : Nat) : (s.confirmOut h m).reg a = s.reg a :=
  reg_of_regs (linkSend_regs s false 16 (.confirm h m 1) rfl) a

/-- An acknowledgement for port 208 waits on the link of a standby. -/
def strayFrame : State :=
  let s : State := { twin := { ({} : Twin) with bulk := { credits := 16384, waiting := [(0, .ack 208 0 0 0)] } } }
  ((s.putB Fld.TWN_STATUS_SIDE_A true).put Fld.TWN_STATUS_ROLE0 2).putB Fld.TWN_STATUS_LINK_UP true

def strayHeader : DataHdr := { qpn := 0, home := 0, mseq := 1 }

def quietEly : Ely := { ackBulk := 0, ackCtl := 0, credBulk := 0, credCtl := 0, replayBulk := false, replayCtl := false }

/-- The number of DATA frames counted once a command has run. -/
def dataRxAfter (i : Instr) (s : State) : Option Nat :=
  match exec i s with
  | .next t => some (t.reg Reg.TWN_DATA_RX).toNat
  | _ => none

theorem dataRxAfter_of_through {i : Instr} {s : State} {h m n : Nat} {P : State → Prop} (ht : Through i s (fun v => v.confirmOut h m) P)
    (hP : ∀ v, P v → (v.reg Reg.TWN_DATA_RX).toNat = n) : dataRxAfter i s = some n := by
  obtain ⟨v, hexec, hv⟩ := ht
  unfold dataRxAfter
  simp only [hexec, State.confirmOut_reg, hP v hv]

/-- The stray frame and the ARM record are both counted. -/
theorem dataRxAfter_strayFrame : dataRxAfter (.dataArm quietEly strayHeader 0) strayFrame = some 2 := by decide +kernel

/-- Refutes O33: the statement takes any state, also one in which a port's frame waits on the link. The acknowledgements of an ARM
record let that frame leave, and its count, for port 208, is by its address TWN_DATA_RX: two are counted where R367 counts one. The
statement has no premise that bounds the ports of the frames that wait; a chip has eight ports, so this state speaks of its words only. -/
theorem not_mirrorFramesAreTakenAndConfirmed : ¬ Obligations.MirrorFramesAreTakenAndConfirmed := by
  unfold Obligations.MirrorFramesAreTakenAndConfirmed
  rintro ⟨-, -, h, -⟩
  obtain ⟨harm, -⟩ := h strayFrame quietEly strayHeader (by decide +kernel) (by decide +kernel) (by decide +kernel)
  have hone : dataRxAfter (.dataArm quietEly strayHeader 0) strayFrame = some 1 :=
    dataRxAfter_of_through (harm 0) fun v hv => hv.2.trans (by decide +kernel)
  rw [dataRxAfter_strayFrame] at hone
  exact absurd hone (by decide)

end Sys2Proof.Machine
end

section
/-! ## Frames of the twin that arrive (R364) -/

namespace Sys2Proof.Machine

/-- A home set's state after one home set's has changed. -/
theorem State.home_updHome (s : State) (h : Nat) (f : HomeSt → HomeSt) {j : Nat} (hj : j < 2) :
    (s.updHome h f).home j = if j = h then f (s.home j) else s.home j := by
  unfold State.updHome State.home setAt
  simp only [List.getD_eq_getElem?_getD, List.getElem?_map, List.getElem?_range hj, Option.map_some, Option.getD_some]

theorem State.home_updHome_self (s : State) (f : HomeSt → HomeSt) {h : Nat} (hh : h < 2) : (s.updHome h f).home h = f (s.home h) := by
  rw [home_updHome s h f hh, if_pos rfl]

/-- A home set without the DELTAs that the partner has still to acknowledge. -/
def HomeSt.aboveLink (y : HomeSt) : HomeSt := { y with deltaSent := [] }

/-- What lies above the link: all that a frame's sequence number, acknowledgements and credits do not reach. -/
structure AboveLink where
  now : Nat
  keys : List (Nat × Key)
  regions : List (Nat × Region)
  net : Net
  cqi : Cqi
  tier : Tier
  flash : Flash
  homes : Fin 2 → HomeSt

def State.aboveLink (s : State) : AboveLink :=
  ⟨s.now, s.prot.keys, s.prot.regions, s.net, s.cqi, s.tier, s.flash, fun h => (s.home h.val).aboveLink⟩

theorem State.updHome_aboveLink (s : State) (h : Nat) (f : HomeSt → HomeSt)
    (hf : ∀ y, (f y).aboveLink = y.aboveLink) : (s.updHome h f).aboveLink = s.aboveLink := by
  unfold State.aboveLink
  congr 1
  funext j
  rw [home_updHome s h f j.isLt]
  split
  · exact hf _
  · rfl

theorem State.updLink_aboveLink (s : State) (bulk : Bool) (f : LinkStream → LinkStream) : (s.updLink bulk f).aboveLink = s.aboveLink := by
  unfold State.updLink
  split <;> rfl

theorem State.emit_aboveLink (s : State) (o : Out) : (s.emit o).aboveLink = s.aboveLink := by
  unfold State.emit
  split
  · split <;> rfl
  · rfl

theorem State.linkPump_aboveLink (s : State) (bulk : Bool) (n : Nat) : (s.linkPump bulk n).aboveLink = s.aboveLink := by
  induction n generalizing s with
  | zero => rfl
  | succ n ih =>
    unfold State.linkPump
    split
    · split
      · rfl
      · unfold State.linkPut
        rw [ih, emit_aboveLink, updLink_aboveLink, updLink_aboveLink]
    · rfl

/-- What the partner's acknowledgement tells of the DELTAs sent: the loop over the home sets in State.linkAck. -/
theorem State.linkAck_aboveLink (s : State) (bulk : Bool) (ack cred : Nat) (again : Bool) : (s.linkAck bulk ack cred again).aboveLink = s.aboveLink := by
  unfold State.linkAck
  extract_lets x s1 n tw s2 s3
  have h2 : s2.aboveLink = s.aboveLink := by
    simp only [s2]
    split
    · exact updLink_aboveLink s bulk _
    · exact updLink_aboveLink s bulk _
  have h3 : s3.aboveLink = s2.aboveLink := by
    simp only [s3]
    split
    · refine foldl_view State.aboveLink _ _ s2 (fun s h => ?_)
      split
      · rfl
      · exact updHome_aboveLink s h _ (fun _ => rfl)
    · rfl
  rw [linkPump_aboveLink, h3, h2]

/-- A register that neither the link nor a wake writes. -/
def offLink (a : Nat) : Prop :=
  (∀ p, a ≠ Reg.PRT_TX_FRAMES p) ∧ a ≠ Reg.TWN_REPLAY ∧ a ≠ Reg.GOV_STATUS ∧ a ≠ Reg.GOV_WAKESRC ∧ a ≠ Reg.GOV_WAKES

section
variable {a : Nat} (ha : offLink a)
include ha

theorem State.linkPump_reg (s : State) (bulk : Bool) (n : Nat) : (s.linkPump bulk n).reg a = s.reg a := by
  induction n generalizing s with
  | zero => rfl
  | succ n ih =>
    unfold State.linkPump
    split
    · split
      · rfl
      · unfold State.linkPut
        rw [ih, emit_reg _ _ a (fun p _ _ _ => ha.1 p), reg_of_regs (updLink_regs _ _ _), reg_of_regs (updLink_regs _ _ _)]
    · rfl

theorem State.linkAck_reg (s : State) (bulk : Bool) (ack cred : Nat) (again : Bool) : (s.linkAck bulk ack cred again).reg a = s.reg a := by
  unfold State.linkAck
  extract_lets x s1 n tw s2 s3
  have h1 : s1.reg a = s.reg a := reg_of_regs (updLink_regs s bulk _) a
  have h2 : s2.reg a = s1.reg a := by
    simp only [s2]
    split
    · exact reg_countBy_other _ _ _ _ ha.2.1
    · rfl
  have h3 : s3.reg a = s2.reg a := by
    simp only [s3]
    split
    · refine foldl_view (fun s => s.reg a) _ _ s2 (fun s h => ?_)
      split <;> rfl
    · rfl
  rw [linkPump_reg ha, h3, h2, h1]

end

/-- The governor's registers once the twin has woken the chip. -/
def State.wokenByTwin (s : State) : State :=
  ((s.setReg Reg.GOV_WAKESRC (BitVec.ofNat 32 2)).count Reg.GOV_WAKES).put Fld.GOV_STATUS_EXITING 1

theorem State.wokenByTwin_eq (s : State) : s.wokenByTwin = { s with regs := s.wokenByTwin.regs } := rfl

theorem State.wokenByTwin_reg {a : Nat} (ha : offLink a) (s : State) : s.wokenByTwin.reg a = s.reg a := by
  obtain ⟨-, -, hstatus, hsrc, hwakes⟩ := ha
  exact (reg_put_other _ _ _ _ hstatus).trans ((reg_count_other _ _ _ hwakes).trans (reg_setReg_other _ _ _ _ hsrc))

/-- A wake by the twin moves the governor's state and registers only (R463). -/
theorem State.wake_twin_cases (s : State) : ∃ g : Gov, s.wake 2 = { s with gov := g } ∨ s.wake 2 = { s.wokenByTwin with gov := g } := by
  unfold State.wake
  extract_lets
  split
  · exact ⟨s.gov, .inl rfl⟩
  · split
    · split
      · exact ⟨s.gov, .inl rfl⟩
      · exact ⟨{ s.gov with wakeDue := true, wake := 2 }, .inl rfl⟩
    · split
      · exact ⟨{ s.gov with wake := 2 }, .inr rfl⟩
      · exact ⟨s.gov, .inl rfl⟩

theorem State.wake_twin_reg {a : Nat} (ha : offLink a) (s : State) : (s.wake 2).reg a = s.reg a := by
  obtain ⟨g, h | h⟩ := wake_twin_cases s
  · rw [h]
    exact reg_of_regs rfl a
  · rw [h]
    exact (reg_of_regs rfl a).trans (wokenByTwin_reg ha s)

theorem State.wake_twin_aboveLink (s : State) : (s.wake 2).aboveLink = s.aboveLink := by
  obtain ⟨g, h | h⟩ := wake_twin_cases s
  · rw [h]
    rfl
  · rw [h, wokenByTwin_eq]
    rfl

/-- The state once the link has taken a frame. -/
def State.received (s : State) (x : Ely) (bulk : Bool) : State :=
  (((s.updLink bulk (fun y => { y with rxSeq := y.rxSeq + 1 })).linkAck true x.ackBulk x.credBulk x.replayBulk).linkAck false x.ackCtl x.credCtl
    x.replayCtl)

/-- The state once a frame has woken the chip. -/
def State.arrived (s : State) (x : Ely) : State := (s.received x true).wake 2

theorem State.twinIn_of_up {s : State} (hup : s.elytraUp = true) (hstill : s.still = false) (x : Ely) (bulk : Bool) (go : State → State) :
    s.twinIn x bulk go = go (s.received x bulk) := by
  unfold State.twinIn
  simp only [hup, hstill, Bool.not_true, Bool.or_self, Bool.false_eq_true, if_false]
  rfl

theorem State.twinWakeIn_of_up {s : State} (hup : s.elytraUp = true) (hstill : s.still = false) (x : Ely) (go : State → State) :
    s.twinWakeIn x go = go (s.arrived x) := twinIn_of_up hup hstill x true _

theorem State.received_aboveLink (s : State) (x : Ely) (bulk : Bool) : (s.received x bulk).aboveLink = s.aboveLink := by
  unfold State.received
  rw [linkAck_aboveLink, linkAck_aboveLink, updLink_aboveLink]

theorem State.arrived_aboveLink (s : State) (x : Ely) : (s.arrived x).aboveLink = s.aboveLink :=
  (wake_twin_aboveLink _).trans (received_aboveLink s x true)

theorem State.received_reg {a : Nat} (ha : offLink a) (s : State) (x : Ely) (bulk : Bool) : (s.received x bulk).reg a = s.reg a := by
  unfold State.received
  rw [linkAck_reg ha, linkAck_reg ha, reg_of_regs (updLink_regs _ _ _)]

theorem State.arrived_reg {a : Nat} (ha : offLink a) (s : State) (x : Ely) : (s.arrived x).reg a = s.reg a :=
  (wake_twin_reg ha _).trans (received_reg ha s x true)

/-- Frame counters stand at 0x104 in blocks of 0x2000 registers; a register elsewhere in its block is none of them. -/
theorem ne_frameCounter {a : Nat} (h : a % 0x2000 ≠ 0x104) (p : Nat) : a ≠ Reg.PRT_TX_FRAMES p := by
  unfold Reg.PRT_TX_FRAMES
  omega

theorem offLink_TWN_STATUS : offLink Reg.TWN_STATUS :=
  ⟨ne_frameCounter (by decide), by decide, by decide, by decide, by decide⟩

theorem offLink_CFL_BOOTINFO : offLink Reg.CFL_BOOTINFO :=
  ⟨ne_frameCounter (by decide), by decide, by decide, by decide, by decide⟩

/-- Roles, pair states and start-up steps follow their registers. -/
theorem State.get_of_reg {s t : State} {f : Field} (h : t.reg f.addr = s.reg f.addr) : t.get f = s.get f := by
  unfold State.get
  rw [h]

theorem State.role_of_reg {s t : State} (h : t.reg Reg.TWN_STATUS = s.reg Reg.TWN_STATUS) (n : Nat) : t.role n = s.role n := by
  unfold State.role roleField
  split
  · exact get_of_reg h
  · exact get_of_reg h

theorem State.pairState_of_reg {s t : State} (h : t.reg Reg.TWN_STATUS = s.reg Reg.TWN_STATUS) (n : Nat) : t.pairState n = s.pairState n := by
  unfold State.pairState stateField
  split
  · exact get_of_reg h
  · exact get_of_reg h

end Sys2Proof.Machine
end

section
/-! ## DELTAs, STATE images and pieces that a standby or a joining chip takes (R370 to R388) -/

namespace Sys2Proof.Machine

/-! ### The entries of a DELTA write no register but TWN_HEALTH -/

theorem State.touchQp_reg (s : State) (n a : Nat) : (s.touchQp n).reg a = s.reg a :=
  reg_of_regs (touchQp_regs s n) a

theorem State.freeQp_reg (s : State) (n a : Nat) : (s.freeQp n).reg a = s.reg a := by
  unfold State.freeQp
  split
  · extract_lets s1 s2
    split
    · exact touchQp_reg s n a
    · exact touchQp_reg s n a
  · rfl

theorem State.applyQp_reg (s : State) (h : Nat) (e : QpEntry) (a : Nat) : (s.applyQp h e).reg a = s.reg a := by
  unfold State.applyQp
  extract_lets n old s1
  split
  · exact freeQp_reg s n a
  · rfl

theorem State.applyEntry_reg (s : State) (h : Nat) (e : DeltaEntry) {a : Nat} (ha : a ≠ Reg.TWN_HEALTH) : (s.applyEntry h e).reg a = s.reg a := by
  cases e with
  | qp e => exact applyQp_reg s h e a
  | filter qpn ranges => rfl
  | key index tag region off len rights valid => rfl
  | region gone r =>
    simp only [State.applyEntry]
    split
    · split
      · rfl
      · rfl
    · rfl
  | dirty units =>
    simp only [State.applyEntry]
    split
    · exact reg_setReg_other s _ _ _ ha
    · exact reg_setReg_other s _ _ _ ha
  | config epoch pairs => rfl
  | disarm bases => exact foldl_view (fun s => s.reg a) _ bases s (fun _ _ => rfl)
  | queue qpn queue st tail cursor => rfl

theorem State.applyEntries_reg (s : State) (h : Nat) (es : List DeltaEntry) {a : Nat} (ha : a ≠ Reg.TWN_HEALTH) :
    (es.foldl (fun w e => w.applyEntry h e) s).reg a = s.reg a :=
  foldl_view (fun s => s.reg a) _ es s (fun s e => applyEntry_reg s h e ha)

/-! ### The state once a DELTA's entries and numbers are noted (R370 to R373) -/

/-- The home set with the DELTA's epoch and digest. -/
def HomeSt.withDelta (y : HomeSt) (ep dg : BitVec 64) (fin : Bool) : HomeSt :=
  { y with epoch := ep.toNat + 1, deltaEpoch := ep.toNat, digest := dg, compared := ep.toNat, final := fin, respSum := 0 }

def State.noteDelta (w : State) (h : Nat) (ok : Bool) (ep dg : BitVec 64) (tm : BitVec 32) (fin : Bool) : State :=
  ((w.setRegBit Reg.TWN_HEALTH 0 (!ok)).setReg (Reg.TWN_TERM h) tm).updHome h (fun y => y.withDelta ep dg fin)

/-- What a noted DELTA leads to: a FINAL one claims the token, and one that starts or ends lockstep moves a joining chip. -/
def State.deltaActs (n : State) (h : Nat) (fin lock : Bool) : State :=
  if fin then
    if ((n.volatileLost h false).home h).inRel then (n.volatileLost h false).claimToken h .handover
    else (n.volatileLost h false).updHome h (fun y => { y with claim := some .handover })
  else if n.role h = 3 && n.pairState h = 1 && (n.home h).copied then n.setPair h 2
  else if n.role h = 3 && n.pairState h = 2 && !lock then
    (((n.setRole h 2).setPair h 3).standWrite h 3 false).record .twnPaired (unitHome h)
  else n

section
variable (w : State) (h : Nat) (ok fin : Bool) (ep dg : BitVec 64) (tm : BitVec 32)

theorem State.noteDelta_reg {a : Nat} (hh : a ≠ Reg.TWN_HEALTH) (ht : a ≠ Reg.TWN_TERM h) : (w.noteDelta h ok ep dg tm fin).reg a = w.reg a :=
  (reg_setReg_other _ _ _ _ ht).trans (reg_setReg_other _ _ _ _ hh)

theorem State.noteDelta_term : (w.noteDelta h ok ep dg tm fin).term h = tm.toNat :=
  congrArg BitVec.toNat (reg_setReg_same (w.setRegBit Reg.TWN_HEALTH 0 (!ok)) (Reg.TWN_TERM h) tm)

theorem State.noteDelta_home (hh : h < 2) : (w.noteDelta h ok ep dg tm fin).home h = (w.home h).withDelta ep dg fin :=
  home_updHome_self _ _ hh

end

/-- The state in which the link has taken a DELTA and its entries and numbers are noted. -/
def State.tookDelta (s : State) (x : Ely) (h : Nat) (ok : Bool) (ep dg : BitVec 64) (tm : BitVec 32) (fin : Bool) (es : List DeltaEntry) : State :=
  (es.foldl (fun w e => w.applyEntry h e) (s.received x true)).noteDelta h ok ep dg tm fin

section
variable (s : State) (x : Ely) (h : Nat) (ok fin : Bool) (ep dg : BitVec 64) (tm : BitVec 32) (es : List DeltaEntry)

theorem State.tookDelta_reg {a : Nat} (ha : offLink a) (hh : a ≠ Reg.TWN_HEALTH) (ht : a ≠ Reg.TWN_TERM h) :
    (s.tookDelta x h ok ep dg tm fin es).reg a = s.reg a :=
  (noteDelta_reg _ h ok fin ep dg tm hh ht).trans ((applyEntries_reg _ h es hh).trans (received_reg ha s x true))

theorem State.tookDelta_status : (s.tookDelta x h ok ep dg tm fin es).reg Reg.TWN_STATUS = s.reg Reg.TWN_STATUS :=
  tookDelta_reg s x h ok fin ep dg tm es offLink_TWN_STATUS (by decide) (by unfold Reg.TWN_STATUS Reg.TWN_TERM; omega)

theorem State.tookDelta_step : (s.tookDelta x h ok ep dg tm fin es).get Fld.CFL_BOOTINFO_STEP = s.get Fld.CFL_BOOTINFO_STEP :=
  get_of_reg (tookDelta_reg s x h ok fin ep dg tm es offLink_CFL_BOOTINFO (by decide) (by
    show Reg.CFL_BOOTINFO ≠ Reg.TWN_TERM h
    unfold Reg.CFL_BOOTINFO Reg.TWN_TERM
    omega))

end

theorem State.mirrorSide_of_reg {s t : State} (hreg : t.reg Reg.TWN_STATUS = s.reg Reg.TWN_STATUS) (h : Nat) : t.mirrorSide h = s.mirrorSide h := by
  unfold State.mirrorSide
  rw [role_of_reg hreg]

/-- A DELTA of a home set that the chip stands by for or joins. -/
theorem exec_delta_of_mirrorSide {s : State} {h : Fin 2} (hup : s.elytraUp = true) (hstill : s.still = false) (hside : s.mirrorSide h.val = true)
    (x : Ely) (ep m dg : BitVec 64) (tm : BitVec 32) (fin lock : Bool) (es : List DeltaEntry) :
    ∃ ok, exec (.delta x h ep tm fin lock m dg es) s =
      .next ((s.tookDelta x h.val ok ep dg tm fin es).deltaActs h.val fin lock) := by
  have hside' : (s.received x true).mirrorSide h.val = true :=
    (State.mirrorSide_of_reg (State.received_reg offLink_TWN_STATUS s x true) h.val).trans hside
  refine ⟨decide ((es.foldl (fun w e => w.applyEntry h.val e) (s.received x true)).ownDigest h.val es m.toNat lock = dg.toNat), ?_⟩
  exact congrArg Host.Outcome.next ((State.twinIn_of_up hup hstill x true _).trans (if_neg (by rw [hside']; decide)))

theorem State.deltaActs_of_standby {n : State} {h : Nat} (hrole : n.role h = 2) (lock : Bool) : n.deltaActs h false lock = n := by
  unfold State.deltaActs
  simp [hrole]

theorem State.volatileLost_twin (s : State) (h : Nat) : (s.volatileLost h false).twin = s.twin :=
  foldl_view (fun s => s.twin) _ _ s (fun _ _ => rfl)

theorem State.volatileLost_regs (s : State) (h : Nat) : (s.volatileLost h false).regs = s.regs :=
  foldl_view (fun s => s.regs) _ _ s (fun _ _ => rfl)

theorem State.home_of_twin {s t : State} (h : t.twin = s.twin) (n : Nat) : t.home n = s.home n := by
  unfold State.home
  rw [h]

theorem State.term_of_regs {s t : State} (h : t.regs = s.regs) (n : Nat) : t.term n = s.term n :=
  congrArg BitVec.toNat (reg_of_regs h _)

/-- A FINAL DELTA claims the token, at once outside a relation. -/
theorem State.deltaActs_final {n : State} {h : Nat} (hh : h < 2) (hrel : (n.home h).inRel = false) (lock : Bool) :
    ((n.deltaActs h true lock).home h = { n.home h with claim := some .handover }) ∧ (n.deltaActs h true lock).term h = n.term h := by
  have hhome : (n.volatileLost h false).home h = n.home h := home_of_twin (volatileLost_twin n h) h
  have hacts : n.deltaActs h true lock = (n.volatileLost h false).updHome h (fun y => { y with claim := some .handover }) := by
    unfold State.deltaActs
    rw [if_pos rfl, hhome, hrel]
    rfl
  rw [hacts]
  exact ⟨(home_updHome_self _ _ hh).trans (by rw [hhome]), term_of_regs (volatileLost_regs n h) h⟩

/-- Start-up goes on from step 9 only. -/
theorem State.startup_of_step {s : State} (h : s.get Fld.CFL_BOOTINFO_STEP ≠ 9) : s.startup = s := by
  unfold State.startup
  simp [h]

/-- A home set's role and state are fields apart in TWN_STATUS (Table 11-15). -/
theorem roleField_stateField (h : Nat) : (roleField h).addr = Reg.TWN_STATUS ∧ (stateField h).addr = Reg.TWN_STATUS ∧
    (roleField h).width = 2 ∧ (stateField h).width = 3 ∧ (roleField h).lo + 2 ≤ (stateField h).lo ∧ (stateField h).lo + 3 ≤ 32 := by
  unfold roleField stateField
  split
  · decide
  · decide

/-- Away from start-up step 9, a role and a pair state that are set read as set. -/
theorem State.setPair_setRole {n : State} {h r p : Nat} (hr : r < 4) (hp : p < 8) (hstep : n.get Fld.CFL_BOOTINFO_STEP ≠ 9) :
    ((n.setRole h r).setPair h p).role h = r ∧ ((n.setRole h r).setPair h p).pairState h = p := by
  obtain ⟨hra, hsa, hrw, hsw, hapart, hlo⟩ := roleField_stateField h
  have hne : Fld.CFL_BOOTINFO_STEP.addr ≠ Reg.TWN_STATUS := by decide
  have hstep1 : (n.put (roleField h) r).get Fld.CFL_BOOTINFO_STEP ≠ 9 := by
    rw [get_put_reg _ _ _ _ (by rw [hra]; exact hne)]
    exact hstep
  have hstep2 : ((n.put (roleField h) r).put (stateField h) p).get Fld.CFL_BOOTINFO_STEP ≠ 9 := by
    rw [get_put_reg _ _ _ _ (by rw [hsa]; exact hne)]
    exact hstep1
  have heq : (n.setRole h r).setPair h p = (n.put (roleField h) r).put (stateField h) p := by
    unfold State.setPair State.setRole
    rw [startup_of_step hstep1, startup_of_step hstep2]
  rw [heq]
  constructor
  · show State.get _ (roleField h) = r
    rw [get_put_field _ _ _ _ (hra.trans hsa.symm) (by omega) (.inl (by omega)), get_put_same _ _ _ (by omega), hrw]
    exact Nat.mod_eq_of_lt hr
  · show State.get _ (stateField h) = p
    rw [get_put_same _ _ _ (by omega), hsw]
    exact Nat.mod_eq_of_lt hp

/-- The first DELTA without LOCKSTEP makes a joining chip a standby, and the pair PAIRED (R388). -/
theorem State.deltaActs_admits {n : State} {h : Nat} (hh : h < 2) (hrole : n.role h = 3) (hpair : n.pairState h = 2)
    (hstep : n.get Fld.CFL_BOOTINFO_STEP ≠ 9) :
    (n.deltaActs h false false).role h = 2 ∧ (n.deltaActs h false false).pairState h = 3 ∧ ((n.deltaActs h false false).home h).srRole = 3 := by
  have hacts : n.deltaActs h false false = (((n.setRole h 2).setPair h 3).standWrite h 3 false).record .twnPaired (unitHome h) := by
    unfold State.deltaActs
    simp [hrole, hpair]
  have hreg : (n.deltaActs h false false).reg Reg.TWN_STATUS = ((n.setRole h 2).setPair h 3).reg Reg.TWN_STATUS := by
    rw [hacts]
    exact reg_record _ _ _ _ _ _ _ (by decide)
  obtain ⟨hrole', hpair'⟩ := setPair_setRole (h := h) (show 2 < 4 by decide) (show 3 < 8 by decide) hstep
  refine ⟨(role_of_reg hreg h).trans hrole', (pairState_of_reg hreg h).trans hpair', ?_⟩
  rw [hacts, home_of_twin (record_twin _ _ _ _ _ _)]
  exact congrArg HomeSt.srRole (home_updHome_self _ _ hh)

end Sys2Proof.Machine
end

section
/-! ## What a DELTA, a resynchronisation and a lockstep frame move (R370 to R391) -/

namespace Sys2Proof.Machine

/-- Each part of a home set but the DELTAs sent is above the link. -/
theorem State.homePart_of_aboveLink {α : Type} {s t : State} (part : HomeSt → α) (hpart : ∀ y, part y.aboveLink = part y)
    (h : t.aboveLink = s.aboveLink) (j : Fin 2) : part (t.home j.val) = part (s.home j.val) := by
  have hhome : (t.home j.val).aboveLink = (s.home j.val).aboveLink := congrFun (congrArg AboveLink.homes h) j
  rw [← hpart, hhome, hpart]

theorem State.acts_of_aboveLink {s t : State} (h : t.aboveLink = s.aboveLink) (j : Fin 2) : t.acts j.val = s.acts j.val := by
  have htoken := homePart_of_aboveLink HomeSt.token (fun _ => rfl) h j
  have hlease := homePart_of_aboveLink HomeSt.lease (fun _ => rfl) h j
  have hend := homePart_of_aboveLink HomeSt.leaseEnd (fun _ => rfl) h j
  have hnow : t.now = s.now := congrArg AboveLink.now h
  unfold State.acts
  simp only [htoken, hlease, hend, hnow]

theorem State.shadow_of_reg {s t : State} (hreg : t.reg Reg.TWN_STATUS = s.reg Reg.TWN_STATUS) (h : Nat) : t.shadow h = s.shadow h := by
  unfold State.shadow
  rw [role_of_reg hreg, pairState_of_reg hreg]

/-- Egress is suppressed for a home set that the chip only shadows (R387). -/
theorem State.quiet_of_shadow {u : State} {h : Nat} (hshadow : u.shadow h = true) (hacts : u.acts h = false) (f : State → State) :
    (u.quiet h f).out = u.out ∧ (u.quiet h f).tier = (f u).tier ∧ (u.quiet h f).net = (f u).net := by
  have hquiet : u.quiet h f = (List.range 8).foldl
      (fun (r : State) p => r.setReg (Reg.PRT_TX_FRAMES p) (u.reg (Reg.PRT_TX_FRAMES p))) { f u with out := u.out } := by
    unfold State.quiet
    simp only [hshadow, hacts, Bool.not_false, Bool.and_self, if_true]
  rw [hquiet]
  exact ⟨foldl_view (fun s => s.out) _ _ _ (fun _ _ => rfl), foldl_view (fun s => s.tier) _ _ _ (fun _ _ => rfl),
    foldl_view (fun s => s.net) _ _ _ (fun _ _ => rfl)⟩

/-- A frame is taken or, on a link that is down or a chip held still, has no effect. -/
theorem State.twinWakeIn_cases (s : State) (x : Ely) (go : State → State) : s.twinWakeIn x go = s ∨ s.twinWakeIn x go = go (s.arrived x) := by
  unfold State.twinWakeIn State.twinIn
  split
  · exact .inl rfl
  · exact .inr rfl

/-! ### DELTA -/

/-- Any but a FINAL DELTA leaves a standby as it is, apart from what it notes. -/
theorem exec_delta_of_standby {s : State} {h : Fin 2} (hup : s.elytraUp = true) (hstill : s.still = false) (hside : s.mirrorSide h.val = true)
    (hrole : s.role h.val = 2) (x : Ely) (ep m dg : BitVec 64) (tm : BitVec 32) (lock : Bool)
    (es : List DeltaEntry) : ∃ ok, exec (.delta x h ep tm false lock m dg es) s = .next (s.tookDelta x h.val ok ep dg tm false es) := by
  obtain ⟨ok, hexec⟩ := exec_delta_of_mirrorSide hup hstill hside x ep m dg tm false lock es
  refine ⟨ok, hexec.trans (congrArg _ (State.deltaActs_of_standby ?_ lock))⟩
  exact (State.role_of_reg (s.tookDelta_status x h.val ok false ep dg tm es) h.val).trans hrole

section
variable (s : State) (x : Ely) (h : Fin 2) (ok fin : Bool) (ep dg : BitVec 64) (tm : BitVec 32)

theorem State.tookDelta_home : (s.tookDelta x h.val ok ep dg tm fin []).home h.val = ((s.received x true).home h.val).withDelta ep dg fin :=
  noteDelta_home _ h.val ok fin ep dg tm h.isLt

theorem State.tookDelta_inRel : ((s.tookDelta x h.val ok ep dg tm fin []).home h.val).inRel = (s.home h.val).inRel := by
  rw [tookDelta_home]
  exact homePart_of_aboveLink HomeSt.inRel (fun _ => rfl) (received_aboveLink s x true) h

end

section
variable {s : State} {h : Fin 2} (hup : s.elytraUp = true) (hstill : s.still = false) (hside : s.mirrorSide h.val = true) (x : Ely)
  (ep m dg : BitVec 64) (tm : BitVec 32) (lock : Bool)
include hup hstill hside

/-- A standby applies the entries to what the link left (R370, R371). -/
theorem delta_applies (hrole : s.role h.val = 2) (es : List DeltaEntry) :
    Leads (.delta x h ep tm false lock m dg es) s (fun t => ∃ u : State, u.prot.keys = s.prot.keys ∧ u.prot.regions = s.prot.regions ∧
      u.net.qps = s.net.qps ∧ u.cqi = s.cqi ∧ u.tier = s.tier ∧ t.prot = (es.foldl (fun w e => w.applyEntry h.val e) u).prot ∧
      t.cqi = (es.foldl (fun w e => w.applyEntry h.val e) u).cqi) := by
  have habove := State.received_aboveLink s x true
  obtain ⟨ok, hexec⟩ := exec_delta_of_standby hup hstill hside hrole x ep m dg tm lock es
  exact ⟨_, hexec, s.received x true, congrArg AboveLink.keys habove, congrArg AboveLink.regions habove,
    congrArg (fun a => a.net.qps) habove, congrArg AboveLink.cqi habove, congrArg AboveLink.tier habove, rfl, rfl⟩

/-- A FINAL DELTA claims the token (R391). -/
theorem delta_final (hrel : (s.home h.val).inRel = false) :
    Leads (.delta x h ep tm true lock m dg []) s (fun t => (t.home h.val).final = true ∧ (t.home h.val).epoch = ep.toNat + 1 ∧
      (t.home h.val).deltaEpoch = ep.toNat ∧ (t.home h.val).claim = some .handover ∧ t.term h.val = tm.toNat) := by
  obtain ⟨ok, hexec⟩ := exec_delta_of_mirrorSide hup hstill hside x ep m dg tm true lock []
  obtain ⟨hhome, hterm⟩ := State.deltaActs_final h.isLt ((s.tookDelta_inRel x h ok true ep dg tm).trans hrel) lock
  refine ⟨_, hexec, ?_⟩
  dsimp only
  rw [hhome, hterm, State.tookDelta_home]
  exact ⟨rfl, rfl, rfl, rfl, State.noteDelta_term _ h.val ok true ep dg tm⟩

/-- A standby notes the epoch, the digest and the term (R372, R373). -/
theorem delta_noted (hrole : s.role h.val = 2) :
    Leads (.delta x h ep tm false lock m dg []) s (fun t => (t.home h.val).epoch = ep.toNat + 1 ∧ (t.home h.val).compared = ep.toNat ∧
      (t.home h.val).digest = dg ∧ t.term h.val = tm.toNat ∧ t.role h.val = 2) := by
  obtain ⟨ok, hexec⟩ := exec_delta_of_standby hup hstill hside hrole x ep m dg tm lock []
  refine ⟨_, hexec, ?_⟩
  dsimp only
  rw [State.tookDelta_home]
  exact ⟨rfl, rfl, rfl, State.noteDelta_term _ h.val ok false ep dg tm,
    (State.role_of_reg (s.tookDelta_status x h.val ok false ep dg tm []) h.val).trans hrole⟩

/-- The first DELTA without LOCKSTEP admits a joining chip (R388). -/
theorem delta_admits (hrole : s.role h.val = 3) (hpair : s.pairState h.val = 2) (hstep : s.get Fld.CFL_BOOTINFO_STEP ≠ 9) :
    Leads (.delta x h ep tm false false m dg []) s
      (fun t => t.role h.val = 2 ∧ t.pairState h.val = 3 ∧ (t.home h.val).srRole = 3) := by
  obtain ⟨ok, hexec⟩ := exec_delta_of_mirrorSide hup hstill hside x ep m dg tm false false []
  have hstatus := s.tookDelta_status x h.val ok false ep dg tm []
  exact ⟨_, hexec, State.deltaActs_admits h.isLt ((State.role_of_reg hstatus h.val).trans hrole)
    ((State.pairState_of_reg hstatus h.val).trans hpair) (by rwa [State.tookDelta_step])⟩

end

/-! ### STATE, PIECE, DONE and lockstep -/

/-- A frame that only a joining chip takes. -/
theorem State.twinWakeIn_of_joining {s : State} {h : Nat} (hup : s.elytraUp = true) (hstill : s.still = false) (hrole : s.role h = 3) (x : Ely)
    (go : State → State) : s.twinWakeIn x (fun s => if s.role h = 3 then go s else s) = go (s.arrived x) :=
  (twinWakeIn_of_up hup hstill x _).trans (if_pos ((role_of_reg (arrived_reg offLink_TWN_STATUS s x) h).trans hrole))

/-- The state that executes a copy of an ingress frame: the frame's number is noted (R387). -/
def State.inLockstep (s : State) (x : Ely) (h n : Nat) : State := (s.arrived x).updHome h (fun y => { y with inseq := n })

theorem State.inLockstep_net (s : State) (x : Ely) (h n : Nat) : (s.inLockstep x h n).net = s.net :=
  congrArg AboveLink.net (arrived_aboveLink s x)

theorem State.inLockstep_shadow (s : State) (x : Ely) (h n : Nat) : (s.inLockstep x h n).shadow h = s.shadow h :=
  shadow_of_reg (arrived_reg offLink_TWN_STATUS s x) h

theorem State.inLockstep_acts (s : State) (x : Ely) (h : Fin 2) (n : Nat) : (s.inLockstep x h.val n).acts h.val = s.acts h.val := by
  refine Eq.trans ?_ (acts_of_aboveLink (arrived_aboveLink s x) h)
  unfold State.acts State.inLockstep
  rw [home_updHome_self _ _ h.isLt]
  rfl

/-- A copy of an ingress frame of the shadowed slice is executed. -/
theorem exec_lockstepIngress_of_shadow {s : State} {x : Ely} {h : Fin 2} {n : Nat} {slice : Fin 8} {p : Pkt} {req : Req} {q : Qp}
    (hup : s.elytraUp = true) (hstill : s.still = false) (hshadow : s.shadow h.val = true) (hslice : s.sliceOf p.qpn.toNat = slice.val)
    (hq : s.qp p.qpn.toNat = some q) : ∃ f : State → State, f (s.inLockstep x h.val n) = ((s.inLockstep x h.val n).stage2 p req).settle ∧
      exec (.lockstepIngress x h n slice p req) s = .next ((s.inLockstep x h.val n).quiet h.val f) := by
  have hnet : (s.arrived x).net = s.net := congrArg AboveLink.net (State.arrived_aboveLink s x)
  have hshadow' : (s.arrived x).shadow h.val = true := (State.shadow_of_reg (State.arrived_reg offLink_TWN_STATUS s x) h.val).trans hshadow
  have hslice' : (s.arrived x).sliceOf p.qpn.toNat = slice.val := by
    unfold State.sliceOf at hslice ⊢
    rw [hnet]
    exact hslice
  have hq' : (s.inLockstep x h.val n).qp p.qpn.toNat = some q := by
    unfold State.qp at hq ⊢
    rw [State.inLockstep_net]
    exact hq
  refine ⟨_, ?_, congrArg Host.Outcome.next ((State.twinWakeIn_of_up hup hstill x _).trans (if_pos ?_))⟩
  · simp only [hq']
  · rw [hshadow', hslice']
    simp

/-- Settles O34: a frame that the link takes moves nothing above the link, and then each frame does what its row says. -/
theorem deltasAndResyncAreTaken : Obligations.DeltasAndResyncAreTaken := by
  unfold Obligations.DeltasAndResyncAreTaken
  refine ⟨fun s x h ep m dg tm fin lock es hup hstill hside => ⟨?_, ?_, ?_, ?_⟩, fun s x h hup hstill hrole => ⟨fun tb last es => ?_, fun n => ?_, fun a data poison hlen halign => ?_,
    fun n slice p req q hshadow hacts hslice hq => ?_⟩, fun s x h n hrole => ?_⟩
  · rintro rfl hrole
    exact delta_applies hup hstill hside x ep m dg tm lock hrole es
  · rintro rfl rfl hrel
    exact delta_final hup hstill hside x ep m dg tm lock hrel
  · rintro rfl rfl hrole
    exact delta_noted hup hstill hside x ep m dg tm lock hrole
  · rintro rfl rfl rfl hrole hpair hstep
    exact delta_admits hup hstill hside x ep m dg tm hrole hpair hstep
  all_goals have habove := State.arrived_aboveLink s x
  · refine ⟨s.arrived x, congrArg AboveLink.keys habove, congrArg AboveLink.regions habove, congrArg AboveLink.cqi habove,
      congrArg AboveLink.tier habove, _, congrArg Host.Outcome.next (State.twinWakeIn_of_joining hup hstill hrole x _), ?_⟩
    simp only
    split
    · exact ⟨rfl, rfl⟩
    · exact ⟨rfl, rfl⟩
  · refine ⟨_, congrArg Host.Outcome.next (State.twinWakeIn_of_joining hup hstill hrole x _), ?_⟩
    dsimp only
    rw [State.home_updHome_self _ _ h.isLt]
    exact ⟨rfl, rfl, congrArg AboveLink.tier habove⟩
  · refine ⟨_, (if_neg ?_).trans (congrArg Host.Outcome.next (State.twinWakeIn_of_joining hup hstill hrole x _)), s.arrived x,
      congrArg AboveLink.tier habove, congrArg AboveLink.flash habove, rfl⟩
    simp [hlen, halign]
  · obtain ⟨f, hf, hexec⟩ := exec_lockstepIngress_of_shadow (x := x) (n := n) (req := req) hup hstill hshadow hslice hq
    obtain ⟨hout, htier, hnet⟩ := State.quiet_of_shadow ((s.inLockstep_shadow x h.val n).trans hshadow) ((s.inLockstep_acts x h n).trans hacts) f
    rw [hf] at htier hnet
    have hkept := s.inLockstep_net x h.val n
    exact ⟨_, hexec, s.inLockstep x h.val n, congrArg HomeSt.inseq (State.home_updHome_self _ _ h.isLt), congrArg Net.qps hkept,
      congrArg Net.txns hkept, congrArg AboveLink.tier habove, hout, htier, hnet⟩
  · have hrole' : (s.arrived x).role h.val ≠ 3 := by
      rw [State.role_of_reg (State.arrived_reg offLink_TWN_STATUS s x)]
      exact hrole
    obtain hskip | htaken := s.twinWakeIn_cases x (fun s =>
      if s.role h.val = 3 then s.updHome h.val (fun y => { y with copied := true, pieces := n, sent := n }) else s)
    · exact ⟨s, congrArg Host.Outcome.next hskip, rfl, rfl⟩
    · exact ⟨s.arrived x, congrArg Host.Outcome.next (htaken.trans (if_neg hrole')), State.homePart_of_aboveLink HomeSt.copied (fun _ => rfl) habove h,
        congrArg AboveLink.tier habove⟩

end Sys2Proof.Machine
end

section
/-! ## Clock and power gating of domains (R71, R72, R461) -/

namespace Sys2Proof.Machine

/-- A gating that is closed for one domain changes the gated sets at that domain alone. -/
theorem State.gate_one_spec (s : State) (d : Domain) :
    d ∈ (s.gate [d]).gov.powerGated ∧ d ∉ (s.gate [d]).gov.clockGated ∧
      ∀ e, e ≠ d → (e ∈ (s.gate [d]).gov.powerGated ↔ e ∈ s.gov.powerGated) := by
  unfold State.gate
  refine ⟨?_, by simp, fun e he => ?_⟩
  · by_cases hd : d ∈ s.gov.powerGated
    · simp [hd]
    · simp [hd]
  · simp only [List.mem_append, List.mem_filter, List.mem_singleton, he, false_and, or_false]

/-- A domain that serves again is in none of the three lists, and no other domain's power gating changes. -/
theorem State.ungate_one_spec (s : State) (d : Domain) :
    d ∉ (s.ungate [d]).gov.powerGated ∧ d ∉ (s.ungate [d]).gov.clockGated ∧ d ∉ (s.ungate [d]).gov.waking ∧
      ∀ e, e ≠ d → (e ∈ (s.ungate [d]).gov.powerGated ↔ e ∈ s.gov.powerGated) := by
  unfold State.ungate
  refine ⟨by simp, by simp, by simp, fun e he => ?_⟩
  simp [he]

section
variable {s : State} {d : Domain}

/-- An idle domain that is not power-gated is clock-gated afterwards, and only the clock gating moves (R71). -/
theorem exec_clockGateIdle_of_idle (hidle : s.domainBusy d = false) (hpow : d ∉ s.gov.powerGated) :
    Leads (.clockGateIdle d) s (fun t => d ∈ t.gov.clockGated ∧ (∀ e ∈ s.gov.clockGated, e ∈ t.gov.clockGated) ∧
      t = { s with gov := { s.gov with clockGated := t.gov.clockGated } }) := by
  by_cases hclk : d ∈ s.gov.clockGated
  · exact ⟨s, congrArg Host.Outcome.next (if_pos (by simp [hclk])), hclk, fun _ he => he, rfl⟩
  · exact ⟨_, congrArg Host.Outcome.next (if_neg (by simp [hidle, State.gated, hpow, hclk])), List.mem_cons_self,
      fun _ he => List.mem_cons_of_mem d he, rfl⟩

/-- Work for a gated domain begins its wake, and begins none where the domain wakes already (R72). -/
theorem exec_domainWake_of_gated (hgated : d ∈ s.gov.powerGated ∨ d ∈ s.gov.clockGated) :
    Leads (.domainWake d) s (fun t => d ∈ t.gov.waking ∧ t.gov.powerGated = s.gov.powerGated) := by
  have hg : (s.gated d || s.gov.clockGated.contains d) = true := by simpa [State.gated] using hgated
  by_cases hw : d ∈ s.gov.waking
  · exact ⟨s, congrArg Host.Outcome.next (if_neg (by simp [hw])), hw, rfl⟩
  · exact ⟨_, congrArg Host.Outcome.next (if_pos (by rw [hg]; simp [hw])), List.mem_cons_self, rfl⟩

end

/-- Settles O54: each gating command by whether the domain is busy, gated, or waking. -/
theorem idleDomainsAreGated : Obligations.IdleDomainsAreGated := by
  unfold Obligations.IdleDomainsAreGated
  refine ⟨fun s d => ⟨fun hbusy => ⟨?clockBusy, ?powerBusy⟩, exec_clockGateIdle_of_idle, fun hno => ?notAllowed,
    fun hidle hpow hmay => ⟨s.gate [d], ?powerGates, ?gated⟩, exec_domainWake_of_gated, fun hpow hclk => ?notGated,
    fun hwaking => ⟨s.ungate [d], ?wakes, ?woken⟩, fun hno => ?notWaking⟩, fun s => ⟨rfl, rfl⟩⟩
  case clockBusy =>
    exact congrArg Host.Outcome.next (if_pos (by simp [hbusy]))
  case powerBusy =>
    exact congrArg Host.Outcome.next (if_pos (by simp [hbusy]))
  case notAllowed =>
    exact congrArg Host.Outcome.next (if_pos (by simp [hno]))
  case powerGates =>
    exact congrArg Host.Outcome.next (if_neg (by simp [hidle, hmay, State.gated, hpow]))
  case gated =>
    obtain ⟨hin, hclk, hothers⟩ := s.gate_one_spec d
    exact ⟨hin, hclk, hothers, rfl, rfl, rfl⟩
  case notGated =>
    exact congrArg Host.Outcome.next (if_neg (by simp [State.gated, hpow, hclk]))
  case wakes =>
    exact congrArg Host.Outcome.next (if_pos (by simpa using hwaking))
  case woken =>
    obtain ⟨hpow, hclk, hwake, hothers⟩ := s.ungate_one_spec d
    exact ⟨hpow, hclk, hwake, hothers, rfl, rfl⟩
  case notWaking =>
    exact congrArg Host.Outcome.next (if_neg (by simpa using hno))

end Sys2Proof.Machine
end

section
/-! ## Pool bytes through the line cache (R62, R235, R236) -/

namespace Sys2Proof.Machine

/-- Bytes padded with zeros, or cut, read at an index as the list padded with zeros does. -/
theorem getD_padTo (n : Nat) (bs : List Byte) {i : Nat} (hi : i < n) : (padTo n bs).getD i 0 = bs.getD i 0 := by
  unfold padTo
  simp only [List.getD_eq_getElem?_getD, List.getElem?_take, hi, if_true, List.getElem?_append, List.getElem?_replicate]
  by_cases h : i < bs.length
  · rw [if_pos h]
  · rw [if_neg h, List.getElem?_eq_none (Nat.le_of_not_lt h), if_pos (by omega)]
    rfl

@[simp] theorem length_padTo (n : Nat) (bs : List Byte) : (padTo n bs).length = n := by
  simp [padTo]; omega

/-- A line's 64 bytes after a part of them was stored over. -/
theorem getD_mergeLine (old bs : List Byte) (off : Nat) {i : Nat} (hi : i < 64) (hfit : off + bs.length ≤ 64) :
    (mergeLine old off bs).getD i 0 = if off ≤ i ∧ i < off + bs.length then bs.getD (i - off) 0 else old.getD i 0 := by
  have hpad := getD_padTo 64 old hi
  unfold mergeLine
  rw [List.append_assoc]
  simp only [List.getD_eq_getElem?_getD, List.getElem?_append, List.length_take, length_padTo, List.getElem?_take, List.getElem?_drop] at hpad ⊢
  have hmin : min off 64 = off := by omega
  rw [hmin]
  by_cases hbefore : i < off
  · rw [if_pos hbefore, if_pos hbefore, if_neg (by omega), hpad]
  · rw [if_neg hbefore]
    by_cases hin : i - off < bs.length
    · rw [if_pos hin, if_pos (by omega)]
    · rw [if_neg hin, if_neg (by omega), show off + bs.length + (i - off - bs.length) = i by omega, hpad]

/-- A byte of a memory after bytes were stored from an address upward. -/
theorem memByte_memWrite (d : Byte) (bs : List Byte) (m : List Host.Cell) (a j : Nat) :
    memByte d (memWrite d m a bs) j = if a ≤ j ∧ j < a + bs.length then bs.getD (j - a) 0 else memByte d m j := by
  by_cases hin : a ≤ j ∧ j < a + bs.length
  · have hlt : j - a < bs.length := by omega
    have hread := memByte_memWrite_same d bs m a (j - a) hlt
    rw [show a + (j - a) = j by omega] at hread
    rw [if_pos hin, hread, List.getD_eq_getElem?_getD, List.getElem?_eq_getElem hlt, Option.getD_some]
  · rw [if_neg hin, memByte_memWrite_other _ _ _ _ _ (by omega)]

theorem State.line_setLine (s : State) (l m : Nat) (x : Line) : (s.setLine l x).line m = if m = l then some x else s.line m := by
  unfold State.line State.setLine
  by_cases hm : m = l
  · rw [if_pos hm, hm, kget_kput_same]
  · rw [if_neg hm, kget_kput_other _ _ _ _ hm]

/-- The byte of T1 at an address. -/
def State.t1Byte (s : State) (a : Nat) : Byte := memByte 0 s.tier.t1 a

theorem State.t1Byte_t1Write (s : State) (a : Nat) (bs : List Byte) (b : Nat) :
    (s.t1Write a bs).t1Byte b = if a ≤ b ∧ b < a + bs.length then bs.getD (b - a) 0 else s.t1Byte b :=
  memByte_memWrite 0 bs s.tier.t1 a b

/-- What a reader sees of the line that holds an address: its own bytes unless it is absent or being filled (R62, R239). -/
theorem State.poolByte_of_line {s : State} {a : Nat} {x : Line} (h : s.line (a / 64) = some x) (hf : x.filling = false) :
    s.poolByte a = x.data.getD (a % 64) 0 := by
  unfold State.poolByte
  simp only [h, hf, Bool.false_eq_true, if_false]

theorem State.poolByte_of_t1 {s : State} {a : Nat} (h : ∀ x, s.line (a / 64) = some x → x.filling = true) : s.poolByte a = s.t1Byte a := by
  unfold State.poolByte
  cases hx : s.line (a / 64) with
  | none => rfl
  | some x => simp only [h x hx, if_true]; rfl

/-- A reader sees of a byte only its line and T1. -/
theorem State.poolByte_congr {s t : State} {a : Nat} (hl : t.line (a / 64) = s.line (a / 64)) (ht : t.t1Byte a = s.t1Byte a) :
    t.poolByte a = s.poolByte a := by
  unfold State.t1Byte at ht
  unfold State.poolByte
  rw [hl, ht]

/-- What a device write makes of a line that T0 holds: its bytes stored over, the line dirty (Table 07-1). -/
def Line.written (x : Line) (off : Nat) (bs : List Byte) : Line :=
  { x with data := mergeLine x.data off bs, dirty := true, wrote := x.wrote ||| wordMask off bs.length }

theorem State.writeLine_of_held {s : State} {l : Nat} {x : Line} (h : s.line l = some x) (hf : x.filling = false) (off : Nat) (bs : List Byte) :
    s.writeLine false l off bs = s.setLine l (x.written off bs) := by
  unfold State.writeLine
  rw [h]
  exact if_neg (by simp [hf])

/-- A line that is absent, or whose fill is in progress, is written in T1 (Table 07-1, R239). -/
theorem State.writeLine_of_t1 {s : State} {l : Nat} (h : ∀ x, s.line l = some x → x.filling = true) (off : Nat) (bs : List Byte) :
    s.writeLine false l off bs = s.t1Write (l * 64 + off) bs := by
  unfold State.writeLine
  cases hx : s.line l with
  | none => rfl
  | some x => simp only [h x hx, if_true]

/-- T0 holds a line's bytes, or readers take them from T1. -/
theorem State.line_cases (s : State) (l : Nat) : (∃ x, s.line l = some x ∧ x.filling = false) ∨ ∀ x, s.line l = some x → x.filling = true := by
  cases hx : s.line l with
  | none => exact .inr (fun x h => nomatch h)
  | some x =>
    cases hf : x.filling with
    | false => exact .inl ⟨x, rfl, hf⟩
    | true => exact .inr (fun y h => Option.some.inj h ▸ hf)

/-- One line's part of a device write changes its own bytes and no other (R62, Table 07-1). -/
theorem State.poolByte_writeLine (s : State) (l off : Nat) (bs : List Byte) (hfit : off + bs.length ≤ 64) (b : Nat) :
    (s.writeLine false l off bs).poolByte b =
      if l * 64 + off ≤ b ∧ b < l * 64 + off + bs.length then bs.getD (b - (l * 64 + off)) 0 else s.poolByte b := by
  obtain ⟨x, hx, hf⟩ | ht1 := s.line_cases l
  · rw [writeLine_of_held hx hf]
    have hline := s.line_setLine l (b / 64) (x.written off bs)
    by_cases hl : b / 64 = l
    · rw [if_pos hl] at hline
      rw [poolByte_of_line hline hf, poolByte_of_line (by rw [hl, hx]) hf]
      refine (getD_mergeLine x.data bs off (Nat.mod_lt b (by decide)) hfit).trans (ite_congr (propext (by omega)) (fun _ => ?_) (fun _ => rfl))
      rw [show b % 64 - off = b - (l * 64 + off) by omega]
    · rw [if_neg hl] at hline
      rw [if_neg (by omega)]
      exact poolByte_congr hline rfl
  · rw [writeLine_of_t1 ht1]
    have hbyte := s.t1Byte_t1Write (l * 64 + off) bs b
    by_cases hin : l * 64 + off ≤ b ∧ b < l * 64 + off + bs.length
    · have hl : b / 64 = l := by omega
      rw [if_pos hin] at hbyte ⊢
      rw [← hbyte]
      exact poolByte_of_t1 (by rw [hl]; exact ht1)
    · rw [if_neg hin] at hbyte ⊢
      exact poolByte_congr rfl hbyte

/-- The part of a byte string that falls into a line that it touches. -/
theorem lineChunk_spec (a : Nat) (bs : List Byte) {l : Nat} (hlo : a < l * 64 + 64) :
    (lineChunk a bs l).1 = max a (l * 64) - l * 64 ∧
      (lineChunk a bs l).2.length = min (a + bs.length) (l * 64 + 64) - max a (l * 64) ∧
      ∀ i, i < (lineChunk a bs l).2.length → (lineChunk a bs l).2.getD i 0 = bs.getD (max a (l * 64) - a + i) 0 := by
  unfold lineChunk
  refine ⟨rfl, ?_, fun i hi => ?_⟩
  · simp only [List.length_take, List.length_drop]
    omega
  · simp only [List.length_take, List.length_drop] at hi
    simp only [List.getD_eq_getElem?_getD, List.getElem?_take, List.getElem?_drop]
    rw [if_pos (by omega)]

/-- One line's part of a write over a range: of that line's bytes those of the range change, and no others. -/
theorem State.poolByte_writeChunk (s : State) (a : Nat) (bs : List Byte) {l : Nat} (hlo : a < l * 64 + 64)
    (b : Nat) :
    (s.writeLine false l (lineChunk a bs l).1 (lineChunk a bs l).2).poolByte b =
      if b / 64 = l ∧ a ≤ b ∧ b < a + bs.length then bs.getD (b - a) 0 else s.poolByte b := by
  obtain ⟨hoff, hlen, hbyte⟩ := lineChunk_spec a bs hlo
  rw [poolByte_writeLine s l _ _ (by omega) b]
  by_cases hin : b / 64 = l ∧ a ≤ b ∧ b < a + bs.length
  · rw [if_pos hin, if_pos (by omega), hbyte _ (by omega)]
    congr 1
    omega
  · rw [if_neg hin, if_neg (by omega)]

/-- The lines of a range written one after another: a byte of the range is as written once its line has been. -/
theorem State.poolByte_writeLines (s : State) (a : Nat) (bs : List Byte) (n : Nat) (hn : n ≤ (a + bs.length + 63) / 64 - a / 64) (b : Nat) :
    ((span (a / 64) n).foldl (fun s l => s.writeLine false l (lineChunk a bs l).1 (lineChunk a bs l).2) s).poolByte b =
      if b / 64 < a / 64 + n ∧ a ≤ b ∧ b < a + bs.length then bs.getD (b - a) 0 else s.poolByte b := by
  induction n with
  | zero => rw [if_neg (by omega)]; rfl
  | succ n ih =>
    unfold span at ih ⊢
    rw [List.range_succ, List.map_append, List.foldl_append, List.map_singleton, List.foldl_cons, List.foldl_nil,
      poolByte_writeChunk _ a bs (by omega) b, ih (by omega)]
    by_cases hl : b / 64 = a / 64 + n
    · simp only [hl, true_and, Nat.lt_irrefl, false_and, if_false, show a / 64 + n < a / 64 + (n + 1) by omega]
    · rw [if_neg (by omega)]
      exact ite_congr (propext (by omega)) (fun _ => rfl) (fun _ => rfl)

/-- A line written back holds in T1 what it holds in T0, so that a reader sees no change (R235, R236). -/
theorem State.poolByte_cleanLine (s : State) (l a : Nat) : (s.cleanLine l).poolByte a = s.poolByte a := by
  unfold State.cleanLine
  cases hx : s.line l with
  | none => rfl
  | some x =>
    simp only
    split
    · next hdirty =>
      simp only [Bool.and_eq_true, Bool.not_eq_true'] at hdirty
      obtain ⟨-, hf⟩ := hdirty
      have hline : (((s.t1Write (l * 64) (padTo 64 x.data)).setLine l { x with dirty := false, wrote := 0 }).count Reg.LC_WB).line (a / 64) =
          if a / 64 = l then some { x with dirty := false, wrote := 0 } else s.line (a / 64) := line_setLine _ _ _ _
      by_cases hl : a / 64 = l
      · rw [if_pos hl] at hline
        rw [poolByte_of_line hline hf, poolByte_of_line (by rw [hl, hx]) hf]
      · rw [if_neg hl] at hline
        refine poolByte_congr hline ((t1Byte_t1Write s (l * 64) _ a).trans (if_neg ?_))
        rw [length_padTo]
        omega
    · rfl

/-- Settles O37: a device write line by line, and a line written back. -/
theorem poolWritesExactlyItsBytes : Obligations.PoolWritesExactlyItsBytes := by
  unfold Obligations.PoolWritesExactlyItsBytes
  refine ⟨fun s a bs b => (s.poolByte_writeLines a bs _ (Nat.le_refl _) b).trans ?_, State.poolByte_cleanLine⟩
  exact ite_congr (propext (by omega)) (fun _ => rfl) (fun _ => rfl)

end Sys2Proof.Machine
end

section
/-! ## Health words, eye margins, BIST and the T2 samples (R61, R374, R376, R389) -/

namespace Sys2Proof.Machine

section
variable {s : State} (hrun : s.coreRuns = true) {c : Prop} [Decidable c]
include hrun

/-- A command that acts under a condition, while the core runs and the condition holds. -/
theorem State.core_ite_pos (hc : c) (t e : State) : s.core (if c then t else e) = .next t := by
  rw [core_of_runs hrun, if_pos hc]

/-- A command that acts under a condition, while the core runs and the condition fails. -/
theorem State.core_ite_neg (hc : ¬ c) (t e : State) : s.core (if c then t else e) = .next e := by
  rw [core_of_runs hrun, if_neg hc]

end

/-- A register's bit after it was set or cleared. -/
theorem State.regBit_setRegBit_same (s : State) (a n : Nat) (b : Bool) (hn : n < 32) : (s.setRegBit a n b).regBit a n = b := by
  have hreg : (s.setRegBit a n b).reg a = withField ⟨a, n, 1⟩ (s.reg a) (if b then 1 else 0) := reg_put_same s ⟨a, n, 1⟩ _
  unfold State.regBit
  rw [hreg, getLsbD_withField _ _ _ _ hn, if_pos ⟨Nat.le_refl n, Nat.lt_succ_self n⟩]
  cases b <;> simp

theorem State.updLink_healthSeq (s : State) (bulk : Bool) (f : LinkStream → LinkStream) : (s.updLink bulk f).twin.healthSeq = s.twin.healthSeq := by
  unfold State.updLink
  split <;> rfl

theorem State.linkSend_healthSeq (s : State) (bulk : Bool) (len : Nat) (o : Out) : (s.linkSend bulk len o).twin.healthSeq = s.twin.healthSeq := by
  unfold State.linkSend State.linkPut
  extract_lets x
  split
  · exact updLink_healthSeq s bulk _
  · rw [emit_twin, updLink_healthSeq]

/-- A health word that leaves takes the next number (R376). -/
theorem State.sendHealth_healthSeq (s : State) : s.sendHealth.twin.healthSeq = s.twin.healthSeq + 1 :=
  linkSend_healthSeq _ _ _ _

/-- What a health word tells of the partner, and the roles that decide what the chip does on it (R389, Table 11-9). -/
def State.partnerView (s : State) : BitVec 32 × Nat × Nat × Nat × Nat :=
  (s.reg Reg.TWN_PHEALTH, s.role 0, s.role 1, s.twin.partnerBudget, s.twin.partnerMirror)

theorem State.record_partnerView (s : State) (e : Event) (u : Nat) (pl : List Byte) (c : Nat) (lim : Option (Nat × Nat))
    (hhealth : Reg.TWN_PHEALTH ∉ recordRegs e c) (hstatus : Reg.TWN_STATUS ∉ recordRegs e c) :
    (s.record e u pl c lim).partnerView = s.partnerView := by
  have hrole := State.role_of_reg (reg_record s e u pl c lim _ hstatus)
  unfold State.partnerView
  rw [reg_record _ _ _ _ _ _ _ hhealth, hrole, hrole, record_twin]

/-- The lease bits of TWN_STATUS lie above the roles (Table 11-15). -/
theorem State.role_put_lease (s : State) (h j v : Nat) : (s.put (leaseField h) v).role j = s.role j := by
  have hrole : (roleField j).addr = Reg.TWN_STATUS ∧ (roleField j).lo + (roleField j).width ≤ 5 := by
    unfold roleField
    split <;> decide
  have hlease : (leaseField h).addr = Reg.TWN_STATUS ∧ 11 ≤ (leaseField h).lo := by
    unfold leaseField
    split <;> decide
  exact get_put_field _ _ _ _ (hrole.1.trans hlease.1.symm) (by omega) (.inl (by omega))

/-- Lease mode moves the lease of its home set and no role (R394). -/
theorem State.leaseOn_partnerView (s : State) (h : Nat) : (s.leaseOn h).partnerView = s.partnerView := by
  unfold State.leaseOn
  split
  · rfl
  · rw [record_partnerView _ _ _ _ _ _ (by decide) (by decide)]
    have hne : Reg.TWN_PHEALTH ≠ (leaseField h).addr := by
      unfold leaseField
      split <;> decide
    unfold State.partnerView
    rw [role_put_lease, role_put_lease, reg_put_other _ _ _ _ hne]
    rfl

/-- A chip that is active for no home set holds no tier back for its partner. -/
theorem State.holdsFollow_of_inactive {s : State} (h0 : s.active 0 = false) (h1 : s.active 1 = false) : s.holdsFollow = s := by
  unfold State.holdsFollow State.activeHomes
  simp [h0, h1]

theorem State.active_of_partnerView {s t : State} (h : t.partnerView = s.partnerView) : t.active 0 = s.active 0 ∧ t.active 1 = s.active 1 := by
  simp only [State.partnerView, Prod.mk.injEq] at h
  obtain ⟨-, h0, h1, -, -⟩ := h
  unfold State.active
  exact ⟨by rw [h0], by rw [h1]⟩

/-- A chip that is active for no home set keeps the partner's word and does nothing on it (Table 11-9). -/
theorem State.healthIn_of_inactive {s : State} (h0 : s.active 0 = false) (h1 : s.active 1 = false) (w : BitVec 32) (compared : Nat) :
    (s.healthIn w compared).partnerView = (s.setReg Reg.TWN_PHEALTH w).partnerView := by
  have hkept (v : State) (hv : v.partnerView = (s.setReg Reg.TWN_PHEALTH w).partnerView) : v.active 0 = false ∧ v.active 1 = false := by
    obtain ⟨e0, e1⟩ := active_of_partnerView hv
    have r0 : (s.setReg Reg.TWN_PHEALTH w).active 0 = s.active 0 :=
      congrArg (· == 1) (role_of_reg (reg_setReg_other _ _ _ _ (by decide)) 0)
    have r1 : (s.setReg Reg.TWN_PHEALTH w).active 1 = s.active 1 :=
      congrArg (· == 1) (role_of_reg (reg_setReg_other _ _ _ _ (by decide)) 1)
    exact ⟨e0.trans (r0.trans h0), e1.trans (r1.trans h1)⟩
  unfold State.healthIn
  extract_lets old rose s1 s2 s3 s4 s5
  have v2 : s2.partnerView = s1.partnerView := by
    simp only [s2]
    split
    · rfl
    · exact record_partnerView _ _ _ _ _ _ (by decide) (by decide)
  have v3 : s3.partnerView = s1.partnerView := by
    simp only [s3]
    split
    · exact (leaseOn_partnerView s2 0).trans v2
    · exact v2
  have v4 : s4.partnerView = s1.partnerView := by
    simp only [s4]
    split
    · exact (leaseOn_partnerView s3 1).trans v3
    · exact v3
  have v5 : s5.partnerView = s1.partnerView := by
    simp only [s5]
    split
    · exact v4
    · rw [holdsFollow_of_inactive (hkept s4 v4).1 (hkept s4 v4).2]
      exact v4
  obtain ⟨a0, a1⟩ := hkept s5 v5
  simp only [List.foldl_cons, List.foldl_nil, a0, a1, Bool.not_false, if_true]
  exact v5

theorem offLink_TWN_PHEALTH : offLink Reg.TWN_PHEALTH :=
  ⟨ne_frameCounter (by decide), by decide, by decide, by decide, by decide⟩

/-- A HEALTH frame that the link takes leaves the partner's word, budget and free granules (R376, R389). -/
theorem exec_health_of_inactive {s : State} (hrun : s.coreRuns = true) (hup : s.elytraUp = true) (hstill : s.still = false)
    (h0 : s.active 0 = false) (h1 : s.active 1 = false) (x : Ely) (w budget mf : BitVec 32) (n : BitVec 64) :
    Leads (.health x w n budget mf) s (fun t => t.reg Reg.TWN_PHEALTH = w ∧ t.twin.partnerBudget = budget.toNat ∧
      t.twin.partnerMirror = mf.toNat) := by
  have hrole := State.role_of_reg (State.received_reg offLink_TWN_STATUS s x false)
  have hview := State.healthIn_of_inactive
    (s := { s.received x false with twin := { (s.received x false).twin with partnerBudget := budget.toNat, partnerMirror := mf.toNat } })
    ((congrArg (· == 1) (hrole 0)).trans h0) ((congrArg (· == 1) (hrole 1)).trans h1) w n.toNat
  simp only [State.partnerView, Prod.mk.injEq] at hview
  obtain ⟨hword, -, -, hbudget, hmirror⟩ := hview
  exact ⟨_, (State.core_of_runs hrun _).trans (congrArg Host.Outcome.next (State.twinIn_of_up hup hstill x false _)),
    hword.trans (State.reg_setReg_same _ _ _), hbudget, hmirror⟩

/-- A cluster is retired while another transport cluster still serves (R61). -/
theorem State.retireCluster_of_other {s : State} {k : Nat} (hk : k ≠ 11) (hother : ∃ i, i < 8 ∧ i ≠ k ∧ i ∉ s.net.deadClusters) :
    (s.retireCluster k).net.deadClusters = k :: s.net.deadClusters.filter (· != k) ∧ (s.retireCluster k).twin = s.twin ∧
      (s.retireCluster k).regs = s.regs := by
  obtain ⟨i, hi, hik, hdead⟩ := hother
  have hserves : ¬ (List.range 8).all (fun i => (k :: s.net.deadClusters.filter (· != k)).contains i) = true := by
    intro hall
    have hmem := List.all_eq_true.mp hall i (List.mem_range.mpr hi)
    simp [hik, hdead] at hmem
  unfold State.retireCluster
  rw [if_neg (by simp only [Bool.or_eq_true, decide_eq_true_eq, not_or]; exact ⟨hserves, hk⟩)]
  exact ⟨rfl, rfl, rfl⟩

/-- A BIST run is over: its cluster and its outcome show in the health word (R389). -/
def State.bistShown (s : State) (k : Nat) (passed : Bool) : State :=
  (({ s with twin := { s.twin with bist := none } } : State).put ⟨Reg.TWN_HEALTH, 16, 4⟩ k).setRegBit Reg.TWN_HEALTH 4 (!passed)

theorem State.bistShown_spec (s : State) (k : Nat) (passed : Bool) :
    (s.bistShown k passed).twin.bist = none ∧ (s.bistShown k passed).regBit Reg.TWN_HEALTH 4 = !passed ∧ (s.bistShown k passed).net = s.net :=
  ⟨rfl, regBit_setRegBit_same _ _ _ _ (by decide), rfl⟩

theorem exec_bistDone {s : State} {k : Fin 12} (hrun : s.coreRuns = true) (hbist : s.twin.bist = some k.val) (passed : Bool) :
    exec (.bistDone k passed) s = .next (if passed then s.bistShown k.val passed else (s.bistShown k.val passed).retireCluster k.val) :=
  State.core_ite_pos hrun hbist _ _

/-- Settles O32: each command's own definition under its condition, and what a health word, an eye margin and a BIST run leave. -/
theorem healthAndBistAct : Obligations.HealthAndBistAct := by
  unfold Obligations.HealthAndBistAct
  refine ⟨fun s hrun => ⟨fun hup h0 h1 => ⟨s.sendHealth, ?sends, s.sendHealth_healthSeq⟩, fun hstandby => ?standsBy⟩,
    fun s x w budget mf n hrun hup hstill h0 h1 => exec_health_of_inactive hrun hup hstill h0 h1 x w budget mf n,
    fun s ms hrun => ⟨_, State.core_of_runs hrun _, ?eye, rfl⟩,
    fun s k hrun => ⟨fun hstandby hnone hadmit => ⟨{ s with twin := { s.twin with bist := some k.val } }, ?starts, rfl, rfl⟩, fun hruns => ?runs, fun hbist => ⟨?passed, ?failed⟩,
      fun hdead => ?deadAlready, fun hlive hk hother => ?fault⟩,
    fun s bad hrun => ⟨fun hstandby => ?sampled, fun h0 h1 => ?noSample⟩⟩
  case sends =>
    exact State.core_ite_pos hrun (by simp [hup, h0, h1]) _ _
  case standsBy =>
    exact State.core_ite_neg hrun (by rcases hstandby with h | h <;> simp [h]) _ _
  case eye =>
    rw [State.regBit_setRegBit_same _ _ _ _ (by decide), List.any_eq_true]
    simp only [Bool.and_eq_true, decide_eq_true_eq]
  case starts =>
    exact State.core_ite_pos hrun (by simpa [hnone, hadmit] using hstandby) _ _
  case runs =>
    exact State.core_ite_neg hrun (by simp [hruns]) _ _
  case passed =>
    exact ⟨_, exec_bistDone hrun hbist true, s.bistShown_spec k.val true⟩
  case failed =>
    intro hk hother
    obtain ⟨hnone, hbit, hnet⟩ := s.bistShown_spec k.val false
    obtain ⟨hdead, htwin, hregs⟩ := State.retireCluster_of_other (s := s.bistShown k.val false) hk (by rw [hnet]; exact hother)
    exact ⟨_, exec_bistDone hrun hbist false, (congrArg Twin.bist htwin).trans hnone,
      (congrArg (BitVec.getLsbD · 4) (State.reg_of_regs hregs _)).trans hbit, hdead ▸ List.mem_cons_self⟩
  case deadAlready =>
    exact State.core_ite_pos hrun (by simpa using hdead) _ _
  case fault =>
    obtain ⟨hdead, -, hregs⟩ := State.retireCluster_of_other hk hother
    have hfilter : s.net.deadClusters.filter (· != k.val) = s.net.deadClusters :=
      List.filter_eq_self.mpr (fun i hi => by simpa using fun h : i = k.val => hlive (h ▸ hi))
    exact ⟨s.retireCluster k.val, State.core_ite_neg hrun (by simpa using hlive) _ _, hdead.trans (by rw [hfilter]), hregs⟩
  case sampled =>
    exact ⟨_, State.core_ite_pos hrun (by simpa using hstandby) _ _, State.regBit_setRegBit_same _ _ _ _ (by decide)⟩
  case noSample =>
    exact State.core_ite_neg hrun (by simp [h0, h1]) _ _

end Sys2Proof.Machine
end

section
/-! ## Waiting packets that go on (R51, R56 to R58, R110 to R112, R139, R149) -/

namespace Sys2Proof.Machine

/-! ### Pause leaves contexts, waiting packets and transactions alone -/

/-- The contexts, the packets that wait and the transactions: all of the transport that pause does not reach. -/
def State.traffic (s : State) : List (Nat × Qp) × List Held × List Txn := (s.net.qps, s.net.held, s.net.txns)

theorem State.traffic_of_net {s t : State} (h : t.net = s.net) : t.traffic = s.traffic := by
  unfold State.traffic
  rw [h]

theorem State.setPause_traffic (s : State) (p c : Nat) (f : ClassSt → ClassSt) : (s.setPause p c f).traffic = s.traffic := by
  unfold State.setPause
  extract_lets before s1 after s2 s3
  have h1 : s1.traffic = s.traffic := by unfold State.traffic; rfl
  have h2 : s2.traffic = s.traffic := (traffic_of_net (putB_net s1 _ _)).trans h1
  have h3 : s3.traffic = s.traffic := (traffic_of_net (emit_net s2 _)).trans h2
  split
  · exact h2
  · split
    · exact (traffic_of_net (count_net s3 _)).trans h3
    · exact h3

theorem State.setPauseAll_traffic (s : State) (f : ClassSt → ClassSt) : (s.setPauseAll f).traffic = s.traffic := by
  refine foldl_view State.traffic _ _ s (fun s p => foldl_view State.traffic _ _ s (fun s c => ?_))
  split
  · exact setPause_traffic s p c f
  · rfl

theorem State.bufferPause_traffic (s : State) (p c : Nat) : (s.bufferPause p c).traffic = s.traffic := by
  unfold State.bufferPause
  extract_lets o
  split
  · split
    · exact setPause_traffic s p c _
    · split
      · exact setPause_traffic s p c _
      · rfl
  · rfl

theorem State.bufferPauseAll_traffic (s : State) : s.bufferPauseAll.traffic = s.traffic :=
  foldl_view State.traffic _ _ s (fun s p => foldl_view State.traffic _ _ s (fun s c => bufferPause_traffic s p c))

theorem State.markMissPause_traffic (s : State) (ks : List Nat) :
    State.traffic { s with net := { s.net with missPause := ks } } = s.traffic := rfl

theorem State.missPause_traffic (s : State) (k : Nat) : (s.missPause k).traffic = s.traffic := by
  unfold State.missPause
  extract_lets n s1 classes first s2 marked s3 unmarked s4
  have h1 : s1.traffic = s.traffic := by
    simp only [s1]
    split <;> rfl
  have h2 : s2.traffic = s.traffic := by
    refine (foldl_view State.traffic _ _ s1 (fun s p => foldl_view State.traffic _ _ s (fun s c => ?_))).trans h1
    split
    · exact setPause_traffic s p c _
    · rfl
  have h3 : s3.traffic = s.traffic := (markMissPause_traffic s2 _).trans h2
  have h4 : s4.traffic = s.traffic := (markMissPause_traffic s1 _).trans h1
  split
  · split
    · exact (traffic_of_net (record_net s3 _ _ _ _ _)).trans h3
    · exact h2
  · split
    · split
      · exact (setPauseAll_traffic s4 _).trans h4
      · exact h4
    · exact h1

/-! ### Contexts fetched and spilled -/

/-- Where a context is, when it was last used, whether it owes a rewind NAK, and the PSN that it expects. -/
def Qp.residency (q : Qp) : Residency × Nat × Bool × Psn := (q.where_, q.lastUse, q.rewindDue, q.epsn)

@[simp] theorem State.addResp_net (s : State) (h : Nat) : (s.addResp h).net = s.net := by
  unfold State.addResp
  split <;> rfl

theorem State.qp_updQp (s : State) (n m : Nat) (f : Qp → Qp) : (s.updQp n f).qp m = if m = n then (s.qp m).map f else s.qp m :=
  kget_kupd s.net.qps n m f

/-- A NAK that leaves moves no context's residency and no waiting packet (R114). -/
theorem State.sendNak_residency (s : State) (n : Nat) (psn : Psn) (syn m : Nat) :
    ((s.sendNak n psn syn).qp m).map Qp.residency = (s.qp m).map Qp.residency ∧ (s.sendNak n psn syn).net.held = s.net.held := by
  unfold State.sendNak
  split
  · next q _ =>
    have hnet : ((((s.updQp n (fun q => { q with uncovered := 0 })).emit (.nak (s.sendPort q) n psn syn q.msn)).count
        (nakCounter syn)).addResp q.home).net = (s.updQp n (fun q => { q with uncovered := 0 })).net := by
      rw [addResp_net, count_net, emit_net]
    unfold State.qp
    rw [hnet]
    exact ⟨kget_kupd_view Qp.residency s.net.qps n m (fun q => { q with uncovered := 0 }) (fun _ => rfl), rfl⟩
  · exact ⟨rfl, rfl⟩

/-- A context that owed a rewind NAK owes it no more; it stays where it is (R41). -/
theorem State.sendRewind_spec {s : State} {n : Nat} {q : Qp} (hq : s.qp n = some q) :
    ((s.sendRewind n).qp n).map Qp.residency = some (q.where_, q.lastUse, false, q.epsn) ∧ (s.sendRewind n).net.held = s.net.held := by
  have hpaid : ((s.updQp n (fun q => { q with rewindDue := false })).qp n).map Qp.residency = some (q.where_, q.lastUse, false, q.epsn) := by
    rw [qp_updQp, if_pos rfl, hq]
    rfl
  unfold State.sendRewind
  simp only [hq]
  split
  · obtain ⟨hres, hheld⟩ := sendNak_residency (s.updQp n (fun q => { q with rewindDue := false })) n q.epsn 0x60 n
    exact ⟨hres.trans hpaid, hheld⟩
  · exact ⟨hpaid, rfl⟩

/-- A context arrives: it is resident, used now, and its rewind NAK has left (R110, R111). -/
def State.contextHere (s : State) (n : Nat) : State :=
  (s.updQp n (fun q => { q with where_ := .resident, lastUse := s.now })).sendRewind n

theorem State.contextHere_spec {s : State} {n : Nat} {q : Qp} (hq : s.qp n = some q) :
    ((s.contextHere n).qp n).map Qp.residency = some (.resident, s.now, false, q.epsn) ∧ (s.contextHere n).net.held = s.net.held := by
  have hq' : (s.updQp n (fun q => { q with where_ := .resident, lastUse := s.now })).qp n =
      some { q with where_ := .resident, lastUse := s.now } := by
    rw [qp_updQp, if_pos rfl, hq]
    rfl
  obtain ⟨hres, hheld⟩ := sendRewind_spec hq'
  exact ⟨hres, hheld⟩

/-- One context makes way for another that is wanted (Table 02-2). -/
def State.swapContext (s : State) (m n : Nat) : State :=
  (s.updQp m (fun q => { q with where_ := .spilling })).updQp n (fun q => { q with where_ := .fetching })

theorem State.swapContext_spec {s : State} {m n : Nat} {q x : Qp} (hq : s.qp n = some q) (hx : s.qp m = some x) (hne : m ≠ n) :
    ((s.swapContext m n).qp m).map (·.where_) = some .spilling ∧ ((s.swapContext m n).qp n).map (·.where_) = some .fetching := by
  unfold State.swapContext
  rw [qp_updQp, if_neg hne, qp_updQp, if_pos rfl, qp_updQp, if_pos rfl, qp_updQp, if_neg (Ne.symm hne), hq, hx]
  exact ⟨rfl, rfl⟩

/-! ### Keys -/

/-- The entry that becomes the most recently used of its set is in the cache (R139). -/
theorem State.cached_cacheTouch (s : State) (i : Nat) : (s.cacheTouch i).cached i = true := by
  unfold State.cached State.cacheTouch
  simp

/-- The marks of a region's keys are gone (R149). -/
def State.transitResolved (s : State) (r : Nat) : State :=
  State.fenceStatus { s with prot := { s.prot with transit := s.prot.transit.filter (fun i => match s.key i with
    | some k => k.region != r
    | none => false) } }

theorem State.mem_transitResolved (s : State) (r i : Nat) :
    i ∈ (s.transitResolved r).prot.transit ↔ i ∈ s.prot.transit ∧ ∃ k, s.key i = some k ∧ k.region ≠ r := by
  refine List.mem_filter.trans (and_congr_right fun _ => ?_)
  cases s.key i with
  | none => simp
  | some k => simp

/-! ### An exception's NAK -/

/-- No packet waits. -/
def State.noneHeld (s : State) : State := { s with net := { s.net with held := [] } }

/-- The only packet that waits goes on: pause then follows what is held, and what can go on settles. -/
theorem State.refeed_single {s : State} {h : Held} {f : Held → Option (State → State)} {g : State → State} (hheld : s.net.held = [h])
    (hf : f h = some g) :
    s.refeed f = ((List.range 8).foldl State.missPause (g s.noneHeld).bufferPauseAll).settle := by
  unfold State.refeed
  simp only [hheld, List.foldl_cons, List.foldl_nil, hf]
  rfl

/-- The transaction that enters the table keeps its task, and needs a slot only if it did before. -/
theorem State.addTxn_slotless (s : State) (t : Txn) : ∃ x ∈ (s.addTxn t).1.net.txns, x.task = t.task ∧ x.slotless = t.slotless := by
  unfold State.addTxn
  extract_lets t' s'
  split
  · exact ⟨_, List.mem_append_right _ (List.mem_singleton_self _), rfl, rfl⟩
  · exact ⟨_, List.mem_append_right _ (List.mem_singleton_self _), rfl, rfl⟩

theorem State.addTxn_held (s : State) (t : Txn) : (s.addTxn t).1.net.held = s.net.held := by
  obtain ⟨_, _, _, h⟩ := s.addTxn_eq t
  rw [h]

/-- A NAK for an unsupported request waits its turn as a transaction without a slot, and its QP closes (R114). -/
theorem State.queueNak_invalid {s : State} {n : Nat} {q : Qp} (hq : s.qp n = some q) (psn : Psn) :
    ((s.queueNak n psn 0x61).qp n).map (·.closing) = some true ∧ (s.queueNak n psn 0x61).net.held = s.net.held ∧
      ∃ t ∈ (s.queueNak n psn 0x61).net.txns, t.qpn = n ∧ t.psn = psn ∧ t.op = .nak 0x61 ∧ t.slotless = true := by
  have hclosing : ((s.updQp n (fun q => { q with closing := true })).qp n).map (·.closing) = some true := by
    rw [qp_updQp, if_pos rfl, hq]
    rfl
  unfold State.queueNak
  simp only [hq, decide_true, Bool.true_or, if_true]
  refine ⟨?_, addTxn_held _ _, ?_⟩
  · unfold State.qp
    rw [addTxn_qps]
    exact hclosing
  · obtain ⟨x, hx, htask, hslot⟩ := addTxn_slotless (s.updQp n (fun q => { q with closing := true }))
      { home := q.home, qpn := n, slice := s.sliceOf n, op := .nak 0x61, psn := psn, psnLast := psn, placed := true, ackReq := false,
        ends := false, slotless := true }
    simp only [Txn.task, Task.mk.injEq] at htask
    obtain ⟨-, -, hqpn, hpsn, hop, -, -, -, -⟩ := htask
    exact ⟨x, hx, hqpn, hpsn, hop, hslot⟩

/-- The built NAK of the only exception closes its QP and waits as a transaction (Table 02-2). -/
theorem exec_exceptionNakBuilt_of_only {s : State} {n : BitVec 24} {q : Qp} {h : Held} (hrun : s.coreRuns = true) (hq : s.qp n.toNat = some q)
    (hheld : s.net.held = [h]) (hqpn : h.qpn = n.toNat) (hwhy : h.why = .nakBuild) :
    Settles (.exceptionNakBuilt n) s (fun v => (v.qp n.toNat).map (·.closing) = some true ∧ v.net.held = [] ∧
      ∃ t ∈ v.net.txns, t.qpn = n.toNat ∧ t.psn = h.pkt.psn ∧ t.op = .nak 0x61 ∧ t.slotless = true) := by
  obtain ⟨hclosing, hnone, htxn⟩ := State.queueNak_invalid (s := s.noneHeld) hq h.pkt.psn
  have hgo : s.refeed (fun h => if h.qpn = n.toNat && h.why == .nakBuild then some (fun s => s.queueNak n.toNat h.pkt.psn 0x61) else none) =
      ((List.range 8).foldl State.missPause (s.noneHeld.queueNak n.toNat h.pkt.psn 0x61).bufferPauseAll).settle :=
    State.refeed_single (g := fun s => s.queueNak n.toNat h.pkt.psn 0x61) hheld (if_pos (by simp [hqpn, hwhy]))
  refine ⟨(List.range 8).foldl State.missPause (s.noneHeld.queueNak n.toNat h.pkt.psn 0x61).bufferPauseAll,
    .inl ((State.core_of_runs hrun _).trans (congrArg Host.Outcome.next hgo)), ?_⟩
  have htraffic := (foldl_view State.traffic State.missPause (List.range 8) _ State.missPause_traffic).trans
    (State.bufferPauseAll_traffic (s.noneHeld.queueNak n.toNat h.pkt.psn 0x61))
  simp only [State.traffic, Prod.mk.injEq] at htraffic
  obtain ⟨hqps, hheld', htxns⟩ := htraffic
  unfold State.qp at hclosing
  simp only [State.qp, hqps, hheld', htxns]
  exact ⟨hclosing, hnone, htxn⟩

/-! ### Steering (R51) -/

theorem steerIndex_lt (n : Nat) : steerIndex n < 8 :=
  Nat.xor_lt_two_pow (n := 3) (Nat.mod_lt _ (by decide)) (Nat.mod_lt _ (by decide))

/-- A steering entry names another slice, and no change waits any more. -/
def State.steered (s : State) (i k : Nat) : State :=
  { s with net := { s.net with steer := updAt s.net.steer i (fun _ => k), steerWait := [] } }

theorem State.sliceOf_steered {s : State} (hlen : s.net.steer.length = 8) (i k n : Nat) :
    (s.steered i k).sliceOf n = if steerIndex n = i then k else s.sliceOf n := by
  have hn : steerIndex n < s.net.steer.length := hlen ▸ steerIndex_lt n
  unfold State.sliceOf State.steered updAt
  simp only [List.getD_eq_getElem?_getD, List.getElem?_modify, List.getElem?_eq_getElem hn, Option.getD_some]
  by_cases hi : steerIndex n = i
  · rw [if_pos hi]
    exact if_pos hi.symm
  · rw [if_neg hi]
    exact if_neg (Ne.symm hi)

/-- A change that is asked for is the only one that waits. -/
def State.steerAsked (s : State) (i k : Nat) : State := { s with net := { s.net with steerWait := [(i, k)] } }

/-- No transaction stands against the change: the entry changes and the packets that wait for it go on. -/
theorem State.steerNow_of_idle {s : State} (htxns : s.net.txns = []) (i k : Nat) :
    (s.steerAsked i k).steerNow = (s.steered i k).refeedWhere (fun h => h.why == .steer) := by
  unfold State.steerNow State.steerAsked State.steered
  simp [htxns]

/-- A transaction of the entry's QPs stands in its old slice: the change waits. -/
theorem State.steerNow_of_busy {s : State} {i k : Nat}
    (hbusy : s.net.txns.any (fun t => decide (t.slice = s.net.steer.getD i 0) && decide (steerIndex t.qpn = i)) = true) :
    (s.steerAsked i k).steerNow = s.steerAsked i k := by
  have hnot : s.net.txns.all (fun t => !(decide (t.slice = s.net.steer.getD i 0) && decide (steerIndex t.qpn = i))) = false := by
    rw [← List.not_any_eq_all_not, hbusy]
    rfl
  unfold State.steerNow State.steerAsked
  simp only [List.filter_cons, List.filter_nil, hnot, Bool.false_eq_true, if_false, List.isEmpty_nil, if_true]

/-- Outside P1 and P2 a change is asked for, and made if it can be. -/
theorem exec_steeringChange_of_untrimmed {s : State} (hrun : s.coreRuns = true) (htrim : s.trimmed = false) (hwait : s.net.steerWait = [])
    (i k : Fin 8) : exec (.steeringChange i k) s = .next (s.steerAsked i.val k.val).steerNow := by
  refine (State.core_ite_neg hrun (by simp [htrim]) _ _).trans ?_
  simp only [hwait, List.filter_nil, List.nil_append]
  rfl

/-- Settles O17: each command's own definition under its condition, and what a context, a key, an exception and a steering entry become. -/
theorem waitingPacketsGoOn : Obligations.WaitingPacketsGoOn := by
  unfold Obligations.WaitingPacketsGoOn
  refine ⟨?fetched, ?spilled, ?victim, ?filled, ?resolved, ?nak, ?room, ?steering⟩
  case fetched =>
    intro s n q hrun hq hwhere
    obtain ⟨hres, hheld⟩ := State.contextHere_spec hq
    refine ⟨s.contextHere n.toNat, hres, hheld, (State.core_of_runs hrun _).trans ?_⟩
    simp only [hq, hwhere, beq_self_eq_true, if_true]
    rfl
  case spilled =>
    intro s n q hrun hq hwhere
    refine (State.core_of_runs hrun _).trans ?_
    simp only [hq, hwhere, beq_self_eq_true, if_true]
  case victim =>
    intro s n m q x hrun hq hx hne hwhere hwanted hidle
    obtain ⟨hspilling, hfetching⟩ := State.swapContext_spec hq hx hne
    refine ⟨s.swapContext m n.toNat, (State.core_of_runs hrun _).trans ?_, hspilling, hfetching, rfl⟩
    simp only [hq, hwhere, hwanted, hidle, beq_self_eq_true, Bool.and_self, if_true, List.foldl_cons, List.foldl_nil]
    rfl
  case filled =>
    intro s k hrun hwanted
    exact ⟨(if_pos hwanted).trans (State.core_of_runs hrun _), s.cached_cacheTouch _⟩
  case resolved =>
    intro s r hrun
    exact ⟨s.transitResolved r, s.mem_transitResolved r, rfl, rfl, State.core_of_runs hrun _⟩
  case nak =>
    intro s n q h hrun hq hheld hqpn hwhy
    exact exec_exceptionNakBuilt_of_only hrun hq hheld hqpn hwhy
  case room =>
    intro s k hrun
    exact ⟨fun h => State.core_ite_pos hrun h _ _, fun h => State.core_ite_neg hrun (Nat.not_lt.mpr h) _ _,
      fun h => State.core_ite_pos hrun h _ _, fun h => State.core_ite_neg hrun (by simp [h]) _ _⟩
  case steering =>
    intro s i k hrun hlen
    refine ⟨fun htrim => State.core_ite_pos hrun htrim _ _, fun htrim hwait htxns => ?_, fun htrim hwait hbusy => ?_⟩
    · refine ⟨s.steered i.val k.val, State.sliceOf_steered hlen i.val k.val, rfl, rfl, ?_⟩
      rw [exec_steeringChange_of_untrimmed hrun htrim hwait, State.steerNow_of_idle htxns]
    · rw [exec_steeringChange_of_untrimmed hrun htrim hwait, State.steerNow_of_busy hbusy]
      rfl

end Sys2Proof.Machine
end

section
/-! ## Requests of the device leave T1's frames and the flash alone (R102, R175, R180) -/

namespace Sys2Proof.Machine

/-- Where the pool's bytes are held: the frames of T1 and all of T2. -/
def State.storage (s : State) : List (Nat × Frame) × Flash := (s.tier.frames, s.flash)

theorem State.storage_of_parts {s t : State} (htier : t.tier = s.tier) (hflash : t.flash = s.flash) : t.storage = s.storage := by
  unfold State.storage
  rw [htier, hflash]

@[simp] theorem State.emit_storage (s : State) (o : Out) : (s.emit o).storage = s.storage :=
  storage_of_parts (emit_tier s o) (emit_flash s o)

@[simp] theorem State.touchQp_storage (s : State) (n : Nat) : (s.touchQp n).storage = s.storage := by
  unfold State.touchQp
  cases s.qp n <;> rfl

theorem State.linkSend_aboveLink (s : State) (bulk : Bool) (len : Nat) (o : Out) : (s.linkSend bulk len o).aboveLink = s.aboveLink := by
  unfold State.linkSend State.linkPut
  extract_lets x
  split
  · exact updLink_aboveLink s bulk _
  · rw [emit_aboveLink, updLink_aboveLink]

/-- A frame sent on the link, or kept until credits return, leaves the tiers, the flash and the transport as they were. -/
theorem State.linkSend_parts (s : State) (bulk : Bool) (len : Nat) (o : Out) :
    (s.linkSend bulk len o).tier = s.tier ∧ (s.linkSend bulk len o).flash = s.flash ∧ (s.linkSend bulk len o).net = s.net :=
  have habove := linkSend_aboveLink s bulk len o
  ⟨congrArg AboveLink.tier habove, congrArg AboveLink.flash habove, congrArg AboveLink.net habove⟩

theorem State.sendReq_storage (s : State) (n : Nat) (q : Qp) (r : DevReq) : (s.sendReq n q r).storage = s.storage := by
  unfold State.sendReq
  split
  · exact emit_storage s _
  · exact emit_storage s _

theorem sendPrefix_storage (s : State) (n : Nat) (q : Qp) (rs : List DevReq) : (sendPrefix s n q rs).1.storage = s.storage := by
  induction rs generalizing s with
  | nil => rfl
  | cons r rs ih =>
    unfold sendPrefix
    split
    · exact ih s
    · split
      · rfl
      · exact (ih _).trans (State.sendReq_storage s n q r)

theorem State.pumpReqs_storage (s : State) (n : Nat) : (s.pumpReqs n).storage = s.storage := by
  unfold State.pumpReqs
  split
  · next q _ =>
    split
    · exact sendPrefix_storage s n q q.reqs
    · rfl
  · rfl

theorem State.newReq_storage (s : State) (n : Nat) (kind : ReqKind) (addr : Nat) (key : BitVec 32) (rlen : Nat) (data : List Byte)
    (imm : Option (BitVec 32)) (wait : Option Nat) : (s.newReq n kind addr key rlen data imm wait).storage = s.storage := by
  unfold State.newReq
  split
  · extract_lets c r
    rw [pumpReqs_storage, touchQp_storage]
    rfl
  · rfl

theorem State.sendData_storage (s : State) (h kind qpn : Nat) (psn : Psn) (addr aux : Nat) (key : BitVec 32) (bs : List Byte) (region txn : Nat) :
    (s.sendData h kind qpn psn addr aux key bs region txn).1.storage = s.storage := by
  unfold State.sendData
  extract_lets m s1 s2
  have h2 : s2.storage = s1.storage := by
    obtain ⟨htier, hflash, -⟩ := linkSend_parts s1 true (48 + bs.length) (.data h m kind qpn psn addr aux key bs)
    exact storage_of_parts htier hflash
  split
  · exact h2
  · exact h2

theorem State.sendRec_storage (s : State) (h kind qpn addr aux : Nat) (bs : List Byte) (k : RecKind) :
    (s.sendRec h kind qpn addr aux bs k).1.storage = s.storage := by
  unfold State.sendRec
  have hdata := sendData_storage s h kind qpn 0 addr aux 0 bs 0 0
  split
  · split
    · exact hdata
    · exact hdata
  · rfl

theorem State.postEntry_storage (s : State) (n : Nat) (nq : Bool) (queue idx addr : Nat) (entry : List Byte) (imm : Bool) :
    (s.postEntry n nq queue idx addr entry imm).storage = s.storage := by
  unfold State.postEntry
  split
  · exact (newReq_storage _ _ _ _ _ _ _ _ _).trans (sendRec_storage s _ _ _ _ _ _ _)
  · rfl

theorem State.notify_storage (s : State) (n ring type queue arg0 arg1 key : Nat) :
    (s.notify n ring type queue arg0 arg1 key).storage = s.storage := by
  unfold State.notify
  split
  · extract_lets ring'
    split
    · split
      · extract_lets idx entry
        split
        · exact (postEntry_storage _ n true ring' idx _ entry _).trans rfl
        · rfl
      · rfl
    · rfl
  · rfl

/-- A damaged layer is reported to its readers; no byte of the pool moves (R227). -/
theorem State.streamDamage_storage (s : State) (id stored : Nat) : (s.streamDamage id stored).storage = s.storage := by
  unfold State.streamDamage
  split
  · next x _ =>
    extract_lets bad marked s1 s2
    have h2 : s2.storage = s.storage := by
      refine (foldl_view State.storage _ _ s1 (fun s e => ?_)).trans rfl
      split
      · exact notify_storage s _ _ _ _ _ _ _
      · rfl
    split
    · exact (storage_of_parts (record_tier s2 _ _ _ _ _) (record_flash s2 _ _ _ _ _)).trans h2
    · split
      · rfl
      · rfl
  · rfl

theorem State.streamsDamage_storage (s : State) (u : Nat) : (s.streamsDamage u).storage = s.storage := by
  refine foldl_view State.storage _ _ s (fun s e => foldl_view State.storage _ _ s (fun s l => ?_))
  split
  · exact streamDamage_storage s _ _
  · rfl

theorem State.lostDone_storage (s : State) (u : Nat) : (s.lostDone u).storage = s.storage := by
  unfold State.lostDone
  split <;> rfl

end Sys2Proof.Machine
end

section
/-! ## Fills, heals and deadlines of T1 (R64, R221 to R225, R378) -/

namespace Sys2Proof.Machine

/-! ### An event's bit -/

/-- Recording an event leaves its bit as setting the bit left it. -/
theorem State.reg_record_evt (s : State) (e : Event) (u : Nat) (pl : List Byte) (c : Nat) (lim : Option (Nat × Nat)) {b : Nat}
    (h1 : b ≠ Reg.AMB_EVT) (h2 : b ≠ Reg.AMB_OVERFLOW) (h3 : b ≠ Reg.AMB_LOST) :
    (s.record e u pl c lim).reg b = (s.setEvt e c).reg b := by
  unfold State.record
  extract_lets s1 key held s2 s3 a0 a1 s4
  have g2 : s2.reg b = s1.reg b := reg_ambLostDue s1 b h1
  have g4 : s4.reg b = s2.reg b := by
    simp only [s4]
    split <;> rfl
  split
  · rfl
  · split
    · exact reg_setReg_other s1 _ _ _ h2
    · split
      · exact (reg_of_regs (s := s3) rfl b).trans ((reg_count_other s2 _ _ h3).trans g2)
      · exact (reg_of_regs (ambStage_regs s4 _ _ _ _) b).trans (g4.trans g2)

/-- An event that occurs sets its bit, whether or not a record of it finds a place (R616). -/
theorem State.regBit_record {s : State} {e : Event} {c a n : Nat} (hevt : e.evtBit c = some (a, n)) (hn : n < 32) (h1 : a ≠ Reg.AMB_EVT)
    (h2 : a ≠ Reg.AMB_OVERFLOW) (h3 : a ≠ Reg.AMB_LOST) (u : Nat) (pl : List Byte) (lim : Option (Nat × Nat)) :
    (s.record e u pl c lim).regBit a n = true := by
  unfold State.regBit
  rw [reg_record_evt s e u pl c lim h1 h2 h3]
  unfold State.setEvt
  rw [hevt]
  exact regBit_setRegBit_same s a n true hn

/-! ### Deadlines -/

theorem State.txn_updTxn {s : State} {id : Nat} {f : Txn → Txn} (hf : ∀ t, (f t).id = t.id) : (s.updTxn id f).txn id = (s.txn id).map f := by
  unfold State.txn State.updTxn
  simp only [List.find?_map]
  have hsame : ((fun t : Txn => decide (t.id = id)) ∘ fun t => if t.id = id then f t else t) = fun t : Txn => decide (t.id = id) := by
    funext t
    by_cases h : t.id = id <;> simp [h, hf]
  rw [hsame]
  cases hx : s.net.txns.find? (fun t => decide (t.id = id)) with
  | none => rfl
  | some x =>
    have hid : x.id = id := by simpa using List.find?_some hx
    simp [hid]

/-- A deadline that passes is counted and recorded (R224). -/
def State.deadlineMissed (s : State) (t : Txn) : State :=
  (s.count Reg.TIER_DEADLINE_MISS).record .tierDeadline 0 (leBytes 8 t.addr ++ leBytes 4 t.qpn) 0 (perSecond 0)

/-- The range of a READ that was not delivered by its deadline; all of it where every line was (R225). -/
def State.lateRange (s : State) (t : Txn) : Nat × Nat := (s.undelivered t).getD (0, t.len - 1)

/-- A READ placed at its deadline: all its bytes, the range that failed, and whether its connection is ruined (R221, R225). -/
def State.readLate (s : State) (t : Txn) (r : Region) (id : Nat) : State :=
  s.updTxn id (fun x => { x with placed := true, got := s.deadlineBytes t r, failed := some (s.lateRange t), ruined := r.failqp })

theorem exec_t2Deadline_of_read {s : State} {id : Nat} {t : Txn} {r : Region} (hrun : s.coreRuns = true) (ht : s.txn id = some t)
    (hr : s.region t.region = some r) (haccepted : t.accepted = true) (hplaced : t.placed = false) (hop : t.op = .read) :
    exec (.t2Deadline id) s = .next ((s.deadlineMissed t).readLate t r id).settle := by
  refine (State.core_of_runs hrun _).trans ?_
  simp only [ht, hr, haccepted, hplaced, hop, TxnOp.reads, Bool.not_false, Bool.and_self, if_true]
  unfold State.readLate State.lateRange State.deadlineMissed
  cases State.undelivered ((s.count Reg.TIER_DEADLINE_MISS).record .tierDeadline 0 (leBytes 8 t.addr ++ leBytes 4 t.qpn) 0 (perSecond 0)) t with
  | none => rfl
  | some b => rfl

theorem State.deadlineMissed_spec (s : State) (t : Txn) :
    ((s.deadlineMissed t).reg Reg.TIER_DEADLINE_MISS).toNat = s.plusOne Reg.TIER_DEADLINE_MISS ∧
      (s.deadlineMissed t).regBit Reg.TIER_EVT 0 = true ∧ (s.deadlineMissed t).net = s.net := by
  refine ⟨?_, regBit_record (s := s.count _) rfl (by decide) (by decide) (by decide) (by decide) _ _ _, record_net _ _ _ _ _ _⟩
  unfold State.deadlineMissed
  rw [reg_record _ _ _ _ _ _ _ (by decide)]
  exact count_toNat rfl

theorem State.readLate_spec {s : State} {id : Nat} {t : Txn} (ht : s.txn id = some t) (r : Region) :
    ((s.readLate t r id).txn id).map (fun x => (x.placed, x.got.length, x.failed.isSome, x.ruined)) = some (true, t.len, true, r.failqp) := by
  unfold State.readLate
  rw [txn_updTxn (f := fun x => { x with placed := true, got := s.deadlineBytes t r, failed := some (s.lateRange t), ruined := r.failqp })
    (fun _ => rfl), ht]
  simp [State.deadlineBytes]

/-! ### Heals -/

/-- A bit of a mask to which lines were added one by one. -/
theorem getLsbD_foldl_lineBit (ls : List Nat) (f : Nat → Nat) (m : BitVec 256) {j : Nat} (hj : j < 256) :
    (ls.foldl (fun m i => m ||| lineBit (f i)) m).getLsbD j = (m.getLsbD j || ls.any (fun i => decide (f i = j))) := by
  induction ls generalizing m with
  | nil => simp
  | cons i ls ih =>
    have hbit : (lineBit (f i)).getLsbD j = decide (f i = j) := by
      unfold lineBit
      rw [BitVec.getLsbD_ofNat, Nat.one_shiftLeft, Nat.testBit_two_pow]
      simp [hj]
    rw [List.foldl_cons, ih, BitVec.getLsbD_or, hbit, List.any_cons, Bool.or_assoc]

theorem State.frame_setFrame (s : State) (u : Nat) (f : Frame) : (s.setFrame u f).frame u = some f := kget_kput_same s.tier.frames u f

theorem State.frame_of_storage {s t : State} (h : t.storage = s.storage) (u : Nat) : t.frame u = s.frame u := by
  unfold State.frame
  exact congrArg (fun x => kget x.1 u) h

/-- A piece of heal data makes each of its 64 lines valid: those that were missing are written (R222). -/
theorem State.healPiece_spec {s : State} {u : Nat} {f : Frame} (hf : s.frame u = some f) {k : Nat} (hk : k < 4) (data : List Byte)
    (poison : BitVec 64) :
    (∃ g, (s.healPiece u k data poison).frame u = some g ∧ ∀ i, i < 64 → g.valid.getLsbD (k * 64 + i) = true) ∧
      (s.healPiece u k data poison).flash = s.flash := by
  unfold State.healPiece
  simp only [hf]
  refine ⟨⟨_, frame_setFrame _ u _, fun i hi => ?_⟩, foldl_view State.flash _ _ s (fun _ _ => rfl)⟩
  rw [BitVec.getLsbD_or, getLsbD_foldl_lineBit _ (fun i => k * 64 + i) 0 (by omega)]
  cases hv : f.valid.getLsbD (k * 64 + i) with
  | true => rfl
  | false =>
    have hwritten : i ∈ (List.range 64).filter (fun i => !(f.valid.getLsbD (k * 64 + i)) ||
        s.tier.uncorr.any (fun w => decide (w / 8 = (u * unitBytes + k * 4096) / 64 + i))) :=
      List.mem_filter.mpr ⟨List.mem_range.mpr hi, by simp [hv]⟩
    rw [Bool.false_or, List.any_eq_true.mpr ⟨i, hwritten, decide_eq_true rfl⟩, Bool.or_true]

/-- A unit that is healed keeps its valid lines, and nothing of T2 changes (R222). -/
theorem State.healDone_spec {s : State} {u : Nat} {f : Frame} (hf : s.frame u = some f) :
    (∃ g, (s.healDone u).frame u = some g ∧ g.valid = f.valid) ∧ (s.healDone u).flash = s.flash := by
  unfold State.healDone
  simp only [hf]
  split
  · have hstorage := fun v : State => (lostDone_storage (v.streamsDamage u) u).trans (streamsDamage_storage v u)
    refine ⟨⟨{ f with filling := false, dirty := if s.volatileUnit u then f.dirty else allLines }, ?_, rfl⟩, congrArg Prod.snd (hstorage _)⟩
    rw [frame_of_storage (hstorage _)]
    exact frame_setFrame s u _
  · exact ⟨⟨f, hf, rfl⟩, rfl⟩

/-- The waits for fills that touch a unit are over (R65). -/
def State.fillsOver (s : State) (u : Nat) : State :=
  { s with net := { s.net with txns := s.net.txns.map (fun t =>
    if overlaps t.addr t.len (u * unitBytes) unitBytes then { t with waitFill := false, waitBuffer := false } else t) } }

/-- Heal data for a frame that stands goes into it, and what waited for the unit goes on (R222). -/
theorem exec_healData_of_frame {s : State} {h : Fin 2} {u n : Nat} {f : Frame} (hrun : s.coreRuns = true) {data : List Byte}
    (hlen : data.length = 4096) (hasked : s.tier.heals.contains (u, n) = true) (hhome : s.homeOfUnit u = some h.val) (hf : s.frame u = some f)
    (k : Fin 4) (poison : BitVec 64) :
    exec (.healData h u n k data poison) s = .next (((s.healPiece u k.val data poison).healDone u).fillsOver u).settle.spaceCheck := by
  refine (if_neg (by simp [hlen])).trans ((State.core_ite_pos hrun (by rw [hasked, hhome]; simp) _ _).trans ?_)
  simp only [hf]
  rfl

/-- A heal request for a readable unit is counted; the four pieces leave on the link (R378). -/
def State.healServed (s : State) (h u n : Nat) : State :=
  (List.range 4).foldl (fun s i => s.linkSend true 4128
    (.heal 6 h u n i ((span (u * unitBytes + i * 4096) 4096).map s.anyByte) (s.piecePoison u i))) (s.count Reg.TWN_HEALS_SERVED)

theorem State.healServed_spec (s : State) (h u n : Nat) :
    ((s.healServed h u n).reg Reg.TWN_HEALS_SERVED).toNat = s.plusOne Reg.TWN_HEALS_SERVED ∧ (s.healServed h u n).tier = s.tier ∧
      (s.healServed h u n).flash = s.flash ∧ (s.healServed h u n).net = s.net := by
  have hregs : (s.healServed h u n).regs = (s.count Reg.TWN_HEALS_SERVED).regs :=
    foldl_view State.regs _ _ _ (fun s i => linkSend_regs s _ _ _ rfl)
  refine ⟨?_, foldl_view State.tier _ _ (s.count Reg.TWN_HEALS_SERVED) (fun s i => (linkSend_parts s _ _ _).1),
    foldl_view State.flash _ _ (s.count Reg.TWN_HEALS_SERVED) (fun s i => (linkSend_parts s _ _ _).2.1),
    foldl_view State.net _ _ (s.count Reg.TWN_HEALS_SERVED) (fun s i => (linkSend_parts s _ _ _).2.2)⟩
  rw [reg_of_regs hregs]
  exact count_toNat rfl

/-- Settles O18: each command's own definition under its condition, and what a deadline and heal data leave. -/
theorem tierFillsHealsAndDeadlines : Obligations.TierFillsHealsAndDeadlines := by
  unfold Obligations.TierFillsHealsAndDeadlines
  refine ⟨?fill, ?deadline, ?request, ?data, ?fail, ?transient⟩
  case fill =>
    intro s u k f hrun hf hfilling
    refine ⟨(State.core_of_runs hrun _).trans ?_, (State.core_of_runs hrun _).trans ?_⟩
    · simp only [hf, hfilling, Bool.not_true, Bool.false_eq_true, if_false, if_true]
    · simp only [hf, hfilling, Bool.not_true, Bool.false_eq_true, if_false]
  case deadline =>
    intro s id t r hrun ht hr haccepted hplaced hop
    obtain ⟨hcounted, hevt, hnet⟩ := s.deadlineMissed_spec t
    have ht' : (s.deadlineMissed t).txn id = some t := by
      unfold State.txn at ht ⊢
      rw [hnet, ht]
    exact ⟨_, .inl (exec_t2Deadline_of_read hrun ht hr haccepted hplaced hop), State.readLate_spec ht' r, hcounted, hevt⟩
  case request =>
    intro s h u n hrun hup
    refine ⟨fun hreadable => ⟨s.healServed h.val u n, (State.core_ite_neg hrun (by simp [hup]) _ _).trans ?_, s.healServed_spec h.val u n⟩,
      fun hlost => (State.core_ite_neg hrun (by simp [hup]) _ _).trans ?_⟩
    · exact congrArg Host.Outcome.next (if_pos hreadable)
    · exact congrArg Host.Outcome.next (if_neg (by simp [hlost]))
  case data =>
    intro s h u n k data poison f hrun hlen hasked hhome hf
    obtain ⟨⟨g, hg, hvalid⟩, hflash⟩ := State.healPiece_spec hf k.isLt data poison
    obtain ⟨⟨g', hg', hsame⟩, hflash'⟩ := State.healDone_spec hg
    exact ⟨_, .inr (exec_healData_of_frame hrun hlen hasked hhome hf k poison), g', hg', fun i hi => by rw [hsame]; exact hvalid i hi,
      hflash'.trans hflash⟩
  case fail =>
    intro s h u n hrun hasked hhome
    exact State.core_ite_pos hrun (by rw [hasked, hhome]; simp) _ _
  case transient =>
    intro s u hrun hnone
    refine ⟨{ s with net := { s.net with txns := s.net.txns.map (fun t => { t with waitTransient := false }) } },
      .inl ((State.core_of_runs hrun _).trans ?_), rfl, rfl⟩
    simp only [hnone]
    rfl

end Sys2Proof.Machine
end

section
/-! ## Keys and regions of admin capsules (R132 to R148, R166) -/

namespace Sys2Proof.Machine

/-- A capsule of the row that is there to start is carried out, and what it lets go on does (R164). -/
theorem State.core_startCap_of_capFor {s : State} {c : CapRef} {row : CapRow} {qp : Qp} {bs : List Byte} (h : s.capFor c row qp bs)
    (go : Qp → List Byte → State → State) : s.core (s.startCap c row go) = .next (go qp bs (s.started c)).settle := by
  rw [startCap_of_capFor h]
  exact core_of_runs h.1.1 _

/-- A key that passes check 1 is a valid entry of the key table. -/
theorem State.key_of_findKey {s : State} {qpn : Nat} {k : BitVec 32} {e : Key} (h : s.findKey qpn k = some e) :
    s.key (keyIndex k) = some e ∧ e.valid = true := by
  unfold State.findKey at h
  cases hf : s.key (keyIndex k) with
  | none => simp [hf] at h
  | some f =>
    simp only [hf, Option.ite_none_right_eq_some, Option.some.injEq, Bool.and_eq_true] at h
    obtain ⟨⟨⟨⟨⟨hvalid, -⟩, -⟩, -⟩, -⟩, rfl⟩ := h
    exact ⟨rfl, hvalid⟩

/-- The connection may name the key (R143), so the capsule goes on with its entry and region. -/
theorem State.adminKey_of_ok {s : State} {c : CapRef} {qp : Qp} {key : BitVec 32} {e : Key} {r : Region} (h : s.adminKeyOk c qp key e r)
    (go : Key → Region → State → State) (tell : Bool) : s.adminKey c qp key go tell = go e r s := by
  obtain ⟨hfind, hregion, hhome, hname⟩ := h
  have hpd : (!qp.admin && r.pd != qp.pd) = false := by
    rcases hname with hadmin | hpd
    · rw [hadmin]; rfl
    · rw [hpd, bne_self_eq_false, Bool.and_false]
  unfold State.adminKey
  simp only [hfind, hregion, hhome, hpd, bne_self_eq_false, Bool.false_eq_true, if_false]

/-- A change in place of one key-table entry. -/
theorem State.key_changeKey (s : State) (h i j : Nat) (f : Key → Key) :
    (s.changeKey h i f).key j = if j = i then (s.key j).map f else s.key j := kget_kupd s.prot.keys i j f

theorem State.key_changeKey_self {s : State} {i : Nat} {e : Key} (he : s.key i = some e) (h : Nat) (f : Key → Key) :
    (s.changeKey h i f).key i = some (f e) := by
  rw [key_changeKey, if_pos rfl, he, Option.map_some]

theorem State.region_updRegion_self {s : State} {b : Nat} {r : Region} (hr : s.region b = some r) (f : Region → Region) :
    (s.updRegion b f).region b = some (f r) := by
  have h : (s.updRegion b f).region b = if b = b then (s.region b).map f else s.region b := kget_kupd s.prot.regions b b f
  rw [h, if_pos rfl, hr, Option.map_some]

/-! ### Keys issued and regions made -/

/-- What the entry of a key says of its range. -/
def Key.grant (k : Key) : Nat × Nat × Nat × Rights × Bool := (k.region, k.off, k.len, k.rights, k.valid)

/-- A key that is issued is valid over its range with its rights, and no region changes (R137). -/
theorem State.issueKey_spec {s w : State} {region off len i : Nat} {rights : Rights} {aperture : Option Nat}
    (h : s.issueKey region off len rights aperture = some (w, i)) :
    (w.key i).map Key.grant = some (region, off, len, rights, true) ∧ w.prot.regions = s.prot.regions := by
  unfold State.issueKey at h
  split at h
  · cases h
  · cases h
    exact ⟨congrArg (Option.map Key.grant) (kget_kput_same s.prot.keys i _), rfl⟩

/-- The region that a REGION_CREATE asks for (Table 04-1). -/
def regionOf (r : ColCreate) (h : Nat) : Region :=
  { home := h, pd := r.pd, volatile := r.volatile, dflush := r.dflush, mirror := r.mirror, failqp := r.failqp, len := r.len,
    maxRights := r.rights, keyDomain := r.keyDomain }

/-- A region that is made stands at the lowest free base with a key over all of it, and its key domain was ready (R132, R204, R478). -/
theorem State.makeRegion_spec {s w : State} {h i : Nat} {r : ColCreate} (hmade : s.makeRegion h r = some (w, i)) :
    s.domainReady h r.volatile r.keyDomain = true ∧ w.region (freeBase r.len s.prot.regions 0) = some (regionOf r h) ∧
      (w.key i).map Key.grant = some (freeBase r.len s.prot.regions 0, 0, r.len, r.rights, true) := by
  unfold State.makeRegion at hmade
  extract_lets base at hmade
  split at hmade
  · cases hmade
  · next hready =>
    split at hmade
    · cases hmade
    · split at hmade
      · cases hmade
      · next s1 j hkey =>
        cases hmade
        exact ⟨by simpa using hready, kget_kput_same s1.prot.regions base _, (issueKey_spec hkey).1⟩

/-- A REGION_CREATE that keeps Table 04-1 and that its connection may ask for, outside a colony, completes when the region is made. -/
theorem State.capRegionCreate_of_made {s w : State} {c : CapRef} {qp : Qp} {bs : List Byte} {i : Nat}
    (hdflush : (capField bs 32 1).testBit 1 = false ∨ (capField bs 32 1).testBit 0 = false)
    (hmirror : (capField bs 32 1).testBit 2 = true → (capField bs 32 1).testBit 0 = true)
    (hunit : capField bs 40 8 % granuleBytes = 0) (hpos : capField bs 40 8 ≠ 0) (hmax : capField bs 40 8 ≤ 2 ^ 49)
    (hpd : qp.admin = true ∨ capField bs 34 2 = qp.pd) (hdir : s.directoryConn qp = false) (hworker : s.colWorker = false)
    (hmade : s.makeRegion qp.home (createOf bs) = some (w, i)) :
    s.capRegionCreate c qp bs = w.okCap c (keyValue i (((w.key i).map (·.tag)).getD 0)).toNat := by
  have hform : ¬((((capField bs 32 1).testBit 1 && (capField bs 32 1).testBit 0) ||
      ((capField bs 32 1).testBit 2 && !(capField bs 32 1).testBit 0) || capField bs 40 8 % granuleBytes != 0 ||
      capField bs 40 8 = 0 || 2 ^ 49 < capField bs 40 8) = true) := by
    simp only [Bool.or_eq_true, Bool.and_eq_true, Bool.not_eq_true', bne_iff_ne, decide_eq_true_eq]
    rintro ((((⟨hd, hv⟩ | ⟨hm, hv⟩) | hu) | h0) | hlong)
    · rcases hdflush with h | h
      · rw [h] at hd; cases hd
      · rw [h] at hv; cases hv
    · rw [hmirror hm] at hv; cases hv
    · exact hu hunit
    · exact hpos h0
    · omega
  have hallowed : ¬((!qp.admin && capField bs 34 2 != qp.pd) = true) := by
    rcases hpd with hadmin | hpd
    · simp [hadmin]
    · simp [hpd]
  have hready := (makeRegion_spec hmade).1
  unfold createOf at hmade hready
  unfold State.capRegionCreate
  simp only [hform, hallowed, hdir, hworker, hready, hmade, Bool.not_true, Bool.false_eq_true, if_false]

/-- A REGION_CREATE of no whole number of granules fails (R132, Table 04-1). -/
theorem State.capRegionCreate_unaligned (s : State) (c : CapRef) (qp : Qp) {bs : List Byte} (h : capField bs 40 8 % granuleBytes ≠ 0) :
    s.capRegionCreate c qp bs = s.failCap c stInvalidField := by
  unfold State.capRegionCreate
  exact if_pos (by simp [bne_iff_ne.mpr h])

/-- A KEY_GRANT within its region issues the key and completes with it (R137, R415). -/
theorem State.capKeyGrant_of_issued {s w : State} {c : CapRef} {qp : Qp} {bs : List Byte} {e : Key} {r : Region} {i : Nat}
    (hkey : s.adminKeyOk c qp (capKey bs) e r) (hoff : capField bs 32 8 % 4096 = 0) (hlen : capField bs 40 8 % 4096 = 0)
    (hin : capField bs 32 8 + capField bs 40 8 ≤ r.len) (hrights : BitVec.ofNat 5 (capField bs 48 1) &&& ~~~r.maxRights = 0)
    (hroom : (s.regionKeys e.region).length < 256)
    (hissued : s.issueKey e.region (capField bs 32 8) (capField bs 40 8) (BitVec.ofNat 5 (capField bs 48 1)) none = some (w, i)) :
    s.capKeyGrant c qp bs =
      (w.noteKey r.home i).okCapKeys c (keyValue i (((w.key i).map (·.tag)).getD 0)).toNat [(i, true)] [] := by
  unfold State.capKeyGrant
  rw [adminKey_of_ok hkey]
  simp only [hoff, hlen, hrights, Nat.not_lt.mpr hin, Nat.not_le.mpr hroom, hissued, bne_self_eq_false, decide_false, Bool.or_self,
    Bool.false_eq_true, if_false]

/-- KEY_GRANT with EXISTING that takes no right away changes the key at once (R148). -/
theorem State.capKeyExisting_of_raised {s : State} {c : CapRef} {qp : Qp} {bs : List Byte} {e : Key} {r : Region}
    (hkey : s.adminKeyOk c qp (capKey bs) e r) (hoff : capField bs 32 8 = 0) (hlen : capField bs 40 8 = 0)
    (hrights : BitVec.ofNat 5 (capField bs 48 1) &&& ~~~r.maxRights = 0) (hraise : e.rights &&& ~~~(BitVec.ofNat 5 (capField bs 48 1)) = 0) :
    s.capKeyExisting c qp bs =
      (s.changeKey r.home (keyIndex (capKey bs)) (fun k => { k with rights := BitVec.ofNat 5 (capField bs 48 1) })).okCap c
        (capKey bs).toNat := by
  unfold State.capKeyExisting
  rw [adminKey_of_ok hkey]
  simp only [hoff, hlen, hrights, hraise, bne_self_eq_false, Bool.or_self, Bool.false_eq_true, if_false]

/-- KEY_GRANT with EXISTING that takes a right away is a fenced change (R148). -/
theorem State.capKeyExisting_of_lowered {s : State} {c : CapRef} {qp : Qp} {bs : List Byte} {e : Key} {r : Region}
    (hkey : s.adminKeyOk c qp (capKey bs) e r) (hoff : capField bs 32 8 = 0) (hlen : capField bs 40 8 = 0)
    (hrights : BitVec.ofNat 5 (capField bs 48 1) &&& ~~~r.maxRights = 0) (hlower : e.rights &&& ~~~(BitVec.ofNat 5 (capField bs 48 1)) ≠ 0) :
    s.capKeyExisting c qp bs =
      s.fence e.region r.home (.keyRights (keyIndex (capKey bs)) (BitVec.ofNat 5 (capField bs 48 1))) (some c) (capKey bs).toNat := by
  unfold State.capKeyExisting
  rw [adminKey_of_ok hkey]
  simp only [hoff, hlen, hrights, bne_iff_ne.mpr hlower, bne_self_eq_false, Bool.or_self, Bool.false_eq_true, if_false, if_true]

/-! ### REGION_CREATE with MODIFY -/

/-- A REGION_CREATE with MODIFY keeps what Table 04-1 lets no change touch. -/
def modifyFormOk (r : Region) (bs : List Byte) : Prop :=
  (capField bs 32 1).testBit 0 = r.volatile ∧ (capField bs 32 1).testBit 2 = r.mirror ∧
    ((capField bs 32 1).testBit 1 && r.volatile) = false ∧ capField bs 34 2 = r.pd ∧ capField bs 36 2 = r.keyDomain ∧ capField bs 40 8 = r.len

/-- It takes a right away, or alters the durability or error policy, so that it needs a fence (R148). -/
def modifyFenced (r : Region) (bs : List Byte) : Prop :=
  r.maxRights &&& ~~~(BitVec.ofNat 5 (capField bs 33 1)) ≠ 0 ∨ (capField bs 32 1).testBit 1 ≠ r.dflush ∨ (capField bs 32 1).testBit 3 ≠ r.failqp

theorem State.capRegionModify_of_form {s : State} {c : CapRef} {qp : Qp} {bs : List Byte} {e : Key} {r : Region}
    (hkey : s.adminKeyOk c qp (capKey bs) e r) (hform : modifyFormOk r bs) :
    s.capRegionModify c qp bs =
      if ((r.maxRights &&& ~~~(BitVec.ofNat 5 (capField bs 33 1))) != 0 || (capField bs 32 1).testBit 1 != r.dflush ||
          (capField bs 32 1).testBit 3 != r.failqp) = true then
        s.fence e.region r.home (.modify (BitVec.ofNat 5 (capField bs 33 1)) ((capField bs 32 1).testBit 1) ((capField bs 32 1).testBit 3))
          (some c) 0
      else ((s.updRegion e.region (fun x => { x with maxRights := BitVec.ofNat 5 (capField bs 33 1) })).noteRegion false e.region
        { r with maxRights := BitVec.ofNat 5 (capField bs 33 1) }).okCap c := by
  obtain ⟨hvol, hmirror, hdflush, hpd, hdomain, hlen⟩ := hform
  unfold State.capRegionModify
  rw [adminKey_of_ok hkey]
  simp only [hvol, hmirror, hdflush, hpd, hdomain, hlen, bne_self_eq_false, Bool.or_self, Bool.false_eq_true, if_false]

theorem State.capRegionModify_of_raised {s : State} {c : CapRef} {qp : Qp} {bs : List Byte} {e : Key} {r : Region}
    (hkey : s.adminKeyOk c qp (capKey bs) e r) (hform : modifyFormOk r bs) (hraise : ¬ modifyFenced r bs) :
    s.capRegionModify c qp bs = ((s.updRegion e.region (fun x => { x with maxRights := BitVec.ofNat 5 (capField bs 33 1) })).noteRegion false
      e.region { r with maxRights := BitVec.ofNat 5 (capField bs 33 1) }).okCap c := by
  rw [capRegionModify_of_form hkey hform]
  exact if_neg (by simpa only [modifyFenced, Bool.or_eq_true, bne_iff_ne, or_assoc] using hraise)

theorem State.capRegionModify_of_fenced {s : State} {c : CapRef} {qp : Qp} {bs : List Byte} {e : Key} {r : Region}
    (hkey : s.adminKeyOk c qp (capKey bs) e r) (hform : modifyFormOk r bs) (hfence : modifyFenced r bs) :
    s.capRegionModify c qp bs = s.fence e.region r.home
      (.modify (BitVec.ofNat 5 (capField bs 33 1)) ((capField bs 32 1).testBit 1) ((capField bs 32 1).testBit 3)) (some c) 0 := by
  rw [capRegionModify_of_form hkey hform]
  exact if_pos (by simpa only [modifyFenced, Bool.or_eq_true, bne_iff_ne, or_assoc] using hfence)

/-- Settles O24: each capsule starts, its key passes, and it goes the way that its fields choose; the entries it leaves are those
that issuing a key, making a region and changing an entry in place leave. -/
theorem regionsAndKeysAreMade : Obligations.RegionsAndKeysAreMade := by
  unfold Obligations.RegionsAndKeysAreMade
  refine ⟨?create, ?unaligned, ?grant, ?raise, ?modify⟩
  case create =>
    intro s c qp bs w i hcap hdflush hmirror hunit hpos hmax hpd hdir hworker hmade
    obtain ⟨-, hregion, hkey⟩ := State.makeRegion_spec hmade
    refine ⟨w, (State.core_startCap_of_capFor hcap _).trans ?_, ?_, ?_, hkey⟩
    · rw [State.capRegionCreate_of_made (s := s.started c) hdflush hmirror hunit hpos hmax hpd hdir hworker hmade]
    · exact congrArg (Option.map fun r => (r.home, r.pd, r.len, r.keyDomain)) hregion
    · exact congrArg (Option.map fun r => (r.volatile, r.dflush, r.mirror, r.failqp, r.maxRights)) hregion
  case unaligned =>
    intro s c qp bs hcap hunit
    refine ⟨s.started c, 0, 0, 0, .inl ((State.core_startCap_of_capFor hcap _).trans ?_), rfl⟩
    rw [State.capRegionCreate_unaligned _ c qp hunit]
  case grant =>
    intro s c qp bs e r w i hcap hkey hoff hlen hin hrights hroom hissued
    obtain ⟨hentry, hregions⟩ := State.issueKey_spec hissued
    refine ⟨w.noteKey r.home i, (State.core_startCap_of_capFor hcap _).trans ?_, hentry, hregions⟩
    rw [State.capKeyGrant_of_issued (s := s.started c) hkey hoff hlen hin hrights hroom hissued]
  case raise =>
    intro s c qp bs e r hcap hkey hoff hlen hrights hraise
    have hexec := State.core_startCap_of_capFor hcap (fun qp bs s => s.capKeyExisting c qp bs)
    rw [State.capKeyExisting_of_raised (s := s.started c) hkey hoff hlen hrights hraise] at hexec
    exact ⟨_, hexec, State.key_changeKey_self (s := s.started c) (State.key_of_findKey hkey.1).1 r.home _, rfl⟩
  case modify =>
    intro s c qp bs e r hcap hkey hvol hmirror hdflush hdflushVol hfailqp hpd hdomain hlen hraise
    have hnone : ¬ modifyFenced r bs := by simp [modifyFenced, hdflush, hfailqp, hraise]
    have hexec := State.core_startCap_of_capFor hcap (fun qp bs s => s.capRegionModify c qp bs)
    rw [State.capRegionModify_of_raised (s := s.started c) hkey ⟨hvol, hmirror, hdflushVol, hpd, hdomain, hlen⟩ hnone] at hexec
    exact ⟨_, hexec, State.region_updRegion_self (s := s.started c) hkey.2.1 _, rfl⟩

end Sys2Proof.Machine
end

section
/-! ## Fenced changes that begin (R148 to R152) -/

namespace Sys2Proof.Machine

/-- The greatest fence number so far bounds that of every fence. -/
theorem id_le_foldl_max (fs : List Fence) (m : Nat) :
    m ≤ fs.foldl (fun m f => max m f.id) m ∧ ∀ f ∈ fs, f.id ≤ fs.foldl (fun m f => max m f.id) m := by
  induction fs generalizing m with
  | nil => exact ⟨Nat.le_refl m, fun f hf => nomatch hf⟩
  | cons g fs ih =>
    obtain ⟨hstart, hall⟩ := ih (max m g.id)
    refine ⟨Nat.le_trans (Nat.le_max_left m g.id) hstart, fun f hf => ?_⟩
    rcases List.mem_cons.mp hf with rfl | hf
    · exact Nat.le_trans (Nat.le_max_right m f.id) hstart
    · exact hall f hf

/-- A fence as it is accepted: with the next number, and not begun. -/
def State.newFence (s : State) (region home : Nat) (kind : FenceKind) (cap : Option CapRef) (result : Nat) : Fence :=
  { id := s.prot.fences.foldl (fun m f => max m f.id) s.prot.fenceId + 1, region := region, home := home, kind := kind, cap := cap, result := result }

/-- A fence enters the list of fences. -/
def State.addFence (s : State) (f : Fence) : State := { s with prot := { s.prot with fenceId := f.id, fences := s.prot.fences ++ [f] } }

/-- A new fence is the only one with its number. -/
theorem State.find_addFence (s : State) (region home : Nat) (kind : FenceKind) (cap : Option CapRef) (result : Nat) :
    (s.addFence (s.newFence region home kind cap result)).prot.fences.find?
      (fun f => decide (f.id = (s.newFence region home kind cap result).id)) = some (s.newFence region home kind cap result) := by
  have hold : s.prot.fences.find? (fun f => decide (f.id = (s.newFence region home kind cap result).id)) = none := by
    refine List.find?_eq_none.mpr fun f hf => ?_
    have hle := (id_le_foldl_max s.prot.fences s.prot.fenceId).2 f hf
    exact fun heq => absurd (of_decide_eq_true heq) (Nat.ne_of_lt (Nat.lt_succ_of_le hle))
  unfold State.addFence
  rw [List.find?_append, hold]
  simp

/-- A change to a region without a fence begins at once (R152). -/
theorem State.fence_of_free {s : State} {region : Nat} (hfree : ∀ f ∈ s.prot.fences, f.region ≠ region) (home : Nat) (kind : FenceKind)
    (cap : Option CapRef) (result : Nat) :
    s.fence region home kind cap result =
      (s.addFence (s.newFence region home kind cap result)).fenceBegin (s.newFence region home kind cap result).id := by
  have hbusy : s.prot.fences.any (fun f => decide (f.region = region)) = false := by
    simpa only [List.any_eq_false, decide_eq_true_eq] using hfree
  unfold State.fence
  simp only [hbusy, Bool.false_eq_true, if_false]
  rfl

/-! ### The new state in the tables (R149) -/

theorem State.foldl_changeKey_regions (s : State) (h : Nat) (f : Key → Key) (ks : List Nat) :
    (ks.foldl (fun s i => s.changeKey h i f) s).prot.regions = s.prot.regions :=
  foldl_view (fun s => s.prot.regions) _ ks s (fun _ _ => rfl)

theorem State.foldl_changeKey_fences (s : State) (h : Nat) (f : Key → Key) (ks : List Nat) :
    (ks.foldl (fun s i => s.changeKey h i f) s).prot.fences = s.prot.fences :=
  foldl_view (fun s => s.prot.fences) _ ks s (fun _ _ => rfl)

/-- The new state of a change enters the tables and no list of fences. -/
theorem State.fenceWrite_fences (s : State) (f : Fence) : (s.fenceWrite f).prot.fences = s.prot.fences := by
  unfold State.fenceWrite
  cases hkind : f.kind with
  | revoke i => rfl
  | keyRights i r => rfl
  | destroy => exact foldl_changeKey_fences _ _ _ _
  | modify r d q =>
    simp only []
    split <;> exact foldl_changeKey_fences _ _ _ _
  | withdraw =>
    simp only []
    split <;> exact foldl_changeKey_fences _ _ _ _

/-- A change of one kind on a region without a fence: its fence stands in the list and has begun, and the key table and the regions
hold what the change writes. -/
theorem State.fence_spec {s : State} {region : Nat} (hfree : ∀ f ∈ s.prot.fences, f.region ≠ region) (home : Nat) (kind : FenceKind)
    (cap : Option CapRef) (result : Nat) :
    (∃ g ∈ (s.fence region home kind cap result).prot.fences, g.region = region ∧ g.kind = kind ∧ g.cap = cap ∧ g.result = result ∧
      g.begun = true) ∧
    ∃ (u : State) (f : Fence), u.prot.keys = s.prot.keys ∧ u.prot.regions = s.prot.regions ∧ f.region = region ∧ f.kind = kind ∧
      (s.fence region home kind cap result).prot.keys = (u.fenceWrite f).prot.keys ∧
      (s.fence region home kind cap result).prot.regions = (u.fenceWrite f).prot.regions := by
  rw [fence_of_free hfree]
  unfold State.fenceBegin
  rw [find_addFence]
  refine ⟨?_, s.addFence (s.newFence region home kind cap result), s.newFence region home kind cap result, rfl, rfl, rfl, rfl, rfl, rfl⟩
  refine ⟨_, List.mem_map.mpr ⟨s.newFence region home kind cap result, ?_, if_pos rfl⟩, rfl, rfl, rfl, rfl, rfl⟩
  rw [fenceWrite_fences]
  exact List.mem_append_right _ (List.mem_singleton_self _)

/-- Entries that are valid after keys were made invalid were valid before and are none of those keys. -/
theorem State.mem_keys_of_invalidated {s : State} {h : Nat} {ks : List Nat} {e : Nat × Key}
    (he : e ∈ (ks.foldl (fun s i => s.changeKey h i (fun k => { k with valid := false, fencing := true })) s).prot.keys)
    (hvalid : e.2.valid = true) : e ∈ s.prot.keys ∧ e.1 ∉ ks := by
  induction ks generalizing s with
  | nil => exact ⟨he, List.not_mem_nil⟩
  | cons i ks ih =>
    obtain ⟨hmem, hrest⟩ := ih he
    obtain ⟨e', he', heq⟩ := List.mem_map.mp (show e ∈ kupd s.prot.keys i (fun k => { k with valid := false, fencing := true }) from hmem)
    by_cases hi : e'.1 = i
    · rw [if_pos hi] at heq
      rw [← heq] at hvalid
      cases hvalid
    · rw [if_neg hi] at heq
      subst heq
      exact ⟨he', fun hin => (List.mem_cons.mp hin).elim hi hrest⟩

/-- All keys of a region to be destroyed are invalid (R149). -/
theorem State.fenceWrite_destroy {s : State} {f : Fence} (hkind : f.kind = .destroy) :
    (∀ e ∈ (s.fenceWrite f).prot.keys, e.2.valid = true → e ∈ s.prot.keys ∧ e.1 ∉ (s.regionKeys f.region).map (·.1)) ∧
      (s.fenceWrite f).prot.regions = s.prot.regions := by
  unfold State.fenceWrite State.fenceKeys
  rw [hkind]
  exact ⟨fun e he hvalid => mem_keys_of_invalidated he hvalid, foldl_changeKey_regions _ _ _ _⟩

theorem State.fenceWrite_revoke {s : State} {f : Fence} {i : Nat} (hkind : f.kind = .revoke i) :
    (s.fenceWrite f).prot.keys = kupd s.prot.keys i (fun k => { k with valid := false, fencing := true }) := by
  unfold State.fenceWrite
  rw [hkind]
  rfl

theorem State.fenceWrite_keyRights {s : State} {f : Fence} {i : Nat} {r : Rights} (hkind : f.kind = .keyRights i r) :
    (s.fenceWrite f).prot.keys = kupd s.prot.keys i (fun k => { k with rights := r }) := by
  unfold State.fenceWrite
  rw [hkind]
  rfl

/-- A region that is modified has its new attributes, and must be armed anew. -/
theorem State.fenceWrite_modify {s : State} {f : Fence} {r : Rights} {d q : Bool} (hkind : f.kind = .modify r d q) :
    (s.fenceWrite f).prot.regions =
      kupd s.prot.regions f.region (fun x => { x with maxRights := r, dflush := d, failqp := q, armed := false }) := by
  unfold State.fenceWrite
  simp only [hkind]
  split <;> exact foldl_changeKey_regions _ _ _ _

/-! ### The fences of capsules -/

/-- A REGION_DESTROY's fence begins: the region stands, and has no valid key (R135, R149). -/
theorem State.fence_destroy_spec {s : State} {region : Nat} (hfree : ∀ f ∈ s.prot.fences, f.region ≠ region) (home : Nat)
    (cap : Option CapRef) :
    (s.fence region home .destroy cap 0).regionKeys region = [] ∧ (s.fence region home .destroy cap 0).prot.regions = s.prot.regions := by
  obtain ⟨-, u, f, hkeys, hregions, rfl, hkind, hkeys', hregions'⟩ := fence_spec hfree home .destroy cap 0
  obtain ⟨hvalid, hsame⟩ := fenceWrite_destroy (s := u) hkind
  refine ⟨List.filter_eq_nil_iff.mpr fun e he hin => ?_, hregions'.trans (hsame.trans hregions)⟩
  rw [hkeys'] at he
  have hv : e.2.valid = true := by
    simp only [Bool.and_eq_true] at hin
    exact hin.1.1
  obtain ⟨hold, hnot⟩ := hvalid e he hv
  exact hnot (List.mem_map_of_mem (List.mem_filter.mpr ⟨hold, hin⟩))

/-- A fence that changes one key in place. -/
theorem State.key_fence_self {s : State} {region i : Nat} (hfree : ∀ f ∈ s.prot.fences, f.region ≠ region) {e : Key} (he : s.key i = some e)
    (home : Nat) {kind : FenceKind} (cap : Option CapRef) (result : Nat) {g : Key → Key}
    (hwrite : ∀ (u : State) (f : Fence), f.kind = kind → (u.fenceWrite f).prot.keys = kupd u.prot.keys i g) :
    (s.fence region home kind cap result).key i = some (g e) := by
  obtain ⟨-, u, f, hkeys, -, -, hkind, hkeys', -⟩ := fence_spec hfree home kind cap result
  unfold State.key at he ⊢
  rw [hkeys', hwrite u f hkind, hkeys, kget_kupd, if_pos rfl, he, Option.map_some]

/-- A KEY_REVOKE of a valid key of several is a fenced change (R149, R166). -/
theorem State.capKeyRevoke_of_valid {s : State} {c : CapRef} {qp : Qp} {bs : List Byte} {e : Key} {r : Region}
    (hkey : s.adminKeyOk c qp (capKey bs) e r) :
    s.capKeyRevoke c qp bs =
      if (s.regionKeys e.region).length ≤ 1 then s.failCap c stInvalidField
      else s.fence e.region r.home (.revoke (keyIndex (capKey bs))) (some c) 0 := by
  obtain ⟨hentry, hvalid⟩ := key_of_findKey hkey.1
  unfold State.capKeyRevoke
  simp only [hentry, hvalid, Bool.not_true, Bool.false_and, Bool.false_eq_true, if_false]
  exact adminKey_of_ok hkey _ _

/-- Settles O25: each capsule starts, its key passes, and it asks for a fence; on a region without one the fence begins, and what it
writes at once is the new state of R149. -/
theorem fencedChangesBegin : Obligations.FencedChangesBegin := by
  unfold Obligations.FencedChangesBegin
  refine ⟨?destroy, ?revoke, ?lower, ?modify⟩
  case destroy =>
    intro s c qp bs e r hcap hkey hfree
    obtain ⟨⟨g, hg, hregion, hkind, hcapsule, -, hbegun⟩, -⟩ := State.fence_spec (s := s.started c) hfree r.home .destroy (some c) 0
    refine ⟨_, .inl ((State.core_startCap_of_capFor hcap _).trans ?_), ⟨g, hg, hregion, hkind, hcapsule, hbegun⟩,
      State.fence_destroy_spec (s := s.started c) hfree r.home (some c)⟩
    unfold State.capRegionDestroy
    rw [State.adminKey_of_ok (s := s.started c) hkey]
  case revoke =>
    intro s c qp bs e r hcap hkey hfree
    have hexec := State.core_startCap_of_capFor hcap (fun qp bs s => s.capKeyRevoke c qp bs)
    rw [State.capKeyRevoke_of_valid (s := s.started c) hkey] at hexec
    constructor
    · intro hmany
      obtain ⟨⟨g, hg, hregion, hkind, hcapsule, -, hbegun⟩, -⟩ :=
        State.fence_spec (s := s.started c) hfree r.home (.revoke (keyIndex (capKey bs))) (some c) 0
      rw [if_neg (show ¬ ((s.started c).regionKeys e.region).length ≤ 1 from Nat.not_le.mpr hmany)] at hexec
      exact ⟨_, .inl hexec, ⟨g, hg, hregion, hkind, hcapsule, hbegun⟩, State.key_fence_self (s := s.started c) hfree
        (State.key_of_findKey hkey.1).1 r.home (some c) 0 (fun _ _ hk => State.fenceWrite_revoke hk)⟩
    · intro hlast
      rw [if_pos (show ((s.started c).regionKeys e.region).length ≤ 1 from hlast)] at hexec
      exact ⟨s.started c, 0, 0, 0, .inl hexec, rfl⟩
  case lower =>
    intro s c qp bs e r hcap hkey hoff hlen hrights hlower hfree
    obtain ⟨⟨g, hg, hregion, hkind, hcapsule, hresult, hbegun⟩, -⟩ := State.fence_spec (s := s.started c) hfree r.home
      (.keyRights (keyIndex (capKey bs)) (BitVec.ofNat 5 (capField bs 48 1))) (some c) (capKey bs).toNat
    refine ⟨_, .inl ((State.core_startCap_of_capFor hcap _).trans ?_), ⟨g, hg, hregion, hkind, hcapsule, hbegun, hresult⟩,
      State.key_fence_self (s := s.started c) hfree (State.key_of_findKey hkey.1).1 r.home (some c) (capKey bs).toNat
        (fun _ _ hk => State.fenceWrite_keyRights hk)⟩
    rw [State.capKeyExisting_of_lowered (s := s.started c) hkey hoff hlen hrights hlower]
  case modify =>
    intro s c qp bs e r hcap hkey hvol hmirror hdflush hpd hdomain hlen hfenced hfree
    obtain ⟨⟨g, hg, hregion, hkind, hcapsule, -, hbegun⟩, u, f, -, hregions, hf, hfkind, -, hregions'⟩ :=
      State.fence_spec (s := s.started c) hfree r.home (.modify (BitVec.ofNat 5 (capField bs 33 1)) ((capField bs 32 1).testBit 1)
        ((capField bs 32 1).testBit 3)) (some c) 0
    refine ⟨_, .inl ((State.core_startCap_of_capFor hcap _).trans ?_), ⟨g, hg, hregion, hcapsule, hbegun, hkind⟩, ?_⟩
    · rw [State.capRegionModify_of_fenced (s := s.started c) hkey ⟨hvol, hmirror, hdflush, hpd, hdomain, hlen⟩ hfenced]
    · have hentry : kget (s.started c).prot.regions e.region = some r := hkey.2.1
      unfold State.region
      rw [hregions', State.fenceWrite_modify hfkind, hf, hregions, kget_kupd, if_pos rfl, hentry]
      rfl

end Sys2Proof.Machine
end

section
/-! ## What leaves the pins and streams of T1 alone (R200, R212)

Units that are poisoned let waiting transactions go on, so a layer that Parison has loaded is followed through a settling pipeline.
Nothing there pins, opens, moves or closes anything: one lemma for each operation that settling calls, in the order of the model. -/

namespace Sys2Proof.Machine

/-- The pins that load and the open streams. -/
def State.objects (s : State) : List PinLoad × List (Nat × Stream) := (s.tier.pins, s.tier.streams)

theorem State.objects_of_tier {s t : State} (h : t.tier = s.tier) : t.objects = s.objects := by
  unfold State.objects
  rw [h]

theorem objects_eta (s : State) : (s.tier.pins, s.tier.streams) = s.objects := (rfl)

theorem objects_mk (pending : List Instr) (now free : Nat) (regs : List (Nat × BitVec 32)) (out : List Out) (amb : Amber) (dbg : Debug)
    (cfg : Config19) (prot : Protect) (net : Net) (cqi : Cqi) (tier : Tier) (flash : Flash) (twin : Twin) (dram : Dram)
    (col : Colony) (pw : Power) (gov : Gov) (sealing : Seal) (boot : Boot) (mbus : Mbus) :
    (State.mk pending now free regs out amb dbg cfg prot net cqi tier flash twin dram col pw gov sealing boot mbus).objects
      = (tier.pins, tier.streams) := (rfl)

theorem objects_ite (c : Prop) [Decidable c] (a b : State) : (if c then a else b).objects = if c then a.objects else b.objects :=
  apply_ite State.objects c a b

theorem objects_ite1 {β : Type} (c : Prop) [Decidable c] (a b : State × β) :
    (if c then a else b).1.objects = if c then a.1.objects else b.1.objects := apply_ite (fun p : State × β => p.1.objects) c a b

theorem ite_objects {c : Prop} [Decidable c] {a b : State} {k : List PinLoad × List (Nat × Stream)} (ha : a.objects = k)
    (hb : b.objects = k) :
    (if c then a else b).objects = k := by
  split
  · exact ha
  · exact hb

theorem foldl_objects {α : Type} (g : State → α → State) (l : List α) (s : State) (h : ∀ s a, (g s a).objects = s.objects) :
    (l.foldl g s).objects = s.objects := foldl_view State.objects g l s h

theorem foldl_objects1 {α β : Type} (g : State × β → α → State × β) (l : List α) (p : State × β)
    (h : ∀ p a, (g p a).1.objects = p.1.objects) : (l.foldl g p).1.objects = p.1.objects := by
  induction l generalizing p with
  | nil => rfl
  | cons a l ih => exact (ih (g p a)).trans (h p a)

/-! ### Registers, events and the line cache (R236 to R239) -/

theorem State.setReg_objects (s : State) (a : Nat) (v : BitVec 32) : (s.setReg a v).objects = s.objects := (rfl)
theorem State.put_objects (s : State) (f : Field) (v : Nat) : (s.put f v).objects = s.objects := (rfl)
theorem State.putB_objects (s : State) (f : Field) (b : Bool) : (s.putB f b).objects = s.objects := (rfl)
theorem State.countBy_objects (s : State) (a n : Nat) : (s.countBy a n).objects = s.objects := (rfl)
theorem State.count_objects (s : State) (a : Nat) : (s.count a).objects = s.objects := (rfl)
theorem State.draw_objects (s : State) : s.draw.2.objects = s.objects := (rfl)

theorem State.record_objects (s : State) (e : Event) (unit : Nat) (payload : List Byte) (c : Nat) (lim : Option (Nat × Nat)) :
    (s.record e unit payload c lim).objects = s.objects :=
  objects_of_tier (record_tier _ _ _ _ _ _)

theorem State.touchWay_objects (s : State) (set w : Nat) : (s.touchWay set w).objects = s.objects := (rfl)
theorem State.t1Write_objects (s : State) (a : Nat) (bs : List Byte) : (s.t1Write a bs).objects = s.objects := (rfl)
theorem State.setLine_objects (s : State) (l : Nat) (x : Line) : (s.setLine l x).objects = s.objects := (rfl)
theorem State.dropLine_objects (s : State) (l : Nat) : (s.dropLine l).objects = s.objects := (rfl)

theorem State.cleanLine_objects (s : State) (l : Nat) : (s.cleanLine l).objects = s.objects := by
  unfold State.cleanLine
  split <;> simp only [↓objects_ite, ite_self, ↓count_objects, ↓setLine_objects, ↓t1Write_objects]

theorem State.cleanInvLine_objects (s : State) (l : Nat) : (s.cleanInvLine l).objects = s.objects := by
  unfold State.cleanInvLine
  simp only [↓cleanLine_objects, ↓dropLine_objects]

theorem State.cleanInvUnit_objects (s : State) (unit : Nat) : (s.cleanInvUnit unit).objects = s.objects := by
  unfold State.cleanInvUnit
  simp only [↓foldl_objects, implies_true, ↓cleanInvLine_objects]

theorem State.allocLine_objects (s : State) (l : Nat) (x : Line) : (s.allocLine l x).objects = s.objects := by
  unfold State.allocLine
  simp only [↓foldl_objects, implies_true, ↓cleanInvLine_objects, ↓setLine_objects, ↓touchWay_objects]

theorem State.writeLine_objects (s : State) (alloc : Bool) (l off : Nat) (bs : List Byte) :
    (s.writeLine alloc l off bs).objects = s.objects := by
  unfold State.writeLine
  split <;> simp only [↓objects_ite, ite_self, ↓allocLine_objects, ↓setLine_objects, ↓t1Write_objects]

theorem State.poolWrite_objects (s : State) (a : Nat) (bs : List Byte) : (s.poolWrite a bs).objects = s.objects := by
  unfold State.poolWrite
  simp only [↓foldl_objects, implies_true, ↓writeLine_objects]

theorem State.hitLine_objects (s : State) (l : Nat) : (s.hitLine l).objects = s.objects := by
  unfold State.hitLine
  split <;> simp only [↓count_objects, ↓touchWay_objects]

theorem State.startLineFill_objects (s : State) (l : Nat) : (s.startLineFill l).1.objects = s.objects := by
  unfold State.startLineFill
  simp only [↓objects_ite1, ite_self, ↓allocLine_objects, ↓count_objects]

/-! ### Frames, the link and pause -/

theorem State.emit_objects (s : State) (o : Out) : (s.emit o).objects = s.objects :=
  objects_of_tier (emit_tier _ _)

theorem State.updLink_objects (s : State) (bulk : Bool) (f : LinkStream → LinkStream) : (s.updLink bulk f).objects = s.objects := by
  unfold State.updLink
  simp only [objects_eta, ↓objects_mk, ↓objects_ite, ite_self]

theorem State.linkPut_objects (s : State) (bulk : Bool) (len : Nat) (o : Out) : (s.linkPut bulk len o).objects = s.objects := by
  unfold State.linkPut
  simp only [↓emit_objects, ↓updLink_objects]

theorem State.linkSend_objects (s : State) (bulk : Bool) (len : Nat) (o : Out) : (s.linkSend bulk len o).objects = s.objects := by
  unfold State.linkSend
  simp only [↓objects_ite, ite_self, ↓linkPut_objects, ↓updLink_objects]

theorem State.updHome_objects (s : State) (h : Nat) (f : HomeSt → HomeSt) : (s.updHome h f).objects = s.objects := (rfl)

theorem State.quiet_objects (s : State) (h : Nat) (f : State → State) (hf : ∀ u, (f u).objects = u.objects) :
    (s.quiet h f).objects = s.objects := by
  unfold State.quiet
  split <;> simp only [objects_eta, ↓objects_mk, ↓foldl_objects, implies_true, ↓setReg_objects, ↓hf]

theorem State.updPort_objects (s : State) (p : Nat) (f : Port → Port) : (s.updPort p f).objects = s.objects := (rfl)

theorem State.setPause_objects (s : State) (p c : Nat) (f : ClassSt → ClassSt) : (s.setPause p c f).objects = s.objects := by
  unfold State.setPause
  simp only [↓objects_ite, ite_self, ↓count_objects, ↓emit_objects, ↓putB_objects, ↓updPort_objects]

theorem State.setPauseAll_objects (s : State) (f : ClassSt → ClassSt) : (s.setPauseAll f).objects = s.objects := by
  unfold State.setPauseAll
  simp only [↓objects_ite, ↓foldl_objects, ite_self, implies_true, ↓setPause_objects]

/-! ### Frames and granules of T1 (R197 to R211) -/

theorem State.updRegion_objects (s : State) (base : Nat) (f : Region → Region) : (s.updRegion base f).objects = s.objects := (rfl)
theorem State.setFrame_objects (s : State) (u : Nat) (f : Frame) : (s.setFrame u f).objects = s.objects := (rfl)
theorem State.updFrame_objects (s : State) (u : Nat) (f : Frame → Frame) : (s.updFrame u f).objects = s.objects := (rfl)
theorem State.setGranule_objects (s : State) (g : Nat) (x : Granule) : (s.setGranule g x).objects = s.objects := (rfl)

theorem State.dirtyPause_objects (s : State) : s.dirtyPause.objects = s.objects := by
  unfold State.dirtyPause
  simp only [↓objects_ite, ite_self, ↓count_objects, ↓put_objects, ↓record_objects, ↓setPauseAll_objects]

theorem State.dropClaim_objects (s : State) (t g : Nat) : (s.dropClaim t g).objects = s.objects := (rfl)

theorem State.access_objects (s : State) (t g : Nat) : (s.access t g).objects = s.objects := by
  unfold State.access
  simp only [↓objects_ite, ↓setGranule_objects]
  repeat' split
  all_goals simp only [↓count_objects, ↓dropClaim_objects, ↓setGranule_objects]

theorem State.releaseFrame_objects (s : State) (u : Nat) : (s.releaseFrame u).objects = s.objects := by
  unfold State.releaseFrame
  simp only [objects_eta, ↓objects_mk, ↓cleanInvUnit_objects]

theorem State.evict_objects (s : State) (g : Nat) : (s.evict g).objects = s.objects := by
  unfold State.evict
  simp only [↓foldl_objects, implies_true, ↓count_objects, ↓releaseFrame_objects]

theorem State.transientRoom_objects (s : State) : s.transientRoom.1.objects = s.objects := by
  unfold State.transientRoom
  simp only [↓objects_ite1]
  repeat' split
  all_goals simp only [↓releaseFrame_objects]

theorem State.roomFor_objects (s : State) (g quota : Nat) : (s.roomFor g quota).1.objects = s.objects := by
  unfold State.roomFor
  repeat' split
  all_goals simp only [↓objects_ite, ↓objects_ite1, ite_self, ↓evict_objects, ↓put_objects, ↓record_objects, ↓setGranule_objects,
    ↓transientRoom_objects]

theorem State.startFill_objects (s : State) (u : Nat) : (s.startFill u).objects = s.objects := by
  unfold State.startFill
  split <;> simp only [↓objects_ite, ite_self, ↓count_objects, ↓setFrame_objects]

theorem State.newFrame_objects (s : State) (u : Nat) (transient : Bool) : (s.newFrame u transient).objects = s.objects := by
  unfold State.newFrame
  simp only [↓setFrame_objects]

theorem State.obtain_objects (s : State) (u quota : Nat) : (s.obtain u quota).1.objects = s.objects := by
  unfold State.obtain
  simp only []
  repeat' split
  all_goals simp only [↓newFrame_objects, ↓roomFor_objects, ↓setFrame_objects]

theorem State.readyLine_objects (s : State) (needs : Bool) (quota l : Nat) : (s.readyLine needs quota l).1.objects = s.objects := by
  unfold State.readyLine
  simp only []
  repeat' split
  all_goals simp only [↓count_objects, ↓obtain_objects, ↓startFill_objects, ↓startLineFill_objects]

theorem State.readyRange_objects (s : State) (isRead : Bool) (quota addr len : Nat) :
    (s.readyRange isRead quota addr len).1.objects = s.objects := by
  unfold State.readyRange
  split <;> simp only [↓foldl_objects1, implies_true, ↓readyLine_objects]

/-! ### Bytes written and units trimmed (R19, R228) -/

theorem State.markWritten_objects (s : State) (addr len : Nat) (persistent : Bool) :
    (s.markWritten addr len persistent).objects = s.objects := by
  refine foldl_objects _ _ s fun u l => ?_
  cases u.frame (l / 256) with
  | none => rfl
  | some f => exact (setFrame_objects _ _ _).trans (ite_objects rfl rfl)

theorem State.writeWords_objects (s : State) (addr len : Nat) : (s.writeWords addr len).objects = s.objects := by
  unfold State.writeWords
  simp only [objects_eta, ↓objects_mk, ↓objects_ite, ↓foldl_objects, ite_self, implies_true, ↓poolWrite_objects]

theorem State.unwrite_objects (s : State) (addr len : Nat) : (s.unwrite addr len).objects = s.objects := (rfl)
theorem State.clearUncorr_objects (s : State) (addr len : Nat) : (s.clearUncorr addr len).objects = s.objects := (rfl)

theorem State.noteChange_objects (s : State) (h addr len : Nat) : (s.noteChange h addr len).objects = s.objects := by
  unfold State.noteChange
  simp only [↓objects_ite, ite_self, ↓updHome_objects]

theorem State.noteDirty_objects (s : State) (h addr len : Nat) : (s.noteDirty h addr len).objects = s.objects := (rfl)

theorem State.placeBytes_objects (s : State) (r : Region) (addr : Nat) (bs : List Byte) (twin : Bool) :
    (s.placeBytes r addr bs twin).objects = s.objects := by
  unfold State.placeBytes
  split <;> simp only [↓objects_ite, ↓foldl_objects, ite_self, implies_true, ↓clearUncorr_objects, ↓markWritten_objects,
    ↓noteChange_objects, ↓noteDirty_objects, ↓writeLine_objects, ↓writeWords_objects]

theorem State.unmap_objects (s : State) (u : Nat) : (s.unmap u).objects = s.objects := (rfl)

theorem State.trimRange_objects (s : State) (r : Region) (addr len : Nat) : (s.trimRange r addr len).objects = s.objects := by
  unfold State.trimRange
  split <;> simp only [objects_eta, ↓objects_mk, ↓foldl_objects, implies_true, ↓clearUncorr_objects, ↓noteChange_objects,
    ↓unmap_objects, ↓unwrite_objects, ↓updFrame_objects]

theorem State.askHeal_objects (s : State) (h u : Nat) : (s.askHeal h u).objects = s.objects := by
  unfold State.askHeal
  simp only [objects_eta, ↓objects_mk, ↓objects_ite, ite_self, ↓linkSend_objects]

/-! ### Contexts, requests of the device, queues and completions (R102, R145, R171 to R180) -/

theorem State.violation_objects (s : State) (qpn : Nat) (k : BitVec 32) (cause : Nat) (capsule : Bool) :
    (s.violation qpn k cause capsule).objects = s.objects := by
  unfold State.violation
  simp only [↓objects_ite, ite_self, ↓count_objects, ↓put_objects, ↓putB_objects, ↓record_objects, ↓setReg_objects]

theorem State.setQp_objects (s : State) (n : Nat) (q : Qp) : (s.setQp n q).objects = s.objects := (rfl)
theorem State.updQp_objects (s : State) (n : Nat) (f : Qp → Qp) : (s.updQp n f).objects = s.objects := (rfl)

theorem State.touchQp_objects (s : State) (n : Nat) : (s.touchQp n).objects = s.objects := by
  unfold State.touchQp
  split <;> simp only [↓updHome_objects]

theorem State.sendData_objects (s : State) (h kind qpn : Nat) (psn : Psn) (addr aux : Nat) (key : BitVec 32) (bs : List Byte)
    (region txn : Nat) :
    (s.sendData h kind qpn psn addr aux key bs region txn).1.objects = s.objects := by
  unfold State.sendData
  simp only [objects_eta, ↓objects_mk, ↓objects_ite1, ite_self, ↓count_objects, ↓linkSend_objects, ↓updHome_objects]

theorem State.mirrorWrite_objects (s : State) (h qpn : Nat) (psn : Psn) (addr : Nat) (key : BitVec 32) (bs : List Byte)
    (region txn msn : Nat) :
    (s.mirrorWrite h qpn psn addr key bs region txn msn).1.objects = s.objects := by
  unfold State.mirrorWrite
  split <;> simp only [↓foldl_objects1, implies_true, ↓sendData_objects]

theorem State.sendRec_objects (s : State) (h kind qpn addr aux : Nat) (bs : List Byte) (k : RecKind) :
    (s.sendRec h kind qpn addr aux bs k).1.objects = s.objects := by
  unfold State.sendRec
  simp only [objects_eta, ↓objects_mk, ↓objects_ite1, ite_self, ↓sendData_objects]

theorem State.addResp_objects (s : State) (h : Nat) : (s.addResp h).objects = s.objects := by
  unfold State.addResp
  simp only [↓objects_ite, ite_self, ↓draw_objects, ↓updHome_objects]

theorem State.sendAck_objects (s : State) (n : Nat) (psn : Psn) : (s.sendAck n psn).objects = s.objects := by
  unfold State.sendAck
  split <;> simp only [↓addResp_objects, ↓emit_objects, ↓updQp_objects]

theorem State.sendNak_objects (s : State) (n : Nat) (psn : Psn) (syndrome : Nat) : (s.sendNak n psn syndrome).objects = s.objects := by
  unfold State.sendNak
  split <;> simp only [↓addResp_objects, ↓count_objects, ↓emit_objects, ↓updQp_objects]

theorem State.sent_objects (s : State) (n bytes : Nat) : (s.sent n bytes).objects = s.objects := (rfl)

theorem State.sendReq_objects (s : State) (n : Nat) (q : Qp) (r : DevReq) : (s.sendReq n q r).objects = s.objects := by
  unfold State.sendReq
  simp only [↓objects_ite, ite_self, ↓emit_objects, ↓sent_objects]

theorem sendPrefix_objects (s : State) (n : Nat) (q : Qp) (rs : List DevReq) : (sendPrefix s n q rs).1.objects = s.objects := by
  induction rs generalizing s with
  | nil => rfl
  | cons r rs ih =>
    unfold sendPrefix
    split
    · exact ih s
    · split
      · rfl
      · exact (ih _).trans (State.sendReq_objects _ _ _ _)

theorem State.pumpReqs_objects (s : State) (n : Nat) : (s.pumpReqs n).objects = s.objects := by
  unfold State.pumpReqs
  split <;> simp only [↓objects_ite, ite_self, ↓updQp_objects, ↓sendPrefix_objects]

theorem State.newReq_objects (s : State) (n : Nat) (kind : ReqKind) (addr : Nat) (key : BitVec 32) (rlen : Nat) (data : List Byte)
    (imm : Option (BitVec 32)) (wait : Option Nat) :
    (s.newReq n kind addr key rlen data imm wait).objects = s.objects := by
  unfold State.newReq
  split <;> simp only [↓pumpReqs_objects, ↓setQp_objects, ↓touchQp_objects]

theorem State.updQueue_objects (s : State) (qpn q : Nat) (f : Queue → Queue) : (s.updQueue qpn q f).objects = s.objects := (rfl)
theorem State.updSlot_objects (s : State) (c : CapRef) (f : Slot → Slot) : (s.updSlot c f).objects = s.objects := (rfl)

theorem State.touchQueue_objects (s : State) (qpn q : Nat) : (s.touchQueue qpn q).objects = s.objects := by
  unfold State.touchQueue
  split <;> simp only [↓updHome_objects]

theorem State.enterError_objects (s : State) (n cause : Nat) : (s.enterError n cause).objects = s.objects := by
  unfold State.enterError
  split <;> simp only [objects_eta, ↓objects_mk, ↓count_objects, ↓record_objects, ↓setQp_objects, ↓touchQp_objects]

theorem State.postEntry_objects (s : State) (n : Nat) (nq : Bool) (queue idx addr : Nat) (entry : List Byte) (imm : Bool) :
    (s.postEntry n nq queue idx addr entry imm).objects = s.objects := by
  unfold State.postEntry
  split <;> simp only [↓newReq_objects, ↓sendRec_objects]

theorem State.notify_objects (s : State) (n ring type queue arg0 arg1 key : Nat) :
    (s.notify n ring type queue arg0 arg1 key).objects = s.objects := by
  unfold State.notify
  simp only []
  repeat' split
  all_goals simp only [↓count_objects, ↓postEntry_objects, ↓updQp_objects, ↓updQueue_objects]

theorem State.complete_objects (s : State) (c : CapRef) (status result : Nat) (poison : Bool) :
    (s.complete c status result poison).objects = s.objects := by
  unfold State.complete
  split <;> simp only [↓objects_ite, ite_self, ↓count_objects, ↓postEntry_objects, ↓record_objects, ↓touchQueue_objects,
    ↓updQp_objects, ↓updQueue_objects]

theorem State.failCap_objects (s : State) (c : CapRef) (status key off det : Nat) :
    (s.failCap c status key off det).objects = s.objects := by
  unfold State.failCap
  simp only [↓complete_objects, ↓updSlot_objects]

theorem State.okCap_objects (s : State) (c : CapRef) (result : Nat) : (s.okCap c result).objects = s.objects := by
  unfold State.okCap
  simp only [↓complete_objects]

/-! ### Transactions accepted and placed (R30, R221) -/

theorem State.updTxn_objects (s : State) (id : Nat) (f : Txn → Txn) : (s.updTxn id f).objects = s.objects := (rfl)
theorem State.dropTxn_objects (s : State) (id : Nat) : (s.dropTxn id).objects = s.objects := (rfl)
theorem State.acceptTxn_objects (s : State) (t : Txn) : (s.acceptTxn t).objects = s.objects := (rfl)

theorem State.addTxn_objects (s : State) (t : Txn) : (s.addTxn t).1.objects = s.objects := by
  unfold State.addTxn
  simp only [objects_eta, ↓objects_mk, ↓objects_ite1, ite_self, ↓acceptTxn_objects]

theorem State.acceptWaiting_objects (s : State) : s.acceptWaiting.objects = s.objects := by
  unfold State.acceptWaiting
  simp only [↓objects_ite1, ↓foldl_objects1, ite_self, implies_true, ↓acceptTxn_objects]

theorem State.touchRange_objects (s : State) (r : Region) (addr len : Nat) : (s.touchRange r addr len).objects = s.objects := by
  unfold State.touchRange
  split <;> simp only [↓foldl_objects, implies_true, ↓access_objects]

theorem State.mirrorTxn_objects (s : State) (t : Txn) (r : Region) (kind aux : Nat) (bs : List Byte) :
    (s.mirrorTxn t r kind aux bs).1.objects = s.objects := by
  unfold State.mirrorTxn
  simp only [↓objects_ite, ↓objects_ite1, ite_self, ↓mirrorWrite_objects, ↓sendData_objects, ↓sendRec_objects, ↓updRegion_objects]

theorem State.arm_objects (s : State) (t : Txn) (r : Region) : (s.arm t r).1.objects = s.objects := by
  unfold State.arm
  repeat' split
  all_goals simp only [↓sendRec_objects, ↓updRegion_objects]

theorem State.noteDeep_objects (s : State) (t : Txn) (r : Region) : (s.noteDeep t r).objects = s.objects := by
  unfold State.noteDeep
  simp only [objects_eta, ↓objects_mk, ↓objects_ite, ite_self]

theorem State.finishWrite_objects (s : State) (t : Txn) (r : Region) (kind aux : Nat) (bs : List Byte) (place : State → State)
    (hplace : ∀ u, (place u).objects = u.objects) :
    (s.finishWrite t r kind aux bs place).objects = s.objects := by
  unfold State.finishWrite
  simp only [↓arm_objects, ↓dirtyPause_objects, ↓mirrorTxn_objects, ↓noteDeep_objects, ↓updTxn_objects, ↓hplace]

theorem State.saveAtomic_objects (s : State) (n : Nat) (psn : Psn) (v : BitVec 64) : (s.saveAtomic n psn v).objects = s.objects := (rfl)

theorem State.placeAtomic_objects (s : State) (t : Txn) (r : Region) (f : BitVec 64 → BitVec 64) (failed : Bool) :
    (s.placeAtomic t r f failed).objects = s.objects := by
  unfold State.placeAtomic
  split <;> simp only [implies_true, ↓finishWrite_objects, ↓placeBytes_objects, ↓saveAtomic_objects, ↓updTxn_objects]

theorem State.placeRead_objects (s : State) (t : Txn) (r : Region) : (s.placeRead t r).objects = s.objects := by
  unfold State.placeRead
  simp only [↓objects_ite, ite_self, ↓count_objects, ↓updTxn_objects]

theorem State.placeNow_objects (s : State) (t : Txn) (r : Region) : (s.placeNow t r).objects = s.objects := by
  obtain ⟨id, ord, home, qpn, slice, cap, seg, op⟩ := t
  cases op
  case write d =>
    show (State.objects (if _ then _ else _)) = _
    simp only [↓objects_ite, ite_self, implies_true, ↓finishWrite_objects, ↓placeBytes_objects, ↓updTxn_objects]
  case zero =>
    show (State.objects (if _ then _ else _)) = _
    simp only [↓objects_ite, ite_self, implies_true, ↓finishWrite_objects, ↓placeBytes_objects, ↓updTxn_objects]
  case trim => exact finishWrite_objects _ _ _ _ _ _ _ (fun s => trimRange_objects s _ _ _)
  case atomicCas => exact placeAtomic_objects _ _ _ _ _
  case atomicAdd => exact placeAtomic_objects _ _ _ _ _
  case read => exact placeRead_objects _ _ _
  case copySrc => exact placeRead_objects _ _ _
  all_goals exact updTxn_objects _ _ _

theorem State.tryTxn_objects (s : State) (id : Nat) : (s.tryTxn id).objects = s.objects := by
  unfold State.tryTxn
  cases s.txn id with
  | none => rfl
  | some t =>
    refine ite_objects rfl ?_
    cases s.region t.region with
    | none => rfl
    | some r =>
      refine ite_objects (placeNow_objects s t r) ?_
      extract_lets first s1 s2 s3 joins x s4 hs
      have h2 : s2.objects = s.objects := ite_objects (touchRange_objects s1 _ _ _) rfl
      have h3 : s3.objects = s.objects := by
        refine ite_objects ((foldl_objects _ _ s2 fun u l => ?_).trans h2) h2
        split
        · exact ite_objects rfl (hitLine_objects u l)
        · rfl
      have hx : x.1.objects = s.objects := (readyRange_objects s3 _ _ _ _).trans h3
      have h4 : s4.objects = s.objects := ite_objects hx hx
      refine ite_objects h4 (ite_objects ((placeNow_objects s4 t r).trans h4) ?_)
      exact (foldl_objects _ _ s4 fun u n => askHeal_objects u _ n).trans h4

theorem State.placeAll_objects (s : State) : s.placeAll.objects = s.objects := by
  unfold State.placeAll
  simp only [↓foldl_objects, implies_true, ↓tryTxn_objects]

/-! ### Responses and capsule segments (R53, R168) -/

theorem State.advance_objects (s : State) (t : Txn) : (s.advance t).objects = s.objects := by
  unfold State.advance
  simp only [↓objects_ite, ite_self, ↓touchQp_objects, ↓updQp_objects]

theorem State.notifyPoison_objects (s : State) (t : Txn) (ring queue : Nat) : (s.notifyPoison t ring queue).objects = s.objects := by
  unfold State.notifyPoison
  split <;> simp only [↓notify_objects]

theorem State.fatalNak_objects (s : State) (n : Nat) (psn : Psn) (syndrome : Nat) : (s.fatalNak n psn syndrome).objects = s.objects := by
  unfold State.fatalNak
  simp only [↓enterError_objects, ↓sendNak_objects]

theorem State.ackDue_objects (s : State) (t : Txn) : (s.ackDue t).objects = s.objects := by
  unfold State.ackDue
  split <;> simp only [↓objects_ite, ite_self, ↓sendAck_objects, ↓updQp_objects]

theorem State.respond_objects (s : State) (t : Txn) : (s.respond t).objects = s.objects := by
  unfold State.respond
  simp only []
  repeat' split
  all_goals simp only [↓ackDue_objects, ↓addResp_objects, ↓advance_objects, ↓count_objects, ↓dropTxn_objects, ↓emit_objects,
    ↓fatalNak_objects, ↓notifyPoison_objects, ↓sendNak_objects, ↓sent_objects, ↓updQp_objects, ↓updRegion_objects]

theorem State.pumpQp_objects (s : State) (n k : Nat) : (s.pumpQp n k).objects = s.objects := by
  induction k generalizing s with
  | zero => rfl
  | succ k ih =>
    have hrespond (t : Txn) : ((s.respond t).pumpQp n k).objects = s.objects := (ih _).trans (respond_objects s t)
    unfold State.pumpQp
    extract_lets mine
    split
    · exact hrespond _
    · split
      · exact ite_objects (hrespond _) rfl
      · rfl

theorem State.pumpAll_objects (s : State) : s.pumpAll.objects = s.objects := by
  unfold State.pumpAll
  simp only [↓foldl_objects, implies_true, ↓pumpQp_objects, ↓quiet_objects]

theorem State.failSeg_objects (s : State) (c : CapRef) (status key off det : Nat) :
    (s.failSeg c status key off det).objects = s.objects := (rfl)

theorem State.endCap_objects (s : State) (c : CapRef) : (s.endCap c).objects = s.objects := by
  unfold State.endCap
  split <;> simp only [↓objects_ite, ite_self, ↓complete_objects]

theorem State.segTxn_objects (s : State) (c : CapRef) (seg : Nat) (key : BitVec 32) (off len right : Nat) (op : TxnOp) :
    (s.segTxn c seg key off len right op).objects = s.objects := by
  unfold State.segTxn
  repeat' split
  all_goals simp only [↓addTxn_objects, ↓endCap_objects, ↓failSeg_objects, ↓updSlot_objects, ↓violation_objects]

theorem State.segPoison_objects (s : State) (c : CapRef) (t : Txn) (isRead : Bool) : (s.segPoison c t isRead).objects = s.objects := by
  unfold State.segPoison
  split <;> simp only [↓objects_ite, ite_self, ↓count_objects, ↓failSeg_objects, ↓notifyPoison_objects, ↓updSlot_objects]

theorem State.copyWrite_objects (s : State) (c : CapRef) (seg dst : Nat) (dkey : BitVec 32) (data : List Byte) :
    (s.copyWrite c seg dst dkey data).objects = s.objects := by
  unfold State.copyWrite
  simp only [↓segTxn_objects]

theorem State.copyRest_objects (s : State) (c : CapRef) (dkey : BitVec 32) : (s.copyRest c dkey).objects = s.objects := by
  unfold State.copyRest
  split <;> simp only [↓objects_ite, ↓foldl_objects, ite_self, implies_true, ↓copyWrite_objects, ↓endCap_objects, ↓updSlot_objects]

theorem State.finishSeg_objects (s : State) (t : Txn) (c : CapRef) : (s.finishSeg t c).objects = s.objects := by
  unfold State.finishSeg
  simp only []
  repeat' split
  all_goals simp only [↓foldl_objects, implies_true, ↓copyRest_objects, ↓copyWrite_objects, ↓dropTxn_objects, ↓endCap_objects,
    ↓failCap_objects, ↓newReq_objects, ↓okCap_objects, ↓segPoison_objects, ↓updRegion_objects, ↓updSlot_objects]

theorem State.finishCaps_objects (s : State) : s.finishCaps.objects = s.objects := by
  refine foldl_objects _ _ s fun u t0 => ?_
  split
  · next t _ =>
    split
    · next c _ => exact ite_objects (quiet_objects u _ _ fun v => finishSeg_objects v t c) rfl
    · rfl
  · rfl

theorem State.beginSegs_objects (s : State) (c : CapRef) (k : Nat) : (s.beginSegs c k).objects = s.objects := by
  induction k generalizing s with
  | zero => rfl
  | succ k ih =>
    unfold State.beginSegs
    split
    · next x q _ _ =>
      refine ite_objects (ite_objects (ite_objects ?_ rfl) (ite_objects ?_ rfl)) rfl
      · exact (ih _).trans (newReq_objects _ _ _ _ _ _ _ _ _)
      · exact (ih _).trans (segTxn_objects _ _ _ _ _ _ _ _)
    · rfl

theorem State.dropTransient_objects (s : State) : s.dropTransient.objects = s.objects := by
  unfold State.dropTransient
  simp only [↓foldl_objects, implies_true, ↓releaseFrame_objects]

/-! ### What can go on does -/

theorem State.settle1_objects (s : State) : s.settle1.objects = s.objects := by
  unfold State.settle1
  simp only [↓foldl_objects, implies_true, ↓acceptWaiting_objects, ↓beginSegs_objects, ↓finishCaps_objects, ↓placeAll_objects,
    ↓pumpAll_objects]

theorem State.settleRounds_objects (s : State) (k : Nat) : (s.settleRounds k).objects = s.objects := by
  induction k generalizing s with
  | zero => rfl
  | succ k ih =>
    unfold State.settleRounds
    split
    · exact settle1_objects s
    · exact (ih _).trans (settle1_objects s)

theorem State.settle_objects (s : State) : s.settle.objects = s.objects := by
  unfold State.settle
  simp only [↓dirtyPause_objects, ↓dropTransient_objects, ↓settleRounds_objects]

theorem State.retry_objects (s : State) (f : Txn → Txn) : (s.retry f).objects = s.objects := by
  unfold State.retry
  simp only [objects_eta, ↓objects_mk, ↓settle_objects]

theorem State.retryFill_objects (s : State) (u : Nat) : (s.retryFill u).objects = s.objects := by
  unfold State.retryFill
  simp only [↓retry_objects]

/-! ### Units loaded (R64, R435) -/

theorem State.fillLines_objects (s : State) (u : Nat) (mask : BitVec 256) : (s.fillLines u mask).objects = s.objects := by
  unfold State.fillLines
  split <;> simp only [↓objects_ite, ↓foldl_objects, ite_self, implies_true, ↓setFrame_objects, ↓t1Write_objects]

theorem State.loadUnit_objects (s : State) (u : Nat) (transient : Bool) : (s.loadUnit u transient).objects = s.objects := by
  unfold State.loadUnit
  simp only []
  repeat' split
  all_goals simp only [↓count_objects, ↓fillLines_objects, ↓newFrame_objects]

theorem State.loadGranules_objects (s : State) (gs : List Nat) : (s.loadGranules gs).objects = s.objects := by
  unfold State.loadGranules
  simp only [↓foldl_objects, implies_true, ↓countBy_objects, ↓loadUnit_objects]

theorem State.lostDone_objects (s : State) (u : Nat) : (s.lostDone u).objects = s.objects := by
  unfold State.lostDone
  simp only [objects_eta, ↓objects_mk, ↓objects_ite, ite_self, ↓putB_objects]

end Sys2Proof.Machine
end

section
/-! ## Layers that become resident and pins that load (R200, R215, R216, R227) -/

namespace Sys2Proof.Machine

/-- The resident layers of a stream. -/
def State.layersOf (s : State) (id : Nat) : Option (List Nat) := (kget s.tier.streams id).map (·.loaded)

theorem State.layersOf_of_objects {s t : State} (h : t.objects = s.objects) (id : Nat) : t.layersOf id = s.layersOf id :=
  congrArg (fun o : List PinLoad × List (Nat × Stream) => (kget o.2 id).map Stream.loaded) h

theorem foldl_layersOf {α : Type} {g : State → α → State} {id : Nat} (h : ∀ s a, (g s a).layersOf id = s.layersOf id) (l : List α) (s : State) :
    (l.foldl g s).layersOf id = s.layersOf id := foldl_view (fun t : State => t.layersOf id) g l s h

/-- A change of a stream that leaves its resident layers. -/
theorem State.updStream_layersOf (s : State) (i id : Nat) {f : Stream → Stream} (hf : ∀ x, (f x).loaded = x.loaded := by exact fun _ => rfl) :
    (s.updStream i f).layersOf id = s.layersOf id := kget_kupd_view Stream.loaded s.tier.streams i id f hf

/-- A layer that enters a stream's resident layers. -/
theorem State.updStream_layersOf_self (s : State) (id : Nat) {f : Stream → Stream} {g : List Nat → List Nat} (hf : ∀ x, (f x).loaded = g x.loaded) :
    (s.updStream id f).layersOf id = (s.layersOf id).map g := by
  have hentry : kget (s.updStream id f).tier.streams id = (kget s.tier.streams id).map f := (kget_kupd _ _ _ _).trans (if_pos rfl)
  unfold State.layersOf
  rw [hentry, Option.map_map, Option.map_map]
  exact congrArg (fun k => (kget s.tier.streams id).map k) (funext hf)

/-- A damaged layer is reported; none becomes resident or leaves (R227). -/
theorem State.streamDamage_layersOf (s : State) (i stored id : Nat) : (s.streamDamage i stored).layersOf id = s.layersOf id := by
  unfold State.streamDamage
  split
  · next x _ =>
    extract_lets bad marked s1 s2
    have h1 : s1.layersOf id = s.layersOf id := updStream_layersOf s i id
    have h2 : s2.layersOf id = s1.layersOf id :=
      layersOf_of_objects (foldl_objects _ _ s1 fun u e => ite_objects (notify_objects u _ _ _ _ _ _ _) rfl) id
    split
    · exact (layersOf_of_objects (record_objects s2 _ _ _ _ _) id).trans (h2.trans h1)
    · split
      · exact updStream_layersOf s i id
      · rfl
  · rfl

theorem State.streamsDamage_layersOf (s : State) (u id : Nat) : (s.streamsDamage u).layersOf id = s.layersOf id := by
  refine foldl_layersOf (fun s e => foldl_layersOf (fun s l => ?_) _ s) _ s
  split
  · exact streamDamage_layersOf s _ _ id
  · rfl

/-- A unit that cannot be healed is poisoned, and what waited for it goes on; no layer becomes resident or leaves (R223). -/
theorem State.poisonUnit_layersOf (s : State) (u id : Nat) : (s.poisonUnit u).layersOf id = s.layersOf id := by
  have hreport (v : State) (pl : List Byte) :
      (((v.count Reg.TIER_HEAL_FAIL).record .tierUnitPoisoned 0 pl).streamsDamage u).layersOf id = v.layersOf id :=
    (streamsDamage_layersOf _ u id).trans (layersOf_of_objects (record_objects (v.count _) _ _ _ _ _) id)
  have hlost : (s.lostDone u).layersOf id = s.layersOf id := layersOf_of_objects (lostDone_objects s u) id
  unfold State.poisonUnit
  extract_lets v coldTier coldFlash cold
  split
  · extract_lets bad v1 flash1 v2 tier2 v3 hit net3 v4 v5
    have hmarked : v4.layersOf id = v.layersOf id := rfl
    exact (layersOf_of_objects (retryFill_objects v5 u) id).trans ((hreport v4 _).trans (hmarked.trans hlost))
  · split
    · have hmarked : cold.layersOf id = v.layersOf id := rfl
      exact (hreport cold _).trans (hmarked.trans hlost)
    · exact hlost

theorem State.parisonNext_layersOf (s : State) (i id : Nat) : (s.parisonNext i).layersOf id = s.layersOf id := by
  unfold State.parisonNext
  split
  · exact updStream_layersOf s i id
  · rfl

theorem State.openDone_layersOf (s : State) (i id : Nat) : (s.openDone i).layersOf id = s.layersOf id := by
  unfold State.openDone
  split
  · split
    · split
      · exact (layersOf_of_objects (okCap_objects _ _ _) id).trans (updStream_layersOf s i id)
      · rfl
    · rfl
  · rfl

/-- The units of a layer are brought to T1: loaded, or, where the layer could not be healed, poisoned where they are not whole. -/
def State.layerBrought (s : State) (gs : List Nat) (healed : Bool) : State :=
  let us := (gs.map (fun g => span (g * 128) 128)).flatten
  let s := if healed then s.loadGranules gs
    else us.foldl (fun s u => match s.frame u with
        | some _ => s
        | none => s.newFrame u false) s
  if healed then s
  else us.foldl (fun s u => match s.frame u with
      | some f => if f.valid = allLines then s else s.poisonUnit u
      | none => s) s

theorem State.layerBrought_layersOf (s : State) (gs : List Nat) (healed : Bool) (id : Nat) :
    (s.layerBrought gs healed).layersOf id = s.layersOf id := by
  unfold State.layerBrought
  extract_lets us
  cases healed with
  | true => exact layersOf_of_objects (loadGranules_objects s gs) id
  | false =>
    refine (foldl_layersOf (fun v u => ?_) us _).trans (foldl_layersOf (fun v u => ?_) us s)
    · split
      · split
        · rfl
        · exact poisonUnit_layersOf v u id
      · rfl
    · split
      · rfl
      · exact layersOf_of_objects (newFrame_objects v u false) id

theorem State.layerLoaded_of_loading {s : State} {id layer : Nat} {x : Stream} (hx : kget s.tier.streams id = some x)
    (hloading : x.loading = some layer) (healed : Bool) :
    s.layerLoaded id layer healed = (((((s.layerBrought (x.layerGranules (layer % x.layers)) healed).updStream id
      (fun y => { y with loaded := (layer % x.layers) :: y.loaded, loading := none })).streamDamage id (layer % x.layers)).parisonNext id).openDone
        id) := by
  unfold State.layerLoaded
  simp only [hx, hloading, bne_self_eq_false, Bool.false_eq_true, if_false]
  rfl

/-- The layer that Parison was loading is resident (R215). -/
theorem State.layerLoaded_layersOf {s : State} {id layer : Nat} {x : Stream} (hx : kget s.tier.streams id = some x)
    (hloading : x.loading = some layer) (healed : Bool) :
    (s.layerLoaded id layer healed).layersOf id = some ((layer % x.layers) :: x.loaded) := by
  have hold : s.layersOf id = some x.loaded := congrArg (Option.map Stream.loaded) hx
  rw [layerLoaded_of_loading hx hloading, openDone_layersOf, parisonNext_layersOf, streamDamage_layersOf,
    updStream_layersOf_self _ id (g := fun l => (layer % x.layers) :: l) (fun _ => rfl), layerBrought_layersOf, hold, Option.map_some]

/-- Completing a pin takes pins off the list alone. -/
theorem State.pinDone_pins {s : State} {c : CapRef} {p : PinLoad} (h : p ∈ (s.pinDone c).tier.pins) : p ∈ s.tier.pins := by
  have hpins (v : State) : (v.okCap c).tier.pins = v.tier.pins := congrArg Prod.fst (okCap_objects v c 0)
  unfold State.pinDone at h
  split at h
  · split at h
    · rw [hpins] at h
      exact (List.mem_filter.mp h).1
    · exact h
  · exact h

/-- The units of a pin are resident, and it waits at most for its record (R200). -/
def State.pinLoaded (s : State) (p : PinLoad) (c : CapRef) : State :=
  let u := s.loadGranules (span p.first p.count)
  { u with tier := { u.tier with pins := u.tier.pins.map (fun q => if q.cap = c then { q with loaded := true } else q) } }

theorem State.pinLoaded_pins (s : State) (p : PinLoad) (c : CapRef) : ∀ q ∈ (s.pinLoaded p c).tier.pins, q.cap = c → q.loaded = true := by
  intro q hq hcap
  obtain ⟨q', -, rfl⟩ := List.mem_map.mp hq
  by_cases h : q'.cap = c
  · rw [if_pos h]
  · rw [if_neg h] at hcap
    exact absurd hcap h

end Sys2Proof.Machine
end

section
/-! ## Fences that end or overrun (R150 to R152) -/

namespace Sys2Proof.Machine

theorem State.foldl_changeKey_regs (s : State) (h : Nat) (f : Key → Key) (ks : List Nat) :
    (ks.foldl (fun s i => s.changeKey h i f) s).regs = s.regs := foldl_view State.regs _ ks s (fun _ _ => rfl)

theorem State.fenceWrite_regs (s : State) (f : Fence) : (s.fenceWrite f).regs = s.regs := by
  unfold State.fenceWrite
  cases hkind : f.kind with
  | revoke i => rfl
  | keyRights i r => rfl
  | destroy => exact foldl_changeKey_regs _ _ _ _
  | modify r d q =>
    simp only []
    split <;> exact foldl_changeKey_regs _ _ _ _
  | withdraw =>
    simp only []
    split <;> exact foldl_changeKey_regs _ _ _ _

/-- The counts of open fences and marks stand in KEY_STATUS alone. -/
theorem State.fenceStatus_reg (s : State) {a : Nat} (h : a ≠ Reg.KEY_STATUS) : s.fenceStatus.reg a = s.reg a :=
  (reg_put_other _ _ _ a h).trans (reg_put_other _ _ _ a h)

/-- A fence that begins keeps its number, and writes no register but KEY_STATUS. -/
theorem State.fenceBegin_spec (s : State) (id : Nat) :
    (s.fenceBegin id).prot.fences.map (·.id) = s.prot.fences.map (·.id) ∧ ∀ a, a ≠ Reg.KEY_STATUS → (s.fenceBegin id).reg a = s.reg a := by
  unfold State.fenceBegin
  split
  · next f hf =>
    have hid : f.id = id := by simpa using List.find?_some hf
    extract_lets marks confirm f' u
    refine ⟨?_, fun a ha => (fenceStatus_reg _ ha).trans (reg_of_regs (s := s) (s.fenceWrite_regs f) a)⟩
    have hsame : (u.prot.fences.map (fun g => if g.id = id then f' else g)).map (·.id) = u.prot.fences.map (·.id) := by
      rw [List.map_map]
      refine List.map_congr_left fun g _ => ?_
      by_cases hg : g.id = id
      · exact (congrArg Fence.id (if_pos hg)).trans (hid.trans hg.symm)
      · exact congrArg Fence.id (if_neg hg)
    exact hsame.trans (congrArg (List.map Fence.id) (s.fenceWrite_fences f))
  · exact ⟨rfl, fun _ _ => rfl⟩

/-- The next change to a region begins (R152). -/
def State.fenceNext (s : State) (region : Nat) : State :=
  match s.prot.fences.find? (fun g => g.region = region) with
  | some g => if g.begun then s else s.fenceBegin g.id
  | none => s

theorem State.fenceNext_spec (s : State) (region : Nat) :
    (s.fenceNext region).prot.fences.map (·.id) = s.prot.fences.map (·.id) ∧
      ∀ a, a ≠ Reg.KEY_STATUS → (s.fenceNext region).reg a = s.reg a := by
  unfold State.fenceNext
  split
  · split
    · exact ⟨rfl, fun _ _ => rfl⟩
    · exact s.fenceBegin_spec _
  · exact ⟨rfl, fun _ _ => rfl⟩

/-- The fence of a withdrawal leaves the list, is recorded and counted (R150, R346). -/
def State.withdrawalEnded (s : State) (f : Fence) : State :=
  (((({ s with prot := { s.prot with fences := s.prot.fences.filter (fun g => g.id != f.id) } } : State).record .keyRightsWithdrawn
    (unitHome f.home) (leBytes 8 f.region)).count Reg.KEY_FENCES)).fenceStatus

theorem State.fenceEnd_of_withdraw {f : Fence} (hkind : f.kind = .withdraw) (hcap : f.cap = none) (s : State) :
    s.fenceEnd f = (s.withdrawalEnded f).fenceNext f.region := by
  unfold State.fenceEnd
  simp only [hkind, hcap]
  rfl

theorem State.withdrawalEnded_spec (s : State) (f : Fence) :
    (s.withdrawalEnded f).prot.fences = s.prot.fences.filter (fun g => g.id != f.id) ∧
      ((s.withdrawalEnded f).reg Reg.KEY_FENCES).toNat = s.plusOne Reg.KEY_FENCES ∧ (s.withdrawalEnded f).regBit Reg.KEY_EVT 2 = true := by
  unfold State.withdrawalEnded
  refine ⟨?_, ?_, ?_⟩
  · exact congrArg Protect.fences (record_prot _ _ _ _ _ _)
  · rw [fenceStatus_reg _ (by decide)]
    exact count_toNat (reg_record _ _ _ _ _ _ _ (by decide))
  · unfold State.regBit
    rw [fenceStatus_reg _ (by decide), reg_count_other _ _ _ (by decide)]
    exact regBit_record rfl (by decide) (by decide) (by decide) (by decide) _ _ _

/-- The fence of a withdrawal ends: none with its number is left, it is counted and recorded. -/
theorem State.fenceEnd_withdraw_spec {f : Fence} (hkind : f.kind = .withdraw) (hcap : f.cap = none) (s : State) :
    (∀ g ∈ (s.fenceEnd f).prot.fences, g.id ≠ f.id) ∧ ((s.fenceEnd f).reg Reg.KEY_FENCES).toNat = s.plusOne Reg.KEY_FENCES ∧
      (s.fenceEnd f).regBit Reg.KEY_EVT 2 = true := by
  obtain ⟨hfences, hcount, hevt⟩ := s.withdrawalEnded_spec f
  obtain ⟨hids, hregs⟩ := (s.withdrawalEnded f).fenceNext_spec f.region
  rw [fenceEnd_of_withdraw hkind hcap]
  refine ⟨fun g hg => ?_, ?_, ?_⟩
  · have hmem := List.mem_map_of_mem (f := Fence.id) hg
    rw [hids, hfences] at hmem
    obtain ⟨g', hg', hsame⟩ := List.mem_map.mp hmem
    rw [← hsame]
    exact bne_iff_ne.mp (List.mem_filter.mp hg').2
  · rw [hregs _ (by decide), hcount]
  · unfold State.regBit at hevt ⊢
    rw [hregs _ (by decide), hevt]

/-- A fence that overruns waits for no message any more, and is recorded (R151). -/
theorem State.fenceTimeout_spec (s : State) (f : Fence) :
    (∀ g ∈ (s.fenceTimeout f).prot.fences, g.id = f.id → g.msgs = []) ∧ (s.fenceTimeout f).regBit Reg.KEY_EVT 1 = true := by
  unfold State.fenceTimeout
  extract_lets u
  refine ⟨fun g hg hid => ?_, regBit_record rfl (by decide) (by decide) (by decide) (by decide) _ _ _⟩
  rw [record_prot] at hg
  obtain ⟨g', -, rfl⟩ := List.mem_map.mp hg
  by_cases h : g'.id = f.id
  · rw [if_pos h]
  · rw [if_neg h] at hid
    exact absurd hid h

end Sys2Proof.Machine
end

section
/-! ## Confirmations, fences, granules, layers, pins and stalls (R150, R151, R208, R215 to R218, R369) -/

namespace Sys2Proof.Machine

/-- A confirmed frame that no record waits for leaves the unconfirmed list, and no transaction of its home set waits for it. -/
theorem State.confirmOne_spec {s : State} (hrecs : s.cqi.recs = []) (h m : Nat) :
    (s.confirmOne h m).net.unconf = s.net.unconf.filter (fun u => !(decide (u.home = h) && decide (u.mseq = m))) ∧
      ∀ t ∈ (s.confirmOne h m).net.txns, t.home = h → m ∉ t.mseqs ∧ t.armWait ≠ some m := by
  unfold State.confirmOne
  simp only [hrecs, List.filter_nil, List.foldl_nil]
  refine ⟨rfl, fun t ht hhome => ?_⟩
  obtain ⟨x, -, rfl⟩ := List.mem_map.mp ht
  by_cases hx : x.home = h
  · rw [if_pos hx]
    refine ⟨fun hm => bne_iff_ne.mp (List.mem_filter.mp hm).2 rfl, ?_⟩
    show (if x.armWait = some m then none else x.armWait) ≠ some m
    split
    · exact nofun
    · assumption
  · rw [if_neg hx] at hhome
    exact absurd hhome hx

/-- A CONFIRM of one frame that is not confirmed confirms that frame. -/
theorem exec_confirm_one {s : State} {h : Fin 2} {m : BitVec 48} (hrun : s.coreRuns = true) (hup : s.on Fld.TWN_STATUS_LINK_UP = true)
    (hpaired : s.paired h.val = true) (hwaits : s.net.unconf.any (fun u => decide (u.home = h.val) && decide (u.mseq = m.toNat)) = true) :
    exec (.confirm h [(m, 1)]) s = .next (s.confirmOne h.val m.toNat).settle := by
  refine (State.core_ite_pos hrun (by rw [hup, hpaired]; rfl) _ _).trans ?_
  have hone : (span m.toNat 1).filter (fun m => s.net.unconf.any (fun u => decide (u.home = h.val) && decide (u.mseq = m))) = [m.toNat] := by
    show List.filter _ [m.toNat] = _
    exact List.filter_cons_of_pos hwaits
  show Host.Outcome.next (((span m.toNat 1).filter _).foldl _ s).settle = _
  rw [hone]
  rfl

theorem State.granule_setGranule (s : State) (g : Nat) (x : Granule) : (s.setGranule g x).granule g = x := by
  unfold State.granule
  exact congrArg (fun o => o.getD {}) (kget_kput_same s.tier.granules g x)

/-- Settles O19: each command's own definition under its condition; what a loaded layer leaves is followed through the whole of a
settling pipeline, which moves no stream and no pin. -/
theorem confirmsFencesAndStreams : Obligations.ConfirmsFencesAndStreams := by
  unfold Obligations.ConfirmsFencesAndStreams
  refine ⟨?confirm, ?fence, ?granule, ?layer, ?pin, ?stall⟩
  case confirm =>
    intro s h m hrun hup hpaired hrecs hwaits
    exact ⟨_, .inl (exec_confirm_one hrun hup hpaired hwaits), State.confirmOne_spec hrecs h.val m.toNat⟩
  case fence =>
    intro s id f hrun hf
    have hid : f.id = id := by simpa using List.find?_some hf
    refine ⟨fun hdone hcap hkind => ⟨s.fenceEnd f, .inl ((State.core_of_runs hrun _).trans ?_), State.fenceEnd_withdraw_spec hkind hcap s⟩,
      fun hopen => (State.core_of_runs hrun _).trans ?_, fun hbegun hmsgs => ⟨s.fenceTimeout f, (State.core_of_runs hrun _).trans ?_, ?_⟩⟩
    · simp only [hf, hdone, if_true]
    · simp only [hf, hopen, Bool.false_eq_true, if_false]
    · simp only [hf, hbegun, List.isEmpty_eq_false_iff.mpr hmsgs, Bool.not_false, Bool.and_self, if_true]
    · rw [← hid]
      exact s.fenceTimeout_spec f
  case granule =>
    intro s g hrun hclaims hfloat hclean haway
    refine ⟨s.setGranule g { s.granule g with evicting := false }, ?_, rfl, rfl, (State.core_ite_pos hrun ?_ _ _).trans ?_⟩
    · rw [State.granule_setGranule]
    · rw [hclaims, hfloat, hclean]; rfl
    · simp only [haway, Bool.false_eq_true, if_false]
  case layer =>
    intro s id layer ok x hrun hx hloading
    refine ⟨_, .inl (State.core_of_runs hrun _), rfl, ?_⟩
    have hlayers := State.layerLoaded_layersOf hx hloading ok
    have hcontains := congrArg (Option.map (fun l : List Nat => l.contains (layer % x.layers))) hlayers
    unfold State.layersOf at hcontains
    rw [Option.map_map] at hcontains
    exact hcontains.trans (by simp)
  case pin =>
    intro s c p hrun hp
    refine ⟨(s.pinLoaded p c).pinDone c, .inl ((State.core_of_runs hrun _).trans ?_), fun y hy => s.pinLoaded_pins p c y (State.pinDone_pins hy)⟩
    simp only [hp]
    rfl
  case stall =>
    intro s id x hrun hx hstall hreaders
    have hlimit : ((s.reg Reg.TIER_STRM_STALL).toNat != 0) = true :=
      bne_iff_ne.mpr fun h => hstall (BitVec.eq_of_toNat_eq h)
    constructor
    · intro hnew
      refine ⟨(s.updStream id (fun y => { y with stallSeen := some y.finished })).record .tierStreamStall (unitHome x.home) (leBytes 2 id),
        (State.core_of_runs hrun _).trans ?_, ?_, State.regBit_record rfl (by decide) (by decide) (by decide) (by decide) _ _ _⟩
      · simp only [hx, hlimit, hreaders, bne_iff_ne.mpr hnew, Bool.and_self, if_true]
      · rw [State.record_tier]
        have hentry := kget_kupd s.tier.streams id id (fun y => { y with stallSeen := some y.finished })
        rw [if_pos rfl, hx] at hentry
        exact congrArg (Option.map Stream.stallSeen) hentry
    · intro hold
      refine (State.core_of_runs hrun _).trans ?_
      simp only [hx, hold, bne_self_eq_false, Bool.and_false, Bool.false_eq_true, if_false]

end Sys2Proof.Machine
end

section
/-! ## Lines that T0 loses, keeps and cleans (R235, R245, R250, Table 07-2) -/

namespace Sys2Proof.Machine

/-- What is put under a key and taken out again leaves the other entries. -/
theorem kdel_kput {α : Type} (m : List (Nat × α)) (k : Nat) (v : α) : kdel (kput m k v) k = kdel m k := by
  induction m with
  | nil => simp [kput, kdel]
  | cons e m ih =>
    obtain ⟨k', v'⟩ := e
    unfold kdel at ih ⊢
    unfold kput
    split
    · simp
    · split
      · next heq => simp [heq]
      · simp only [List.filter_cons, ih]

theorem kget_of_not_mem {α : Type} {m : List (Nat × α)} {k : Nat} (h : k ∉ m.map (·.1)) : kget m k = none := by
  induction m with
  | nil => rfl
  | cons e m ih =>
    obtain ⟨k', v⟩ := e
    simp only [List.map_cons, List.mem_cons, not_or] at h
    obtain ⟨hne, hrest⟩ := h
    rw [kget, if_neg hne, ih hrest]

theorem mem_span {a n l : Nat} : l ∈ span a n ↔ a ≤ l ∧ l < a + n := by
  unfold span
  simp only [List.mem_map, List.mem_range]
  exact ⟨fun ⟨i, hi, hl⟩ => by omega, fun ⟨hlo, hhi⟩ => ⟨l - a, by omega, by omega⟩⟩

theorem State.line_dropLine (s : State) (l m : Nat) : (s.dropLine l).line m = if m = l then none else s.line m := by
  unfold State.line State.dropLine
  by_cases hm : m = l
  · rw [if_pos hm, hm, kget_kdel_same]
  · rw [if_neg hm, kget_kdel_other _ _ _ hm]

/-- A line after a write-back that it takes only while dirty and not being filled. -/
def Line.cleaned (x : Line) : Line := if x.dirty && !x.filling then { x with dirty := false, wrote := 0 } else x

theorem Line.cleaned_spec (x : Line) : x.cleaned.dirty = false ∨ x.cleaned.filling = true := by
  unfold Line.cleaned
  cases hd : x.dirty <;> cases hf : x.filling <;> simp [hd, hf]

theorem State.line_cleanLine (s : State) (l m : Nat) :
    (s.cleanLine l).line m = if m = l then (s.line l).map Line.cleaned else s.line m := by
  unfold State.cleanLine
  cases hx : s.line l with
  | none =>
    simp only [Option.map_none]
    split
    · next hm => rw [hm, hx]
    · rfl
  | some x =>
    rw [Option.map_some]
    unfold Line.cleaned
    simp only
    split
    · exact line_setLine _ l m _
    · split
      · next hm => rw [hm, hx]
      · rfl

/-- A line cleaned and made invalid: the cache loses its entry and no other (R253). -/
theorem State.cleanInvLine_lines (s : State) (l : Nat) : (s.cleanInvLine l).tier.lines = kdel s.tier.lines l := by
  show kdel (s.cleanLine l).tier.lines l = _
  unfold State.cleanLine
  split
  · split
    · exact kdel_kput s.tier.lines l _
    · rfl
  · rfl

theorem State.line_cleanInvLine (s : State) (l m : Nat) : (s.cleanInvLine l).line m = if m = l then none else s.line m := by
  refine (State.line_dropLine (s.cleanLine l) l m).trans (ite_congr rfl (fun _ => rfl) (fun hm => ?_))
  rw [line_cleanLine, if_neg hm]

/-- Lines cleaned and made invalid one after another leave the entries of the others. -/
theorem State.foldl_cleanInvLine_lines (ls : List Nat) (s : State) :
    (ls.foldl State.cleanInvLine s).tier.lines = s.tier.lines.filter (fun e => decide (e.1 ∉ ls)) := by
  induction ls generalizing s with
  | nil => exact (List.filter_eq_self.mpr (fun _ _ => decide_eq_true List.not_mem_nil)).symm
  | cons l ls ih =>
    rw [List.foldl_cons, ih, cleanInvLine_lines]
    unfold kdel
    rw [List.filter_filter]
    refine List.filter_congr (fun e _ => ?_)
    rw [Bool.eq_iff_iff]
    simp only [Bool.and_eq_true, decide_eq_true_eq, bne_iff_ne, List.mem_cons, not_or, and_comm]

/-- The clean and invalidate of the whole cache leaves no line (R245). -/
theorem State.cleanInvWhole_lines (s : State) : s.cleanInvWhole.tier.lines = [] := by
  refine (foldl_cleanInvLine_lines _ s).trans (List.filter_eq_nil_iff.mpr fun e he hout => ?_)
  exact (of_decide_eq_true hout) (List.mem_map_of_mem he)

/-- A line under INV_RANGE is lost, whether its data are written back or discarded (R253). -/
theorem State.line_invLine (s : State) (l m : Nat) : (s.invLine l).line m = if m = l then none else s.line m := by
  unfold State.invLine
  cases hx : s.line l with
  | none =>
    simp only
    split
    · next hm => rw [hm, hx]
    · rfl
  | some x =>
    simp only
    split
    · exact line_dropLine s l m
    · exact line_cleanInvLine s l m

section
variable {op : State → Nat → State} (hother : ∀ s l m, m ≠ l → (op s l).line m = s.line m)
include hother

/-- An operation on lines, each acting on its own line alone, leaves a line that is not listed. -/
theorem State.line_foldl_other {ls : List Nat} {m : Nat} (hm : m ∉ ls) (s : State) : (ls.foldl op s).line m = s.line m := by
  induction ls generalizing s with
  | nil => rfl
  | cons l ls ih =>
    obtain ⟨hne, hrest⟩ := not_or.mp (mt List.mem_cons.mpr hm)
    rw [List.foldl_cons, ih hrest, hother s l m hne]

/-- What such an operation establishes of its own line, it establishes of each line that is listed. -/
theorem State.line_foldl_of_mem {P : Option Line → Prop} (hown : ∀ s l, P ((op s l).line l)) {ls : List Nat} {m : Nat} (hm : m ∈ ls) (s : State) :
    P ((ls.foldl op s).line m) := by
  induction ls generalizing s with
  | nil => exact absurd hm (List.not_mem_nil)
  | cons l ls ih =>
    rw [List.foldl_cons]
    by_cases hrest : m ∈ ls
    · exact ih hrest (op s l)
    · rw [line_foldl_other hother hrest, (List.mem_cons.mp hm).resolve_right hrest]
      exact hown s l

end

/-- A line cleaned is clean, unless its fill is in progress (R239). -/
theorem State.foldl_cleanLine_clean {ls : List Nat} {m : Nat} (hm : m ∈ ls) (s : State) (x : Line)
    (hx : (ls.foldl State.cleanLine s).line m = some x) : x.dirty = false ∨ x.filling = true := by
  refine line_foldl_of_mem (op := State.cleanLine) (P := fun o => ∀ x, o = some x → x.dirty = false ∨ x.filling = true)
    (fun s l m hne => (line_cleanLine s l m).trans (if_neg hne)) (fun s l x hx => ?_) hm s x hx
  rw [line_cleanLine, if_pos rfl] at hx
  obtain ⟨y, -, rfl⟩ := Option.map_eq_some_iff.mp hx
  exact y.cleaned_spec

theorem State.line_foldl_invLine {ls : List Nat} {m : Nat} (hm : m ∈ ls) (s : State) : (ls.foldl State.invLine s).line m = none :=
  line_foldl_of_mem (P := fun o => o = none) (fun s l m hne => (line_invLine s l m).trans (if_neg hne))
    (fun s l => (line_invLine s l l).trans (if_pos rfl)) hm s

theorem State.line_foldl_cleanInvLine {ls : List Nat} {m : Nat} (hm : m ∈ ls) (s : State) : (ls.foldl State.cleanInvLine s).line m = none :=
  line_foldl_of_mem (P := fun o => o = none) (fun s l m hne => (line_cleanInvLine s l m).trans (if_neg hne))
    (fun s l => (line_cleanInvLine s l l).trans (if_pos rfl)) hm s

/-- The whole cache cleaned: every line is clean, unless its fill is in progress. -/
theorem State.cleanWhole_clean (s : State) (m : Nat) (x : Line)
    (hx : ((s.tier.lines.map (·.1)).foldl State.cleanLine s).line m = some x) : x.dirty = false ∨ x.filling = true := by
  by_cases hm : m ∈ s.tier.lines.map (·.1)
  · exact foldl_cleanLine_clean hm s x hx
  · rw [line_foldl_other (op := State.cleanLine) (fun s l m hne => (line_cleanLine s l m).trans (if_neg hne)) hm] at hx
    exact absurd ((kget_of_not_mem hm).symm.trans hx) nofun

/-- Lines cleaned one after another change no byte that a reader sees (R236). -/
theorem State.poolByte_foldl_cleanLine (ls : List Nat) (s : State) (a : Nat) : (ls.foldl State.cleanLine s).poolByte a = s.poolByte a :=
  foldl_view (fun s => s.poolByte a) State.cleanLine ls s (fun s l => s.poolByte_cleanLine l a)

end Sys2Proof.Machine
end

section
/-! ## The line cache enabled, disabled and locked; fills, buffers and banks (R239, R241, R244 to R246, R250) -/

namespace Sys2Proof.Machine

/-- A command of a core that runs, by the state that its own definition gives. -/
theorem State.core_eq_next {s t u : State} (hrun : s.coreRuns = true) (h : t = u) : s.core t = .next u :=
  h ▸ State.core_of_runs hrun t

/-! ### The lock word -/

/-- A clear bit of a byte that is set adds its weight. -/
theorem or_two_pow_of_clear {v w : Nat} (hv : v < 2 ^ 8) (hw : w < 8) (h : v.testBit w = false) : v ||| 2 ^ w = v + 2 ^ w := by
  have hweight : 2 ^ w < 2 ^ 8 := Nat.pow_lt_pow_right (by decide) hw
  have hdisjoint : BitVec.ofNat 8 v &&& BitVec.ofNat 8 (2 ^ w) = 0#8 := by
    refine BitVec.eq_of_getLsbD_eq (fun i _ => ?_)
    simp only [BitVec.getLsbD_and, BitVec.getLsbD_ofNat, Nat.testBit_two_pow]
    by_cases hwi : w = i
    · subst hwi; simp [h]
    · simp [hwi]
  have hsum := congrArg BitVec.toNat (BitVec.add_eq_or_of_and_eq_zero _ _ hdisjoint)
  rw [BitVec.toNat_add_of_and_eq_zero hdisjoint] at hsum
  simpa only [BitVec.toNat_or, BitVec.toNat_ofNat, Nat.mod_eq_of_lt hv, Nat.mod_eq_of_lt hweight] using hsum.symm

/-- A bit of a byte that is cleared takes its weight away. -/
theorem and_clear_add_two_pow {v w : Nat} (hv : v < 2 ^ 8) (hw : w < 8) (h : v.testBit w = true) :
    (v &&& (255 - 1 <<< w)) + 2 ^ w = v := by
  have hweight : 2 ^ w < 2 ^ 8 := Nat.pow_lt_pow_right (by decide) hw
  have hmask (i : Nat) : (255 - 1 <<< w).testBit i = (decide (i < 8) && !decide (w = i)) := by
    rw [Nat.one_shiftLeft, show 255 - 2 ^ w = 2 ^ 8 - (2 ^ w + 1) by omega, Nat.testBit_two_pow_sub_succ hweight, Nat.testBit_two_pow]
  have hclear : (v &&& (255 - 1 <<< w)).testBit w = false := by
    rw [Nat.testBit_and, hmask]
    simp
  rw [← or_two_pow_of_clear (Nat.lt_of_le_of_lt Nat.and_le_left hv) hw hclear]
  refine Nat.eq_of_testBit_eq (fun i => ?_)
  rw [Nat.testBit_or, Nat.testBit_and, hmask, Nat.testBit_two_pow]
  by_cases hwi : w = i
  · subst hwi; simp [h]
  · by_cases hi : i < 8
    · simp [hwi, hi]
    · simp [hwi, Nat.testBit_lt_two_pow (Nat.lt_of_lt_of_le hv (Nat.pow_le_pow_right (by decide) (Nat.le_of_not_lt hi)))]

theorem State.lock_lt (s : State) : s.get Fld.LC_LOCK_LOCK < 2 ^ 8 := Nat.mod_lt _ (by decide)

theorem State.lcLockWrite_of_busy {s : State} (hbusy : s.on Fld.LC_STATUS_LOCK_BUSY = true) (v : Nat) : s.lcLockWrite v = s :=
  if_pos hbusy

section
variable {s : State} (hidle : s.on Fld.LC_STATUS_LOCK_BUSY = false) {v : Nat}
include hidle

/-- A write that sets no lock bit acts at once (R250). -/
theorem State.lcLockWrite_of_lowered (hv : s.get Fld.LC_LOCK_LOCK &&& v = v % 256) :
    s.lcLockWrite v = s.put Fld.LC_LOCK_LOCK (s.get Fld.LC_LOCK_LOCK &&& v) := by
  unfold State.lcLockWrite
  simp only [hidle, hv, Bool.false_eq_true, if_false, if_true]

/-- A write that sets a lock bit makes the lock busy with its ways (R250). -/
theorem State.lcLockWrite_of_raised (hv : s.get Fld.LC_LOCK_LOCK &&& v ≠ v % 256) :
    (s.lcLockWrite v).on Fld.LC_STATUS_LOCK_BUSY = true ∧ (s.lcLockWrite v).tier = { s.tier with lockNew := some (v % 256) } := by
  unfold State.lcLockWrite
  simp only [hidle, hv, Bool.false_eq_true, if_false]
  exact ⟨on_put_one _ _ (by decide) rfl, rfl⟩

/-- The lock bit of an unlocked way set: the ways to be locked are those locked and this one. -/
theorem State.lcLockSet_spec {w : Fin 8} (hopen : s.wayLocked w.val = false) :
    let t := s.lcLockWrite (s.get Fld.LC_LOCK_LOCK ||| 1 <<< w.val)
    t.on Fld.LC_STATUS_LOCK_BUSY = true ∧ t.tier = { s.tier with lockNew := some (s.get Fld.LC_LOCK_LOCK + 2 ^ w.val) } := by
  have hclear : (s.get Fld.LC_LOCK_LOCK).testBit w.val = false := by simpa [State.wayLocked, w.isLt] using hopen
  have hsum := or_two_pow_of_clear s.lock_lt w.isLt hclear
  have hbyte : s.get Fld.LC_LOCK_LOCK + 2 ^ w.val < 256 :=
    hsum ▸ Nat.or_lt_two_pow s.lock_lt (Nat.pow_lt_pow_right (by decide) w.isLt)
  have hpos : 0 < 2 ^ w.val := Nat.two_pow_pos _
  have hraised := lcLockWrite_of_raised hidle (v := s.get Fld.LC_LOCK_LOCK ||| 1 <<< w.val) (by
    have hle : s.get Fld.LC_LOCK_LOCK &&& (s.get Fld.LC_LOCK_LOCK ||| 1 <<< w.val) ≤ s.get Fld.LC_LOCK_LOCK := Nat.and_le_left
    rw [Nat.one_shiftLeft, hsum] at hle ⊢
    rw [Nat.mod_eq_of_lt hbyte]
    omega)
  rw [Nat.one_shiftLeft, hsum, Nat.mod_eq_of_lt hbyte] at hraised
  rwa [Nat.one_shiftLeft, hsum]

/-- The lock bit of a locked way cleared: it goes from LC_LOCK at once. -/
theorem State.lcLockClear_spec {w : Fin 8} (hlocked : s.wayLocked w.val = true) :
    let t := s.lcLockWrite (s.get Fld.LC_LOCK_LOCK &&& (255 - 1 <<< w.val))
    t.get Fld.LC_LOCK_LOCK + 2 ^ w.val = s.get Fld.LC_LOCK_LOCK ∧ t.tier = s.tier := by
  have hset : (s.get Fld.LC_LOCK_LOCK).testBit w.val = true := by simpa [State.wayLocked, w.isLt] using hlocked
  have hbyte : s.get Fld.LC_LOCK_LOCK &&& (255 - 1 <<< w.val) < 2 ^ 8 := Nat.lt_of_le_of_lt Nat.and_le_left s.lock_lt
  intro t
  have habsorbed : s.get Fld.LC_LOCK_LOCK &&& (s.get Fld.LC_LOCK_LOCK &&& (255 - 1 <<< w.val)) = s.get Fld.LC_LOCK_LOCK &&& (255 - 1 <<< w.val) := by
    rw [← Nat.and_assoc, Nat.and_self]
  have ht : t = s.put Fld.LC_LOCK_LOCK (s.get Fld.LC_LOCK_LOCK &&& (255 - 1 <<< w.val)) := by
    have hlowered := lcLockWrite_of_lowered hidle (habsorbed.trans (Nat.mod_eq_of_lt hbyte).symm)
    rwa [habsorbed] at hlowered
  rw [ht, get_put_same _ _ _ (by decide), Nat.mod_eq_of_lt hbyte]
  exact ⟨and_clear_add_two_pow s.lock_lt w.isLt hset, rfl⟩

end

/-- The end of a lock: no line is left in the ways that it locks (R250). -/
theorem State.lcLockDone_spec {s : State} {v : Nat} (hnew : s.tier.lockNew = some v) (hv : v < 256) :
    s.lcLockDone.get Fld.LC_LOCK_LOCK = v ∧ s.lcLockDone.tier.lockNew = none ∧ s.lcLockDone.on Fld.LC_STATUS_LOCK_BUSY = false ∧
      ∀ e ∈ s.lcLockDone.tier.lines, ¬(e.2.way < 8 ∧ v.testBit e.2.way = true ∧ (s.get Fld.LC_LOCK_LOCK).testBit e.2.way = false) := by
  unfold State.lcLockDone
  simp only [hnew]
  refine ⟨?_, rfl, on_put_zero _ _ (by decide), fun e he ⟨hway, hin, hout⟩ => ?_⟩
  · rw [get_put_reg _ _ _ _ (by decide), get_put_same _ _ _ (by decide)]
    exact Nat.mod_eq_of_lt hv
  · have hkept := (foldl_cleanInvLine_lines _ s) ▸ he
    obtain ⟨hmem, hnot⟩ := List.mem_filter.mp hkept
    refine of_decide_eq_true hnot (List.mem_map_of_mem (List.mem_filter.mpr ⟨hmem, ?_⟩))
    simp [hway, hin, hout]

/-! ### Enable and disable -/

/-- A one-bit field of the same register reads as before another field was set. -/
theorem State.on_put_field (s : State) (f g : Field) (v : Nat) (ha : g.addr = f.addr) (hg : g.lo + g.width ≤ 32)
    (h : g.lo + g.width ≤ f.lo ∨ f.lo + f.width ≤ g.lo) : (s.put f v).on g = s.on g :=
  congrArg (· != 0) (s.get_put_field f g v ha hg h)

theorem State.lcEnable_of_invalidated {s : State} (hen : s.on Fld.LC_CTRL_EN = false) (hinv : s.on Fld.LC_STATUS_INV_DONE = true) :
    s.lcEnable.1 = (s.put Fld.LC_CTRL_EN 1).put Fld.LC_STATUS_ENABLED 1 := by
  unfold State.lcEnable
  simp only [hen, hinv, Bool.false_eq_true, if_false, if_true]

theorem State.lcEnable_of_uninvalidated {s : State} (hen : s.on Fld.LC_CTRL_EN = false) (hinv : s.on Fld.LC_STATUS_INV_DONE = false) :
    s.lcEnable.1 = (s.put Fld.LC_STATUS_EN_REFUSED 1).record .lcEnableRefused := by
  unfold State.lcEnable
  simp only [hen, hinv, Bool.false_eq_true, if_false]

theorem State.lcEnable_of_enabled {s : State} (hen : s.on Fld.LC_CTRL_EN = true) : s.lcEnable.1 = s := by
  unfold State.lcEnable
  rw [if_pos hen]

/-- The refusal of an enable sets EN_REFUSED; the event that it records changes neither EN nor the cache (R244). -/
theorem State.lcEnable_refused_spec {s : State} (hen : s.on Fld.LC_CTRL_EN = false) (hinv : s.on Fld.LC_STATUS_INV_DONE = false) :
    s.lcEnable.1.on Fld.LC_CTRL_EN = false ∧ s.lcEnable.1.on Fld.LC_STATUS_EN_REFUSED = true ∧ s.lcEnable.1.tier = s.tier := by
  rw [lcEnable_of_uninvalidated hen hinv]
  refine ⟨?_, ?_, record_tier _ _ _ _ _ _⟩
  · rw [on_of_reg (reg_record _ _ _ _ _ _ _ (by decide)), on_of_reg (reg_put_other s _ _ _ (by decide)), hen]
  · rw [on_of_reg (reg_record _ _ _ _ _ _ _ (by decide))]
    exact on_put_one s _ (by decide) rfl

/-- The end of a disable: no line is left and the cache is off (R245). -/
theorem State.lcDisableDone_spec {s : State} (hdis : s.on Fld.LC_STATUS_DISABLING = true) :
    s.lcDisableDone.tier.lines = [] ∧ s.lcDisableDone.on Fld.LC_CTRL_EN = false ∧ s.lcDisableDone.on Fld.LC_STATUS_ENABLED = false ∧
      s.lcDisableDone.on Fld.LC_STATUS_DISABLING = false := by
  unfold State.lcDisableDone
  rw [if_pos hdis]
  refine ⟨s.cleanInvWhole_lines, ?_, on_put_zero _ _ (by decide), ?_⟩
  · rw [on_of_reg (reg_put_other _ _ _ _ (by decide))]
    exact on_put_zero _ _ (by decide)
  · rw [on_put_field _ Fld.LC_STATUS_ENABLED Fld.LC_STATUS_DISABLING _ rfl (by decide) (by decide), on_of_reg (reg_put_other _ _ _ _ (by decide))]
    exact on_put_zero _ _ (by decide)

/-! ### Fills and banks -/

theorem State.endLineFill_of_filling {s : State} {l : Nat} {x : Line} (hx : s.line l = some x) (hf : x.filling = true) :
    s.endLineFill l = s.setLine l { x with filling := false, data := s.t1Read (l * 64) 64 } := by
  unfold State.endLineFill
  simp only [hx, hf, if_true]

/-- The transactions that waited for a fill buffer do so no more (R241). -/
def State.buffersFreed (s : State) : State :=
  { s with net := { s.net with txns := s.net.txns.map (fun t => { t with waitBuffer := false }) } }

theorem State.buffersFreed_regs (s : State) : s.buffersFreed.regs = s.regs := rfl

/-- The cache after a bank has invalidated its sets: the bank is on and holds no line (R246). -/
def State.bankInvalidated (s : State) (b : Nat) : State :=
  ({ s with tier := { s.tier with lines := s.tier.lines.filter (fun e => t0Bank (e.1 * 64) != b) } } : State).setRegBit Reg.LC_STATUS (16 + b) true

theorem State.bankOn_of_regs {s t : State} (h : t.regs = s.regs) (b : Nat) : t.bankOn b = s.bankOn b := by
  unfold State.bankOn State.regBit
  rw [reg_of_regs h]

theorem State.bankInvalidated_spec (s : State) (b : Fin 16) :
    (s.bankInvalidated b.val).bankOn b.val = true ∧ (∀ e ∈ (s.bankInvalidated b.val).tier.lines, t0Bank (e.1 * 64) ≠ b.val) ∧
      (s.bankInvalidated b.val).tier.t1 = s.tier.t1 :=
  ⟨regBit_setRegBit_same _ _ _ true (by omega), fun _ he => bne_iff_ne.mp (List.mem_filter.mp he).2, rfl⟩

/-- Settles O35: each command's own definition under its condition; the clean and invalidate by the entries that it takes out. -/
theorem lineCacheIsControlled : Obligations.LineCacheIsControlled := by
  unfold Obligations.LineCacheIsControlled
  refine ⟨fun s hrun => ⟨?enable, ?refuse, ?enabled, ?disabled, ?disable⟩, fun s w hrun => ⟨?busy, ?lock, ?unlock, ?locked⟩,
    fun s l hrun => ⟨?fill, ?filled⟩, fun s b hrun => ⟨?buffer, ?full, ?bank⟩⟩
  case enable =>
    intro hen hinv
    refine ⟨_, State.core_eq_next hrun (State.lcEnable_of_invalidated hen hinv), ?_, ?_, rfl⟩
    · rw [State.on_of_reg (State.reg_put_other _ _ _ _ (by decide))]
      exact State.on_put_one s _ (by decide) rfl
    · exact State.on_put_one _ _ (by decide) rfl
  case refuse =>
    exact fun hen hinv => ⟨_, State.core_of_runs hrun _, State.lcEnable_refused_spec hen hinv⟩
  case enabled =>
    exact fun hen => ⟨State.core_eq_next hrun (State.lcEnable_of_enabled hen), State.core_ite_pos hrun hen _ _⟩
  case disabled =>
    exact fun hen => State.core_ite_neg hrun (by simp [hen]) _ _
  case disable =>
    exact fun hdis => ⟨_, State.core_of_runs hrun _, State.lcDisableDone_spec hdis⟩
  case busy =>
    exact fun hbusy => ⟨State.core_eq_next hrun (State.lcLockWrite_of_busy hbusy _), State.core_eq_next hrun (State.lcLockWrite_of_busy hbusy _)⟩
  case lock =>
    intro hidle hopen
    obtain ⟨hbusy, htier⟩ := State.lcLockSet_spec hidle hopen
    exact ⟨_, State.core_of_runs hrun _, hbusy, by rw [htier], by rw [htier]⟩
  case unlock =>
    exact fun hidle hlocked => ⟨_, State.core_of_runs hrun _, State.lcLockClear_spec hidle hlocked⟩
  case locked =>
    exact fun v hnew hv => ⟨_, State.core_of_runs hrun _, State.lcLockDone_spec hnew hv⟩
  case fill =>
    intro x hx hf
    refine ⟨s.endLineFill l, (State.core_of_runs hrun _).trans ?_, ?_⟩
    · simp only [hx, hf, if_true]
    · rw [State.endLineFill_of_filling hx hf]
      exact ⟨(s.line_setLine l l _).trans (if_pos rfl), rfl, rfl⟩
  case filled =>
    intro x hx hf
    refine (State.core_of_runs hrun _).trans ?_
    simp only [hx, hf, Bool.false_eq_true, if_false]
  case buffer =>
    intro hfree
    refine ⟨s.buffersFreed, .inl (State.core_ite_pos hrun hfree _ _), rfl, fun t ht => ?_⟩
    obtain ⟨x, -, rfl⟩ := List.mem_map.mp ht
    rfl
  case full =>
    exact fun hfull => State.core_ite_neg hrun (Nat.not_lt.mpr hfull) _ _
  case bank =>
    intro hoff
    obtain ⟨hon, hlines, ht1⟩ := s.bankInvalidated_spec b
    exact ⟨(s.bankInvalidated b.val).buffersFreed, .inl (State.core_ite_neg hrun (by simp [hoff]) _ _),
      (State.bankOn_of_regs (State.buffersFreed_regs _) b.val).trans hon, hlines, ht1⟩

end Sys2Proof.Machine
end

section
/-! ## Maintenance operations of the line cache (R247, R248, R252, R253, Table 07-2, Table 07-7) -/

namespace Sys2Proof.Machine

/-- Lines under LOCK_FILL one after another, and how many of them are placed (R252). -/
def State.lockFillLines (s : State) (mask : Nat) (ls : List Nat) : State × Nat :=
  ls.foldl (fun acc l => ((acc.1.lockFillLine mask l).1, if (acc.1.lockFillLine mask l).2 then acc.2 + 1 else acc.2)) (s, 0)

/-! ### Starts that are refused (Table 07-7) -/

theorem State.mopStart_of_busy {s : State} (hbusy : s.on Fld.LC_MOP_STATUS_BUSY = true) (op mask : Nat) :
    s.mopStart op mask = s.put Fld.LC_MOP_STATUS_ERR 1 := if_pos hbusy

/-- A write of an OP value that Table 07-2 does not list goes to the same start as one that it lists (R247). -/
theorem exec_lcMopReservedOp {s : State} (hrun : s.coreRuns = true) {op : BitVec 4} (hop : op = 0 ∨ 8 < op.toNat) :
    exec (.lcMopReservedOp op) s = .next (s.mopStart op.toNat 0) := by
  have hunlisted : (decide (op = 0) || decide (8 < op.toNat)) = true := by simpa using hop
  exact (if_pos hunlisted).trans (State.core_of_runs hrun _)

/-- Each command that writes LC_MOP_CMD, with an OP of Table 07-2 or another, is a start of its operation (R247). -/
theorem exec_mop {s : State} (hrun : s.coreRuns = true) :
    ∀ i ∈ [Instr.invAll, .invRange, .cleanRange, .cleanInvRange, .zeroLine, .cleanAll, .cleanInvAll, .lockFill 1, .lcMopReservedOp 0, .lcMopReservedOp 9],
      ∃ op mask, exec i s = .next (s.mopStart op mask) := by
  simp only [List.forall_mem_cons]
  refine ⟨⟨1, 0, ?_⟩, ⟨2, 0, ?_⟩, ⟨3, 0, ?_⟩, ⟨4, 0, ?_⟩, ⟨5, 0, ?_⟩, ⟨7, 0, ?_⟩, ⟨8, 0, ?_⟩, ⟨6, 1, ?_⟩,
    ⟨_, 0, exec_lcMopReservedOp hrun (.inl rfl)⟩, ⟨_, 0, exec_lcMopReservedOp hrun (by decide)⟩, List.forall_mem_nil _⟩
  all_goals exact State.core_of_runs hrun _

section
variable {s : State} (hidle : s.on Fld.LC_MOP_STATUS_BUSY = false)
include hidle

theorem State.mopStart_of_unlisted {op : Nat} (hop : op = 0 ∨ 8 < op) (mask : Nat) : s.mopStart op mask = s.put Fld.LC_MOP_STATUS_ERR 2 := by
  unfold State.mopStart
  have hunlisted : (decide (op = 0) || decide (8 < op)) = true := by simpa using hop
  simp only [hidle, hunlisted, Bool.false_eq_true, if_false, if_true]
  rfl

theorem State.mopStart_invAll_of_enabled (hen : s.on Fld.LC_CTRL_EN = true) : s.mopStart 1 0 = s.put Fld.LC_MOP_STATUS_ERR 3 := by
  simp [State.mopStart, State.mopRefuse, hidle, hen]

theorem State.mopStart_invAll_of_disabled (hen : s.on Fld.LC_CTRL_EN = false) :
    s.mopStart 1 0 = ({ s with tier := { s.tier with lines := [] } } : State).mopBegin 1 t0Lines 0 := by
  simp [State.mopStart, hidle, hen]

/-- ZERO_LINE and LOCK_FILL need an enabled cache. -/
theorem State.mopStart_placing_of_disabled (hen : s.on Fld.LC_CTRL_EN = false) {op : Nat} (hop : op = 5 ∨ op = 6) (mask : Nat) :
    s.mopStart op mask = s.put Fld.LC_MOP_STATUS_ERR 3 := by
  obtain rfl | rfl := hop <;> simp [State.mopStart, State.mopRefuse, hidle, hen]

theorem State.mopStart_cleanAll_of_disabled (hen : s.on Fld.LC_CTRL_EN = false) : s.mopStart 7 0 = s.mopAtOnce 7 := by
  simp [State.mopStart, hidle, hen]

/-! ### Starts on an enabled cache -/

variable (hen : s.on Fld.LC_CTRL_EN = true)
include hen

theorem State.mopStart_cleanAll : s.mopStart 7 0 = ((s.tier.lines.map (·.1)).foldl State.cleanLine s).mopBegin 7 t0Lines 0 := by
  simp [State.mopStart, hidle, hen]

theorem State.mopStart_cleanInvAll : s.mopStart 8 0 = s.cleanInvWhole.mopBegin 8 t0Lines 0 := by
  simp [State.mopStart, hidle, hen]

/-- ZERO_LINE reaches no line below the firmware reserve (Table 07-7). -/
theorem State.mopStart_zeroLine_of_below (hbelow : s.mopRange.1 < reserveLine) :
    s.mopStart 5 0 = s.put Fld.LC_MOP_STATUS_ERR 4 := by
  simp [State.mopStart, State.mopRefuse, hidle, hen, hbelow]

variable {l0 n : Nat} (hrange : s.mopRange = (l0, n)) (hspace : l0 + n ≤ 2 ^ 45)
include hrange hspace

theorem State.mopStart_invRange : s.mopStart 2 0 = ((span l0 n).foldl State.invLine s).mopBegin 2 n 0 := by
  simp [State.mopStart, hidle, hen, hrange, Nat.not_lt.mpr hspace, -Nat.reducePow]

theorem State.mopStart_cleanRange : s.mopStart 3 0 = ((span l0 n).foldl State.cleanLine s).mopBegin 3 n 0 := by
  simp [State.mopStart, hidle, hen, hrange, Nat.not_lt.mpr hspace, -Nat.reducePow]

theorem State.mopStart_cleanInvRange : s.mopStart 4 0 = ((span l0 n).foldl State.cleanInvLine s).mopBegin 4 n 0 := by
  simp [State.mopStart, hidle, hen, hrange, Nat.not_lt.mpr hspace, -Nat.reducePow]

theorem State.mopStart_zeroLine (hreserve : reserveLine ≤ l0) :
    s.mopStart 5 0 = ((span l0 n).foldl State.zeroT0Line s).mopBegin 5 n 0 := by
  simp [State.mopStart, hidle, hen, hrange, Nat.not_lt.mpr hspace, Nat.not_lt.mpr hreserve, -Nat.reducePow]

/-- LOCK_FILL with locked ways only begins, with the number of lines that it placed (R252). -/
theorem State.mopStart_lockFill (hreserve : reserveLine ≤ l0) {mask : Nat} (hmask : mask ≠ 0)
    (hlocked : ∀ w, w < 8 → mask.testBit w = true → s.wayLocked w = true) :
    s.mopStart 6 mask = (s.lockFillLines mask (span l0 n)).1.mopBegin 6 (s.lockFillLines mask (span l0 n)).2
      (if (s.lockFillLines mask (span l0 n)).2 < n then 5 else 0) := by
  have hways : (List.range 8).any (fun w => mask.testBit w && !s.wayLocked w) = false := by
    refine List.any_eq_false.mpr (fun w hw hopen => ?_)
    simp only [Bool.and_eq_true, Bool.not_eq_true'] at hopen
    obtain ⟨hbit, hunlocked⟩ := hopen
    exact absurd (hlocked w (List.mem_range.mp hw) hbit) (by simp [hunlocked])
  simp [State.mopStart, State.lockFillLines, hidle, hen, hrange, hmask, hways, Nat.not_lt.mpr hspace, Nat.not_lt.mpr hreserve, -Nat.reducePow,
    -List.any_eq_false, -Bool.and_eq_true] <;> rfl

end

/-! ### An operation that has begun, and its end (R248) -/

/-- An operation that has begun is busy and shows its code and its count; but for the operation it leaves the tiers. -/
theorem State.mopBegin_spec (s : State) {op : Nat} (hop : op < 16) (done err : Nat) :
    (s.mopBegin op done err).on Fld.LC_MOP_STATUS_BUSY = true ∧ (s.mopBegin op done err).get Fld.LC_MOP_STATUS_LAST_OP = op ∧
      (s.mopBegin op done err).reg Reg.LC_MOP_DONE = BitVec.ofNat 32 done ∧
      (s.mopBegin op done err).tier = { s.tier with mop := some (op, err) } := by
  unfold State.mopBegin
  extract_lets s1
  have hstatus : (s1.setReg Reg.LC_MOP_DONE (BitVec.ofNat 32 done)).reg Reg.LC_MOP_STATUS = s1.reg Reg.LC_MOP_STATUS :=
    reg_setReg_other s1 _ _ _ (by decide)
  refine ⟨(on_of_reg (s := s1) hstatus).trans ?_, (get_of_reg (s := s1) hstatus).trans ?_, reg_setReg_same s1 _ _, rfl⟩
  · rw [on_put_field _ Fld.LC_MOP_STATUS_LAST_OP Fld.LC_MOP_STATUS_BUSY _ rfl (by decide) (by decide),
      on_put_field _ Fld.LC_MOP_STATUS_ERR Fld.LC_MOP_STATUS_BUSY _ rfl (by decide) (by decide)]
    exact on_put_one s _ (by decide) rfl
  · exact (get_put_same _ _ _ (by decide)).trans (Nat.mod_eq_of_lt hop)

theorem State.poolByte_mopBegin (s : State) (op done err a : Nat) : (s.mopBegin op done err).poolByte a = s.poolByte a :=
  poolByte_congr rfl rfl

/-- An operation on a range whose lines are all lost has begun. -/
theorem State.mopBegin_of_lost {u : State} {l0 n op : Nat} (hop : op < 16) (hlost : ∀ l ∈ span l0 n, u.line l = none) :
    (∀ l, l0 ≤ l → l < l0 + n → (u.mopBegin op n 0).line l = none) ∧ (u.mopBegin op n 0).on Fld.LC_MOP_STATUS_BUSY = true ∧
      (u.mopBegin op n 0).get Fld.LC_MOP_STATUS_LAST_OP = op ∧ (u.mopBegin op n 0).reg Reg.LC_MOP_DONE = BitVec.ofNat 32 n ∧
      (u.mopBegin op n 0).tier.mop = some (op, 0) := by
  obtain ⟨hbusy, hlast, hdone, htier⟩ := u.mopBegin_spec hop n 0
  exact ⟨fun l hlo hhi => hlost l (mem_span.mpr ⟨hlo, hhi⟩), hbusy, hlast, hdone, by rw [htier]⟩

/-- The operation is over: BUSY is clear and ERR shows its error. -/
def State.mopOver (s : State) (err : Nat) : State :=
  (({ s with tier := { s.tier with mop := none } } : State).put Fld.LC_MOP_STATUS_BUSY 0).put Fld.LC_MOP_STATUS_ERR err

/-- After INV_ALL, INV_DONE is set and every bank is on as well (R244). -/
def State.mopEnded (s : State) (op err : Nat) : State :=
  if op = 1 then ((s.mopOver err).put Fld.LC_STATUS_INV_DONE 1).put Fld.LC_STATUS_BANK_ON 0xFFFF else s.mopOver err

theorem State.mopDone_of_running {s : State} {op err : Nat} (hmop : s.tier.mop = some (op, err)) :
    s.mopDone = if err = 0 then s.mopEnded op err else (s.mopEnded op err).record .lcMopErr := by
  unfold State.mopDone
  rw [hmop]
  rfl

theorem State.mopEnded_tier (s : State) (op err : Nat) : (s.mopEnded op err).tier = { s.tier with mop := none } := by
  unfold State.mopEnded
  split <;> rfl

theorem State.mopEnded_status (s : State) (op err : Nat) : (s.mopEnded op err).reg Reg.LC_MOP_STATUS = (s.mopOver err).reg Reg.LC_MOP_STATUS := by
  unfold State.mopEnded
  split
  · rw [reg_put_other _ _ _ _ (by decide), reg_put_other _ _ _ _ (by decide)]
  · rfl

/-- The end of an operation: BUSY clears, ERR shows its error, and INV_ALL sets INV_DONE (R244, R248). -/
theorem State.mopEnded_spec (s : State) (op : Nat) {err : Nat} (herr : err < 8) :
    (s.mopEnded op err).on Fld.LC_MOP_STATUS_BUSY = false ∧ (s.mopEnded op err).get Fld.LC_MOP_STATUS_ERR = err ∧
      (op = 1 → (s.mopEnded op err).on Fld.LC_STATUS_INV_DONE = true) := by
  refine ⟨(on_of_reg (s.mopEnded_status op err)).trans ?_, (get_of_reg (s.mopEnded_status op err)).trans ?_, fun hop => ?_⟩
  · unfold State.mopOver
    rw [on_put_field _ Fld.LC_MOP_STATUS_ERR Fld.LC_MOP_STATUS_BUSY _ rfl (by decide) (by decide)]
    exact on_put_zero _ _ (by decide)
  · exact (get_put_same _ _ _ (by decide)).trans (Nat.mod_eq_of_lt herr)
  · unfold State.mopEnded
    rw [if_pos hop, on_put_field _ Fld.LC_STATUS_BANK_ON Fld.LC_STATUS_INV_DONE _ rfl (by decide) (by decide)]
    exact on_put_one _ _ (by decide) rfl

/-- The event that an error records changes neither the cache nor what its registers show. -/
theorem State.mopDone_spec {s : State} {op err : Nat} (hmop : s.tier.mop = some (op, err)) (herr : err < 8) :
    s.mopDone.tier.mop = none ∧ s.mopDone.on Fld.LC_MOP_STATUS_BUSY = false ∧ s.mopDone.get Fld.LC_MOP_STATUS_ERR = err ∧
      (op = 1 → s.mopDone.on Fld.LC_STATUS_INV_DONE = true) ∧ s.mopDone.tier.lines = s.tier.lines := by
  obtain ⟨hbusy, hshown, hinv⟩ := s.mopEnded_spec op herr
  have htier := s.mopEnded_tier op err
  rw [mopDone_of_running hmop]
  split
  · exact ⟨by rw [htier], hbusy, hshown, hinv, by rw [htier]⟩
  · have hreg {a : Nat} (ha : a ∉ recordRegs .lcMopErr 0) := (s.mopEnded op err).reg_record .lcMopErr 0 [] 0 none a ha
    refine ⟨by rw [record_tier, htier], (on_of_reg (hreg (by decide))).trans hbusy, (get_of_reg (hreg (by decide))).trans hshown,
      fun hop => (on_of_reg (hreg (by decide))).trans (hinv hop), by rw [record_tier, htier]⟩

/-- Settles O36: the start of each operation under its conditions, and what its acts on single lines do to the lines of a range. -/
theorem maintenanceOperationsAct : Obligations.MaintenanceOperationsAct := by
  unfold Obligations.MaintenanceOperationsAct
  refine ⟨?busy, ?unlisted, fun s m hrun hidle => ⟨?invAllOn, fun hen => ⟨?zeroOff, ?lockOff, ?cleanAllOff, ?invAll⟩, ?below⟩,
    fun s l0 n hrun hidle hen hrange hspace => ⟨?inv, ?clean, ?zero, ?lockFill, ?cleanAll, ?cleanInvAll⟩, ?done⟩
  case busy =>
    intro s hrun hbusy i hi
    obtain ⟨op, mask, hexec⟩ := exec_mop hrun i hi
    rw [hexec, State.mopStart_of_busy hbusy]
  case unlisted =>
    intro s op hrun hidle hop
    rw [exec_lcMopReservedOp hrun hop, State.mopStart_of_unlisted hidle (hop.imp_left (congrArg BitVec.toNat))]
  case invAllOn =>
    exact fun hen => State.core_eq_next hrun (State.mopStart_invAll_of_enabled hidle hen)
  case zeroOff =>
    exact State.core_eq_next hrun (State.mopStart_placing_of_disabled hidle hen (.inl rfl) 0)
  case lockOff =>
    exact State.core_eq_next hrun (State.mopStart_placing_of_disabled hidle hen (.inr rfl) m.toNat)
  case cleanAllOff =>
    exact State.core_eq_next hrun (State.mopStart_cleanAll_of_disabled hidle hen)
  case invAll =>
    refine ⟨_, State.core_eq_next hrun (State.mopStart_invAll_of_disabled hidle hen), ?_⟩
    obtain ⟨hbusy, hlast, -, htier⟩ := State.mopBegin_spec { s with tier := { s.tier with lines := [] } } (op := 1) (by decide) t0Lines 0
    exact ⟨by rw [htier], hbusy, hlast, by rw [htier]⟩
  case below =>
    exact fun hen _ hbelow => State.core_eq_next hrun (State.mopStart_zeroLine_of_below hidle hen hbelow)
  case inv =>
    intro i k hik
    simp only [List.mem_cons, Prod.mk.injEq, List.not_mem_nil, or_false] at hik
    obtain ⟨rfl, rfl⟩ | ⟨rfl, rfl⟩ := hik
    · exact ⟨_, State.core_eq_next hrun (State.mopStart_invRange hidle hen hrange hspace),
        State.mopBegin_of_lost (by decide) (fun l hl => State.line_foldl_invLine hl s)⟩
    · exact ⟨_, State.core_eq_next hrun (State.mopStart_cleanInvRange hidle hen hrange hspace),
        State.mopBegin_of_lost (by decide) (fun l hl => State.line_foldl_cleanInvLine hl s)⟩
  case clean =>
    refine ⟨_, State.core_eq_next hrun (State.mopStart_cleanRange hidle hen hrange hspace), ?_⟩
    obtain ⟨hbusy, hlast, -, -⟩ := ((span l0 n).foldl State.cleanLine s).mopBegin_spec (op := 3) (by decide) n 0
    exact ⟨fun l x hlo hhi hx => State.foldl_cleanLine_clean (mem_span.mpr ⟨hlo, hhi⟩) s x hx, hbusy, hlast,
      fun a => (State.poolByte_mopBegin _ _ _ _ a).trans (State.poolByte_foldl_cleanLine _ s a)⟩
  case zero =>
    exact fun hreserve => State.core_eq_next hrun (State.mopStart_zeroLine hidle hen hrange hspace hreserve)
  case lockFill =>
    intro m hreserve hm hlocked
    have hmask : m.toNat ≠ 0 := fun h => hm (BitVec.eq_of_toNat_eq h)
    refine ⟨_, State.core_eq_next hrun (State.mopStart_lockFill hidle hen hrange hspace hreserve hmask hlocked), ?_⟩
    obtain ⟨hbusy, hlast, hdone, htier⟩ := (s.lockFillLines m.toNat (span l0 n)).1.mopBegin_spec (op := 6) (by decide)
      (s.lockFillLines m.toNat (span l0 n)).2 (if (s.lockFillLines m.toNat (span l0 n)).2 < n then 5 else 0)
    refine ⟨hbusy, hlast, fun hn => ?_⟩
    subst hn
    exact ⟨hdone, by rw [htier]; rfl⟩
  case cleanAll =>
    refine ⟨_, State.core_eq_next hrun (State.mopStart_cleanAll hidle hen), ?_⟩
    obtain ⟨hbusy, hlast, -, -⟩ := ((s.tier.lines.map (·.1)).foldl State.cleanLine s).mopBegin_spec (op := 7) (by decide) t0Lines 0
    exact ⟨s.cleanWhole_clean, hbusy, hlast,
      fun a => (State.poolByte_mopBegin _ _ _ _ a).trans (State.poolByte_foldl_cleanLine _ s a)⟩
  case cleanInvAll =>
    refine ⟨_, State.core_eq_next hrun (State.mopStart_cleanInvAll hidle hen), ?_⟩
    obtain ⟨hbusy, hlast, -, -⟩ := s.cleanInvWhole.mopBegin_spec (op := 8) (by decide) t0Lines 0
    exact ⟨s.cleanInvWhole_lines, hbusy, hlast⟩
  case done =>
    exact fun s op err hrun hmop herr => ⟨_, State.core_of_runs hrun _, State.mopDone_spec hmop herr⟩

end Sys2Proof.Machine
end

section
/-! ## Scrub passes, the patrol, remap entries and the correction log (R297, R299, R303, R305, R306) -/

namespace Sys2Proof.Machine

/-! ### A pass that meets no flipped bit -/

/-- A tally of nothing found: no correction, nothing uncorrectable, no line left unrecovered. -/
def Tally.clean (t : Tally) : Prop := t.corr1 = 0 ∧ t.uncorr = 0 ∧ t.left = false

theorem flipsOf_nil_all_zero (line : Nat) : (flipsOf [] line).all (· == 0) = true := by
  simp [flipsOf]

/-- A line without a flipped bit is read and left as it is; it adds to the words or to the lines skipped alone. -/
theorem State.scrubLine_nil (s : State) (wb : Bool) {t : Tally} (ht : t.clean) (line : Nat) :
    ∃ u : Tally, u.clean ∧ s.scrubLine wb [] t line = (s, u) := by
  unfold State.scrubLine
  split
  · refine ⟨_, ?_, rfl⟩
    exact ht
  · dsimp only
    rw [if_pos (flipsOf_nil_all_zero line)]
    refine ⟨_, ?_, rfl⟩
    exact ht

theorem State.foldl_scrubLine_nil (wb : Bool) (ls : List Nat) (s : State) {t : Tally} (ht : t.clean) :
    ∃ u : Tally, u.clean ∧ ls.foldl (fun (acc : State × Tally) l => acc.1.scrubLine wb [] acc.2 l) (s, t) = (s, u) := by
  induction ls generalizing t with
  | nil => exact ⟨t, ht, rfl⟩
  | cons l ls ih =>
    obtain ⟨u, hu, hline⟩ := s.scrubLine_nil wb ht l
    rw [List.foldl_cons, hline]
    exact ih hu

theorem State.scrubT1_nil (s : State) (wb : Bool) (ls : List Nat) : ∃ t : Tally, t.clean ∧ s.scrubT1 wb [] ls = (s, t) :=
  State.foldl_scrubLine_nil wb ls s ⟨rfl, rfl, rfl⟩

/-! ### Scrub passes -/

@[simp] theorem State.summary_dram (s : State) (t : Tally) : (s.summary t).dram = s.dram := by
  simp only [State.summary, setReg64_dram, setReg_dram]

@[simp] theorem State.summary_tier (s : State) (t : Tally) : (s.summary t).tier = s.tier := by
  simp only [State.summary, setReg64_tier, setReg_tier]

theorem State.reg_summary_corr1 (s : State) (t : Tally) : (s.summary t).reg Reg.ECC_SCRUB_CORR1 = BitVec.ofNat 32 t.corr1 := by
  unfold State.summary State.setReg64
  iterate 7 rw [reg_setReg_other _ _ _ _ (by decide)]
  exact reg_setReg_same _ _ _

theorem State.reg_summary_uncorr (s : State) (t : Tally) : (s.summary t).reg Reg.ECC_SCRUB_UNCORR = BitVec.ofNat 32 t.uncorr := by
  unfold State.summary State.setReg64
  iterate 5 rw [reg_setReg_other _ _ _ _ (by decide)]
  exact reg_setReg_same _ _ _

section
variable {s : State} {target : Nat} (wb : Bool)

theorem State.scrubStart_of_busy (hbusy : s.on Fld.ECC_SCRUB_STATUS_BUSY = true) :
    s.scrubStart target wb = s.put Fld.ECC_SCRUB_STATUS_ERR 1 :=
  if_pos hbusy

variable (hidle : s.on Fld.ECC_SCRUB_STATUS_BUSY = false)
include hidle

theorem State.scrubStart_of_reserved (htarget : target = 3) : s.scrubStart target wb = s.put Fld.ECC_SCRUB_STATUS_ERR 2 := by
  unfold State.scrubStart
  simp only [hidle, Bool.false_eq_true, if_false, htarget, if_true]

theorem State.scrubStart_of_outside (htarget : target = 0)
    (hrange : 2 ^ 51 < s.reg64 Reg.ECC_SCRUB_ADDR_LO Reg.ECC_SCRUB_ADDR_HI + (s.reg Reg.ECC_SCRUB_LINES).toNat * 64) :
    s.scrubStart target wb = s.put Fld.ECC_SCRUB_STATUS_ERR 3 := by
  subst htarget
  unfold State.scrubStart
  rw [if_neg (by rw [hidle]; exact Bool.false_ne_true), if_neg (by decide), decide_eq_true hrange]
  rfl

/-- A START that nothing refuses clears the summary, sets BUSY and begins the pass (R299). -/
theorem State.scrubStart_spec (htarget : target ≠ 3)
    (hrange : target = 0 → s.reg64 Reg.ECC_SCRUB_ADDR_LO Reg.ECC_SCRUB_ADDR_HI + (s.reg Reg.ECC_SCRUB_LINES).toNat * 64 ≤ 2 ^ 51) :
    (s.scrubStart target wb).on Fld.ECC_SCRUB_STATUS_BUSY = true ∧ (s.scrubStart target wb).reg Reg.ECC_SCRUB_CORR1 = 0 ∧
      (s.scrubStart target wb).reg Reg.ECC_SCRUB_UNCORR = 0 ∧
      (s.scrubStart target wb).dram.scrub =
        some (target, wb, s.reg64 Reg.ECC_SCRUB_ADDR_LO Reg.ECC_SCRUB_ADDR_HI / 64, (s.reg Reg.ECC_SCRUB_LINES).toNat) := by
  have hinside : ¬ (target = 0 && decide (2 ^ 51 < s.reg64 Reg.ECC_SCRUB_ADDR_LO Reg.ECC_SCRUB_ADDR_HI +
      (s.reg Reg.ECC_SCRUB_LINES).toNat * 64)) = true := by
    rw [Bool.and_eq_true, decide_eq_true_eq, decide_eq_true_eq]
    exact fun ⟨h0, hlt⟩ => Nat.not_lt.mpr (hrange h0) hlt
  unfold State.scrubStart
  rw [if_neg (by rw [hidle]; exact Bool.false_ne_true), if_neg htarget, if_neg hinside]
  extract_lets u
  have hother (a : Nat) (ha : a ≠ Reg.ECC_SCRUB_STATUS) : u.reg a = (s.summary {}).reg a := reg_setReg_other _ _ _ _ ha
  have hstatus : u.reg Reg.ECC_SCRUB_STATUS = 1 := reg_setReg_same _ _ _
  refine ⟨?_, ?_, ?_, rfl⟩
  · change (fieldOf Fld.ECC_SCRUB_STATUS_BUSY (u.reg Reg.ECC_SCRUB_STATUS) != 0) = true
    rw [hstatus]
    decide
  · exact (hother _ (by decide)).trans (reg_summary_corr1 s {})
  · exact (hother _ (by decide)).trans (reg_summary_uncorr s {})

end

/-- A pass has ended with a tally: its summary is shown, DONE is set and the end recorded, before what waited goes on (R299). -/
def State.scrubEnded (s : State) (t : Tally) : State :=
  let u : State := { s with dram := { s.dram with scrub := none, stopping := false } }
  (((u.summary t).put Fld.ECC_SCRUB_STATUS_BUSY 0).put Fld.ECC_SCRUB_STATUS_DONE 1).record .eccScrubDone 0 t.bytes

/-- A pass over any target that meets no flipped bit leaves the state to its end, with a clean tally. -/
theorem State.scrubRun_nil {s : State} (hrun : s.dram.scrub.isSome = true) :
    ∃ t : Tally, t.clean ∧ s.scrubRun [] none = (s.scrubEnded t).settle := by
  obtain ⟨⟨target, wb, first, n⟩, hscrub⟩ := Option.isSome_iff_exists.mp hrun
  unfold State.scrubRun
  rw [hscrub]
  dsimp only
  by_cases h0 : target = 0
  · rw [if_pos h0]
    obtain ⟨t, ht, hpass⟩ := s.scrubT1_nil wb ((span first n).filter (fun _ => true))
    refine ⟨t, ht, ?_⟩
    rw [hpass]
    rfl
  · rw [if_neg h0]
    by_cases h1 : target = 1
    · rw [if_pos h1]
      exact ⟨_, ⟨rfl, rfl, rfl⟩, rfl⟩
    · rw [if_neg h1]
      exact ⟨_, ⟨rfl, rfl, rfl⟩, rfl⟩

theorem State.scrubEnded_spec (s : State) {t : Tally} (ht : t.clean) :
    (s.scrubEnded t).on Fld.ECC_SCRUB_STATUS_BUSY = false ∧ (s.scrubEnded t).on Fld.ECC_SCRUB_STATUS_DONE = true ∧
      (s.scrubEnded t).reg Reg.ECC_SCRUB_CORR1 = 0 ∧ (s.scrubEnded t).reg Reg.ECC_SCRUB_UNCORR = 0 ∧
      (s.scrubEnded t).dram.scrub = none ∧ (s.scrubEnded t).tier = s.tier := by
  obtain ⟨hcorr, huncorr, -⟩ := ht
  unfold State.scrubEnded
  extract_lets x u
  have hrec (a : Nat) (ha : a ∉ recordRegs .eccScrubDone 0) := State.reg_record
    (((u.summary t).put Fld.ECC_SCRUB_STATUS_BUSY 0).put Fld.ECC_SCRUB_STATUS_DONE 1) .eccScrubDone 0 t.bytes 0 none a ha
  have hsum (a : Nat) (ha : a ∉ recordRegs .eccScrubDone 0) (hs : a ≠ Reg.ECC_SCRUB_STATUS) :=
    (hrec a ha).trans ((reg_put_other _ _ _ _ hs).trans (reg_put_other (u.summary t) _ _ _ hs))
  refine ⟨?_, ?_, ?_, ?_, ?_, ?_⟩
  · exact (on_of_reg (hrec _ (by decide))).trans ((on_put_field _ Fld.ECC_SCRUB_STATUS_DONE Fld.ECC_SCRUB_STATUS_BUSY _ rfl
      (by decide) (by decide)).trans (on_put_zero _ _ (by decide)))
  · exact (on_of_reg (hrec _ (by decide))).trans (on_put_one _ _ (by decide) rfl)
  · rw [hsum _ (by decide) (by decide), reg_summary_corr1, hcorr]; rfl
  · rw [hsum _ (by decide) (by decide), reg_summary_uncorr, huncorr]; rfl
  · rw [record_dram, put_dram, put_dram, summary_dram]
  · rw [record_tier, put_tier, put_tier, summary_tier]

/-! ### The patrol -/

/-- The lines that a patrol pass reads for a home set: those of its frames, and the reserve's that the errors name. -/
def State.patrolLines (s : State) (h : Nat) (errs : List (Nat × BitVec 80)) : List Nat :=
  ((s.tier.frames.filter (fun e => s.homeOfUnit e.1 = some h)).map (fun e => span (e.1 * 256) 256)).flatten ++
    ((errs.filter (fun e => decide (reserveLine * 8 ≤ e.1))).map (fun e => e.1 / 8)).eraseDups

/-- A patrol pass that follows `passes` others has ended with a tally: it is counted, the health bit follows what it left and it is
recorded (R303). -/
def State.patrolEnded (s : State) (passes : Nat) (t : Tally) : State :=
  (((s.put Fld.ECC_PATROL_STAT_PERCENT 0).put Fld.ECC_PATROL_STAT_PASSES (passes + 1)).setRegBit Reg.TWN_HEALTH 1 t.left).record
    .eccPatrolPass 0 t.bytes

theorem exec_patrolPassDone_idle {s : State} (hrun : s.coreRuns = true) {h : Fin 2}
    (hidle : s.on Fld.ECC_CTRL_PATROL_EN = false ∨ s.standby h.val = false) (errs : List (Nat × BitVec 80)) :
    exec (.patrolPassDone h errs) s = .next s := by
  refine State.core_ite_pos hrun ?_ _ _
  obtain hoff | hactive := hidle
  · rw [hoff]; rfl
  · rw [hactive, Bool.and_false]; rfl

theorem exec_patrolPassDone_standby {s : State} (hrun : s.coreRuns = true) {h : Fin 2} (hen : s.on Fld.ECC_CTRL_PATROL_EN = true)
    (hstandby : s.standby h.val = true) (errs : List (Nat × BitVec 80)) {u : State} {t : Tally}
    (hpass : s.scrubT1 true errs (s.patrolLines h.val errs) = (u, t)) :
    exec (.patrolPassDone h errs) s = .next (u.patrolEnded (s.get Fld.ECC_PATROL_STAT_PASSES) t).settle := by
  obtain ⟨rfl, rfl⟩ := Prod.ext_iff.mp hpass
  exact State.core_ite_neg hrun (by simp [hen, hstandby]) _ _

/-- A patrol pass on the standby that meets no flipped bit ends with a clean tally. -/
theorem exec_patrolPassDone_nil {s : State} (hrun : s.coreRuns = true) {h : Fin 2} (hen : s.on Fld.ECC_CTRL_PATROL_EN = true)
    (hstandby : s.standby h.val = true) :
    ∃ t : Tally, t.clean ∧ exec (.patrolPassDone h []) s = .next (s.patrolEnded (s.get Fld.ECC_PATROL_STAT_PASSES) t).settle := by
  obtain ⟨t, ht, hpass⟩ := s.scrubT1_nil true (s.patrolLines h.val [])
  exact ⟨t, ht, exec_patrolPassDone_standby hrun hen hstandby [] hpass⟩

theorem State.patrolEnded_spec (s : State) (passes : Nat) {t : Tally} (ht : t.clean) :
    (s.patrolEnded passes t).regBit Reg.TWN_HEALTH 1 = false ∧ (s.patrolEnded passes t).get Fld.ECC_PATROL_STAT_PERCENT = 0 ∧
      (s.patrolEnded passes t).get Fld.ECC_PATROL_STAT_PASSES = (passes + 1) % 2 ^ 24 ∧
      (s.patrolEnded passes t).tier = s.tier := by
  obtain ⟨-, -, hleft⟩ := ht
  unfold State.patrolEnded
  rw [hleft]
  have hrec (a : Nat) (ha : a ∉ recordRegs .eccPatrolPass 0) := State.reg_record
    (((s.put Fld.ECC_PATROL_STAT_PERCENT 0).put Fld.ECC_PATROL_STAT_PASSES (passes + 1)).setRegBit
      Reg.TWN_HEALTH 1 false) .eccPatrolPass 0 t.bytes 0 none a ha
  have hstat := (hrec Reg.ECC_PATROL_STAT (by decide)).trans (reg_put_other _ ⟨Reg.TWN_HEALTH, 1, 1⟩ _ _ (by decide))
  refine ⟨?_, ?_, ?_, ?_⟩
  · unfold State.regBit
    rw [hrec _ (by decide)]
    exact regBit_setRegBit_same _ _ _ _ (by decide)
  · exact (get_of_reg hstat).trans ((get_put_field _ Fld.ECC_PATROL_STAT_PASSES Fld.ECC_PATROL_STAT_PERCENT _ rfl
      (by decide) (by decide)).trans (get_put_same _ _ _ (by decide)))
  · rw [get_of_reg hstat]
    exact get_put_same _ _ _ (by decide)
  · rw [record_tier, setRegBit_tier, put_tier, put_tier]

/-! ### Remap entries -/

theorem State.chan_of_dram {s t : State} (h : t.dram = s.dram) (c : Nat) : t.chan c = s.chan c := by
  unfold State.chan
  rw [h]

theorem State.chan_updChan_same (s : State) {c : Nat} (hc : c < 16) (f : DramChan → DramChan) : (s.updChan c f).chan c = f (s.chan c) := by
  simp [State.chan, State.updChan, setAt, hc]

theorem State.remapSet_spec (s : State) {c : Nat} (hc : c < 16) (entry sub : Nat) (la : BitVec 32) (k : Nat) :
    kget ((s.remapSet c entry sub la k).chan c).remap entry = some { sub := sub, line := la, word := k } ∧
      ((s.remapSet c entry sub la k).reg Reg.ECC_REMAP_LOADS).toNat = s.plusOne Reg.ECC_REMAP_LOADS := by
  unfold State.remapSet
  constructor
  · rw [chan_of_dram ((record_dram _ _ _ _ _ _).trans (count_dram _ _)), chan_updChan_same s hc]
    exact kget_kput_same _ _ _
  · rw [reg_record _ _ _ _ _ _ _ (by decide)]
    exact count_toNat rfl

theorem State.remapClear_spec (s : State) {c : Nat} (hc : c < 16) (entry : Nat) :
    kget ((s.remapClear c entry).chan c).remap entry = none ∧ (s.remapClear c entry).regs = s.regs := by
  unfold State.remapClear
  rw [chan_updChan_same s hc]
  exact ⟨kget_kdel_same _ _, rfl⟩

theorem State.remapLoad_of_inService {s : State} {c : Nat} (h : s.dmcState c = 2 ∨ s.dmcState c = 4) (entry sub : Nat) (la : BitVec 32)
    (word : Nat) : s.remapLoad c entry sub la word = s.remapSet c entry sub la word :=
  if_pos (by simpa using h)

theorem State.remapLoad_of_outOfService {s : State} {c : Nat} (h2 : s.dmcState c ≠ 2) (h4 : s.dmcState c ≠ 4) (entry sub : Nat)
    (la : BitVec 32) (word : Nat) : s.remapLoad c entry sub la word = s :=
  if_neg (by simp [h2, h4])

/-! ### The correction log -/

theorem State.clogPop_cons {s : State} {e : ClogEnt} {l : List ClogEnt} (h : s.dram.clog = e :: l) :
    s.clogPop = { s with dram := { s.dram with clog := l, clogLost := false } } := by
  unfold State.clogPop
  rw [h]

theorem State.clogPop_nil {s : State} (h : s.dram.clog = []) : s.clogPop = s := by
  unfold State.clogPop
  rw [h]

/-- Settles O42: the starts and ends of passes with a clean tally, and the state that each other command leaves. -/
theorem scrubPatrolAndRemapAct : Obligations.ScrubPatrolAndRemapAct := by
  unfold Obligations.ScrubPatrolAndRemapAct
  refine ⟨fun s t wb hrun => ⟨?busy, ?reserved, ?outside, ?start⟩, fun s at_ errs hrun => ⟨?abort, ?abortIdle, ?stopped, ?done⟩,
    fun s h hrun => ⟨?patrolIdle, ?patrol⟩, fun s c e sub la w hrun => ⟨?load, ?loadOff, ?clear⟩, fun s hrun => ⟨?pop, ?popEmpty⟩⟩
  case busy => exact fun hbusy => State.core_eq_next hrun (State.scrubStart_of_busy wb hbusy)
  case reserved => exact fun hidle ht => State.core_eq_next hrun (State.scrubStart_of_reserved wb hidle ht)
  case outside => exact fun hidle ht hrange => State.core_eq_next hrun (State.scrubStart_of_outside wb hidle ht hrange)
  case start => exact fun hidle ht hrange => ⟨_, State.core_of_runs hrun _, State.scrubStart_spec wb hidle ht hrange⟩
  case abort => exact fun hpass => State.core_ite_pos hrun hpass _ _
  case abortIdle => exact fun hnone => State.core_ite_neg hrun (by simp [hnone]) _ _
  case stopped => exact fun hstop => State.core_ite_pos hrun hstop _ _
  case done =>
    intro hstop hpass
    obtain ⟨t, hclean, hend⟩ := State.scrubRun_nil hpass
    exact ⟨_, (State.core_ite_neg hrun (by simp [hstop]) _ _).trans (congrArg Host.Outcome.next hend), s.scrubEnded_spec hclean⟩
  case patrolIdle => exact fun hidle => exec_patrolPassDone_idle hrun hidle []
  case patrol =>
    intro hen hstandby
    obtain ⟨t, hclean, hend⟩ := exec_patrolPassDone_nil hrun hen hstandby
    exact ⟨_, hend, s.patrolEnded_spec _ hclean⟩
  case load =>
    exact fun hserves => ⟨_, State.core_eq_next hrun (State.remapLoad_of_inService hserves _ _ _ _), s.remapSet_spec c.isLt _ _ _ _⟩
  case loadOff => exact fun h2 h4 => State.core_eq_next hrun (State.remapLoad_of_outOfService h2 h4 _ _ _ _)
  case clear => exact ⟨_, State.core_of_runs hrun _, s.remapClear_spec c.isLt e.val⟩
  case pop => exact fun _ _ hlog => ⟨_, State.core_eq_next hrun (State.clogPop_cons hlog), rfl, rfl⟩
  case popEmpty => exact fun hlog => State.core_eq_next hrun (State.clogPop_nil hlog)

end Sys2Proof.Machine
end

section
/-! ## The events of the flash channels (R313, R315, R341) -/

namespace Sys2Proof.Machine

/-- The registers of the flash channels lie from the first one of channel 0 on (Table 10-12). -/
theorem FCH_CTRL_zero_le (c : Nat) :
    Reg.FCH_CTRL 0 ≤ Reg.FCH_CTRL c ∧ Reg.FCH_CTRL 0 ≤ Reg.FCH_STATUS c ∧ Reg.FCH_CTRL 0 ≤ Reg.FCH_GEOM c := by
  unfold Reg.FCH_CTRL Reg.FCH_STATUS Reg.FCH_GEOM
  omega

/-- An event of the flash tier writes no register of a channel. -/
theorem notMem_recordRegs_of_flash {e : Event} (he : recordRegs e 0 = [Reg.FTL_EVT, Reg.AMB_EVT, Reg.AMB_OVERFLOW, Reg.AMB_LOST])
    {a : Nat} (ha : Reg.FCH_CTRL 0 ≤ a) : a ∉ recordRegs e 0 := by
  unfold Reg.FCH_CTRL at ha
  simp only [he, Reg.FTL_EVT, Reg.AMB_EVT, Reg.AMB_OVERFLOW, Reg.AMB_LOST, List.mem_cons, List.not_mem_nil, or_false]
  omega

/-- What a channel's identification may report beside its start: an identity that cannot be read, dies outside Table 10-1 (R313, R314). -/
def State.identified (s : State) (c : Nat) (g : FlashGeom) : State :=
  let s := if g.rated.isNone then s.record .fchIdFail (unitChan (c / 2)) else s
  if g.unsupported then s.record .fchDieUnsupported (unitChan c) else s

theorem State.identified_flash (s : State) (c : Nat) (g : FlashGeom) : (s.identified c g).flash = s.flash := by
  unfold State.identified
  split <;> split <;> simp only [record_flash]

theorem State.identified_reg (s : State) (c : Nat) (g : FlashGeom) {a : Nat} (ha : Reg.FCH_CTRL 0 ≤ a) :
    (s.identified c g).reg a = s.reg a := by
  have hid (s : State) (n : Nat) : (s.record .fchIdFail n).reg a = s.reg a :=
    reg_record _ _ _ _ _ _ _ (notMem_recordRegs_of_flash rfl ha)
  have hdie (s : State) (n : Nat) : (s.record .fchDieUnsupported n).reg a = s.reg a :=
    reg_record _ _ _ _ _ _ _ (notMem_recordRegs_of_flash rfl ha)
  unfold State.identified
  split <;> split <;> simp only [hid, hdie]

/-! ### A channel that starts -/

/-- A field beside the one that was set, in the same register, reads as before. -/
theorem State.get_put_beside (s : State) {a lo w lo' w' : Nat} (v : Nat) (hw : lo + w ≤ 32) (h : lo + w ≤ lo' ∨ lo' + w' ≤ lo) :
    (s.put ⟨a, lo', w'⟩ v).get ⟨a, lo, w⟩ = s.get ⟨a, lo, w⟩ :=
  get_put_field s ⟨a, lo', w'⟩ ⟨a, lo, w⟩ v rfl hw h

/-- FCH_STATUS of a channel that is in service (Table 10-13). -/
def State.servesShown (s : State) (c : Nat) (g : FlashGeom) : State :=
  (((s.put (Fld.FCH_STATUS_STATE c) 2).putB (Fld.FCH_STATUS_TOGGLE c) g.toggle).put (Fld.FCH_STATUS_RATE c) g.rate.val).put
    (Fld.FCH_STATUS_TWO_POS c) (if 1 < (s.positionsOf c).length then 1 else 0)

/-- FCH_GEOM and FCH_RATED of a channel whose dies are known (R313, R314). -/
def State.geomShown (s : State) (c : Nat) (g : FlashGeom) : State :=
  (((s.put (Fld.FCH_GEOM_DIES c) g.dies.val).put (Fld.FCH_GEOM_BITS c) g.cell.val).put (Fld.FCH_GEOM_BLK c) g.blockLog2.val).setReg
    (Reg.FCH_RATED c) (BitVec.ofNat 32 (geomRated g))

theorem State.servesShown_spec (s : State) (c : Nat) (g : FlashGeom) :
    (s.servesShown c g).get (Fld.FCH_STATUS_STATE c) = 2 ∧ (s.servesShown c g).on (Fld.FCH_STATUS_TOGGLE c) = g.toggle ∧
      (s.servesShown c g).flash = s.flash := by
  unfold State.servesShown State.putB State.on
  refine ⟨?_, ?_, by simp only [put_flash]⟩
  · rw [get_put_beside _ _ (by decide) (by decide), get_put_beside _ _ (by decide) (by decide),
      get_put_beside _ _ (by decide) (by decide), get_put_same _ _ _ (by simp)]
    rfl
  · rw [get_put_beside _ _ (by decide) (by decide), get_put_beside _ _ (by decide) (by decide), get_put_same _ _ _ (by simp)]
    cases g.toggle <;> rfl

theorem State.geomShown_spec (s : State) (c : Nat) (g : FlashGeom) :
    (s.geomShown c g).get (Fld.FCH_GEOM_DIES c) = g.dies.val ∧ (s.geomShown c g).reg (Reg.FCH_STATUS c) = s.reg (Reg.FCH_STATUS c) ∧
      (s.geomShown c g).flash = s.flash := by
  have hstatus : Reg.FCH_STATUS c ≠ Reg.FCH_GEOM c ∧ Reg.FCH_STATUS c ≠ Reg.FCH_RATED c ∧ Reg.FCH_GEOM c ≠ Reg.FCH_RATED c := by
    unfold Reg.FCH_STATUS Reg.FCH_GEOM Reg.FCH_RATED
    omega
  obtain ⟨hgeom, hrated, hgeomRated⟩ := hstatus
  unfold State.geomShown
  refine ⟨?_, ?_, by simp only [setReg_flash, put_flash]⟩
  · rw [get_setReg_other _ _ _ _ hgeomRated, get_put_beside _ _ (by decide) (by decide),
      get_put_beside _ _ (by decide) (by decide), get_put_same _ _ _ (by simp)]
    exact Nat.mod_eq_of_lt (Nat.lt_of_lt_of_le g.dies.isLt (Nat.le_of_ble_eq_true rfl))
  · rw [reg_setReg_other _ _ _ _ hrated, reg_put_other _ _ _ _ hgeom, reg_put_other _ _ _ _ hgeom, reg_put_other _ _ _ _ hgeom]

/-- A channel in service with the geometry of its dies (R313). -/
def State.channelStarted (s : State) (c : Nat) (g : FlashGeom) : State :=
  (({ s with flash := { s.flash with geoms := kput s.flash.geoms c g } } : State).servesShown c g).geomShown c g |>.identified c g

theorem State.channelStarted_spec (s : State) (c : Nat) (g : FlashGeom) :
    (s.channelStarted c g).get (Fld.FCH_STATUS_STATE c) = 2 ∧ (s.channelStarted c g).geom c = some g ∧
      (s.channelStarted c g).get (Fld.FCH_GEOM_DIES c) = g.dies.val ∧ (s.channelStarted c g).on (Fld.FCH_STATUS_TOGGLE c) = g.toggle := by
  obtain ⟨-, hstatus, hgeom⟩ := FCH_CTRL_zero_le c
  unfold State.channelStarted
  generalize hs : ({ s with flash := { s.flash with geoms := kput s.flash.geoms c g } } : State) = s1
  obtain ⟨hserves, htoggle, hflash⟩ := s1.servesShown_spec c g
  obtain ⟨hdies, hreg, hflash'⟩ := (s1.servesShown c g).geomShown_spec c g
  have hshown := (((s1.servesShown c g).geomShown c g).identified_reg c g hstatus).trans hreg
  refine ⟨(get_of_reg (f := Fld.FCH_STATUS_STATE c) hshown).trans hserves, ?_,
    (get_of_reg (f := Fld.FCH_GEOM_DIES c) (identified_reg _ c g hgeom)).trans hdies,
    (on_of_reg (f := Fld.FCH_STATUS_TOGGLE c) hshown).trans htoggle⟩
  unfold State.geom
  rw [identified_flash, hflash', hflash, ← hs]
  exact kget_kput_same _ _ _

section
variable {s : State} {c : Fin 32} (hrun : s.coreRuns = true)
include hrun

theorem exec_flashChannelInitDone_again (hin : s.get (Fld.FCH_STATUS_STATE c.val) = 2) (ok : Bool) (g : FlashGeom) :
    exec (.flashChannelInitDone c ok g) s = .next s :=
  State.core_ite_pos hrun hin _ _

variable (hout : s.get (Fld.FCH_STATUS_STATE c.val) ≠ 2)
include hout

theorem exec_flashChannelInitDone_fails (g : FlashGeom) : exec (.flashChannelInitDone c false g) s =
    .next ((s.put (Fld.FCH_STATUS_STATE c.val) 5).record .fchInitFail (unitChan c.val)) :=
  State.core_ite_neg hrun hout _ _

theorem exec_flashChannelInitDone_starts (g : FlashGeom) : exec (.flashChannelInitDone c true g) s =
    .next (s.channelStarted c.val g) :=
  State.core_ite_neg hrun hout _ _

end

end Sys2Proof.Machine
end

section
/-! ## Programs and erases that report (R326, R334, R336, R340) -/

namespace Sys2Proof.Machine

/-- A page has passed program status: its group's stamp, its count, and no longer in flight (R330, R326). -/
def State.pageDone (s : State) (block page : Nat) (o : PageOp) (x : Sb) : State :=
  let c := nameChan block
  let stamp : Nat × Nat × Int := (page / 64, (s.stamp / 4096) % 2 ^ 24, (kget s.flash.temps (c * 128 + nameDie block)).getD 0)
  let s := if page % 64 = 0 then s.updBlk block (fun b => { b with stamps := b.stamps ++ [stamp] }) else s
  let s := s.setSb o.sb { x with done := updAt x.done o.pos (· + 1) }
  { s with flash := { s.flash with
    ops := s.flash.ops.filter (fun p => !(p.sb = o.sb && p.pos = o.pos && p.page = o.page)), programmed := s.flash.programmed + 16384 } }

theorem State.pageDone_spec (s : State) (block page : Nat) (o : PageOp) (x : Sb) :
    (s.pageDone block page o x).flash.programmed = s.flash.programmed + 16384 ∧
      ((s.pageDone block page o x).sb o.sb).map (fun y => y.done) = some (updAt x.done o.pos (· + 1)) ∧
      ∀ p ∈ (s.pageDone block page o x).flash.ops, ¬(p.sb = o.sb ∧ p.pos = o.pos ∧ p.page = o.page) := by
  unfold State.pageDone
  extract_lets c stamp s1 s2
  have hcount : s1.flash.programmed = s.flash.programmed := by
    simp only [s1]
    split <;> rfl
  refine ⟨congrArg (· + 16384) hcount, ?_, fun p hp => ?_⟩
  · exact congrArg (Option.map fun y => y.done) (kget_kput_same s1.flash.sbs o.sb _)
  · rintro ⟨hsb, hpos, hpage⟩
    simpa [hsb, hpos, hpage] using (List.mem_filter.mp hp).2

theorem exec_nandProgramDone_none {s : State} {block page : Nat} (hrun : s.coreRuns = true) (hop : s.findOp block page = none) (ok : Bool) :
    exec (.nandProgramDone block page ok) s = .next s :=
  State.core_eq_next hrun (by rw [hop])

section
variable {s : State} {block page : Nat} {o : PageOp} {x : Sb} (hrun : s.coreRuns = true) (hop : s.findOp block page = some (o, x))
include hrun hop

theorem exec_nandProgramDone_passes : exec (.nandProgramDone block page true) s =
    .next ((((((((s.pageDone block page o x).pagePassed o (block + page)).closeSb o.sb).gcGoOn).journalPump false).spaceCheck).placeLate
      ((s.pageDone block page o x).twin.late.length + 1)).settle) :=
  State.core_eq_next hrun (by simp only [hop, if_true, State.pageDone])

theorem exec_nandProgramDone_fails : exec (.nandProgramDone block page false) s =
    .next (((((s.count (Reg.FCH_PROG_FAIL (nameChan block))).retireBlock block).dieCheck block).journalPump false).spaceCheck) :=
  State.core_eq_next hrun (by rw [hop]; rfl)

end

/-! ### Erases -/

theorem State.wearCheck_flash (s : State) (before : Nat) : (s.wearCheck before).flash = s.flash := by
  unfold State.wearCheck
  split
  · exact record_flash _ _ _ _ _ _
  · rfl

theorem State.blk_of_flash {s t : State} (h : t.flash.blocks = s.flash.blocks) (n : Nat) : t.blk n = s.blk n := by
  unfold State.blk
  rw [h]

theorem State.blk_setBlk_same (s : State) (n : Nat) (b : Blk) : (s.setBlk n b).blk n = b := by
  unfold State.blk State.setBlk
  rw [kget_kput_same]
  rfl

/-- A block has been erased once more: free, or a spare where its superblock leaves service, and journaled (R334, R340). -/
def State.blockErased (s : State) (block : Nat) : State :=
  let spare := s.flash.sbs.any (fun e => e.2.toSpare && e.2.members.contains block)
  let t := (s.setBlk block { st := if spare then .spare else .free, pe := (s.blk block).pe + 1 }).wearCheck s.wearMean
  t.journalAdd { version := t.flash.version, target := block, typ := 8 }

theorem State.blockErased_spec (s : State) (block : Nat) :
    (((s.blockErased block).blk block).st = .free ∨ ((s.blockErased block).blk block).st = .spare) ∧
      ((s.blockErased block).blk block).pe = (s.blk block).pe + 1 ∧
      ∃ e ∈ (s.blockErased block).flash.journal, e.typ = 8 ∧ e.target = block := by
  unfold State.blockErased
  extract_lets spare t
  have hset : t.blk block = { st := if spare then .spare else .free, pe := (s.blk block).pe + 1 } :=
    (blk_of_flash (congrArg Flash.blocks (wearCheck_flash _ _)) block).trans (blk_setBlk_same _ _ _)
  have hblk (e : JEntry) : (t.journalAdd e).blk block = { st := if spare then .spare else .free, pe := (s.blk block).pe + 1 } := hset
  rw [hblk]
  refine ⟨?_, rfl, { version := t.flash.version, target := block, typ := 8 },
    List.mem_append_right t.flash.journal (List.mem_singleton_self _), rfl, rfl⟩
  cases spare
  · exact .inl rfl
  · exact .inr rfl

section
variable {s : State} {block : Nat} (hrun : s.coreRuns = true)
include hrun

theorem exec_nandEraseDone_free (hfree : (s.blk block).st = .free) (ok : Bool) : exec (.nandEraseDone block ok) s = .next s :=
  State.core_ite_neg hrun (by rw [hfree]; decide) _ _

variable (herase : (s.blk block).st = .erasing ∨ (s.blk block).st = .eraseIncomplete)
include herase

theorem exec_nandEraseDone_passes : exec (.nandEraseDone block true) s =
    .next (((s.blockErased block).gcStatus.journalPump false).spaceCheck) :=
  State.core_eq_next hrun ((if_pos (by rcases herase with h | h <;> rw [h] <;> decide)).trans (if_pos rfl))

theorem exec_nandEraseDone_fails : exec (.nandEraseDone block false) s =
    .next (((((s.count (Reg.FCH_ERASE_FAIL (nameChan block))).retireBlock block).dieCheck block).gcStatus).spaceCheck) :=
  State.core_ite_pos hrun (by rcases herase with h | h <;> rw [h] <;> decide) _ _

end

end Sys2Proof.Machine
end

section
/-! ## Reads of the flash tier (R330 to R332) -/

namespace Sys2Proof.Machine

/-! ### Erases that a read suspends -/

/-- The running erase on the die of a page (R332). -/
def State.eraseAt (s : State) (phys : Nat) : Option (Nat × Blk) :=
  s.flash.blocks.find? (fun e => e.2.st == .erasing && nameChan e.1 == nameChan phys && nameDie e.1 == nameDie phys)

theorem State.eraseAt_none {s : State} (h : s.flash.blocks.all (fun e => e.2.st != .erasing) = true) (phys : Nat) : s.eraseAt phys = none := by
  unfold State.eraseAt
  refine List.find?_eq_none.mpr (fun e he herase => ?_)
  simp only [Bool.and_eq_true, beq_iff_eq] at herase
  obtain ⟨⟨hst, -⟩, -⟩ := herase
  simpa [hst] using List.all_eq_true.mp h e he

theorem State.suspendErase_of_none {s : State} {phys : Nat} (h : s.eraseAt phys = none) (u : Nat) : s.suspendErase u phys = s := by
  unfold State.eraseAt at h
  unfold State.suspendErase
  simp only [h]

/-- A read served while an erase runs on its die suspends it, below the limit and once for the unit (R332). -/
theorem State.suspendErase_of_some {s : State} {u phys : Nat} {e : Nat × Blk} (h : s.eraseAt phys = some e)
    (hon : s.on Fld.FTL_CTRL_ERASE_SUSPEND = true) (hnew : e.2.suspends.contains u = false)
    (hlimit : e.2.suspends.length < s.get (Fld.FCH_ERASE_MAX_SUSPEND (nameChan phys))) :
    s.suspendErase u phys = (s.setBlk e.1 { e.2 with suspends := u :: e.2.suspends }).count (Reg.FCH_SUSPENDS (nameChan phys)) := by
  unfold State.eraseAt at h
  unfold State.suspendErase
  simp only [h, hon, hnew, hlimit, Bool.not_false, Bool.and_self, decide_true, if_true]

theorem State.suspendErase_keeps (s : State) (u phys : Nat) :
    ((s.suspendErase u phys).tier, (s.suspendErase u phys).net) = (s.tier, s.net) := by
  unfold State.suspendErase
  dsimp only
  split
  · split <;> rfl
  · rfl

/-! ### The steps of a read -/

/-- A read's step noted: an erase suspended by the first, a retry or a soft read counted (R331, R332, R353). -/
def State.readNoted (s : State) (u phys step : Nat) : State :=
  let s := if step = 0 then s.suspendErase u phys else s
  let retry := decide (1 ≤ step) && decide (step ≤ 6)
  let s := if retry then s.count (Reg.FCH_RETRY_READS (nameChan phys))
    else if step = 7 then s.count (Reg.FCH_SOFT_READS (nameChan phys)) else s
  if retry then { s with flash := { s.flash with retries := s.flash.retries + 1 } } else s

/-- A retry that decodes leaves its threshold entry as its group's hint (R331). -/
def State.hintKept (s : State) (block group entry step : Nat) : State :=
  let hint := (kget (s.blk block).hints group).getD entry
  if decide (1 ≤ step) && decide (step ≤ 6) then
    s.updBlk block (fun x => { x with hints := kput x.hints group (retryEntry entry step hint) })
  else s

theorem State.readNoted_keeps (s : State) (u phys step : Nat) :
    ((s.readNoted u phys step).tier, (s.readNoted u phys step).net) = (s.tier, s.net) := by
  have hsuspend : ((if step = 0 then s.suspendErase u phys else s).tier, (if step = 0 then s.suspendErase u phys else s).net) = (s.tier, s.net) := by
    split
    · exact suspendErase_keeps s u phys
    · rfl
  unfold State.readNoted
  extract_lets s1 retry s2
  refine Eq.trans ?_ hsuspend
  cases hretry : retry with
  | true => simp only [s2, hretry, if_true, count_tier, count_net, s1]
  | false =>
    simp only [s2, hretry, Bool.false_eq_true, if_false, s1]
    split <;> rfl

theorem State.hintKept_keeps (s : State) (block group entry step : Nat) :
    ((s.hintKept block group entry step).tier, (s.hintKept block group entry step).net) = (s.tier, s.net) := by
  unfold State.hintKept
  split <;> rfl

theorem State.readNoted_zero (s : State) (u phys : Nat) : s.readNoted u phys 0 = s.suspendErase u phys := rfl

theorem State.readNoted_seven (s : State) (u phys : Nat) : s.readNoted u phys 7 = s.count (Reg.FCH_SOFT_READS (nameChan phys)) := rfl

section
variable {s : State} {u : Nat} {f : Frame} {m : MapEnt} (hrun : s.coreRuns = true) (hframe : s.frame u = some f)
  (hmap : kget s.flash.map u = some m)
include hrun hframe hmap

theorem exec_nandReadDone_filled (hfilled : f.filling = false) (k : Fin 4) (step : Fin 8) (decoded : Bool) :
    exec (.nandReadDone u k step decoded) s = .next s :=
  State.core_eq_next hrun (by rw [hframe, hmap]; exact if_pos (by simp [hfilled]))

variable (hfilling : f.filling = true)
include hfilling

theorem exec_nandReadDone_decoded (k : Fin 4) (step : Fin 8) : ∃ block group entry : Nat,
    exec (.nandReadDone u k step true) s = .next (((s.readNoted u m.phys step.val).hintKept block group entry step.val).deliver u k.val) :=
  ⟨_, _, _, State.core_eq_next hrun (by rw [hframe, hmap]; exact if_neg (by simp [hfilling]))⟩

theorem exec_nandReadDone_first (k : Fin 4) : exec (.nandReadDone u k 0 false) s = .next (s.suspendErase u m.phys) :=
  State.core_eq_next hrun (by rw [hframe, hmap]; exact if_neg (by simp [hfilling]))

theorem exec_nandReadDone_lost (k : Fin 4) (hlost : s.rebuildable m.phys = false) : exec (.nandReadDone u k 7 false) s =
    .next ((((s.readNoted u m.phys 7).count (Reg.FCH_UNCORR (nameChan m.phys))).readFail (s.blockOf m.phys)).needHeal u) :=
  State.core_eq_next hrun (by
    rw [hframe, hmap]
    change (if (!f.filling) = true then s else if State.rebuildable ((s.readNoted u m.phys 7).count (Reg.FCH_UNCORR (nameChan m.phys)))
      m.phys = true then _ else _) = _
    exact (if_neg (by simp [hfilling])).trans (if_neg (fun h => Bool.false_ne_true (hlost.symm.trans h))))

end

end Sys2Proof.Machine
end

section
/-! ## Superblocks verified, filler and retirement (R320, R322, R341, R342) -/

namespace Sys2Proof.Machine

/-! ### A superblock whose verify ends -/

theorem State.markBlocks_sbs (s : State) (bs : List Nat) (st : BlkSt) : (s.markBlocks bs st).flash.sbs = s.flash.sbs :=
  foldl_view (fun s => s.flash.sbs) _ bs s (fun _ _ => rfl)

/-- A closed superblock is verified: its parity block is free again, and the change is journaled (R321, R322). -/
def State.sbVerified (s : State) (n : Nat) (x : Sb) : State :=
  let s := (s.setSb n { x with st := .verified, parity := none }).markBlocks x.members .verified
  let s := match x.parity with
    | some b => s.setBlk b { st := .free, pe := (s.blk b).pe + 1 }
    | none => s
  s.journalAdd { version := s.flash.version, target := x.members.headD 0, typ := 6 }

theorem State.sbVerified_spec (s : State) (n : Nat) (x : Sb) :
    (s.sbVerified n x).sb n = some { x with st := .verified, parity := none } ∧ ∃ e ∈ (s.sbVerified n x).flash.journal, e.typ = 6 := by
  have hmarked : ((s.setSb n { x with st := .verified, parity := none }).markBlocks x.members .verified).sb n =
      some { x with st := .verified, parity := none } :=
    (congrArg (kget · n) (markBlocks_sbs _ _ _)).trans (kget_kput_same _ _ _)
  unfold State.sbVerified
  refine ⟨?_, _, List.mem_append_right _ (List.mem_singleton_self _), rfl⟩
  cases x.parity with
  | none => exact hmarked
  | some b => exact hmarked

/-- How many of some units lie in a block. -/
def State.unitsIn (s : State) (us : List Nat) (b : Nat) : Nat :=
  (us.filter (fun u => match kget s.flash.map u with
    | some m => s.blockOf m.phys = b
    | none => false)).length

/-- The members of a superblock of which its verify relocated enough units to retire them (R340). -/
def State.wornMembers (s : State) (x : Sb) (us : List Nat) : List Nat :=
  x.members.filter (fun b => max 1 (s.get Fld.FTL_VERIFY_RETIRE_FAILS) ≤ s.unitsIn (us.filter (fun u => (s.sbUnits x).contains u)) b)

/-- A verify that relocates nothing retires no block. -/
theorem State.wornMembers_nil (s : State) (x : Sb) : s.wornMembers x [] = [] := by
  unfold State.wornMembers State.unitsIn
  refine List.filter_eq_nil_iff.mpr (fun b _ => ?_)
  simp

section
variable {s : State} {n : Nat} {x : Sb} (hrun : s.coreRuns = true) (hsb : s.sb n = some x)
include hrun hsb

theorem exec_sbVerifyDone_other (hst : x.st ≠ .closed) (us : List Nat) : exec (.sbVerifyDone n us) s = .next s :=
  State.core_eq_next hrun (by rw [hsb]; exact if_pos (by simpa using hst))

theorem exec_sbVerifyDone_closed (hst : x.st = .closed) (us : List Nat) : ∃ moved : State, exec (.sbVerifyDone n us) s =
    .next ((((s.wornMembers x us).foldl (fun w b => (w.retireBlock b).dieCheck b) (moved.sbVerified n x)).journalPump false).spaceCheck) :=
  ⟨((us.filter (fun u => (s.sbUnits x).contains u)).foldl State.relocate s).countBy Reg.FTL_VERIFY_RELOC
    (us.filter (fun u => (s.sbUnits x).contains u)).length,
    State.core_eq_next hrun (by rw [hsb]; exact if_neg (by simp [hst]))⟩

end

/-! ### Filler for the superblocks that are behind at a position -/

/-- A superblock has handed out fewer pages at a position than at another (R320). -/
def Sb.behind (x : Sb) (position : Nat) : Bool := x.next.any (fun g => decide (x.next.getD position 0 < g))

/-- A superblock that is behind at a position gets a page of filler there (R320). -/
def State.fillBehind (position : Nat) (s : State) (e : Nat × Sb) : State :=
  if e.2.behind position then (s.handTo e.1 e.2 position .filler).1 else s

theorem State.handTo_ops (s : State) (n : Nat) (x : Sb) (p : Nat) (use : PageUse) :
    (s.handTo n x p use).1.flash.ops = s.flash.ops ++ [{ sb := n, pos := p, page := x.next.getD p 0, use := use }] := rfl

theorem State.handTo_tier (s : State) (n : Nat) (x : Sb) (p : Nat) (use : PageUse) : (s.handTo n x p use).1.tier = s.tier := rfl

/-- Superblocks served one after another: one page in flight more for each that is behind. -/
theorem State.foldl_fillBehind (position : Nat) (l : List (Nat × Sb)) (s : State) :
    (l.foldl (State.fillBehind position) s).flash.ops.length = s.flash.ops.length + (l.filter (fun e => e.2.behind position)).length ∧
      (l.foldl (State.fillBehind position) s).tier = s.tier := by
  induction l generalizing s with
  | nil => exact ⟨rfl, rfl⟩
  | cons e l ih =>
    obtain ⟨hops, htier⟩ := ih (s.fillBehind position e)
    rw [List.foldl_cons, hops, htier]
    unfold State.fillBehind
    cases hbehind : e.2.behind position with
    | true =>
      simp only [List.filter_cons, hbehind, if_true, handTo_ops, handTo_tier, List.length_append, List.length_cons, List.length_nil, and_true]
      omega
    | false =>
      simp only [List.filter_cons, hbehind, Bool.false_eq_true, if_false, and_self]

theorem exec_stripeFillTimeout {s : State} {position : Nat} (hrun : s.coreRuns = true) (hp : position < 32) :
    exec (.stripeFillTimeout position) s =
      .next ((s.flash.sbs.filter (fun e => e.2.st == .opened)).foldl (State.fillBehind position) s) :=
  State.core_ite_neg hrun (Nat.not_le.mpr hp) _ _

/-! ### Channels and dies that leave service -/

theorem State.chanIn_iff (s : State) (c : Nat) : s.chanIn c = true ↔ s.get (Fld.FCH_STATUS_STATE c) = 2 := beq_iff_eq

/-- A channel is retired, before its positions move (R341, R342). -/
def State.channelRetired (s : State) (c : Nat) : State :=
  ((s.put (Fld.FCH_STATUS_STATE c) 4).record .fchChannelRetired (unitChan c)).put (Fld.FCH_STATUS_TWO_POS c) 0

theorem State.retireFch_of_in {s : State} {c : Nat} (h : s.chanIn c = true) :
    s.retireFch c = ((s.positionsOf c).foldl (fun w p => w.movePosition c p) (s.channelRetired c)).spaceCheck :=
  if_neg (by rw [(s.chanIn_iff c).mp h]; decide)

theorem FCH_CTRL_ne_FCH_STATUS (c : Nat) : Reg.FCH_CTRL c ≠ Reg.FCH_STATUS c := by
  unfold Reg.FCH_CTRL Reg.FCH_STATUS
  omega

theorem State.channelRetired_spec (s : State) (c : Nat) :
    (s.channelRetired c).get (Fld.FCH_STATUS_STATE c) = 4 ∧
      (s.channelRetired c).get (Fld.FCH_CTRL_RETIRE c) = s.get (Fld.FCH_CTRL_RETIRE c) := by
  obtain ⟨hctrl, hstatus, -⟩ := FCH_CTRL_zero_le c
  unfold State.channelRetired
  constructor
  · rw [get_put_beside _ _ (by decide) (by decide), get_record _ _ _ _ _ _ _ (notMem_recordRegs_of_flash rfl hstatus),
      get_put_same _ _ _ (by simp)]
    rfl
  · have hne := FCH_CTRL_ne_FCH_STATUS c
    rw [get_put_reg _ _ _ _ hne, get_record _ _ _ _ _ _ _ (notMem_recordRegs_of_flash rfl hctrl), get_put_reg _ _ _ _ hne]

/-- Setting the bit RETIRE alone leaves the channel's service and the positions as they are. -/
theorem State.put_retire_spec (s : State) (c : Nat) :
    (s.put (Fld.FCH_CTRL_RETIRE c) 1).chanIn c = s.chanIn c ∧ (s.put (Fld.FCH_CTRL_RETIRE c) 1).positionsOf c = s.positionsOf c := by
  constructor
  · exact congrArg (· == 2) (get_put_reg s (Fld.FCH_CTRL_RETIRE c) (Fld.FCH_STATUS_STATE c) 1 (FCH_CTRL_ne_FCH_STATUS c).symm)
  · refine List.filter_congr (fun p hp => ?_)
    have hne : Reg.FTL_STRIPE p ≠ Reg.FCH_CTRL c := by
      have hlt := List.mem_range.mp hp
      unfold Reg.FTL_STRIPE Reg.FCH_CTRL
      omega
    unfold State.stripeChan
    rw [reg_put_other _ _ _ _ hne]

theorem State.mem_positionsOf (s : State) (c p : Nat) : p ∈ s.positionsOf c ↔ p < 32 ∧ s.stripeChan p = c := by
  unfold State.positionsOf
  rw [List.mem_filter, List.mem_range, decide_eq_true_eq]

section
variable {s : State} {c : Fin 32} (hrun : s.coreRuns = true)
include hrun

theorem exec_fchRetire_of_in (hin : s.chanIn c.val = true) : exec (.fchRetire c) s =
    .next (((s.positionsOf c.val).foldl (fun w p => w.movePosition c.val p)
      ((s.put (Fld.FCH_CTRL_RETIRE c.val) 1).channelRetired c.val)).spaceCheck) := by
  obtain ⟨hchan, hpos⟩ := s.put_retire_spec c.val
  rw [← hpos]
  exact State.core_eq_next hrun (State.retireFch_of_in (hchan.trans hin))

theorem exec_flashDieStopsAnswering_of_out (hout : s.chanIn c.val = false) (d : Option (Fin 128)) :
    exec (.flashDieStopsAnswering c d) s = .next s :=
  State.core_ite_pos hrun (by simp [hout]) _ _

variable (hin : s.chanIn c.val = true)
include hin

theorem exec_flashDieStopsAnswering_die (d : Fin 128) : exec (.flashDieStopsAnswering c (some d)) s = .next (s.retireDie c.val d.val) :=
  State.core_ite_neg hrun (by simp [hin]) _ _

theorem exec_flashDieStopsAnswering_channel : exec (.flashDieStopsAnswering c none) s = .next (s.retireFch c.val) :=
  State.core_ite_neg hrun (by simp [hin]) _ _

end

/-! ### Chapter 10's reports, timeouts and retirements -/

/-- Settles O38: the next state of each report by the rules above, and what each state that it goes through holds. -/
theorem flashPagesAndBlocks : Obligations.FlashPagesAndBlocks := by
  unfold Obligations.FlashPagesAndBlocks
  refine ⟨fun s c g hrun => ⟨fun hout => ⟨?starts, ?excluded⟩, fun hin => exec_flashChannelInitDone_again hrun hin true g⟩,
    fun s block page hrun => ⟨fun hop => exec_nandProgramDone_none hrun hop true, fun o x hop => ⟨?programmed, ?programFailed⟩⟩,
    fun s block hrun => ⟨fun herase => ⟨?erased, ?eraseFailed⟩, fun hfree => exec_nandEraseDone_free hrun hfree true⟩,
    fun s u k f m hrun hframe hmap => ⟨fun hfilling => ⟨fun step => ?decoded, fun hlost => ?lost, fun hidle => ?idle,
      fun e hfind hon hnew hlimit => ?suspends⟩, fun hfilled => exec_nandReadDone_filled hrun hframe hmap hfilled k 0 true⟩,
    fun s n us x hrun hsb => ⟨fun hst => ?verified, fun hst => exec_sbVerifyDone_other hrun hsb hst us⟩,
    fun s p hrun => ⟨fun hp => ?filler, fun hp => State.core_ite_pos hrun hp _ _⟩,
    fun s c hrun => ⟨fun hin => ?retired, fun hin => ⟨exec_flashDieStopsAnswering_die hrun hin, exec_flashDieStopsAnswering_channel hrun hin⟩,
      fun d hout => exec_flashDieStopsAnswering_of_out hrun hout d⟩⟩
  case starts => exact ⟨_, exec_flashChannelInitDone_starts hrun hout g, s.channelStarted_spec c.val g⟩
  case excluded =>
    obtain ⟨-, hstatus, -⟩ := FCH_CTRL_zero_le c.val
    refine ⟨_, exec_flashChannelInitDone_fails hrun hout g, ?_, by rw [State.record_flash, State.put_flash]⟩
    rw [State.get_record _ _ _ _ _ _ _ (notMem_recordRegs_of_flash rfl hstatus), State.get_put_same _ _ _ (by simp)]
    rfl
  case programmed => exact ⟨_, exec_nandProgramDone_passes hrun hop, s.pageDone_spec block page o x⟩
  case programFailed => exact ⟨_, exec_nandProgramDone_fails hrun hop, rfl⟩
  case erased => exact ⟨_, exec_nandEraseDone_passes hrun herase, s.blockErased_spec block⟩
  case eraseFailed => exact ⟨_, exec_nandEraseDone_fails hrun herase, rfl⟩
  case decoded =>
    obtain ⟨block, group, entry, hexec⟩ := exec_nandReadDone_decoded hrun hframe hmap hfilling k step
    have hkeeps := (State.hintKept_keeps _ block group entry step.val).trans (s.readNoted_keeps u m.phys step.val)
    exact ⟨_, hexec, Prod.mk.inj hkeeps⟩
  case lost =>
    have hother : Reg.FCH_UNCORR (nameChan m.phys) ≠ Reg.FCH_SOFT_READS (nameChan m.phys) := by
      unfold Reg.FCH_UNCORR Reg.FCH_SOFT_READS
      omega
    obtain ⟨htier, -⟩ := Prod.mk.inj (s.readNoted_keeps u m.phys 7)
    refine ⟨_, exec_nandReadDone_lost hrun hframe hmap hfilling k hlost, htier, State.count_toNat ?_⟩
    rw [State.readNoted_seven, State.reg_count_other _ _ _ hother]
  case idle =>
    rw [exec_nandReadDone_first hrun hframe hmap hfilling, State.suspendErase_of_none (State.eraseAt_none hidle m.phys)]
  case suspends =>
    refine ⟨_, exec_nandReadDone_first hrun hframe hmap hfilling k, ?_⟩
    rw [State.suspendErase_of_some hfind hon hnew hlimit]
    exact ⟨congrArg Blk.suspends (s.blk_setBlk_same e.1 _), rfl, State.count_toNat rfl⟩
  case verified =>
    obtain ⟨moved, hexec⟩ := exec_sbVerifyDone_closed hrun hsb hst us
    exact ⟨_, _, hexec, fun hus => hus ▸ s.wornMembers_nil x, moved.sbVerified_spec n x⟩
  case filler =>
    obtain ⟨hops, htier⟩ := State.foldl_fillBehind p (s.flash.sbs.filter (fun e => e.2.st == .opened)) s
    refine ⟨_, exec_stripeFillTimeout hrun hp, hops.trans ?_, htier⟩
    rw [List.filter_filter]
    simp only [Sb.behind, Bool.and_comm]
  case retired =>
    obtain ⟨hstate, hretire⟩ := (s.put (Fld.FCH_CTRL_RETIRE c.val) 1).channelRetired_spec c.val
    refine ⟨_, _, exec_fchRetire_of_in hrun hin, hstate, ?_, s.mem_positionsOf c.val⟩
    exact (congrArg (· != 0) hretire).trans (State.on_put_one s _ (by simp) rfl)

end Sys2Proof.Machine
end
